-- ==== Sys2Proof/Word.lean ====
section
/-! DEFINITION. The plain types of the model: bytes, the logical block, device coordinates, and the list that holds sparse data.
Numbering follows Table 0.2 of spec/00_scope.md. -/
namespace Sys2Proof

/-- One byte (R8: multi-byte values lie least significant byte first). -/
abbrev Byte := BitVec 8
/-- A 32-bit flag word. -/
abbrev Word32 := BitVec 32
/-- One logical block of 4,096 bytes (Table 1.7: the only block size). -/
abbrev LBlock := BitVec 32768
/-- A PCIe port, 0 to 3. -/
abbrev Port := Fin 4
/-- A bank or carrier, 00 to 15. -/
abbrev Bank := Fin 16
/-- A channel, 000 to 127. -/
abbrev Channel := Fin 128
/-- A die by its global number (Table 0.2: channel × 32 + target × 4 + die). -/
abbrev Die := Fin 4096
/-- Sparse data by key: keys strictly rising, no entry equal to what an unlisted key reads as. -/
abbrev SMap (α : Type) := List (Nat × α)

end Sys2Proof
end

