-- ==== Sys2Proof/Syntax.lean ====
section
/-! DEFINITION. The commands of the block: one constructor per row of spec/opcode_table.json. An operand carries what the outside
world brings with the command: a reading, a host structure's fields, the outcome of an electrical or cryptographic check. -/
namespace Sys2Proof

/-! ### What operands carry -/

/-- The reads of a tracking run (spec/04 R109, R110), a page of one plane as a number of 147,456 bits, cell 0 lowest: the five pages of the wordline at the
block's vector; the eight shifted reads of each page, from −7 to +7; and, at S0, the five pages of the wordline of each reference codeword. -/
structure WordlineReads where
  base : List Nat := []
  shifted : List (List Nat) := []
  refs : List (List Nat) := []
  deriving DecidableEq, Repr, Inhabited

/-- The reads of one codeword as it climbs the ladder (Table 8.3), numbers of 73,728 bits: the page read of L1; the tracking run's reads and the
page read after it (L2); the read at the vector and the shifted reads of a soft attempt of level 1 and of level 2 (Table 4.6). -/
structure CodewordReads where
  first : Nat := 0
  tracking : WordlineReads := {}
  second : Nat := 0
  soft1 : List Nat := []
  soft2 : List Nat := []
  deriving DecidableEq, Repr, Inhabited

/-- The reads of a wordline whose ten codewords are decoded (R116, R282), and the reads of its tracking run. -/
structure SampleReads where
  codewords : List CodewordReads := []
  tracking : WordlineReads := {}
  deriving DecidableEq, Repr, Inhabited

/-- What every NVMe command brings: port, queue, command identifier, NSID, and whether a reserved field is set or a data pointer type is
not accepted (R363, R380). Queue 0 is the admin queue. -/
structure HostCmd where
  port : Port := 0
  sqid : Nat := 0
  cid : Nat := 0
  nsid : Nat := 0
  reserved : Bool := false
  deriving DecidableEq, Repr, Inhabited

/-- The types of an SGL descriptor that Table 12.8 tells apart. -/
inductive SglKind | data | bitBucket | segment | lastSegment | keyed | transport
  deriving DecidableEq, Repr, Inhabited

/-- An SGL descriptor: its type, whether its sub type is address, and what it names. -/
structure SglDescriptor where
  kind : SglKind := .data
  byAddress : Bool := true
  address : Nat := 0
  bytes : Nat := 0
  deriving DecidableEq, Repr, Inhabited

/-- The data pointers of an I/O command as they are fetched (R380): its PRP entries, or with `sgl` the descriptor in the command and then each segment in the
order of the chain; its metadata pointer; and whether a fetch of host memory failed, which ends the list. -/
structure DataPointers where
  sgl : Bool := false
  prps : List Nat := []
  segments : List (List SglDescriptor) := []
  metadata : Nat := 0
  refused : Bool := false
  deriving DecidableEq, Repr, Inhabited

/-- What the landing of a write's data brings: the logical blocks and the metadata of each (as a number), its data pointers, the failure of its
protection checks, and the partly covered grains whose current data cannot be read. -/
structure Landing where
  data : List LBlock := []
  metas : List Nat := []
  pointers : DataPointers := {}
  fault : Option (Nat × Nat) := none
  unreadable : List Nat := []
  deriving DecidableEq, Repr, Inhabited

/-- The read of a peer for a reconstruction (R239 to R243): its bank, the reads of its codeword, of which a parity member has the hard read and level 1
alone, and whether the read timed out. Where its image is still held in DRAM, `image` brings that. -/
structure PeerReads where
  bank : Nat := 0
  reads : CodewordReads := {}
  timedOut : Bool := false
  image : Nat := 0
  deriving DecidableEq, Repr, Inhabited

/-- What the reads for a grain bring (R233): for each codeword that it occupies, in order, its own reads and those of its peers, and whether the read
timed out. A peer that is not listed was not read. -/
structure ArrayRead where
  codewords : List (CodewordReads × List PeerReads) := []
  timedOut : Bool := false
  deriving DecidableEq, Repr, Inhabited

/-- What the runs of a decompression engine meet for a grain: the bytes of its frames as its codewords gave them, where damage has gone undetected and they are
not those that were stored; the row of Table 7.6, 5 to 10, that the engine reports by a fault of its own, 0 for none, in the first run and in the second on
another engine; whether the verification reconstruction substituted a codeword, the bytes and the engine's fault then; and the failure of the protection checks or
of host memory that the delivery meets. -/
structure Inflated where
  bytes : Option (List Byte) := none
  slip : Nat := 0
  engine2 : Nat := 0
  slip2 : Nat := 0
  substituted : Bool := false
  again : Option (List Byte) := none
  slip3 : Nat := 0
  fault : Option (Nat × Nat) := none
  deriving DecidableEq, Repr, Inhabited

/-- What a LUN reports at bring-up (R86): its Read ID bytes, the ONFI revision, whether a copy of its parameter page passes its CRC, and whether
it states the geometry of Table 3.1. LUNs that are not reported report as the first one. -/
structure LunReport where
  die : Nat := 0
  id : List Byte := []
  revision : Nat := 0x0510
  crcGood : Bool := true
  geometry : Bool := true
  deriving DecidableEq, Repr, Inhabited

/-- The readings of one housekeeping round (Tables 15.14 and 15.15). -/
structure Round where
  /-- Converter counts of CTH of banks 00 to 15. -/
  cth : List Nat := []
  vsysMv : Nat := 0
  huSenseMv : Nat := 0
  /-- Channels 0x12 to 0x19 in mV. -/
  railsMv : List Nat := []
  /-- The 12 on-die sensors in °C. -/
  sensors : List Int := []
  deriving DecidableEq, Repr, Inhabited

/-- A media profile entry (Table 3.9). Its geometry fields are those of Table 3.1 in every entry that is accepted (R55). -/
structure ProfileEntry where
  idMatch : List Byte := []
  idMask : List Byte := []
  minOnfi : Nat := 0x0510
  rowCycles : Nat := 3
  pageLsb : Nat := 0
  blockLsb : Nat := 12
  lunLsb : Nat := 26
  maxRateCode : Nat := 1
  driveStrength : Nat := 0
  odt : Nat := 0
  flags : Nat := 1
  suspendLimit : Nat := 0
  tPowerUpMax : Nat := 1000
  tReadTyp : Nat := 0
  tReadMax : Nat := 0
  tCoarseTyp : Nat := 2000
  tCoarseMax : Nat := 2200
  tFineTyp : Nat := 6000
  tFineMax : Nat := 6400
  tEraseTyp : Nat := 0
  tEraseMax : Nat := 0
  tSuspendMax : Nat := 0
  ratedCycles : Nat := 0
  /-- Token costs in the order of Table 3.9. -/
  tokBase : Nat := 40
  tokPowerUp : Nat := 1200
  tokPowerUpMs : Nat := 100
  tokRead : Nat := 6
  tokCoarse : Nat := 8
  tokFine : Nat := 10
  tokErase : Nat := 7
  tokXferLow : Nat := 3
  tokXferHigh : Nat := 4
  /-- Opcode slots: function code and its three opcode bytes. -/
  opcodes : List (Nat × List Byte) := []
  /-- Feature slots: feature function and Set Features address. -/
  features : List (Nat × Nat) := []
  readOffsetStepMv : Nat := 0
  readOffsetMin : Int := 0
  readOffsetMax : Int := 0
  readOffsetBase : Nat := 0
  deriving DecidableEq, Repr, Inhabited

/-- The option area payload (Table 20.3). -/
structure OaPayload where
  generation : Nat := 1
  serial : List Byte := []
  subVendor : Nat := 0x1E6B
  subId : Nat := 0x0001
  oui : Nat := 0
  vpd : List Byte := []
  /-- Totals of ledgers 0x02 to 0x08, in order. -/
  totals : List Nat := []
  deriving DecidableEq, Repr, Inhabited

/-- A firmware component (Table 20.4): what its header states, whether its public key hashes to the fused digest of its signing key and
its signature verifies, and its payload where that is a media profile or an option area. -/
structure Component where
  present : Bool := false
  version : Nat := 0
  securityVersion : Nat := 0
  declaredMin : Nat := 0
  signingKey : Nat := 0
  revokeKeys : Nat := 0
  /-- Magic, format version and code are correct. -/
  headerOk : Bool := true
  keyOk : Bool := true
  signatureOk : Bool := true
  /-- ImageLength, in bytes. -/
  length : Nat := 512
  /-- Compatibility entries: component code, lowest and highest version. -/
  compat : List (Nat × Nat × Nat) := []
  /-- MF only: lowest settings version read and version written. -/
  settingsFrom : Nat := 1
  settingsWritten : Nat := 1
  /-- MP only: the profile's header and entry CRCs, magic and format version are correct; its entries. -/
  profileOk : Bool := true
  entries : List ProfileEntry := []
  /-- OA only. -/
  payload : OaPayload := {}
  deriving DecidableEq, Repr, Inhabited

/-- A verification failure of the code store (R579): block; 1 program, 2 erase; whether the repetition succeeded. -/
structure StoreFailure where
  block : Nat := 0
  kind : Fin 2 := 0
  recovered : Bool := true
  deriving DecidableEq, Repr, Inhabited

/-- What the code store does with a write of the dictionary: for the entries in the active and in the other settings copy, 0 when they
verify, 1 when they do after a compaction, 2 when they fail again, with the number of the entry that fails (R411); and, for RecoveryChunk, the header that a chunk at offset 0
carries, the bytes of the HK buffer programmed since the last chunk, and the failures of their programming. -/
structure StoreOutcome where
  active : Fin 3 := 0
  other : Fin 3 := 0
  entry : Nat := 0
  header : Option (Nat × Component) := none
  drained : Nat := 0
  failures : List StoreFailure := []
  deriving DecidableEq, Repr, Inhabited

/-- The head of a dictionary request over CAN (Table 14.3): tag, index, subindex and Length; whether the frame is shorter than its layout,
and whether a reserved field is nonzero. -/
structure CanRequest where
  tag : Nat := 0
  index : Nat := 0
  sub : Nat := 0
  length : Nat := 0
  short : Bool := false
  reserved : Bool := false
  deriving DecidableEq, Repr, Inhabited

/-- The writable fields of a port's configuration space that are not fields of `PortState` of their own (Tables 11.2, 11.5, R340, R341, R350):
Command, BAR0, Interrupt Line, Device Control, Device Control 2, Link Control, and the masks and severity of Advanced Error Reporting. -/
structure PortConfig where
  mse : Bool := false
  parityResponse : Bool := false
  serrEnable : Bool := false
  interruptDisable : Bool := false
  interruptLine : Nat := 0
  bar0 : Nat := 0
  /-- Max_Payload_Size and Max_Read_Request_Size codes: 128 bytes shifted left by the code. -/
  mps : Nat := 0
  mrrs : Nat := 2
  relaxed : Bool := true
  noSnoop : Bool := true
  extendedTag : Bool := false
  tenBitTag : Bool := false
  completionTimeout : Nat := 0
  timeoutDisable : Bool := false
  ltrEnable : Bool := false
  /-- ASPM Control: L1 is enabled. L0s is not supported (R350). -/
  aspmL1 : Bool := false
  uncorrectableMask : Nat := 0x400000
  uncorrectableSeverity : Nat := 0x462030
  correctableMask : Nat := 0xE000
  deriving DecidableEq, Repr, Inhabited

/-- The errors of Table 11.8 that TLP_ERROR reports. -/
inductive PcieError
  | receiver | badTlp | badDllp | replayTimeout | replayRollover | correctedInternal | headerLogOverflow
  | poisonedCompletion | completionRefused | poisonedWrite | ecrc | unexpectedCompletion
  | malformed | receiverOverflow | flowControl | dataLink | unsupportedRequest
  deriving DecidableEq, Repr, Inhabited

/-- A complement-protected value that mismatches (spec/01 R26, R27): its row of Table 1.5, its location as COMPLEMENT_MISMATCH gives it, and
0 where the secondary copy is good, 1 where both copies fail, 2 where the block header that rebuilds a block table entry fails as well. -/
structure Mismatch where
  row : Nat := 0
  location : Nat := 0
  level : Fin 3 := 0
  /-- Codeword 0 of the block as read, where both copies of a block table entry fail. -/
  read : Nat := 0
  deriving DecidableEq, Repr, Inhabited

/-- What a reset release meets (spec/20 R578 to R593, spec/21 R610). -/
structure BootInputs where
  /-- RECOV_N reads low; PORTCFG[1:0]. -/
  recovLow : Bool := false
  portcfg : Fin 4 := 0
  /-- Code-store blocks whose erase the loss of power cut off (R578). -/
  cutErases : List Nat := []
  /-- Option-area copies A and B that fail their checks beyond the header's, and whether a complement pair is the cause (R582). -/
  oaBadA : Bool := false
  oaBadB : Bool := false
  pairFault : Bool := false
  /-- Neither copy of the boot control record holds a valid entry (R588). -/
  bootBad : Bool := false
  /-- Slots whose activation fails (R591). -/
  slotFails : List Nat := []
  /-- Settings copies A and B without a valid header. -/
  settingsBadA : Bool := false
  settingsBadB : Bool := false
  /-- Settings copies with a torn record (true for B), and how many group records stand before it (R409). -/
  torn : List (Bool × Nat) := []
  mismatches : List Mismatch := []
  /-- DRAM present, in GiB, and the DDR5 channel that fails its training. -/
  dram : Nat := 384
  dramFailed : Option Nat := none
  deriving DecidableEq, Repr, Inhabited

/-- What a control epoch brings beside the passing of 1 ms: the epoch copy of R508 and the comparison of R517, and what the blocks that run
without commands of their own have come to: the boot, and the wake's reading of superblock, checkpoint, directory, journal and logbook. -/
structure EpochInputs where
  /-- Lines of core data memory written, whether the copy is whole, and whether the output CRCs of the complexes agree. -/
  lines : Nat := 0
  copyGood : Bool := true
  crcEqual : Bool := true
  /-- M3: the boot is complete. -/
  bootComplete : Bool := false
  /-- M4: the superblock is selected (R94); the anchor groups, bank × 2 + side, whose copy is bad. -/
  superblock : Option (List Nat) := none
  /-- M4: the roles of the checkpoint frames that are not valid (Table 5.14). -/
  checkpointBad : List Nat := []
  /-- M4: the directory is loaded and the journal followed (Table 5.14, step 5); the pages, by slot, that are mismatched in both snapshots. -/
  directory : Option (List (Nat × Nat)) := none
  /-- The journal copies that are not valid, by FirstSequence and copy (true the second); the locations after the last valid frame do not read as erased
  (R172). -/
  journalBad : List (Nat × Bool) := []
  dirtyEnd : Bool := false
  /-- The group-log copies that are not valid, by FirstOpenSequence and copy (R257). -/
  groupLogBad : List (Nat × Bool) := []
  /-- M4: the flash logbook's index is complete; the frames, by FirstSequence, that do not read as valid, and whether the location after the last valid one
  does not read as erased (R566). -/
  logIndex : Bool := false
  logBad : List Nat := []
  logDirty : Bool := false
  /-- Key-area entries, by key slot, that do not unwrap from copy A, or from copy B (true). -/
  keyFaults : List (Nat × Bool) := []
  /-- Map lines, by slot and line, that DRAM holds with a failing CRC (R143), or that the cache SRAM reports as uncorrectable (true). -/
  lineErrors : List (Nat × Nat × Bool) := []
  /-- Mismatched pairs that some reader meets in this epoch, and those that no reader has met yet. -/
  mismatches : List Mismatch := []
  damaged : List Mismatch := []
  deriving DecidableEq, Repr, Inhabited

/-- The commands. Each docstring gives the row's mnemonic and main rule. -/
inductive Instr
  /-- VSYS_RISE (R40). VSYS rises above the reset threshold; where the counters are loaded then, the counter images that fail: 1 image A, 2 both. -/
  | vsysRise (fault : Fin 3)
  /-- VSYS_RESET_FALL (R615). VSYS falls below the reset threshold, or is absent. -/
  | vsysResetFall (absent : Bool)
  /-- POWER_ON_RESET_RELEASE (R609). NODEID as sampled, and as for VSYS_RISE the counter images that fail. -/
  | powerOnResetRelease (nodeId : Nat) (fault : Fin 3)
  /-- RESET_RELEASE (R609). What the release meets. -/
  | resetRelease (boot : BootInputs)
  /-- PERST_ASSERT (R54). PERST# is asserted. -/
  | perstAssert
  /-- SUPPLY_WARNING (R463). VSYS falls through the warning level. -/
  | supplyWarning
  /-- RECOVERY_COMPARATOR_TRIP (R464). VSYS rises through the recovery level. -/
  | recoveryComparatorTrip
  /-- SAG_RECOVERY_QUALIFIED (R464). VSYS has stayed above the recovery level for 20 ms. -/
  | sagRecoveryQualified
  /-- HOLD_UP_FLUSH_COMPLETE (R42). The running hold-up flush ends. -/
  | holdUpFlushComplete
  /-- CS_WP_N_CHANGE (R612). CS_WP_N has held a level for 10 µs. -/
  | csWpNChange (low : Bool)
  /-- HOUSEKEEPING_ROUND (R474). The readings of a round. -/
  | housekeepingRound (round : Round)
  /-- THROTTLE_LEVEL_RISE (R481). The running 5 s of die throttling end. -/
  | throttleLevelRise
  /-- HOLDUP_CHARGE_TIMEOUT (R467). 120 s have passed since HU_CHG_EN rose. -/
  | holdupChargeTimeout
  /-- HOLDUP_TEST_DUE (R468). A test that is due starts. -/
  | holdupTestDue
  /-- HOLDUP_TEST_REQUEST (R468). A write of HoldUpTestRequest by an access path. -/
  | holdupTestRequest (path value : Nat)
  /-- HOLDUP_TEST_BASELINE (R469). The mean of 16 samples, in mV. -/
  | holdupTestBaseline (v0 : Nat)
  /-- HOLDUP_TEST_SAMPLE (R469). A sample, in mV. -/
  | holdupTestSample (mv : Nat)
  /-- HOLDUP_TEST_END (R471). Step 5 of Table 15.12. -/
  | holdupTestEnd
  /-- PACE_MEASURE (R461). Handshakes of the reference ring in the last ms; whether work is queued in a core block. -/
  | paceMeasure (count : Nat) (work : Bool)
  /-- VID_STEP (R460). The code moves by a step towards its target. -/
  | vidStep
  /-- CONTROL_EPOCH (R508). What the epoch brings. -/
  | controlEpoch (epoch : EpochInputs)
  /-- GOVERNOR_INJECTION_TEST (R509). The governor's dual-rail report of the inverted comparison. -/
  | governorInjectionTest (report : Nat)
  /-- MISSED_EPOCH (R510). The complex in control has not acknowledged the epoch. -/
  | missedEpoch
  /-- GOVERNOR_MISMATCH (R511). A mismatch on an output of the complex in control. -/
  | governorMismatch
  /-- NON_CODE_REPORT (R507). A non-code report of its governor. -/
  | nonCodeReport
  /-- CORE_MEMORY_UNCORRECTABLE (R511). An uncorrectable error in its core data memory. -/
  | coreMemoryUncorrectable
  /-- TAKEOVER_OUTPUTS_REACHED (R512). Steps 3 to 5: whether the output CRCs agree, and the µs since step 1. -/
  | takeoverOutputsReached (crcEqual : Bool) (micros : Nat)
  /-- TAKEOVER_STEP_TIMEOUT (R513). Step 3 is not reached within its bound. -/
  | takeoverStepTimeout
  /-- SWITCHOVER_INCONSISTENT (R514). The condition of Table 17.5. -/
  | switchoverInconsistent (code : Nat)
  /-- PRIMARY_RESET_HOLD_EXPIRY (R516). The 1 ms of reset are over. -/
  | primaryResetHoldExpiry
  /-- PRIMARY_SELF_TEST_DONE (R516). Result and duration. -/
  | primarySelfTestDone (pass : Bool) (ms : Nat)
  /-- STANDBY_SELF_TEST_DONE (R520). Result and duration. -/
  | standbySelfTestDone (pass : Bool) (ms : Nat)
  /-- STANDBY_RETENTION_IDLE (R521). CPX-P has processed no input for StandbyRetentionIdleMs. -/
  | standbyRetentionIdle
  /-- STANDBY_WAKE_INPUT (R521). An input arrives; whether a retained core data memory is intact. -/
  | standbyWakeInput (memOk : Bool)
  /-- DOMAIN_ENTRY_REQUEST (R456). A domain's rule asks for entry; the code of the block that refuses, or 0. -/
  | domainEntryRequest (dd : Nat) (retention : Bool) (refuser : Nat)
  /-- DOMAIN_ENTRY_COMMIT (R456). Step 4 of Table 15.4. -/
  | domainEntryCommit (dd : Nat)
  /-- DOMAIN_ENTRY_ABORT (R458). A wake or the mode's floor cuts an entry off. -/
  | domainEntryAbort (dd : Nat)
  /-- DOMAIN_WAKE (R459). A wake source; whether a kept bank shows an uncorrectable error. -/
  | domainWake (dd : Nat) (error : Bool)
  /-- CARRIER_INSERTION (R313). A bank's carrier. -/
  | carrierInsertion (bank : Bank)
  /-- CARRIER_REMOVAL (R321). A bank's carrier. -/
  | carrierRemoval (bank : Bank)
  /-- POWER_GOOD_LOST (R309). A bank's carrier. -/
  | powerGoodLost (bank : Bank)
  /-- PGOOD_TIMEOUT (R309). A bank's carrier. -/
  | pgoodTimeout (bank : Bank)
  /-- ATTENTION_BUTTON_PRESS (R318). A bank's carrier. -/
  | attentionButtonPress (bank : Bank)
  /-- ABORT_WINDOW_EXPIRY (R318). A bank's carrier. -/
  | abortWindowExpiry (bank : Bank)
  /-- EVACUATION_COMPLETE (R320). The bank that evacuates. -/
  | evacuationComplete (failed : List Nat)
  /-- CARRIER_REQUEST_REMOVAL (R318). A write of CarrierCommand by an access path. -/
  | carrierRequestRemoval (path : Nat) (bank : Bank)
  /-- CARRIER_CANCEL_REMOVAL (R319). A write of CarrierCommand by an access path. -/
  | carrierCancelRemoval (path : Nat) (bank : Bank)
  /-- CARRIER_POWER_ON (R313). A write of CarrierCommand by an access path. -/
  | carrierPowerOn (path : Nat) (bank : Bank)
  /-- CARRIER_ADOPT (R315). A write of CarrierCommand by an access path. -/
  | carrierAdopt (path : Nat) (bank : Bank)
  /-- CARRIER_RETRY_POWER_FAULT (R313). A write of CarrierCommand by an access path. -/
  | carrierRetryPowerFault (path : Nat) (bank : Bank)
  /-- CHANNEL_BRING_UP (R67). Step 1 of Table 3.3 for a bank's channels. -/
  | channelBringUp (bank : Bank)
  /-- PGOOD_RISE (R67). Step 2. -/
  | pgoodRise (bank : Bank)
  /-- DIE_POWER_ON_ELAPSED (R67). Step 3. -/
  | diePowerOnElapsed (bank : Bank)
  /-- TARGET_RESET_READY (R67). Steps 4 and 5: the targets that answer on each of the bank's channels, as a mask, and what the LUNs report. -/
  | targetResetReady (bank : Bank) (present : List Nat) (reports : List LunReport)
  /-- CHANNEL_TRAINING_DONE (R69). Steps 6 to 8: the rate code at which training succeeds, and the DeviceInstance and newest generation on the carrier's anchors. -/
  | channelTrainingDone (channel : Channel) (reached : Option Nat) (anchor : Option (Nat × Nat))
  /-- CARRIER_JOINED (R316). The end of joining; the reference offsets of the bank's dies in order. -/
  | carrierJoined (bank : Bank) (refOffsets : List (List Int)) (failed : List Nat)
  /-- ZQ_CALIBRATION_SHORT (R70). A channel. -/
  | zqCalibrationShort (channel : Channel)
  /-- READY_BUSY_RISE (R63). A channel; the dies still busy when it is polled. -/
  | readyBusyRise (channel : Channel) (busy : List Nat)
  /-- STATUS_POLL (R63). The operation outstanding (1 read, 2 coarse, 3 fine, 4 erase) and the µs it has run. -/
  | statusPoll (die : Die) (slot : Fin 2) (op elapsedUs : Nat) (busy : Bool)
  /-- SUSPEND_TIMEOUT (R67). The operation (2 coarse, 3 fine, 4 erase) whose suspension takes longer than TSuspendMax. -/
  | suspendTimeout (die : Die) (slot : Fin 2) (op : Nat)
  /-- READ_SUSPEND (R66). The operation (2 coarse, 3 fine, 4 erase) that a read meets. -/
  | readSuspend (die : Die) (op : Nat)
  /-- PROGRAM_PASS_COMPLETE (R71). The pass that is due on the die's open group (0 host data, 1 moved data) ends; the planes that fail. -/
  | programPassComplete (die : Die) (slot : Fin 2) (failed : List Nat)
  /-- ERASE_COMPLETE (R75). The planes that fail or time out. -/
  | eraseComplete (die : Die) (slot : Fin 2) (failed : List Nat)
  /-- GROUP_ERASE_STALE (R75). 60 s have passed since the group's erase. -/
  | groupEraseStale (die : Die) (slot : Fin 2)
  /-- ARRAY_READ_COMPLETE (R236). A grain of a read, by the read's number. -/
  | arrayReadComplete (id grain : Nat) (result : ArrayRead)
  /-- TOKEN_REQUEST (R485). An operation of a bank asks for tokens; `flush` marks a request of a hold-up flush. -/
  | tokenRequest (bank : Bank) (amount : Nat) (flush : Bool)
  /-- TOKEN_GRANT (R490). The arbiter serves the next waiting request. -/
  | tokenGrant
  /-- TOKEN_RETURN (R486). An operation of a bank returns tokens. -/
  | tokenReturn (bank : Bank) (amount : Nat)
  /-- TOKEN_GUARD_ENGAGE (R490). The bank's oldest request has waited 10 ms. -/
  | tokenGuardEngage (bank : Bank)
  /-- POWER_UP_TOKENS_RETURN (R79). TokPowerUpMs after the bank's PEN rose. -/
  | powerUpTokensReturn (bank : Bank)
  /-- TOKEN_POOL_SIZE_WRITE (R488). A write of TokenPoolSize by an access path. -/
  | tokenPoolSizeWrite (path value : Nat) (out : StoreOutcome)
  /-- POOL_REQUEST (R492). An owner asks for a buffer of a size; `standing` marks a placement buffer (R495). -/
  | poolRequest (owner size : Nat) (standing : Bool)
  /-- POOL_RETRY (R493). The back-off of the owner's wait in a pool (ledger code 2 to 5) ends. -/
  | poolRetry (owner pool : Nat)
  /-- BUFFER_RETURN (R487). An owner returns a buffer of a pool (ledger code 2 to 5). -/
  | bufferReturn (owner pool index : Nat)
  /-- BUFFER_HELD_LONG (R496). The age audit looks at an owner. -/
  | bufferHeldLong (owner : Nat)
  /-- FABRIC_CREDIT_RETURN (R498). The receiver of a link has drained one transfer. -/
  | fabricCreditReturn (link : Nat)
  /-- FRESH_READ (R116). The reads of the ten codewords and of the tracking run, and of each page the eight shifted reads of the capacity read, from −8 to +8. -/
  | freshRead (block wordline : Nat) (reads : SampleReads) (capacity : List (List Nat))
  /-- FORM_PLANE_GROUP (R57). The die's next open group is formed. -/
  | formPlaneGroup (die : Die) (slot : Fin 2)
  /-- WEAR_SLOPE_RECOMPUTE (R119). -/
  | wearSlopeRecompute
  /-- ETA_QUERY_BLOCK (R125). A write of the object by an access path. -/
  | etaQueryBlock (path value : Nat)
  /-- ETA_REPORT_UPDATE (R126). -/
  | etaReportUpdate
  /-- MAP_LOOKUP (R140). A lookup of a read stream (port, queue and NSID numbered as one). -/
  | mapLookup (stream slot grain : Nat)
  /-- PLACE (R149). A grain in flight, by its number. -/
  | place (id : Nat)
  /-- RELOCATE (R146). A relocated grain in flight, by its number. -/
  | relocate (id : Nat)
  /-- UNMAP (R146). Grains of a slot. -/
  | unmap (slot first count : Nat)
  /-- MARK_LOST (R146). A grain, and the pointer into the lost stripe. -/
  | markLost (slot grain pointer : Nat)
  /-- REGION_RESET (R146). Every entry of a slot. -/
  | regionReset (slot : Nat)
  /-- MAP_CACHE_ENABLE (R156). A write of 0x01 by an access path. -/
  | mapCacheEnable (path : Nat)
  /-- MAP_CACHE_DISABLE (R156). A write of 0x02 by an access path. -/
  | mapCacheDisable (path : Nat)
  /-- MAP_CACHE_INVALIDATE (R156). A write of 0x03 by an access path. -/
  | mapCacheInvalidate (path : Nat)
  /-- MAP_PAGE_LOAD (R173). The page's image arrives; `readable` tells whether it could be read, after reconstruction, `bad` the lines
  of it whose CRC fails. -/
  | mapPageLoad (slot page : Nat) (readable : Bool) (bad : List Nat)
  /-- BACKGROUND_LOAD (R175). The loader's next page; `readable` and `bad` as for a page load. -/
  | backgroundLoad (readable : Bool) (bad : List Nat)
  /-- MAP_LINE_RELOADED (R176). A line has failed its CRC; `good` tells whether the reload succeeds. -/
  | mapLineReloaded (slot line : Nat) (good : Bool)
  /-- JOURNAL_FRAME_SEAL (R161). The copies that program. -/
  | journalFrameSeal (copy1 copy2 : Bool)
  /-- JOURNAL_SEAL_TIMEOUT (R161). The copies that program. -/
  | journalSealTimeout (copy1 copy2 : Bool)
  /-- CHECKPOINT_START (R168). -/
  | checkpointStart
  /-- CHECKPOINT_INTERVAL (R168). -/
  | checkpointInterval
  /-- CHECKPOINT_SUPERBLOCK (R167). Everything of steps 2 to 4 is on the medium. -/
  | checkpointSuperblock (failed : List Nat)
  /-- SUPERBLOCK_WRITE (R91). The anchor sides that fail to program, as bank × 2 + side. -/
  | superblockWrite (failed : List Nat)
  /-- DATA_LANDED (R501). The write, by its number. -/
  | dataLanded (id : Nat) (landing : Landing)
  /-- GRAIN_COMPRESSED (R214). A grain in flight, by its number; the engine that ends it, and whether a fault makes its inflater disagree (R213). -/
  | grainCompressed (id : Nat) (engine : Fin 8) (disagrees : Bool)
  /-- ROW_GATHERED (R188). The stripe's lowest row that is not gathered. -/
  | rowGathered (stripe : Nat)
  /-- ROW_CLOSE_TIMEOUT (R193). The stripe, by its StripeId. -/
  | rowCloseTimeout (stripe : Nat)
  /-- STRIPE_OPEN (R184). 0 host, 1 moved, 2 system. -/
  | stripeOpen (kind : Fin 3)
  /-- WRITE_COMPLETION (R196). The write, by its number. -/
  | writeCompletion (id : Nat)
  /-- GRAIN_DECOMPRESS (R221). A grain of a read, by the read's number. -/
  | grainDecompress (id grain : Nat) (engine : Fin 16) (result : Inflated)
  /-- VICTIM_SELECT (R263). The footers, by block, that do not read as they were written. -/
  | victimSelect (footers : List (Nat × List Byte))
  /-- GRAIN_RELOCATE (R261). The next live grain of the victim, and the reads for it. -/
  | grainRelocate (read : ArrayRead)
  /-- PINNED_RETRY (R262). A pinned stripe; the reads for its pinned grains, by slot and grain. -/
  | pinnedRetry (stripe : Nat) (reads : List (Nat × Nat × ArrayRead))
  /-- RELEASE_RECONCILE (R259). A block; its footer's bytes where it does not read as written, none of them where its frames do not decode. -/
  | releaseReconcile (block : Nat) (footer : Option (List Byte))
  /-- STRIPE_RELEASE (R260). A stripe. -/
  | stripeRelease (stripe : Nat)
  /-- WEAR_LEVELLING_CHECK (R270). -/
  | wearLevellingCheck (die : Die)
  /-- BLOCK_TABLE_WRITE (R256). -/
  | blockTableWrite
  /-- GAUGE_SCAN (R273). The reads of the repeated trackings of the eight wordlines. -/
  | gaugeScan (die : Die) (runs : List (List WordlineReads))
  /-- GAUGE_SCAN_INTERVAL (R274). The reads of the scan of each die. -/
  | gaugeScanInterval (scans : List (Nat × List (List WordlineReads)))
  /-- GAUGE_REFRESH (R277). The reads of the scan, and the planes whose gauge block fails to erase, or to program. -/
  | gaugeRefresh (die : Die) (runs : List (List WordlineReads)) (eraseFailed programFailed : List Nat)
  /-- SCRUB (R282). The reads of the tracking run, and the five pages read again after it. -/
  | scrub (block : Nat) (first : WordlineReads) (again : List Nat)
  /-- NEXT_WAKE_COMPUTE (R285). -/
  | nextWakeCompute
  /-- NEXT_WAKE_DUE_REACHED (R349). -/
  | nextWakeDueReached
  /-- RESTRIPE (R297). The next live grain of the set, the reads for it, and whether, unrecovered, its identity can then still be read. -/
  | restripe (read : ArrayRead) (known : Bool)
  /-- MAP_SWEEP (R303). -/
  | mapSweep
  /-- LOST_RANGE_APPEND (R306). -/
  | lostRangeAppend
  /-- LINK_UP (R325). A port reaches L0: rate code 1 to 5, and lanes in use. -/
  | linkUp (port : Port) (rate width : Nat)
  /-- LINK_DOWN (R344). A port's data link goes down. -/
  | linkDown (port : Port)
  /-- HOT_RESET (R344). A hot reset is received. -/
  | hotReset (port : Port)
  /-- FUNCTION_LEVEL_RESET (R345). A write of Initiate Function Level Reset. -/
  | functionLevelReset (port : Port)
  /-- LINK_DETECT_RETRY (R346). A port returns to Detect; whether it finds a partner and starts to train. -/
  | linkDetectRetry (port : Port) (found : Bool)
  /-- POWER_STATE_WRITE (R347). A configuration write of the power management control and status register: PowerState [1:0], PME_En [8], PME_Status [15] cleared by 1. -/
  | powerStateWrite (port : Port) (value : Nat)
  /-- PME_TURN_OFF (R348). A PME_Turn_Off message. -/
  | pmeTurnOff (port : Port)
  /-- WAKE_N_RELEASE (R349). WAKE_N of a port. -/
  | wakeNRelease (port : Port)
  /-- ASPM_L1_ENTRY (R350). The time without a TLP or DLLP pending, in µs. -/
  | aspmL1Entry (port : Port) (idleUs : Nat)
  /-- MSIX_UNMASK (R333). The vector whose own mask bit is cleared, or none where the Function Mask is. -/
  | msixUnmask (port : Port) (vector : Option Nat)
  /-- TLP_ERROR (R341). The error, the first doubleword of its header, and the submission queue and identifier of the command whose host memory read it ends. -/
  | tlpError (port : Port) (error : PcieError) (header : Nat) (cmd : Option (Nat × Nat))
  /-- COMPLETION_TIMEOUT (R340). A host memory read that has waited for its completion; operands as for TLP_ERROR. -/
  | completionTimeout (port : Port) (elapsedUs header : Nat) (cmd : Option (Nat × Nat))
  /-- BUS_MASTER_HOLD_TIMEOUT (R339). The command whose transfer has been held for 1 s. -/
  | busMasterHoldTimeout (port : Port) (sqid cid : Nat)
  /-- VPD_READ (R331). A write of the VPD address with F = 0. -/
  | vpdRead (port : Port) (address : Nat)
  /-- VPD_WRITE (R331). A write of the VPD address with F = 1. -/
  | vpdWrite (port : Port) (address : Nat)
  /-- CONTROLLER_ENABLE (R357). A write of CC with EN = 1, and what AQA holds. -/
  | controllerEnable (port : Port) (cc aqa : Nat)
  /-- CONTROLLER_DISABLE (R358). A write of CC with EN = 0. -/
  | controllerDisable (port : Port)
  /-- SHUTDOWN_NOTIFICATION (R48). A write of CC.SHN. -/
  | shutdownNotification (port : Port)
  /-- SHUTDOWN_PROCESSING_COMPLETE (R48). The work of R48 or R49 ends. -/
  | shutdownProcessingComplete
  /-- SQ_TAIL_DOORBELL (R361). Submission queue and new tail. -/
  | sqTailDoorbell (port : Port) (sqid tail : Nat)
  /-- CQ_HEAD_DOORBELL (R361). Completion queue and new head. -/
  | cqHeadDoorbell (port : Port) (cqid head : Nat)
  /-- KEEP_ALIVE_EXPIRED (R365). The time of the Keep Alive Timer feature has passed. -/
  | keepAliveExpired (port : Port)
  /-- CREATE_IO_SQ (R359). Queue ID, size (0's based), completion queue, PC. -/
  | createIoSq (cmd : HostCmd) (qid size cqid : Nat) (contiguous : Bool)
  /-- CREATE_IO_CQ (R359). Queue ID, size (0's based), interrupt vector, PC, IEN. -/
  | createIoCq (cmd : HostCmd) (qid size vector : Nat) (contiguous interrupts : Bool)
  /-- DELETE_IO_SQ (R359). Queue ID. -/
  | deleteIoSq (cmd : HostCmd) (qid : Nat)
  /-- DELETE_IO_CQ (R359). Queue ID. -/
  | deleteIoCq (cmd : HostCmd) (qid : Nat)
  /-- GET_LOG_PAGE (R383). Log Page Identifier, offset and length in bytes, Retain Asynchronous Event, Create Telemetry Host-Initiated Data. -/
  | getLogPage (cmd : HostCmd) (lid offset bytes : Nat) (retain create : Bool)
  /-- IDENTIFY (R368). CNS, CNTID and CSI. -/
  | identify (cmd : HostCmd) (cns cntid csi : Nat)
  /-- ABORT (R364). The command to abort. -/
  | abort (cmd : HostCmd) (sqid cid : Nat)
  /-- SET_FEATURES (R370). Feature Identifier, Save, CDW11, and the data as a number where the feature takes data. -/
  | setFeatures (cmd : HostCmd) (fid : Nat) (save : Bool) (value data : Nat)
  /-- GET_FEATURES (R370). Feature Identifier, Select, CDW11. -/
  | getFeatures (cmd : HostCmd) (fid select value : Nat)
  /-- ASYNC_EVENT_REQUEST (R387). An Asynchronous Event Request. -/
  | asyncEventRequest (cmd : HostCmd)
  /-- NAMESPACE_CREATE (R373). The fields that R373 names. -/
  | namespaceCreate (cmd : HostCmd) (nsze ncap flbas dps nmic parity : Nat)
  /-- NAMESPACE_DELETE (R375). A namespace, or every one with NSID FFFFFFFFh. -/
  | namespaceDelete (cmd : HostCmd)
  /-- NAMESPACE_ATTACH (R373). The controller list. -/
  | namespaceAttach (cmd : HostCmd) (controllers : List Nat)
  /-- NAMESPACE_DETACH (R375). The controller list. -/
  | namespaceDetach (cmd : HostCmd) (controllers : List Nat)
  /-- FIRMWARE_IMAGE_DOWNLOAD (R587). A piece in bytes; the component code and header that a piece with offset 0 carries, none where malformed; in M2 the failures of its programming. -/
  | firmwareImageDownload (cmd : HostCmd) (offset bytes : Nat) (header : Option (Nat × Component)) (failures : List StoreFailure)
  /-- FIRMWARE_COMMIT_REPLACE (R589). -/
  | firmwareCommitReplace (cmd : HostCmd) (slot : Nat)
  /-- FIRMWARE_COMMIT_ACTIVATE (R589). -/
  | firmwareCommitActivate (cmd : HostCmd) (slot : Nat)
  /-- FIRMWARE_COMMIT_SELECT (R589). -/
  | firmwareCommitSelect (cmd : HostCmd) (slot : Nat)
  /-- FIRMWARE_COMMIT_IMMEDIATE (R366). -/
  | firmwareCommitImmediate (cmd : HostCmd) (slot : Nat)
  /-- FIRMWARE_COMMIT_DONE (R589). The commit that is being programmed; the verification failures on its way. -/
  | firmwareCommitDone (failures : List StoreFailure)
  /-- KEEP_ALIVE (R365). A Keep Alive command. -/
  | keepAlive (cmd : HostCmd)
  /-- FORMAT_NVM (R376). LBA format with bit 4 for extended metadata, protection settings, Secure Erase Settings. -/
  | formatNvm (cmd : HostCmd) (flbas dps ses : Nat)
  /-- SANITIZE_BLOCK_ERASE (R547). With Allow Unrestricted Sanitize Exit. -/
  | sanitizeBlockErase (cmd : HostCmd) (ause : Bool)
  /-- SANITIZE_CRYPTO_ERASE (R547). With Allow Unrestricted Sanitize Exit. -/
  | sanitizeCryptoErase (cmd : HostCmd) (ause : Bool)
  /-- SANITIZE_EXIT_FAILURE (R550). -/
  | sanitizeExitFailure (cmd : HostCmd)
  /-- SANITIZE_OVERWRITE (R367). -/
  | sanitizeOverwrite (cmd : HostCmd)
  /-- SANITIZE_COMPLETE (R547). The step reached ends; whether it cannot complete (R550), and the blocks whose erase fails (R548). -/
  | sanitizeComplete (failed : Bool) (eraseFailed : List Nat)
  /-- DICTIONARY_WRITE (R388). Index, subindex and value. -/
  | dictionaryWrite (cmd : HostCmd) (index sub : Nat) (value : List Byte) (out : StoreOutcome)
  /-- DICTIONARY_READ (R388). Index, subindex and buffer length. -/
  | dictionaryRead (cmd : HostCmd) (index sub bytes : Nat)
  /-- AUTHORISE_CHALLENGE (R539). Key slot, operation and argument. -/
  | authoriseChallenge (cmd : HostCmd) (slot op arg : Nat)
  /-- AUTHORISE_RESPOND (R541). Key slot, operation, argument and nonce, and the 32 bytes of the response. -/
  | authoriseRespond (cmd : HostCmd) (slot op arg nonce : Nat) (response : List Byte)
  /-- FLUSH (R198). Flush of a namespace, or of all with NSID FFFFFFFFh. -/
  | flush (cmd : HostCmd)
  /-- WRITE (R179). Logical blocks `slba` to `slba + nlb − 1`. -/
  | write (cmd : HostCmd) (slba nlb : Nat) (fua : Bool)
  /-- READ (R228). With Force Unit Access and Limited Retry; the failure of its data pointers, where they fail at once. -/
  | read (cmd : HostCmd) (slba nlb : Nat) (fua limited : Bool) (pointers : DataPointers)
  /-- WRITE_ZEROES (R182). As a Write; the partly covered grains whose current data cannot be read. -/
  | writeZeroes (cmd : HostCmd) (slba nlb : Nat) (fua : Bool) (unreadable : List Nat)
  /-- DATASET_MANAGEMENT (R182). Ranges of logical blocks, and the AD attribute. -/
  | datasetManagement (cmd : HostCmd) (ranges : List (Nat × Nat)) (deallocate : Bool)
  /-- VERIFY (R228). As a Read that moves no data. -/
  | verify (cmd : HostCmd) (slba nlb : Nat) (limited : Bool)
  /-- RESERVATION_REGISTER (R377). RREGA, IEKEY, CPTPL, CRKEY, NRKEY. -/
  | reservationRegister (cmd : HostCmd) (action : Nat) (ignoreKey : Bool) (cptpl current new : Nat)
  /-- RESERVATION_REPORT (R377). EDS and the length in bytes. -/
  | reservationReport (cmd : HostCmd) (extended : Bool) (bytes : Nat)
  /-- RESERVATION_ACQUIRE (R378). RACQA, IEKEY, RTYPE, CRKEY, PRKEY. -/
  | reservationAcquire (cmd : HostCmd) (action : Nat) (ignoreKey : Bool) (rtype current preempt : Nat)
  /-- RESERVATION_RELEASE (R378). RRELA, IEKEY, RTYPE, CRKEY. -/
  | reservationRelease (cmd : HostCmd) (action : Nat) (ignoreKey : Bool) (rtype current : Nat)
  /-- OBJECT_WRITE (R406). A write of an object, or a block write, by an access path. -/
  | objectWrite (path index sub : Nat) (value : List Byte) (out : StoreOutcome)
  /-- GROUP_MEMBER_WRITE (R412). A write of a group member by an access path. -/
  | groupMemberWrite (path index sub value : Nat)
  /-- GROUP_COMMIT (R414). A commit of the group of an index by an access path. -/
  | groupCommit (path index : Nat) (out : StoreOutcome)
  /-- GROUP_DISCARD (R413). A discard of the path's shadows in the group of an index. -/
  | groupDiscard (path index : Nat)
  /-- SETTINGS_ACKNOWLEDGE (R594). A write of SettingsAcknowledge by an access path. -/
  | settingsAcknowledge (path value : Nat)
  /-- SETTINGS_RESTORE_DEFAULTS (R423). A write of SettingsRestoreDefaults by an access path. -/
  | settingsRestoreDefaults (path value : Nat) (out : StoreOutcome)
  /-- LOGBOOK_CLEAR (R573). A write of LogbookClear by an access path. -/
  | logbookClear (path value : Nat)
  /-- LEDGER_FREE_READ (R29). A read of LedgerFree by an access path. -/
  | ledgerFreeRead (path ledger : Nat)
  /-- LEDGER_OWNER_HELD_READ (R29). A read of LedgerOwnerHeld by an access path. -/
  | ledgerOwnerHeldRead (path ledger : Nat)
  /-- AUTH_KEY_WRITE (R546). A write of AuthKey of a slot by an access path. -/
  | authKeyWrite (path slot : Nat) (key : List Byte)
  /-- AUTH_RIGHTS_WRITE (R546). A write of AuthRights of a slot by an access path. -/
  | authRightsWrite (path slot rights : Nat)
  /-- SUPPLY_WARNING_LEVEL_WRITE (R462). A write of SupplyWarningMv by an access path. -/
  | supplyWarningLevelWrite (path value : Nat) (out : StoreOutcome)
  /-- RECOVERY_CHUNK (R597). A write of RecoveryChunk by an access path. -/
  | recoveryChunk (path : Nat) (chunk : List Byte) (out : StoreOutcome)
  /-- RECOVERY_COMMIT_REPLACE (R596). A write of 0x01 to RecoveryCommit by an access path. -/
  | recoveryCommitReplace (path : Nat)
  /-- RECOVERY_COMMIT_ACTIVATE (R596). A write of 0x02 to RecoveryCommit by an access path. -/
  | recoveryCommitActivate (path : Nat)
  /-- RECOVERY_COMMIT_SELECT (R596). A write of 0x03 to RecoveryCommit by an access path. -/
  | recoveryCommitSelect (path : Nat)
  /-- CHALLENGE_EXPIRY (R539). -/
  | challengeExpiry
  /-- GRANT_EXPIRY (R542). -/
  | grantExpiry
  /-- PATH_UNLOCKED (R543). -/
  | pathUnlocked
  /-- CAN_READ (R433). -/
  | canRead (req : CanRequest)
  /-- CAN_WRITE (R433). The value bytes. -/
  | canWrite (req : CanRequest) (value : List Byte) (out : StoreOutcome)
  /-- CAN_SEGMENTED_WRITE (R438). The total length. -/
  | canSegmentedWrite (req : CanRequest) (total : Nat)
  /-- CAN_ABORT_TRANSFER (R436). -/
  | canAbortTransfer (req : CanRequest)
  /-- CAN_AUTHORISE_CHALLENGE (R434). Key slot, operation and argument. -/
  | canAuthoriseChallenge (req : CanRequest) (slot op arg : Nat)
  /-- CAN_AUTHORISE_RESPOND (R434). As AUTHORISE_RESPOND. -/
  | canAuthoriseRespond (req : CanRequest) (slot op arg nonce : Nat) (response : List Byte)
  /-- CAN_SEGMENT (R440). Tag, number, last-segment bit; whether the frame is shorter than its layout; value bytes. -/
  | canSegment (tag segment : Nat) (last short : Bool) (data : List Byte) (out : StoreOutcome)
  /-- SEGMENT_TIMEOUT (R435). -/
  | segmentTimeout
  /-- HEARTBEAT (R441). The 500 ms schedule reaches a heartbeat. -/
  | heartbeat
  /-- TIME_SYNC (R445). The frame's time in ms, and the ms since its start of frame. -/
  | timeSync (ms elapsed : Nat)
  /-- WAKE_FRAME (R443). Flags and WakeSequence of the frame. -/
  | wakeFrame (flags seq : Nat)
  /-- CAN_FRAME_IGNORED (R425). A frame that is discarded. -/
  | canFrameIgnored
  /-- CAN_NODE_ID_CONFLICT (R431). Function code of the frame that carries this node's number. -/
  | canNodeIdConflict (func : Nat)
  /-- CAN_BUS_OFF (R428). The transmit error counter passes 255. -/
  | canBusOff
  /-- CAN_BUS_OFF_RECOVERY (R428). 128 occurrences of 11 recessive bits have passed. -/
  | canBusOffRecovery
  /-- CAN_FRAME_TRANSMITTED (R449). The frame that arbitration offers next ends on the bus, in an error or not; whether the
  node's next frame wins arbitration then. -/
  | canFrameTransmitted (error wins : Bool)
  /-- NOTICE_WITHDRAWAL (R449). The oldest queued notice reaches 2 s. -/
  | noticeWithdrawal
  /-- LOGBOOK_FLUSH (R564). The logbook flush that is due runs to its end. -/
  | logbookFlush
  /-- CEILING_ENTRY_VERIFIED (R557). The counter entry that raises the ceiling verifies. -/
  | ceilingEntryVerified
  /-- OPERATING_HOUR_TICK (R580). A tick of 1/16 hour. -/
  | operatingHourTick
  /-- POWER_ON_RESET_ASSERT (R609). VDD_HK, VDD_IO or VDD_CS leaves its window. -/
  | powerOnResetAssert
  /-- BUS_MASTER_ENABLE (R339). Bus Master Enable as written, with the port's other writable configuration fields as the host has left them, and the AER status bits it has cleared. -/
  | busMasterEnable (port : Port) (bme : Bool) (cfg : PortConfig) (clearUncorrectable clearCorrectable : Nat)
  /-- TLER_EXPIRY (R372). The read, by its number. -/
  | tlerExpiry (id : Nat)
  /-- INVALID_COMMAND_OPCODE (R362). A command whose opcode is not one of Table 12.3. -/
  | invalidCommandOpcode (cmd : HostCmd)
  /-- CAN_UNKNOWN_COMMAND (R435). -/
  | canUnknownCommand (req : CanRequest)
  /-- INTERRUPT_COALESCING_TIME (R370). The aggregation time of a completion queue ends. -/
  | interruptCoalescingTime (port : Port) (cqid : Nat)
  /-- MSI_ENABLE (R335). MSI-X Enable, Function Mask, MSI Enable, Multiple Message Enable, and the vectors the host has masked. -/
  | msiEnable (port : Port) (msix functionMask msi : Bool) (multiple : Nat) (masked : List Nat)
  /-- CAN_RECEIVE_ERROR (R428). The ISO 11898-1 rule that applies raises the receive error counter by `increment`. -/
  | canReceiveError (increment : Nat)
  deriving DecidableEq, Repr

end Sys2Proof
end

