-- ==== Sys2Proof/Config.lean ====
section
/-! DEFINITION. The free values: constants without a body for every value that spec/ leaves open. Nothing can evaluate them, so a
statement holds whatever they are (notes/assumptions/2.md). -/
namespace Sys2Proof.Config

/-- The `n`-th challenge nonce less one: 64 random bits, never zero (spec/18_security.md R539). -/
opaque freeNonce : Nat → Fin 18446744073709551615
/-- The `n`-th value that the spec leaves open, for a value with no better-named constant (notes/assumptions/2.md). -/
opaque freeNat : Nat → Nat
/-- The `n`-th namespace key drawn from the random bit generator (spec/18_security.md R525): 512 bits. -/
opaque freeKey : Nat → BitVec 512
/-- A CRC over released outputs and the other hidden contents of a telemetry page that no rule of spec/ lays out. -/
opaque freeByte : Nat → BitVec 8
/-- The first 31 output bits of the PRBS31 generator for a seed (spec/04_cell_coding.md R101 gives neither the order of the seed's bits nor
which stage is the output; notes/assumptions/122.md). -/
opaque prbsStart : Nat → BitVec 31

/-- The code lengths, at most as long as the limit, that a compression engine builds from a block's symbol frequencies, and the code-length symbols, with
their repeats, by which it sends a list of lengths (spec/07_compression.md R211 fixes neither; notes/assumptions/142.md). -/
opaque codeLengths : Nat → List Nat → List Nat
opaque lengthRuns : List Nat → List (Nat × Nat)
/-- The 256-bit root key in the fuses, and the 256-bit owner key of authorisation slot 0 written at manufacture (spec/18_security.md R524, R537). -/
opaque rootKey : BitVec 256
opaque ownerKey : BitVec 256

/-- The fixed magnitude at which the hard-decision decoder takes a bit, and 0.75 of a magnitude as the soft-decision decoder rounds it
(spec/04_cell_coding.md Table 4.4; notes/assumptions/136.md). -/
opaque hardMagnitude : Nat
opaque softScale : Nat → Nat

end Sys2Proof.Config
end

