-- ==== Sys2Proof/Machine/Codes.lean ====
section
/-! DEFINITION. Trigger codes of the logbook (spec/19_logbook.md R560): bits [15:8] the chapter, bits [7:0] the row of its code table;
Table 19.4 for the codes defined outside code tables (R574). The code tables are those of R136, R178, R206, R227, R254, R287, R354, R424,
R451, R483, R504, R523, R554 and R599. Each docstring gives the rules that raise the code and its snapshots. -/
namespace Sys2Proof.Machine

/-- COMPLEMENT_MISMATCH (R26, Table 5.16). Snapshots: Row of Table 1.5 (1–8); location (block number, map page, object index × 256 + subindex, or code-store byte offset). -/
abbrev Code.complementMismatch : Nat := 0x0101
/-- COMPLEMENT_DOUBLE_FAULT (R27). Snapshots: As COMPLEMENT_MISMATCH. -/
abbrev Code.complementDoubleFault : Nat := 0x0102
/-- MODE_CHANGE (R37). Snapshots: Previous mode; new mode; ModeCauses. -/
abbrev Code.modeChange : Nat := 0x0201
/-- RECOVERY_ENTERED (Table 2.4). Snapshots: 0x01 RECOV_N low; 0x02 option area; 0x03 no bootable image. -/
abbrev Code.recoveryEntered : Nat := 0x0202
/-- DRAM_TRAINING_FAILED (Table 2.4). Snapshots: DDR5 channel 0–3. -/
abbrev Code.dramTrainingFailed : Nat := 0x0203
/-- SANITIZE_RESUMED (Table 2.4). Snapshots: Action; step. -/
abbrev Code.sanitizeResumed : Nat := 0x0204
/-- DRAIN_PAUSED (Table 2.4). Snapshots: Bank evacuating; 0x01 die, 0x02 carrier throttling. -/
abbrev Code.drainPaused : Nat := 0x0205
/-- THERMAL_HALT (R53). Snapshots: DieTempMax; sensor. -/
abbrev Code.thermalHalt : Nat := 0x0206
/-- OPERATION_TIMEOUT (R64). Snapshots: Global die number; function code (Table 3.10). -/
abbrev Code.operationTimeout : Nat := 0x0301
/-- CHANNEL_RATE_REDUCED (R69). Snapshots: Channel; rate code reached. -/
abbrev Code.channelRateReduced : Nat := 0x0302
/-- CHANNEL_TRAINING_FAILED (R69). Snapshots: Channel. -/
abbrev Code.channelTrainingFailed : Nat := 0x0303
/-- PROGRAM_FAIL (R76). Snapshots: Block number; wordline; pass: 0x01 coarse, 0x02 fine. -/
abbrev Code.programFail : Nat := 0x0304
/-- ERASE_FAIL (R76). Snapshots: Block number; 0; 0x03 erase. -/
abbrev Code.eraseFail : Nat := 0x0305
/-- PLANE_EXHAUSTED (R76). Snapshots: Block number of the group; 0; 0x03. -/
abbrev Code.planeExhausted : Nat := 0x0306
/-- PROFILE_ENTRY_INCOMPLETE (R84). Snapshots: Entry number; missing function code. -/
abbrev Code.profileEntryIncomplete : Nat := 0x0307
/-- CARRIER_PROFILE_MISMATCH (R87). Snapshots: First non-matching global die; entry or 0xFF. -/
abbrev Code.carrierProfileMismatch : Nat := 0x0308
/-- SUPERBLOCK_COPY_BAD (R94). Snapshots: Bank. -/
abbrev Code.superblockCopyBad : Nat := 0x0309
/-- ANCHOR_LOST (R95). Snapshots: Bank; side, 0x00 A or 0x01 B. -/
abbrev Code.anchorLost : Nat := 0x030A
/-- GAUGE_BLOCK_MOVED (R96). Snapshots: Global die number; plane; new block-in-die. -/
abbrev Code.gaugeBlockMoved : Nat := 0x030B
/-- BLOCK_RETIRED_LOW_CAPACITY (R121). Snapshots: Block number; C estimate. -/
abbrev Code.blockRetiredLowCapacity : Nat := 0x0401
/-- RATE_ESTIMATE_HIGH (R122). Snapshots: Block number; recorded C; fresh C. -/
abbrev Code.rateEstimateHigh : Nat := 0x0402
/-- TRACKING_LIMIT (R112). Snapshots: Global die number; threshold; limit reached. -/
abbrev Code.trackingLimit : Nat := 0x0403
/-- HEADER_STEP_SEARCH (R132). Snapshots: Block number; step found. -/
abbrev Code.headerStepSearch : Nat := 0x0404
/-- HEADER_UNREADABLE (R131, R132). Snapshots: Block number. -/
abbrev Code.headerUnreadable : Nat := 0x0405
/-- FOOTER_UNREADABLE (R134). Snapshots: Block number. -/
abbrev Code.footerUnreadable : Nat := 0x0406
/-- MAP_LINE_RELOADED (R176). Snapshots: Slot; line number. -/
abbrev Code.mapLineReloaded : Nat := 0x0501
/-- MAP_LINE_LOST (R176). Snapshots: Slot; line number. -/
abbrev Code.mapLineLost : Nat := 0x0502
/-- MAP_PAGE_LOST (R171, R176). Snapshots: Slot; page number. -/
abbrev Code.mapPageLost : Nat := 0x0503
/-- JOURNAL_COPY_FAILED (R162). Snapshots: FirstSequence; block number of the failed copy. -/
abbrev Code.journalCopyFailed : Nat := 0x0504
/-- JOURNAL_FRAME_FAILED (R162). Snapshots: FirstSequence. -/
abbrev Code.journalFrameFailed : Nat := 0x0505
/-- JOURNAL_FULL (R169). Snapshots: JournalFrames; CheckpointSequence. -/
abbrev Code.journalFull : Nat := 0x0506
/-- MAP_JOURNAL_TRUNCATED (R172). Snapshots: Expected sequence; CheckpointSequence. -/
abbrev Code.mapJournalTruncated : Nat := 0x0507
/-- CHECKPOINT_FRAME_BAD (Table 5.14). Snapshots: Role of the frame that failed; CheckpointSequence from the superblock generation in use. -/
abbrev Code.checkpointFrameBad : Nat := 0x0508
/-- STRIPE_OPEN_DELAYED (R184). Snapshots: Kind of stripe, coded as the block header's Kind (0x01 host data, 0x02 moved data, 0x03 system stripe); first bank without an eligible die. -/
abbrev Code.stripeOpenDelayed : Nat := 0x0601
/-- MEMBER_CONTINUED (R194). Snapshots: StripeId; data index, or 0xFF for P and 0xFE for Q; row r0. -/
abbrev Code.memberContinued : Nat := 0x0602
/-- WRITE_BUFFER_CEILING_CHANGED (R202). Snapshots: Old ceiling; new ceiling; WriteBufferInUse. -/
abbrev Code.writeBufferCeilingChanged : Nat := 0x0603
/-- COMPRESS_VERIFY_MISMATCH (R214). Snapshots: Engine number; namespace slot; logical grain number. -/
abbrev Code.compressVerifyMismatch : Nat := 0x0701
/-- COMPRESSION_ENGINE_OFFLINE (R215). Snapshots: Engine number; mismatches in the last hour. -/
abbrev Code.compressionEngineOffline : Nat := 0x0702
/-- DECOMPRESSION_ENGINE_DISAGREE (R222). Snapshots: Failing engine; succeeding engine; error of the first run. -/
abbrev Code.decompressionEngineDisagree : Nat := 0x0703
/-- DECOMPRESSION_ENGINE_OFFLINE (R222). Snapshots: Engine number; disagreements in the last hour. -/
abbrev Code.decompressionEngineOffline : Nat := 0x0704
/-- READ_UNRECOVERED (R245, R248). Snapshots: Namespace slot; logical grain number; block number; highest ladder step reached (5 for L5, 6 for verification reconstruction); Table 7.6 error, or 0. -/
abbrev Code.readUnrecovered : Nat := 0x0801
/-- FRAME_RANGE_FAULT (R246). Snapshots: Namespace slot; logical grain number; entry value. -/
abbrev Code.frameRangeFault : Nat := 0x0802
/-- RELOCATION_PINNED (R262). Snapshots: StripeId; block number; logical grain number. -/
abbrev Code.relocationPinned : Nat := 0x0901
/-- PHYSICALLY_FULL (R268). Snapshots: FreePermille; live frames of the best eligible stripe. -/
abbrev Code.physicallyFull : Nat := 0x0902
/-- GAUGE_DARK_AGE (R276). Snapshots: Median dark age; largest dark age; die of the largest. -/
abbrev Code.gaugeDarkAge : Nat := 0x0903
/-- GAUGE_REFRESHED (R277). Snapshots: Global die number; gauge age added to AgeBase. -/
abbrev Code.gaugeRefreshed : Nat := 0x0904
/-- GAUGE_UNAVAILABLE (R278). Snapshots: Global die number; dark age assumed. -/
abbrev Code.gaugeUnavailable : Nat := 0x0905
/-- CALENDAR_OVERDUE (R284). Snapshots: BlocksOverdueAtWake; largest (thermal age − ScrubDue). -/
abbrev Code.calendarOverdue : Nat := 0x0906
/-- WALL_CLOCK_STEP (R279). Snapshots: Old value in seconds; new value in seconds; WallClockSource. -/
abbrev Code.wallClockStep : Nat := 0x0907
/-- DIE_FAILED (R288, R289). Snapshots: Global die number; cause, as the row of Table 10.1 that applies, counted from 1: 1 timeouts, 2 program failure, 4 fresh-read failures, 5 target absent or channel training failed. -/
abbrev Code.dieFailed : Nat := 0x0A01
/-- BANK_FAILED (R290). Snapshots: Bank. -/
abbrev Code.bankFailed : Nat := 0x0A02
/-- MEMBER_LOST (R294). Snapshots: Global die number or bank; open stripes affected. -/
abbrev Code.memberLost : Nat := 0x0A03
/-- BANKS_BELOW_MINIMUM (R292). Snapshots: BanksInService. -/
abbrev Code.banksBelowMinimum : Nat := 0x0A04
/-- RESTRIPE_WAITING_SPACE (R301). Snapshots: FreePermille; RestripeFramesLeft. -/
abbrev Code.restripeWaitingSpace : Nat := 0x0A05
/-- RESTRIPE_COMPLETE (R301). Snapshots: StripesRestriped; StripesLost. -/
abbrev Code.restripeComplete : Nat := 0x0A06
/-- STRIPE_LOST (R302). Snapshots: StripeId; grains marked lost. -/
abbrev Code.stripeLost : Nat := 0x0A07
/-- LOST_RANGE_LOG_WRAPPED (R306). Snapshots: LostRangeDropped. -/
abbrev Code.lostRangeLogWrapped : Nat := 0x0A08
/-- CARRIER_REMOVED (R321). Snapshots: Bank; CarrierState before removal. -/
abbrev Code.carrierRemoved : Nat := 0x0A09
/-- CARRIER_POWER_FAULT (R309). Snapshots: Bank; 0x01 PGOOD fell, 0x02 PGOOD did not rise; CarrierFaultCount. -/
abbrev Code.carrierPowerFault : Nat := 0x0A0A
/-- CARRIER_BUTTON_IGNORED (R313). Snapshots: Bank; CarrierState. -/
abbrev Code.carrierButtonIgnored : Nat := 0x0A0B
/-- CARRIER_FOREIGN (R315). Snapshots: Bank; DeviceInstance found. -/
abbrev Code.carrierForeign : Nat := 0x0A0C
/-- CARRIER_JOINED (R316). Snapshots: Bank; class, as the row of Table 10.7 counted from 1: 1 Member, 2 Blank, 3 Recognised, 4 Stale, 5 Foreign. -/
abbrev Code.carrierJoined : Nat := 0x0A0D
/-- EVACUATION_REFUSED (R318). Snapshots: Bank; 0x01 another evacuation, 0x02 fewer than 15 banks, 0x03 space. -/
abbrev Code.evacuationRefused : Nat := 0x0A0E
/-- EVACUATION_CANCELLED (R318, R319). Snapshots: Bank; RestripeProgressPermille. -/
abbrev Code.evacuationCancelled : Nat := 0x0A0F
/-- CARRIER_DRAINED (R320). Snapshots: Bank; superblock generation written. -/
abbrev Code.carrierDrained : Nat := 0x0A10
/-- PORTCFG_INVALID (R323). Snapshots: Strap value. -/
abbrev Code.portcfgInvalid : Nat := 0x0B01
/-- PCIE_LINK_DEGRADED (R325). Snapshots: Port; rate code; width. -/
abbrev Code.pcieLinkDegraded : Nat := 0x0B02
/-- PCIE_LINK_DOWN (R346). Snapshots: Port; commands dropped; admitted writes carried. -/
abbrev Code.pcieLinkDown : Nat := 0x0B03
/-- PCIE_HOT_RESET (R346). Snapshots: Port; commands dropped; admitted writes carried. -/
abbrev Code.pcieHotReset : Nat := 0x0B04
/-- PCIE_FLR (R346). Snapshots: Port; commands dropped; admitted writes carried. -/
abbrev Code.pcieFlr : Nat := 0x0B05
/-- PCIE_UNCORRECTABLE (R341). Snapshots: Port; Uncorrectable Error Status; first header doubleword. -/
abbrev Code.pcieUncorrectable : Nat := 0x0B06
/-- PCIE_WAKE_SIGNALLED (R349). Snapshots: Port; wake event of Table 11.11, numbered 1–4 in table order. -/
abbrev Code.pcieWakeSignalled : Nat := 0x0B07
/-- NVME_CC_INVALID (R357). Snapshots: Port; CC value. -/
abbrev Code.nvmeCcInvalid : Nat := 0x0C01
/-- NVME_KEEP_ALIVE_EXPIRED (R365). Snapshots: Port; Keep Alive Timer value. -/
abbrev Code.nvmeKeepAliveExpired : Nat := 0x0C02
/-- NAMESPACE_CREATED (R373). Snapshots: NSID; NSZE; parity mode. -/
abbrev Code.namespaceCreated : Nat := 0x0C03
/-- NAMESPACE_DELETED (R375). Snapshots: NSID; chunks returned. -/
abbrev Code.namespaceDeleted : Nat := 0x0C04
/-- NAMESPACE_FORMATTED (R376). Snapshots: NSID; FLBAS; SES. -/
abbrev Code.namespaceFormatted : Nat := 0x0C05
/-- SETTINGS_ENTRY_TORN (R409). Snapshots: Copy; block offset of the torn record. -/
abbrev Code.settingsEntryTorn : Nat := 0x0D01
/-- SETTINGS_COMPACTED (R410). Snapshots: Copy; new BlockGeneration. -/
abbrev Code.settingsCompacted : Nat := 0x0D02
/-- SETTINGS_STORE_FAILED (R411). Snapshots: Index; subindex; copy. -/
abbrev Code.settingsStoreFailed : Nat := 0x0D03
/-- SETTINGS_DEFAULTS_RESTORED (R423). Snapshots: Path code (R419): 0x01–0x04 ports 0–3, 0x05 CAN. -/
abbrev Code.settingsDefaultsRestored : Nat := 0x0D04
/-- CAN_BUS_OFF (R428). Snapshots: CanBusOffCount; CanTxSlotsFree. -/
abbrev Code.canBusOff : Nat := 0x0E01
/-- CAN_NODE_ID_CONFLICT (R431). Snapshots: NodeIdActive; function code of the frame. -/
abbrev Code.canNodeIdConflict : Nat := 0x0E02
/-- CAN_NODE_ID_INVALID (R430). Snapshots: NodeIdStrap; NodeIdOverride. -/
abbrev Code.canNodeIdInvalid : Nat := 0x0E03
/-- SUPPLY_WARNING (R463). Snapshots: VsysMv; mode. -/
abbrev Code.supplyWarning : Nat := 0x0F01
/-- SAG_RECOVERED (R464). Snapshots: Duration of M8 in ms; VsysMinMv. -/
abbrev Code.sagRecovered : Nat := 0x0F02
/-- SUPPLY_RAIL_FAULT (R475). Snapshots: Channel; reading in mV. -/
abbrev Code.supplyRailFault : Nat := 0x0F03
/-- RETENTION_LOST (R455). Snapshots: Domain code. -/
abbrev Code.retentionLost : Nat := 0x0F04
/-- HOLDUP_TEST_FAILED (R471). Snapshots: Cause; c in µF; esr in mΩ. -/
abbrev Code.holdupTestFailed : Nat := 0x0F05
/-- HOLDUP_CHARGE_TIMEOUT (R467). Snapshots: HoldUpSenseMv. -/
abbrev Code.holdupChargeTimeout : Nat := 0x0F06
/-- HOLDUP_BELOW_FLOOR (R467). Snapshots: HoldUpSenseMv. -/
abbrev Code.holdupBelowFloor : Nat := 0x0F07
/-- SENSOR_FAULT (R476). Snapshots: Sensor; reading. -/
abbrev Code.sensorFault : Nat := 0x0F08
/-- CARRIER_SENSOR_FAULT (R477). Snapshots: Bank; converter count. -/
abbrev Code.carrierSensorFault : Nat := 0x0F09
/-- DIE_TEMP_WARNING (R478). Snapshots: DieTempMax; sensor. -/
abbrev Code.dieTempWarning : Nat := 0x0F0A
/-- CARRIER_TEMP_WARNING (R478). Snapshots: Bank; CarrierTemperature. -/
abbrev Code.carrierTempWarning : Nat := 0x0F0B
/-- THROTTLE_START (R478, R481). Snapshots: 0x01 die or 0x02 carrier; bank or 0xFF; reading. -/
abbrev Code.throttleStart : Nat := 0x0F0C
/-- THROTTLE_END (R478). Snapshots: As THROTTLE_START. -/
abbrev Code.throttleEnd : Nat := 0x0F0D
/-- CARRIER_THERMAL_SHUTDOWN (R479). Snapshots: Bank; CarrierTemperature. -/
abbrev Code.carrierThermalShutdown : Nat := 0x0F0E
/-- CARRIER_COLD_INHIBIT (R478, R480). Snapshots: Bank; 0x01 program set, 0x02 read set, 0x03 program cleared, 0x04 read cleared; CarrierTemperature. -/
abbrev Code.carrierColdInhibit : Nat := 0x0F0F
/-- LEDGER_BROKEN (R30, R487). Snapshots: Ledger code; owner ID; held; free; total. -/
abbrev Code.ledgerBroken : Nat := 0x1001
/-- BUFFER_HELD_LONG (R496). Snapshots: Owner ID; pool as ledger code 0x02–0x05; buffer index; age in 0.1 s. -/
abbrev Code.bufferHeldLong : Nat := 0x1002
/-- TOKEN_POOL_RESIZED (R488). Snapshots: Old total; new total. -/
abbrev Code.tokenPoolResized : Nat := 0x1003
/-- FAILOVER_TAKEOVER (R512, Table 17.6). Snapshots: Cause (Table 17.2); complex now in control, 0x00 in M2; LastTakeoverMicros. -/
abbrev Code.failoverTakeover : Nat := 0x1101
/-- PRIMARY_RETURNED (R517). Snapshots: ReturnsInWindow; LastSelfTestMs. -/
abbrev Code.primaryReturned : Nat := 0x1102
/-- PRIMARY_RETIRED (R516, R517). Snapshots: 0x01 governor fault; 0x02 self-test or return check failed; 0x03 return limit. -/
abbrev Code.primaryRetired : Nat := 0x1103
/-- STANDBY_SELFTEST_FAILED (R520). Snapshots: LastSelfTestMs. -/
abbrev Code.standbySelftestFailed : Nat := 0x1104
/-- TAKEOVER_FAILED (R513, R518). Snapshots: Condition (Table 17.4); cause that started the takeover. -/
abbrev Code.takeoverFailed : Nat := 0x1105
/-- SWITCHOVER_INCONSISTENT (R514). Snapshots: Code (Table 17.5); ComplexInControl. -/
abbrev Code.switchoverInconsistent : Nat := 0x1106
/-- KEY_UNWRAP_FAILED (R533). Snapshots: Namespace slot; key slot. -/
abbrev Code.keyUnwrapFailed : Nat := 0x1201
/-- NAMESPACE_KEY_REPLACED (R534). Snapshots: NSID; old key slot; new key slot. -/
abbrev Code.namespaceKeyReplaced : Nat := 0x1202
/-- KEY_AREA_COMPACTED (R532). Snapshots: Copy; new BlockGeneration; live entries. -/
abbrev Code.keyAreaCompacted : Nat := 0x1203
/-- AUTH_KEY_CHANGED (R546). Snapshots: Authorisation slot; path code (R419). -/
abbrev Code.authKeyChanged : Nat := 0x1204
/-- PATH_LOCKED_OUT (R543). Snapshots: Path; key slot of the fifth failure. -/
abbrev Code.pathLockedOut : Nat := 0x1205
/-- PATH_UNLOCKED (R543). Snapshots: Path. -/
abbrev Code.pathUnlocked : Nat := 0x1206
/-- SANITIZE_COMPLETED (R547). Snapshots: Action; duration in s. -/
abbrev Code.sanitizeCompleted : Nat := 0x1207
/-- SANITIZE_FAILED (R550). Snapshots: Action; step. -/
abbrev Code.sanitizeFailed : Nat := 0x1208
/-- LOGBOOK_RESUMED (R557). Snapshots: Sequence ceiling loaded, which is the new first sequence; power-cycle count. -/
abbrev Code.logbookResumed : Nat := 0x1301
/-- LOGBOOK_CLEARED (R573). Snapshots: Path code (R419); head sequence before the clear; records removed. -/
abbrev Code.logbookCleared : Nat := 0x1302
/-- LOGBOOK_OVERWRITTEN (R563). Snapshots: First sequence overwritten; count overwritten. -/
abbrev Code.logbookOverwritten : Nat := 0x1303
/-- LOGBOOK_CHAIN_TRUNCATED (R566). Snapshots: Expected FirstSequence; newest sequence found. -/
abbrev Code.logbookChainTruncated : Nat := 0x1304
/-- CODE_STORE_ERASE_REDONE (R578). Snapshots: Block; erase count. -/
abbrev Code.codeStoreEraseRedone : Nat := 0x1401
/-- CODE_STORE_VERIFY_FAILED (R579). Snapshots: Block; 0x01 program, 0x02 erase; 0x01 recovered, 0x02 worn. -/
abbrev Code.codeStoreVerifyFailed : Nat := 0x1402
/-- COMPONENT_REJECTED (R591). Snapshots: Slot; ComponentCode; reason (Table 20.9). -/
abbrev Code.componentRejected : Nat := 0x1403
/-- SLOT_FALLBACK (R591). Snapshots: Slot abandoned; reason (Table 20.9). -/
abbrev Code.slotFallback : Nat := 0x1404
/-- FIRMWARE_COMMITTED (R589). Snapshots: Slot, or 0 for OA; ComponentCode; Version. -/
abbrev Code.firmwareCommitted : Nat := 0x1405
/-- FIRMWARE_ACTIVATED (R592). Snapshots: Slot; MF Version; previous LastGoodSlot. -/
abbrev Code.firmwareActivated : Nat := 0x1406
/-- OPTION_AREA_UPDATED (R584). Snapshots: Generation; copy written. -/
abbrev Code.optionAreaUpdated : Nat := 0x1407
/-- SETTINGS_MIGRATED (R593). Snapshots: Old version; new version; copy written. -/
abbrev Code.settingsMigrated : Nat := 0x1408
/-- SETTINGS_UNREADABLE (R593). Snapshots: Version of A; version of O; running slot. -/
abbrev Code.settingsUnreadable : Nat := 0x1409
/-- SETTINGS_LOST (R593). Snapshots: Version w. -/
abbrev Code.settingsLost : Nat := 0x140A
/-- SETTINGS_ACKNOWLEDGED (R594). Snapshots: Path code (R419). -/
abbrev Code.settingsAcknowledged : Nat := 0x140B
/-- SECURITY_VERSION_ADVANCED (R592). Snapshots: ComponentCode; new minimum. -/
abbrev Code.securityVersionAdvanced : Nat := 0x140C
/-- SIGNING_KEY_REVOKED (R592). Snapshots: Key index; ComponentCode of the revoking component. -/
abbrev Code.signingKeyRevoked : Nat := 0x140D
/-- BOOT_CONTROL_REBUILT (R588). Snapshots: Active settings copy chosen. -/
abbrev Code.bootControlRebuilt : Nat := 0x140E

/-- The codes of class 0x01 Fault (Table 19.3, first row). -/
def faultCodes : List Nat :=
  [Code.complementDoubleFault,
   Code.dramTrainingFailed,
   Code.thermalHalt,
   Code.mapJournalTruncated,
   Code.mapPageLost,
   Code.dieFailed,
   Code.bankFailed,
   Code.stripeLost,
   Code.carrierThermalShutdown,
   Code.retentionLost,
   Code.ledgerBroken,
   Code.failoverTakeover,
   Code.primaryRetired,
   Code.takeoverFailed,
   Code.switchoverInconsistent,
   Code.keyUnwrapFailed,
   Code.sanitizeFailed]

/-- Class of a record, by its trigger code (Table 19.3). -/
def codeClass (code : Nat) : Nat :=
  if faultCodes.contains code then 0x01 else
    match code / 256 with
    | 1 | 7 => 0x03
    | 2 => 0x02
    | 3 | 4 | 5 | 6 | 8 | 9 => 0x04
    | 0x0A => 0x05
    | 0x0B | 0x0C => 0x06
    | 0x0D | 0x14 => 0x07
    | 0x0E => 0x08
    | 0x0F => 0x09
    | 0x10 => 0x0A
    | 0x11 => 0x0B
    | 0x12 => 0x0C
    | _ => 0x0D

end Sys2Proof.Machine
end

