-- ==== Sys2Proof/Machine/Objects.lean ====
section
/-! DEFINITION. Every object of the dictionary as the object tables of spec/02 to spec/20 list it: type, access class, default or
reset form, range (the value-out-of-range limits of its row), per-path flag and whether its index is an array index. -/
namespace Sys2Proof.Machine

/-- Types of Table 13.3 (spec/13_dictionary.md R394). -/
inductive ObjType | bool | u8 | u16 | u32 | u40 | i40 | u64 | str | blob
  deriving DecidableEq, Repr
/-- Access classes of Table 13.4 (R396). -/
inductive Access | ro | rw | wo | rws | grd
  deriving DecidableEq, Repr
/-- The source an object with a "From" default is loaded from (Table 13.8, R405). -/
inductive Source
  | none | dram | namespaces | blockTable | mp | superblock | wake | calendar | lostLog | straps | optionArea
  | boot | round | ring | settings | counters | keyArea
  deriving DecidableEq, Repr
/-- Default and reset forms of Table 13.8 (R405). -/
inductive ResetForm
  | atReset | atCycle | stored | source (src : Source) | reads
  deriving DecidableEq, Repr

/-- One row of an object table. -/
structure ObjRow where
  /-- First and last index the row covers. -/
  idxLo : Nat
  idxHi : Nat
  /-- First and last subindex the row covers. -/
  subLo : Nat
  subHi : Nat
  typ : ObjType
  acc : Access
  /-- RWS, or GRD stored in settings (Table 13.5 bit 3). -/
  stored : Bool
  dflt : Nat
  form : ResetForm
  /-- Lowest and highest value a write may carry. -/
  lo : Nat
  hi : Nat
  perPath : Bool
  /-- The index is an array index (R391). -/
  array : Bool
  deriving DecidableEq, Repr

/-- Rows of the object tables, part 0 (spec chapters 11, 13, 14). -/
def objRows0 : List ObjRow := [
  ⟨0x1000, 0x1000, 0x01, 0x01, .u16, .ro, false, 1, .atReset, 0, 65535, false, false⟩ /- DictionaryFormat -/,
  ⟨0x1000, 0x1000, 0x02, 0x02, .u64, .ro, false, 0, .atReset, 0, 18446744073709551615, false, false⟩ /- DictionaryRequests -/,
  ⟨0x1000, 0x1000, 0x03, 0x03, .u64, .ro, false, 0, .atReset, 0, 18446744073709551615, false, false⟩ /- DictionaryAborts -/,
  ⟨0x1001, 0x1001, 0x01, 0x01, .str, .ro, false, 0, .atReset, 0, 0, false, false⟩ /- DeviceName -/,
  ⟨0x1001, 0x1001, 0x02, 0x02, .str, .ro, false, 0, (.source .optionArea), 0, 0, false, false⟩ /- SerialNumber -/,
  ⟨0x1001, 0x1001, 0x03, 0x03, .str, .ro, false, 0, (.source .boot), 0, 0, false, false⟩ /- FirmwareRevision -/,
  ⟨0x1002, 0x1002, 0x01, 0x01, .u64, .ro, false, 0, (.source .superblock), 0, 18446744073709551615, false, false⟩ /- DeviceInstance -/,
  ⟨0x1010, 0x1010, 0x01, 0x01, .u8, .ro, false, 0, (.source .straps), 0, 255, false, false⟩ /- NodeIdStrap -/,
  ⟨0x1010, 0x1010, 0x02, 0x02, .u8, .rws, true, 0, .stored, 0, 127, false, false⟩ /- NodeIdOverride -/,
  ⟨0x1010, 0x1010, 0x03, 0x03, .u8, .ro, false, 0, (.source .straps), 0, 255, false, false⟩ /- NodeIdActive -/,
  ⟨0x1011, 0x1011, 0x01, 0x01, .u8, .rws, true, 0, .stored, 0, 1, false, false⟩ /- CanNominalRate -/,
  ⟨0x1011, 0x1011, 0x02, 0x02, .u8, .rws, true, 0, .stored, 0, 1, false, false⟩ /- CanDataRate -/,
  ⟨0x1011, 0x1011, 0x0F, 0x0F, .u32, .rw, false, 0, .atReset, 1, 2, true, false⟩ /- CanRatesCommit -/,
  ⟨0x1012, 0x1012, 0x01, 0x01, .u8, .ro, false, 0, .atReset, 0, 255, false, false⟩ /- CanBusState -/,
  ⟨0x1012, 0x1012, 0x02, 0x02, .u8, .ro, false, 0, .atReset, 0, 255, false, false⟩ /- CanTxErrorCount -/,
  ⟨0x1012, 0x1012, 0x03, 0x03, .u8, .ro, false, 0, .atReset, 0, 255, false, false⟩ /- CanRxErrorCount -/,
  ⟨0x1012, 0x1012, 0x04, 0x04, .u32, .ro, false, 0, .atCycle, 0, 4294967295, false, false⟩ /- CanBusOffCount -/,
  ⟨0x1012, 0x1012, 0x05, 0x05, .u64, .ro, false, 0, .atReset, 0, 18446744073709551615, false, false⟩ /- CanFramesSent -/,
  ⟨0x1012, 0x1012, 0x06, 0x06, .u64, .ro, false, 0, .atReset, 0, 18446744073709551615, false, false⟩ /- CanFramesActedOn -/,
  ⟨0x1012, 0x1012, 0x07, 0x07, .u32, .ro, false, 0, .atReset, 0, 4294967295, false, false⟩ /- CanProtocolRefusals -/,
  ⟨0x1012, 0x1012, 0x08, 0x08, .u64, .ro, false, 0, .atReset, 0, 18446744073709551615, false, false⟩ /- CanFramesIgnored -/,
  ⟨0x1012, 0x1012, 0x09, 0x09, .u32, .ro, false, 0, .atReset, 0, 4294967295, false, false⟩ /- TimeSyncReceived -/,
  ⟨0x1013, 0x1013, 0x01, 0x01, .u32, .ro, false, 0, .atReset, 0, 4294967295, false, false⟩ /- CanWakesActed -/,
  ⟨0x1013, 0x1013, 0x02, 0x02, .u32, .ro, false, 0, .atReset, 0, 4294967295, false, false⟩ /- CanWakesNotActed -/,
  ⟨0x1013, 0x1013, 0x03, 0x03, .u32, .ro, false, 0, .atReset, 0, 4294967295, false, false⟩ /- CanWakesRepeated -/,
  ⟨0x1014, 0x1014, 0x01, 0x01, .u8, .ro, false, 32, .atReset, 0, 255, false, false⟩ /- CanTxSlotsFree -/,
  ⟨0x1014, 0x1014, 0x02, 0x02, .u32, .ro, false, 0, .atReset, 0, 4294967295, false, false⟩ /- CanTxCancelled -/,
  ⟨0x1014, 0x1014, 0x03, 0x03, .u32, .ro, false, 0, .atReset, 0, 4294967295, false, false⟩ /- CanTxAlreadySent -/,
  ⟨0x1015, 0x1015, 0x01, 0x01, .u32, .rws, true, 4294967295, .stored, 0, 4294967295, false, false⟩ /- LogbookNoticeClasses -/,
  ⟨0x1015, 0x1015, 0x02, 0x02, .u8, .rws, true, 20, .stored, 1, 100, false, false⟩ /- LogbookNoticeRate -/,
  ⟨0x1015, 0x1015, 0x03, 0x03, .u64, .ro, false, 0, .atReset, 0, 18446744073709551615, false, false⟩ /- LogbookNoticesSent -/,
  ⟨0x1015, 0x1015, 0x04, 0x04, .u64, .ro, false, 0, .atReset, 0, 18446744073709551615, false, false⟩ /- LogbookNoticesDropped -/,
  ⟨0x2001, 0x2001, 0x01, 0x01, .u8, .ro, false, 0, (.source .straps), 0, 255, false, false⟩ /- PortConfig -/,
  ⟨0x2001, 0x2001, 0x02, 0x02, .u8, .rws, true, 0, .stored, 0, 15, false, false⟩ /- PortClocking -/,
  ⟨0x2001, 0x2001, 0x03, 0x03, .u8, .rws, true, 5, .stored, 1, 5, false, false⟩ /- MaxLinkSpeedCode -/,
  ⟨0x2001, 0x2001, 0x04, 0x04, .u16, .rws, true, 128, .stored, 16, 4096, false, false⟩ /- AspmIdleUs -/,
  ⟨0x2010, 0x2010, 0x00, 0x03, .u8, .ro, false, 0, .atReset, 0, 255, false, true⟩ /- PortLinkState -/,
  ⟨0x2011, 0x2011, 0x00, 0x03, .u8, .ro, false, 0, .atReset, 0, 255, false, true⟩ /- PortLinkSpeed -/,
  ⟨0x2012, 0x2012, 0x00, 0x03, .u8, .ro, false, 0, .atReset, 0, 255, false, true⟩ /- PortLinkWidth -/,
  ⟨0x2013, 0x2013, 0x00, 0x03, .u8, .ro, false, 255, .atReset, 0, 255, false, true⟩ /- PortPowerState -/]

/-- Rows of the object tables, part 1 (spec chapters 03, 05, 11, 12, 16). -/
def objRows1 : List ObjRow := [
  ⟨0x2014, 0x2014, 0x00, 0x03, .u32, .ro, false, 0, .atReset, 0, 4294967295, false, true⟩ /- PortLinkDownCount -/,
  ⟨0x2015, 0x2015, 0x00, 0x03, .u32, .ro, false, 0, .atReset, 0, 4294967295, false, true⟩ /- PortHotResets -/,
  ⟨0x2016, 0x2016, 0x00, 0x03, .u32, .ro, false, 0, .atReset, 0, 4294967295, false, true⟩ /- PortFlrs -/,
  ⟨0x2017, 0x2017, 0x00, 0x03, .u64, .ro, false, 0, .atReset, 0, 18446744073709551615, false, true⟩ /- PortCorrectableErrors -/,
  ⟨0x2018, 0x2018, 0x00, 0x03, .u64, .ro, false, 0, .atReset, 0, 18446744073709551615, false, true⟩ /- PortUncorrectableErrors -/,
  ⟨0x2019, 0x2019, 0x00, 0x03, .u64, .ro, false, 0, .atReset, 0, 18446744073709551615, false, true⟩ /- PortHostMemoryFaults -/,
  ⟨0x201A, 0x201A, 0x00, 0x03, .u32, .ro, false, 0, .atReset, 0, 4294967295, false, true⟩ /- PortWakeSignals -/,
  ⟨0x2100, 0x2100, 0x01, 0x01, .u8, .rws, true, 1, .stored, 1, 2, false, false⟩ /- DefaultParityMode -/,
  ⟨0x2100, 0x2100, 0x02, 0x02, .bool, .rws, true, 0, .stored, 0, 1, false, false⟩ /- VwcDefault -/,
  ⟨0x2100, 0x2100, 0x03, 0x03, .u16, .ro, false, 0, (.source .namespaces), 0, 65535, false, false⟩ /- NamespacesActive -/,
  ⟨0x2110, 0x2110, 0x00, 0x03, .u8, .rw, false, 0, .atReset, 0, 3, false, true⟩ /- VendorEventEnable -/,
  ⟨0x2111, 0x2111, 0x00, 0x03, .u64, .ro, false, 0, .atReset, 0, 18446744073709551615, false, true⟩ /- CommandsFetched -/,
  ⟨0x2112, 0x2112, 0x00, 0x03, .u64, .ro, false, 0, .atReset, 0, 18446744073709551615, false, true⟩ /- CommandsFailed -/,
  ⟨0x2113, 0x2113, 0x00, 0x03, .u32, .ro, false, 0, .atReset, 0, 4294967295, false, true⟩ /- KeepAliveExpiries -/,
  ⟨0x2200, 0x2200, 0x01, 0x01, .u64, .ro, false, 0, .atReset, 0, 18446744073709551615, false, false⟩ /- HoistCommandsMoved -/,
  ⟨0x2200, 0x2200, 0x02, 0x02, .u64, .ro, false, 0, .atReset, 0, 18446744073709551615, false, false⟩ /- HoistBytesToDram -/,
  ⟨0x2200, 0x2200, 0x03, 0x03, .u64, .ro, false, 0, .atReset, 0, 18446744073709551615, false, false⟩ /- HoistBytesToHost -/,
  ⟨0x2200, 0x2200, 0x04, 0x04, .u64, .ro, false, 0, .atReset, 0, 18446744073709551615, false, false⟩ /- HoistDescriptorsFailed -/,
  ⟨0x2200, 0x2200, 0x05, 0x05, .u64, .ro, false, 0, .atReset, 0, 18446744073709551615, false, false⟩ /- HoistPoolEmptyRetries -/,
  ⟨0x3001, 0x3001, 0x01, 0x01, .u16, .ro, false, 0, .atReset, 0, 65535, false, false⟩ /- DiesInService -/,
  ⟨0x3001, 0x3001, 0x02, 0x02, .u32, .ro, false, 0, (.source .blockTable), 0, 4294967295, false, false⟩ /- BlocksRetired -/,
  ⟨0x3001, 0x3001, 0x03, 0x03, .u32, .ro, false, 0, (.source .blockTable), 0, 4294967295, false, false⟩ /- ProgramFailCount -/,
  ⟨0x3001, 0x3001, 0x04, 0x04, .u32, .ro, false, 0, (.source .blockTable), 0, 4294967295, false, false⟩ /- EraseFailCount -/,
  ⟨0x3001, 0x3001, 0x05, 0x05, .u64, .ro, false, 0, .atReset, 0, 18446744073709551615, false, false⟩ /- PassHoldBytes -/,
  ⟨0x3010, 0x3010, 0x01, 0x01, .u8, .ro, false, 0, (.source .mp), 0, 255, false, false⟩ /- ProfileEntryCount -/,
  ⟨0x3010, 0x3010, 0x02, 0x02, .u32, .ro, false, 0, (.source .mp), 0, 4294967295, false, false⟩ /- ProfileVersion -/,
  ⟨0x3020, 0x3020, 0x01, 0x01, .u64, .ro, false, 0, (.source .superblock), 0, 18446744073709551615, false, false⟩ /- SuperblockGeneration -/,
  ⟨0x3020, 0x3020, 0x02, 0x02, .u8, .ro, false, 0, (.source .superblock), 0, 255, false, false⟩ /- SuperblockSide -/,
  ⟨0x3020, 0x3020, 0x03, 0x03, .u32, .ro, false, 0, (.source .superblock), 0, 4294967295, false, false⟩ /- AnchorSidesLost -/,
  ⟨0x3100, 0x3100, 0x01, 0x01, .u32, .ro, false, 0, (.source .dram), 0, 4294967295, false, false⟩ /- MapAreaChunks -/,
  ⟨0x3100, 0x3100, 0x02, 0x02, .u32, .ro, false, 0, (.source .namespaces), 0, 4294967295, false, false⟩ /- MapChunksFree -/,
  ⟨0x3100, 0x3100, 0x03, 0x03, .u32, .ro, false, 0, (.source .namespaces), 0, 4294967295, false, false⟩ /- MapPagesAllocated -/,
  ⟨0x3100, 0x3100, 0x04, 0x04, .u32, .ro, false, 0, .atReset, 0, 4294967295, false, false⟩ /- MapPagesResident -/,
  ⟨0x3100, 0x3100, 0x05, 0x05, .u32, .ro, false, 0, .atReset, 0, 4294967295, false, false⟩ /- MapPagesDirty -/,
  ⟨0x3100, 0x3100, 0x06, 0x06, .u32, .ro, false, 0, .atReset, 0, 4294967295, false, false⟩ /- ReplayRecordsPending -/,
  ⟨0x3100, 0x3100, 0x07, 0x07, .bool, .ro, false, 0, .atReset, 0, 1, false, false⟩ /- MapResidentComplete -/,
  ⟨0x3110, 0x3110, 0x01, 0x01, .u8, .grd, false, 0, .reads, 1, 3, false, false⟩ /- MapCacheControl -/,
  ⟨0x3110, 0x3110, 0x02, 0x02, .u8, .ro, false, 1, .atReset, 0, 255, false, false⟩ /- MapCacheState -/,
  ⟨0x3110, 0x3110, 0x03, 0x03, .u64, .ro, false, 0, .atReset, 0, 18446744073709551615, false, false⟩ /- MapCacheHits -/,
  ⟨0x3110, 0x3110, 0x04, 0x04, .u64, .ro, false, 0, .atReset, 0, 18446744073709551615, false, false⟩ /- MapCacheMisses -/]

/-- Rows of the object tables, part 2 (spec chapters 05, 06, 08). -/
def objRows2 : List ObjRow := [
  ⟨0x3110, 0x3110, 0x05, 0x05, .u64, .ro, false, 0, .atReset, 0, 18446744073709551615, false, false⟩ /- EvictionBufferHits -/,
  ⟨0x3110, 0x3110, 0x06, 0x06, .u64, .ro, false, 0, .atReset, 0, 18446744073709551615, false, false⟩ /- PrefetchesIssued -/,
  ⟨0x3110, 0x3110, 0x07, 0x07, .u64, .ro, false, 0, .atReset, 0, 18446744073709551615, false, false⟩ /- PrefetchesUsed -/,
  ⟨0x3120, 0x3120, 0x01, 0x01, .u32, .rws, true, 262144, .stored, 65536, 1048576, false, false⟩ /- JournalLimitFrames -/,
  ⟨0x3120, 0x3120, 0x02, 0x02, .u32, .ro, false, 0, (.source .wake), 0, 4294967295, false, false⟩ /- JournalFrames -/,
  ⟨0x3120, 0x3120, 0x03, 0x03, .u64, .ro, false, 0, (.source .wake), 0, 18446744073709551615, false, false⟩ /- JournalSequence -/,
  ⟨0x3120, 0x3120, 0x04, 0x04, .u64, .ro, false, 0, (.source .wake), 0, 18446744073709551615, false, false⟩ /- CheckpointSequence -/,
  ⟨0x3120, 0x3120, 0x05, 0x05, .u32, .ro, false, 0, .atReset, 0, 4294967295, false, false⟩ /- CheckpointCount -/,
  ⟨0x3120, 0x3120, 0x06, 0x06, .u16, .rws, true, 24, .stored, 1, 168, false, false⟩ /- CheckpointIntervalHours -/,
  ⟨0x3130, 0x3130, 0x01, 0x01, .u32, .ro, false, 0, .atReset, 0, 4294967295, false, false⟩ /- MapLinesReloaded -/,
  ⟨0x3130, 0x3130, 0x02, 0x02, .u32, .ro, false, 0, .atReset, 0, 4294967295, false, false⟩ /- MapLinesLost -/,
  ⟨0x3130, 0x3130, 0x03, 0x03, .u32, .ro, false, 0, .atReset, 0, 4294967295, false, false⟩ /- MapPagesLost -/,
  ⟨0x3130, 0x3130, 0x04, 0x04, .u64, .ro, false, 0, .atReset, 0, 18446744073709551615, false, false⟩ /- ConditionalDiscards -/,
  ⟨0x3130, 0x3130, 0x05, 0x05, .u64, .ro, false, 0, .atReset, 0, 18446744073709551615, false, false⟩ /- MapLoadPoolEmpty -/,
  ⟨0x3140, 0x3140, 0x01, 0x01, .u16, .rws, true, 2000, .stored, 500, 16000, false, false⟩ /- BackgroundLoadFloor -/,
  ⟨0x3200, 0x3200, 0x01, 0x01, .u8, .rws, true, 32, .stored, 8, 64, false, false⟩ /- OpenHostStripes -/,
  ⟨0x3200, 0x3200, 0x02, 0x02, .u8, .rws, true, 8, .stored, 2, 32, false, false⟩ /- OpenMovedStripes -/,
  ⟨0x3200, 0x3200, 0x03, 0x03, .u16, .rws, true, 250, .stored, 20, 10000, false, false⟩ /- RowCloseTimeoutMs -/,
  ⟨0x3200, 0x3200, 0x04, 0x04, .u16, .ro, false, 0, .atReset, 0, 65535, false, false⟩ /- StripesOpen -/,
  ⟨0x3200, 0x3200, 0x05, 0x05, .u64, .ro, false, 0, .atReset, 0, 18446744073709551615, false, false⟩ /- RowsProgrammed -/,
  ⟨0x3200, 0x3200, 0x06, 0x06, .u64, .ro, false, 0, .atReset, 0, 18446744073709551615, false, false⟩ /- ShortRows -/,
  ⟨0x3200, 0x3200, 0x07, 0x07, .u64, .ro, false, 0, .atReset, 0, 18446744073709551615, false, false⟩ /- PaddingRows -/,
  ⟨0x3200, 0x3200, 0x08, 0x08, .u64, .ro, false, 0, .atReset, 0, 18446744073709551615, false, false⟩ /- FillerFrames -/,
  ⟨0x3200, 0x3200, 0x09, 0x09, .u32, .ro, false, 0, .atReset, 0, 4294967295, false, false⟩ /- ContinuationGroups -/,
  ⟨0x3201, 0x3201, 0x01, 0x01, .u32, .ro, false, 0, .atReset, 0, 4294967295, false, false⟩ /- WriteBufferCeiling -/,
  ⟨0x3201, 0x3201, 0x02, 0x02, .u32, .ro, false, 0, .atReset, 0, 4294967295, false, false⟩ /- WriteBufferInUse -/,
  ⟨0x3201, 0x3201, 0x03, 0x03, .u32, .ro, false, 0, .atReset, 0, 4294967295, false, false⟩ /- WriteBufferEnergy -/,
  ⟨0x3201, 0x3201, 0x04, 0x04, .u32, .rws, true, 65536, .stored, 0, 65536, false, false⟩ /- WriteBufferMaxGrains -/,
  ⟨0x3201, 0x3201, 0x05, 0x05, .u32, .ro, false, 0, .atReset, 0, 4294967295, false, false⟩ /- FlushEnergyPerGiB -/,
  ⟨0x3202, 0x3202, 0x01, 0x01, .u64, .ro, false, 0, .atReset, 0, 18446744073709551615, false, false⟩ /- WritesDurable -/,
  ⟨0x3202, 0x3202, 0x02, 0x02, .u64, .ro, false, 0, .atReset, 0, 18446744073709551615, false, false⟩ /- WritesBuffered -/,
  ⟨0x3202, 0x3202, 0x03, 0x03, .u64, .ro, false, 0, .atReset, 0, 18446744073709551615, false, false⟩ /- FuaCloses -/,
  ⟨0x3202, 0x3202, 0x04, 0x04, .u64, .ro, false, 0, .atReset, 0, 18446744073709551615, false, false⟩ /- WritesRefusedInhibited -/,
  ⟨0x3202, 0x3202, 0x05, 0x05, .u64, .ro, false, 0, .atReset, 0, 18446744073709551615, false, false⟩ /- ZeroGrainsUnmapped -/,
  ⟨0x3300, 0x3300, 0x01, 0x01, .u64, .ro, false, 0, .atReset, 0, 18446744073709551615, false, false⟩ /- GrainReads -/,
  ⟨0x3300, 0x3300, 0x02, 0x02, .u64, .ro, false, 0, .atReset, 0, 18446744073709551615, false, false⟩ /- GrainReadsFromBuffers -/,
  ⟨0x3300, 0x3300, 0x03, 0x03, .u64, .ro, false, 0, .atReset, 0, 18446744073709551615, false, false⟩ /- RecoveredL2 -/,
  ⟨0x3300, 0x3300, 0x04, 0x04, .u64, .ro, false, 0, .atReset, 0, 18446744073709551615, false, false⟩ /- RecoveredL3 -/,
  ⟨0x3300, 0x3300, 0x05, 0x05, .u64, .ro, false, 0, .atReset, 0, 18446744073709551615, false, false⟩ /- RecoveredL4 -/,
  ⟨0x3300, 0x3300, 0x06, 0x06, .u64, .ro, false, 0, .atReset, 0, 18446744073709551615, false, false⟩ /- RecoveredL5 -/]

/-- Rows of the object tables, part 3 (spec chapters 08, 09, 13). -/
def objRows3 : List ObjRow := [
  ⟨0x3300, 0x3300, 0x07, 0x07, .u64, .ro, false, 0, .atReset, 0, 18446744073709551615, false, false⟩ /- ReconstructionFailures -/,
  ⟨0x3300, 0x3300, 0x08, 0x08, .u64, .ro, false, 0, .atReset, 0, 18446744073709551615, false, false⟩ /- VerificationRecoveries -/,
  ⟨0x3300, 0x3300, 0x09, 0x09, .u64, .ro, false, 0, .atReset, 0, 18446744073709551615, false, false⟩ /- GrainsUnrecovered -/,
  ⟨0x3300, 0x3300, 0x0A, 0x0A, .u64, .ro, false, 0, .atReset, 0, 18446744073709551615, false, false⟩ /- LostGrainReads -/,
  ⟨0x3300, 0x3300, 0x0B, 0x0B, .u64, .ro, false, 0, .atReset, 0, 18446744073709551615, false, false⟩ /- FrameRangeFaults -/,
  ⟨0x3300, 0x3300, 0x0C, 0x0C, .u64, .ro, false, 0, .atReset, 0, 18446744073709551615, false, false⟩ /- ReadsRefusedInhibited -/,
  ⟨0x3300, 0x3300, 0x0D, 0x0D, .u64, .ro, false, 0, .atReset, 0, 18446744073709551615, false, false⟩ /- ReadRecordsSuppressed -/,
  ⟨0x3300, 0x3300, 0x0E, 0x0E, .u64, .ro, false, 0, .atReset, 0, 18446744073709551615, false, false⟩ /- LimitedRetryReads -/,
  ⟨0x3300, 0x3300, 0x0F, 0x0F, .u32, .ro, false, 0, .atReset, 0, 4294967295, false, false⟩ /- RefreshQueuedByRead -/,
  ⟨0x3400, 0x3400, 0x01, 0x01, .u16, .rws, true, 40, .stored, 10, 200, false, false⟩ /- ReclaimStartPermille -/,
  ⟨0x3400, 0x3400, 0x02, 0x02, .u16, .rws, true, 20, .stored, 5, 100, false, false⟩ /- ReclaimUrgentPermille -/,
  ⟨0x3400, 0x3400, 0x03, 0x03, .u16, .rws, true, 8, .stored, 2, 50, false, false⟩ /- ReclaimStopPermille -/,
  ⟨0x3400, 0x3400, 0x04, 0x04, .u16, .rws, true, 500, .stored, 50, 4000, false, false⟩ /- ReclaimBackgroundMBps -/,
  ⟨0x3400, 0x3400, 0x05, 0x05, .u16, .ro, false, 0, .atReset, 0, 65535, false, false⟩ /- FreePermille -/,
  ⟨0x3400, 0x3400, 0x06, 0x06, .u64, .ro, false, 0, .atReset, 0, 18446744073709551615, false, false⟩ /- FramesRelocated -/,
  ⟨0x3400, 0x3400, 0x07, 0x07, .bool, .ro, false, 0, .atReset, 0, 1, false, false⟩ /- PhysicallyFull -/,
  ⟨0x3400, 0x3400, 0x08, 0x08, .u64, .ro, false, 0, .atReset, 0, 18446744073709551615, false, false⟩ /- StripesReleased -/,
  ⟨0x3400, 0x3400, 0x09, 0x09, .u16, .rws, true, 60, .stored, 10, 1440, false, false⟩ /- BlockTableIntervalMin -/,
  ⟨0x3400, 0x3400, 0x0A, 0x0A, .u32, .ro, false, 0, .atReset, 0, 4294967295, false, false⟩ /- StripesPinned -/,
  ⟨0x3400, 0x3400, 0x0B, 0x0B, .u32, .ro, false, 0, .atReset, 0, 4294967295, false, false⟩ /- ReleaseLogEntries -/,
  ⟨0x3400, 0x3400, 0x0F, 0x0F, .u32, .rw, false, 0, .atReset, 1, 2, true, false⟩ /- ReclaimThresholdsCommit -/,
  ⟨0x3410, 0x3410, 0x01, 0x01, .u16, .rws, true, 150, .stored, 20, 2000, false, false⟩ /- WearSpreadLimit -/,
  ⟨0x3410, 0x3410, 0x02, 0x02, .u16, .rws, true, 300, .stored, 50, 5000, false, false⟩ /- WearWeight -/,
  ⟨0x3410, 0x3410, 0x03, 0x03, .u32, .ro, false, 0, (.source .blockTable), 0, 4294967295, false, false⟩ /- EraseCountMean -/,
  ⟨0x3410, 0x3410, 0x04, 0x04, .u32, .ro, false, 0, (.source .blockTable), 0, 4294967295, false, false⟩ /- EraseCountMax -/,
  ⟨0x3410, 0x3410, 0x05, 0x05, .u32, .ro, false, 0, .atReset, 0, 4294967295, false, false⟩ /- WearMovesQueued -/,
  ⟨0x3500, 0x3500, 0x01, 0x01, .u16, .grd, true, 240, .stored, 0, 65535, false, false⟩ /- GaugeModelA -/,
  ⟨0x3500, 0x3500, 0x02, 0x02, .u16, .grd, true, 40, .stored, 0, 65535, false, false⟩ /- GaugeModelTau -/,
  ⟨0x3500, 0x3500, 0x03, 0x03, .u16, .grd, true, 1100, .stored, 0, 65535, false, false⟩ /- GaugeModelEa -/,
  ⟨0x3500, 0x3500, 0x04, 0x04, .u16, .rws, true, 8, .stored, 1, 72, false, false⟩ /- GaugeScanIntervalHours -/,
  ⟨0x3500, 0x3500, 0x05, 0x05, .u32, .rws, true, 20000, .stored, 2000, 50000, false, false⟩ /- GaugeRefreshAge -/,
  ⟨0x3500, 0x3500, 0x06, 0x06, .u32, .ro, false, 0, .atReset, 0, 4294967295, false, false⟩ /- DarkAgeMedian -/,
  ⟨0x3500, 0x3500, 0x07, 0x07, .u32, .ro, false, 0, .atReset, 0, 4294967295, false, false⟩ /- DarkAgeMax -/,
  ⟨0x3500, 0x3500, 0x08, 0x08, .u16, .ro, false, 0, .atReset, 0, 65535, false, false⟩ /- GaugesUnavailable -/,
  ⟨0x3510, 0x3510, 0x01, 0x01, .u16, .rws, true, 250, .stored, 50, 2000, false, false⟩ /- ScrubIntervalInitial -/,
  ⟨0x3510, 0x3510, 0x02, 0x02, .u16, .rws, true, 8000, .stored, 500, 32000, false, false⟩ /- ScrubIntervalMax -/,
  ⟨0x3510, 0x3510, 0x03, 0x03, .u8, .rws, true, 50, .stored, 20, 90, false, false⟩ /- RefreshRatio -/,
  ⟨0x3510, 0x3510, 0x04, 0x04, .u32, .rws, true, 30000, .stored, 1000, 100000, false, false⟩ /- RefreshAgeMax -/,
  ⟨0x3510, 0x3510, 0x05, 0x05, .u64, .ro, false, 0, .atReset, 0, 18446744073709551615, false, false⟩ /- ScrubsRun -/,
  ⟨0x3510, 0x3510, 0x06, 0x06, .u32, .ro, false, 0, .atReset, 0, 4294967295, false, false⟩ /- BlocksOverdueAtWake -/]

/-- Rows of the object tables, part 4 (spec chapters 04, 07, 09). -/
def objRows4 : List ObjRow := [
  ⟨0x3510, 0x3510, 0x07, 0x07, .u64, .ro, false, 0, .atReset, 0, 18446744073709551615, false, false⟩ /- RefreshesQueued -/,
  ⟨0x3520, 0x3520, 0x01, 0x01, .u64, .ro, false, 0, .atCycle, 0, 18446744073709551615, false, false⟩ /- WallClockMs -/,
  ⟨0x3520, 0x3520, 0x02, 0x02, .u8, .ro, false, 0, .atCycle, 0, 255, false, false⟩ /- WallClockSource -/,
  ⟨0x3520, 0x3520, 0x03, 0x03, .u64, .ro, false, 0, .atReset, 0, 18446744073709551615, false, false⟩ /- NextWakeDue -/,
  ⟨0x3520, 0x3520, 0x04, 0x04, .u32, .ro, false, 0, .atReset, 0, 4294967295, false, false⟩ /- NextWakeDueHours -/,
  ⟨0x3520, 0x3520, 0x05, 0x05, .u16, .rws, true, 1000, .stored, 10, 20000, false, false⟩ /- DarkAgingFactor -/,
  ⟨0x3520, 0x3520, 0x06, 0x06, .u16, .ro, false, 0, .atCycle, 0, 65535, false, false⟩ /- ObservedDarkFactor -/,
  ⟨0x3520, 0x3520, 0x07, 0x07, .u16, .rws, true, 168, .stored, 0, 2000, false, false⟩ /- WakeMarginHours -/,
  ⟨0x3520, 0x3520, 0x08, 0x08, .u16, .rws, true, 180, .stored, 1, 3650, false, false⟩ /- NextWakeMaxDays -/,
  ⟨0x4200, 0x4200, 0x01, 0x01, .u8, .rws, true, 2, .stored, 1, 4, false, false⟩ /- CompressionEffort -/,
  ⟨0x4200, 0x4200, 0x02, 0x02, .u8, .rws, true, 0, .stored, 0, 1, false, false⟩ /- CompressionMode -/,
  ⟨0x4200, 0x4200, 0x03, 0x03, .u8, .ro, false, 8, .atReset, 0, 255, false, false⟩ /- CompressionEnginesInService -/,
  ⟨0x4200, 0x4200, 0x04, 0x04, .u8, .ro, false, 16, .atReset, 0, 255, false, false⟩ /- DecompressionEnginesInService -/,
  ⟨0x4210, 0x4210, 0x01, 0x01, .u64, .ro, false, 0, .atReset, 0, 18446744073709551615, false, false⟩ /- GrainsCompressed -/,
  ⟨0x4210, 0x4210, 0x02, 0x02, .u64, .ro, false, 0, .atReset, 0, 18446744073709551615, false, false⟩ /- GrainsStoredRaw -/,
  ⟨0x4210, 0x4210, 0x03, 0x03, .u64, .ro, false, 0, .atReset, 0, 18446744073709551615, false, false⟩ /- RawNoSaving -/,
  ⟨0x4210, 0x4210, 0x04, 0x04, .u64, .ro, false, 0, .atReset, 0, 18446744073709551615, false, false⟩ /- RawVerifyMismatch -/,
  ⟨0x4210, 0x4210, 0x05, 0x05, .u64, .ro, false, 0, .atReset, 0, 18446744073709551615, false, false⟩ /- InputBytes -/,
  ⟨0x4210, 0x4210, 0x06, 0x06, .u64, .ro, false, 0, .atReset, 0, 18446744073709551615, false, false⟩ /- StoredBytes -/,
  ⟨0x4210, 0x4210, 0x07, 0x07, .u64, .ro, false, 0, .atReset, 0, 18446744073709551615, false, false⟩ /- StoredFrames -/,
  ⟨0x4210, 0x4210, 0x08, 0x08, .u64, .ro, false, 0, .atReset, 0, 18446744073709551615, false, false⟩ /- FixedBlocks -/,
  ⟨0x4210, 0x4210, 0x09, 0x09, .u64, .ro, false, 0, .atReset, 0, 18446744073709551615, false, false⟩ /- DynamicBlocks -/,
  ⟨0x4210, 0x4210, 0x0A, 0x0A, .u16, .ro, false, 0, .atReset, 0, 65535, false, false⟩ /- CompressionRatioRecent -/,
  ⟨0x4210, 0x4210, 0x0B, 0x0B, .u64, .ro, false, 0, .atReset, 0, 18446744073709551615, false, false⟩ /- GrainsPassedThrough -/,
  ⟨0x4220, 0x4220, 0x01, 0x0A, .u64, .ro, false, 0, .atReset, 0, 18446744073709551615, false, false⟩ /- DecompressErrors -/,
  ⟨0x4220, 0x4220, 0x0B, 0x0B, .u64, .ro, false, 0, .atReset, 0, 18446744073709551615, false, false⟩ /- EngineDisagreements -/,
  ⟨0x4301, 0x4301, 0x01, 0x01, .u16, .rws, true, 10, .stored, 0, 15, false, false⟩ /- RateHeadroom -/,
  ⟨0x4310, 0x4310, 0x01, 0x01, .u32, .rw, false, 4294967295, .atReset, 0, 67108863, true, false⟩ /- EtaQueryBlock -/,
  ⟨0x4310, 0x4310, 0x02, 0x02, .u8, .ro, false, 4, .atReset, 0, 255, true, false⟩ /- EtaQueryStatus -/,
  ⟨0x4310, 0x4310, 0x03, 0x03, .u8, .ro, false, 255, .atReset, 0, 255, true, false⟩ /- EtaQueryStep -/,
  ⟨0x4310, 0x4310, 0x04, 0x04, .u16, .ro, false, 0, .atReset, 0, 65535, true, false⟩ /- EtaQueryCapacity -/,
  ⟨0x4310, 0x4310, 0x05, 0x05, .u16, .ro, false, 0, .atReset, 0, 65535, true, false⟩ /- EtaQueryEta -/,
  ⟨0x4310, 0x4310, 0x06, 0x06, .u16, .ro, false, 0, .atReset, 0, 65535, true, false⟩ /- EtaQueryFreshC -/,
  ⟨0x4320, 0x4320, 0x01, 0x01, .u16, .ro, false, 0, .atReset, 0, 65535, false, false⟩ /- DeviceEtaMedian -/,
  ⟨0x4320, 0x4320, 0x02, 0x02, .u16, .ro, false, 0, .atReset, 0, 65535, false, false⟩ /- DeviceEtaMin -/,
  ⟨0x4320, 0x4320, 0x03, 0x03, .u16, .ro, false, 0, .atReset, 0, 65535, false, false⟩ /- DeviceCodeRateMean -/,
  ⟨0x4320, 0x4320, 0x04, 0x04, .u16, .ro, false, 0, .atReset, 0, 65535, false, false⟩ /- DeviceCapacityMedian -/,
  ⟨0x4321, 0x4321, 0x01, 0x08, .u32, .ro, false, 0, .atReset, 0, 4294967295, false, false⟩ /- BlocksAtStep -/,
  ⟨0x4340, 0x4340, 0x01, 0x01, .u64, .ro, false, 0, .atReset, 0, 18446744073709551615, false, false⟩ /- HardDecodes -/,
  ⟨0x4340, 0x4340, 0x02, 0x02, .u64, .ro, false, 0, .atReset, 0, 18446744073709551615, false, false⟩ /- HardFailures -/]

/-- Rows of the object tables, part 5 (spec chapters 04, 13, 15, 18). -/
def objRows5 : List ObjRow := [
  ⟨0x4340, 0x4340, 0x03, 0x03, .u64, .ro, false, 0, .atReset, 0, 18446744073709551615, false, false⟩ /- SoftDecodes -/,
  ⟨0x4340, 0x4340, 0x04, 0x04, .u64, .ro, false, 0, .atReset, 0, 18446744073709551615, false, false⟩ /- SoftFailures -/,
  ⟨0x4340, 0x4340, 0x05, 0x05, .u64, .ro, false, 0, .atReset, 0, 18446744073709551615, false, false⟩ /- TrackingRuns -/,
  ⟨0x4340, 0x4340, 0x06, 0x06, .u32, .ro, false, 0, .atReset, 0, 4294967295, false, false⟩ /- RetiredLowCapacity -/,
  ⟨0x4340, 0x4340, 0x07, 0x07, .u32, .ro, false, 0, .atReset, 0, 4294967295, false, false⟩ /- RateEstimatesHigh -/,
  ⟨0x4340, 0x4340, 0x08, 0x08, .u32, .ro, false, 0, .atReset, 0, 4294967295, false, false⟩ /- HeaderStepSearches -/,
  ⟨0x4400, 0x4400, 0x01, 0x01, .u16, .ro, false, 0, (.source .keyArea), 0, 65535, false, false⟩ /- NamespaceKeysLive -/,
  ⟨0x4400, 0x4400, 0x02, 0x02, .u16, .ro, false, 0, (.source .keyArea), 0, 65535, false, false⟩ /- KeyAreaEntriesFree -/,
  ⟨0x4400, 0x4400, 0x03, 0x03, .u16, .ro, false, 0, .atReset, 0, 65535, false, false⟩ /- NamespacesKeyLost -/,
  ⟨0x4410, 0x4410, 0x01, 0x08, .blob, .grd, false, 0, .reads, 0, 0, false, false⟩ /- AuthKey -/,
  ⟨0x4411, 0x4411, 0x01, 0x08, .u8, .grd, false, 15, .atReset, 0, 255, false, false⟩ /- AuthRights -/,
  ⟨0x4412, 0x4412, 0x01, 0x08, .bool, .ro, false, 0, (.source .keyArea), 0, 1, false, false⟩ /- AuthSlotSet -/,
  ⟨0x4420, 0x4420, 0x01, 0x05, .u16, .ro, false, 0, .atCycle, 0, 65535, false, false⟩ /- PathLockSeconds -/,
  ⟨0x4421, 0x4421, 0x01, 0x05, .u8, .ro, false, 0, .atCycle, 0, 255, false, false⟩ /- PathFailures -/,
  ⟨0x4422, 0x4422, 0x01, 0x05, .u8, .ro, false, 0, .atReset, 0, 255, false, false⟩ /- PathChallenges -/,
  ⟨0x4430, 0x4430, 0x01, 0x01, .bool, .grd, true, 0, .stored, 0, 1, false, false⟩ /- DestructiveNeedsAuth -/,
  ⟨0x4440, 0x4440, 0x01, 0x01, .u8, .ro, false, 0, (.source .keyArea), 0, 255, false, false⟩ /- SanitizeState -/,
  ⟨0x4440, 0x4440, 0x02, 0x02, .u8, .ro, false, 0, (.source .keyArea), 0, 255, false, false⟩ /- SanitizeStep -/,
  ⟨0x4450, 0x4450, 0x01, 0x01, .u8, .ro, false, 0, (.source .none), 0, 255, false, false⟩ /- SigningKeysRevoked -/,
  ⟨0x5010, 0x5010, 0x01, 0x01, .u16, .rws, true, 11000, .stored, 10500, 11600, false, false⟩ /- SupplyWarningMv -/,
  ⟨0x5010, 0x5010, 0x02, 0x02, .u16, .ro, false, 0, (.source .round), 0, 65535, false, false⟩ /- VsysMv -/,
  ⟨0x5010, 0x5010, 0x03, 0x03, .u16, .ro, false, 0, .atReset, 0, 65535, false, false⟩ /- SupplyRecoveryMv -/,
  ⟨0x5010, 0x5010, 0x04, 0x04, .u32, .ro, false, 0, .atCycle, 0, 4294967295, false, false⟩ /- SupplyWarnings -/,
  ⟨0x5010, 0x5010, 0x05, 0x05, .u32, .ro, false, 0, .atCycle, 0, 4294967295, false, false⟩ /- SagsRecovered -/,
  ⟨0x5010, 0x5010, 0x06, 0x06, .u16, .ro, false, 0, (.source .round), 0, 65535, false, false⟩ /- VsysMinMv -/,
  ⟨0x5011, 0x5011, 0x01, 0x08, .u16, .ro, false, 0, (.source .round), 0, 65535, false, false⟩ /- RailMv -/,
  ⟨0x5020, 0x5020, 0x01, 0x01, .u8, .ro, false, 0, .atReset, 0, 255, false, false⟩ /- HoldUpState -/,
  ⟨0x5020, 0x5020, 0x03, 0x03, .u32, .ro, false, 0, .atReset, 0, 4294967295, false, false⟩ /- HoldUpCapacitanceUf -/,
  ⟨0x5020, 0x5020, 0x04, 0x04, .u16, .ro, false, 0, .atReset, 0, 65535, false, false⟩ /- HoldUpEsrMohm -/,
  ⟨0x5020, 0x5020, 0x05, 0x05, .u32, .ro, false, 0, .atReset, 0, 4294967295, false, false⟩ /- HoldUpRawMj -/,
  ⟨0x5020, 0x5020, 0x06, 0x06, .u32, .ro, false, 0, .atReset, 0, 4294967295, false, false⟩ /- HoldUpDeductionMj -/,
  ⟨0x5020, 0x5020, 0x07, 0x07, .u32, .ro, false, 0, .atReset, 0, 4294967295, false, false⟩ /- HoldUpVerifiedMj -/,
  ⟨0x5020, 0x5020, 0x08, 0x08, .u32, .ro, false, 0, (.source .round), 0, 4294967295, false, false⟩ /- HoldUpSenseMv -/,
  ⟨0x5020, 0x5020, 0x09, 0x09, .u16, .grd, true, 2000, .stored, 500, 5000, false, false⟩ /- HoldUpTestCurrentMa -/,
  ⟨0x5020, 0x5020, 0x0A, 0x0A, .u16, .grd, true, 33000, .stored, 20000, 40000, false, false⟩ /- HoldUpFloorMv -/,
  ⟨0x5020, 0x5020, 0x0B, 0x0B, .u16, .grd, true, 14000, .stored, 10000, 30000, false, false⟩ /- HoldUpMinMv -/,
  ⟨0x5020, 0x5020, 0x0C, 0x0C, .u8, .grd, true, 90, .stored, 70, 98, false, false⟩ /- HoldUpEfficiencyPct -/,
  ⟨0x5020, 0x5020, 0x0D, 0x0D, .u16, .grd, true, 250, .stored, 10, 2000, false, false⟩ /- HoldUpEsrMaxMohm -/,
  ⟨0x5020, 0x5020, 0x0E, 0x0E, .u16, .rws, true, 24, .stored, 1, 168, false, false⟩ /- HoldUpTestIntervalHours -/,
  ⟨0x5020, 0x5020, 0x10, 0x10, .u8, .rw, false, 0, .reads, 1, 1, false, false⟩ /- HoldUpTestRequest -/]

/-- Rows of the object tables, part 6 (spec chapters 02, 13, 15, 16, 19). -/
def objRows6 : List ObjRow := [
  ⟨0x5020, 0x5020, 0x11, 0x11, .u32, .ro, false, 0, .atReset, 0, 4294967295, false, false⟩ /- HoldUpTestsRun -/,
  ⟨0x5020, 0x5020, 0x12, 0x12, .u32, .ro, false, 0, .atReset, 0, 4294967295, false, false⟩ /- HoldUpTestsFailed -/,
  ⟨0x5020, 0x5020, 0x14, 0x14, .u8, .ro, false, 0, .atReset, 0, 255, false, false⟩ /- HoldUpFailCause -/,
  ⟨0x5100, 0x5100, 0x01, 0x01, .u8, .ro, false, 0, (.source .none), 0, 255, false, false⟩ /- VidCode -/,
  ⟨0x5100, 0x5100, 0x02, 0x02, .u16, .ro, false, 0, (.source .ring), 0, 65535, false, false⟩ /- Pace -/,
  ⟨0x5100, 0x5100, 0x03, 0x03, .u8, .rws, true, 40, .stored, 0, 120, false, false⟩ /- VidFloorCode -/,
  ⟨0x5100, 0x5100, 0x04, 0x04, .u8, .ro, false, 0, .atReset, 0, 255, false, false⟩ /- ThrottleLevel -/,
  ⟨0x5100, 0x5100, 0x05, 0x05, .u16, .ro, false, 0, .atReset, 0, 65535, false, false⟩ /- TokensWithheld -/,
  ⟨0x5120, 0x5120, 0x01, 0x01, .u16, .ro, false, 0, (.source .settings), 0, 65535, false, false⟩ /- TokenPoolTotal -/,
  ⟨0x5120, 0x5120, 0x02, 0x02, .u16, .ro, false, 0, .atReset, 0, 65535, false, false⟩ /- TokensFree -/,
  ⟨0x5120, 0x5120, 0x03, 0x03, .u16, .rws, true, 6000, .stored, 2000, 20000, false, false⟩ /- TokenPoolSize -/,
  ⟨0x5120, 0x5120, 0x04, 0x04, .u16, .rws, true, 64, .stored, 0, 375, false, false⟩ /- TokenBankReserve -/,
  ⟨0x5120, 0x5120, 0x05, 0x05, .u16, .rws, true, 1600, .stored, 500, 20000, false, false⟩ /- TokenBankQuota -/,
  ⟨0x5120, 0x5120, 0x06, 0x06, .u32, .ro, false, 0, .atReset, 0, 4294967295, false, false⟩ /- TokenGuardEngagements -/,
  ⟨0x5200, 0x5200, 0x01, 0x07, .u8, .ro, false, 0, .atReset, 0, 255, false, false⟩ /- DomainState -/,
  ⟨0x5200, 0x5200, 0x10, 0x1F, .u8, .ro, false, 0, .atReset, 0, 255, false, false⟩ /- DomainState -/,
  ⟨0x5210, 0x5210, 0x01, 0x07, .u32, .rws, true, 0, .stored, 0, 4294967295, false, false⟩ /- RetainBanks -/,
  ⟨0x5210, 0x5210, 0x10, 0x1F, .u32, .rws, true, 0, .stored, 0, 4294967295, false, false⟩ /- RetainBanks -/,
  ⟨0x5220, 0x5220, 0x01, 0x07, .u32, .ro, false, 0, .atReset, 0, 4294967295, false, false⟩ /- EntryRequests -/,
  ⟨0x5220, 0x5220, 0x10, 0x1F, .u32, .ro, false, 0, .atReset, 0, 4294967295, false, false⟩ /- EntryRequests -/,
  ⟨0x5230, 0x5230, 0x01, 0x07, .u32, .ro, false, 0, .atReset, 0, 4294967295, false, false⟩ /- EntryRefusals -/,
  ⟨0x5230, 0x5230, 0x10, 0x1F, .u32, .ro, false, 0, .atReset, 0, 4294967295, false, false⟩ /- EntryRefusals -/,
  ⟨0x5240, 0x5240, 0x01, 0x07, .u32, .ro, false, 0, .atReset, 0, 4294967295, false, false⟩ /- EntryAborts -/,
  ⟨0x5240, 0x5240, 0x10, 0x1F, .u32, .ro, false, 0, .atReset, 0, 4294967295, false, false⟩ /- EntryAborts -/,
  ⟨0x5250, 0x5250, 0x01, 0x07, .u8, .ro, false, 0, .atReset, 0, 255, false, false⟩ /- LastRefuser -/,
  ⟨0x5250, 0x5250, 0x10, 0x1F, .u8, .ro, false, 0, .atReset, 0, 255, false, false⟩ /- LastRefuser -/,
  ⟨0x5260, 0x5260, 0x01, 0x07, .u32, .ro, false, 0, .atReset, 0, 4294967295, false, false⟩ /- WakesDuringEntry -/,
  ⟨0x5260, 0x5260, 0x10, 0x1F, .u32, .ro, false, 0, .atReset, 0, 4294967295, false, false⟩ /- WakesDuringEntry -/,
  ⟨0x5300, 0x5300, 0x01, 0x01, .u8, .ro, false, 0, (.source .round), 0, 255, false, false⟩ /- DieTempMax -/,
  ⟨0x5300, 0x5300, 0x02, 0x02, .u8, .ro, false, 0, (.source .round), 0, 255, false, false⟩ /- DieTempMin -/,
  ⟨0x5301, 0x5301, 0x01, 0x0C, .u8, .ro, false, 0, (.source .round), 0, 255, false, false⟩ /- SensorTemp -/,
  ⟨0x6001, 0x6001, 0x01, 0x01, .u8, .ro, false, 2, .atReset, 0, 255, false, false⟩ /- OperatingMode -/,
  ⟨0x6001, 0x6001, 0x02, 0x02, .u8, .ro, false, 1, .atReset, 0, 255, false, false⟩ /- PreviousMode -/,
  ⟨0x6001, 0x6001, 0x03, 0x03, .u32, .ro, false, 0, .atReset, 0, 4294967295, false, false⟩ /- ModeCauses -/,
  ⟨0x6001, 0x6001, 0x04, 0x04, .u32, .ro, false, 0, .atReset, 0, 4294967295, false, false⟩ /- ModeEntryHours -/,
  ⟨0x6001, 0x6001, 0x05, 0x05, .u32, .ro, false, 0, .atReset, 0, 4294967295, false, false⟩ /- ModeChangeCount -/,
  ⟨0x6020, 0x6020, 0x01, 0x01, .u32, .ro, false, 0, (.source .none), 0, 4294967295, false, false⟩ /- LogbookHeadSequence -/,
  ⟨0x6020, 0x6020, 0x02, 0x02, .u32, .ro, false, 0, (.source .none), 0, 4294967295, false, false⟩ /- LogbookPersistedSequence -/,
  ⟨0x6020, 0x6020, 0x03, 0x03, .u32, .ro, false, 0, (.source .none), 0, 4294967295, false, false⟩ /- LogbookOldestSequence -/,
  ⟨0x6020, 0x6020, 0x04, 0x04, .u32, .ro, false, 0, (.source .none), 0, 4294967295, false, false⟩ /- LogbookRecordsHeld -/]

/-- Rows of the object tables, part 7 (spec chapters 10, 16, 19). -/
def objRows7 : List ObjRow := [
  ⟨0x6020, 0x6020, 0x05, 0x05, .u32, .rw, false, 0, .atReset, 0, 4294967295, false, false⟩ /- LogbookReadSequence -/,
  ⟨0x6020, 0x6020, 0x06, 0x06, .blob, .ro, false, 0, (.source .none), 0, 0, false, false⟩ /- LogbookRecords -/,
  ⟨0x6020, 0x6020, 0x07, 0x07, .u64, .ro, false, 0, .atCycle, 0, 18446744073709551615, false, false⟩ /- LogbookRecordsOverwritten -/,
  ⟨0x6020, 0x6020, 0x08, 0x08, .u8, .grd, false, 0, .reads, 1, 1, false, false⟩ /- LogbookClear -/,
  ⟨0x6020, 0x6020, 0x09, 0x09, .u32, .ro, false, 0, .atReset, 0, 4294967295, false, false⟩ /- LogbookFlushes -/,
  ⟨0x6020, 0x6020, 0x0A, 0x0A, .u16, .ro, false, 0, (.source .none), 0, 65535, false, false⟩ /- LogbookFramesHeld -/,
  ⟨0x6021, 0x6021, 0x01, 0x03, .u32, .rws, true, 0, .stored, 0, 4294967295, false, false⟩ /- FaultSnapshotObject -/,
  ⟨0x6100, 0x6100, 0x01, 0x01, .u8, .ro, false, 0, .atReset, 0, 255, false, false⟩ /- RestripeState -/,
  ⟨0x6100, 0x6100, 0x02, 0x02, .u32, .ro, false, 0, (.source .blockTable), 0, 4294967295, false, false⟩ /- RestripeSetStripes -/,
  ⟨0x6100, 0x6100, 0x03, 0x03, .u64, .ro, false, 0, .atReset, 0, 18446744073709551615, false, false⟩ /- StripesRestriped -/,
  ⟨0x6100, 0x6100, 0x04, 0x04, .u32, .ro, false, 0, .atReset, 0, 4294967295, false, false⟩ /- StripesLost -/,
  ⟨0x6100, 0x6100, 0x05, 0x05, .u16, .rws, true, 6000, .stored, 100, 16000, false, false⟩ /- RestripeMBps -/,
  ⟨0x6100, 0x6100, 0x06, 0x06, .u64, .ro, false, 0, .atReset, 0, 18446744073709551615, false, false⟩ /- RestripeFramesLeft -/,
  ⟨0x6100, 0x6100, 0x07, 0x07, .u16, .ro, false, 1000, .atReset, 0, 65535, false, false⟩ /- RestripeProgressPermille -/,
  ⟨0x6100, 0x6100, 0x08, 0x08, .u64, .ro, false, 0, .atReset, 0, 18446744073709551615, false, false⟩ /- GrainsMarkedLost -/,
  ⟨0x6100, 0x6100, 0x09, 0x09, .u16, .rws, true, 8, .stored, 2, 256, false, false⟩ /- DieFreshFailLimit -/,
  ⟨0x6110, 0x6110, 0x01, 0x01, .u32, .ro, false, 0, (.source .lostLog), 0, 4294967295, false, false⟩ /- LostRangeEntries -/,
  ⟨0x6110, 0x6110, 0x02, 0x02, .u64, .ro, false, 0, (.source .lostLog), 0, 18446744073709551615, false, false⟩ /- LostRangeDropped -/,
  ⟨0x6120, 0x6120, 0x01, 0x01, .bool, .rws, true, 1, .stored, 0, 1, false, false⟩ /- AutoJoinBlank -/,
  ⟨0x6120, 0x6120, 0x02, 0x02, .u16, .ro, false, 0, .atReset, 0, 65535, false, false⟩ /- BanksInService -/,
  ⟨0x6120, 0x6120, 0x03, 0x03, .u16, .ro, false, 0, (.source .superblock), 0, 65535, false, false⟩ /- BanksExpected -/,
  ⟨0x6120, 0x6120, 0x04, 0x04, .bool, .rws, true, 1, .stored, 0, 1, false, false⟩ /- AutoPowerOnInsert -/,
  ⟨0x6200, 0x6200, 0x01, 0x01, .u64, .ro, false, 0, .atReset, 0, 18446744073709551615, false, false⟩ /- LedgerChecks -/,
  ⟨0x6201, 0x6201, 0x01, 0x01, .u32, .ro, false, 0, (.source .none), 0, 4294967295, false, false⟩ /- LedgerTotal -/,
  ⟨0x6201, 0x6201, 0x02, 0x02, .u32, .ro, false, 0, (.source .none), 0, 4294967295, false, false⟩ /- LedgerFree -/,
  ⟨0x6201, 0x6201, 0x03, 0x03, .u32, .ro, false, 0, .atReset, 0, 4294967295, false, false⟩ /- LedgerHeldSum -/,
  ⟨0x6201, 0x6201, 0x04, 0x04, .blob, .ro, false, 0, .atReset, 0, 0, false, false⟩ /- LedgerOwnerHeld -/,
  ⟨0x6201, 0x6201, 0x05, 0x05, .u64, .ro, false, 0, .atReset, 0, 18446744073709551615, false, false⟩ /- LedgerRequestsRefused -/,
  ⟨0x6202, 0x6202, 0x01, 0x01, .u32, .ro, false, 0, (.source .none), 0, 4294967295, false, false⟩ /- LedgerTotal -/,
  ⟨0x6202, 0x6202, 0x02, 0x02, .u32, .ro, false, 0, (.source .none), 0, 4294967295, false, false⟩ /- LedgerFree -/,
  ⟨0x6202, 0x6202, 0x03, 0x03, .u32, .ro, false, 0, .atReset, 0, 4294967295, false, false⟩ /- LedgerHeldSum -/,
  ⟨0x6202, 0x6202, 0x04, 0x04, .blob, .ro, false, 0, .atReset, 0, 0, false, false⟩ /- LedgerOwnerHeld -/,
  ⟨0x6202, 0x6202, 0x05, 0x05, .u64, .ro, false, 0, .atReset, 0, 18446744073709551615, false, false⟩ /- LedgerRequestsRefused -/,
  ⟨0x6203, 0x6203, 0x01, 0x01, .u32, .ro, false, 0, (.source .none), 0, 4294967295, false, false⟩ /- LedgerTotal -/,
  ⟨0x6203, 0x6203, 0x02, 0x02, .u32, .ro, false, 0, (.source .none), 0, 4294967295, false, false⟩ /- LedgerFree -/,
  ⟨0x6203, 0x6203, 0x03, 0x03, .u32, .ro, false, 0, .atReset, 0, 4294967295, false, false⟩ /- LedgerHeldSum -/,
  ⟨0x6203, 0x6203, 0x04, 0x04, .blob, .ro, false, 0, .atReset, 0, 0, false, false⟩ /- LedgerOwnerHeld -/,
  ⟨0x6203, 0x6203, 0x05, 0x05, .u64, .ro, false, 0, .atReset, 0, 18446744073709551615, false, false⟩ /- LedgerRequestsRefused -/,
  ⟨0x6204, 0x6204, 0x01, 0x01, .u32, .ro, false, 0, (.source .none), 0, 4294967295, false, false⟩ /- LedgerTotal -/,
  ⟨0x6204, 0x6204, 0x02, 0x02, .u32, .ro, false, 0, (.source .none), 0, 4294967295, false, false⟩ /- LedgerFree -/]

/-- Rows of the object tables, part 8 (spec chapters 13, 16, 17). -/
def objRows8 : List ObjRow := [
  ⟨0x6204, 0x6204, 0x03, 0x03, .u32, .ro, false, 0, .atReset, 0, 4294967295, false, false⟩ /- LedgerHeldSum -/,
  ⟨0x6204, 0x6204, 0x04, 0x04, .blob, .ro, false, 0, .atReset, 0, 0, false, false⟩ /- LedgerOwnerHeld -/,
  ⟨0x6204, 0x6204, 0x05, 0x05, .u64, .ro, false, 0, .atReset, 0, 18446744073709551615, false, false⟩ /- LedgerRequestsRefused -/,
  ⟨0x6205, 0x6205, 0x01, 0x01, .u32, .ro, false, 0, (.source .none), 0, 4294967295, false, false⟩ /- LedgerTotal -/,
  ⟨0x6205, 0x6205, 0x02, 0x02, .u32, .ro, false, 0, (.source .none), 0, 4294967295, false, false⟩ /- LedgerFree -/,
  ⟨0x6205, 0x6205, 0x03, 0x03, .u32, .ro, false, 0, .atReset, 0, 4294967295, false, false⟩ /- LedgerHeldSum -/,
  ⟨0x6205, 0x6205, 0x04, 0x04, .blob, .ro, false, 0, .atReset, 0, 0, false, false⟩ /- LedgerOwnerHeld -/,
  ⟨0x6205, 0x6205, 0x05, 0x05, .u64, .ro, false, 0, .atReset, 0, 18446744073709551615, false, false⟩ /- LedgerRequestsRefused -/,
  ⟨0x6206, 0x6206, 0x01, 0x01, .u32, .ro, false, 0, (.source .none), 0, 4294967295, false, false⟩ /- LedgerTotal -/,
  ⟨0x6206, 0x6206, 0x02, 0x02, .u32, .ro, false, 0, (.source .none), 0, 4294967295, false, false⟩ /- LedgerFree -/,
  ⟨0x6206, 0x6206, 0x03, 0x03, .u32, .ro, false, 0, .atReset, 0, 4294967295, false, false⟩ /- LedgerHeldSum -/,
  ⟨0x6206, 0x6206, 0x04, 0x04, .blob, .ro, false, 0, .atReset, 0, 0, false, false⟩ /- LedgerOwnerHeld -/,
  ⟨0x6206, 0x6206, 0x05, 0x05, .u64, .ro, false, 0, .atReset, 0, 18446744073709551615, false, false⟩ /- LedgerRequestsRefused -/,
  ⟨0x6207, 0x6207, 0x01, 0x01, .u32, .ro, false, 0, (.source .none), 0, 4294967295, false, false⟩ /- LedgerTotal -/,
  ⟨0x6207, 0x6207, 0x02, 0x02, .u32, .ro, false, 0, (.source .none), 0, 4294967295, false, false⟩ /- LedgerFree -/,
  ⟨0x6207, 0x6207, 0x03, 0x03, .u32, .ro, false, 0, .atReset, 0, 4294967295, false, false⟩ /- LedgerHeldSum -/,
  ⟨0x6207, 0x6207, 0x04, 0x04, .blob, .ro, false, 0, .atReset, 0, 0, false, false⟩ /- LedgerOwnerHeld -/,
  ⟨0x6207, 0x6207, 0x05, 0x05, .u64, .ro, false, 0, .atReset, 0, 18446744073709551615, false, false⟩ /- LedgerRequestsRefused -/,
  ⟨0x6208, 0x6208, 0x01, 0x01, .u32, .ro, false, 0, (.source .none), 0, 4294967295, false, false⟩ /- LedgerTotal -/,
  ⟨0x6208, 0x6208, 0x02, 0x02, .u32, .ro, false, 0, (.source .none), 0, 4294967295, false, false⟩ /- LedgerFree -/,
  ⟨0x6208, 0x6208, 0x03, 0x03, .u32, .ro, false, 0, .atReset, 0, 4294967295, false, false⟩ /- LedgerHeldSum -/,
  ⟨0x6208, 0x6208, 0x04, 0x04, .blob, .ro, false, 0, .atReset, 0, 0, false, false⟩ /- LedgerOwnerHeld -/,
  ⟨0x6208, 0x6208, 0x05, 0x05, .u64, .ro, false, 0, .atReset, 0, 18446744073709551615, false, false⟩ /- LedgerRequestsRefused -/,
  ⟨0x6209, 0x6209, 0x01, 0x01, .blob, .ro, false, 0, .atReset, 0, 0, false, false⟩ /- LeakAudit -/,
  ⟨0x6300, 0x6300, 0x01, 0x01, .u8, .ro, false, 1, .atReset, 0, 255, false, false⟩ /- ComplexInControl -/,
  ⟨0x6300, 0x6300, 0x02, 0x02, .u8, .ro, false, 0, .atReset, 0, 255, false, false⟩ /- PrimaryState -/,
  ⟨0x6300, 0x6300, 0x03, 0x03, .u8, .ro, false, 2, .atReset, 0, 255, false, false⟩ /- StandbyState -/,
  ⟨0x6300, 0x6300, 0x04, 0x04, .u32, .ro, false, 0, .atCycle, 0, 4294967295, false, false⟩ /- Takeovers -/,
  ⟨0x6300, 0x6300, 0x05, 0x05, .u32, .ro, false, 0, .atCycle, 0, 4294967295, false, false⟩ /- PrimaryReturns -/,
  ⟨0x6300, 0x6300, 0x06, 0x06, .u8, .ro, false, 0, .atCycle, 0, 255, false, false⟩ /- ReturnsInWindow -/,
  ⟨0x6300, 0x6300, 0x07, 0x07, .u64, .ro, false, 0, .atReset, 0, 18446744073709551615, false, false⟩ /- GovernorInjections -/,
  ⟨0x6300, 0x6300, 0x08, 0x08, .u8, .ro, false, 0, .atCycle, 0, 255, false, false⟩ /- LastTakeoverCause -/,
  ⟨0x6300, 0x6300, 0x09, 0x09, .u16, .ro, false, 0, .atCycle, 0, 65535, false, false⟩ /- LastTakeoverMicros -/,
  ⟨0x6300, 0x6300, 0x0A, 0x0A, .u16, .ro, false, 0, .atReset, 0, 65535, false, false⟩ /- EpochCopyLines -/,
  ⟨0x6300, 0x6300, 0x0B, 0x0B, .u64, .ro, false, 0, .atReset, 0, 18446744073709551615, false, false⟩ /- EpochLinesCarried -/,
  ⟨0x6300, 0x6300, 0x0C, 0x0C, .u16, .ro, false, 0, .atReset, 0, 65535, false, false⟩ /- LastSelfTestMs -/,
  ⟨0x6300, 0x6300, 0x0D, 0x0D, .u16, .rws, true, 100, .stored, 0, 65535, false, false⟩ /- StandbyRetentionIdleMs -/,
  ⟨0x7000, 0x7000, 0x01, 0x01, .u32, .ro, false, 0, (.source .settings), 0, 4294967295, false, false⟩ /- SettingsVersion -/,
  ⟨0x7000, 0x7000, 0x02, 0x02, .u8, .ro, false, 0, (.source .boot), 0, 255, false, false⟩ /- SettingsActiveCopy -/,
  ⟨0x7000, 0x7000, 0x03, 0x03, .u32, .ro, false, 0, .atReset, 0, 4294967295, false, false⟩ /- SettingsWrites -/]

/-- Rows of the object tables, part 9 (spec chapters 03, 10, 13, 15, 20). -/
def objRows9 : List ObjRow := [
  ⟨0x7000, 0x7000, 0x04, 0x04, .u32, .ro, false, 0, .atReset, 0, 4294967295, false, false⟩ /- SettingsCompactions -/,
  ⟨0x7010, 0x7010, 0x01, 0x01, .u8, .ro, false, 0, (.source .boot), 0, 255, false, false⟩ /- RunningSlot -/,
  ⟨0x7010, 0x7010, 0x02, 0x02, .u8, .ro, false, 0, (.source .boot), 0, 255, false, false⟩ /- NextSlot -/,
  ⟨0x7010, 0x7010, 0x03, 0x03, .u8, .ro, false, 0, (.source .boot), 0, 255, false, false⟩ /- LastGoodSlot -/,
  ⟨0x7010, 0x7010, 0x04, 0x04, .u8, .ro, false, 0, (.source .boot), 0, 255, false, false⟩ /- BootAttempts -/,
  ⟨0x7010, 0x7010, 0x05, 0x05, .u8, .ro, false, 0, (.source .boot), 0, 255, false, false⟩ /- Slot1Flags -/,
  ⟨0x7010, 0x7010, 0x06, 0x06, .u8, .ro, false, 0, (.source .boot), 0, 255, false, false⟩ /- Slot2Flags -/,
  ⟨0x7011, 0x7011, 0x01, 0x05, .u32, .ro, false, 0, (.source .boot), 0, 4294967295, false, false⟩ /- RunningVersion -/,
  ⟨0x7012, 0x7012, 0x01, 0x04, .u32, .ro, false, 0, (.source .boot), 0, 4294967295, false, false⟩ /- SlotVersion -/,
  ⟨0x7013, 0x7013, 0x01, 0x04, .u32, .ro, false, 0, (.source .boot), 0, 4294967295, false, false⟩ /- SlotVersion -/,
  ⟨0x7014, 0x7014, 0x01, 0x05, .u16, .ro, false, 0, (.source .none), 0, 65535, false, false⟩ /- FusedMinimum -/,
  ⟨0x7020, 0x7020, 0x01, 0x01, .u8, .grd, false, 0, .reads, 1, 1, false, false⟩ /- SettingsAcknowledge -/,
  ⟨0x7020, 0x7020, 0x02, 0x02, .u8, .grd, false, 0, .reads, 1, 1, false, false⟩ /- SettingsRestoreDefaults -/,
  ⟨0x7030, 0x7030, 0x01, 0x01, .bool, .ro, false, 0, (.source .none), 0, 1, false, false⟩ /- CodeStoreWriteProtect -/,
  ⟨0x7030, 0x7030, 0x02, 0x02, .u32, .ro, false, 0, .atReset, 0, 4294967295, false, false⟩ /- ErasesRedone -/,
  ⟨0x7030, 0x7030, 0x03, 0x03, .u32, .ro, false, 0, .atReset, 0, 4294967295, false, false⟩ /- VerifyFailures -/,
  ⟨0x7030, 0x7030, 0x04, 0x04, .u16, .ro, false, 0, (.source .none), 0, 65535, false, false⟩ /- BlocksWorn -/,
  ⟨0x7030, 0x7030, 0x05, 0x05, .u32, .ro, false, 0, (.source .none), 0, 4294967295, false, false⟩ /- EraseCountMax -/,
  ⟨0x7030, 0x7030, 0x06, 0x06, .blob, .ro, false, 0, (.source .none), 0, 0, false, false⟩ /- CodeStoreEraseCounts -/,
  ⟨0x7040, 0x7040, 0x01, 0x01, .u8, .rw, false, 0, .atReset, 1, 2, false, false⟩ /- RecoveryTargetSlot -/,
  ⟨0x7040, 0x7040, 0x02, 0x02, .u32, .rw, false, 0, .atReset, 0, 4294967295, false, false⟩ /- RecoveryOffset -/,
  ⟨0x7040, 0x7040, 0x03, 0x03, .blob, .wo, false, 0, .reads, 0, 0, false, false⟩ /- RecoveryChunk -/,
  ⟨0x7040, 0x7040, 0x04, 0x04, .u8, .wo, false, 0, .reads, 1, 3, false, false⟩ /- RecoveryCommit -/,
  ⟨0x7040, 0x7040, 0x05, 0x05, .u32, .ro, false, 0, .atReset, 0, 4294967295, false, false⟩ /- RecoveryBytesWritten -/,
  ⟨0x8100, 0x8100, 0x00, 0x7F, .u8, .rws, true, 1, .stored, 1, 3, false, true⟩ /- ChannelRateCode -/,
  ⟨0x8101, 0x8101, 0x00, 0x7F, .u8, .ro, false, 0, .atReset, 0, 255, false, true⟩ /- ChannelState -/,
  ⟨0x8102, 0x8102, 0x00, 0x7F, .u8, .ro, false, 0, .atReset, 0, 255, false, true⟩ /- ChannelRateActual -/,
  ⟨0x8103, 0x8103, 0x00, 0x7F, .u8, .ro, false, 255, .atReset, 0, 255, false, true⟩ /- ChannelProfileEntry -/,
  ⟨0x8104, 0x8104, 0x00, 0x7F, .u32, .ro, false, 0, .atReset, 0, 4294967295, false, true⟩ /- ChannelOpTimeouts -/,
  ⟨0x8105, 0x8105, 0x00, 0x7F, .u8, .ro, false, 0, .atReset, 0, 255, false, true⟩ /- ChannelTargetsPresent -/,
  ⟨0x8200, 0x8200, 0x00, 0x0F, .u8, .ro, false, 0, .atReset, 0, 255, false, true⟩ /- CarrierState -/,
  ⟨0x8201, 0x8201, 0x00, 0x0F, .u8, .ro, false, 0, .atReset, 0, 255, false, true⟩ /- CarrierSignals -/,
  ⟨0x8202, 0x8202, 0x00, 0x0F, .u8, .grd, false, 0, .reads, 1, 5, false, true⟩ /- CarrierCommand -/,
  ⟨0x8203, 0x8203, 0x00, 0x0F, .u8, .ro, false, 0, .atCycle, 0, 255, false, true⟩ /- CarrierFaultCount -/,
  ⟨0x8204, 0x8204, 0x00, 0x0F, .u16, .ro, false, 0, .atReset, 0, 65535, false, true⟩ /- CarrierDiesInService -/,
  ⟨0x8205, 0x8205, 0x00, 0x0F, .u32, .ro, false, 0, (.source .blockTable), 0, 4294967295, false, true⟩ /- CarrierJoinHours -/,
  ⟨0x8206, 0x8206, 0x00, 0x0F, .u64, .ro, false, 0, (.source .superblock), 0, 18446744073709551615, false, true⟩ /- CarrierLastGeneration -/,
  ⟨0x8207, 0x8207, 0x00, 0x0F, .bool, .rw, false, 0, .atReset, 0, 1, false, true⟩ /- CarrierLocate -/,
  ⟨0x8210, 0x8210, 0x00, 0x0F, .u8, .ro, false, 0, (.source .round), 0, 255, false, true⟩ /- CarrierTemperature -/,
  ⟨0x8211, 0x8211, 0x00, 0x0F, .u8, .ro, false, 0, .atReset, 0, 255, false, true⟩ /- CarrierThermalState -/]

/-- Rows of the object tables, part 10 (spec chapters 04, 09, 13). -/
def objRows10 : List ObjRow := [
  ⟨0x8300, 0x831F, 0x00, 0x7F, .u16, .ro, false, 0, .atReset, 0, 65535, false, true⟩ /- DieEtaMedian -/,
  ⟨0x8320, 0x833F, 0x00, 0x7F, .u16, .ro, false, 0, .atReset, 0, 65535, false, true⟩ /- DieCapacityMedian -/,
  ⟨0x8340, 0x835F, 0x00, 0x7F, .u16, .ro, false, 100, .atReset, 0, 65535, false, true⟩ /- DieWearSlope -/,
  ⟨0x8360, 0x837F, 0x00, 0x7F, .u32, .ro, false, 0, (.source .calendar), 0, 4294967295, false, true⟩ /- DieThermalAge -/,
  ⟨0xA001, 0xA001, 0x01, 0x01, .u32, .ro, false, 0, (.source .counters), 0, 4294967295, false, false⟩ /- OperatingHours -/,
  ⟨0xA001, 0xA001, 0x02, 0x02, .u32, .ro, false, 0, (.source .counters), 0, 4294967295, false, false⟩ /- PowerCycleCount -/]

/-- Every row of every object table. -/
def objRows : List ObjRow :=
  objRows0 ++ objRows1 ++ objRows2 ++ objRows3 ++ objRows4 ++ objRows5 ++ objRows6 ++ objRows7 ++ objRows8 ++ objRows9 ++ objRows10

/-- The 24-bit key of an object: index × 256 + subindex (R559). -/
def objKey (idx sub : Nat) : Nat := idx * 256 + sub

/-! ### Names of the objects, by key -/
def Obj.operatingMode : Nat := 0x600101
def Obj.previousMode : Nat := 0x600102
def Obj.modeCauses : Nat := 0x600103
def Obj.modeEntryHours : Nat := 0x600104
def Obj.modeChangeCount : Nat := 0x600105
def Obj.channelRateCode (n : Nat) : Nat := objKey 0x8100 n
def Obj.channelState (n : Nat) : Nat := objKey 0x8101 n
def Obj.channelRateActual (n : Nat) : Nat := objKey 0x8102 n
def Obj.channelProfileEntry (n : Nat) : Nat := objKey 0x8103 n
def Obj.channelOpTimeouts (n : Nat) : Nat := objKey 0x8104 n
def Obj.channelTargetsPresent (n : Nat) : Nat := objKey 0x8105 n
def Obj.diesInService : Nat := 0x300101
def Obj.blocksRetired : Nat := 0x300102
def Obj.programFailCount : Nat := 0x300103
def Obj.eraseFailCount : Nat := 0x300104
def Obj.passHoldBytes : Nat := 0x300105
def Obj.profileEntryCount : Nat := 0x301001
def Obj.profileVersion : Nat := 0x301002
def Obj.superblockGeneration : Nat := 0x302001
def Obj.superblockSide : Nat := 0x302002
def Obj.anchorSidesLost : Nat := 0x302003
def Obj.rateHeadroom : Nat := 0x430101
def Obj.etaQueryBlock : Nat := 0x431001
def Obj.etaQueryStatus : Nat := 0x431002
def Obj.etaQueryStep : Nat := 0x431003
def Obj.etaQueryCapacity : Nat := 0x431004
def Obj.etaQueryEta : Nat := 0x431005
def Obj.etaQueryFreshC : Nat := 0x431006
def Obj.deviceEtaMedian : Nat := 0x432001
def Obj.deviceEtaMin : Nat := 0x432002
def Obj.deviceCodeRateMean : Nat := 0x432003
def Obj.deviceCapacityMedian : Nat := 0x432004
/-- Element `n`, counted from 1, lies at subindex `n`. -/
def Obj.blocksAtStep (n : Nat) : Nat := objKey 0x4321 n
def Obj.hardDecodes : Nat := 0x434001
def Obj.hardFailures : Nat := 0x434002
def Obj.softDecodes : Nat := 0x434003
def Obj.softFailures : Nat := 0x434004
def Obj.trackingRuns : Nat := 0x434005
def Obj.retiredLowCapacity : Nat := 0x434006
def Obj.rateEstimatesHigh : Nat := 0x434007
def Obj.headerStepSearches : Nat := 0x434008
def Obj.dieEtaMedian (t d c : Nat) : Nat := objKey (0x8300 + t * 4 + d) c
def Obj.dieCapacityMedian (t d c : Nat) : Nat := objKey (0x8320 + t * 4 + d) c
def Obj.dieWearSlope (t d c : Nat) : Nat := objKey (0x8340 + t * 4 + d) c
def Obj.mapAreaChunks : Nat := 0x310001
def Obj.mapChunksFree : Nat := 0x310002
def Obj.mapPagesAllocated : Nat := 0x310003
def Obj.mapPagesResident : Nat := 0x310004
def Obj.mapPagesDirty : Nat := 0x310005
def Obj.replayRecordsPending : Nat := 0x310006
def Obj.mapResidentComplete : Nat := 0x310007
def Obj.mapCacheControl : Nat := 0x311001
def Obj.mapCacheState : Nat := 0x311002
def Obj.mapCacheHits : Nat := 0x311003
def Obj.mapCacheMisses : Nat := 0x311004
def Obj.evictionBufferHits : Nat := 0x311005
def Obj.prefetchesIssued : Nat := 0x311006
def Obj.prefetchesUsed : Nat := 0x311007
def Obj.journalLimitFrames : Nat := 0x312001
def Obj.journalFrames : Nat := 0x312002
def Obj.journalSequence : Nat := 0x312003
def Obj.checkpointSequence : Nat := 0x312004
def Obj.checkpointCount : Nat := 0x312005
def Obj.checkpointIntervalHours : Nat := 0x312006
def Obj.mapLinesReloaded : Nat := 0x313001
def Obj.mapLinesLost : Nat := 0x313002
def Obj.mapPagesLost : Nat := 0x313003
def Obj.conditionalDiscards : Nat := 0x313004
def Obj.mapLoadPoolEmpty : Nat := 0x313005
def Obj.backgroundLoadFloor : Nat := 0x314001
def Obj.openHostStripes : Nat := 0x320001
def Obj.openMovedStripes : Nat := 0x320002
def Obj.rowCloseTimeoutMs : Nat := 0x320003
def Obj.stripesOpen : Nat := 0x320004
def Obj.rowsProgrammed : Nat := 0x320005
def Obj.shortRows : Nat := 0x320006
def Obj.paddingRows : Nat := 0x320007
def Obj.fillerFrames : Nat := 0x320008
def Obj.continuationGroups : Nat := 0x320009
def Obj.writeBufferCeiling : Nat := 0x320101
def Obj.writeBufferInUse : Nat := 0x320102
def Obj.writeBufferEnergy : Nat := 0x320103
def Obj.writeBufferMaxGrains : Nat := 0x320104
def Obj.flushEnergyPerGiB : Nat := 0x320105
def Obj.writesDurable : Nat := 0x320201
def Obj.writesBuffered : Nat := 0x320202
def Obj.fuaCloses : Nat := 0x320203
def Obj.writesRefusedInhibited : Nat := 0x320204
def Obj.zeroGrainsUnmapped : Nat := 0x320205
def Obj.compressionEffort : Nat := 0x420001
def Obj.compressionMode : Nat := 0x420002
def Obj.compressionEnginesInService : Nat := 0x420003
def Obj.decompressionEnginesInService : Nat := 0x420004
def Obj.grainsCompressed : Nat := 0x421001
def Obj.grainsStoredRaw : Nat := 0x421002
def Obj.rawNoSaving : Nat := 0x421003
def Obj.rawVerifyMismatch : Nat := 0x421004
def Obj.inputBytes : Nat := 0x421005
def Obj.storedBytes : Nat := 0x421006
def Obj.storedFrames : Nat := 0x421007
def Obj.fixedBlocks : Nat := 0x421008
def Obj.dynamicBlocks : Nat := 0x421009
def Obj.compressionRatioRecent : Nat := 0x42100A
def Obj.grainsPassedThrough : Nat := 0x42100B
/-- Element `n`, counted from 1, lies at subindex `n`. -/
def Obj.decompressErrors (n : Nat) : Nat := objKey 0x4220 n
def Obj.engineDisagreements : Nat := 0x42200B
def Obj.grainReads : Nat := 0x330001
def Obj.grainReadsFromBuffers : Nat := 0x330002
def Obj.recoveredL2 : Nat := 0x330003
def Obj.recoveredL3 : Nat := 0x330004
def Obj.recoveredL4 : Nat := 0x330005
def Obj.recoveredL5 : Nat := 0x330006
def Obj.reconstructionFailures : Nat := 0x330007
def Obj.verificationRecoveries : Nat := 0x330008
def Obj.grainsUnrecovered : Nat := 0x330009
def Obj.lostGrainReads : Nat := 0x33000A
def Obj.frameRangeFaults : Nat := 0x33000B
def Obj.readsRefusedInhibited : Nat := 0x33000C
def Obj.readRecordsSuppressed : Nat := 0x33000D
def Obj.limitedRetryReads : Nat := 0x33000E
def Obj.refreshQueuedByRead : Nat := 0x33000F
def Obj.reclaimStartPermille : Nat := 0x340001
def Obj.reclaimUrgentPermille : Nat := 0x340002
def Obj.reclaimStopPermille : Nat := 0x340003
def Obj.reclaimBackgroundMBps : Nat := 0x340004
def Obj.freePermille : Nat := 0x340005
def Obj.framesRelocated : Nat := 0x340006
def Obj.physicallyFull : Nat := 0x340007
def Obj.stripesReleased : Nat := 0x340008
def Obj.blockTableIntervalMin : Nat := 0x340009
def Obj.stripesPinned : Nat := 0x34000A
def Obj.releaseLogEntries : Nat := 0x34000B
def Obj.wearSpreadLimit : Nat := 0x341001
def Obj.wearWeight : Nat := 0x341002
def Obj.eraseCountMean : Nat := 0x341003
def Obj.eraseCountMax : Nat := 0x341004
def Obj.wearMovesQueued : Nat := 0x341005
def Obj.gaugeModelA : Nat := 0x350001
def Obj.gaugeModelTau : Nat := 0x350002
def Obj.gaugeModelEa : Nat := 0x350003
def Obj.gaugeScanIntervalHours : Nat := 0x350004
def Obj.gaugeRefreshAge : Nat := 0x350005
def Obj.darkAgeMedian : Nat := 0x350006
def Obj.darkAgeMax : Nat := 0x350007
def Obj.gaugesUnavailable : Nat := 0x350008
def Obj.dieThermalAge (t d c : Nat) : Nat := objKey (0x8360 + t * 4 + d) c
def Obj.scrubIntervalInitial : Nat := 0x351001
def Obj.scrubIntervalMax : Nat := 0x351002
def Obj.refreshRatio : Nat := 0x351003
def Obj.refreshAgeMax : Nat := 0x351004
def Obj.scrubsRun : Nat := 0x351005
def Obj.blocksOverdueAtWake : Nat := 0x351006
def Obj.refreshesQueued : Nat := 0x351007
def Obj.wallClockMs : Nat := 0x352001
def Obj.wallClockSource : Nat := 0x352002
def Obj.nextWakeDue : Nat := 0x352003
def Obj.nextWakeDueHours : Nat := 0x352004
def Obj.darkAgingFactor : Nat := 0x352005
def Obj.observedDarkFactor : Nat := 0x352006
def Obj.wakeMarginHours : Nat := 0x352007
def Obj.nextWakeMaxDays : Nat := 0x352008
def Obj.restripeState : Nat := 0x610001
def Obj.restripeSetStripes : Nat := 0x610002
def Obj.stripesRestriped : Nat := 0x610003
def Obj.stripesLost : Nat := 0x610004
def Obj.restripeMBps : Nat := 0x610005
def Obj.restripeFramesLeft : Nat := 0x610006
def Obj.restripeProgressPermille : Nat := 0x610007
def Obj.grainsMarkedLost : Nat := 0x610008
def Obj.dieFreshFailLimit : Nat := 0x610009
def Obj.lostRangeEntries : Nat := 0x611001
def Obj.lostRangeDropped : Nat := 0x611002
def Obj.autoJoinBlank : Nat := 0x612001
def Obj.banksInService : Nat := 0x612002
def Obj.banksExpected : Nat := 0x612003
def Obj.autoPowerOnInsert : Nat := 0x612004
def Obj.carrierState (n : Nat) : Nat := objKey 0x8200 n
def Obj.carrierSignals (n : Nat) : Nat := objKey 0x8201 n
def Obj.carrierCommand (n : Nat) : Nat := objKey 0x8202 n
def Obj.carrierFaultCount (n : Nat) : Nat := objKey 0x8203 n
def Obj.carrierDiesInService (n : Nat) : Nat := objKey 0x8204 n
def Obj.carrierJoinHours (n : Nat) : Nat := objKey 0x8205 n
def Obj.carrierLastGeneration (n : Nat) : Nat := objKey 0x8206 n
def Obj.carrierLocate (n : Nat) : Nat := objKey 0x8207 n
def Obj.portConfig : Nat := 0x200101
def Obj.portClocking : Nat := 0x200102
def Obj.maxLinkSpeedCode : Nat := 0x200103
def Obj.aspmIdleUs : Nat := 0x200104
def Obj.portLinkState (n : Nat) : Nat := objKey 0x2010 n
def Obj.portLinkSpeed (n : Nat) : Nat := objKey 0x2011 n
def Obj.portLinkWidth (n : Nat) : Nat := objKey 0x2012 n
def Obj.portPowerState (n : Nat) : Nat := objKey 0x2013 n
def Obj.portLinkDownCount (n : Nat) : Nat := objKey 0x2014 n
def Obj.portHotResets (n : Nat) : Nat := objKey 0x2015 n
def Obj.portFlrs (n : Nat) : Nat := objKey 0x2016 n
def Obj.portCorrectableErrors (n : Nat) : Nat := objKey 0x2017 n
def Obj.portUncorrectableErrors (n : Nat) : Nat := objKey 0x2018 n
def Obj.portHostMemoryFaults (n : Nat) : Nat := objKey 0x2019 n
def Obj.portWakeSignals (n : Nat) : Nat := objKey 0x201A n
def Obj.defaultParityMode : Nat := 0x210001
def Obj.vwcDefault : Nat := 0x210002
def Obj.namespacesActive : Nat := 0x210003
def Obj.vendorEventEnable (n : Nat) : Nat := objKey 0x2110 n
def Obj.commandsFetched (n : Nat) : Nat := objKey 0x2111 n
def Obj.commandsFailed (n : Nat) : Nat := objKey 0x2112 n
def Obj.keepAliveExpiries (n : Nat) : Nat := objKey 0x2113 n
def Obj.dictionaryFormat : Nat := 0x100001
def Obj.dictionaryRequests : Nat := 0x100002
def Obj.dictionaryAborts : Nat := 0x100003
def Obj.deviceName : Nat := 0x100101
def Obj.serialNumber : Nat := 0x100102
def Obj.firmwareRevision : Nat := 0x100103
def Obj.deviceInstance : Nat := 0x100201
def Obj.nodeIdStrap : Nat := 0x101001
def Obj.nodeIdOverride : Nat := 0x101002
def Obj.nodeIdActive : Nat := 0x101003
def Obj.canNominalRate : Nat := 0x101101
def Obj.canDataRate : Nat := 0x101102
def Obj.canRatesCommit : Nat := 0x10110F
def Obj.supplyWarningMv : Nat := 0x501001
def Obj.vsysMv : Nat := 0x501002
def Obj.vidCode : Nat := 0x510001
def Obj.pace : Nat := 0x510002
def Obj.tokenPoolSize : Nat := 0x512003
def Obj.logbookHeadSequence : Nat := 0x602001
def Obj.settingsVersion : Nat := 0x700001
def Obj.settingsActiveCopy : Nat := 0x700002
def Obj.settingsWrites : Nat := 0x700003
def Obj.settingsCompactions : Nat := 0x700004
def Obj.settingsAcknowledge : Nat := 0x702001
def Obj.settingsRestoreDefaults : Nat := 0x702002
def Obj.operatingHours : Nat := 0xA00101
def Obj.powerCycleCount : Nat := 0xA00102
def Obj.canBusState : Nat := 0x101201
def Obj.canTxErrorCount : Nat := 0x101202
def Obj.canRxErrorCount : Nat := 0x101203
def Obj.canBusOffCount : Nat := 0x101204
def Obj.canFramesSent : Nat := 0x101205
def Obj.canFramesActedOn : Nat := 0x101206
def Obj.canProtocolRefusals : Nat := 0x101207
def Obj.canFramesIgnored : Nat := 0x101208
def Obj.timeSyncReceived : Nat := 0x101209
def Obj.canWakesActed : Nat := 0x101301
def Obj.canWakesNotActed : Nat := 0x101302
def Obj.canWakesRepeated : Nat := 0x101303
def Obj.canTxSlotsFree : Nat := 0x101401
def Obj.canTxCancelled : Nat := 0x101402
def Obj.canTxAlreadySent : Nat := 0x101403
def Obj.logbookNoticeClasses : Nat := 0x101501
def Obj.logbookNoticeRate : Nat := 0x101502
def Obj.logbookNoticesSent : Nat := 0x101503
def Obj.logbookNoticesDropped : Nat := 0x101504
def Obj.supplyRecoveryMv : Nat := 0x501003
def Obj.supplyWarnings : Nat := 0x501004
def Obj.sagsRecovered : Nat := 0x501005
def Obj.vsysMinMv : Nat := 0x501006
/-- Element `n`, counted from 1, lies at subindex `n`. -/
def Obj.railMv (n : Nat) : Nat := objKey 0x5011 n
def Obj.holdUpState : Nat := 0x502001
def Obj.holdUpCapacitanceUf : Nat := 0x502003
def Obj.holdUpEsrMohm : Nat := 0x502004
def Obj.holdUpRawMj : Nat := 0x502005
def Obj.holdUpDeductionMj : Nat := 0x502006
def Obj.holdUpVerifiedMj : Nat := 0x502007
def Obj.holdUpSenseMv : Nat := 0x502008
def Obj.holdUpTestCurrentMa : Nat := 0x502009
def Obj.holdUpFloorMv : Nat := 0x50200A
def Obj.holdUpMinMv : Nat := 0x50200B
def Obj.holdUpEfficiencyPct : Nat := 0x50200C
def Obj.holdUpEsrMaxMohm : Nat := 0x50200D
def Obj.holdUpTestIntervalHours : Nat := 0x50200E
def Obj.holdUpTestRequest : Nat := 0x502010
def Obj.holdUpTestsRun : Nat := 0x502011
def Obj.holdUpTestsFailed : Nat := 0x502012
def Obj.holdUpFailCause : Nat := 0x502014
def Obj.vidFloorCode : Nat := 0x510003
def Obj.throttleLevel : Nat := 0x510004
def Obj.tokensWithheld : Nat := 0x510005
def Obj.domainState (n : Nat) : Nat := objKey 0x5200 n
def Obj.retainBanks (n : Nat) : Nat := objKey 0x5210 n
def Obj.entryRequests (n : Nat) : Nat := objKey 0x5220 n
def Obj.entryRefusals (n : Nat) : Nat := objKey 0x5230 n
def Obj.entryAborts (n : Nat) : Nat := objKey 0x5240 n
def Obj.lastRefuser (n : Nat) : Nat := objKey 0x5250 n
def Obj.wakesDuringEntry (n : Nat) : Nat := objKey 0x5260 n
def Obj.dieTempMax : Nat := 0x530001
def Obj.dieTempMin : Nat := 0x530002
/-- Element `n`, counted from 1, lies at subindex `n`. -/
def Obj.sensorTemp (n : Nat) : Nat := objKey 0x5301 n
def Obj.carrierTemperature (n : Nat) : Nat := objKey 0x8210 n
def Obj.carrierThermalState (n : Nat) : Nat := objKey 0x8211 n
def Obj.tokenPoolTotal : Nat := 0x512001
def Obj.tokensFree : Nat := 0x512002
def Obj.tokenBankReserve : Nat := 0x512004
def Obj.tokenBankQuota : Nat := 0x512005
def Obj.tokenGuardEngagements : Nat := 0x512006
def Obj.ledgerChecks : Nat := 0x620001
def Obj.leakAudit : Nat := 0x620901
def Obj.hoistCommandsMoved : Nat := 0x220001
def Obj.hoistBytesToDram : Nat := 0x220002
def Obj.hoistBytesToHost : Nat := 0x220003
def Obj.hoistDescriptorsFailed : Nat := 0x220004
def Obj.hoistPoolEmptyRetries : Nat := 0x220005
def Obj.complexInControl : Nat := 0x630001
def Obj.primaryState : Nat := 0x630002
def Obj.standbyState : Nat := 0x630003
def Obj.takeovers : Nat := 0x630004
def Obj.primaryReturns : Nat := 0x630005
def Obj.returnsInWindow : Nat := 0x630006
def Obj.governorInjections : Nat := 0x630007
def Obj.lastTakeoverCause : Nat := 0x630008
def Obj.lastTakeoverMicros : Nat := 0x630009
def Obj.epochCopyLines : Nat := 0x63000A
def Obj.epochLinesCarried : Nat := 0x63000B
def Obj.lastSelfTestMs : Nat := 0x63000C
def Obj.standbyRetentionIdleMs : Nat := 0x63000D
def Obj.namespaceKeysLive : Nat := 0x440001
def Obj.keyAreaEntriesFree : Nat := 0x440002
def Obj.namespacesKeyLost : Nat := 0x440003
/-- Element `n`, counted from 1, lies at subindex `n`. -/
def Obj.authKey (n : Nat) : Nat := objKey 0x4410 n
/-- Element `n`, counted from 1, lies at subindex `n`. -/
def Obj.authRights (n : Nat) : Nat := objKey 0x4411 n
/-- Element `n`, counted from 1, lies at subindex `n`. -/
def Obj.authSlotSet (n : Nat) : Nat := objKey 0x4412 n
/-- Element `n`, counted from 1, lies at subindex `n`. -/
def Obj.pathLockSeconds (n : Nat) : Nat := objKey 0x4420 n
/-- Element `n`, counted from 1, lies at subindex `n`. -/
def Obj.pathFailures (n : Nat) : Nat := objKey 0x4421 n
/-- Element `n`, counted from 1, lies at subindex `n`. -/
def Obj.pathChallenges (n : Nat) : Nat := objKey 0x4422 n
def Obj.destructiveNeedsAuth : Nat := 0x443001
def Obj.sanitizeState : Nat := 0x444001
def Obj.sanitizeStep : Nat := 0x444002
def Obj.signingKeysRevoked : Nat := 0x445001
def Obj.logbookPersistedSequence : Nat := 0x602002
def Obj.logbookOldestSequence : Nat := 0x602003
def Obj.logbookRecordsHeld : Nat := 0x602004
def Obj.logbookReadSequence : Nat := 0x602005
def Obj.logbookRecords : Nat := 0x602006
def Obj.logbookRecordsOverwritten : Nat := 0x602007
def Obj.logbookClear : Nat := 0x602008
def Obj.logbookFlushes : Nat := 0x602009
def Obj.logbookFramesHeld : Nat := 0x60200A
/-- Element `n`, counted from 1, lies at subindex `n`. -/
def Obj.faultSnapshotObject (n : Nat) : Nat := objKey 0x6021 n
def Obj.runningSlot : Nat := 0x701001
def Obj.nextSlot : Nat := 0x701002
def Obj.lastGoodSlot : Nat := 0x701003
def Obj.bootAttempts : Nat := 0x701004
def Obj.slot1Flags : Nat := 0x701005
def Obj.slot2Flags : Nat := 0x701006
/-- Element `n`, counted from 1, lies at subindex `n`. -/
def Obj.runningVersion (n : Nat) : Nat := objKey 0x7011 n
def Obj.slotVersion (slot c : Nat) : Nat := objKey (0x7012 + (slot - 1)) c
/-- Element `n`, counted from 1, lies at subindex `n`. -/
def Obj.fusedMinimum (n : Nat) : Nat := objKey 0x7014 n
def Obj.codeStoreWriteProtect : Nat := 0x703001
def Obj.erasesRedone : Nat := 0x703002
def Obj.verifyFailures : Nat := 0x703003
def Obj.blocksWorn : Nat := 0x703004
def Obj.eraseCountMax7030 : Nat := 0x703005
def Obj.codeStoreEraseCounts : Nat := 0x703006
def Obj.recoveryTargetSlot : Nat := 0x704001
def Obj.recoveryOffset : Nat := 0x704002
def Obj.recoveryChunk : Nat := 0x704003
def Obj.recoveryCommit : Nat := 0x704004
def Obj.recoveryBytesWritten : Nat := 0x704005
def Obj.reclaimThresholdsCommit : Nat := 0x34000F

end Sys2Proof.Machine
end

