-- ==== Sys2Proof/Machine/StateTypes.lean ====
section
/-! DEFINITION. The parts of the state that the housekeeping domain, the complexes, the ledgers, the management link, the security
block, the code store and the host interface hold. Plain data; field defaults are the values right after reset. A scalar that is a
dictionary object lives in `State.objs` under its key and in no field here. -/
namespace Sys2Proof.Machine

/-- The twelve modes of Table 2.1 (spec/02_operating_modes.md R34). -/
inductive Mode
  | m0 | m1 | m2 | m3 | m4 | m5 | m6 | m7 | m8 | m9 | m10 | m11
  deriving DecidableEq, Repr, Inhabited

/-! ### Modes, supply and resets -/

/-- Mode, transitions due, supply watch and reset inputs (spec/02, spec/15 R462 to R466, spec/21 R609). -/
structure Control where
  mode : Mode := .m3
  /-- Mode before the last transition (0x6001.02). -/
  prev : Mode := .m1
  /-- ModeCauses as last updated (Table 2.3). -/
  causes : Word32 := 0
  /-- Mode that M8 returns to. -/
  flushFrom : Mode := .m5
  /-- A hold-up flush is running, in whatever mode (R42). -/
  flushing : Bool := false
  /-- Milliseconds at entry to M8 (SAG_RECOVERED's duration). -/
  flushStartMs : Nat := 0
  /-- Transitions that wait for the running flush (R42). -/
  dueM1 : Bool := false
  dueM10 : Bool := false
  dueM11 : Bool := false
  /-- VSYS has tripped the warning comparator and not the recovery comparator since. -/
  warned : Bool := false
  /-- The 20 ms recovery qualification is running; it has qualified (R464). -/
  qualifying : Bool := false
  qualified : Bool := false
  /-- M4 carrier staging is paused (R43). -/
  supplyHold : Bool := false
  /-- The die minimum has read below −10 °C in M3 (R43, R478). -/
  coldHold : Bool := false
  /-- Reset inputs of R609. -/
  perstLow : Bool := false
  porReleased : Bool := true
  vsysUp : Bool := true
  /-- THERMAL_HALT was latched in M1 (R53). -/
  haltLatch : Bool := false
  /-- No submission queue of any port is fetched (R52, R53). -/
  fetchStopped : Bool := false
  /-- Boot and wake progress (Table 2.4). -/
  bootComplete : Bool := false
  staged : Bool := false
  dirResident : Bool := false
  gaugesScanned : Bool := false
  /-- No write is admitted under the buffered rule until the store is back at its floor (R465). -/
  bufferHold : Bool := false
  /-- A return from M8 awaits the end of the recharge (R465). -/
  recharging : Bool := false
  /-- REFOSC milliseconds since power-on, counted at the epoch boundaries (R508), and their count at the last reset release. -/
  ms : Nat := 0
  resetMs : Nat := 0
  /-- The first M5 or M6 since reset has been handled (R592). -/
  wakeCompleted : Bool := false
  /-- Outputs of Table 21.7: charge enable and test switch of the hold-up store. -/
  huChgEn : Bool := true
  huTest : Bool := false
  ddrResetHigh : Bool := false
  /-- The ports that run with separate reference clocks and independent spread, bit k port k, as selected at the last PERST# deassertion (R324). -/
  sris : Nat := 0
  /-- Level of CS_WP_N in force (R612). -/
  csWpLow : Bool := true
  /-- Target of the voltage identifier (R460, R461). -/
  vidTarget : Nat := 0x78
  /-- Work was queued in some core block in the last millisecond (R461). -/
  workQueued : Bool := false
  /-- The landed data was not durable when VSYS last fell (Table 12.10, Unsafe Shutdowns). -/
  unsafeShutdowns : Nat := 0
  deriving DecidableEq, Repr, Inhabited

/-- Limits in force for one carrier (Table 15.16). -/
structure CarrierThermal where
  /-- Limits that act now. -/
  warn : Bool := false
  throttle : Bool := false
  shutdown : Bool := false
  programInhibit : Bool := false
  readInhibit : Bool := false
  fault : Bool := false
  /-- Consecutive valid rounds since a fault (R477). -/
  validRounds : Nat := 10
  deriving DecidableEq, Repr, Inhabited

/-- Temperature monitoring (spec/15 R474 to R482, spec/02 R47). -/
structure Thermal where
  /-- The round before the latest one, if any since reset: thresholds act on two rounds on the same side (R474). -/
  last : Option Round := none
  dieMax : Int := 25
  dieMin : Int := 25
  hottest : Nat := 0
  dieWarn : Bool := false
  /-- A die reading has started the throttling condition and not yet fallen 5 °C below it. -/
  dieHot : Bool := false
  /-- Throttling condition active for the die (M5 and M6 only). -/
  dieThrottle : Bool := false
  /-- Die maximum at the start of the running 5 s (R481). -/
  levelStartMax : Int := 0
  levelStartMs : Nat := 0
  carriers : SMap CarrierThermal := []
  /-- Sensors already recorded as faulty since reset (R476). -/
  faultySensors : List Nat := []
  /-- Milliseconds at the last SUPPLY_RAIL_FAULT of each rail channel (R475). -/
  railFaultMs : SMap Nat := []
  /-- A sanitize is paused by throttling (R47, R551). -/
  sanitizePaused : Bool := false
  deriving DecidableEq, Repr, Inhabited

/-- The hold-up settings that a test uses and that stay in force until the next one (R473). -/
structure HoldUpSettings where
  currentMa : Nat := 2000
  floorMv : Nat := 33000
  minMv : Nat := 14000
  efficiencyPct : Nat := 90
  esrMaxMohm : Nat := 250
  deriving DecidableEq, Repr, Inhabited

/-- The hold-up store's test (spec/15 R467 to R473). -/
structure HoldUp where
  due : Bool := false
  /-- A test is running (HoldUpState 0x04). -/
  testing : Bool := false
  /-- HoldUpState before the running test. -/
  before : Nat := 0
  v0 : Option Nat := none
  /-- Samples v[1..n] in mV, in order. -/
  samples : List Nat := []
  /-- HU_TEST has gone low after the discharge (step 4 of Table 15.12). -/
  stopped : Bool := false
  /-- Milliseconds when HU_CHG_EN last rose. -/
  chargeMs : Nat := 0
  /-- The store has reached its floor plus 500 mV since HU_CHG_EN rose. -/
  reached : Bool := false
  /-- The store has reached that level since reset (R468). -/
  reachedSinceReset : Bool := false
  /-- The charge timeout of the running charge has been recorded (R467). -/
  timedOut : Bool := false
  /-- The recharge of R465 has yet to complete. -/
  recharge : Bool := false
  /-- Operating hours (1/16 h) at the end of the last test since reset. -/
  lastTestHours : Option Nat := none
  /-- e_raw of the last passed test, in mJ. -/
  rawMj : Nat := 0
  /-- The settings in force where they have changed since the last test began (R473). -/
  settings : Option HoldUpSettings := none
  /-- A running test ended without a result: the ceiling is to be recomputed for the state before it. -/
  restored : Bool := false
  deriving DecidableEq, Repr, Inhabited

/-- An entry sequence of Table 15.4 in progress. -/
structure DomainEntry where
  toRetention : Bool := false
  /-- Every block has granted (step 3 reached). -/
  granted : Bool := false
  deriving DecidableEq, Repr, Inhabited

/-- Power domains beside their state objects (spec/15 R452 to R459). -/
structure Domains where
  entering : SMap (Option DomainEntry) := []
  /-- Milliseconds at the last refusal, and whether one happened (R457: not again within 1 ms). -/
  refusedMs : SMap (Option Nat) := []
  /-- Committed entries per domain (R458). -/
  commits : SMap Nat := []
  /-- SRAM banks of the domain that still hold their contents, as a RetainBanks mask. -/
  kept : SMap Nat := []
  /-- The domains that committed an entry within the last 4 handshakes (edge-type wakes are lost, R459). -/
  lossWindow : List Nat := []
  deriving DecidableEq, Repr, Inhabited

/-! ### Management complexes -/

/-- A takeover of Table 17.3 in progress. -/
structure Takeover where
  cause : Nat := 0
  /-- 1: the failing complex is CPX-P; 2: CPX-S. -/
  failing : Nat := 1
  /-- Step 5 done; steps 6 and 7 follow. -/
  opened : Bool := false
  micros : Nat := 0
  deriving DecidableEq, Repr, Inhabited

/-- The complexes beside their objects of 0x6300 (spec/17). -/
structure Complexes where
  takeover : Option Takeover := none
  /-- Bit 0: CPX-P's output gate is open; bit 1: CPX-S's. -/
  gateP : Bool := true
  gateS : Bool := false
  /-- The governor's compared bit to invert next, 0 to 79 (R509). -/
  injectionBit : Nat := 0
  /-- Lines waiting for a later epoch copy (R508). -/
  carried : Nat := 0
  /-- An epoch copy has been applied since the last input (R521). -/
  copiedSinceInput : Bool := false
  /-- Return of the primary: 0 none, 1 reset hold, 2 self-test, 3 full copy due, 4 following one epoch. -/
  returnStep : Nat := 0
  /-- Operating hours of the returns within the last 24 hours, newest first (R517). -/
  returnHours : List Nat := []
  /-- The standby waits for a full copy after its boot self-test (R520). -/
  copyDue : Bool := false
  deriving DecidableEq, Repr, Inhabited

/-! ### Ledgers, pools and the mover -/

/-- One conservation ledger (spec/01 R29, spec/16 R484). -/
structure Ledger where
  total : Nat := 0
  /-- The complement stored with the total (R25, Table 1.5). -/
  inverse : Nat := 0xFFFFFFFFFF
  free : Nat := 0
  /-- Held count of each owner, listed where not zero. -/
  held : SMap Nat := []
  /-- LedgerRequestsRefused (0x62LL.05). -/
  refused : Nat := 0
  deriving DecidableEq, Repr, Inhabited

/-- A request waiting for power tokens (R490). -/
structure TokenReq where
  id : Nat := 0
  bank : Nat := 0
  amount : Nat := 0
  sinceMs : Nat := 0
  flush : Bool := false
  /-- Its wait has reached 10 ms and engaged the guard. -/
  guard : Bool := false
  deriving DecidableEq, Repr, Inhabited

/-- A buffer held in a pool (Table 16.3). -/
structure Buffer where
  owner : Nat := 0
  grantMs : Nat := 0
  standing : Bool := false
  deriving DecidableEq, Repr, Inhabited

/-- An owner's wait after pool empty (R493). -/
structure PoolWait where
  size : Nat := 0
  waitUs : Nat := 0
  /-- The wait of an operation of the controller's own, which takes the buffer itself once one can be granted. -/
  own : Bool := false
  deriving DecidableEq, Repr, Inhabited

/-- Token arbitration and the buffer pools beside the ledgers (spec/16). -/
structure Resources where
  /-- Waiting token requests, oldest first. -/
  waiting : List TokenReq := []
  lastBank : Nat := 15
  /-- Number of the next request. -/
  nextReq : Nat := 0
  /-- The total that a resize goes to, while one is in progress (R488). -/
  resizeTo : Option Nat := none
  resizeFrom : Nat := 0
  /-- Held buffers, keyed by pool code × 65,536 + index. -/
  buffers : SMap Buffer := []
  /-- Pool-empty failures per owner (leak audit). -/
  poolEmpty : SMap Nat := []
  /-- Open waits, keyed by owner × 8 + pool code. -/
  waits : SMap PoolWait := []
  /-- Owners whose oldest buffer has been recorded as older than 30 s (R496). -/
  longHeld : List Nat := []
  /-- Transfers that wait for a credit of a fabric link, by link code (R498). -/
  linkWaits : SMap Nat := []
  deriving DecidableEq, Repr, Inhabited

/-! ### Logbook -/

/-- A logbook record (Table 19.1). -/
structure LogRecord where
  seq : Nat := 0
  hours : Nat := 0
  cycle : Nat := 0
  cls : Nat := 0
  code : Nat := 0
  /-- Snapshots of 40 bits, at most eight. -/
  snaps : List Nat := []
  deriving DecidableEq, Repr, Inhabited

/-- A ring slot: the record, and whether its frame is on the medium. -/
structure RingSlot where
  entry : LogRecord := {}
  persisted : Bool := false
  deriving DecidableEq, Repr, Inhabited

/-- A frame of the flash logbook (Table 19.5), on the medium. -/
structure LogFrame where
  records : List LogRecord := []
  /-- Its location, and the one reserved for the next frame (R566). -/
  place : Nat := 0
  next : Nat := 0
  deriving DecidableEq, Repr, Inhabited

/-- The logbook (spec/19). -/
structure Logbook where
  nextSeq : Nat := 1
  /-- The verified sequence ceiling in the counter images. -/
  ceiling : Nat := 65536
  /-- A raised ceiling whose counter entry is not yet verified. -/
  raising : Option Nat := none
  /-- Records raised and not yet accepted, oldest first: trigger code and snapshots. -/
  waiting : List (Nat × List Nat) := []
  /-- Oldest first; at most 4,096. -/
  ring : List RingSlot := []
  /-- First sequence of a run of overwritten records, and how many. -/
  lostFirst : Nat := 0
  lostCount : Nat := 0
  /-- Oldest first; at most 32,768. -/
  frames : List LogFrame := []
  /-- Location of the newest frame of the chain on the medium (R566). -/
  newest : Nat := 0
  indexComplete : Bool := false
  /-- A trigger of R564 waits for a flush to become possible. -/
  flushDue : Bool := false
  clearing : Bool := false
  /-- The run after device initialisation resumes no numbering (R557). -/
  initRun : Bool := true
  /-- Between run start and its step 4 records wait in the writer. -/
  runStarted : Bool := true
  deriving DecidableEq, Repr, Inhabited

/-- A counter entry of R580: hours, power cycles, ceiling. -/
structure CounterEntry where
  hours : Nat := 0
  cycles : Nat := 0
  ceiling : Nat := 65536
  deriving DecidableEq, Repr, Inhabited

/-! ### Dictionary paths and settings -/

/-- An outstanding challenge (spec/18 R539). -/
structure Challenge where
  nonce : Nat := 0
  slot : Nat := 0
  op : Nat := 0
  arg : Nat := 0
  issuedMs : Nat := 0
  deriving DecidableEq, Repr, Inhabited

/-- A grant (R542). -/
structure Grant where
  op : Nat := 0
  arg : Nat := 0
  givenMs : Nat := 0
  deriving DecidableEq, Repr, Inhabited

/-- What one access path holds (spec/13 R412 to R415, R422; spec/18 R539 to R545). -/
structure PathState where
  /-- Shadows of group members, by object key. -/
  shadows : List (Nat × Nat) := []
  /-- FailedMember per commit subindex key; LastFailed is FailedMember's presence. -/
  failed : SMap (Option Nat) := []
  /-- Per-path object values: EtaQueryBlock and what it selects. -/
  vals : List (Nat × Nat) := []
  /-- Oldest first. -/
  challenges : List Challenge := []
  grant : Option Grant := none
  /-- Milliseconds of the failures in the current 10-minute window, newest first. -/
  failures : List Nat := []
  /-- Milliseconds at which the path's lock ends. -/
  lockedUntil : Option Nat := none
  /-- The service's answer to the path's last request: the abort code, or none and the value it returned. -/
  abort : Option Nat := none
  value : List Byte := []
  deriving DecidableEq, Repr, Inhabited

/-- One group record of a settings copy: object keys with their value, or none for a return to default. -/
abbrev GroupRecord := List (Nat × Option Nat)

/-- One settings copy in the code store (spec/13 R406 to R411). -/
structure SettingsCopy where
  valid : Bool := true
  version : Nat := 1
  generation : Nat := 1
  /-- Which of the copy's two blocks is in use. -/
  block : Nat := 0
  /-- Bytes of the block in use that are programmed, its header included. -/
  used : Nat := 64
  /-- Group records in the order they were appended. -/
  records : List GroupRecord := []
  deriving DecidableEq, Repr, Inhabited

/-- Settings store and dictionary service. -/
structure Settings where
  copyA : SettingsCopy := {}
  copyB : SettingsCopy := {}
  /-- SettingsLost is set (R46). -/
  lost : Bool := false
  paths : SMap PathState := []
  /-- Sources whose objects are loaded since reset (R405): 1 superblock, 2 what the wake loads, 3 the reference ring. -/
  loaded : List Nat := []
  /-- Committed CAN rates taken at the last reset (R426): nominal, data. -/
  ratesInUse : Nat × Nat := (0, 0)
  /-- Journal limit in force (a write takes effect at the next checkpoint). -/
  journalLimit : Nat := 262144
  deriving DecidableEq, Repr, Inhabited

/-! ### Management link -/

/-- A frame in the transmit queue (spec/14 R448). -/
structure CanFrame where
  func : Nat := 0
  data : List Byte := []
  /-- Transmit-ledger owner: 1 heartbeat, 2 emergency, 3 dictionary, 4 notice. -/
  owner : Nat := 0
  queuedMs : Nat := 0
  /-- The frame has won arbitration and is on the bus. -/
  onBus : Bool := false
  /-- Withdrawn while on the bus: not retransmitted after an error. -/
  withdrawn : Bool := false
  tag : Nat := 0
  deriving DecidableEq, Repr, Inhabited

/-- The node's outstanding transaction (R436). -/
structure CanTransaction where
  tag : Nat := 0
  idx : Nat := 0
  sub : Nat := 0
  /-- A segmented write: its total length. -/
  total : Option Nat := none
  /-- The segments of a read are on their way. -/
  sending : Bool := false
  received : List Byte := []
  nextSeg : Nat := 0
  lastMs : Nat := 0
  deriving DecidableEq, Repr, Inhabited

/-- The management link beside its objects (spec/14). -/
structure CanLink where
  silent : Bool := false
  queue : List CanFrame := []
  /-- Frames waiting for a slot in order (emergencies and responses, R448). -/
  backlog : List CanFrame := []
  trans : Option CanTransaction := none
  hbSeq : Nat := 0
  bootSent : Bool := false
  nodeConflict : Bool := false
  busOffSince : Bool := false
  lastWakeSeq : Nat := 0
  lastWakeMs : Nat := 0
  /-- Milliseconds of the notices queued within the last second, newest first. -/
  noticeMs : List Nat := []
  deriving DecidableEq, Repr, Inhabited

/-! ### Keys, authorisation and sanitize -/

/-- A namespace key entry in the key area (Table 18.1), with its readability in each copy. -/
structure KeyEntry where
  live : Bool := false
  key : BitVec 512 := 0
  /-- The wrapped form unwraps from copy A; from copy B. -/
  goodA : Bool := true
  goodB : Bool := true
  generation : Nat := 0
  deriving DecidableEq, Repr, Inhabited

/-- An authorisation slot (Table 18.2). Slot 0 holds the owner key of manufacture while `key` is none (R537). -/
structure AuthSlot where
  key : Option (List Byte) := none
  rights : Nat := 0
  generation : Nat := 0
  deriving DecidableEq, Repr, Inhabited

/-- The sanitize record and log (R547, R550). -/
structure SanitizeRec where
  /-- 0 none, 2 block erase, 4 crypto erase. -/
  action : Nat := 0
  step : Nat := 0
  ause : Bool := false
  hours : Nat := 0
  startMs : Nat := 0
  failed : Bool := false
  /-- Estimated seconds of a block erase, reckoned at its acceptance (R548); none where no token is free. -/
  estimate : Option Nat := none
  /-- The last sanitize has completed. -/
  complete : Bool := false
  deriving DecidableEq, Repr, Inhabited

/-- Key area, loaded keys and sanitize (spec/18). -/
structure Security where
  keys : SMap KeyEntry := []
  /-- Key slots loaded in the security block. -/
  loaded : List Nat := []
  auth : SMap AuthSlot := []
  /-- Entries used in the active region of each copy, which region that is, and its BlockGeneration. -/
  used : Nat := 0
  second : Bool := false
  generation : Nat := 1
  san : SanitizeRec := {}
  /-- Generation of the last sanitize record of the key area (R530). -/
  sanGeneration : Nat := 0
  /-- Namespace slots found key-lost (R533). -/
  keyLost : List Nat := []
  deriving DecidableEq, Repr, Inhabited

/-! ### Code store and firmware -/

/-- A firmware slot's flags (Table 20.7) and components by code 1 to 4. -/
structure FwSlot where
  settingsIncompatible : Bool := false
  completedWake : Bool := false
  holds : Bool := false
  comps : SMap Component := []
  /-- The clone of R589 has been made into this slot since reset. -/
  cloned : Bool := false
  deriving DecidableEq, Repr, Inhabited

/-- A copy of the option area (R581). -/
structure OaCopy where
  valid : Bool := true
  comp : Component := {}
  payload : OaPayload := {}
  deriving DecidableEq, Repr, Inhabited

/-- The option area: its copies in blocks 0 and 1, and the payload loaded at the last reset release (R582). -/
structure OptionArea where
  copyA : OaCopy := {}
  copyB : OaCopy := {}
  inUse : OaPayload := {}
  /-- Version of the component in use. -/
  version : Nat := 0
  deriving DecidableEq, Repr, Inhabited

/-- A staged firmware piece of one port (R587). -/
structure Piece where
  offset : Nat := 0
  bytes : Nat := 0
  deriving DecidableEq, Repr, Inhabited

/-- A Firmware Commit waiting or in progress (R589, R590): command, Commit Action and slot as given; and, once it programs, its component
code, component and the slot it writes (0 for the option area). -/
structure CommitJob where
  cmd : HostCmd := {}
  action : Nat := 0
  slot : Nat := 0
  started : Bool := false
  code : Nat := 0
  comp : Component := {}
  target : Nat := 0
  /-- Its port was reset: the completion is discarded. -/
  dropped : Bool := false
  deriving DecidableEq, Repr, Inhabited

/-- The position of a log of two blocks used in turn: the block in use (0 or 1) and the entries in it. -/
structure LogPos where
  second : Bool := false
  used : Nat := 0
  deriving DecidableEq, Repr, Inhabited

/-- The code store (spec/20). -/
structure CodeStore where
  oa : OptionArea := {}
  slot1 : FwSlot := {}
  slot2 : FwSlot := {}
  running : Nat := 1
  nextSlot : Nat := 0
  lastGood : Nat := 0
  attempts : Nat := 0
  /-- ActiveSettingsCopy: false A, true B. -/
  activeB : Bool := false
  lostPending : Bool := false
  bootGen : Nat := 1
  /-- Boot control copies hold a valid entry. -/
  bootValid : Bool := true
  /-- Erase count per block, and blocks with their erase flag set; worn blocks. -/
  eraseCounts : SMap Nat := []
  eraseFlags : List Nat := []
  worn : List Nat := []
  counters : CounterEntry := {}
  /-- Logs of two blocks by their first block: erase log 2 (in erases), counter images 4 and 6, boot control 20 and 22. -/
  logs : SMap LogPos := []
  /-- Commits in order of fetch; the first one is being programmed (R590). -/
  jobs : List CommitJob := []
  /-- Recovery (R596, R597): claiming path, component code and header, pieces received, bytes held in the HK buffer. -/
  recPath : Nat := 0
  recCode : Nat := 0
  recComp : Component := {}
  recPieces : List Piece := []
  recHeld : Nat := 0
  fusedMin : SMap Nat := []
  keysFused : Nat := 0xF
  keysRevoked : Nat := 0
  deriving DecidableEq, Repr, Inhabited

/-! ### Ports and NVMe controllers -/

/-- A completion a controller posts (sct and sc as Table 0.3 writes them). -/
structure Completion where
  sqid : Nat := 0
  cid : Nat := 0
  sct : Nat := 0
  sc : Nat := 0
  dnr : Bool := false
  dw0 : Nat := 0
  dw1 : Nat := 0
  /-- Data returned to host memory, in bytes. -/
  data : List Byte := []
  /-- Logical blocks returned to host memory, with their LBA and metadata. -/
  blocks : List (Nat × LBlock × Nat) := []
  /-- Command Retry Delay field (R371). -/
  crd : Nat := 0
  deriving DecidableEq, Repr, Inhabited

/-- A submission queue. -/
structure SubQueue where
  live : Bool := false
  size : Nat := 0
  cqid : Nat := 0
  tail : Nat := 0
  head : Nat := 0
  deriving DecidableEq, Repr, Inhabited

/-- A completion queue: entries beyond the head doorbell, oldest first. -/
structure CompQueue where
  live : Bool := false
  size : Nat := 0
  vector : Nat := 0
  ien : Bool := true
  head : Nat := 0
  posted : List Completion := []
  /-- Entries posted since the last interrupt, while coalescing. -/
  coalesced : Nat := 0
  /-- Entries that wait for room in the queue, oldest first. -/
  waiting : List Completion := []
  deriving DecidableEq, Repr, Inhabited

/-- An asynchronous event: type, information, log page. -/
structure AsyncEvent where
  typ : Nat := 0
  info : Nat := 0
  page : Nat := 0
  deriving DecidableEq, Repr, Inhabited

/-- An Error Information entry (R382). -/
structure ErrEntry where
  count : Nat := 0
  sqid : Nat := 0
  cid : Nat := 0
  sct : Nat := 0
  sc : Nat := 0
  dnr : Bool := false
  lba : Nat := 0
  nsid : Nat := 0
  /-- Parameter Error Location. -/
  pel : Nat := 0xFFFF
  deriving DecidableEq, Repr, Inhabited

/-- One port: link, configuration space and NVMe controller (spec/11, spec/12). -/
structure PortState where
  /-- PCIe link and configuration space. -/
  linkUp : Bool := false
  bme : Bool := false
  /-- Milliseconds when Bus Master Enable was last cleared (R339). -/
  bmeMs : Nat := 0
  cfg : PortConfig := {}
  /-- Sticky fields (Table 11.10). -/
  pmeEn : Bool := false
  pmeStatus : Bool := false
  /-- Advanced Error Reporting: the two status registers, and the header log with the error that it belongs to. -/
  aerUncorrectable : Nat := 0
  aerCorrectable : Nat := 0
  aerHeader : Nat := 0
  aerFirst : Option Nat := none
  /-- Milliseconds of the last PCIE_UNCORRECTABLE record. -/
  uncorrMs : Option Nat := none
  flrMs : Option Nat := none
  /-- WAKE_N driven low since. -/
  wakeMs : Option Nat := none
  pmeSent : Nat := 0
  vpdAddr : Nat := 0
  vpdFlag : Bool := false
  vpdData : Nat := 0
  /-- Interrupts. -/
  msixEnable : Bool := false
  functionMask : Bool := false
  msiEnable : Bool := false
  msiVectors : Nat := 1
  masked : List Nat := []
  pendingVec : List Nat := []
  /-- Vectors signalled, newest first. -/
  messages : List Nat := []
  /-- Controller registers. -/
  cc : Word32 := 0
  rdy : Bool := false
  cfs : Bool := false
  shst : Nat := 0
  asqs : Nat := 0
  acqs : Nat := 0
  /-- CC was refused under R357; only its queue entry sizes are wrong. -/
  ccBad : Bool := false
  entrySizeBad : Bool := false
  intMask : Word32 := 0
  sqs : SMap SubQueue := []
  /-- The submission queue whose turn it is in the rotation, and how many more entries are taken from it (R360). -/
  turnQueue : Nat := 0
  turnLeft : Nat := 0
  cqs : SMap CompQueue := []
  lastAdminMs : Nat := 0
  features : SMap (Option Nat) := []
  hostId : BitVec 128 := 0
  queuesSet : Bool := false
  aers : List Nat := []
  events : List AsyncEvent := []
  /-- Event types masked until their page is read: type + 256 × page. -/
  eventsMasked : List Nat := []
  errors : List ErrEntry := []
  errorCount : Nat := 0
  changedNs : List Nat := []
  /-- Reservation notices, oldest first: count, type, NSID; and how many there have been. -/
  resNotices : List (Nat × Nat × Nat) := []
  resCount : Nat := 0
  /-- A shutdown notification was received and no controller reset since (R48). -/
  notified : Bool := false
  /-- Entries submitted before the notification and not yet fetched, by submission queue (R48). -/
  before : SMap Nat := []
  /-- The notification waits under R49. -/
  shutWaiting : Bool := false
  /-- Completions held while Bus Master Enable is 0 or the port is in D3hot. -/
  held : List Completion := []
  staged : List Piece := []
  stagedComp : Option (Nat × Component) := none
  /-- Capture of page 0xC0. -/
  lostCapture : List Byte := []
  deriving DecidableEq, Repr, Inhabited

/-- A registrant of a namespace (Table 12.7a). -/
structure Registrant where
  hostId : BitVec 128 := 0
  key : Nat := 0
  ctrl : Nat := 0
  deriving DecidableEq, Repr, Inhabited

/-- A namespace table record (Table 12.7a). -/
structure Namespace where
  active : Bool := false
  formatting : Bool := false
  flbas : Nat := 0
  dps : Nat := 0
  nmic : Nat := 0
  /-- 1 P1, 2 P2. -/
  parity : Nat := 1
  ptpl : Bool := false
  keySlot : Nat := 0
  nsze : Nat := 0
  creation : Nat := 0
  /-- Bit k set: controller k + 1 attached. -/
  attached : Nat := 0
  resType : Nat := 0
  /-- Registrant's host identifier that holds, or none; all registrants for types 5 and 6. -/
  holder : Option (BitVec 128) := none
  prgen : Nat := 0
  registrants : List Registrant := []
  tler : Nat := 0
  resMask : Nat := 0
  deriving DecidableEq, Repr, Inhabited

/-- A namespace deletion or Format that has not completed (R375): its slots, and for a Format its FLBAS, protection settings and Secure Erase
Settings; once the Region resets are made, the journal sequence that must become persistent. -/
structure NsJob where
  cmd : HostCmd := {}
  delete : Bool := false
  slots : List Nat := []
  flbas : Nat := 0
  dps : Nat := 0
  ses : Nat := 0
  seq : Option Nat := none
  /-- The keys have been replaced (R534). -/
  rekeyed : Bool := false
  /-- Its port was reset: the completion is discarded. -/
  dropped : Bool := false
  deriving DecidableEq, Repr, Inhabited

/-- The NVM subsystem (spec/12). -/
structure Subsystem where
  /-- By slot = NSID − 1. -/
  namespaces : SMap Namespace := []
  creations : Nat := 0
  /-- Temperature Threshold by TMPSEL, in K. -/
  tempOver : SMap Nat := []
  tempUnder : SMap Nat := []
  /-- Telemetry captured by the controller and by the host: the free value of Area 1, and Area 2; generation numbers; whether the
  controller's capture is waiting to be read. -/
  telemetry : Option (Nat × List LogRecord) := none
  telemetryHost : Option (Nat × List LogRecord) := none
  telemetryGen : Nat := 0
  telemetryHostGen : Nat := 0
  telemetryAvailable : Bool := false
  /-- Deletions and Formats that have not completed, in order (R375). -/
  nsJobs : List NsJob := []
  /-- Critical Warning bit 2 by R172. -/
  journalWarning : Bool := false
  dataRead : Nat := 0
  dataWritten : Nat := 0
  readCmds : Nat := 0
  writeCmds : Nat := 0
  /-- Milliseconds with an I/O command outstanding, and at or above the warning and critical composite temperature. -/
  busyMs : Nat := 0
  warnTempMs : Nat := 0
  critTempMs : Nat := 0
  critical : Nat := 0
  /-- A host has written since manufacture or the last completed Sanitize. -/
  written : Bool := false
  /-- Shutdown work of R48 is running. -/
  shutdownRunning : Bool := false
  deriving DecidableEq, Repr, Inhabited

end Sys2Proof.Machine
end

