-- ==== Sys2Proof/Machine/StateMedia.lean ====
section
/-! DEFINITION. The parts of the state on and beside the medium: carriers, channels, dies, blocks, stripes, the map and its journal,
data in flight, engines, reclaim, the calendar and the restripe. Plain data; field defaults are the values right after reset. -/
namespace Sys2Proof.Machine

/-! ### Carriers -/

/-- A carrier beside its objects CarrierState, CarrierFaultCount and the like (spec/10). -/
structure Carrier where
  /-- PRSNT_N recognised low; PGOOD high; ABTN_N recognised low. -/
  present : Bool := false
  pgood : Bool := false
  button : Bool := false
  /-- Operating hours of the power faults counted so far, newest first (R309). -/
  faultHours : List Nat := []
  /-- Milliseconds when PEN went high, and whether its power-up tokens are still held. -/
  penMs : Nat := 0
  powerUpHeld : Nat := 0
  /-- TokPowerUpMs of the entry that the power-up was charged by (R79). -/
  powerUpMs : Nat := 100
  /-- Step of Table 3.3 reached, 0 when not bringing up. -/
  bringUp : Nat := 0
  /-- The request for base and power-up tokens of step 1, until PEN rises, and its amount and power-up share. -/
  awaitTokens : Option Nat := none
  requested : Nat := 0
  powerUp : Nat := 0
  /-- An insertion outside M4 to M7 that is handled later (R314). -/
  deferred : Bool := false
  /-- Milliseconds when the abort window opened; the request waits after its end (R318). -/
  windowMs : Nat := 0
  waiting : Bool := false
  /-- AIND blinks until this millisecond after a refusal (R318). -/
  refusedUntil : Nat := 0
  /-- Class of Table 10.7 by row; step of Table 10.8 reached. -/
  cls : Nat := 0
  /-- DeviceInstance and generation found on the carrier's anchors; none without a valid superblock copy. -/
  found : Option (Nat × Nat) := none
  /-- Members lost when the bank left service. -/
  lost : Bool := false
  deriving DecidableEq, Repr, Inhabited

/-- A planned evacuation (R319). -/
structure Evacuation where
  bank : Nat := 0
  pausedThrottle : Bool := false
  pausedShutdown : Bool := false
  deriving DecidableEq, Repr, Inhabited

/-- A member of the restripe set (R296): the stripe, and whether a member of it is lost (rather than only draining). -/
structure RestripeEntry where
  stripe : Nat := 0
  lost : Bool := false
  /-- Set aside under R300. -/
  aside : Bool := false
  /-- Grains that the restripe could not read: slot, grain, and whether their identity is known from a footer or clear part (R303). -/
  unread : List (Nat × Nat × Bool) := []
  /-- Grains marked lost so far; the stripe has been declared lost (R302); its event is over. -/
  marked : Nat := 0
  declared : Bool := false
  settled : Bool := false
  deriving DecidableEq, Repr, Inhabited

/-! ### Channels -/

/-- A channel beside its objects of Table 3.4: its outputs, the settings of its dies and its calibration (Tables 3.3, 21.7). -/
structure ChannelLink where
  /-- Its outputs are driven, not at high impedance (R68). -/
  driven : Bool := false
  /-- CHnnn_WP_N is high (R619). -/
  wpHigh : Bool := false
  /-- The dies run in NV-LPDDR4; before step 6 they are in SDR timing mode 0 (R60). -/
  lpddr4 : Bool := false
  /-- Drive strength and on-die termination as written at step 8, and the pass control of Table 3.11. -/
  drive : Nat := 0
  odt : Nat := 0
  passControl : Nat := 0
  /-- Milliseconds of the last ZQ calibration, long or short (R70). -/
  zqMs : Nat := 0
  deriving DecidableEq, Repr, Inhabited

/-! ### Dies, blocks, plane groups and stripes -/

/-- The array operation that a die runs or waits to run: its kind, 0 for none, 2 coarse pass, 3 fine pass, 4 erase; its plane group slot; the
number of its token request and the tokens asked for (R78); and how it has been suspended (R66). -/
structure DieOp where
  kind : Nat := 0
  slot : Nat := 0
  req : Nat := 0
  charge : Nat := 0
  suspended : Bool := false
  suspends : Nat := 0
  readsWaiting : Nat := 0
  deriving DecidableEq, Repr, Inhabited

/-- What a block's header records at its opening beside its block table entry (Table 4.8), and the power cycle at its close (Table 4.9). -/
structure BlockHeader where
  openSeq : Nat := 0
  /-- 1 host data, 2 moved data, 3 system stripe. -/
  kind : Nat := 1
  instance_ : Nat := 0
  /-- Block numbers of the plane group in plane order. -/
  group : List Nat := []
  /-- RateHeadroom in force, in thousandths. -/
  headroom : Nat := 0
  openHours : Nat := 0
  openCycle : Nat := 0
  openAge : Nat := 0
  /-- 1 P1, 2 P2; bank and die of each member of the stripe. -/
  parity : Nat := 1
  members : List (Nat × Nat) := []
  closeCycle : Nat := 0
  /-- Padding wordlines. -/
  padding : List Nat := []
  deriving DecidableEq, Repr, Inhabited

/-- A block table entry (Table 9.1) with the block's calendar entry (Table 9.5) and what its header records. -/
structure Block where
  /-- 0 free, 1 open, 2 closed, 3 empty, 4 failing, 5 retired, 6 anchor, 7 gauge. -/
  state : Nat := 0
  cls : Nat := 0
  step : Nat := 0
  /-- Step of the last opening; S4 for a block never opened (R318). -/
  lastStep : Nat := 4
  noFooter : Bool := false
  lastFine : Nat := 0
  /-- Erases of the block alone; those of the whole die by a block erase add to them, less those that passed it over (R548). -/
  erases : Nat := 0
  spared : Nat := 0
  valid : Nat := 0
  freshC : Nat := 0
  freshLag : Nat := 0
  refreshQ : Bool := false
  readQ : Bool := false
  rateQ : Bool := false
  wearQ : Bool := false
  pinned : Bool := false
  closeHours : Nat := 0
  shortRows : Nat := 0
  closeAge : Nat := 0
  padRows : Nat := 0
  stripe : Nat := 0
  contRow : Nat := 0
  cont : Bool := false
  /-- 0 data, 1 P, 2 Q, 3 none. -/
  role : Nat := 3
  retireCause : Nat := 0
  /-- Recorded C of the header in thousandths (R120). -/
  cap : Nat := 0
  /-- One above the journal sequence of the last record that moved an entry away from the block (R151). -/
  movedSeq : Nat := 0
  /-- Next frame of the payload stream to be placed; grains placed; no further grain fits (R187). -/
  next : Nat := 1
  grains : Nat := 0
  full : Bool := false
  /-- Usable halves found by the fresh reads so far, and the sample wordlines that have been fresh-read since the block opened. -/
  halves : Nat := 0
  sampled : List Nat := []
  /-- Calendar entry (Table 9.5). -/
  scrubDue : Nat := 0xFFFFFFFF
  scrubInterval : Nat := 0
  lastRatio : Nat := 255
  sample : Nat := 0
  refreshDue : Bool := false
  overdue : Bool := false
  /-- What the header holds beside the step, the capacity, the erase count, the stripe and the role above (Table 4.8). -/
  header : BlockHeader := {}
  deriving DecidableEq, Repr, Inhabited

/-- An open plane group, by die × 2 + 0 for host data or 1 for moved data and system stripes (R58). -/
structure Group where
  used : Bool := false
  /-- Block numbers in plane order. -/
  blocks : List Nat := []
  stripe : Nat := 0
  /-- 1 host, 2 moved, 3 system (block header Kind). -/
  kind : Nat := 0
  erasing : Bool := false
  /-- Milliseconds at the end of the erase while no coarse pass has started (R75). -/
  erasedMs : Option Nat := none
  /-- Wordlines encoded; whose coarse pass, whose fine pass has completed. -/
  encoded : Nat := 0
  coarse : Nat := 0
  fine : Nat := 0
  padding : List Nat := []
  /-- Wordlines carried over from a failed group and not yet finely programmed (Table 3.6). -/
  carried : Nat := 0
  /-- Stripe row of wordline 0: r0 of a continuation group (R194). -/
  rowBase : Nat := 0
  deriving DecidableEq, Repr, Inhabited

/-- A die beside its blocks: level classes, gauge and calendar die record (R106, R272, Table 9.4). -/
structure DieState where
  failed : Bool := false
  /-- Block erases of the whole die by a Sanitize (R548). -/
  sweeps : Nat := 0
  /-- Consecutive operation timeouts (R65). -/
  timeouts : Nat := 0
  /-- Level classes: 31 offsets and a use count each, listed where not zero. -/
  classes : SMap (List Int × Nat) := []
  /-- Level classes as last written with the block table (R106). -/
  savedClasses : SMap (List Int × Nat) := []
  freshClass : Nat := 0
  /-- The read offsets loaded in the LUN by Set Features; all zero where unset (R107, R234). -/
  loaded : List Int := []
  /-- Operating hours of fresh-read failures on distinct sample wordlines (R288): block × 512 + wordline, hours. -/
  freshFails : List (Nat × Nat) := []
  /-- Operation requested or outstanding. -/
  op : DieOp := {}
  /-- A plane has no free good block left: no new plane group is accepted (Table 3.6). -/
  exhausted : Bool := false
  /-- By block, the fall of fresh C per cycle between its last two records, in 0.00001 (R119). -/
  falls : SMap (Option Int) := []
  slopeHours : Nat := 0
  gaugeC : Nat := 0
  /-- Gauge blocks in plane order. -/
  gauge : List Nat := []
  /-- The gauge blocks as the gauge table on the medium names them (R97). -/
  savedGauge : List Nat := []
  ageBase : Nat := 0
  gaugeAge : Nat := 0
  darkAge : Nat := 0
  scanHours : Nat := 0
  scanCycle : Nat := 0
  /-- 0 valid, 1 refresh begun, 2 unavailable. -/
  gaugeState : Nat := 0
  /-- A gauge block has been replaced and no refresh has followed yet (R277). -/
  gaugeMoved : Bool := false
  refOffsets : List Int := []
  found : List Int := []
  scanWallMs : Nat := 0
  /-- Scanned since M4 Wake began. -/
  scanned : Bool := false
  trackingLimitHours : Option Nat := none
  deriving DecidableEq, Repr, Inhabited

/-- A stripe. -/
structure Stripe where
  exists_ : Bool := false
  isOpen : Bool := false
  kind : Nat := 1
  /-- 1 P1, 2 P2. -/
  parity : Nat := 1
  /-- Bank and die of each member, ascending. -/
  members : List (Nat × Nat) := []
  lost : List Nat := []
  /-- Members lost while the stripe was open: the bank, and the first row whose parity is made without it (R195). -/
  without : List (Nat × Nat) := []
  /-- No further grain is taken (R295, R319). -/
  stopped : Bool := false
  gathered : Nat := 0
  /-- Rows whose parity fine pass has completed. -/
  done : Nat := 0
  /-- Rows not yet gathered that hold placed frames, with the milliseconds since when (Table 6.3). -/
  held : List (Nat × Nat) := []
  /-- The standing pool C buffers of its data members while it is open (R186, R495). -/
  standing : List Nat := []
  /-- The rows whose parity is being accumulated, each with its pool C buffer (R190). -/
  sums : List (Nat × Nat) := []
  closeHours : Nat := 0
  closeMs : Nat := 0
  /-- Grains that relocation could not read (R262): slot, grain. -/
  pinned : List (Nat × Nat) := []
  pinHours : Nat := 0
  deriving DecidableEq, Repr, Inhabited

/-- A stored grain: what its header and span on the medium say (Table 7.3), and the logical data they decode to. -/
structure StoredGrain where
  slot : Nat := 0
  grain : Nat := 0
  keySlot : Nat := 0
  frames : Nat := 0
  compressed : Bool := false
  /-- The effort at which it was compressed (R212, R226). -/
  effort : Nat := 0
  length : Nat := 0
  /-- Metadata size code of the header: 0 none, 1 8 bytes, 2 16 bytes. -/
  metaCode : Nat := 0
  blocks : List LBlock := []
  /-- Metadata of each block, as a number. -/
  metas : List Nat := []
  deriving DecidableEq, Repr, Inhabited

/-! ### Data in flight -/

/-- Where a grain has been placed. -/
structure Placement where
  stripe : Nat := 0
  block : Nat := 0
  frame : Nat := 0
  frames : Nat := 0
  deriving DecidableEq, Repr, Inhabited

/-- A grain held in DRAM between landing and durability (R179, R196), or a relocated one. -/
structure FlightGrain where
  id : Nat := 0
  slot : Nat := 0
  grain : Nat := 0
  /-- Write command it belongs to; 0 for a relocated grain. -/
  cmd : Nat := 0
  /-- Old pointer of a relocated grain. -/
  old : Option Nat := none
  stored : StoredGrain := {}
  /-- All-zero: an Unmap, not a Place (R181). -/
  zero : Bool := false
  fua : Bool := false
  placed : Option Placement := none
  /-- Journal sequence of its update, once applied. -/
  seq : Option Nat := none
  /-- Superseded by a later write to the same grain (R197). -/
  superseded : Bool := false
  /-- Pool B buffers that it is held in until it is placed: owner and index (Table 6.1). -/
  buffers : List (Nat × Nat) := []
  deriving DecidableEq, Repr, Inhabited

/-- A Write, Write Zeroes or Dataset Management command from admission until it is completed and durable. -/
structure WriteCmd where
  id : Nat := 0
  port : Nat := 0
  sqid : Nat := 0
  cid : Nat := 0
  slot : Nat := 0
  slba : Nat := 0
  nlb : Nat := 0
  /-- 0 Write, 1 Write Zeroes, 2 Dataset Management. -/
  kind : Nat := 0
  fua : Bool := false
  buffered : Bool := false
  /-- Sack hoist channel (R499). -/
  channel : Nat := 0
  /-- Its pool D context, held until it completes (R180); the landing buffers that its channel has been granted for it (Table 6.1). -/
  context : Option Nat := none
  landing : List Nat := []
  /-- Every grain has passed step 3 of Table 6.1. -/
  landed : Bool := false
  /-- Its port was reset or its keep-alive expired: the completion entry is discarded (R196). -/
  dropped : Bool := false
  completed : Bool := false
  /-- Ranges of whole grains to unmap: first grain, count, journal sequence once applied. -/
  unmaps : List (Nat × Nat × Option Nat) := []
  deriving DecidableEq, Repr, Inhabited

/-- What a grain of a read has come to: still to be looked up, waiting for its codewords, waiting for decompression, or ended. -/
inductive ReadStage | lookup | codewords | inflate | ended
  deriving DecidableEq, Repr, Inhabited

/-- A grain of a read in progress. -/
structure ReadGrain where
  grain : Nat := 0
  stage : ReadStage := .lookup
  pointer : Nat := 0
  /-- Highest ladder step a codeword of the grain has needed. -/
  step : Nat := 0
  /-- Ended with a status other than success: type, code, Do Not Retry, Command Retry Delay. -/
  failed : Option (Nat × Nat × Bool × Nat) := none
  blocks : List LBlock := []
  metas : List Nat := []
  /-- Its place in the order of arrival of the reads of its die (R235). -/
  arrival : Nat := 0
  /-- The read-out buffer of its channel that holds its data until they are moved (R503). -/
  buffer : Option Nat := none
  deriving DecidableEq, Repr, Inhabited

/-- A Read or Verify in progress. -/
structure ReadCmd where
  id : Nat := 0
  port : Nat := 0
  sqid : Nat := 0
  cid : Nat := 0
  slot : Nat := 0
  slba : Nat := 0
  nlb : Nat := 0
  verify : Bool := false
  fua : Bool := false
  limited : Bool := false
  channel : Nat := 0
  /-- Its pool D context, held until it completes. -/
  context : Option Nat := none
  fetchMs : Nat := 0
  /-- TLER has sent the undecoded codewords to L5 (R372). -/
  tlerMs : Option Nat := none
  grains : List ReadGrain := []
  deriving DecidableEq, Repr, Inhabited

/-- A Flush command that waits: it completes when every write listed is durable (R198). -/
structure FlushCmd where
  port : Nat := 0
  sqid : Nat := 0
  cid : Nat := 0
  context : Option Nat := none
  waits : List Nat := []
  deriving DecidableEq, Repr, Inhabited

/-- A grain in work or queued at an engine (R225): the number of a grain in flight, with the effort at its dispatch and whether it is stored raw (R226);
or the number of a read, with its grain. -/
structure EngineJob where
  id : Nat := 0
  grain : Nat := 0
  effort : Nat := 0
  raw : Bool := false
  deriving DecidableEq, Repr, Inhabited

/-- The write path, compression and decompression beside their objects. -/
structure WritePath where
  nextId : Nat := 1
  writes : List WriteCmd := []
  flushes : List FlushCmd := []
  reads : List ReadCmd := []
  /-- Stripe last chosen by the rotation of R187. -/
  rotation : Nat := 0
  nextStripe : Nat := 1
  openSeq : Nat := 1
  /-- STRIPE_OPEN_DELAYED has been recorded for the running wait, by kind. -/
  openDelayed : List Nat := []
  /-- Operating hours of verification mismatches and disagreements per engine (compression 0 to 7, decompression 8 to 23). -/
  engineFaults : SMap (List Nat) := []
  /-- What each engine has, in that numbering: one grain in work, at most four queued (R225). -/
  engines : SMap (List EngineJob) := []
  /-- Engines taken out of service. -/
  offline : List Nat := []
  /-- Milliseconds, input bytes, stored frames and parity mode of the host grains stored in the last 60 s. -/
  recent : List (Nat × Nat × Nat × Nat) := []
  /-- Milliseconds, stored frames and parity mode of the grains moved in the last 10 s. -/
  recentMoved : List (Nat × Nat × Nat) := []
  /-- The parity mode that takes the rest of the host stripes, and of the moved stripes (R183). -/
  favouredHost : Nat := 1
  favouredMoved : Nat := 1
  deriving DecidableEq, Repr, Inhabited

/-! ### The map -/

/-- A journal record (Table 5.9). An image is named by the sequence of the PageWritten record that names it. -/
inductive JRecord
  | entrySet (slot grain value : Nat)
  | rangeSet (slot first count value : Nat)
  | pageWritten (slot page : Nat)
  | regionReset (slot pages : Nat)
  deriving DecidableEq, Repr

/-- A map page in DRAM and its directory entry, by slot × 2^32 + page. -/
structure MapPage where
  resident : Bool := false
  dirty : Bool := false
  /-- Number of its newest image; 0 where the page has none. -/
  image : Nat := 0
  /-- Both directory copies mismatch (R171). -/
  lost : Bool := false
  /-- Its records of the replay table, in sequence order (R170, R173). -/
  replay : List JRecord := []
  /-- Journal sequence of the first update that the newest image does not hold, while dirty; 0 for one without a record. -/
  firstSeq : Nat := 0
  deriving DecidableEq, Repr, Inhabited

/-- A page image on the medium (R142): its frame, as a flash pointer, and the entries that it held when it was captured (R164). It is numbered one
above the sequence of its PageWritten record. -/
structure PageImage where
  place : Nat := 0
  entries : SMap Nat := []
  deriving DecidableEq, Repr, Inhabited

/-- A journal frame on the medium (Table 5.10): the sequence of its first record, its records, the S in force at its seal, the reserved locations that
its copies were written to, whether each copy programmed, and the locations reserved for the next frame. -/
structure JFrame where
  first : Nat := 0
  records : List JRecord := []
  checkpoint : Nat := 0
  place1 : Nat := 0
  place2 : Nat := 0
  good1 : Bool := true
  good2 : Bool := true
  next1 : Nat := 0
  next2 : Nat := 0
  deriving DecidableEq, Repr, Inhabited

/-- What the three checkpoint frames say (Table 5.12): S, the copies of the frame that holds it, the operating hours and power cycle at step 1, and
the extents of both snapshots: block, first frame and frame count. -/
structure Checkpoint where
  seq : Nat := 0
  head1 : Nat := 0
  head2 : Nat := 0
  hours : Nat := 0
  cycle : Nat := 0
  extentsA : List (Nat × Nat × Nat) := []
  extentsB : List (Nat × Nat × Nat) := []
  deriving DecidableEq, Repr, Inhabited

/-- An update of the map that waits for its page, its line or the journal (R169, R173, R176). -/
inductive MapUpdate
  | unmap (slot first count : Nat)
  | markLost (slot grain pointer : Nat)
  | regionReset (slot pages : Nat)
  deriving DecidableEq, Repr

/-- The update kinds of Table 5.7, in its order. -/
inductive UpdateKind | place | relocate | unmap | markLost | regionReset
  deriving DecidableEq, Repr

/-- A read stream of the stride detector (R155). -/
structure Stride where
  key : Nat := 0
  last : Nat := 0
  step : Int := 0
  run : Nat := 0
  deriving DecidableEq, Repr, Inhabited

/-- The translation map (spec/05). -/
structure MapState where
  /-- Entries in DRAM by slot × 2^40 + grain; an unlisted entry is unmapped. -/
  entries : SMap Nat := []
  /-- The page images on the medium, by number. -/
  images : SMap PageImage := []
  /-- The directory snapshot of the last completed checkpoint: image numbers by slot × 2^32 + page; and its checkpoint frames. -/
  snapshot : SMap Nat := []
  record : Checkpoint := {}
  /-- The journal frames kept since S, oldest first. -/
  journal : List JFrame := []
  pages : SMap MapPage := []
  /-- Records of the open journal frame, oldest first; milliseconds at its first record, and at the first one beyond the 252 that it takes (R161). -/
  openFrame : List JRecord := []
  openMs : Nat := 0
  overMs : Nat := 0
  /-- Highest persistent sequence plus one. -/
  persistent : Nat := 0
  fullRecorded : Bool := false
  /-- Running checkpoint: its S, and the hours and power cycle at its step 1. -/
  checkpoint : Option Nat := none
  startHours : Nat := 0
  startCycle : Nat := 0
  checkpointDue : Bool := false
  recordsSince : Bool := false
  /-- Cache sets, most recent line first: line key and dirty bit. -/
  cache : SMap (List (Nat × Bool)) := []
  evict : List Nat := []
  prefetched : List Nat := []
  strides : List Stride := []
  /-- Lines whose CRC fails in DRAM (R143, R176), by line key. -/
  badLines : List Nat := []
  /-- Updates that wait, in the order in which they came (R148). -/
  waits : List MapUpdate := []
  /-- Pages asked for: 1 by a demand, 2 by a prefetch (R174). -/
  asked : SMap Nat := []
  deriving DecidableEq, Repr, Inhabited

/-- The ten roots of Table 3.14: flash pointers of 40 bits. -/
structure Roots where
  mapCheckpoint : Nat := 0
  mapJournal : Nat := 0
  directoryA : Nat := 0
  directoryB : Nat := 0
  blockTable : Nat := 0
  gaugeTable : Nat := 0
  logbook : Nat := 0
  lostRange : Nat := 0
  namespaces : Nat := 0
  calendar : Nat := 0
  deriving DecidableEq, Repr, Inhabited

/-- A superblock's contents (Table 3.14). -/
structure Superblock where
  side : Nat := 0
  generation : Nat := 0
  instance_ : Nat := 0
  banks : Nat := 0
  lostSides : Nat := 0
  roots : Roots := {}
  deriving DecidableEq, Repr, Inhabited

/-- An anchor group (R90, R92): the updates programmed since its erase, two wordlines each, and the superblock that the four copies of the last
update carry. -/
structure Anchor where
  updates : Nat := 0
  last : Option Superblock := none
  deriving DecidableEq, Repr, Inhabited

/-- A group-log record (R257): the group's OpenSequence, its stripe, its blocks in plane order, its die, its kind (4 P, 5 Q), the step of each plane, and
r0 of a continuation group. -/
structure PlaneRecord where
  openSeq : Nat := 0
  stripe : Option Nat := none
  blocks : List Nat := []
  die : Nat := 0
  kind : Nat := 0
  steps : List Nat := []
  row : Option Nat := none
  deriving DecidableEq, Repr, Inhabited

/-- A group-log frame on the medium (R257): its records, where its copies are, and the locations reserved for the next frame. -/
structure PlaneFrame where
  records : List PlaneRecord := []
  place1 : Nat := 0
  place2 : Nat := 0
  next1 : Nat := 0
  next2 : Nat := 0
  deriving DecidableEq, Repr, Inhabited

/-- What the block table's index frame says beside its extents (R256): the open mark, and the group log's next reserved locations. -/
structure TableIndex where
  mark : Nat := 0
  next1 : Nat := 0
  next2 : Nat := 0
  deriving DecidableEq, Repr, Inhabited

/-- A lost-range entry (Table 10.2). -/
structure LostRange where
  slot : Nat := 0
  cause : Nat := 0
  first : Nat := 0
  count : Nat := 0
  stripe : Nat := 0
  hours : Nat := 0
  cycle : Nat := 0
  deriving DecidableEq, Repr, Inhabited

/-- Reclaim, sweeps and the lost-range log. -/
structure Reclaim where
  /-- Queues 1 to 4 of Table 9.2: stripes, in order. -/
  q1 : List Nat := []
  q2 : List Nat := []
  q3 : List Nat := []
  q4 : List Nat := []
  victim : Option Nat := none
  /-- Live and total frames of the victim when it was chosen (u of Table 9.3). -/
  victimLive : Nat := 0
  victimCap : Nat := 0
  /-- Stored frames moved, and host frames placed, in the current control epoch (Table 9.3). -/
  epochMoved : Nat := 0
  epochPlaced : Nat := 0
  /-- The map engine's last report of a replaced entry: the update kind and the old value (R150). -/
  report : Option (UpdateKind × Nat) := none
  /-- Release log: block, start frame (R258). -/
  released : List (Nat × Nat) := []
  /-- Milliseconds and stored frames that the bolter, and the restripe, moved within the last second. -/
  recentBolter : List (Nat × Nat) := []
  recentRestripe : List (Nat × Nat) := []
  /-- Stripes, and live frames, of the restripe set at its last growth. -/
  growthCount : Nat := 0
  growthFrames : Nat := 0
  fullRecorded : Bool := false
  wearHours : SMap Nat := []
  tableHours : Nat := 0
  /-- Operating hours of the last update of the efficiency figures (R126). -/
  etaHours : Nat := 0
  scanHours : Nat := 0
  /-- Operations of RESTRIPE_WAITING_SPACE and BANKS_BELOW_MINIMUM recorded once per wait. -/
  spaceRecorded : Bool := false
  belowRecorded : Bool := false
  /-- Grains found lost and not yet appended: slot, grain, cause, stripe. -/
  toAppend : List (Nat × Nat × Nat × Nat) := []
  /-- Lost stripes that await a map sweep. -/
  sweeps : List Nat := []
  sweeping : List Nat := []
  lostLog : List LostRange := []
  /-- Entries of each lost-range frame held, oldest first; running number of the oldest entry held. -/
  lostFrames : List Nat := []
  /-- The places of the lost-range frames, oldest first (R306). -/
  lostPlaces : List Nat := []
  lostFirst : Nat := 0
  /-- READ_UNRECOVERED records of the last second: milliseconds. -/
  readRecords : List Nat := []
  /-- The gauge scans of this wake are complete (R276). -/
  darkRecorded : Bool := false
  observed : Bool := false
  /-- By the first setting of the clock since the power cycle: its value at the PERST# deassertion before the first wake (R286). -/
  clockSet : Option Nat := none
  /-- Milliseconds at the PERST# deassertion before the first wake of the power cycle. -/
  wakeMs : Nat := 0
  /-- Largest ScanWallMs of the die records loaded at the first wake since the power cycle; 0 for none. -/
  loadedWallMs : Option Nat := none
  deriving DecidableEq, Repr, Inhabited

/-- The medium side of the device. -/
structure Media where
  /-- Entries of the active media profile that are not rejected, by entry number. -/
  profile : SMap ProfileEntry := []
  channels : SMap ChannelLink := []
  /-- Banks whose PEN is high. -/
  pen : List Nat := []
  carriers : SMap Carrier := []
  /-- The expected set (R293). -/
  expected : List Nat := []
  evac : Option Evacuation := none
  restripe : List RestripeEntry := []
  blocks : SMap Block := []
  groups : SMap Group := []
  dies : SMap DieState := []
  stripes : SMap Stripe := []
  /-- Stored grains by their 40-bit pointer. -/
  stored : SMap StoredGrain := []
  /-- Grains in DRAM that are not durable, oldest first. -/
  flight : List FlightGrain := []
  wp : WritePath := {}
  map : MapState := {}
  sb : Superblock := {}
  /-- Anchor groups by bank × 2 + side. -/
  anchors : SMap Anchor := []
  /-- A root, BanksPresent or AnchorSidesLost has changed since the superblock was written (R91). -/
  sbDue : Bool := false
  /-- The counts n(x, y) of the fresh reads of blocks still to be recorded, by block: true level × 512 + bin (R117). -/
  fresh : SMap (SMap Nat) := []
  /-- The block table as last written to the medium: the secondary copy of its entries (Table 1.5). -/
  savedBlocks : SMap Block := []
  /-- The index of that writing, and the group-log frames since its open mark, oldest first (R256, R257). -/
  tableIndex : TableIndex := {}
  groupLog : List PlaneFrame := []
  rc : Reclaim := {}
  deriving DecidableEq, Repr, Inhabited

end Sys2Proof.Machine
end

