-- ==== Sys2Proof/Machine/State.lean ====
section
/-! DEFINITION. The state: the device, and the queue of commands that wait to be run on it. Stops, and the state right after reset. -/
namespace Sys2Proof.Machine

/-- Everything the spec gives the device. A scalar dictionary object is held in `objs` under index × 256 + subindex and nowhere
else, unless a structure below is its home (mode, ledgers, logbook reports, what one path holds, texts and blobs). -/
structure Device where
  /-- Scalar objects that differ from the default of their row. -/
  objs : SMap Nat := []
  ctl : Control := {}
  therm : Thermal := {}
  holdup : HoldUp := {}
  domains : Domains := {}
  cpx : Complexes := {}
  /-- By ledger code 0x01 to 0x08 (Table 16.1). -/
  ledgers : SMap Ledger := []
  res : Resources := {}
  log : Logbook := {}
  settings : Settings := {}
  can : CanLink := {}
  sec : Security := {}
  cs : CodeStore := {}
  ports : SMap PortState := []
  sub : Subsystem := {}
  media : Media := {}
  /-- Host commands held in M8 (R50), in order of submission. -/
  held : List Instr := []
  /-- Commands that wait for a pool D context (Table 6.2), in order. -/
  delayed : List Instr := []
  /-- Complement-protected pairs that have stopped matching and that no reader has met yet (R26; notes/assumptions/131.md). -/
  damaged : List Mismatch := []
  /-- How many free values have been used: the model's own field (notes/assumptions/2.md). -/
  free : Nat := 0
  deriving DecidableEq, Repr, Inhabited

/-- The block: the commands that wait, first in first out, and the device they act on. -/
structure State where
  pending : List Instr := []
  dev : Device := {}
  deriving DecidableEq, Repr, Inhabited

/-- Why a command stops with a fault. There is no such reason: the spec gives every command an effect, and what stops the hardware is
a mode (M10, M11). -/
inductive Fault
  deriving DecidableEq, Repr

/-- Why a command is refused. -/
inductive Refusal
  /-- Answered by `exec` for a command without a meaning; safe. No arm answers it in the finished model. -/
  | notModelled (mnemonic : String)
  deriving DecidableEq, Repr

/-- The totals of the ledgers at reset (Table 16.1): power tokens at TokenPoolSize's default, and the fixed ledgers. -/
def resetTotals : List (Nat × Nat) :=
  [(1, 6000), (2, 65536), (3, 65536), (4, 16384), (5, 2048), (6, 5888), (7, 32), (8, 40)]

/-- ASCII characters as bytes. -/
def ascii (s : String) : List Byte := s.toList.map fun c => BitVec.ofNat 8 c.toNat

/-- The Vital Product Data of manufacture: product name, a read-only section with part number, empty EC, serial and manufacture numbers and
the checksum RV, and the end tag (R331; notes/assumptions/47.md). -/
def factoryVpd : List Byte :=
  let name := ascii "Tytha ZV-1024 archive flash controller"
  let field (key : String) (v : List Byte) : List Byte := ascii key ++ [BitVec.ofNat 8 v.length] ++ v
  let fields := field "PN" (ascii "TZV1024-A0") ++ field "EC" [] ++ field "SN" [] ++ field "MN" []
  let head := [0x82, BitVec.ofNat 8 name.length, 0] ++ name ++ [0x90, BitVec.ofNat 8 (fields.length + 4), 0] ++ fields ++ ascii "RV" ++ [1]
  head ++ [BitVec.ofNat 8 (256 - (head.map BitVec.toNat).sum % 256)] ++ [0x78]

/-- The option area of manufacture: ledger totals as Table 16.1 gives them. -/
def factoryPayload : OaPayload := { vpd := factoryVpd, totals := (resetTotals.drop 1).map (·.2) }

/-- The code store of manufacture: both option-area copies, and a firmware set in slot 1, the running one, whose main firmware has the major
version 3 of R1. -/
def factoryStore : CodeStore :=
  let copy : OaCopy := { comp := { present := true }, payload := factoryPayload }
  { oa := { copyA := copy, copyB := copy, inUse := factoryPayload }
    slot1 := { holds := true, comps := (1, { present := true, version := 0x03000000 }) :: [2, 3, 4].map fun c => (c, { present := true }) } }

/-- The machine right after the first reset release that follows device initialisation: M3 Boot entered from M1 Held, every ledger
rebuilt from no held units, the core regulator at code 0x78 (R460), RecoveryTargetSlot 1 (Table 20.12), NODEID strapped to 1, the DRAM trained at
384 GiB, with the 76,544 chunks of R144 (R32, R35; notes/assumptions/3.md). -/
def State.reset : State :=
  { pending := []
    dev := { objs := [(0x101001, 1), (0x101003, 1), (0x310001, 76544), (0x510001, 0x78)] ++
               [1, 2, 3, 4, 7].map (fun dd => (0x5200 * 256 + dd, 0x01)) ++ [(0x704001, 1)]
             ctl := { ddrResetHigh := true }
             ledgers := resetTotals.map fun (l, t) => (l, { total := t, inverse := 0xFFFFFFFFFF - t, free := t })
             ports := [0, 1, 2, 3].map fun p => (p, { features := [(0x06, some 0)] })
             cs := factoryStore } }

end Sys2Proof.Machine
end

