-- ==== Sys2Proof/Machine/Ops.lean ====
section
/-! DEFINITION. The named operations every meaning is written with: sparse maps, scalar objects, free values, ledgers. -/
namespace Sys2Proof.Machine

/-! ### Sparse maps -/

variable {α : Type}

/-- What key `k` reads as; an unlisted key reads as `d`. -/
def smGet (d : α) : SMap α → Nat → α
  | [], _ => d
  | (j, v) :: m, k => if j = k then v else smGet d m k

/-- Write key `k`, keeping the keys rising. -/
def smPut (k : Nat) (v : α) : SMap α → SMap α
  | [] => [(k, v)]
  | (j, w) :: m => if k < j then (k, v) :: (j, w) :: m else if k = j then (k, v) :: m else (j, w) :: smPut k v m

/-- Take every entry of key `k` away. -/
def smErase (k : Nat) (m : SMap α) : SMap α := m.filter fun e => !(e.1 == k)

/-- Write key `k`; writing what an unlisted key reads as takes the entry away. -/
def smSet [DecidableEq α] (d : α) (k : Nat) (v : α) (m : SMap α) : SMap α :=
  if v = d then smErase k m else smPut k v m

/-- Change what key `k` reads as. -/
def smUpd [DecidableEq α] (d : α) (k : Nat) (f : α → α) (m : SMap α) : SMap α := smSet d k (f (smGet d m k)) m

/-- The entries of a sparse map after `f`, those that became what an unlisted key reads as left out. -/
def smMap {α : Type} [DecidableEq α] (d : α) (f : α → α) (m : SMap α) : SMap α :=
  (m.map fun e => (e.1, f e.2)).filter fun e => decide (e.2 ≠ d)

/-- The canonical form: keys strictly rising, no entry equal to what an unlisted key reads as. -/
def smWf [DecidableEq α] (d : α) : SMap α → Bool
  | [] => true
  | (j, v) :: m => m.all (fun e => decide (j < e.1)) && decide (v ≠ d) && smWf d m

/-- The sum of the values. -/
def smSum (m : SMap Nat) : Nat := (m.map Prod.snd).sum

/-! ### Small helpers -/

/-- `n` bytes of `v`, least significant first (R8). -/
def leBytes : Nat → Nat → List Byte
  | 0, _ => []
  | n + 1, v => BitVec.ofNat 8 v :: leBytes n (v / 256)

/-- The value of bytes held least significant first. -/
def ofLe : List Byte → Nat
  | [] => 0
  | b :: bs => b.toNat + 256 * ofLe bs

/-- Bit `k` of `v`. -/
def bitOf (v k : Nat) : Bool := v / 2 ^ k % 2 == 1

/-- Put `x` into a rising list. -/
def insertInt (x : Int) : List Int → List Int
  | [] => [x]
  | y :: ys => if x ≤ y then x :: y :: ys else y :: insertInt x ys

/-- The list in rising order. -/
def sortInt (xs : List Int) : List Int := xs.foldr insertInt []

/-- The median: the mean of the two middle values, rounded down, where their number is even (notes/assumptions/19.md); 0 of none. -/
def medianInt (xs : List Int) : Int :=
  let s := sortInt xs
  let n := s.length
  if n = 0 then 0
  else if n % 2 = 1 then (s[n / 2]?).getD 0
  else ((s[n / 2 - 1]?).getD 0 + (s[n / 2]?).getD 0) / 2

/-- The median of natural numbers. -/
def median (xs : List Nat) : Nat := (medianInt (xs.map Int.ofNat)).toNat

/-- 1 for true. -/
def b2n (b : Bool) : Nat := if b then 1 else 0

/-- `v` with bit `k` set to `b`. -/
def setBit (v k : Nat) (b : Bool) : Nat := if bitOf v k = b then v else if b then v + 2 ^ k else v - 2 ^ k

/-- A signed value in 40-bit two's complement (R558, type I40). -/
def i40 (z : Int) : Nat := (z % 2 ^ 40).toNat

/-- A 40-bit two's complement value as an integer. -/
def ofI40 (n : Nat) : Int := if n < 2 ^ 39 then n else (n : Int) - 2 ^ 40

/-- The number of a mode (Table 2.1). -/
def modeNum : Mode → Nat
  | .m0 => 0 | .m1 => 1 | .m2 => 2 | .m3 => 3 | .m4 => 4 | .m5 => 5
  | .m6 => 6 | .m7 => 7 | .m8 => 8 | .m9 => 9 | .m10 => 10 | .m11 => 11

/-! ### How a meaning ends -/

/-- The next state in which the device has changed by `f`. -/
def runDev (f : Device → Device) (s : State) : Host.Outcome State Fault Refusal := .next { s with dev := f s.dev }

/-- `f` where the condition holds; nothing changes where it does not (R40). -/
def onlyIf (c : Bool) (f : Device → Device) (d : Device) : Device := if c then f d else d

/-! ### Scalar objects -/

/-- The table row of an object key. -/
def objRow? (key : Nat) : Option ObjRow :=
  objRows.find? fun r => r.idxLo ≤ key / 256 && key / 256 ≤ r.idxHi && r.subLo ≤ key % 256 && key % 256 ≤ r.subHi

/-- What an unlisted object reads as. -/
def objDefault (key : Nat) : Nat := match objRow? key with | some r => r.dflt | none => 0

/-- How many values the object's type has (Table 13.3); a counter wraps there (notes/assumptions/5.md). -/
def typeModulus : ObjType → Nat
  | .bool => 2 | .u8 => 2 ^ 8 | .u16 => 2 ^ 16 | .u32 => 2 ^ 32 | .u40 => 2 ^ 40 | .i40 => 2 ^ 40 | .u64 => 2 ^ 64
  | .str => 1 | .blob => 1

/-- `typeModulus` of an object key; 2^64 for a key without a row. -/
def objModulus (key : Nat) : Nat := match objRow? key with | some r => typeModulus r.typ | none => 2 ^ 64

/-- Read a scalar object held in `objs`. -/
def getObj (key : Nat) (d : Device) : Nat := smGet (objDefault key) d.objs key

/-- Write a scalar object held in `objs`. -/
def setObj (key v : Nat) (d : Device) : Device := { d with objs := smSet (objDefault key) key v d.objs }

/-- Raise a counter. -/
def addObj (key n : Nat) (d : Device) : Device := setObj key ((getObj key d + n) % objModulus key) d

/-- Raise a counter by one. -/
def incObj (key : Nat) (d : Device) : Device := addObj key 1 d

/-- Operating hours in units of 1/16 hour (0x6010.01). -/
def hours (d : Device) : Nat := getObj Obj.operatingHours d

/-! ### Free values -/

/-- A value the spec leaves open, and the device in which it has been used up (notes/assumptions/2.md). -/
def freshNat (d : Device) : Nat × Device := (Config.freeNat d.free, { d with free := d.free + 1 })

/-! ### Ledgers (spec/01 R29 to R32, spec/16 R484 to R489) -/

/-- The ledger of a code of Table 16.1. -/
def ledger (l : Nat) (d : Device) : Ledger := smGet {} d.ledgers l

/-- Change one ledger. -/
def updLedger (l : Nat) (f : Ledger → Ledger) (d : Device) : Device := { d with ledgers := smUpd {} l f d.ledgers }

/-- What an owner holds. -/
def heldBy (l o : Nat) (d : Device) : Nat := smGet 0 (ledger l d).held o

/-- The reserves of R494 (Table 16.4) in pool D, A, B and C (ledger codes 2 to 5). -/
def poolReserve (l o : Nat) : Nat :=
  match l with
  | 2 => if 0x01 ≤ o && o ≤ 0x04 then 4096 else if o = 0x08 then 64 else if o = 0x0A || o = 0x45 then 256 else 0
  | 3 => if o = 0x08 then 16 else if o = 0x09 then 66 else if o = 0x0A || o = 0x42 || o = 0x43 then 1024
         else if o = 0x40 then 4096 else if o = 0x44 then 256 else 0
  | 4 => if 0x10 ≤ o && o ≤ 0x1F then 64 else if 0x20 ≤ o && o ≤ 0x37 then 8 else if o = 0x42 || o = 0x43 then 256
         else if 0x50 ≤ o && o ≤ 0x5F then 32 else 0
  | 5 => if o = 0x0A then 16 else if o = 0x41 then 1024 else 0
  | _ => 0

/-- The owner IDs of Table 16.4. -/
def poolOwners : List Nat :=
  [0x01, 0x02, 0x03, 0x04, 0x08, 0x09, 0x0A] ++ (List.range 16).map (· + 0x10) ++ (List.range 8).map (· + 0x20)
    ++ (List.range 16).map (· + 0x28) ++ [0x40, 0x41, 0x42, 0x43, 0x44, 0x45] ++ (List.range 16).map (· + 0x50)

/-- The fabric links of Table 16.5. -/
def fabricLinks : List Nat := [1, 2, 3, 4, 5, 6, 7] ++ (List.range 32).map (· + 0x10)

/-- The credits of a fabric link (Table 16.5). -/
def linkCredits (link : Nat) : Nat :=
  match link with
  | 1 | 2 => 256
  | 3 | 4 => 512
  | 5 => 128
  | 6 | 7 => 64
  | n => if 0x10 ≤ n && n ≤ 0x2F then 128 else 0

/-- PEN of a bank is high. -/
def penHigh (bank : Nat) (d : Device) : Bool := d.media.pen.contains bank

/-- The reserve of an owner in a ledger: R489 for power tokens, Table 16.4 for the pools, Table 14.11 for CAN slots. -/
def reserveOf (l o : Nat) (d : Device) : Nat :=
  match l with
  | 1 => if 1 ≤ o && o ≤ 16 && penHigh (o - 1) d then getObj Obj.tokenBankReserve d else 0
  | 7 => match o with | 1 => 2 | 2 => 4 | 3 => 8 | 4 => 2 | _ => 0
  | l => poolReserve l o

/-- The owners that can have a reserve in a ledger. -/
def ownersOf (l : Nat) : List Nat :=
  match l with
  | 1 => (List.range 16).map (· + 1)
  | 2 | 3 | 4 | 5 => poolOwners
  | 7 => [1, 2, 3, 4]
  | _ => []

/-- The units that the unmet reserves of the other owners claim (R485). -/
def claimedByOthers (l o : Nat) (d : Device) : Nat :=
  (((ownersOf l).filter (· != o)).map fun p => reserveOf l p d - heldBy l p d).sum

/-- The grant rule of a ledger: R485, for a link R498, for challenges at most 8 a path (Table 16.1). -/
def grantOk (l o n : Nat) (d : Device) : Bool :=
  match l with
  | 6 => decide (heldBy 6 o d + n ≤ linkCredits o)
  | 8 => decide (heldBy 8 o d + n ≤ 8)
  | l => decide (n + claimedByOthers l o d ≤ (ledger l d).free)

/-- A grant: free and the owner's held count change in one update (R486). -/
def ledgerTake (l o n : Nat) (d : Device) : Device :=
  updLedger l (fun g => if n ≤ g.free then { g with free := g.free - n, held := smUpd 0 o (· + n) g.held } else g) d

/-- A return that the owner's holding covers (R486); a return of more is R487's break and changes nothing here. -/
def ledgerGive (l o n : Nat) (d : Device) : Device :=
  updLedger l (fun g => if n ≤ smGet 0 g.held o then { g with free := g.free + n, held := smUpd 0 o (· - n) g.held } else g) d

/-- Count a refused or waiting request (0x62LL.05). -/
def countRefused (l : Nat) (d : Device) : Device :=
  updLedger l (fun g => { g with refused := (g.refused + 1) % 2 ^ 64 }) d

/-- The invariant of R29 for one ledger. -/
def ledgerOk (g : Ledger) : Bool := decide (g.free + smSum g.held = g.total)

/-- A 40-bit value and its complement agree (R10, R26). -/
def pairMatches (value inverse : Nat) : Bool := decide (inverse = 2 ^ 40 - 1 - value)

/-- Write a ledger's total register, its complement with it (R25). -/
def setTotal (t : Nat) (g : Ledger) : Ledger := { g with total := t, inverse := 2 ^ 40 - 1 - t }

/-- Every ledger rebuilt with no unit held (R32). -/
def rebuildLedger (total : Nat) : Ledger := setTotal total { free := total }

/-- The total of a ledger as the option area and the stored settings give it (Table 1.5, Table 16.1): the secondary copy of its register. A
resize in progress starts from the total before the setting was written (R488). -/
def derivedTotal (l : Nat) (d : Device) : Nat :=
  if l = 1 then match d.res.resizeTo with | some _ => d.res.resizeFrom | none => getObj Obj.tokenPoolSize d
  else (d.cs.oa.inUse.totals[l - 2]?).getD ((resetTotals[l - 1]?).getD (0, 0)).2

/-- Take a mismatched pair that waits for its reader off the list; whether there was one, and how it fails (notes/assumptions/131.md). -/
def takeDamage (row location : Nat) (d : Device) : Option Mismatch × Device :=
  match d.damaged.find? (fun x => x.row == row && x.location == location) with
  | some x => (some x, { d with damaged := d.damaged.erase x })
  | none => (none, d)

/-! ### The code store (spec/20) -/

/-- Change the code store. -/
def updCs (f : CodeStore → CodeStore) (d : Device) : Device := { d with cs := f d.cs }

/-- Take one more entry in a log of two blocks that holds `cap` entries a block; whether it moved on to the other block. -/
def logStep (cap : Nat) (p : LogPos) : LogPos × Bool :=
  if p.used < cap then ({ p with used := p.used + 1 }, false) else ({ second := !p.second, used := 1 }, true)

/-- An area of two blocks from `first` on one of which is worn stays in the other one (R579). -/
def soundBlock (worn : List Nat) (first : Nat) (p : LogPos) : LogPos :=
  if worn.contains (first + b2n p.second) then { p with second := !p.second } else p

/-- Erase a block (R577): its count rises, and the erase log takes its two records; a full log block, of 510 erases, is followed by the
other one, whose erase is counted too. -/
def eraseBlock (b : Nat) (c : CodeStore) : CodeStore :=
  let (p, moved) := logStep 510 (smGet {} c.logs 2)
  let p := soundBlock c.worn 2 p
  let counts := smUpd 0 b (· + 1) c.eraseCounts
  { c with eraseCounts := if moved then smUpd 0 (2 + b2n p.second) (· + 1) counts else counts, logs := smSet {} 2 p c.logs }

/-- Append an entry to the log whose first block is `first` (R580, R588): 2,046 entries of 32 bytes a block. -/
def logAppend (first : Nat) (c : CodeStore) : CodeStore :=
  let (p, moved) := logStep 2046 (smGet {} c.logs first)
  let p := soundBlock c.worn first p
  let c := { c with logs := smSet {} first p c.logs }
  if moved then eraseBlock (first + b2n p.second) c else c

/-- A source of Table 13.8 is loaded. -/
def markLoaded (n : Nat) (d : Device) : Device :=
  if d.settings.loaded.contains n then d else { d with settings := { d.settings with loaded := n :: d.settings.loaded } }

/-! ### Ports -/

/-- A port's state. -/
def port (p : Nat) (d : Device) : PortState := smGet {} d.ports p

/-- Change a port's state. -/
def updPort (p : Nat) (f : PortState → PortState) (d : Device) : Device := { d with ports := smUpd {} p f d.ports }

/-- Milliseconds since power-on. -/
def nowMs (d : Device) : Nat := d.ctl.ms

end Sys2Proof.Machine
end

