-- ==== Sys2Proof/Machine/Report.lean ====
section
/-! DEFINITION. What a scalar object reads as: most are held in `objs`, and this file computes those whose home is a structure. -/
namespace Sys2Proof.Machine

/-- The records the flash area holds, oldest first, once its index is complete (R566, R570). -/
def flashRecords (d : Device) : List LogRecord := (d.log.frames.map (·.records)).flatten

/-- The ring's records, oldest first. -/
def ringRecords (d : Device) : List LogRecord := d.log.ring.map (·.entry)

/-- Every record held, ring and flash, counted once each, oldest first. -/
def heldRecords (d : Device) : List LogRecord :=
  let ring := ringRecords d
  if d.log.indexComplete then
    (flashRecords d).filter (fun r => !(ring.any fun q => q.seq == r.seq)) ++ ring
  else ring

/-- Newest accepted record's number, 0 when none (0x6020.01). -/
def headSequence (d : Device) : Nat := ((heldRecords d).getLast?.map (·.seq)).getD 0

/-- Newest persisted record's number, 0 when none (0x6020.02). -/
def persistedSequence (d : Device) : Nat := ((flashRecords d).getLast?.map (·.seq)).getD 0

/-- Number of live namespaces (0x2100.03). -/
def namespacesActive (d : Device) : Nat := (d.sub.namespaces.filter (·.2.active)).length

/-- The namespace keys in use (0x6700.01). -/
def keysLive (d : Device) : Nat := (d.sec.keys.filter (·.2.live)).length

/-- The flags of a firmware slot (Table 20.7). -/
def slotFlags (f : FwSlot) : Nat := b2n f.settingsIncompatible + 2 * b2n f.completedWake + 4 * b2n f.holds

/-- A firmware slot by its number. -/
def fwSlot (s : Nat) (d : Device) : FwSlot := if s = 1 then d.cs.slot1 else if s = 2 then d.cs.slot2 else {}

/-- Version of a component in a slot, 0 when absent. -/
def slotVersionOf (s code : Nat) (d : Device) : Nat :=
  let c := smGet {} (fwSlot s d).comps code
  if c.present then c.version else 0

/-- A settings copy: A or B. -/
def settingsCopy (b : Bool) (d : Device) : SettingsCopy := if b then d.settings.copyB else d.settings.copyA

/-- What one access path holds, by path code (R419). -/
def pathState (p : Nat) (d : Device) : PathState := smGet {} d.settings.paths p

/-- Whole seconds of a path's lock that are left, rounded up (R543); 0 when it is not locked. -/
def lockSeconds (p : Nat) (d : Device) : Nat :=
  match (pathState p d).lockedUntil with | some t => (t - nowMs d + 999) / 1000 | none => 0

/-- Failures of a path in the current 10-minute window (R543). -/
def failureCount (p : Nat) (d : Device) : Nat := ((pathState p d).failures.filter fun t => decide (nowMs d < t + 600000)).length

/-- An authorisation slot holds a key (R537). -/
def authSlotSet (n : Nat) (d : Device) : Bool := n == 0 || (smGet {} d.sec.auth n).key.isSome

/-- Rights of an authorisation slot (Table 18.2). -/
def authRightsOf (n : Nat) (d : Device) : Nat := if n = 0 then 0x0F else (smGet {} d.sec.auth n).rights

/-- SanitizeState (Table 18.7). -/
def sanitizeStateOf (r : SanitizeRec) : Nat := if r.failed then 0x02 else if r.complete then 0x03 else if r.action = 0 then 0x00 else 0x01

/-- BanksInService (0x6120.02): bit b set when bank b is in service, in CarrierState 0x04 or 0x06 (spec/10 R292). -/
def banksMask (d : Device) : Nat :=
  (((List.range 16).filter fun b =>
    let st := getObj (Obj.carrierState b) d
    st == 0x04 || st == 0x06).map (2 ^ ·)).sum

/-- CompressionRatioRecent (Table 7.7): input over stored frames × 4,096 of the last 60 s, in hundredths. -/
def ratioRecent (d : Device) : Nat :=
  let r := d.media.wp.recent.filter fun e => decide (nowMs d < e.1 + 60000)
  (r.map fun e => e.2.1).sum * 100 / ((r.map fun e => e.2.2.1).sum * 4096)

/-- Slots of the volatile write buffer in use (R197): grains and unmapped grains of writes under the buffered rule, from landing until
durable or superseded. -/
def bufferInUse (d : Device) : Nat :=
  let m := d.media
  let open_ (q : Option Nat) : Bool := match q with | some q => decide (m.map.persistent ≤ q) | none => true
  (m.wp.writes.filter fun w => w.buffered && w.landed).foldl (fun n w =>
    n + (m.flight.filter fun g => g.cmd == w.id && !g.superseded && open_ g.seq).length
      + ((w.unmaps.filter fun u => open_ u.2.2).map fun u => u.2.1).sum) 0

/-- Live frames of a stripe as the block table bounds them (R264). -/
def stripeLive (n : Nat) (d : Device) : Nat :=
  ((d.media.blocks.filter fun e => e.2.stripe = n && e.2.role = 0).map fun e => e.2.valid).sum

/-- RestripeFramesLeft (Table 10.9). -/
def restripeLeft (d : Device) : Nat := (d.media.restripe.map fun r => stripeLive r.stripe d).sum

/-- RestripeProgressPermille: frames moved over frames in the set at its last growth. -/
def restripeProgress (d : Device) : Nat :=
  if d.media.restripe.isEmpty || d.media.rc.growthFrames = 0 then 1000
  else 1000 * (d.media.rc.growthFrames - restripeLeft d) / d.media.rc.growthFrames

/-- Banks in state 0x04. -/
def openBankCount (d : Device) : Nat := ((List.range 16).filter fun b => getObj (Obj.carrierState b) d == 0x04).length

/-- RestripeState (Table 10.9). -/
def restripeStateOf (d : Device) : Nat :=
  let paused := match d.media.evac with | some e => e.pausedThrottle || e.pausedShutdown | none => false
  if d.media.restripe.isEmpty then 0x00
  else if !(d.ctl.mode = .m5 || d.ctl.mode = .m6 || d.ctl.mode = .m7) || d.sub.shutdownRunning
      || d.media.restripe.all (fun r => r.aside || (paused && !r.lost)) then 0x04
  else if openBankCount d < 15 then 0x03
  else if d.media.rc.spaceRecorded then 0x02
  else 0x01

/-- The erase count of a block. -/
def eraseCount (b : Nat) (e : Block) (d : Device) : Nat :=
  min 524287 (e.erases + (smGet {} d.media.dies (b / 16384)).sweeps - e.spared)

/-- Erase counts of the good blocks that are listed: retired and failing blocks and failed dies apart (0x3410.03, 0x3410.04). -/
def goodErases (d : Device) : List Nat :=
  (d.media.blocks.filter fun e => e.2.state != 4 && e.2.state != 5 && !(smGet {} d.media.dies (e.1 / 16384)).failed).map
    fun e => eraseCount e.1 e.2 d

/-- The sum of the erase counts of the blocks that are not listed. -/
def unlistedErases (d : Device) : Nat :=
  ((d.media.dies.filter fun x => !x.2.failed && x.2.sweeps != 0).map fun x =>
    x.2.sweeps * (16384 - (d.media.blocks.filter fun e => e.1 / 16384 = x.1).length)).sum

/-- Good blocks of the device: 67,108,864 less the retired and failing ones and those of failed dies. -/
def goodBlockCount (d : Device) : Nat :=
  67108864 - 16384 * (d.media.dies.filter (·.2.failed)).length
    - (d.media.blocks.filter fun e => (e.2.state = 4 || e.2.state = 5) && !(smGet {} d.media.dies (e.1 / 16384)).failed).length

/-- A bank's dies in service (0x8204): not failed, on a present target, of a bank in service. -/
def carrierDies (b : Nat) (d : Device) : Nat :=
  let st := getObj (Obj.carrierState b) d
  if st = 0x04 || st = 0x06 then
    ((List.range 256).filter fun i => !(smGet {} d.media.dies (b * 256 + i)).failed
      && bitOf (getObj (Obj.channelTargetsPresent (b * 8 + i / 32)) d) (i % 32 / 4)).length
  else 0

/-- AIND of a bank (Table 10.5): 0 off, 1 blinking, 2 on. A refusal blinks it for 3 s (R318), locate blinks it where it is off (R311). -/
def aind (b : Nat) (d : Device) : Nat :=
  let st := getObj (Obj.carrierState b) d
  if st = 0x08 || st = 0x09 || st = 0x0B then 2
  else if st = 0x0A || nowMs d < (smGet {} d.media.carriers b).refusedUntil || getObj (Obj.carrierLocate b) d = 1 then 1
  else 0

/-- PIND of a bank (Table 10.5). -/
def pind (b : Nat) (d : Device) : Nat :=
  match getObj (Obj.carrierState b) d with
  | 0x04 => 2
  | 0x02 | 0x03 | 0x05 | 0x06 => 1
  | _ => 0

/-- CarrierSignals (Table 10.6). -/
def carrierSignals (b : Nat) (d : Device) : Nat :=
  let c := smGet {} d.media.carriers b
  64 * aind b d + 16 * pind b d + 8 * b2n c.button + 4 * b2n c.pgood + 2 * b2n (penHigh b d) + b2n c.present

/-- A namespace's grains (R138), map pages and chunks (R145). -/
def grainsOf (nsze : Nat) : Nat := (nsze + 15) / 16
def pagesOf (nsze : Nat) : Nat := (grainsOf nsze + 767) / 768
def chunksOf (nsze : Nat) : Nat := (pagesOf nsze + 1023) / 1024

/-- Slots that a namespace holds: active, or being deleted. -/
def slotsInUse (d : Device) : List Nat :=
  (List.range 1024).filter fun s => (smGet {} d.sub.namespaces s).active || d.sub.nsJobs.any fun j => j.delete && j.slots.contains s

/-- Map chunks not held by a namespace (0x3100.02). -/
def chunksFree (d : Device) : Nat :=
  getObj Obj.mapAreaChunks d - ((slotsInUse d).map fun s => chunksOf (smGet {} d.sub.namespaces s).nsze).sum

/-- The objects whose home is a structure. -/
def computedObj (key : Nat) (d : Device) : Option Nat :=
  if key = Obj.operatingMode then some (modeNum d.ctl.mode)
  else if key = Obj.previousMode then some (modeNum d.ctl.prev)
  else if key = Obj.modeCauses then some d.ctl.causes.toNat
  else if key = Obj.tokenPoolTotal then some (ledger 1 d).total
  else if key = Obj.tokensFree then some (ledger 1 d).free
  else if key = Obj.canTxSlotsFree then some (ledger 7 d).free
  else if 0x6201 ≤ key / 256 && key / 256 ≤ 0x6208 then
    let g := ledger (key / 256 - 0x6200) d
    match key % 256 with
    | 0x01 => some g.total
    | 0x02 => some g.free
    | 0x03 => some (smSum g.held)
    | 0x05 => some g.refused
    | _ => none
  else if key = Obj.logbookHeadSequence then some (headSequence d)
  else if key = Obj.logbookPersistedSequence then some (persistedSequence d)
  else if key = Obj.logbookOldestSequence then some (((heldRecords d).head?.map (·.seq)).getD 0)
  else if key = Obj.logbookRecordsHeld then some (heldRecords d).length
  else if key = Obj.logbookFramesHeld then some d.log.frames.length
  else if key = Obj.mapChunksFree then some (chunksFree d)
  else if key = Obj.namespacesActive then some (namespacesActive d)
  else if key = Obj.namespaceKeysLive then some (keysLive d)
  else if key = Obj.passHoldBytes then some ((d.media.groups.map fun g => (max g.2.encoded g.2.carried - g.2.fine) * 368640).sum)
  else if key = Obj.tokensWithheld then
    some ((((List.range 17).map fun i => heldBy 1 (i + 0x11) d)).sum)
  else if key = Obj.compressionRatioRecent then some (ratioRecent d)
  else if key = Obj.writeBufferInUse then some (bufferInUse d)
  else if key = Obj.restripeState then some (restripeStateOf d)
  else if key = Obj.restripeSetStripes then some d.media.restripe.length
  else if key = Obj.restripeFramesLeft then some (restripeLeft d)
  else if key = Obj.restripeProgressPermille then some (restripeProgress d)
  else if key = Obj.eraseCountMean then some (((goodErases d).sum + unlistedErases d) / goodBlockCount d)
  else if key = Obj.eraseCountMax then some ((d.media.dies.filter fun x => !x.2.failed).foldl (fun m x => max m x.2.sweeps) ((goodErases d).foldl max 0))
  else if 0x8360 ≤ key / 256 && key / 256 ≤ 0x837F then
    let x := smGet {} d.media.dies (key % 256 * 32 + (key / 256 - 0x8360))
    some (x.ageBase + x.gaugeAge)
  else if key = Obj.supplyRecoveryMv then some (getObj Obj.supplyWarningMv d + 300)
  else if key = Obj.codeStoreWriteProtect then some (b2n d.ctl.csWpLow)
  else if key / 256 = 0x8201 then some (carrierSignals (key % 256) d)
  else if key / 256 = 0x8204 then some (carrierDies (key % 256) d)
  else if key = Obj.banksInService then some (banksMask d)
  else if key = Obj.banksExpected then some ((d.media.expected.map (2 ^ ·)).sum)
  else if key = Obj.stripesPinned then some (d.media.stripes.filter fun e => !e.2.pinned.isEmpty).length
  else if key = Obj.releaseLogEntries then some d.media.rc.released.length
  else if key = Obj.lostRangeEntries then some d.media.rc.lostLog.length
  else if key = Obj.diesInService then some ((List.range 16).map fun b => carrierDies b d).sum
  else if key = Obj.profileVersion then some (slotVersionOf d.cs.running 0x04 d)
  else if key = Obj.mapPagesAllocated then some ((d.sub.namespaces.map fun e => if e.2.active then pagesOf e.2.nsze else 0).sum)
  else if key = Obj.mapPagesResident then some (d.media.map.pages.filter fun e => e.2.resident).length
  else if key = Obj.mapPagesDirty then some (d.media.map.pages.filter fun e => e.2.dirty).length
  else if key = Obj.replayRecordsPending then some ((d.media.map.pages.map fun e => e.2.replay.length).sum)
  else if key = Obj.profileEntryCount then some d.media.profile.length
  else if key = Obj.superblockGeneration then some d.media.sb.generation
  else if key = Obj.superblockSide then some d.media.sb.side
  else if key = Obj.anchorSidesLost then some d.media.sb.lostSides
  else if key = Obj.deviceInstance then some d.media.sb.instance_
  else if key = Obj.runningSlot then some d.cs.running
  else if key = Obj.nextSlot then some d.cs.nextSlot
  else if key = Obj.lastGoodSlot then some d.cs.lastGood
  else if key = Obj.bootAttempts then some d.cs.attempts
  else if key = Obj.slot1Flags then some (slotFlags d.cs.slot1)
  else if key = Obj.slot2Flags then some (slotFlags d.cs.slot2)
  else if key = Obj.blocksWorn then some d.cs.worn.length
  else if key = Obj.eraseCountMax7030 then some ((d.cs.eraseCounts.map Prod.snd).foldl max 0)
  else if key / 256 = 0x7011 then some (if key % 256 = 5 then d.cs.oa.version else slotVersionOf d.cs.running (key % 256) d)
  else if key / 256 = 0x7012 then some (slotVersionOf 1 (key % 256) d)
  else if key / 256 = 0x7013 then some (slotVersionOf 2 (key % 256) d)
  else if key / 256 = 0x7014 then some (smGet 0 d.cs.fusedMin (key % 256))
  else if key = Obj.signingKeysRevoked then some d.cs.keysRevoked
  else if key = Obj.settingsVersion then some (settingsCopy d.cs.activeB d).version
  else if key = Obj.settingsActiveCopy then some (b2n d.cs.activeB)
  else if key = Obj.keyAreaEntriesFree then some (1364 - d.sec.used)
  else if key = Obj.namespacesKeyLost then some d.sec.keyLost.length
  else if key / 256 = 0x4411 then some (authRightsOf (key % 256 - 1) d)
  else if key / 256 = 0x4412 then some (b2n (authSlotSet (key % 256 - 1) d))
  else if key / 256 = 0x4420 then some (lockSeconds (key % 256) d)
  else if key / 256 = 0x4421 then some (failureCount (key % 256) d)
  else if key / 256 = 0x4422 then some (pathState (key % 256) d).challenges.length
  else if key = Obj.sanitizeState then some (sanitizeStateOf d.sec.san)
  else if key = Obj.sanitizeStep then some (if d.sec.san.action = 0 then 0 else d.sec.san.step)
  else none

/-- What a scalar object holds. -/
def scalarValue (key : Nat) (d : Device) : Nat := (computedObj key d).getD (getObj key d)

/-- The source of a "From" object is loaded (R405): 1 in `loaded` marks the superblock, 2 what the wake loads, 3 the reference ring. -/
def sourceLoaded (src : Source) (d : Device) : Bool :=
  match src with
  | .none | .straps | .optionArea | .boot | .settings | .counters | .keyArea => true
  | .mp => d.cs.running != 0
  | .dram => d.ctl.bootComplete
  | .superblock => d.settings.loaded.contains 1
  | .namespaces | .blockTable | .wake | .calendar | .lostLog => d.settings.loaded.contains 2
  | .round => d.therm.last.isSome
  | .ring => d.settings.loaded.contains 3

/-- Objects held in HK, by index (R53, R403; notes/assumptions/44.md). -/
def heldInHk (index : Nat) : Bool :=
  (0x1000 ≤ index && index ≤ 0x1015) || index = 0x3520 || (0x4410 ≤ index && index ≤ 0x4422) || (0x5010 ≤ index && index ≤ 0x5301)
    || index = 0x6001 || index = 0x6020 || index = 0x6021 || index = 0x6207 || index = 0x6208 || index = 0x6300
    || (0x7000 ≤ index && index ≤ 0x7040) || index = 0x8201 || index = 0x8210 || index = 0x8211 || index = 0xA001

/-- The mode admits a read of an index (R403, R598). -/
def readAdmitted (index : Nat) (d : Device) : Bool :=
  match d.ctl.mode with
  | .m0 | .m1 => false
  | .m2 => (0x1000 ≤ index && index ≤ 0x1015) || index = 0x6001 || index = 0x6020 || (0x7010 ≤ index && index ≤ 0x7014)
    || index = 0x7030 || index = 0x7040 || index = 0xA001
  | .m11 => heldInHk index && index != 0x7040
  | _ => index != 0x7040

/-- A row's object can be read at the moment. -/
def readable (key : Nat) (d : Device) : Bool :=
  readAdmitted (key / 256) d && match objRow? key with
    | some r => match r.form with | .source src => sourceLoaded src d | _ => true
    | none => false

end Sys2Proof.Machine
end

