-- ==== Sys2Proof/Machine/Events.lean ====
section
/-! DEFINITION. What every command may cause: completion entries and interrupts, asynchronous events, CAN frames, logbook records, mode
changes and the handling of a broken ledger. -/
namespace Sys2Proof.Machine

/-! ### Completion entries and interrupts (spec/11 R333 to R335, spec/12 R360) -/

/-- A feature's value on one controller, 0 where never set. -/
def featureOf (p fid : Nat) (d : Device) : Nat := (smGet none (port p d).features fid).getD 0

/-- Send the message of a completion queue's vector, or set its pending bit where it is masked. -/
def signalVector (v : Nat) (t : PortState) : PortState :=
  if t.msixEnable then
    if t.functionMask || t.masked.contains v then
      { t with pendingVec := if t.pendingVec.contains v then t.pendingVec else v :: t.pendingVec }
    else { t with messages := v :: t.messages }
  else if t.msiEnable then
    let w := v % t.msiVectors
    if bitOf t.intMask.toNat w then
      { t with pendingVec := if t.pendingVec.contains w then t.pendingVec else w :: t.pendingVec }
    else { t with messages := w :: t.messages }
  else t

/-- Interrupt coalescing applies to a vector: feature 0x08 has a time and a threshold, the vector is not 0 and has no CD bit. -/
def coalesces (t : PortState) (v : Nat) : Bool :=
  let f := (smGet none t.features 0x08).getD 0
  v != 0 && f / 256 % 256 != 0 && f % 256 != 0 && (smGet none t.features (0x0900 + v)).getD 0 == 0

/-- An interrupt of a completion queue becomes due. -/
def cqDue (cq : Nat) (t : PortState) : PortState :=
  let q := smGet {} t.cqs cq
  if !q.ien then t
  else if coalesces t q.vector && q.coalesced ≤ (smGet none t.features 0x08).getD 0 % 256 then t
  else signalVector q.vector { t with cqs := smUpd {} cq (fun q => { q with coalesced := 0 }) t.cqs }

/-- Put a completion entry into its completion queue; it waits while the queue is full, and is gone where the queue has been deleted. -/
def enqueueCompletion (c : Completion) (t : PortState) : PortState :=
  let cq := if c.sqid = 0 then 0 else (smGet {} t.sqs c.sqid).cqid
  let q := smGet {} t.cqs cq
  if !q.live then t
  else if q.size ≤ q.posted.length + 1 then
    { t with cqs := smUpd {} cq (fun q => { q with waiting := q.waiting ++ [c] }) t.cqs }
  else cqDue cq { t with cqs := smUpd {} cq (fun q => { q with posted := q.posted ++ [c], coalesced := q.coalesced + 1 }) t.cqs }

/-- A port can send requests: bus master, not in D3hot, not in L2/L3 Ready (R339, R347, R348). -/
def portSends (p : Nat) (d : Device) : Bool :=
  (port p d).bme && getObj (Obj.portPowerState p) d != 0x03 && getObj (Obj.portLinkState p) d != 0x05

/-- Lanes of a configured port (Table 11.1). -/
def configuredWidth (d : Device) : Nat := match getObj Obj.portConfig d with | 0x01 => 4 | 0x02 => 2 | _ => 8

/-- The link state of a port in L0 (R325). -/
def activeLinkState (p : Nat) (d : Device) : Nat :=
  if getObj Obj.maxLinkSpeedCode d = 0x05
      && (getObj (Obj.portLinkSpeed p) d < 5 || getObj (Obj.portLinkWidth p) d < configuredWidth d) then 0x03 else 0x02

/-- Traffic takes a link out of L1 (R350). -/
def leaveL1 (p : Nat) (d : Device) : Device :=
  if getObj (Obj.portLinkState p) d = 0x04 then setObj (Obj.portLinkState p) (activeLinkState p d) d else d

/-- Post a completion entry, after the data and before the interrupt of its command (R337); it is held while the port cannot send (R339, R347). -/
def postCompletion (p : Nat) (c : Completion) (d : Device) : Device :=
  if portSends p d then updPort p (enqueueCompletion c) (leaveL1 p d)
  else updPort p (fun t => { t with held := t.held ++ [c] }) d

/-! ### Asynchronous events (spec/12 R387) -/

/-- Asynchronous Event Configuration, and VendorEventEnable for vendor events, enable an event (Table 12.12). A SMART event is raised only
where the bit of its warning is enabled. -/
def eventEnabled (p : Nat) (e : AsyncEvent) (d : Device) : Bool :=
  let aec := featureOf p 0x0B d
  match e.typ with
  | 0 => true
  | 1 => true
  | 2 => if e.page = 0x08 then bitOf aec 10 else bitOf aec 8
  | 6 => true
  | _ => bitOf (getObj (Obj.vendorEventEnable p) d) e.info

/-- Raise an event on a port: it completes the oldest Asynchronous Event Request, or waits for one. -/
def raiseEvent (p : Nat) (e : AsyncEvent) (d : Device) : Device :=
  let t := port p d
  if !eventEnabled p e d || (t.eventsMasked.any fun m => m % 256 == e.typ) || t.events.contains e then d
  else match t.aers with
    | cid :: rest =>
      postCompletion p { cid := cid, dw0 := e.typ + 256 * e.info + 65536 * e.page }
        (updPort p (fun t => { t with aers := rest, eventsMasked := (e.typ + 256 * e.page) :: t.eventsMasked }) d)
    | [] => updPort p (fun t => { t with events := t.events ++ [e] }) d

/-- Raise an event on every port whose controller is ready. -/
def raiseOnAll (e : AsyncEvent) (d : Device) : Device :=
  (List.range 4).foldl (fun d p => if (port p d).rdy then raiseEvent p e d else d) d

/-! ### CAN frames (spec/14 R448, R449) -/

/-- Queue frames that wait in order, as slots become free. -/
def serveBacklog : Nat → Device → Device
  | 0, d => d
  | fuel + 1, d =>
    match d.can.backlog with
    | [] => d
    | f :: rest =>
      if grantOk 7 f.owner 1 d then
        serveBacklog fuel (ledgerTake 7 f.owner 1
          { d with can := { d.can with backlog := rest, queue := d.can.queue ++ [f] } })
      else d

/-- Serve as much of the backlog as slots allow. -/
def serveWaitingFrames (d : Device) : Device := serveBacklog d.can.backlog.length d

/-- Replace the oldest queued heartbeat by `f` (R448): withdrawn at once, or sent to its end where it has won arbitration. -/
def replaceHeartbeat (f : CanFrame) (d : Device) : Device :=
  match d.can.queue.findIdx? (fun g => g.owner == 1 && !g.withdrawn) with
  | none => { d with can := { d.can with backlog := d.can.backlog ++ [f] } }
  | some i =>
    match d.can.queue[i]? with
    | none => d
    | some g =>
      if g.onBus then
        { d with can := { d.can with queue := d.can.queue.set i { g with withdrawn := true }, backlog := d.can.backlog ++ [f] } }
      else
        incObj Obj.canTxCancelled { d with can := { d.can with queue := d.can.queue.eraseIdx i ++ [f] } }

/-- Queue a frame for transmission in a slot of its owner (R448). A silent node transmits nothing (R430). -/
def queueFrame (f : CanFrame) (d : Device) : Device :=
  if d.can.silent then d
  else if grantOk 7 f.owner 1 d && (f.owner == 4 || f.owner == 1 || !(d.can.backlog.any fun g => g.owner == f.owner)) then
    ledgerTake 7 f.owner 1 { d with can := { d.can with queue := d.can.queue ++ [f] } }
  else if f.owner = 1 then replaceHeartbeat f d
  else if f.owner = 4 then incObj Obj.logbookNoticesDropped d
  else countRefused 7 { d with can := { d.can with backlog := d.can.backlog ++ [f] } }

/-! ### Logbook records (spec/19) -/

/-- A record's 64 bytes (R555, Table 19.1). -/
def recordBytes (r : LogRecord) : List Byte :=
  leBytes 4 r.seq ++ leBytes 4 (2 ^ 32 - 1 - r.seq % 2 ^ 32) ++ leBytes 4 r.hours ++ leBytes 3 r.cycle ++ leBytes 1 r.cls
    ++ leBytes 2 r.code ++ leBytes 1 r.snaps.length ++ leBytes 5 0
    ++ ((r.snaps ++ List.replicate (8 - r.snaps.length) 0).map (leBytes 5)).flatten

/-- The emergency class of a record, where its event is one of Table 14.10. -/
def emergencyClass (r : LogRecord) : Option Nat :=
  if r.code = Code.modeChange then
    match r.snaps with
    | _ :: m :: _ => if m = 8 || m = 10 || m = 11 then some 0x01 else none
    | _ => none
  else if r.code = Code.dieTempWarning || r.code = Code.carrierTempWarning then some 0x02
  else if r.code = Code.carrierRemoved || r.code = Code.carrierPowerFault || r.code = Code.carrierThermalShutdown then some 0x03
  else if r.code = Code.dieFailed || r.code = Code.stripeLost || r.code = Code.banksBelowMinimum then some 0x04
  else if r.code = Code.canBusOff then some 0x05
  else none

/-- Frames are sent in modes M2 to M11 (spec/14). -/
def frameMode (m : Mode) : Bool := match m with | .m0 | .m1 => false | _ => true

/-- Notices are sent in modes M3 to M11 (R447). -/
def noticeMode (m : Mode) : Bool := match m with | .m0 | .m1 | .m2 => false | _ => true

/-- The emergency of a record (R446, Table 14.9). -/
def sendEmergency (r : LogRecord) (d : Device) : Device :=
  match emergencyClass r with
  | some c =>
    if frameMode d.ctl.mode then
      queueFrame { func := 1, owner := 2, queuedMs := nowMs d,
                   data := leBytes 1 c ++ leBytes 1 (modeNum d.ctl.mode) ++ leBytes 2 r.code ++ leBytes 4 r.seq
                     ++ leBytes 5 (r.snaps.head?.getD 0) ++ leBytes 3 0 } d
    else d
  | none => d

/-- The logbook notice of a record (R447). -/
def sendNotice (r : LogRecord) (d : Device) : Device :=
  if !noticeMode d.ctl.mode || d.can.silent || !bitOf (getObj Obj.logbookNoticeClasses d) r.cls then d
  else
    let recent := d.can.noticeMs.filter fun t => decide (nowMs d < t + 1000)
    if getObj Obj.logbookNoticeRate d ≤ recent.length || !grantOk 7 4 1 d then incObj Obj.logbookNoticesDropped d
    else queueFrame { func := 0xE, owner := 4, queuedMs := nowMs d, data := recordBytes r }
      { d with can := { d.can with noticeMs := nowMs d :: recent } }

/-- The controller-initiated telemetry capture of R385, and its notice (R561). -/
def captureTelemetry (d : Device) : Device :=
  raiseOnAll { typ := 2, info := 0x02, page := 0x08 }
    { d with free := d.free + 1
             sub := { d.sub with telemetry := some (d.free, ringRecords d), telemetryGen := (d.sub.telemetryGen + 1) % 256
                                 telemetryAvailable := true } }

/-- Put a record into the ring (R563): a full ring loses its oldest persisted record, or its oldest where none is persisted. -/
def ringAppend (r : LogRecord) (d : Device) : Device :=
  let g := d.log
  if g.ring.length < 4096 then { d with log := { g with ring := g.ring ++ [{ entry := r }] } }
  else
    match g.ring.findIdx? (·.persisted) with
    | some i => { d with log := { g with ring := g.ring.eraseIdx i ++ [{ entry := r }] } }
    | none =>
      let first := (g.ring.head?.map (·.entry.seq)).getD 0
      incObj Obj.logbookRecordsOverwritten
        { d with log := { g with ring := g.ring.drop 1 ++ [{ entry := r }],
                                 lostFirst := if g.lostCount = 0 then first else g.lostFirst, lostCount := g.lostCount + 1 } }

/-- `a` is later than `b` in serial-number arithmetic (R556). -/
def serialLater (a b : Nat) : Bool :=
  let diff := (a + 2 ^ 32 - b) % 2 ^ 32
  1 ≤ diff && diff ≤ 2 ^ 31 - 1

/-- The number after `n`: 0 is never used (R556). -/
def seqAfter (n : Nat) : Nat := if n = 0xFFFFFFFF then 1 else n + 1

/-- `n` units further on, passing over 0 (R556, R557). -/
def seqAdd (n k : Nat) : Nat := if n + k < 2 ^ 32 then n + k else n + k - (2 ^ 32 - 1)

/-- The counter images take a new entry (R580). -/
def appendCounterEntry (e : CounterEntry) (d : Device) : Device :=
  updCs (fun c => logAppend 6 (logAppend 4 { c with counters := e })) d

/-- Raise the ceiling when the next number comes within 1,024 of it (R557). -/
def raiseCeiling (d : Device) : Device :=
  if d.log.raising.isNone && (d.log.ceiling + 2 ^ 32 - d.log.nextSeq) % 2 ^ 32 ≤ 1024 then
    let c := seqAdd d.log.ceiling 65536
    appendCounterEntry { hours := hours d, cycles := getObj Obj.powerCycleCount d, ceiling := c }
      { d with log := { d.log with raising := some c } }
  else d

/-- The values of the objects named in FaultSnapshotObject, for a record of class 0x01 (R559). -/
def faultSnapshots (d : Device) : List Nat :=
  ([1, 2, 3].map fun i => getObj (Obj.faultSnapshotObject i) d).filterMap fun k =>
    if k = 0 then none else some (if readable k d then scalarValue k d % 2 ^ 40 else 0xFFFFFFFFFF)

/-- Accept a record: number it, put it into the ring, and do what its class asks for (R556 to R564). -/
def acceptRecord (code : Nat) (snaps : List Nat) (d : Device) : Device :=
  let cls := codeClass code
  let all := (snaps.map (· % 2 ^ 40) ++ if cls = 0x01 then faultSnapshots d else []).take 8
  let r : LogRecord := { seq := d.log.nextSeq, hours := hours d, cycle := getObj Obj.powerCycleCount d % 2 ^ 24, cls := cls,
                         code := code, snaps := all }
  let d := raiseCeiling (ringAppend r { d with log := { d.log with nextSeq := seqAfter d.log.nextSeq } })
  let full := 4096 ≤ (d.log.ring.filter (fun e => !e.persisted)).length
  let d := if cls = 0x01 || full then { d with log := { d.log with flushDue := true } } else d
  sendNotice r (sendEmergency r (if cls = 0x01 then captureTelemetry d else d))

/-- Record a code with its snapshots. The writer holds a record before the run start's step 4, and one that would take a number at or
beyond the ceiling (R557). -/
def logRec (code : Nat) (snaps : List Nat) (d : Device) : Device :=
  if !d.log.runStarted || !d.log.waiting.isEmpty || d.log.nextSeq = d.log.ceiling then
    { d with log := { d.log with waiting := d.log.waiting ++ [(code, snaps)] } }
  else acceptRecord code snaps d

/-- Accept the waiting records, oldest first, while the ceiling allows. -/
def acceptWaiting : Nat → Device → Device
  | 0, d => d
  | fuel + 1, d =>
    match d.log.waiting with
    | [] => d
    | (code, snaps) :: rest =>
      if d.log.nextSeq = d.log.ceiling then d
      else acceptWaiting fuel (acceptRecord code snaps { d with log := { d.log with waiting := rest } })

/-! ### PCIe errors (spec/11 R341) -/

/-- An uncorrectable error of a port: counted, logged in Advanced Error Reporting by its status bit and, where that is not masked and the
header log is free, with its header; recorded at most once per second. -/
def uncorrectableError (p bit header : Nat) (d : Device) : Device :=
  let t := port p d
  let status := setBit t.aerUncorrectable bit true
  let log := t.aerFirst.isNone && !bitOf t.cfg.uncorrectableMask bit
  let due := match t.uncorrMs with | some m => decide (m + 1000 ≤ nowMs d) | none => true
  let d := updPort p (fun t => { t with
    aerUncorrectable := status
    aerFirst := if log then some bit else t.aerFirst
    aerHeader := if log then header else t.aerHeader
    uncorrMs := if due then some (nowMs d) else t.uncorrMs }) (incObj (Obj.portUncorrectableErrors p) d)
  if due then logRec Code.pcieUncorrectable [p, status, header] d else d

end Sys2Proof.Machine
end

