-- ==== Sys2Proof/Machine/Arbiter.lean ====
section
/-! DEFINITION. The power-token arbiter: grants by rotation, guard and flush priority, quotas, and what the throttles and a resize
withhold (spec/16 R488 to R490, spec/15 R481, R482). -/
namespace Sys2Proof.Machine

/-- The largest carrier base plus power-up charge among the entries of the active profile (R489). -/
def largestCarrierCharge (d : Device) : Nat :=
  d.media.profile.foldl (fun m e => max m (e.2.tokBase + e.2.tokPowerUp)) 0

/-- The quota in force (R489). -/
def quotaInForce (d : Device) : Nat := max (getObj Obj.tokenBankQuota d) (largestCarrierCharge d)

/-- A bank's slice: its operations, base and carrier throttle. -/
def sliceHeld (bank : Nat) (d : Device) : Nat := heldBy 1 (bank + 1) d + heldBy 1 (bank + 0x11) d

/-- R485 with the quota of R489. -/
def tokenFits (bank amount : Nat) (d : Device) : Bool :=
  grantOk 1 (bank + 1) amount d && decide (sliceHeld bank d + amount ≤ quotaInForce d)

/-- What is left for an owner without a reserve under R485. -/
def leftFor (o : Nat) (d : Device) : Nat := (ledger 1 d).free - claimedByOthers 1 o d

/-- How many tokens each withholding owner of Table 16.2 is to hold, in the order of R490. -/
def withholdTarget (o : Nat) (d : Device) : Nat :=
  if o = 0x22 then match d.res.resizeTo with | some t => (ledger 1 d).total - t | none => 0
  else if o = 0x21 then getObj Obj.tokenPoolSize d * (25 * getObj Obj.throttleLevel d) / 100
  else
    let bank := o - 0x11
    if bitOf (getObj (Obj.carrierThermalState bank) d) 3 && penHigh bank d then quotaInForce d / 2 else 0

/-- The withholding owners of Table 16.2. -/
def withholders : List Nat := (List.range 16).map (· + 0x11) ++ [0x21, 0x22]

/-- A withholding owner takes up to its target, and returns what it holds beyond it. -/
def withholdOne (d : Device) (o : Nat) : Device :=
  let want := withholdTarget o d
  let have_ := heldBy 1 o d
  if want < have_ then ledgerGive 1 o (have_ - want) d
  else
    let room := if o = 0x22 then (ledger 1 d).free else leftFor o d
    let room := if o ≤ 0x20 then min room (quotaInForce d - sliceHeld (o - 0x11) d) else room
    let n := min (want - have_) room
    if n = 0 then d else ledgerTake 1 o n d

/-- When the resize owner holds all it needs, the total and its holding fall together (R488). -/
def finishResize (d : Device) : Device :=
  match d.res.resizeTo with
  | none => d
  | some t =>
    let g := ledger 1 d
    if t ≤ g.total ∧ g.total - t ≤ smGet 0 g.held 0x22 then
      logRec Code.tokenPoolResized [d.res.resizeFrom, t]
        { updLedger 1 (fun g => setTotal t { g with held := smUpd 0 0x22 (· - (g.total - t)) g.held }) d with
          res := { d.res with resizeTo := none } }
    else d

/-- A request of a hold-up flush waits. -/
def flushWaits (d : Device) : Bool := d.res.waiting.any (·.flush)

/-- The withholding owners take returned tokens, only while no flush request waits (R490). -/
def withhold (d : Device) : Device :=
  if flushWaits d then d else finishResize (withholders.foldl withholdOne d)

/-- The oldest waiting request of a bank. -/
def bankOldest (bank : Nat) (d : Device) : Option TokenReq := d.res.waiting.find? (·.bank == bank)

/-- The request that has engaged the guard and waited longest. -/
def guardedRequest (d : Device) : Option TokenReq :=
  (d.res.waiting.filter (·.guard)).foldl
    (fun best r => match best with | none => some r | some b => if r.sinceMs < b.sinceMs then some r else some b) none

/-- The banks in rotation, starting after the bank last served. -/
def rotation (d : Device) : List Nat := (List.range 16).map fun i => (d.res.lastBank + 1 + i) % 16

/-- The request the arbiter serves next: while one of a flush waits, such a request alone; then the guarded one, then the banks' oldest in
rotation (R490). -/
def nextRequest (d : Device) : Option TokenReq :=
  if flushWaits d then d.res.waiting.find? (fun r => r.flush && tokenFits r.bank r.amount d)
  else
    match guardedRequest d with
    | some r => if tokenFits r.bank r.amount d then some r else none
    | none => ((rotation d).filterMap fun b => bankOldest b d).find? fun r => tokenFits r.bank r.amount d

/-- Grant a waiting request. -/
def grantRequest (r : TokenReq) (d : Device) : Device :=
  ledgerTake 1 (r.bank + 1) r.amount
    { d with res := { d.res with waiting := d.res.waiting.erase r, lastBank := r.bank } }

/-- An operation asks for tokens (R485, R490): granted at once when nothing of its bank waits, no guard holds it back and the tokens fit;
otherwise it waits in the order of request. -/
def requestTokens (bank amount : Nat) (flush : Bool) (d : Device) : Device :=
  let r : TokenReq := { id := d.res.nextReq, bank := bank, amount := amount, sinceMs := nowMs d, flush := flush }
  let d := { d with res := { d.res with nextReq := d.res.nextReq + 1 } }
  let free := flush || ((bankOldest bank d).isNone && (guardedRequest d).isNone && !flushWaits d)
  if free && tokenFits bank amount d then
    ledgerTake 1 (bank + 1) amount { d with res := { d.res with lastBank := bank } }
  else countRefused 1 { d with res := { d.res with waiting := d.res.waiting ++ [r] } }

/-- Tokens come back to the free count; the withholding owners take their share (R486, R490). -/
def returnTokens (bank amount : Nat) (d : Device) : Device := withhold (ledgerGive 1 (bank + 1) amount d)

/-- A bank's PEN is cleared: every token its operations, charges and carrier throttle hold returns in one update (R81). -/
def returnAllTokens (bank : Nat) (d : Device) : Device :=
  let d := { d with res := { d.res with waiting := d.res.waiting.filter (·.bank != bank) } }
  withhold (ledgerGive 1 (bank + 0x11) (heldBy 1 (bank + 0x11) d) (ledgerGive 1 (bank + 1) (heldBy 1 (bank + 1) d) d))

/-- A transfer is sent on a fabric link: it takes a credit, or waits until one returns (R498; notes/assumptions/14.md). -/
def sendOnLink (link : Nat) (d : Device) : Device :=
  if grantOk 6 link 1 d then ledgerTake 6 link 1 d
  else { d with res := { d.res with linkWaits := smUpd 0 link (· + 1) d.res.linkWaits } }

/-- Every credit of a link returns, and no transfer waits for one (R498). -/
def clearLink (d : Device) (link : Nat) : Device :=
  ledgerGive 6 link (heldBy 6 link d) { d with res := { d.res with linkWaits := smErase link d.res.linkWaits } }

/-- The fabric links of a power domain (Tables 15.1, 16.5). -/
def linksOf (dd : Nat) : List Nat :=
  match dd with
  | 2 => [1, 2]
  | 3 => [6]
  | 4 => [7]
  | 5 => [5]
  | 6 => [1, 2, 3, 4, 6, 7] ++ (List.range 32).map (· + 0x10)
  | 7 => [3, 4, 5]
  | _ => if 0x10 ≤ dd then [dd, dd + 0x10] else []

/-- A domain returns every credit of its links (R498, step 3 of Table 15.4). -/
def returnCredits (dd : Nat) (d : Device) : Device := (linksOf dd).foldl clearLink d

/-- A write of TokenPoolSize (R488): a write during a resize restarts it from the total then in force. -/
def resizePool (new : Nat) (d : Device) : Device :=
  let d := ledgerGive 1 0x22 (heldBy 1 0x22 d) { d with res := { d.res with resizeTo := none } }
  let g := ledger 1 d
  let d := { d with res := { d.res with resizeFrom := g.total } }
  if new = g.total then d
  else if g.total < new then
    logRec Code.tokenPoolResized [g.total, new]
      (updLedger 1 (fun g => setTotal new { g with free := g.free + (new - g.total) }) d)
  else if g.total - new ≤ g.free then
    logRec Code.tokenPoolResized [g.total, new]
      (updLedger 1 (fun g => setTotal new { g with free := g.free - (g.total - new) }) d)
  else withhold { d with res := { d.res with resizeTo := some new } }

end Sys2Proof.Machine
end

