-- ==== Sys2Proof/Machine/Modes.lean ====
section
/-! DEFINITION. Modes: their causes, what a transition does, the throttling condition, the entry to M8, M10, M11 and M1, and the choice
among due transitions (spec/02). -/
namespace Sys2Proof.Machine

/-! ### Queries -/

/-- The state of a bank's carrier (0x8200.bb, Table 10.5). -/
def carrierState (bank : Nat) (d : Device) : Nat := getObj (Obj.carrierState bank) d

/-- A bank is in service (spec/10 R292). -/
def bankInService (bank : Nat) (d : Device) : Bool := carrierState bank d = 0x04 || carrierState bank d = 0x06

/-- The banks in service. -/
def banksInService (d : Device) : List Nat := (List.range 16).filter (bankInService · d)

/-- A bank is open to new stripes: in service and not draining. -/
def bankOpen (bank : Nat) (d : Device) : Bool := carrierState bank d = 0x04

/-- How many banks are open to new stripes (R292). -/
def banksOpen (d : Device) : Nat := ((List.range 16).filter (bankOpen · d)).length

/-- A plane group needs a coarse or fine pass for a frame or parity; the fine pass of a padding wordline is not pending (R54). -/
def passesPending (g : Group) : Bool :=
  g.used && decide (g.fine + (if g.padding.contains (g.encoded - 1) then 1 else 0) < g.encoded)

/-- The journal holds records that are not persistent: system frames still to be programmed (R54, R163). -/
def recordsOpen (d : Device) : Bool := decide (d.media.map.persistent < getObj Obj.journalSequence d)

/-- The volatile write buffer holds data, unmapped grains among it, or program passes are pending (R54). -/
def flushNeeded (d : Device) : Bool :=
  d.media.flight.any (fun g => !g.superseded) || (d.media.wp.writes.any fun w => w.landed && w.unmaps.any (·.2.2.isNone))
    || recordsOpen d || d.media.groups.any fun g => passesPending g.2

/-- The standby complex is in control. -/
def standbyInControl (d : Device) : Bool := getObj Obj.complexInControl d = 0x02

/-- BankMissing: evaluated from the end of carrier staging (R36, R293). -/
def bankMissing (d : Device) : Bool := d.ctl.staged && d.media.expected.any fun b => !bankInService b d

/-- Rebuild: the restripe set holds a stripe with a lost member (R293). -/
def rebuilding (d : Device) : Bool := d.ctl.staged && d.media.restripe.any (·.lost)

/-- An M6 cause is present (R36). -/
def m6Cause (d : Device) : Bool := bankMissing d || rebuilding d || standbyInControl d

/-- An NVMe shutdown notification is being processed in M7 or M9, or waits in M4 or M8 (Table 2.3 bit 4). -/
def shutdownNotice (d : Device) : Bool := d.sub.shutdownRunning || (List.range 4).any fun p => (port p d).shutWaiting

/-- Modes M5 and M6. -/
def serviceMode (m : Mode) : Bool := m = .m5 || m = .m6

/-- Modes M4 to M9. -/
def dataMode (m : Mode) : Bool := match m with | .m4 | .m5 | .m6 | .m7 | .m8 | .m9 => true | _ => false

/-- The carrier's throttling condition is on (0x8211.bb bit 3). -/
def carrierThrottled (bank : Nat) (d : Device) : Bool := bitOf (getObj (Obj.carrierThermalState bank) d) 3

/-- A throttling condition is active for the die or a carrier. -/
def throttlingActive (d : Device) : Bool := d.therm.dieThrottle || (List.range 16).any (carrierThrottled · d)

/-- The causes and conditions of Table 2.3 as they stand. -/
def causesNow (d : Device) : Word32 :=
  BitVec.ofNat 32
    (b2n (bankMissing d) + 2 * b2n (rebuilding d) + 4 * b2n (standbyInControl d) + 8 * b2n d.media.evac.isSome
      + 16 * b2n (shutdownNotice d) + 64 * b2n d.ctl.coldHold + 128 * b2n d.ctl.supplyHold + 256 * b2n d.settings.lost
      + 65536 * b2n d.therm.dieThrottle + 131072 * b2n ((List.range 16).any (carrierThrottled · d)))

/-- Update ModeCauses (R36): in M10 and M11 it keeps the value it had on entry. -/
def updateCauses (d : Device) : Device :=
  if d.ctl.mode = .m10 || d.ctl.mode = .m11 then d else { d with ctl := { d.ctl with causes := causesNow d } }

/-- The level of the ALIVE pin (R38, Table 2.5): high in M3 to M9 and in no other mode, so the entry to M10 or M11 drives it low (R52, R53). -/
def alive (d : Device) : Bool := d.ctl.mode = .m3 || dataMode d.ctl.mode

/-! ### Heartbeat (spec/14 R441) -/

/-- A temperature as the heartbeat and 0x5300 carry it: °C plus 64. -/
def tempByte (t : Int) : Nat := if t ≤ -64 then 0 else if 191 ≤ t then 255 else (t + 64).toNat

/-- Queue a heartbeat, which names the mode (R38); `ack` is the WakeSequence it acknowledges (Table 14.8). -/
def queueHeartbeat (ack : Option Nat) (d : Device) : Device :=
  if !frameMode d.ctl.mode || d.can.silent then d
  else
    let quiet := d.ctl.mode = .m2 || d.ctl.mode = .m3 || d.ctl.mode = .m11
    let c := d.ctl.causes.toNat
    let flags := 128 * b2n (!d.can.bootSent) + 64 * b2n ack.isSome + 32 * b2n d.can.nodeConflict
      + 16 * b2n (bitOf c 16 || bitOf c 17) + 8 * b2n d.settings.lost + 4 * b2n (getObj Obj.holdUpState d != 0x02)
      + 2 * b2n (getObj Obj.wallClockSource d == 0) + b2n d.can.busOffSince
    let seq := if d.can.bootSent then (d.can.hbSeq + 1) % 256 else 0
    let data := leBytes 1 (modeNum d.ctl.mode) ++ leBytes 1 flags ++ leBytes 1 seq ++ leBytes 1 (ack.getD 0) ++ leBytes 4 c
      ++ leBytes 4 (if quiet then 0 else getObj Obj.nextWakeDueHours d)
      ++ leBytes 2 (if quiet then 0 else banksMask d) ++ leBytes 1 d.therm.hottest ++ leBytes 1 0
    queueFrame { func := 7, owner := 1, queuedMs := nowMs d, data := data }
      { d with can := { d.can with hbSeq := seq, bootSent := true, busOffSince := false } }

/-! ### The throttling condition (R47, spec/15 R478, R481, R482) -/

/-- Set bits of CarrierThermalState of a bank. -/
def setThermalBit (bank k : Nat) (b : Bool) (d : Device) : Device :=
  setObj (Obj.carrierThermalState bank) (setBit (getObj (Obj.carrierThermalState bank) d) k b) d

/-- Start die throttling at level 1. -/
def startDieThrottle (d : Device) : Device :=
  if d.therm.dieThrottle then d
  else
    withhold (logRec Code.throttleStart [0x01, 0xFF, tempByte d.therm.dieMax] (setObj Obj.throttleLevel 1
      { d with therm := { d.therm with dieThrottle := true, levelStartMax := d.therm.dieMax, levelStartMs := nowMs d } }))

/-- End die throttling: the level returns at once to 0 and the throttle returns its tokens. -/
def endDieThrottle (d : Device) : Device :=
  if d.therm.dieThrottle then
    withhold (logRec Code.throttleEnd [0x01, 0xFF, tempByte d.therm.dieMax] (setObj Obj.throttleLevel 0
      { d with therm := { d.therm with dieThrottle := false } }))
  else d

/-- Start a carrier's throttling. -/
def startCarrierThrottle (bank : Nat) (d : Device) : Device :=
  if carrierThrottled bank d then d
  else withhold (logRec Code.throttleStart [0x02, bank, getObj (Obj.carrierTemperature bank) d] (setThermalBit bank 3 true d))

/-- End a carrier's throttling. -/
def endCarrierThrottle (bank : Nat) (d : Device) : Device :=
  if carrierThrottled bank d then
    withhold (logRec Code.throttleEnd [0x02, bank, getObj (Obj.carrierTemperature bank) d] (setThermalBit bank 3 false d))
  else d

/-- A throttle threshold of the die or a carrier is reached and has not been left by 5 °C since: what pauses an evacuation in M7 and the
Sanitize in M9 (R47). A sensor fault is no threshold. -/
def thresholdHeld (d : Device) : Bool :=
  d.therm.dieHot || (List.range 16).any fun b => (smGet {} d.therm.carriers b).throttle

/-- A carrier reading or fault holds the throttling condition. -/
def carrierHot (bank : Nat) (d : Device) : Bool :=
  let c := smGet {} d.therm.carriers bank
  c.throttle || c.fault || c.validRounds < 10

/-- The throttling condition of every reading, started and ended as R47 states for the mode in force. -/
def updateThrottling (d : Device) : Device :=
  if serviceMode d.ctl.mode then
    let d := if d.therm.dieHot then startDieThrottle d else endDieThrottle d
    (List.range 16).foldl (fun d b => if carrierHot b d then startCarrierThrottle b d else endCarrierThrottle b d) d
  else (List.range 16).foldl (fun d b => endCarrierThrottle b d) (endDieThrottle d)

/-- On entry to M5 or M6 a reading holds the condition only where it is then at or above its threshold: 105 °C for the die, 80 °C, which
0x8210.bb carries as 144, for a carrier (R47). -/
def enterThrottling (d : Device) : Device :=
  let hot (b : Nat) (c : CarrierThermal) : CarrierThermal :=
    { c with throttle := c.throttle && decide (144 ≤ getObj (Obj.carrierTemperature b) d) }
  let carriers := (List.range 16).foldl (fun m b => smUpd {} b (hot b) m) d.therm.carriers
  { d with therm := { d.therm with dieHot := d.therm.dieHot && decide (105 ≤ d.therm.dieMax), carriers := carriers } }

/-! ### Transitions -/

/-- An entry in progress is cut off before its step 4: it counts as aborted (R458). -/
def cutEntry (dd : Nat) (d : Device) : Device :=
  match smGet none d.domains.entering dd with
  | none => d
  | some _ => incObj (Obj.entryAborts dd) { d with domains := { d.domains with entering := smErase dd d.domains.entering } }

/-- Set the state of power domains (Table 15.2); an entry of one in progress is aborted, by its floor (R458) or by its being switched off
(notes/assumptions/125.md). -/
def setDomains (dds : List Nat) (st : Nat) (d : Device) : Device :=
  dds.foldl (fun d dd =>
    let d := cutEntry dd d
    setObj (Obj.domainState dd) st (if st = 0x00 then returnCredits dd d else d)) d

/-- A complex that may run: not out until the power cycle (Table 17.8). -/
def runningComplexes (d : Device) : List Nat :=
  (if getObj Obj.primaryState d = 0x04 then [] else [3]) ++ if getObj Obj.standbyState d = 0x04 then [] else [4]

/-- Table 15.1 has a domain off: HOST in M0, M1 and M11, the map engine and DATA before M4, in M10 after the flush and in M11, DDR up to M2 and in
M11, a bank without power or in M10 after the flush, a complex where none runs. -/
def mustBeOff (dd : Nat) (d : Device) : Bool :=
  let m := d.ctl.mode
  let early := m = .m0 || m = .m1
  if dd = 1 then m = .m0
  else if 0x10 ≤ dd then !penHigh (dd - 0x10) d || (m = .m10 && !d.ctl.flushing)
  else if dd = 2 then early || m = .m11
  else if dd = 3 || dd = 4 then
    early || m = .m11 || (m = .m10 && !d.ctl.flushing) || (dd = 4 && m = .m2)
      || getObj (if dd = 3 then Obj.primaryState else Obj.standbyState) d = 0x04
  else if dd = 7 then early || m = .m2 || m = .m11
  else early || m = .m2 || m = .m11 || (m = .m3 && !d.ctl.ddrResetHigh) || (m = .m10 && !d.ctl.flushing)

/-- The complex in control, as its domain code. -/
def controlDomain (d : Device) : List Nat :=
  match getObj Obj.complexInControl d with | 0x01 => [3] | 0x02 => [4] | _ => []

/-- The domains that a mode turns on or off at its entry (R39, Tables 2.6 and 15.1). -/
def domainFloor (d : Device) : Device :=
  match d.ctl.mode with
  | .m0 => setDomains [1, 2, 3, 4, 5, 6, 7] 0x00 d
  | .m1 => setDomains [2, 3, 4, 5, 6, 7] 0x00 (setDomains [1] 0x01 d)
  | .m2 => setDomains [4, 5, 6, 7] 0x00 (setDomains [1, 2, 3] 0x01 d)
  | .m3 => setDomains ([1, 2, 7] ++ runningComplexes d) 0x01 d
  | .m10 => setDomains [3, 4, 5, 6] 0x00 (setDomains [1, 2, 7] 0x01 d)
  | .m11 => setDomains [2, 3, 4, 5, 6, 7] 0x00 d
  | _ => setDomains ([1, 2, 5, 6, 7] ++ controlDomain d) 0x01 d

/-- Both gates close and both complexes are held in reset (R514, R519). -/
def holdComplexes (d : Device) : Device :=
  let out (key : Nat) (d : Device) : Device := if getObj key d = 0x04 then d else setObj key 0x05 d
  setObj Obj.complexInControl 0x00 (out Obj.primaryState (out Obj.standbyState
    { d with cpx := { d.cpx with gateP := false, gateS := false, takeover := none, returnStep := 0 } }))

/-- Carrier staging is held from an entry to M4 with VSYS below the warning level, and in no other mode (R43). -/
def holdInWake (m : Mode) (d : Device) : Device := { d with ctl := { d.ctl with supplyHold := m = .m4 && d.ctl.warned } }

/-- A transition into a mode from M1 to M11 (R37), with the extra heartbeat of R441. -/
def changeMode (m : Mode) (d : Device) : Device :=
  let d := updateCauses d
  let prev := d.ctl.mode
  let d := holdInWake m d
  let d := setObj Obj.modeEntryHours (hours d) { d with ctl := { d.ctl with mode := m, prev := prev } }
  let d := if serviceMode m && !serviceMode prev then enterThrottling d else d
  let d := logRec Code.modeChange [modeNum prev, modeNum m, d.ctl.causes.toNat] (incObj Obj.modeChangeCount d)
  queueHeartbeat none (updateCauses (updateThrottling (domainFloor (if m = .m10 || m = .m11 then holdComplexes d else d))))

/-- A running hold-up test ends at once: HU_TEST low, the result discarded, the state as before (R469). -/
def abandonTest (d : Device) : Device :=
  if d.holdup.testing then
    setObj Obj.holdUpState d.holdup.before
      { d with holdup := { d.holdup with testing := false, samples := [], stopped := false, restored := true }, ctl := { d.ctl with huTest := false } }
  else d

/-- The VID code outside M5 and M6 (R461). -/
def vidOutside (d : Device) : Nat :=
  if d.ctl.flushing || d.ctl.coldHold then 0xC8
  else if d.ctl.mode = .m8 then 0x28 else 0x78

/-- The waiting requests of array operations become requests of the hold-up flush (R490). -/
def flushRequests (d : Device) : Device :=
  let ofOp (r : TokenReq) : Bool := d.media.dies.any fun x => x.2.op.kind != 0 && x.2.op.req == r.id
  { d with res := { d.res with waiting := d.res.waiting.map fun r => if ofOp r then { r with flush := true } else r } }

/-- Start a hold-up flush when none is running (R42); it starts a logbook flush (R564). -/
def startFlush (d : Device) : Device :=
  if d.ctl.flushing then d
  else
    let d := flushRequests d
    { d with ctl := { d.ctl with flushing := true, vidTarget := 0xC8 }, log := { d.log with flushDue := true } }

/-- Entry to M8 (R463, R54): the flush begins, HU_CHG_EN is low, a test ends. -/
def enterFlush (d : Device) : Device :=
  let d := abandonTest d
  changeMode .m8 (startFlush
    { d with ctl := { d.ctl with flushFrom := d.ctl.mode, huChgEn := false, qualifying := false, qualified := false, flushStartMs := nowMs d } })

/-- Set CSTS.SHST of a port. -/
def setShst (p v : Nat) (d : Device) : Device := updPort p (fun t => { t with shst := v }) d

/-- Every port that reports a shutdown in progress reports it complete, and none waits any longer. -/
def shutdownReported (d : Device) : Device :=
  (List.range 4).foldl (fun d p =>
    if (port p d).shst = 1 then setShst p 2 (updPort p (fun t => { t with shutWaiting := false }) d) else d) d

/-- Every port reports CFS (R52). -/
def setCfs (d : Device) : Device := (List.range 4).foldl (fun d p => updPort p (fun t => { t with cfs := true }) d) d

/-- Entry to M10 Lockdown (R52): every port whose link is up raises an Uncorrectable Internal Error (Table 11.8). The handling of a shutdown
notification ends there, as Table 2.8 has it for one received in M10 (notes/assumptions/126.md). -/
def enterLockdown (d : Device) : Device :=
  let d := changeMode .m10 (setCfs (abandonTest { d with ctl := { d.ctl with fetchStopped := true, dueM10 := false } }))
  let d := (List.range 4).foldl (fun d p => if (port p d).linkUp then uncorrectableError p 22 0 d else d) d
  shutdownReported { d with log := { d.log with flushDue := true }, sub := { d.sub with shutdownRunning := false } }

/-- A transition to M10 becomes due (R52): fetching stops at once; where data would be left behind the flush runs first. -/
def toLockdown (d : Device) : Device :=
  if d.ctl.mode = .m10 || d.ctl.mode = .m11 || d.ctl.mode = .m0 || d.ctl.mode = .m1 || d.ctl.mode = .m2 then d
  else
    let d := { d with ctl := { d.ctl with fetchStopped := true } }
    if d.ctl.flushing then { d with ctl := { d.ctl with dueM10 := true } }
    else if dataMode d.ctl.mode && flushNeeded d then
      let d := startFlush d
      { d with ctl := { d.ctl with dueM10 := true } }
    else enterLockdown d

/-- Clear every PEN (R53), the outputs of every channel at high impedance first (R68): the tokens of every bank return (R81). -/
def clearAllPens (d : Device) : Device :=
  (List.range 16).foldl (fun d b =>
    if penHigh b d then returnAllTokens b { d with media := { d.media with pen := d.media.pen.filter (· != b) } } else d)
    { d with media := { d.media with channels := [] } }

/-- Turn off every domain but HK. -/
def domainsOff (d : Device) : Device := setDomains ([2, 3, 4, 5, 6, 7] ++ (List.range 16).map (· + 0x10)) 0x00 d

/-- Every link is down. -/
def linksDown (d : Device) : Device :=
  (List.range 4).foldl (fun d p => setObj (Obj.portLinkState p) 0x00 (updPort p (fun t => { t with linkUp := false }) d)) d

/-- Entry to M11 Thermal Halt (R53). -/
def enterHalt (d : Device) : Device :=
  let d := abandonTest { d with ctl := { d.ctl with dueM11 := false, dueM10 := false, fetchStopped := true, huChgEn := false,
                                                    ddrResetHigh := false, vidTarget := 0x78 } }
  setObj Obj.vidCode 0x78 (changeMode .m11 (linksDown (domainsOff (clearAllPens d))))

/-- The die reaches 118 °C in a mode from M2 to M10 (R53). -/
def toHalt (sensor : Nat) (d : Device) : Device :=
  if d.ctl.mode = .m11 || d.ctl.mode = .m0 || d.ctl.mode = .m1 || d.ctl.dueM11 then d
  else
    let d := logRec Code.thermalHalt [tempByte d.therm.dieMax, sensor] { d with ctl := { d.ctl with fetchStopped := true } }
    if d.ctl.flushing then { d with ctl := { d.ctl with dueM11 := true } }
    else if dataMode d.ctl.mode && flushNeeded d then
      let d := startFlush d
      { d with ctl := { d.ctl with dueM11 := true } }
    else enterHalt d

/-- The outputs take their M1 states (Table 21.7): every PEN low, HU_CHG_EN and HU_TEST low, VID 0x78, DRAM in reset, links down. -/
def heldOutputs (d : Device) : Device :=
  setObj Obj.vidCode 0x78 (linksDown { d with
    media := { d.media with pen := [], channels := [] }
    ctl := { d.ctl with huChgEn := false, huTest := false, ddrResetHigh := false, vidTarget := 0x78 } })

/-- Entry to M1 Held (Table 2.4). -/
def enterHeld (d : Device) : Device :=
  let d := abandonTest d
  heldOutputs (changeMode .m1 { d with ctl := { d.ctl with dueM1 := false, dueM10 := false, dueM11 := false, flushing := false } })

/-- The ledger breaks (R30, R487): the record is written before the data path stops, then M10 follows. The snapshots are the ledger
code, the owner, its held count, the free count and the total. -/
def ledgerBroken (l o : Nat) (d : Device) : Device :=
  if dataMode d.ctl.mode || d.ctl.mode = .m3 then
    toLockdown (logRec Code.ledgerBroken [l, o, heldBy l o d, (ledger l d).free, (ledger l d).total] d)
  else d

/-- A return of units (R486), or the break of R487 where the owner holds fewer. -/
def ledgerReturn (l o n : Nat) (d : Device) : Device :=
  if n ≤ heldBy l o d then ledgerGive l o n d else ledgerBroken l o d

/-- The dictionary location of a ledger's total, 0x62LL.01 (notes/assumptions/131.md). -/
def totalLocation (l : Nat) : Nat := (0x6200 + l) * 256 + 1

/-- A ledger's total register mismatches (R26, R27, Table 1.5): it is rewritten from the derived value, or the ledger is broken where that
fails too. -/
def totalMismatch (l : Nat) (both : Bool) (d : Device) : Device :=
  if both then
    ledgerBroken l (((ledger l d).held.head?.map (·.1)).getD 0) (logRec Code.complementDoubleFault [3, totalLocation l] d)
  else
    updLedger l (setTotal (derivedTotal l d)) (logRec Code.complementMismatch [3, totalLocation l] d)

/-- Read a ledger's total register, a mismatched pair handled first. -/
def readTotal (l : Nat) (d : Device) : Device :=
  match takeDamage 3 (totalLocation l) d with
  | (some x, d) => totalMismatch l (x.level != 0) d
  | (none, d) => if pairMatches (ledger l d).total (ledger l d).inverse then d else totalMismatch l false d

/-- The check of R29 on one ledger: a pass is counted, a failure handled under R30. The owner named is the first listed holder, 0 where none
holds (notes/assumptions/128.md). -/
def checkLedger (l : Nat) (d : Device) : Device :=
  let d := readTotal l d
  if ledgerOk (ledger l d) then incObj Obj.ledgerChecks d
  else if dataMode d.ctl.mode || d.ctl.mode = .m3 then
    let o := (((ledger l d).held.head?).map (·.1)).getD 0
    ledgerBroken l o d
  else d

/-! ### Due transitions of lower priority (Tables 2.4 and 2.7), evaluated at each epoch -/

/-- Notifications that wait for M5 or M6 (R49). -/
def notificationWaits (d : Device) : Bool := (List.range 4).any fun p => (port p d).shutWaiting

/-- A transition of higher priority waits for the running flush: none of lower priority is taken before it (R41, R42). -/
def higherDue (d : Device) : Bool := d.ctl.dueM10 || d.ctl.dueM11

/-- Processing of a notification starts, in M7 with a checkpoint due (R48, R168); an evacuation pauses for it and for nothing else (R319). -/
def startShutdown (d : Device) : Device :=
  let d := (List.range 4).foldl (fun d p => updPort p (fun t => { t with shutWaiting := false }) d) d
  { d with sub := { d.sub with shutdownRunning := true },
           media := { d.media with evac := d.media.evac.map fun e => { e with pausedShutdown := true, pausedThrottle := false }
                                   map := { d.media.map with checkpointDue := d.media.map.checkpointDue || d.ctl.mode != .m9 } } }

/-- M5 or M6, by the causes present. -/
def serviceTarget (d : Device) : Mode := if m6Cause d then .m6 else .m5

/-- Leave M4 when carriers are staged, the directory is resident and the gauge scans are complete, unless SupplyHold keeps the mode M4
(R43). -/
def wakeDone (d : Device) : Bool := d.ctl.staged && d.ctl.dirResident && d.ctl.gaugesScanned && !d.ctl.supplyHold

/-- A persisted sanitize record shows an unfinished sanitize. It is resumed once the directory that its steps change is resident, and not
under SupplyHold (notes/assumptions/127.md). -/
def sanitizeUnfinished (d : Device) : Bool :=
  d.sec.san.action != 0 && !d.sec.san.complete && !d.sec.san.failed && d.ctl.dirResident && !d.ctl.supplyHold

/-- The transitions that conditions make due, taken by priority (R41); none while one to M10 or M11 waits. -/
def dueTransitions (d : Device) : Device :=
  if higherDue d then d else
  match d.ctl.mode with
  | .m3 =>
    if d.ctl.bootComplete && !d.ctl.coldHold then changeMode .m4 d else d
  | .m4 =>
    if sanitizeUnfinished d then
      let d := changeMode .m9 (logRec Code.sanitizeResumed [d.sec.san.action, d.sec.san.step] d)
      if notificationWaits d then startShutdown d else d
    else if wakeDone d then
      let d := changeMode (serviceTarget d) d
      if notificationWaits d then changeMode .m7 (startShutdown d) else d
    else d
  | .m5 | .m6 =>
    if notificationWaits d then changeMode .m7 (startShutdown d)
    else match d.media.evac with
      | some e =>
        if !throttlingActive d then
          changeMode .m7 { d with media := { d.media with evac := some { e with pausedThrottle := false } } }
        else if serviceTarget d = d.ctl.mode then d else changeMode (serviceTarget d) d
      | none => if serviceTarget d = d.ctl.mode then d else changeMode (serviceTarget d) d
  | .m7 =>
    match d.media.evac with
    | some e =>
      if d.sub.shutdownRunning then d
      else if thresholdHeld d then
        let d := logRec Code.drainPaused [e.bank, if d.therm.dieHot then 0x01 else 0x02] d
        changeMode (serviceTarget d)
          { d with media := { d.media with evac := some { e with pausedThrottle := true, pausedShutdown := false } } }
      else { d with media := { d.media with evac := some { e with pausedShutdown := false } } }
    | none => if d.sub.shutdownRunning then d else changeMode (serviceTarget d) d
  | _ => d

end Sys2Proof.Machine
end

