-- ==== Sys2Proof/Machine/Tokens.lean ====
section
/-! DEFINITION. Power tokens, buffer pools and fabric credits: the meanings of the ledger commands (spec/16, spec/03 R78 to R81). -/
namespace Sys2Proof.Machine

/-! ### Power tokens -/

/-- TOKEN_REQUEST (R485, R490). -/
def execTokenRequest (bank : Bank) (amount : Nat) (flush : Bool) (s : State) : Host.Outcome State Fault Refusal :=
  runDev (requestTokens bank.val amount flush) s

/-- The arbiter serves its next request (R490). -/
def serveNext (d : Device) : Device :=
  match nextRequest d with
  | some r => withhold (grantRequest r d)
  | none => d

/-- TOKEN_GRANT (R490). -/
def execTokenGrant (s : State) : Host.Outcome State Fault Refusal := runDev serveNext s

/-- Tokens of a bank's operation return; a return of more than it holds breaks the ledger (R487). -/
def tokensBack (bank amount : Nat) (d : Device) : Device :=
  if amount ≤ heldBy 1 (bank + 1) d then returnTokens bank amount d else ledgerBroken 1 (bank + 1) d

/-- TOKEN_RETURN (R486). -/
def execTokenReturn (bank : Bank) (amount : Nat) (s : State) : Host.Outcome State Fault Refusal :=
  runDev (tokensBack bank.val amount) s

/-- A bank's tokens could be granted at once: no request of the bank, guarded request or request of a flush is in front (R490). -/
def chargeFits (bank amount : Nat) (d : Device) : Bool :=
  bankOldest bank d = none && guardedRequest d = none && !flushWaits d && tokenFits bank amount d

/-- A step that holds a bank's tokens from its start to its end, both within one command: it is carried out only where they are granted, and
otherwise waits (R78; notes/assumptions/11.md). -/
def whileCharged (bank amount : Nat) (k : Device → Device) (d : Device) : Device :=
  if chargeFits bank amount d then k d else countRefused 1 d

/-- The bank's oldest request engages the guard once it has waited 10 ms (R490). -/
def engageGuard (bank : Nat) (d : Device) : Device :=
  match bankOldest bank d with
  | some r =>
    if !r.guard && r.sinceMs + 10 ≤ nowMs d then
      incObj Obj.tokenGuardEngagements
        { d with res := { d.res with waiting := d.res.waiting.map fun q => if q.id = r.id then { q with guard := true } else q } }
    else d
  | none => d

/-- TOKEN_GUARD_ENGAGE (R490). -/
def execTokenGuardEngage (bank : Bank) (s : State) : Host.Outcome State Fault Refusal := runDev (engageGuard bank.val) s

/-- Carrier of a bank. -/
def carrier (bank : Nat) (d : Device) : Carrier := smGet {} d.media.carriers bank

/-- Change a bank's carrier. -/
def updCarrier (bank : Nat) (f : Carrier → Carrier) (d : Device) : Device :=
  { d with media := { d.media with carriers := smUpd {} bank f d.media.carriers } }

/-- The carrier's power-up tokens return once TokPowerUpMs has passed since PEN rose (R79). -/
def powerUpBack (bank : Nat) (d : Device) : Device :=
  let n := (carrier bank d).powerUpHeld
  if n = 0 || nowMs d < (carrier bank d).penMs + (carrier bank d).powerUpMs then d else tokensBack bank n (updCarrier bank (fun c => { c with powerUpHeld := 0 }) d)

/-- POWER_UP_TOKENS_RETURN (R79). -/
def execPowerUpTokensReturn (bank : Bank) (s : State) : Host.Outcome State Fault Refusal := runDev (powerUpBack bank.val) s

/-! ### Buffer pools -/

/-- The pool that serves a size, by its ledger code (Table 16.3). -/
def poolOf (size : Nat) : Option Nat :=
  if size = 0 then none else if size ≤ 256 then some 2 else if size ≤ 4096 then some 3 else if size ≤ 65536 then some 4
  else if size ≤ 1048576 then some 5 else none

/-- How many buffers a pool has. -/
def poolCount (pool : Nat) : Nat := match pool with | 2 | 3 => 65536 | 4 => 16384 | 5 => 2048 | _ => 0

/-- The buffer `index` of a pool, where it is held. -/
def buffer (pool index : Nat) (d : Device) : Option Buffer :=
  let b := smGet {} d.res.buffers (pool * 65536 + index)
  if b.owner = 0 then none else some b

/-- The first index from `i` on that is not held, looking at `fuel` of them. -/
def lowestFree (pool : Nat) (m : SMap Buffer) : Nat → Nat → Nat
  | 0, i => i
  | fuel + 1, i => if (smGet {} m (pool * 65536 + i)).owner = 0 then i else lowestFree pool m fuel (i + 1)

/-- Buffers are taken and returned in every mode but M10, where only a hold-up flush in progress does (R497). -/
def poolsActive (d : Device) : Bool := d.ctl.mode != .m10 || d.ctl.flushing

/-- The index that a pool grants next. -/
def nextIndex (pool : Nat) (d : Device) : Nat := lowestFree pool d.res.buffers d.res.buffers.length 0

/-- Grant a buffer: the lowest free index (notes/assumptions/6.md); the owner's wait is over (R493). -/
def grantBuffer (owner pool : Nat) (standing : Bool) (d : Device) : Device :=
  let i := nextIndex pool d
  ledgerTake pool owner 1 { d with res := { d.res with
    buffers := smSet {} (pool * 65536 + i) { owner := owner, grantMs := nowMs d, standing := standing } d.res.buffers
    waits := smErase (owner * 8 + pool) d.res.waits } }

/-- The map engine takes pool A buffers for its page loads, and counts the loads that meet an empty pool (spec/05, 0x3130.05). -/
def countMapLoad (owner pool : Nat) (d : Device) : Device :=
  if owner = 0x40 && pool = 3 then incObj Obj.mapLoadPoolEmpty d else d

/-- Pool empty (R492, R493): counted against the owner, whose next retry comes after the back-off. -/
def poolEmptyResult (owner pool size : Nat) (own : Bool) (d : Device) : Device :=
  let w := smGet {} d.res.waits (owner * 8 + pool)
  let wait := if w.waitUs = 0 then 8 + owner % 16 else min 1024 (2 * w.waitUs)
  let d := countMapLoad owner pool d
  countRefused pool { d with res := { d.res with
    poolEmpty := smUpd 0 owner (fun n => min (n + 1) (2 ^ 32 - 1)) d.res.poolEmpty
    waits := smSet {} (owner * 8 + pool) { size := size, waitUs := wait, own := own } d.res.waits } }

/-- An owner waits after pool empty (R493). -/
def poolWaits (owner pool : Nat) (d : Device) : Bool := (smGet {} d.res.waits (owner * 8 + pool)).waitUs != 0

/-- An owner of Table 16.4 asks for a buffer (R492); it holds no other request of the pool open while it waits (R493). -/
def requestBuffer (owner size : Nat) (standing : Bool) (d : Device) : Device :=
  match poolOf size with
  | none => d
  | some pool =>
    if !poolOwners.contains owner || !poolsActive d || poolWaits owner pool d then d
    else if grantOk pool owner 1 d then grantBuffer owner pool standing d
    else poolEmptyResult owner pool size false d

/-- The largest size that a pool serves (Table 16.3). -/
def poolSize (pool : Nat) : Nat := match pool with | 2 => 256 | 3 => 4096 | 4 => 65536 | _ => 1048576

/-- An operation of the controller takes a buffer for an owner: its index, or none where the owner has to wait. -/
def takeBuffer (owner pool : Nat) (standing : Bool) (d : Device) : Option Nat × Device :=
  if !poolsActive d || poolWaits owner pool d then (none, d)
  else if grantOk pool owner 1 d then (some (nextIndex pool d), grantBuffer owner pool standing d)
  else (none, poolEmptyResult owner pool (poolSize pool) true d)

/-- POOL_REQUEST (R492). -/
def execPoolRequest (owner size : Nat) (standing : Bool) (s : State) : Host.Outcome State Fault Refusal :=
  runDev (requestBuffer owner size standing) s

/-- The owner retries its waiting request (R493). A sack hoist channel's retries are counted (R503). Where the wait is that of an operation of the
controller's own it is over, and the operation takes the buffer. -/
def retryBuffer (owner pool : Nat) (d : Device) : Device :=
  let w := smGet {} d.res.waits (owner * 8 + pool)
  if w.waitUs = 0 || !poolsActive d then d
  else
    let d := if 0x10 ≤ owner && owner ≤ 0x1F then incObj Obj.hoistPoolEmptyRetries d else d
    if !grantOk pool owner 1 d then poolEmptyResult owner pool w.size w.own d
    else if w.own then { d with res := { d.res with waits := smErase (owner * 8 + pool) d.res.waits } }
    else grantBuffer owner pool false d

/-- An owner returns a buffer: a buffer that is free, or another owner's, breaks the ledger (R487). -/
def returnBuffer (owner pool index : Nat) (d : Device) : Device :=
  if poolCount pool = 0 || !poolsActive d then d
  else match buffer pool index d with
    | some b =>
      if b.owner = owner then
        ledgerReturn pool owner 1 { d with res := { d.res with buffers := smErase (pool * 65536 + index) d.res.buffers } }
      else ledgerBroken pool owner d
    | none => ledgerBroken pool owner d

/-- An operation of the controller returns the buffers that it holds for an owner. -/
def giveBuffers (owner pool : Nat) (is : List Nat) (d : Device) : Device := is.foldl (fun d i => returnBuffer owner pool i d) d

/-- BUFFER_RETURN (R487). -/
def execBufferReturn (owner pool index : Nat) (s : State) : Host.Outcome State Fault Refusal :=
  runDev (returnBuffer owner pool index) s

/-- The oldest buffer of an owner that is not standing: its key, and when it was granted. -/
def oldestBuffer (owner : Nat) (d : Device) : Option (Nat × Nat) :=
  (d.res.buffers.filter fun e => e.2.owner == owner && !e.2.standing).foldl
    (fun best e => match best with
      | none => some (e.1, e.2.grantMs)
      | some (k, t) => if e.2.grantMs < t then some (e.1, e.2.grantMs) else some (k, t)) none

/-- The age audit of an owner (R496): one record until its oldest buffer is younger than 30 s again. -/
def auditOwner (owner : Nat) (d : Device) : Device :=
  let forget (d : Device) : Device := { d with res := { d.res with longHeld := d.res.longHeld.filter (· != owner) } }
  match oldestBuffer owner d with
  | none => forget d
  | some (k, t) =>
    if nowMs d ≤ t + 30000 then forget d
    else if d.res.longHeld.contains owner then d
    else logRec Code.bufferHeldLong [owner, k / 65536, k % 65536, (nowMs d - t) / 100]
      { d with res := { d.res with longHeld := owner :: d.res.longHeld } }

/-- BUFFER_HELD_LONG (R496). -/
def execBufferHeldLong (owner : Nat) (s : State) : Host.Outcome State Fault Refusal := runDev (auditOwner owner) s

/-- A credit of a link returns to its sender (R498); a transfer that waits for one takes it. -/
def creditBack (link : Nat) (d : Device) : Device :=
  if !fabricLinks.contains link then d
  else
    let d' := ledgerReturn 6 link 1 d
    if smGet 0 d.res.linkWaits link = 0 || !grantOk 6 link 1 d' then d'
    else ledgerTake 6 link 1 { d' with res := { d'.res with linkWaits := smUpd 0 link (· - 1) d'.res.linkWaits } }

/-- FABRIC_CREDIT_RETURN (R498). -/
def execFabricCreditReturn (link : Nat) (s : State) : Host.Outcome State Fault Refusal := runDev (creditBack link) s

end Sys2Proof.Machine
end

