-- ==== Sys2Proof/Machine/Link.lean ====
section
/-! DEFINITION. The management link below the dictionary: heartbeats, time sync, wake frames, errors and the transmit queue (spec/14). -/
namespace Sys2Proof.Machine

/-! ### Bit timing (R426) -/

/-- The timing of a phase at a rate (Table 14.1): prescaler, time quanta of Prop_Seg + Phase_Seg1, of Phase_Seg2, and SJW. -/
def bitTiming (dataPhase : Bool) (rate : Nat) : Nat × Nat × Nat × Nat :=
  match dataPhase, rate with
  | false, 0 => (2, 79, 20, 20)
  | false, _ => (1, 79, 20, 20)
  | true, 0 => (1, 39, 10, 10)
  | true, _ => (1, 15, 4, 4)

/-- The timing in use, nominal and data, from the rates committed at the last reset. -/
def canTiming (d : Device) : (Nat × Nat × Nat × Nat) × (Nat × Nat × Nat × Nat) :=
  (bitTiming false d.settings.ratesInUse.1, bitTiming true d.settings.ratesInUse.2)

/-- Count a frame of Table 14.2 received and acted on (0x1012.06). -/
def actedOn (d : Device) : Device := incObj Obj.canFramesActedOn d

/-- HEARTBEAT (R441). -/
def execHeartbeat (s : State) : Host.Outcome State Fault Refusal := runDev (queueHeartbeat none) s

/-- Wake events of Table 11.11 on one port (R349): with PME_En, the port sends PM_PME and drives WAKE_N low where the link is down or in
L2; PME_Status is set and the event recorded. -/
def signalWake (event : Nat) (p : Nat) (d : Device) : Device :=
  let t := port p d
  if t.pmeEn && d.ctl.mode != .m0 && d.ctl.mode != .m11 then
    let asleep := getObj (Obj.portPowerState p) d = 0x03 || !t.linkUp
    if asleep then
      let d := logRec Code.pcieWakeSignalled [p, event] (incObj (Obj.portWakeSignals p) d)
      updPort p (fun t => { t with pmeStatus := true, pmeSent := t.pmeSent + b2n t.linkUp,
                                   wakeMs := if t.linkUp then t.wakeMs else some (nowMs d) }) d
    else d
  else d

/-- A wake event on every port. -/
def signalWakeAll (event : Nat) (d : Device) : Device := (List.range 4).foldl (fun d p => signalWake event p d) d

/-- ObservedDarkFactor (R286): once per power cycle, when the clock has been set and the die records of the first wake are known. -/
def observeDark (d : Device) : Device :=
  let rc := d.media.rc
  match rc.clockSet, rc.loadedWallMs with
  | some clock, some scan =>
    if rc.observed || !rc.darkRecorded then d
    else
      let d := { d with media := { d.media with rc := { d.media.rc with observed := true } } }
      let gap := clock - scan
      if scan = 0 || gap < 24 * 3600000 then d
      else setObj Obj.observedDarkFactor (min 0xFFFF ((1000 * getObj Obj.darkAgeMedian d * 3600000 + gap - 1) / gap)) d
  | _, _ => d

/-- The wall clock is set (R279): a step of more than 60 s while it is known is recorded with the old and new value in seconds. -/
def setWallClock (ms source : Nat) (d : Device) : Device :=
  let old := getObj Obj.wallClockMs d
  let known := getObj Obj.wallClockSource d != 0
  let d := setObj Obj.wallClockSource source (setObj Obj.wallClockMs ms d)
  let d := if d.media.rc.clockSet.isNone && d.ctl.mode != .m0 && d.ctl.mode != .m1 then
      observeDark { d with media := { d.media with rc := { d.media.rc with clockSet := some (ms - (nowMs d - d.media.rc.wakeMs)) } } }
    else d
  if known && (old + 60000 < ms || ms + 60000 < old) then logRec Code.wallClockStep [old / 1000, ms / 1000, source] d else d

/-- A time sync frame (R445): acted on in M1 held by PERST_N and in M2 to M11, on silent nodes too; 0 is ignored. -/
def takeTimeSync (ms elapsed : Nat) (d : Device) : Device :=
  if d.ctl.mode = .m0 || !d.ctl.porReleased || !d.ctl.vsysUp || ms = 0 then d
  else setWallClock (ms + elapsed) 0x02 (actedOn (incObj Obj.timeSyncReceived d))

/-- TIME_SYNC (R445). -/
def execTimeSync (ms elapsed : Nat) (s : State) : Host.Outcome State Fault Refusal := runDev (takeTimeSync ms elapsed) s

/-- A domain that a rule of its own holds in retention or off is requested on: banks without power apart (R443). -/
def wakeDomains (d : Device) : Device :=
  ([3, 4, 5, 6, 7] ++ ((List.range 16).filter (penHigh · d)).map (· + 0x10)).foldl
    (fun d dd => let st := getObj (Obj.domainState dd) d
                 if (st = 0x00 || st = 0x02) && !mustBeOff dd d then setObj (Obj.domainState dd) 0x04 d else d) d

/-- A wake frame (R443). Its bus activity is an edge: one that falls within the 4 handshakes after an entry commit is lost. -/
def takeWakeFrame (flags seq : Nat) (d : Device) : Device :=
  if seq = 0 || d.ctl.mode = .m0 || d.can.silent || !d.ctl.porReleased || !d.ctl.vsysUp then d
  else if d.ctl.mode = .m10 || d.ctl.mode = .m11 then queueHeartbeat (some seq) (actedOn d)
  else if !d.domains.lossWindow.isEmpty then incObj Obj.canWakesNotActed d
  else if d.can.lastWakeSeq = seq && nowMs d ≤ d.can.lastWakeMs + 1000 then
    queueHeartbeat (some seq) (incObj Obj.canWakesRepeated d)
  else
    let d := incObj Obj.canWakesActed (actedOn { d with can := { d.can with lastWakeSeq := seq, lastWakeMs := nowMs d } })
    let d := if bitOf flags 0 then signalWakeAll 1 d else d
    queueHeartbeat (some seq) (if bitOf flags 1 && d.ctl.mode != .m1 then wakeDomains d else d)

/-- WAKE_FRAME (R443). -/
def execWakeFrame (flags seq : Nat) (s : State) : Host.Outcome State Fault Refusal := runDev (takeWakeFrame flags seq) s

/-- CAN_FRAME_IGNORED (R425, R429, R432). -/
def execCanFrameIgnored (s : State) : Host.Outcome State Fault Refusal := runDev (incObj Obj.canFramesIgnored) s

/-- Another node uses this node's number (R431): a frame of a function that only the device itself sends, or a segment from it, recorded once per power
cycle. -/
def nodeConflict (func : Nat) (d : Device) : Device :=
  if d.can.nodeConflict || d.can.silent || !frameMode d.ctl.mode || !([0x1, 0x6, 0x7, 0x8, 0xE].contains func) then d
  else logRec Code.canNodeIdConflict [getObj Obj.nodeIdActive d, func] { d with can := { d.can with nodeConflict := true } }

/-- CAN_NODE_ID_CONFLICT (R431). -/
def execCanNodeIdConflict (func : Nat) (s : State) : Host.Outcome State Fault Refusal := runDev (nodeConflict func) s

/-- The error state from the counters (ISO 11898-1): error passive from 128 on. -/
def errorState (d : Device) : Device :=
  if d.can.silent || getObj Obj.canBusState d = 0x02 then d
  else setObj Obj.canBusState (b2n (128 ≤ getObj Obj.canTxErrorCount d || 128 ≤ getObj Obj.canRxErrorCount d)) d

/-- Recovery from bus-off (R428): both counters are cleared, the record is made and its emergency sent. -/
def recoverBus (d : Device) : Device :=
  if getObj Obj.canBusState d = 0x02 then
    let d := setObj Obj.canBusState 0 (setObj Obj.canTxErrorCount 0 (setObj Obj.canRxErrorCount 0 d))
    logRec Code.canBusOff [getObj Obj.canBusOffCount d, (ledger 7 d).free] d
  else d

/-- CAN_BUS_OFF_RECOVERY (R428). -/
def execCanBusOffRecovery (s : State) : Host.Outcome State Fault Refusal := runDev recoverBus s

/-- The frame that arbitration offers: the lowest identifier, and the oldest of one identifier (R448). A frame already on the bus first. -/
def nextOnBus (q : List CanFrame) : Option Nat :=
  match q.findIdx? (·.onBus) with
  | some i => some i
  | none => (List.range q.length).foldl
      (fun best i => match best with
        | none => some i
        | some j => if ((q[i]?).map (·.func)).getD 0 < ((q[j]?).map (·.func)).getD 0 then some i else some j) none

/-- A frame's slot returns to the ledger, and waiting frames are queued. -/
def slotBack (owner : Nat) (d : Device) : Device := serveWaitingFrames (ledgerGive 7 owner 1 d)

/-- A frame on the bus ends in an error (Table 14.12): one that was withdrawn is cancelled, any other stays queued. -/
def frameFails (f : CanFrame) (i : Nat) (d : Device) : Device :=
  if f.withdrawn then slotBack f.owner (incObj Obj.canTxCancelled { d with can := { d.can with queue := d.can.queue.eraseIdx i } })
  else { d with can := { d.can with queue := d.can.queue.set i { f with onBus := false } } }

/-- Bus-off (R428): a frame on the bus has ended in an error, nothing is transmitted, and queued frames keep their slots. -/
def enterBusOff (d : Device) : Device :=
  if d.can.silent || getObj Obj.canBusState d = 0x02 then d
  else
    let d := setObj Obj.canBusState 0x02 (incObj Obj.canBusOffCount { d with can := { d.can with busOffSince := true } })
    match d.can.queue.findIdx? (·.onBus) with
    | some i => match d.can.queue[i]? with | some f => frameFails f i d | none => d
    | none => d

/-- CAN_BUS_OFF (R428). -/
def execCanBusOff (s : State) : Host.Outcome State Fault Refusal := runDev enterBusOff s

/-- The node's next frame wins arbitration and is on the bus. -/
def winBus (d : Device) : Device :=
  match nextOnBus d.can.queue with
  | some i => match d.can.queue[i]? with
    | some f => { d with can := { d.can with queue := d.can.queue.set i { f with onBus := true } } }
    | none => d
  | none => d

/-- A queued frame ends on the bus (R449, Table 14.12). Without an error it is sent, and its slot returns; in an error it is retransmitted,
unless it was withdrawn. -/
def frameEnds (error : Bool) (d : Device) : Device :=
  if d.can.silent || getObj Obj.canBusState d = 0x02 then d
  else match nextOnBus d.can.queue with
    | none => d
    | some i =>
      match d.can.queue[i]? with
      | none => d
      | some f =>
        if !error then
          let d := { d with can := { d.can with queue := d.can.queue.eraseIdx i } }
          let d := incObj Obj.canFramesSent (setObj Obj.canTxErrorCount (getObj Obj.canTxErrorCount d - 1) d)
          let d := if f.withdrawn then incObj Obj.canTxAlreadySent d else d
          let d := if f.owner = 4 && !f.withdrawn then incObj Obj.logbookNoticesSent d else d
          let last := f.func = 8 && (f.data.head?.map fun b => bitOf b.toNat 6) == some true
          let d := match d.can.trans with
            | some t => if last && t.sending && t.tag = f.tag then { d with can := { d.can with trans := none } } else d
            | none => d
          errorState (slotBack f.owner d)
        else
          let d := setObj Obj.canTxErrorCount (min 255 (getObj Obj.canTxErrorCount d + 8)) d
          errorState (frameFails f i d)

/-- CAN_FRAME_TRANSMITTED (R449): a frame ends, and the node's next one may win arbitration at once. -/
def execCanFrameTransmitted (error wins : Bool) (s : State) : Host.Outcome State Fault Refusal :=
  runDev (fun d => onlyIf (wins && !d.can.silent && getObj Obj.canBusState d != 0x02) winBus (frameEnds error d)) s

/-- Withdraw the frames that a test picks (R449): at once where not on the bus, marked where arbitration is won. -/
def withdrawWhere (pick : CanFrame → Bool) : List CanFrame → Device → Device
  | [], d => d
  | f :: fs, d =>
    let d := withdrawWhere pick fs d
    if pick f && !f.withdrawn then
      if f.onBus then
        { d with can := { d.can with queue := d.can.queue.map fun g => if g = f then { g with withdrawn := true } else g } }
      else slotBack f.owner (incObj Obj.canTxCancelled { d with can := { d.can with queue := d.can.queue.erase f } })
    else d

/-- The notices queued for 2 s are withdrawn (R449). -/
def withdrawNotices (d : Device) : Device :=
  withdrawWhere (fun f => f.owner == 4 && f.queuedMs + 2000 ≤ nowMs d) d.can.queue d

/-- NOTICE_WITHDRAWAL (R449). -/
def execNoticeWithdrawal (s : State) : Host.Outcome State Fault Refusal := runDev withdrawNotices s

/-- CAN_RECEIVE_ERROR (R428): the receive error counter rises by 1 or 8 and may make the node error passive. -/
def execCanReceiveError (increment : Nat) (s : State) : Host.Outcome State Fault Refusal :=
  runDev (fun d => if d.can.silent then d else
    errorState (setObj Obj.canRxErrorCount (min 255 (getObj Obj.canRxErrorCount d + increment)) d)) s

end Sys2Proof.Machine
end

