-- ==== Sys2Proof/Machine/Logbook.lean ====
section
/-! DEFINITION. The logbook beyond the writer: the flush to the flash area, the ceiling, the clear and reading (spec/19). -/
namespace Sys2Proof.Machine

/-- Cut a list into pieces of `n`, at most `fuel` of them. -/
def chunks {α : Type} (n : Nat) : Nat → List α → List (List α)
  | 0, _ => []
  | fuel + 1, xs => if xs.isEmpty then [] else xs.take n :: chunks n fuel (xs.drop n)

/-- Release the oldest frames of the chain (R567). -/
def trimFrames : Nat → List LogFrame → List LogFrame
  | 0, fs => fs
  | fuel + 1, fs =>
    match fs with
    | [] => []
    | f :: rest =>
      if 1048576 ≤ ((rest.map fun g => g.records.length).sum) || 32768 < fs.length then trimFrames fuel rest else f :: rest

/-- After a run of lost records the ring has persisted slots again: LOGBOOK_OVERWRITTEN (R563). -/
def reportOverwritten (d : Device) : Device :=
  if d.log.lostCount = 0 then d
  else logRec Code.logbookOverwritten [d.log.lostFirst, d.log.lostCount]
    { d with log := { d.log with lostCount := 0, lostFirst := 0 } }

/-- The raised ceiling is verified: it is in force, and the records that waited for it are accepted (R557). -/
def ceilingVerified (d : Device) : Device :=
  match d.log.raising with
  | some c => acceptWaiting d.log.waiting.length { d with log := { d.log with ceiling := c, raising := none } }
  | none => d

/-- CEILING_ENTRY_VERIFIED (R557). -/
def execCeilingEntryVerified (s : State) : Host.Outcome State Fault Refusal := runDev ceilingVerified s

/-- The run start of R557: counters loaded, the power-cycle count raised, numbering from the loaded ceiling, the ring cleared,
LOGBOOK_RESUMED first, then what was raised since. -/
def logbookRunStart (d : Device) : Device :=
  let c := d.cs.counters
  let cycles := c.cycles + 1
  let next := seqAdd c.ceiling 65536
  let d := setObj Obj.powerCycleCount cycles (setObj Obj.operatingHours c.hours d)
  let d := appendCounterEntry { hours := c.hours, cycles := cycles, ceiling := next } d
  let waiting := d.log.waiting
  let d := { d with log := { d.log with nextSeq := c.ceiling, ceiling := next, raising := none, ring := [], waiting := [],
                                        lostCount := 0, lostFirst := 0, runStarted := true, initRun := false, indexComplete := false } }
  waiting.foldl (fun d w => logRec w.1 w.2 d) (logRec Code.logbookResumed [c.ceiling, cycles] d)

/-- The records a read of LogbookRecords returns (R570): held, not earlier than the selection, ascending, at most 64. -/
def readRecords (d : Device) : List LogRecord :=
  let sel := getObj Obj.logbookReadSequence d
  let avail := if d.ctl.mode = .m11 then ringRecords d else heldRecords d
  (avail.filter fun r => sel = 0 || !serialLater sel r.seq).take 64

/-- A record's header pair mismatches (Table 1.5, row 7; R571). It is reported with the sequence that its position implies; where none can be implied it
is unreadable, its sequence and zeros being all that is reported, and at level 2 it is passed over. -/
def recordMismatch (seq level : Nat) (d : Device) : Device :=
  if level = 0 then logRec Code.complementMismatch [7, seq] d
  else
    let fix (r : LogRecord) : LogRecord := if r.seq = seq then { seq := seq } else r
    let keep (r : LogRecord) : Bool := level = 1 || r.seq != seq
    logRec Code.complementDoubleFault [7, seq] { d with log := { d.log with
      ring := (d.log.ring.filter fun e => keep e.entry).map fun e => { e with entry := fix e.entry }
      frames := d.log.frames.map fun f => { f with records := (f.records.filter keep).map fix } } }

/-- Read a record, a mismatched header handled first. -/
def readRecord (d : Device) (seq : Nat) : Device :=
  match takeDamage 7 seq d with
  | (some x, d) => recordMismatch seq x.level.val d
  | (none, d) => d

end Sys2Proof.Machine
end

