-- ==== Sys2Proof/Machine/Medium.lean ====
section
/-! DEFINITION. Dies, blocks, plane groups and stripes as the medium chapters use them: coordinates, rate steps, forming and erasing
plane groups, passes, failures and the loss of members (spec/03, spec/04, spec/06 R183 to R195, spec/10 R288 to R295). -/
namespace Sys2Proof.Machine

/-! ### Coordinates and rate steps -/

/-- The die of a block, its plane, the bank and channel of a die (Table 0.2). -/
def dieOfBlock (b : Nat) : Nat := b / 16384
def planeOfBlock (b : Nat) : Nat := b % 4
def bankOfDie (die : Nat) : Nat := die / 256
def channelOfDie (die : Nat) : Nat := die / 32

/-- Die 0 of target 0 on the first two channels of a bank (R90). -/
def anchorDie (die : Nat) : Bool := die % 32 = 0 && channelOfDie die % 8 < 2

/-- Blocks 0 to 3 of an anchor die. -/
def anchorBlock (b : Nat) : Bool := anchorDie (dieOfBlock b) && b % 16384 < 4

/-- k of a rate step (Table 1.4). -/
def stepK (s : Nat) : Nat := ([68, 67, 66, 65, 63, 61, 58, 54][s]?).getD 54

/-- Information bytes per codeword (Table 1.4). -/
def infoBytes (s : Nat) : Nat := 128 * stepK s

/-- Frames per block (R19, Table 1.4): at S0 the 24 reference codewords take 51 frames. -/
def framesPerBlock (s : Nat) : Nat := if s = 0 then 10829 else 160 * stepK s

/-- Decoding threshold in thousandths (Table 4.3). -/
def stepThreshold (s : Nat) : Nat := ([4788, 4719, 4649, 4580, 4441, 4302, 4094, 3816][s]?).getD 3816

/-- Block codeword numbers of the 24 reference codewords of an S0 block (R127), rising. -/
def referenceCodewords : List Nat :=
  (List.range 24).map fun j => (16 + 20 * j) * 10 + (4 - j % 5) * 2 + (j / 5) % 2

/-- The block's codeword that is stream codeword `q` (R128). -/
def blockCodeword (s q : Nat) : Nat :=
  if s = 0 then referenceCodewords.foldl (fun c r => if r ≤ c then c + 1 else c) q else q

/-- The wordline in which stream byte `n` lies. -/
def wordlineOfByte (s n : Nat) : Nat := blockCodeword s (n / infoBytes s) / 10

/-- The last wordline that a run of frames touches. -/
def lastWordline (s frame frames : Nat) : Nat := wordlineOfByte s ((frame + frames) * 4096 - 1)

/-! ### Access -/

/-- A die's state. -/
def die (n : Nat) (d : Device) : DieState := smGet {} d.media.dies n

/-- Change a die's state. -/
def updDie (n : Nat) (f : DieState → DieState) (d : Device) : Device :=
  { d with media := { d.media with dies := smUpd {} n f d.media.dies } }

/-- The gauge blocks of a die in plane order: blocks 4 to 7 until the gauge table names others (R96). -/
def gaugeBlocks (n : Nat) (d : Device) : List Nat :=
  if (die n d).gauge.isEmpty then [4, 5, 6, 7].map (n * 16384 + ·) else (die n d).gauge.map (n * 16384 + ·)

/-- The gauge blocks of a die that are not retired (R278). A retired one stays named until a free block takes its place. -/
def goodGauge (n : Nat) (d : Device) : List Nat := (gaugeBlocks n d).filter fun b => (smGet {} d.media.blocks b).state != 5

/-- A block's entry: an anchor block reads as such, and every block of a failed die as retired with cause 0x4 (R290). -/
def block (b : Nat) (d : Device) : Block :=
  let e := smGet {} d.media.blocks b
  if anchorBlock b then { e with state := 6 }
  else if (gaugeBlocks (dieOfBlock b) d).contains b && e.state != 5 then { e with state := 7 }
  else if (die (dieOfBlock b) d).failed then { e with state := 5, retireCause := 4 }
  else e

/-- Change a block's entry. -/
def updBlock (b : Nat) (f : Block → Block) (d : Device) : Device :=
  { d with media := { d.media with blocks := smUpd {} b f d.media.blocks } }

/-- A stripe. -/
def stripe (n : Nat) (d : Device) : Stripe := smGet {} d.media.stripes n

/-- Change a stripe. -/
def updStripe (n : Nat) (f : Stripe → Stripe) (d : Device) : Device :=
  { d with media := { d.media with stripes := smUpd {} n f d.media.stripes } }

/-- The open plane group slot of a kind: 0 for host data, 1 for moved data and system stripes (R58). -/
def groupSlot (kind : Nat) : Nat := if kind = 1 then 0 else 1

/-- An open plane group. -/
def group (dieNo slot : Nat) (d : Device) : Group := smGet {} d.media.groups (dieNo * 2 + slot)

/-- Change an open plane group. -/
def updGroup (dieNo slot : Nat) (f : Group → Group) (d : Device) : Device :=
  { d with media := { d.media with groups := smUpd {} (dieNo * 2 + slot) f d.media.groups } }

/-- A die's thermal age in EqH40: AgeBase plus gauge age (spec/09). -/
def thermalAge (n : Nat) (d : Device) : Nat := (die n d).ageBase + (die n d).gaugeAge

/-- A die is in service: not failed, its bank in service and its target present. -/
def dieInService (n : Nat) (d : Device) : Bool :=
  !(die n d).failed && bankInService (bankOfDie n) d
    && bitOf (getObj (Obj.channelTargetsPresent (channelOfDie n)) d) (n / 4 % 8)

/-- The object key of a per-die object whose first index is `base` (Table 13.1). -/
def dieKey (base n : Nat) : Nat := (base + n % 32) * 256 + n / 32

/-- A die's wear slope in 0.00001 bits per cell per cycle (0x8340). -/
def wearSlope (n : Nat) (d : Device) : Nat := getObj (dieKey 0x8340 n) d

/-- The active media profile entry of a die's channel. -/
def profileOf (n : Nat) (d : Device) : ProfileEntry := smGet {} d.media.profile (getObj (Obj.channelProfileEntry (channelOfDie n)) d)

/-! ### Array operations and their tokens (R78 to R80) -/

/-- The tokens of an array operation, from the die's entry (Table 3.7): 1 a read, 2 a coarse pass, 3 a fine pass, 4 an erase. -/
def opTokens (e : ProfileEntry) (kind : Nat) : Nat :=
  match kind with | 1 => e.tokRead | 2 => e.tokCoarse | 3 => e.tokFine | _ => e.tokErase

/-- A bank's carrier is program-inhibited (R480). -/
def bankInhibited (bank : Nat) (d : Device) : Bool := bitOf (getObj (Obj.carrierThermalState bank) d) 0

/-- A carrier in service is program-inhibited. -/
def programInhibited (d : Device) : Bool := (List.range 16).any fun b => bankInService b d && bankInhibited b d

/-- A carrier in service is program-inhibited and no flush overrides it (R480): system frames that go to several banks wait
(notes/assumptions/150.md). -/
def programsHeld (d : Device) : Bool := !d.ctl.flushing && programInhibited d

/-- A die's operation has its tokens and runs (R78). -/
def opRuns (n : Nat) (d : Device) : Bool := (die n d).op.kind != 0 && !(d.res.waiting.any (·.id == (die n d).op.req))

/-- A die's operation ends: its tokens return, or its request is withdrawn (Table 3.7). -/
def endOp (n : Nat) (d : Device) : Device :=
  let x := (die n d).op
  if x.kind = 0 then d
  else
    let e := updDie n (fun y => { y with op := { slot := x.slot } }) d
    if opRuns n d then tokensBack (bankOfDie n) x.charge e
    else { e with res := { e.res with waiting := e.res.waiting.filter (·.id != x.req) } }

/-! ### Free blocks, capacity estimates and rate steps -/

/-- Listed blocks of a plane of a die. -/
def listedInPlane (n plane : Nat) (d : Device) : List (Nat × Block) :=
  d.media.blocks.filter fun e => dieOfBlock e.1 = n && planeOfBlock e.1 = plane

/-- The lowest block of the plane that has no entry in the table, from block-in-die `i` on. -/
def lowestUnlisted (n : Nat) (listed : List (Nat × Block)) (d : Device) : Nat → Nat → Option Nat
  | 0, _ => none
  | fuel + 1, i =>
    let b := n * 16384 + i
    if 16384 ≤ i then none
    else if (block b d).state != 0 || listed.any (·.1 == b) then lowestUnlisted n listed d fuel (i + 4) else some b

/-- The free good block with the lowest erase count, and the lowest block-in-die among equals (R269). -/
def bestFree (n plane : Nat) (d : Device) : Option Nat :=
  let listed := listedInPlane n plane d
  let fresh := (lowestUnlisted n listed d (listed.length + 18) plane).map fun b => (b, (die n d).sweeps)
  let cands := (listed.filter fun e => (block e.1 d).state = 0).map (fun e => (e.1, eraseCount e.1 e.2 d)) ++ fresh.toList
  (cands.foldl (fun best c => match best with
    | none => some c
    | some b => if c.2 < b.2 || (c.2 = b.2 && c.1 < b.1) then some c else some b) none).map (·.1)

/-- The gauge blocks of a plane that are not retired: one, but for a retired one whose place no block has taken (R96). -/
def gaugeInPlane (n plane : Nat) (d : Device) : Nat := ((goodGauge n d).filter fun b => planeOfBlock b = plane).length

/-- Free good blocks of a plane. -/
def freeInPlane (n plane : Nat) (d : Device) : Nat :=
  if (die n d).failed then 0
  else 4096 - b2n (anchorDie n) - gaugeInPlane n plane d - ((listedInPlane n plane d).filter fun e =>
    let s := (block e.1 d).state
    s != 0 && s != 6 && s != 7).length

/-- Good blocks of a plane, anchor and gauge blocks apart. -/
def goodInPlane (n plane : Nat) (d : Device) : Nat :=
  if (die n d).failed then 0
  else 4096 - b2n (anchorDie n) - gaugeInPlane n plane d - ((listedInPlane n plane d).filter fun e =>
    let s := (block e.1 d).state
    s = 5 || s = 4).length

/-- The estimate of C for a block about to be erased, in thousandths (R119). -/
def capacityEstimate (b : Nat) (d : Device) : Nat :=
  let e := block b d
  let n := dieOfBlock b
  let c := if e.freshC != 0 && e.freshLag != 255 then e.freshC * 100 - wearSlope n d * (e.freshLag + 1)
    else (die n d).gaugeC * 100 - wearSlope n d * (eraseCount b e d + 1)
  min 5000 (c / 100)

/-- The highest step whose threshold plus the headroom the estimate reaches (R120). -/
def chooseStep (c : Nat) (d : Device) : Option Nat :=
  (List.range 8).find? fun s => stepThreshold s + getObj Obj.rateHeadroom d ≤ c

/-- Take one block of a plane for a plane group's data member: a block whose estimate is below S7 is retired, and the next candidate taken
(R121). A parity member takes no measurement (R123). -/
def takeBlock (n plane : Nat) : Nat → Device → Option Nat × Device
  | 0, d => (none, d)
  | fuel + 1, d =>
    match bestFree n plane d with
    | none => (none, d)
    | some b =>
      let c := capacityEstimate b d
      match chooseStep c d with
      | some s => (some b, updBlock b (fun e => { e with step := s, lastStep := s, cap := c }) d)
      | none =>
        takeBlock n plane fuel (logRec Code.blockRetiredLowCapacity [b, c] (incObj Obj.retiredLowCapacity
          (incObj Obj.blocksRetired (updBlock b (fun e => { e with state := 5, retireCause := 3, scrubDue := 0xFFFFFFFF }) d))))

/-- Take one block of each plane for a member of a stripe: role 0 is a data member. -/
def takeBlocks (n role : Nat) (d : Device) : List (Option Nat) × Device :=
  (List.range 4).foldl (fun (acc : List (Option Nat) × Device) plane =>
    let (o, d) := if role = 0 then takeBlock n plane 4096 acc.2 else (bestFree n plane acc.2, acc.2)
    (acc.1 ++ [o], d)) ([], d)

/-! ### Loss of members -/

/-- Reads that were taking a grain from a copy that is given up look it up again. -/
def lookAgain (ptrs : List Nat) (d : Device) : Device :=
  let again (g : ReadGrain) : ReadGrain :=
    if g.stage == .inflate && ptrs.contains g.pointer then { g with stage := .lookup, pointer := 0 } else g
  { d with media := { d.media with wp := { d.media.wp with
    reads := d.media.wp.reads.map fun r => { r with grains := r.grains.map again } } } }

/-- Grains in flight whose placement the test picks are placed again; their stored copies are given up (R194, R195). -/
def unplaceWhere (pick : Placement → Bool) (d : Device) : Device :=
  let gone (g : FlightGrain) : Bool := match g.placed with | some p => pick p && g.seq.isNone | none => false
  let ptrs := (d.media.flight.filter gone).filterMap fun g => g.placed.map fun p => p.block * 16384 + p.frame
  lookAgain ptrs { d with media := { d.media with
      flight := d.media.flight.map fun g => if gone g then { g with placed := none } else g
      stored := d.media.stored.filter fun e => !ptrs.contains e.1 } }

/-- A grain in flight that was placed on a lost die is placed again (R195). -/
def unplaceOn (lostDie : Nat → Bool) (d : Device) : Device := unplaceWhere (fun p => lostDie (dieOfBlock p.block)) d

/-- A stripe stops taking grains (R295, R319): its grains that are not durable are placed again, its data blocks are full. -/
def stopStripe (n : Nat) (d : Device) : Device :=
  let st := stripe n d
  let d := updStripe n (fun t => { t with stopped := true }) (unplaceWhere (fun p => p.stripe == n) d)
  st.members.foldl (fun d m => (group m.2 (groupSlot st.kind) d).blocks.foldl (fun d b =>
    if (block b d).stripe = n then updBlock b (fun e => { e with full := true }) d else d) d) d

/-- The lost members of a stripe that some row's parity includes, or that were its parity (R296, R298). -/
def lostInRows (n : Nat) (st : Stripe) : List Nat :=
  let w := st.members.length
  let parity := (List.range st.parity).map fun k => (((st.members[(n + k) % w]?).map (·.1)).getD 16)
  st.lost.filter fun b => parity.contains b || !st.without.contains (b, 0)

/-- A closed stripe joins the restripe set and leaves every queue of Table 9.2 (R296). -/
def joinRestripe (n : Nat) (lost : Bool) (d : Device) : Device :=
  let rs := d.media.restripe.filter fun r => r.stripe != n
  let lost := lost || d.media.restripe.any fun r => r.stripe == n && r.lost
  let rc := d.media.rc
  { d with media := { d.media with
    restripe := rs ++ [{ stripe := n, lost := lost }]
    rc := { rc with q1 := rc.q1.erase n, q2 := rc.q2.erase n, q3 := rc.q3.erase n, q4 := rc.q4.erase n,
                    victim := if rc.victim = some n then none else rc.victim } } }

/-- The first row of an open stripe whose parity coarse pass has not started on any parity member: the parity of the rows from it on is made
without a member that is lost now (R195). -/
def parityFrom (n : Nat) (st : Stripe) (d : Device) : Nat :=
  let w := st.members.length
  ((List.range st.parity).map fun k => match st.members[(n + k) % w]? with
    | none => 0
    | some m =>
      let g := group m.2 (groupSlot st.kind) d
      let x := (die m.2 d).op
      if st.lost.contains m.1 || !(g.used && g.stripe = n) then 0
      else g.rowBase + g.coarse + b2n (opRuns m.2 d && x.kind = 2 && x.slot = groupSlot st.kind)).foldl max 0

/-- Every stripe with a member that the test, given the stripe's number, picks: a closed one joins the restripe set with a lost member, an open
one goes on narrower, the lost blocks ending with the highest row whose parity includes them (R294 to R296). Answers how many open stripes are
affected. -/
def loseWhere (pick : Nat → Nat × Nat → Bool) (d : Device) : Nat × Device :=
  d.media.stripes.foldl (fun acc e =>
    let (count, d) := acc
    let (n, st) := e
    let gone := (st.members.filter fun m => pick n m && !st.lost.contains m.1).map (·.1)
    if gone.isEmpty then (count, d)
    else
      let rows := parityFrom n { st with lost := st.lost ++ gone } d
      let d := if st.isOpen then (st.members.filter fun m => gone.contains m.1).foldl (fun d m =>
        let g := group m.2 (groupSlot st.kind) d
        if g.used && g.stripe = n then g.blocks.foldl (fun d b => updBlock b (fun e => { e with lastFine := rows - 1 - g.rowBase }) d) d else d) d
        else d
      let d := updStripe n (fun t =>
        let lost := t.lost ++ gone
        let w := t.members.length
        let parity := (List.range t.parity).map fun k => (((t.members[(n + k) % w]?).map (·.1)).getD 16)
        { t with lost := lost, stopped := t.stopped || parity.all (lost.contains ·)
                 without := if t.isOpen then t.without ++ gone.map (·, rows) else t.without }) d
      if st.isOpen then (count + 1, if (stripe n d).stopped && !st.stopped then stopStripe n d else d)
      else (count, joinRestripe n true d)) (0, d)

/-- Every stripe loses the members that the test picks. -/
def loseMembers (pick : Nat × Nat → Bool) (d : Device) : Nat × Device := loseWhere (fun _ => pick) d

/-- BANKS_BELOW_MINIMUM once each time the count falls below 15 (R292). -/
def noteBanks (d : Device) : Device :=
  let m := d.ctl.mode
  if 15 ≤ banksOpen d then { d with media := { d.media with rc := { d.media.rc with belowRecorded := false } } }
  else if (m = .m5 || m = .m6 || m = .m7 || m = .m8 || m = .m9 || (m = .m4 && d.ctl.staged)) && !d.media.rc.belowRecorded then
    logRec Code.banksBelowMinimum [banksMask d]
      { d with media := { d.media with rc := { d.media.rc with belowRecorded := true } } }
  else d

/-- Vendor event 0x00: CarrierState of a bank changed (Table 12.12). -/
def setCarrierState (bank st : Nat) (d : Device) : Device :=
  if carrierState bank d = st then d
  else noteBanks (raiseOnAll { typ := 7, info := 0x00, page := 0xC1 } (setObj (Obj.carrierState bank) st d))

/-- Clear a bank's PEN: write protection and then high impedance on its outputs first (R68, R619), every token of the bank returned in the same
update (R81), the operations of its dies over, its carrier's throttling over, its links' credits back (R498). -/
def clearPen (bank : Nat) (d : Device) : Device :=
  let idle (n : Nat) (x : DieState) : DieState := if bankOfDie n = bank then { x with op := {} } else x
  let d := { d with media := { d.media with
    channels := d.media.channels.filter fun c => c.1 / 8 != bank
    dies := (d.media.dies.map fun (n, x) => (n, idle n x)).filter fun x => decide (x.2 ≠ ({} : DieState)) } }
  let d := { d with media := { d.media with pen := d.media.pen.filter (· != bank) } }
  let d := updCarrier bank (fun c => { c with powerUpHeld := 0, bringUp := 0, awaitTokens := none, pgood := false }) d
  let d := returnAllTokens bank (endCarrierThrottle bank d)
  let d := setDomains [0x10 + bank] 0x00 d
  (List.range 8).foldl (fun d c => setObj (Obj.channelState (bank * 8 + c)) 0x00 d) d

/-- A bank leaves service other than by a completed evacuation (R291, R294): its members are lost, and a superblock without it is due (R91). -/
def loseBank (bank : Nat) (d : Device) : Device :=
  let (n, d) := loseMembers (fun m => m.1 == bank) d
  let d := unplaceOn (fun x => bankOfDie x = bank) d
  let d := { d with media := { d.media with
    sbDue := true
    groups := d.media.groups.filter fun g => bankOfDie (g.1 / 2) != bank
    evac := d.media.evac.filter fun e => e.bank != bank } }
  logRec Code.memberLost [bank, n] (updCarrier bank (fun c => { c with lost := true }) d)

/-- A die is declared failed (R290), for a cause numbered as Table 10.1; with the last die of a bank the bank is lost. -/
def failDie (n cause : Nat) (d : Device) : Device :=
  if (die n d).failed then d
  else
    let bank := bankOfDie n
    let d := endOp n (if cause = 3 then d else logRec Code.dieFailed [n, cause] d)
    let (opened, d) := loseMembers (fun m => m.2 == n) (updDie n (fun x => { x with failed := true }) d)
    let d := unplaceOn (· == n) d
    let d := { d with media := { d.media with groups := d.media.groups.filter fun g => g.1 / 2 != n } }
    let d := logRec Code.memberLost [n, opened] d
    if bankInService bank d && (List.range 256).all (fun i => (die (bank * 256 + i) d).failed) then
      setCarrierState bank 0x09 (loseBank bank (logRec Code.bankFailed [bank] (clearPen bank d)))
    else d

/-! ### Frames of stripes (R185 to R187) -/

/-- Data member index of a position: not P, and not Q under P2 (R185). -/
def isDataMember (n pos : Nat) (st : Stripe) : Bool :=
  let w := st.members.length
  pos != n % w && !(st.parity = 2 && pos = (n + 1) % w)

/-- The dies of a stripe's members that are not lost. -/
def liveDies (n : Nat) (d : Device) : List Nat :=
  let st := stripe n d
  (st.members.filter fun m => !st.lost.contains m.1).map (·.2)

/-- The dies of a stripe's data members that are not lost, in ascending bank order. -/
def dataDies (n : Nat) (d : Device) : List Nat :=
  let st := stripe n d
  (List.range st.members.length).filterMap fun i =>
    match st.members[i]? with
    | some m => if isDataMember n i st && !st.lost.contains m.1 then some m.2 else none
    | none => none

/-- Footer frames of a block that holds `n` grains (R133). -/
def footerFrames (n : Nat) : Nat := (136 + 8 * n + 4095) / 4096

/-- A grain of `frames` frames fits a block below the footer that it would need (R187). -/
def fitsBlock (b frames : Nat) (d : Device) : Bool :=
  let e := block b d
  decide (e.next + frames + footerFrames (e.grains + 1) ≤ framesPerBlock e.step)

/-- The data blocks of a stripe that still take grains within the three rows of R186, in order of bank and plane. -/
def openBlocks (n frames : Nat) (d : Device) : List Nat :=
  ((dataDies n d).map fun x =>
    let g := group x (groupSlot (stripe n d).kind) d
    if g.used && g.stripe = n then g.blocks.filter fun b =>
      let e := block b d
      !e.full && (!fitsBlock b frames d || decide (lastWordline e.step e.next frames ≤ g.encoded + 2))
    else []).flatten

/-- The block with the lowest fill, the first among equals (R187). -/
def lowestFill (bs : List Nat) (d : Device) : Option Nat :=
  bs.foldl (fun best b => match best with
    | none => some b
    | some a =>
      if (block b d).next * infoBytes (block a d).step < (block a d).next * infoBytes (block b d).step then some b else some a) none

/-- The block of a stripe that takes a grain; blocks that it does not fit are full from then on. -/
def pickBlock (n frames : Nat) : Nat → Device → Option Nat × Device
  | 0, d => (none, d)
  | fuel + 1, d =>
    match lowestFill (openBlocks n frames d) d with
    | none => (none, d)
    | some b =>
      if fitsBlock b frames d then (some b, d)
      else pickBlock n frames fuel (updBlock b (fun e => { e with full := true }) d)

/-- The highest row of a stripe that a placement touches. -/
def lastRowOf (p : Placement) (d : Device) : Nat :=
  let g0 := group (dieOfBlock p.block) 0 d
  let base := if g0.blocks.contains p.block then g0.rowBase else (group (dieOfBlock p.block) 1 d).rowBase
  base + lastWordline (block p.block d).step p.frame p.frames

/-- The lowest row of a stripe that a placement touches. -/
def firstRowOf (p : Placement) (d : Device) : Nat :=
  let g0 := group (dieOfBlock p.block) 0 d
  let base := if g0.blocks.contains p.block then g0.rowBase else (group (dieOfBlock p.block) 1 d).rowBase
  base + wordlineOfByte (block p.block d).step (p.frame * 4096)

/-- The rows that a placement touches hold placed frames from now on (Table 6.3). -/
def holdRows (p : Placement) (d : Device) : Device :=
  let first := firstRowOf p d
  let rows := (List.range (lastRowOf p d - first + 1)).map (first + ·)
  updStripe p.stripe (fun t => { t with held := t.held ++ (rows.filter fun r =>
    decide (t.gathered ≤ r) && !t.held.any (·.1 == r)).map fun r => (r, nowMs d) }) d

/-! ### System frames (R89, R161) -/

/-- The next `frames` consecutive frames of an open system stripe, in a bank other than `apart`, as a flash pointer: those of its block with the lowest
fill. Where no open system stripe has room, the place is left open (notes/assumptions/139.md). -/
def systemRun (frames : Nat) (apart : Option Nat) (d : Device) : Nat × Device :=
  let bs := ((d.media.stripes.filter fun e => e.2.isOpen && !e.2.stopped && e.2.kind = 3).map fun e =>
    (openBlocks e.1 frames d).filter fun b => fitsBlock b frames d && some (bankOfDie (dieOfBlock b)) != apart).flatten
  match lowestFill bs d with
  | none =>
    let (x, d) := freshNat d
    (x % 2 ^ 40, d)
  | some b =>
    let e := block b d
    let p : Placement := { stripe := e.stripe, block := b, frame := e.next, frames := frames }
    (b * 16384 + e.next, holdRows p (updBlock b (fun e => { e with next := e.next + frames }) d))

/-- The next frame of a system stripe. -/
def systemPlace (apart : Option Nat) (d : Device) : Nat × Device := systemRun 1 apart d

/-- The frames of two copies, in different banks (R161). -/
def systemPair (d : Device) : Nat × Nat × Device :=
  let (x, d) := systemPlace none d
  let (y, d) := systemPlace (some (bankOfDie (dieOfBlock (x / 16384)))) d
  (x, y, d)

/-- A structure that the superblock points to is written anew, at `place`: its root takes the place, and a superblock is due (R90, R91). -/
def setRoot (f : Roots → Roots) (d : Device) : Device :=
  { d with media := { d.media with sb := { d.media.sb with roots := f d.media.sb.roots }, sbDue := true } }

/-- A structure that the superblock points to is written anew, in a system frame. -/
def moveRoot (f : Nat → Roots → Roots) (d : Device) : Device :=
  let (x, d) := systemPlace none d
  setRoot (f x) d

/-! ### Forming, erasing and programming plane groups -/

/-- The header of a block that opens in a group of a stripe (R130, Table 4.8). -/
def openHeader (n : Nat) (g : Group) (blocks : List Nat) (d : Device) : BlockHeader :=
  { openSeq := d.media.wp.openSeq, kind := g.kind, instance_ := d.media.sb.instance_, group := blocks
    headroom := getObj Obj.rateHeadroom d, openHours := hours d, openCycle := getObj Obj.powerCycleCount d % 2 ^ 24
    openAge := thermalAge n d, parity := (stripe g.stripe d).parity, members := (stripe g.stripe d).members }

/-- The role of a die in a stripe (R190): 0 data, 1 P, 2 Q, 3 none. -/
def memberRole (n sn : Nat) (d : Device) : Nat :=
  let st := stripe sn d
  let w := st.members.length
  let pos := (st.members.findIdx? (·.2 == n)).getD 0
  if w = 0 then 3 else if pos = sn % w then 1 else if st.parity = 2 && pos = (sn + 1) % w then 2 else 0

/-- A die whose last plane group has ended after a plane ran out of free blocks is handled as a failed member (Table 3.6, last row). -/
def endExhausted (n : Nat) (d : Device) : Device :=
  if (die n d).exhausted && !(group n 0 d).used && !(group n 1 d).used then failDie n 3 d else d

/-- A plane of a die has no free good block (Table 3.6, last row): the die accepts no new plane group. The stripe that wanted one goes on without
the member; an open group of the other kind is completed first. -/
def exhaustDie (n slot plane : Nat) (d : Device) : Device :=
  let sn := (group n slot d).stripe
  let d := logRec Code.planeExhausted [n * 16384 + plane, 0, 0x03] (updGroup n slot (fun _ => {}) (updDie n (fun x => { x with exhausted := true }) d))
  let d := unplaceWhere (fun p => p.stripe == sn && dieOfBlock p.block = n) (loseWhere (fun s m => s == sn && m.2 == n) d).2
  endExhausted n d

/-! ### The group log (R257) -/

/-- The group-log record of a group of a die with its blocks chosen: kinds 4 and 5 are those of parity members. -/
def groupRecord (n role : Nat) (g : Group) (blocks : List Nat) (d : Device) : PlaneRecord :=
  { openSeq := d.media.wp.openSeq, stripe := some g.stripe, blocks := blocks, die := n
    kind := if role = 1 then 4 else if role = 2 then 5 else g.kind
    steps := blocks.map fun b => if role = 0 then (block b d).step else 0
    row := if g.rowBase = 0 then none else some g.rowBase }

/-- A record is appended to the group log, whose frame is sealed at once: the group's erase waits on it (R161, R257; notes/assumptions/139.md). -/
def logGroup (r : PlaneRecord) (d : Device) : Device :=
  let (x, y) := match d.media.groupLog.getLast? with
    | some f => (f.next1, f.next2)
    | none => (d.media.tableIndex.next1, d.media.tableIndex.next2)
  let (x, y, d) := if x = 0 && y = 0 then systemPair d else (x, y, d)
  let (x', y', d) := systemPair d
  { d with media := { d.media with groupLog := d.media.groupLog ++ [{ records := [r], place1 := x, place2 := y, next1 := x', next2 := y' }] } }

/-- Fill a plane group with one free good block of each plane; its erase is then due (R56, R57, R120, R121, R123, R257). -/
def formGroup (n slot : Nat) (d : Device) : Device :=
  let g := group n slot d
  if !g.used || !g.blocks.isEmpty then d
  else
    let role := memberRole n g.stripe d
    let (bs, d) := takeBlocks n role d
    if bs.all (·.isSome) then
      let blocks := bs.filterMap id
      let header := openHeader n g blocks d
      let d := logGroup (groupRecord n role g blocks d) d
      let d := { d with media := { d.media with wp := { d.media.wp with openSeq := d.media.wp.openSeq + 1 } } }
      let d := blocks.foldl (fun d b => updBlock b (fun e =>
        { e with state := 1, cls := (die n d).freshClass, erases := min 524287 (e.erases + 1), freshLag := min 255 (e.freshLag + 1), stripe := g.stripe % 2 ^ 40,
                 role := role, step := if role = 0 then e.step else 0, cap := if role = 0 then e.cap else 0, next := 1, grains := 0, full := false, valid := 0, lastFine := 0, noFooter := false,
                 shortRows := 0, padRows := 0, closeHours := 0, halves := 0, sampled := [], cont := g.rowBase != 0, contRow := g.rowBase,
                 scrubDue := 0xFFFFFFFF, refreshQ := false, readQ := false, rateQ := false, wearQ := false, header := header }) d) d
      let d := { d with media := { d.media with stored := d.media.stored.filter fun e => !blocks.contains (e.1 / 16384) } }
      updGroup n slot (fun g => { g with blocks := blocks, erasing := true }) d
    else exhaustDie n slot (((List.range 4).find? fun p => (((bs[p]?).getD none).isNone)).getD 0) d

/-- First stream byte beyond wordline `w` of a block at a step (R127, R128): an S0 block's reference codewords are left out. -/
def rowEndByte (s w : Nat) : Nat :=
  ((w + 1) * 10 - if s = 0 then (referenceCodewords.filter (· < (w + 1) * 10)).length else 0) * infoBytes s

/-- First frame that starts at or beyond the end of wordline `w`. -/
def rowEndFrame (s w : Nat) : Nat := (rowEndByte s w + 4095) / 4096

/-- The payload stream of a block reaches the end of wordline `w`, or takes no more grains (R188). -/
def reachesRow (b w : Nat) (d : Device) : Bool :=
  let e := block b d
  e.full || decide (rowEndByte e.step w ≤ e.next * 4096)

/-- A block's wordline `w` is programmed as it stands: the frames it lacks are filler frames (R192; notes/assumptions/27.md). -/
def fillRow (w : Nat) (d : Device) (b : Nat) : Device :=
  let e := block b d
  if e.role != 0 || reachesRow b w d then d
  else
    let stop := rowEndFrame e.step w
    addObj Obj.fillerFrames (stop - e.next)
      (updBlock b (fun e => { e with next := stop, shortRows := min 255 (e.shortRows + 1) }) d)

/-- Wordline `w` of every block of a group becomes a padding wordline (R74). -/
def padWordline (n slot w : Nat) (d : Device) : Device :=
  let g := group n slot d
  let d := g.blocks.foldl (fun d b => updBlock b (fun e =>
    { e with padRows := min 255 (e.padRows + 1), header := { e.header with padding := e.header.padding ++ [w] }
             next := if e.role = 0 && !e.full then max e.next (rowEndFrame e.step w) else e.next }) d) d
  updGroup n slot (fun g => { g with padding := g.padding ++ [w] }) d

/-- A continuation group whose stripe has gathered its last row, 511, ends in a padding wordline, which that row's fine pass needs (R74). -/
def padEnd (n slot : Nat) (d : Device) : Device :=
  let g := group n slot d
  let w := 512 - g.rowBase
  if g.rowBase != 0 && (stripe g.stripe d).gathered = 512 && !g.padding.contains w then padWordline n slot w d else d

/-- The stripe engine takes a pool C buffer for each of some rows of a stripe, which accumulates the row's parity (R190). -/
def holdSums (n : Nat) (rows : List Nat) (d : Device) : Device :=
  rows.foldl (fun d r => match takeBuffer 0x41 5 false d with
    | (some i, d) => updStripe n (fun t => { t with sums := t.sums ++ [(r, i)] }) d
    | (none, d) => d) d

/-- A group's images are encoded as far as its gathered rows and the pass-hold area allow, a data member's once the buffers that accumulate the
rows' parity are held (R72, R189, R190). -/
def encodeGroup (n slot : Nat) (d : Device) : Device :=
  let g := group n slot d
  if !g.used || g.blocks.isEmpty then d
  else
    let d := padEnd n slot d
    let g := group n slot d
    let rows := (stripe g.stripe d).gathered - g.rowBase + b2n (g.padding.contains (512 - g.rowBase))
    let upTo := max g.encoded (min rows (min 512 (g.fine + 2)))
    let new := (List.range upTo).filter (g.encoded ≤ ·)
    let sums := if memberRole n g.stripe d != 0 then []
      else ((new.filter fun w => !g.padding.contains w).map (g.rowBase + ·)).filter fun r =>
        !(stripe g.stripe d).sums.any (·.1 == r)
    if !sums.isEmpty && (poolWaits 0x41 5 d || !poolsActive d) then d
    else if !sums.isEmpty && !grantOk 5 0x41 sums.length d then poolEmptyResult 0x41 5 1048576 true d
    else
      let d := new.foldl (fun d w => if g.padding.contains w then d else g.blocks.foldl (fillRow w) d) (holdSums g.stripe sums d)
      updGroup n slot (fun g => { g with encoded := upTo }) d

/-- The erase of a group runs on its die. -/
def eraseRuns (n slot : Nat) (d : Device) : Bool :=
  (group n slot d).erasing && opRuns n d && (die n d).op.kind = 4 && (die n d).op.slot = slot

/-- A four-plane erase ends, in time or by a timeout: its tokens return; the failing planes' blocks are retired and the group is formed again,
or the group is ready (R65, R75, R76). -/
def eraseEnds (n slot : Nat) (inTime : Bool) (failed : List Nat) (d : Device) : Device :=
  if !eraseRuns n slot d then d
  else
  let g := group n slot d
  let d := endOp n d
  let d := if inTime then updDie n (fun x => { x with timeouts := 0 }) d else d
  if failed.isEmpty then encodeGroup n slot (updGroup n slot (fun g => { g with erasing := false, erasedMs := some (nowMs d) }) d)
  else
    let d := failed.foldl (fun d p =>
      let b := (g.blocks[p]?).getD 0
      logRec Code.eraseFail [b, 0, 0x03] (incObj Obj.eraseFailCount (incObj Obj.blocksRetired
        (updBlock b (fun e => { e with state := 5, retireCause := 2 }) d)))) d
    let keep := (List.range 4).filter fun p => !failed.contains p
    let d := keep.foldl (fun d p => updBlock ((g.blocks[p]?).getD 0) (fun e => { e with state := 0 }) d) d
    formGroup n slot (updGroup n slot (fun g => { g with blocks := [], erasing := false }) d)

/-- A group whose first coarse pass has not started within 60 s of its erase is erased again (R75). -/
def eraseAgain (n slot : Nat) (d : Device) : Device :=
  let g := group n slot d
  match g.erasedMs with
  | some t =>
    if g.coarse = 0 && t + 60000 < nowMs d then
      let d := g.blocks.foldl (fun d b => updBlock b (fun e =>
        { e with erases := min 524287 (e.erases + 1), freshLag := min 255 (e.freshLag + 1) }) d) d
      updGroup n slot (fun g => { g with erasing := true, erasedMs := none }) d
    else d
  | none => d

/-- The next pass of a group in the order of R71: fine or coarse, and its wordline; none while its images are not encoded. -/
def nextPass (g : Group) : Option (Bool × Nat) :=
  if g.fine + 2 ≤ g.coarse || (g.coarse = 512 && g.fine < 512) then some (true, g.fine)
  else if g.coarse < g.encoded && g.coarse < 512 && g.erasedMs.isSome then some (false, g.coarse)
  else none

/-- Every member of a stripe, lost ones apart, has finely programmed row `r`. -/
def rowOnMembers (n r : Nat) (d : Device) : Bool :=
  let st := stripe n d
  st.members.all fun m =>
    st.lost.contains m.1 ||
      let g := group m.2 (groupSlot st.kind) d
      !(g.used && g.stripe = n) || decide (r < g.rowBase + g.fine)

/-- The data members of a stripe, lost ones apart, have finely programmed row `r` (R190). -/
def dataRowDone (n r : Nat) (d : Device) : Bool :=
  let st := stripe n d
  let w := st.members.length
  (List.range w).all fun i =>
    i = n % w || (st.parity = 2 && i = (n + 1) % w) ||
      match st.members[i]? with
      | none => true
      | some m =>
        st.lost.contains m.1 ||
          let g := group m.2 (groupSlot st.kind) d
          !(g.used && g.stripe = n) || decide (r < g.rowBase + g.fine)

/-- Close the four blocks of a group: close hours and age, and the calendar entry of a data block (R281). -/
def closeBlocks (n : Nat) (blocks : List Nat) (d : Device) : Device :=
  blocks.foldl (fun d b => updBlock b (fun e =>
    if e.state != 1 then e
    else { e with state := 2, closeHours := hours d, closeAge := thermalAge n d,
                  header := { e.header with closeCycle := getObj Obj.powerCycleCount d % 2 ^ 24 },
                  scrubInterval := if e.role = 0 then getObj Obj.scrubIntervalInitial d else 0,
                  scrubDue := if e.role = 0 then thermalAge n d + getObj Obj.scrubIntervalInitial d else 0xFFFFFFFF }) d) d

/-- The parity of row `r` has moved to the pass-hold areas of the parity members: its coarse pass is due there, or over (R190). -/
def sumMoved (n r : Nat) (d : Device) : Bool :=
  let st := stripe n d
  st.members.all fun m =>
    st.lost.contains m.1 || memberRole m.2 n d = 0 ||
      let g := group m.2 (groupSlot st.kind) d
      !(g.used && g.stripe = n) || decide (r < g.rowBase + g.coarse)
        || (nextPass g == some (false, r - g.rowBase) && dataRowDone n r d)

/-- The accumulation buffers of the rows whose parity has moved are returned (R190). -/
def releaseSums (n : Nat) (d : Device) : Device :=
  let gone := (stripe n d).sums.filter fun x => sumMoved n x.1 d
  giveBuffers 0x41 5 (gone.map (·.2)) (updStripe n (fun t => { t with sums := t.sums.filter fun x => !gone.contains x }) d)

/-- A stripe that is no longer open gives its pool C buffers back (R495). -/
def releaseBuffers (n : Nat) (d : Device) : Device :=
  let t := stripe n d
  giveBuffers 0x41 5 (t.standing ++ t.sums.map (·.2)) (updStripe n (fun t => { t with standing := [], sums := [] }) d)

/-- The rows that have come onto the medium since are counted; a stripe whose groups are all closed closes, and joins the restripe set
where a member is lost or draining (R296). -/
def advanceStripe : Nat → Nat → Device → Device
  | 0, _, d => d
  | fuel + 1, n, d =>
    let st := stripe n d
    if st.isOpen && st.done < 512 && st.done < st.gathered && rowOnMembers n st.done d then
      advanceStripe fuel n (incObj Obj.rowsProgrammed (updStripe n (fun t => { t with done := t.done + 1 }) d))
    else if st.isOpen && (st.members.all fun m => st.lost.contains m.1 ||
        let g := group m.2 (groupSlot st.kind) d
        !(g.used && g.stripe = n)) then
      let draining := st.members.any fun m => carrierState m.1 d = 0x06
      let d := setObj Obj.stripesOpen (getObj Obj.stripesOpen d - 1)
        (releaseBuffers n (updStripe n (fun t => { t with isOpen := false, closeHours := hours d, closeMs := nowMs d }) d))
      let lost := !(lostInRows n st).isEmpty
      if lost || draining then joinRestripe n lost d else d
    else d

/-- A pass fails for some planes (R77, Table 3.6): the group is abandoned, its images go on in a continuation group on the same die; a failure
while carried images are programmed fails the die. -/
def passFails (n slot : Nat) (fine : Bool) (w : Nat) (failed : List Nat) (d : Device) : Device :=
  let g := group n slot d
  let d := failed.foldl (fun d p =>
    let b := (g.blocks[p]?).getD 0
    logRec Code.programFail [b, w, if fine then 2 else 1] (incObj Obj.programFailCount
      (updBlock b (fun e => { e with state := 4, retireCause := 1, scrubDue := 0xFFFFFFFF }) d))) d
  if g.fine < g.carried then failDie n 2 d
  else
    let st := stripe g.stripe d
    let pos := (st.members.findIdx? (·.2 == n)).getD 0
    let width := st.members.length
    let role := memberRole n g.stripe d
    let before := ((List.range pos).filter fun i => i != g.stripe % width && !(st.parity = 2 && i = (g.stripe + 1) % width)).length
    let row := g.rowBase + g.fine
    let d := g.blocks.foldl (fun d b => updBlock b (fun e => { e with noFooter := true }) d) (closeBlocks n g.blocks d)
    let d := unplaceWhere (fun p => g.blocks.contains p.block
      && decide (g.fine ≤ lastWordline (block p.block d).step p.frame p.frames)) d
    let d := updGroup n slot (fun g =>
      { g with blocks := [], rowBase := row, carried := g.encoded - g.fine, encoded := 0,
               coarse := 0, fine := 0, erasedMs := none, padding := [] }) d
    formGroup n slot (logRec Code.memberContinued [g.stripe, if role = 1 then 0xFF else if role = 2 then 0xFE else before, row]
      (incObj Obj.continuationGroups d))

/-- Modes in which stripe rows are programmed: from M5 on, and in any mode while a hold-up flush runs (R44). -/
def programsRows (d : Device) : Bool :=
  d.ctl.flushing || match d.ctl.mode with | .m5 | .m6 | .m7 | .m8 | .m9 => true | _ => false

/-- The array operation that is due on a plane group (R71, R75, R190): 0 none, 2 coarse pass, 3 fine pass, 4 erase. The coarse pass of a parity
row waits for the data of the row. -/
def dueOp (n slot : Nat) (d : Device) : Nat :=
  let g := group n slot d
  if !g.used then 0
  else if g.erasing then 4
  else match nextPass g with
    | none => 0
    | some (fine, w) =>
      let parity := g.blocks.any fun b => (block b d).role = 1 || (block b d).role = 2
      if !programsRows d then 0
      else if fine then 3
      else if parity && !g.padding.contains w && !dataRowDone g.stripe (g.rowBase + w) d then 0
      else 2

/-- A die runs one array operation at a time: where none is outstanding, the tokens of the one due are asked for, those of the group that has
not had the last one first (R78, R79; notes/assumptions/11.md). On a program-inhibited carrier a flush alone starts any (R480). -/
def startOp (n : Nat) (d : Device) : Device :=
  let x := die n d
  if x.op.kind != 0 || x.failed || (bankInhibited (bankOfDie n) d && !d.ctl.flushing) then d
  else match [1 - x.op.slot, x.op.slot].find? fun s => dueOp n s d != 0 with
    | none => d
    | some s =>
      let kind := dueOp n s d
      let charge := opTokens (profileOf n d) kind
      requestTokens (bankOfDie n) charge d.ctl.flushing
        (updDie n (fun x => { x with op := { kind := kind, slot := s, req := d.res.nextReq, charge := charge } }) d)

/-- Every die with a plane group starts what is due on it. -/
def startOps (d : Device) : Device := (d.media.groups.map fun g => g.1 / 2).foldl (fun d n => startOp n d) d

/-- The passes and erases of a bank that have not started are withdrawn as its carrier becomes program-inhibited (R480). -/
def withdrawOps (bank : Nat) (d : Device) : Device :=
  if d.ctl.flushing then d
  else ((d.media.groups.map fun g => g.1 / 2).filter (bankOfDie · = bank)).foldl (fun d n => if opRuns n d then d else endOp n d) d

/-- A coarse or fine pass of a group runs on its die. -/
def passRuns (n slot : Nat) (d : Device) : Bool :=
  opRuns n d && ((die n d).op.kind = 2 || (die n d).op.kind = 3) && (die n d).op.slot = slot

/-- Queue a stripe for relocation ahead of every victim chosen by score (Table 9.2): 1 calendar, 2 reads that needed L4 or L5, 3 rate
estimates, 4 static wear levelling. A stripe stands in one queue once. -/
def queueStripe (q n : Nat) (d : Device) : Device :=
  let rc := d.media.rc
  let add (xs : List Nat) : List Nat := if xs.contains n then xs else xs ++ [n]
  let rc := match q with
    | 1 => { rc with q1 := add rc.q1 }
    | 2 => { rc with q2 := add rc.q2 }
    | 3 => { rc with q3 := add rc.q3 }
    | _ => { rc with q4 := add rc.q4 }
  { d with media := { d.media with rc := rc } }

/-- A block that has needed L4 or L5 is queued for refresh, once until it has been relocated (R238). -/
def queueRefresh (b : Nat) (d : Device) : Device :=
  if (block b d).readQ then d
  else incObj Obj.refreshQueuedByRead (queueStripe 2 (block b d).stripe (updBlock b (fun e => { e with readQ := true }) d))

/-- The pass that runs on a group ends, in time or by a timeout: its tokens return (R65, R71, R76). The group closes with the fine pass of its
stripe's last row. -/
def passEnds (n slot : Nat) (inTime : Bool) (failed : List Nat) (d : Device) : Device :=
  let g := group n slot d
  match nextPass g with
  | none => d
  | some (fine, w) =>
    if !passRuns n slot d then d
    else
      let d := sendOnLink (0x10 + bankOfDie n) (endOp n d)
      let d := if inTime then updDie n (fun x => { x with timeouts := 0 }) d else d
      if !failed.isEmpty then passFails n slot fine w failed d
      else
        let d := updGroup n slot (fun g => if fine then { g with fine := g.fine + 1 } else { g with coarse := g.coarse + 1 }) d
        let d := if fine then g.blocks.foldl (fun d b => updBlock b (fun e => { e with lastFine := w }) d) d else d
        let d := if d.ctl.flushing && bankInhibited (bankOfDie n) d && g.kind != 3 then g.blocks.foldl (fun d b => queueRefresh b d) d else d
        let d := if fine then encodeGroup n slot d else d
        let d := if fine && g.rowBase + w = 511 then endExhausted n (updGroup n slot (fun _ => {}) (closeBlocks n g.blocks d)) else d
        advanceStripe 513 g.stripe (releaseSums g.stripe d)

/-! ### Gauge blocks (R96) -/

/-- Each retired gauge block of a die gives way to the lowest-numbered free block of its plane in the range 4 to 63, where there is one
(R96). -/
def nameGauge (n : Nat) (d : Device) : Device :=
  (gaugeBlocks n d).foldl (fun d b =>
    if (smGet {} d.media.blocks b).state != 5 then d
    else match (List.range 60).find? fun i =>
        (i + 4) % 4 = b % 4 && (block (n * 16384 + i + 4) d).state = 0 with
      | some i =>
        logRec Code.gaugeBlockMoved [n, b % 4, i + 4] (moveRoot (fun p r => { r with gaugeTable := p })
          (updDie n (fun x => { x with gaugeMoved := true, gauge := (gaugeBlocks n d).map fun g => (if g = b then n * 16384 + i + 4 else g) % 16384 }) d))
      | none => d) d

/-! ### Meanings -/

/-- ERASE_COMPLETE (R75, R76). -/
def execEraseComplete (die : Die) (slot : Fin 2) (failed : List Nat) (s : State) : Host.Outcome State Fault Refusal :=
  runDev (fun d => startOp die.val (eraseEnds die.val slot.val true failed d)) s

/-- GROUP_ERASE_STALE (R75). -/
def execGroupEraseStale (die : Die) (slot : Fin 2) (s : State) : Host.Outcome State Fault Refusal :=
  runDev (fun d => startOp die.val (eraseAgain die.val slot.val d)) s

/-- FORM_PLANE_GROUP (R57, R119 to R121). -/
def execFormPlaneGroup (die : Die) (slot : Fin 2) (s : State) : Host.Outcome State Fault Refusal :=
  runDev (fun d => startOp die.val (formGroup die.val slot.val d)) s

end Sys2Proof.Machine
end

