-- ==== Sys2Proof/Machine/Map.lean ====
section
/-! DEFINITION. The translation map: entries, updates, journal, checkpoints, pages, cache and the superblock (spec/05, spec/03 R90 to
R95). -/
namespace Sys2Proof.Machine

/-! ### Entries and pages -/

/-- Key of a grain's entry; of a map page. -/
def mapKey (slot grain : Nat) : Nat := slot * 2 ^ 40 + grain
def pageKey (slot page : Nat) : Nat := slot * 2 ^ 32 + page

/-- The lost value (Table 5.4). -/
def lostEntry : Nat := 0xFFFFFFFFFF

/-- A grain's entry in DRAM; unmapped where unlisted. -/
def mapEntry (slot grain : Nat) (d : Device) : Nat := smGet 0 d.media.map.entries (mapKey slot grain)

/-- The pointer of a block and start frame (R139, Table 5.3). -/
def pointerOf (block frame : Nat) : Nat := block * 16384 + frame
def blockOf (entry : Nat) : Nat := entry / 16384
def frameOf (entry : Nat) : Nat := entry % 16384

/-- The classes of Table 5.4. -/
inductive EntryClass | unmapped | lost | malformed | pointer
  deriving DecidableEq, Repr

/-- Classify an entry (R140). -/
def classify (e : Nat) (d : Device) : EntryClass :=
  if e = 0 then .unmapped
  else if e = lostEntry then .lost
  else if frameOf e = 0 || 10829 ≤ frameOf e || anchorBlock (blockOf e) || (gaugeBlocks (dieOfBlock (blockOf e)) d).contains (blockOf e)
    then .malformed
  else .pointer

/-- Line and page of a grain (Table 5.1). -/
def lineOf (grain : Nat) : Nat := grain / 12
def pageOf (grain : Nat) : Nat := grain / 768

/-- A namespace by slot. -/
def namespace_ (slot : Nat) (d : Device) : Namespace := smGet {} d.sub.namespaces slot

/-- A map page. -/
def mapPage (slot page : Nat) (d : Device) : MapPage := smGet {} d.media.map.pages (pageKey slot page)

/-- Change a map page. -/
def updPage (slot page : Nat) (f : MapPage → MapPage) (d : Device) : Device :=
  { d with media := { d.media with map := { d.media.map with pages := smUpd {} (pageKey slot page) f d.media.map.pages } } }

/-- Change the map state. -/
def updMap (f : MapState → MapState) (d : Device) : Device := { d with media := { d.media with map := f d.media.map } }

/-! ### The journal (R159 to R163, R168, R169) -/

/-- The journal is full: updates wait until a checkpoint completes (R169). -/
def journalFull (d : Device) : Bool := d.settings.journalLimit ≤ getObj Obj.journalFrames d

/-- JOURNAL_FULL once per wait. -/
def noteJournalFull (d : Device) : Device :=
  if d.media.map.fullRecorded then d
  else logRec Code.journalFull [getObj Obj.journalFrames d, getObj Obj.checkpointSequence d]
    (updMap (fun m => { m with fullRecorded := true }) d)

/-- A page is asked for, by a demand (1) or a prefetch (2): a page already resident is not, and the higher priority stands (R174). -/
def askPage (priority slot page : Nat) (d : Device) : Device :=
  let k := pageKey slot page
  let now := smGet 0 d.media.map.asked k
  if (mapPage slot page d).resident || (now != 0 && now ≤ priority) then d
  else updMap (fun m => { m with asked := smSet 0 k priority m.asked }) d

/-- An update cannot be applied now: it asks for its page, or waits for the journal. -/
def holdUpdate (slot grain : Nat) (d : Device) : Device :=
  if journalFull d then noteJournalFull d else askPage 1 slot (pageOf grain) d

/-- Append a record; its sequence is the one JournalSequence named. The open frame takes 252 records (R161). -/
def journalAppend (r : JRecord) (d : Device) : Device :=
  incObj Obj.journalSequence (updMap (fun m =>
    { m with openFrame := m.openFrame ++ [r], openMs := if m.openFrame.isEmpty then nowMs d else m.openMs
             overMs := if m.openFrame.length = 252 then nowMs d else m.overMs, recordsSince := true }) d)

/-- The records of a run of frames with their sequences. -/
def sequenced (fs : List JFrame) : List (Nat × JRecord) :=
  (fs.map fun f => (List.range f.records.length).zip f.records |>.map fun x => (f.first + x.1, x.2)).flatten

/-- What the directory and the replay table hold: image numbers and replay lists, by slot × 2^32 + page. -/
structure Replay where
  dir : SMap Nat := []
  lists : SMap (List JRecord) := []

/-- A record is applied to the directory, or filed in the replay table by page (R170, step 4; R173). -/
def fileRecord (t : Replay) (x : Nat × JRecord) : Replay :=
  match x.2 with
  | .entrySet s g _ => { t with lists := smUpd [] (pageKey s (pageOf g)) (· ++ [x.2]) t.lists }
  | .rangeSet s f n _ => { t with lists := (List.range (pageOf (f + n - 1) + 1 - pageOf f)).foldl (fun l i =>
      smUpd [] (pageKey s (pageOf f + i)) (· ++ [x.2]) l) t.lists }
  | .pageWritten s p => { dir := smSet 0 (pageKey s p) (x.1 + 1) t.dir, lists := smErase (pageKey s p) t.lists }
  | .regionReset s _ => { dir := t.dir.filter fun e => e.1 / 2 ^ 32 != s, lists := t.lists.filter fun e => e.1 / 2 ^ 32 != s }

/-- What one record of a page's replay list does to the entries of the page (R173). -/
def replayRecord (page : Nat) (m : SMap Nat) : JRecord → SMap Nat
  | .entrySet s g v => smSet 0 (mapKey s g) v m
  | .rangeSet s f n v =>
    let first := max f (768 * page)
    let last := min (f + n) (768 * (page + 1))
    (List.range (last - first)).foldl (fun m i => smSet 0 (mapKey s (first + i)) v m) m
  | _ => m

/-- Replay a page's list over the entries of its image (R173). -/
def replayPage (m : SMap Nat) (e : Nat × List JRecord) : SMap Nat := e.2.foldl (replayRecord (e.1 % 2 ^ 32)) m

/-- The journal frames that a wake follows from S on: up to the first with no valid copy, `bad` naming the copies, by FirstSequence and copy, that are
not valid (R172). -/
def validFrames (bad : List (Nat × Bool)) (fs : List JFrame) : List JFrame :=
  fs.takeWhile fun f => (f.good1 && !bad.contains (f.first, false)) || (f.good2 && !bad.contains (f.first, true))

/-- The sequence after the last record of a run of frames that starts at S. -/
def nextSequence (s : Nat) (fs : List JFrame) : Nat := fs.foldl (fun n f => max n (f.first + f.records.length)) s

/-- The directory and the replay table that the last checkpoint and a run of journal frames give (R170, steps 3 and 4). -/
def replayed (m : MapState) (fs : List JFrame) : Replay :=
  ((sequenced fs).filter fun x => m.record.seq ≤ x.1).foldl fileRecord { dir := m.snapshot }

/-- The entries that a directory's images and a replay table give (R173). -/
def restored (m : MapState) (t : Replay) : SMap Nat :=
  t.lists.foldl replayPage (t.dir.foldl (fun es e =>
    (smGet {} m.images e.2).entries.foldl (fun es x => smSet 0 x.1 x.2 es) es) [])

/-- The entries that a wake would restore now. -/
def mediumEntries (m : MapState) : SMap Nat := restored m (replayed m (validFrames [] m.journal))

/-- A frame of the journal since S has no copy on the medium: no record of it or later is persistent until a checkpoint of a later S (R162). -/
def journalBroken (d : Device) : Bool := d.media.map.journal.any fun f => !f.good1 && !f.good2

/-- Seal the open frame: its first 252 records go, in two copies, to the locations reserved for it, and the next two locations are reserved (R161). With
one copy on the medium its records are persistent, where all earlier ones are; a copy that fails has a checkpoint follow (R162). -/
def sealFrame (copy1 copy2 : Bool) (d : Device) : Device :=
  let m := d.media.map
  if m.openFrame.isEmpty then d
  else
    let first := getObj Obj.journalSequence d - m.openFrame.length
    let (place1, place2, d) := match m.journal.getLast? with
      | some f => (f.next1, f.next2, d)
      | none => if m.record.head1 = 0 then systemPair d else (m.record.head1, m.record.head2, d)
    let (next1, next2, d) := systemPair d
    let f : JFrame := { first := first, records := m.openFrame.take 252, checkpoint := m.record.seq, place1 := place1, place2 := place2
                        good1 := copy1, good2 := copy2, next1 := next1, next2 := next2 }
    let frames := m.journal ++ [f]
    let quarter (n : Nat) : Bool := decide (3 * d.settings.journalLimit ≤ 4 * n)
    let crossed := quarter frames.length && !quarter m.journal.length && m.checkpoint.isSome
    let d := setObj Obj.journalFrames frames.length (updMap (fun m =>
      { m with openFrame := m.openFrame.drop 252, openMs := m.overMs, overMs := nowMs d, journal := frames
               persistent := max m.persistent (nextSequence m.record.seq (validFrames [] frames))
               checkpointDue := m.checkpointDue || crossed || !(copy1 && copy2) }) d)
    if copy1 && copy2 then d
    else if copy1 || copy2 then logRec Code.journalCopyFailed [first, blockOf (if copy1 then place2 else place1)] d
    else logRec Code.journalFrameFailed [first] d

/-- Seal until every record is in a sealed frame, both copies good. -/
def sealAll (d : Device) : Device := (List.range (d.media.map.openFrame.length / 252 + 1)).foldl (fun d _ => sealFrame true true d) d

/-! ### The map cache (R152 to R156) -/

/-- A line's key and its set (R152). -/
def lineKey (slot line : Nat) : Nat := slot * 2 ^ 40 + line
def cacheSet (slot line : Nat) : Nat := (line ^^^ (slot * 32)) % 32768

/-- The set of a line by its key. -/
def setOfKey (k : Nat) : Nat := cacheSet (k / 2 ^ 40) (k % 2 ^ 40)

/-- A line in the cache: whether it is dirty; none where the cache does not hold it or is not enabled. -/
def cached (k : Nat) (d : Device) : Option Bool :=
  if getObj Obj.mapCacheState d = 0x02 then ((smGet [] d.media.map.cache (setOfKey k)).find? (·.1 == k)).map (·.2) else none

/-- A lookup or an update of a line meets a failing CRC: it comes from DRAM, and DRAM's copy is bad (R143, R176). -/
def lineBad (slot line : Nat) (d : Device) : Bool :=
  d.media.map.badLines.contains (lineKey slot line) && (cached (lineKey slot line) d).isNone
    && !d.media.map.evict.contains (lineKey slot line)

/-- Lines are written to DRAM: what DRAM held of them is gone. -/
def writeLines (ks : List Nat) (m : MapState) : MapState := { m with badLines := m.badLines.filter fun k => !ks.contains k }

/-- Put a line in front of its set: the least recently used of 16 ways goes, a dirty one to the eviction buffer (R152, R153). A buffer of 64 lines makes
room by writing its oldest. -/
def fillLine (k : Nat) (dirty : Bool) (m : MapState) : MapState :=
  let keep := (smGet [] m.cache (setOfKey k)).filter (·.1 != k)
  let out := (keep.drop 15).filterMap fun w => if w.2 then some w.1 else none
  let evict := (m.evict.filter (· != k)) ++ out
  writeLines (evict.take (evict.length - 64))
    { m with cache := smSet [] (setOfKey k) ((k, dirty) :: keep.take 15) m.cache, evict := evict.drop (evict.length - 64) }

/-- Touch a line: a hit moves it to the front of its set; a miss fills it from the eviction buffer, as a dirty line, or from DRAM. -/
def touchLine (slot line : Nat) (dirty : Bool) (d : Device) : Device :=
  if getObj Obj.mapCacheState d != 0x02 then d
  else
    let k := lineKey slot line
    match cached k d with
    | some was =>
      let d := if d.media.map.prefetched.contains k then incObj Obj.prefetchesUsed d else d
      incObj Obj.mapCacheHits (updMap (fun m => { fillLine k (was || dirty) m with prefetched := m.prefetched.filter (· != k) }) d)
    | none =>
      let inBuffer := d.media.map.evict.contains k
      updMap (fillLine k (inBuffer || dirty)) (incObj (if inBuffer then Obj.evictionBufferHits else Obj.mapCacheMisses) d)

/-- The dirty lines, in the cache and in the eviction buffer, that a test picks. -/
def dirtyLines (pick : Nat → Bool) (m : MapState) : List Nat :=
  ((m.cache.map fun e => (e.2.filter (·.2)).map (·.1)).flatten ++ m.evict).filter pick

/-- Dirty lines that the test picks are written back to DRAM (R153, R156, R157); the entries themselves are held once, in `entries`. -/
def writeBack (pick : Nat → Bool) (d : Device) : Device :=
  updMap (fun m => { writeLines (dirtyLines pick m) m with
    cache := m.cache.map fun e => (e.1, e.2.map fun w => (w.1, w.2 && !pick w.1)), evict := m.evict.filter fun k => !pick k }) d

/-- Every dirty line is written back. -/
def writeBackCache (d : Device) : Device := writeBack (fun _ => true) d

/-- The eviction buffer is written to DRAM (R153): a control epoch is time enough for its 64 lines. -/
def drainBuffer (d : Device) : Device := updMap (fun m => { writeLines m.evict m with evict := [] }) d

/-- MapCacheControl (Table 5.8): none where the request is rejected with the state-conflict abort. -/
def cacheControl (value : Nat) (d : Device) : Option Device :=
  let st := getObj Obj.mapCacheState d
  match value, st with
  | 1, 0x01 => some (setObj Obj.mapCacheState 0x02 d)
  | 1, 0x02 => some d
  | 1, _ => none
  | 2, 0x02 => some (setObj Obj.mapCacheState 0x00 (writeBackCache d))
  | 2, 0x03 => none
  | 2, _ => some d
  | _, 0x00 => some (setObj Obj.mapCacheState 0x01 (updMap (fun m => { m with cache := [] }) d))
  | _, 0x01 => some d
  | _, 0x02 => some (updMap (fun m => { m with cache := [] }) (writeBackCache d))
  | _, _ => none

/-- Prefetch a line of a slot (R155): a resident page's line comes into the cache, another page is asked for. Lines that the namespace does not have are
passed over. -/
def prefetchLine (slot : Nat) (d : Device) (line : Int) : Device :=
  let n := line.toNat
  let k := lineKey slot n
  if line < 0 || pagesOf (namespace_ slot d).nsze ≤ n / 64 || getObj Obj.mapCacheState d != 0x02 || (cached k d).isSome || lineBad slot n d then d
  else if (mapPage slot (n / 64) d).resident then
    incObj Obj.prefetchesIssued (updMap (fun m =>
      { fillLine k (m.evict.contains k) m with prefetched := m.prefetched.filter (· != k) ++ [k] }) d)
  else askPage 2 slot (n / 64) d

/-- The stride detector of a read stream (R155): three lookups at one step, which are two equal steps (notes/assumptions/140.md), prefetch eight lines,
each further one more. -/
def strideLookup (stream slot line : Nat) (d : Device) : Device :=
  let s := (d.media.map.strides.find? (·.key == stream)).getD { key := stream, last := line }
  let dist : Int := (line : Int) - s.last
  let run := if dist != 0 && dist.natAbs ≤ 64 && dist = s.step then s.run + 1 else if dist != 0 && dist.natAbs ≤ 64 then 1 else 0
  let entry : Stride := { key := stream, last := line, step := dist, run := run }
  let ahead (k : Nat) : Int := (line : Int) + dist * (k : Int)
  let fetch := if run = 2 then (List.range 8).map (fun k => ahead (k + 1)) else if 2 < run then [ahead 8] else []
  fetch.foldl (prefetchLine slot) (updMap (fun m => { m with strides := (entry :: m.strides.filter (·.key != stream)).take 64 }) d)

/-- A lookup of a resident page's line (R140, R173): the cache and the stride detector see it. A page that is not resident is asked for; a bad line waits
for its reload (R154, R176). -/
def lookupEntry (stream slot grain : Nat) (d : Device) : Device :=
  if !(mapPage slot (pageOf grain) d).resident then askPage 1 slot (pageOf grain) d
  else if lineBad slot (lineOf grain) d then d
  else strideLookup stream slot (lineOf grain) (touchLine slot (lineOf grain) false d)

/-- A grain's entry can be looked up now. -/
def lookupReady (slot grain : Nat) (d : Device) : Bool :=
  (mapPage slot (pageOf grain) d).resident && !lineBad slot (lineOf grain) d

/-! ### Updates (R146 to R151) -/

/-- A page takes an update: it is dirty, from the first update that its newest image does not hold (R164). -/
def dirtyPage (seq : Nat) (p : MapPage) : MapPage := if p.dirty then p else { p with dirty := true, firstSeq := seq }

/-- The old value of an entry and the update kind are reported to the reclaim engine (R150, R258): an old pointer enters the release log, and its block
keeps the sequence of the record that moved the entry away (R151). -/
def reportOld (kind : UpdateKind) (seq : Nat) (d : Device) (old : Nat) : Device :=
  let d := { d with media := { d.media with rc := { d.media.rc with report := some (kind, old) } } }
  if classify old d = .pointer then
    updBlock (blockOf old) (fun e => { e with movedSeq := seq + 1 })
      { d with media := { d.media with rc := { d.media.rc with released := d.media.rc.released ++ [(blockOf old, frameOf old)] } } }
  else d

/-- Write an entry: the old value is reported to the reclaim engine, the page becomes dirty, the record is journaled (R146, R150). -/
def setEntry (kind : UpdateKind) (slot grain value : Nat) (d : Device) : Device :=
  let old := mapEntry slot grain d
  let seq := getObj Obj.journalSequence d
  let d := touchLine slot (lineOf grain) true d
  let d := updPage slot (pageOf grain) (dirtyPage seq) d
  let d := updMap (fun m => { m with entries := smSet 0 (mapKey slot grain) value m.entries }) d
  let d := reportOld kind seq d old
  journalAppend (.entrySet slot grain value) d

/-- An update can be applied now: its page is resident, its line good, and the journal not full. -/
def updateReady (slot grain : Nat) (d : Device) : Bool := lookupReady slot grain d && !journalFull d

/-- A conditional update (R146): discarded and counted where the entry differs from the expected value. -/
def conditionalSet (kind : UpdateKind) (slot grain expected value : Nat) (d : Device) : Device :=
  if !updateReady slot grain d then holdUpdate slot grain d
  else if mapEntry slot grain d = expected then setEntry kind slot grain value d
  else incObj Obj.conditionalDiscards d

/-- The lines of a range of grains. -/
def linesOf (first count : Nat) : List Nat := (List.range (lineOf (first + count - 1) + 1 - lineOf first)).map (lineOf first + ·)

/-- Every line of a range of grains can be updated now. -/
def rangeReady (slot first count : Nat) (d : Device) : Bool :=
  !journalFull d && (linesOf first count).all fun l => (mapPage slot (l / 64) d).resident && !lineBad slot l d

/-- A range of updates waits: the pages that it lacks are asked for. -/
def holdRange (slot first count : Nat) (d : Device) : Device :=
  if journalFull d then noteJournalFull d
  else (linesOf first count).foldl (fun d l => askPage 1 slot (l / 64) d) d

/-- Unmap whole grains (R146): their lines are touched, the entries replaced are reported, and one record is journaled. -/
def unmapRange (slot first count : Nat) (d : Device) : Device :=
  if count = 0 then d
  else if !rangeReady slot first count d then holdRange slot first count d
  else
    let seq := getObj Obj.journalSequence d
    let inRange (k : Nat) : Bool := mapKey slot first ≤ k && k < mapKey slot (first + count)
    let old := (d.media.map.entries.filter fun e => inRange e.1).map (·.2)
    let d := old.foldl (reportOld .unmap seq) ((linesOf first count).foldl (fun d l => touchLine slot l true d) d)
    let d := updMap (fun m =>
      { m with entries := m.entries.filter fun e => !inRange e.1,
               pages := m.pages.map fun e =>
                 if pageKey slot (pageOf first) ≤ e.1 && e.1 ≤ pageKey slot (pageOf (first + count - 1)) then
                   (e.1, dirtyPage seq e.2) else e }) d
    journalAppend (if count = 1 then .entrySet slot first 0 else .rangeSet slot first count 0) d

/-- Region reset (R146): every entry of the slot becomes unmapped, its `pages` pages non-resident with no image. -/
def resetRegion (slot pages : Nat) (d : Device) : Device :=
  let old := (d.media.map.entries.filter fun e => e.1 / 2 ^ 40 = slot).map (·.2)
  let d := old.foldl (reportOld .regionReset (getObj Obj.journalSequence d)) d
  let other (k : Nat) : Bool := k / 2 ^ 40 != slot
  journalAppend (.regionReset slot pages) (updMap (fun m =>
    { m with entries := m.entries.filter fun e => other e.1
             pages := m.pages.filter fun e => e.1 / 2 ^ 32 != slot
             asked := m.asked.filter fun e => e.1 / 2 ^ 32 != slot
             cache := (m.cache.map fun e => (e.1, e.2.filter fun w => other w.1)).filter fun e => !e.2.isEmpty
             evict := m.evict.filter other, badLines := m.badLines.filter other }) d)

/-- An update waits for its page, its line or the journal (R169, R173). -/
def waitUpdate (u : MapUpdate) (d : Device) : Device := updMap (fun m => { m with waits := m.waits ++ [u] }) d

/-- Mark lost (R146): the grain is noted for the lost-range log of its stripe. -/
def markLost (slot grain pointer : Nat) (d : Device) : Device :=
  if updateReady slot grain d && mapEntry slot grain d = pointer && pointer != 0 then
    let st := (block (blockOf pointer) d).stripe
    incObj Obj.grainsMarkedLost (setEntry .markLost slot grain lostEntry
      { d with media := { d.media with rc := { d.media.rc with toAppend := d.media.rc.toAppend ++ [(slot, grain, 0x01, st)] } } })
  else conditionalSet .markLost slot grain pointer lostEntry d

/-- An update of the map engine's own: it is applied, or waits. -/
def mapUpdate (u : MapUpdate) (d : Device) : Device :=
  match u with
  | .unmap s f n => if rangeReady s f n d || n = 0 then unmapRange s f n d else waitUpdate u (holdRange s f n d)
  | .markLost s g p => if updateReady s g d then markLost s g p d else waitUpdate u (holdUpdate s g d)
  | .regionReset s n => if journalFull d then waitUpdate u (noteJournalFull d) else resetRegion s n d

/-- The updates that wait are tried again, in order (R148, R169, R173). -/
def serveUpdates (d : Device) : Device :=
  d.media.map.waits.foldl (fun d u => mapUpdate u d) (updMap (fun m => { m with waits := [] }) d)

/-- Region reset of a slot whose namespace then has `pages` pages. -/
def regionReset (slot pages : Nat) (d : Device) : Device := mapUpdate (.regionReset slot pages) d

/-! ### Pages (R171 to R176) -/

/-- Every allocated page is resident. -/
def allResident (d : Device) : Bool :=
  d.sub.namespaces.all fun e => !e.2.active || (List.range (pagesOf e.2.nsze)).all fun p => (mapPage e.1 p d).resident

/-- A grain becomes lost without a record, and is noted for the lost-range log with its cause (Table 10.2; R176). -/
def loseGrain (slot cause : Nat) (d : Device) (g : Nat) : Device :=
  updMap (fun m => { m with entries := smSet 0 (mapKey slot g) lostEntry m.entries })
    { d with media := { d.media with rc := { d.media.rc with toAppend := d.media.rc.toAppend ++ [(slot, g, cause, 2 ^ 64 - 1)] } } }

/-- Every entry of a page takes the lost value. -/
def losePage (slot page cause : Nat) (d : Device) : Device :=
  let last := min (768 * (page + 1)) (grainsOf (namespace_ slot d).nsze)
  (List.range (last - 768 * page)).foldl (fun d i => loseGrain slot cause d (768 * page + i)) d

/-- A page load's turn (R174): no page is asked for at a higher priority than this one; one that nothing asked for is a demand of the command's. -/
def loadTurn (slot page : Nat) (d : Device) : Bool :=
  smGet 0 d.media.map.asked (pageKey slot page) != 2 || d.media.map.asked.all fun e => e.2 != 1

/-- The load's pool A buffer under the map engine's owner ID, taken and returned within the load (R174); a load that has met an empty pool waits for its
retry. -/
def loadBuffer (d : Device) : Bool := !poolWaits 0x40 3 d && grantOk 3 0x40 1 d

/-- A page image arrives (R173): its replay records are applied and the page becomes resident, dirty where there were any. An image that cannot be read, or
whose directory entry is lost, gives lost entries (R171, R176). `bad` names the lines of the image whose CRC fails (R143). -/
def takePage (slot page : Nat) (readable : Bool) (bad : List Nat) (d : Device) : Device :=
  let p := mapPage slot page d
  let lost := p.lost || (p.image != 0 && !readable)
  let d := if lost then
      let d := losePage slot page 0x03 d
      logRec Code.mapPageLost [slot, page] (incObj Obj.mapPagesLost
        (updMap (fun m => { m with entries := replayPage m.entries (pageKey slot page, p.replay) }) d))
    else d
  let d := updMap (fun m => { m with asked := smErase (pageKey slot page) m.asked
                                     badLines := m.badLines ++ if lost || p.image = 0 then [] else
                                       (bad.filter (· < 64)).map fun i => lineKey slot (64 * page + i) }) d
  let d := updPage slot page (fun p =>
    { (if lost then { dirtyPage 0 p with firstSeq := 0 } else if p.replay.isEmpty then p else dirtyPage 0 p) with resident := true, replay := [], lost := false }) d
  if allResident d then setObj Obj.mapResidentComplete 1 d else d

/-- A page can be loaded: the directory is resident, and the page is one of an active namespace and not resident (R170, R173). -/
def loadable (slot page : Nat) (d : Device) : Bool :=
  d.ctl.dirResident && !(mapPage slot page d).resident && (namespace_ slot d).active && decide (page < pagesOf (namespace_ slot d).nsze)

/-- A host read waits for codewords of the die that a page's newest image lies on: a prefetch or a background load comes after it (R235). -/
def imageDieBusy (slot page : Nat) (d : Device) : Bool :=
  let at_ := (smGet {} d.media.map.images (mapPage slot page d).image).place
  (mapPage slot page d).image != 0 && d.media.wp.reads.any fun r => r.grains.any fun g =>
    g.stage == .codewords && dieOfBlock (blockOf g.pointer) = dieOfBlock (blockOf at_)

/-- Load a page (R173, R174): with the pool empty the load backs off, and is counted. -/
def loadPage (slot page : Nat) (readable : Bool) (bad : List Nat) (d : Device) : Device :=
  if !loadable slot page d || poolWaits 0x40 3 d || (smGet 0 d.media.map.asked (pageKey slot page) = 2 && imageDieBusy slot page d) then d
  else if !loadBuffer d then poolEmptyResult 0x40 3 4096 true d
  else serveUpdates (takePage slot page readable bad (sendOnLink 0x05 d))

/-- The next page the background loader makes resident (R175): ascending slot, then page. -/
def nextBackground (d : Device) : Option (Nat × Nat) :=
  d.sub.namespaces.findSome? fun e =>
    if e.2.active then ((List.range (pagesOf e.2.nsze)).find? fun p => !(mapPage e.1 p d).resident).map fun p => (e.1, p) else none

/-- A page without an image becomes resident without a media read (R175). -/
def backgroundPage (slot page : Nat) (readable : Bool) (bad : List Nat) (d : Device) : Device :=
  if (mapPage slot page d).image = 0 && loadable slot page d then serveUpdates (takePage slot page readable bad d)
  else if smGet 0 d.media.map.asked (pageKey slot page) = 0 && imageDieBusy slot page d then d
  else loadPage slot page readable bad d

/-- A record changes an entry of a line. -/
def touchesLine (slot line : Nat) : JRecord → Bool
  | .entrySet s g _ => s = slot && lineOf g = line
  | .rangeSet s f n _ => s = slot && decide (lineOf f ≤ line && line ≤ lineOf (f + n - 1))
  | _ => false

/-- A reload needs a journal frame that has no valid copy: one with a record of the line that its page's newest image does not hold (R176). -/
def reloadBroken (slot line : Nat) (d : Device) : Bool :=
  let image := (mapPage slot (line / 64) d).image
  (sequenced (d.media.map.journal.filter fun f => !f.good1 && !f.good2)).any fun x => decide (image ≤ x.1) && touchesLine slot line x.2

/-- A line that fails its CRC is rebuilt from its page's newest image and the journal, or its twelve entries become lost; the updates that waited for it are
then applied (R28, R143, R176). -/
def lineReloaded (slot line : Nat) (good : Bool) (d : Device) : Device :=
  if !(mapPage slot (line / 64) d).resident then d
  else
    let d' := updMap (writeLines [lineKey slot line]) d
    if good && !reloadBroken slot line d then
      serveUpdates (logRec Code.mapLineReloaded [slot, line] (incObj Obj.mapLinesReloaded d'))
    else
      let n := min 12 (grainsOf (namespace_ slot d).nsze - 12 * line)
      let d := (List.range n).foldl (fun d i => loseGrain slot 0x02 d (12 * line + i)) d'
      serveUpdates (logRec Code.mapLineLost [slot, line] (incObj Obj.mapLinesLost
        (updPage slot (line / 64) (fun p => { p with dirty := true, firstSeq := 0 }) d)))

/-- DRAM holds a line with a failing CRC, or the cache SRAM reports an uncorrectable error in it (true): there a clean line is dropped and refilled from DRAM, a
dirty one is handled as a CRC failure (R143, R176). -/
def lineError (d : Device) (x : Nat × Nat × Bool) : Device :=
  let k := lineKey x.1 x.2.1
  let bad (d : Device) : Device := updMap (fun m => { m with badLines := m.badLines.filter (· != k) ++ [k] }) d
  if !x.2.2 then bad d
  else match cached k d with
    | none => d
    | some false => incObj Obj.mapCacheMisses d
    | some true => bad (updMap (fun m => { m with cache := smUpd [] (setOfKey k) (·.filter (·.1 != k)) m.cache }) d)

/-! ### Superblock and checkpoints -/

/-- The anchor group of a side of a bank. -/
def anchor (k : Nat) (d : Device) : Anchor := smGet {} d.media.anchors k

/-- Change the anchor group of bank × 2 + side. -/
def updAnchor (k : Nat) (f : Anchor → Anchor) (d : Device) : Device :=
  { d with media := { d.media with anchors := smUpd {} k f d.media.anchors } }

/-- The blocks of the anchor group of bank × 2 + side: blocks 0 to 3 of die 0 of the channel (R90). -/
def anchorBlocks (k : Nat) : List Nat := (List.range 4).map ((k / 2 * 8 + k % 2) * 32 * 16384 + ·)

/-- An anchor group is erased (R93, R316). -/
def eraseAnchor (k : Nat) (d : Device) : Device :=
  updAnchor k (fun _ => {}) ((anchorBlocks k).foldl (fun d b => updBlock b (fun e => { e with erases := min 524287 (e.erases + 1) }) d) d)

/-- The banks in service whose side is not lost (R95). -/
def carrying (side : Nat) (d : Device) : List Nat := (banksInService d).filter fun b => !bitOf d.media.sb.lostSides (2 * b + side)

/-- The current side's groups are full, 256 updates to a group (R92, R93). -/
def sideFull (d : Device) : Bool :=
  (carrying d.media.sb.side d).any fun b => decide (256 ≤ (anchor (2 * b + d.media.sb.side) d).updates)

/-- The bits of AnchorSidesLost of the banks that a mask names (Table 3.14). -/
def sidesOf (mask lost : Nat) : Nat :=
  ((List.range 32).map fun k => if bitOf mask (k / 2) && bitOf lost k then 2 ^ k else 0).sum

/-- One update of the superblock, which the `broken` anchor groups do not take (R91 to R93, R315): the next generation, programmed in the current
side's group of every bank in service, or, where those are full, in the other side's after their erase. The gauge table that its root names is
that of this moment, and LogbookRoot takes the newest frame (R566). -/
def programAnchors (broken : List Nat) (d : Device) : Device :=
  let full := sideFull d
  let side := if full then 1 - d.media.sb.side else d.media.sb.side
  let sides := (carrying side d).map (2 * · + side)
  let d := if full then sides.foldl (fun d k => eraseAnchor k d) d else d
  let mask := ((banksInService d).map fun b => 2 ^ b).sum
  let s := d.media.sb
  let sb : Superblock := { s with side := side, generation := s.generation + 1, banks := mask, lostSides := sidesOf mask s.lostSides
                                  roots := { s.roots with logbook := d.log.newest } }
  let d := (sides.filter fun k => !broken.contains k).foldl (fun d k =>
    setObj (Obj.carrierLastGeneration (k / 2)) sb.generation (updAnchor k (fun a => { updates := a.updates + 1, last := some sb }) d)) d
  { d with media := { d.media with sb := sb, sbDue := false, dies := smMap {} (fun x : DieState => { x with savedGauge := x.gauge }) d.media.dies } }

/-- An anchor side fails to program or erase: it carries no superblock from then on (R95). -/
def loseSide (d : Device) (k : Nat) : Device :=
  logRec Code.anchorLost [k / 2, k % 2] { d with media := { d.media with sb := { d.media.sb with lostSides := setBit d.media.sb.lostSides k true } } }

/-- Write the superblock; the anchor groups `failed` (bank × 2 + side) that this write touches fail in it. They are lost, and a superblock that
says so goes to the sides that remain (R91, R95). -/
def writeSuperblock (failed : List Nat) (d : Device) : Device :=
  if programsHeld d then { d with media := { d.media with sbDue := true } }
  else
  let side := if sideFull d then 1 - d.media.sb.side else d.media.sb.side
  let broken := (List.range 32).filter fun k => failed.contains k && k % 2 = side && (carrying side d).contains (k / 2)
  let d := programAnchors broken d
  if broken.isEmpty then d else programAnchors [] (broken.foldl loseSide d)

/-- A checkpoint starts (R167, step 1): S is the next journal sequence. One runs at a time; what is due is met by it (R168). -/
def startCheckpoint (d : Device) : Device :=
  match d.media.map.checkpoint with
  | some _ => d
  | none => updMap (fun m =>
      { m with checkpoint := some (getObj Obj.journalSequence d), startHours := hours d, startCycle := getObj Obj.powerCycleCount d
               checkpointDue := false }) d

/-- A checkpoint is due (R168): the journal has reached three quarters of its limit, or a trigger waits. -/
def checkpointDue (d : Device) : Bool :=
  d.media.map.checkpointDue || decide (3 * d.settings.journalLimit ≤ 4 * getObj Obj.journalFrames d)

/-- The map engine runs (R170, R177): MAPC has left its reset and the directory is resident. -/
def mapRuns (d : Device) : Bool :=
  d.ctl.dirResident && match d.ctl.mode with | .m0 | .m1 | .m2 | .m3 | .m11 => false | _ => true

/-- The block table, the level tables and the calendar are written in full (R256, R106, R280). -/
def saveTables (d : Device) : Device :=
  let d := moveRoot (fun p r => { r with calendar := p }) (moveRoot (fun p r => { r with blockTable := p }) d)
  let next := match d.media.groupLog.getLast? with
    | some f => (f.next1, f.next2)
    | none => (d.media.tableIndex.next1, d.media.tableIndex.next2)
  { d with media := { d.media with savedBlocks := d.media.blocks
                                   tableIndex := { mark := d.media.wp.openSeq - 1, next1 := next.1, next2 := next.2 }
                                   groupLog := []
                                   dies := d.media.dies.map fun e => (e.1, { e.2 with savedClasses := e.2.classes })
                                   rc := { d.media.rc with tableHours := hours d } } }

/-- The entries of a page as they stand (R164). -/
def pageEntries (key : Nat) (d : Device) : SMap Nat :=
  d.media.map.entries.filter fun e => pageKey (e.1 / 2 ^ 40) (pageOf (e.1 % 2 ^ 40)) = key

/-- The lines of a page. -/
def lineOfPage (key k : Nat) : Bool := pageKey (k / 2 ^ 40) (k % 2 ^ 40 / 64) = key

/-- Step 2 of Table 5.13 on a page: its dirty lines are written back, its image is captured into a frame of a system stripe, and the PageWritten record that
names it is journaled (R142, R157, R164). -/
def writePage (d : Device) (key : Nat) : Device :=
  let d := writeBack (lineOfPage key) d
  let (place, d) := systemPlace none d
  let n := getObj Obj.journalSequence d + 1
  let image : PageImage := { place := place, entries := pageEntries key d }
  let d := updMap (fun m =>
    { m with images := smSet {} n image m.images
             pages := smUpd {} key (fun p => { p with image := n, dirty := false, lost := false }) m.pages }) d
  journalAppend (.pageWritten (key / 2 ^ 32) (key % 2 ^ 32)) d

/-- The journal holds a persistent PageWritten record of a page (R171). -/
def pageNamed (key : Nat) (d : Device) : Bool :=
  (sequenced (validFrames [] d.media.map.journal)).any fun x => match x.2 with | .pageWritten s p => pageKey s p = key | _ => false

/-- A map directory entry's pair mismatches (Table 1.5, row 6): the second copy gives it. Where both copies fail, a resident page is written to a new
place, and another one is lost unless the journal names its image (R171). -/
def directoryMismatch (key : Nat) (both : Bool) (d : Device) : Device :=
  let p := smGet {} d.media.map.pages key
  if !both then logRec Code.complementMismatch [6, key] d
  else
    let d := logRec Code.complementDoubleFault [6, key] d
    if p.resident then writePage d key
    else if pageNamed key d then d
    else updMap (fun m => { m with pages := smUpd {} key (fun p => { p with lost := true }) m.pages }) d

/-- Read a page's directory entry, a mismatched pair handled first. -/
def readDirectory (key : Nat) (d : Device) : Device :=
  match takeDamage 6 key d with
  | (some x, d) => directoryMismatch key (x.level != 0) d
  | (none, d) => d

/-- The directory (R165): the image of every page that has one. -/
def directoryOf (m : MapState) : SMap Nat := (m.pages.filter fun e => e.2.image != 0).map fun e => (e.1, e.2.image)

/-- Frames of a directory snapshot: 408 pages of one slot to a frame (Table 5.11). -/
def snapshotFrames (d : Device) : Nat :=
  (d.sub.namespaces.map fun e => if e.2.active then (pagesOf e.2.nsze + 407) / 408 else 0).sum

/-- Write one snapshot in runs of 512 consecutive frames of one block, the last one shorter; its extents (R165). -/
def writeSnapshot (d : Device) : List (Nat × Nat × Nat) × Device :=
  let n := snapshotFrames d
  (List.range ((n + 511) / 512)).foldl (fun acc i =>
    let count := min 512 (n - 512 * i)
    let (x, d) := systemRun count none acc.2
    (acc.1 ++ [(blockOf x, frameOf x, count)], d)) ([], d)

/-- Steps 3 and 4 of Table 5.13: both snapshots of the directory as it stands, then the three checkpoint frames, which the roots name (R165 to R167). -/
def writeDirectory (s : Nat) (d : Device) : Device :=
  let (a, d) := writeSnapshot d
  let (b, d) := writeSnapshot d
  let m := d.media.map
  let kept := m.journal.filter fun f => decide (s < f.first + f.records.length)
  let head := match kept.head?, m.journal.getLast? with
    | some f, _ => (f.place1, f.place2)
    | none, some f => (f.next1, f.next2)
    | none, none => (m.record.head1, m.record.head2)
  let record : Checkpoint := { seq := s, head1 := head.1, head2 := head.2, hours := m.startHours, cycle := m.startCycle, extentsA := a, extentsB := b }
  let d := moveRoot (fun p r => { r with mapCheckpoint := p }) (moveRoot (fun p r => { r with directoryA := p })
    (moveRoot (fun p r => { r with directoryB := p }) (setRoot (fun r => { r with mapJournal := head.1 }) d)))
  updMap (fun m => { m with snapshot := directoryOf m, record := record }) d

/-- Step 6 of Table 5.13: journal frames that hold only records below S and superseded images are released; the journal counts from S (R167, R168), and
records that waited for this checkpoint are persistent (R162). -/
def releaseJournal (s : Nat) (d : Device) : Device :=
  let keep := d.media.map.journal.filter fun f => decide (s < f.first + f.records.length)
  let d := updMap (fun m =>
    { m with checkpoint := none, fullRecorded := false, recordsSince := false, journal := keep
             images := m.images.filter fun e => m.snapshot.any fun p => p.2 = e.1
             persistent := max m.persistent (nextSequence s (validFrames [] keep)) }) d
  setObj Obj.journalFrames keep.length (setObj Obj.checkpointSequence s (incObj Obj.checkpointCount d))

/-- The pages that step 2 of Table 5.13 writes: dirty with an update of sequence below S. -/
def duePages (s : Nat) (d : Device) : List Nat :=
  (d.media.map.pages.filter fun e => e.2.dirty && decide (e.2.firstSeq < s)).map (·.1)

/-- Step 2 of Table 5.13 can end: no page has pending replay records, and no page to be captured has a line whose CRC fails (R143, R167). -/
def captureReady (s : Nat) (d : Device) : Bool :=
  d.media.map.pages.all (fun e => e.2.replay.isEmpty)
    && d.media.map.badLines.all fun k => !(duePages s d).any (fun key => lineOfPage key k) || !lineBad (k / 2 ^ 40) (k % 2 ^ 40) d

/-- Steps 2 to 6 of Table 5.13 end: images, snapshots and checkpoint frames are on the medium, the superblock is written, and what they replace is
released. The records of the images, which the checkpoint waits on, are sealed with both copies good (R161). Updates that waited for the checkpoint are
applied, and a trigger that came meanwhile starts the next one (R168, R169). -/
def finishCheckpoint (failed : List Nat) (d : Device) : Device :=
  match d.media.map.checkpoint with
  | none => d
  | some s =>
    if !mapRuns d || !captureReady s d || programsHeld d then d
    else
      let limit := getObj Obj.journalLimitFrames d
      let d := writeDirectory s (sealAll ((duePages s d).foldl writePage d))
      let d := writeSuperblock failed (saveTables { d with settings := { d.settings with journalLimit := limit } })
      let d := serveUpdates (releaseJournal s d)
      if d.media.map.checkpointDue then startCheckpoint d else d

/-! ### Meanings -/

/-- UNMAP (R146). -/
def execUnmap (slot first count : Nat) (s : State) : Host.Outcome State Fault Refusal := runDev (mapUpdate (.unmap slot first count)) s

/-- MARK_LOST (R146). -/
def execMarkLost (slot grain pointer : Nat) (s : State) : Host.Outcome State Fault Refusal := runDev (mapUpdate (.markLost slot grain pointer)) s

/-- REGION_RESET (R146). -/
def execRegionReset (slot : Nat) (s : State) : Host.Outcome State Fault Refusal :=
  runDev (fun d => regionReset slot (if (namespace_ slot d).active then pagesOf (namespace_ slot d).nsze else 0) d) s

/-- MAP_PAGE_LOAD (R173): in its turn (R174). -/
def execMapPageLoad (slot page : Nat) (readable : Bool) (bad : List Nat) (s : State) : Host.Outcome State Fault Refusal :=
  runDev (fun d => onlyIf (loadTurn slot page d) (loadPage slot page readable bad) d) s

/-- BACKGROUND_LOAD (R175). -/
def execBackgroundLoad (readable : Bool) (bad : List Nat) (s : State) : Host.Outcome State Fault Refusal :=
  runDev (fun d => match nextBackground d with
    | some (slot, page) => backgroundPage slot page readable bad d
    | none => onlyIf d.ctl.dirResident (setObj Obj.mapResidentComplete 1) d) s

/-- MAP_LINE_RELOADED (R176). -/
def execMapLineReloaded (slot line : Nat) (good : Bool) (s : State) : Host.Outcome State Fault Refusal :=
  runDev (lineReloaded slot line good) s

/-- CHECKPOINT_START (R168). -/
def execCheckpointStart (s : State) : Host.Outcome State Fault Refusal :=
  runDev (fun d => onlyIf (mapRuns d && checkpointDue d) startCheckpoint d) s

/-- CHECKPOINT_INTERVAL (R168): the hours are counted from step 1 of the last checkpoint completed (notes/assumptions/141.md). -/
def execCheckpointInterval (s : State) : Host.Outcome State Fault Refusal :=
  runDev (fun d => onlyIf (mapRuns d && d.media.map.recordsSince
    && decide (d.media.map.record.hours + 16 * getObj Obj.checkpointIntervalHours d ≤ hours d)) startCheckpoint d) s

/-- A superblock write that is due (R91); the anchor sides that fail in it are lost (R95): bank × 2 + side. -/
def superblockWritten (failed : List Nat) (d : Device) : Device := if d.media.sbDue then writeSuperblock failed d else d

/-- SUPERBLOCK_WRITE (R91, R95). -/
def execSuperblockWrite (failed : List Nat) (s : State) : Host.Outcome State Fault Refusal := runDev (superblockWritten failed) s

end Sys2Proof.Machine
end

