-- ==== Sys2Proof/Machine/CellCodes.lean ====
section
/-! DEFINITION. How cells, pages and codewords carry bits: addresses and read offsets on a die, levels and thresholds, the code and its
scrambling, the decoders, soft reads, the counts of a tracking run and of a capacity read, and parity (spec/03 R59 and R85, spec/04 R98 to R105,
R109, R110, R115 and R117, spec/06 R190 and R191, spec/08 R242). What the cells read as comes with a command; everything that the controller makes
of it is computed here. A page of a plane is a number of 147,456 bits, cell 0 in its lowest one, and a codeword one of 73,728 (R100). -/
namespace Sys2Proof.Machine

/-! ### Layouts and check values -/

/-- `n` zero bytes. -/
def zeroBytes (n : Nat) : List Byte := List.replicate n 0

/-- The fields of a page in order of offset, and zeroes between them, from position `pos`. -/
def layoutFrom : Nat → List (Nat × List Byte) → List Byte
  | _, [] => []
  | pos, (o, bs) :: fs => zeroBytes (o - pos) ++ bs ++ layoutFrom (o + bs.length) fs

/-- A page of `n` bytes. -/
def layout (n : Nat) (fs : List (Nat × List Byte)) : List Byte :=
  let bs := layoutFrom 0 fs
  bs ++ zeroBytes (n - bs.length)

/-- The lowest `w` bits of `v` in reverse order. -/
def reflectBits : Nat → Nat → Nat
  | 0, _ => 0
  | w + 1, v => v % 2 * 2 ^ w + reflectBits w (v / 2)

/-- One bit of a reflected CRC. -/
def crcShift (poly c : Nat) : Nat := if c % 2 = 1 then (c / 2) ^^^ poly else c / 2

/-- A CRC of `w` bits with reflected input and output, initial value and final exclusive or of all ones. -/
def crcOf (w poly : Nat) (bs : List Byte) : Nat :=
  let p := reflectBits w poly
  (bs.foldl (fun c b => Nat.repeat (crcShift p) 8 (c ^^^ b.toNat)) (2 ^ w - 1)) ^^^ (2 ^ w - 1)

/-- CRC-32C: the Castagnoli polynomial as RFC 3720 uses it (Table 3.8; notes/assumptions/121.md). -/
def crc32c (bs : List Byte) : Nat := crcOf 32 0x1EDC6F41 bs

/-- The CRC-64 of a grain (R217). -/
def crc64 (bs : List Byte) : Nat := crcOf 64 0xAD93D23594C93659 bs

/-- A structure of `n` bytes whose last four are the CRC-32C of the bytes before them. -/
def sealed (n : Nat) (fs : List (Nat × List Byte)) : List Byte :=
  let bs := layout (n - 4) fs
  bs ++ leBytes 4 (crc32c bs)


/-! ### Addresses and read offsets -/

/-- The ONFI row address, with the bit positions of the die's profile entry (R59). -/
def rowAddress (e : ProfileEntry) (lun block page : Nat) : Nat :=
  page * 2 ^ e.pageLsb + block * 2 ^ e.blockLsb + lun * 2 ^ e.lunLsb

/-- The address cycles of a page access: those of the column, which starts at 0, and those of the row (R59). R59 gives no number of column cycles:
two hold 18,432 bytes (notes/assumptions/133.md). -/
def pageAddress (e : ProfileEntry) (lun block page : Nat) : List Byte :=
  leBytes 2 0 ++ leBytes e.rowCycles (rowAddress e lun block page)

/-- Set Features for thresholds 4g + 1 to 4g + 4: the address, and the four signed offsets, each within the entry's bounds (R85). The
last address has no fourth threshold: its byte is free. -/
def readOffsetFeature (e : ProfileEntry) (offsets : List Int) (g : Nat) : Nat × List Byte :=
  (e.readOffsetBase + g, (List.range 4).map fun i =>
    match offsets[4 * g + i]? with
    | some o => BitVec.ofInt 8 (max e.readOffsetMin (min e.readOffsetMax o))
    | none => Config.freeByte (4 * g + i))

/-! ### Levels (Tables 4.1 and 4.2) -/

/-- The value of each level (Table 4.1, R98): every cell is programmed at 32 levels (R14). -/
def levelValues : List Nat :=
  [0b11111, 0b11110, 0b11100, 0b11000, 0b10000, 0b00000, 0b00001, 0b00011, 0b00111, 0b01111, 0b01110, 0b01100, 0b01000, 0b01001, 0b01011, 0b11011]
    ++ [0b10011, 0b10010, 0b11010, 0b01010, 0b00010, 0b00110, 0b10110, 0b10111, 0b10101, 0b10001, 0b11001, 0b11101, 0b01101, 0b00101, 0b00100, 0b10100]

/-- The level a cell with these five page bits is programmed to (R98). -/
def levelOf (bits : Nat) : Nat := levelValues.idxOf bits

/-- The page of threshold `t`: that of the one bit in which levels t − 1 and t differ (R98). -/
def pageOfThreshold (t : Nat) : Nat := Nat.log2 ((levelValues[t - 1]?).getD 0 ^^^ (levelValues[t]?).getD 0)

/-- The thresholds of a page, rising (Table 4.2). -/
def pageThresholds (p : Nat) : List Nat := ((List.range 31).map (· + 1)).filter fun t => pageOfThreshold t == p

/-- What a read of page `p` gives for a cell, from the thresholds that it lies above: 1 below the first, toggling at each (R99). -/
def readBit (p : Nat) (above : Nat → Bool) : Bool := ((pageThresholds p).filter above).length % 2 == 0

/-! ### Codewords -/

/-- The number of codeword `h` of a page in its block (R100). -/
def codewordNumber (wordline page h : Nat) : Nat := wordline * 10 + page * 2 + h

/-- The page byte of byte `j`, and the cell of the wordline that carries bit `i` of it, in codeword `h` (R100). -/
def codewordByte (h j : Nat) : Nat := h * 9216 + j
def codewordCell (h j i : Nat) : Nat := h * 73728 + (8 * j + i)

/-- The seed of a codeword's scrambling (R101). -/
def scrambleSeed (block codeword : Nat) : Nat := (block * 5120 + codeword) % 0x7FFFFFFF + 1

/-- `n` output bits after the 31 of `window`, oldest first: each is the exclusive or of the bits 31 and 28 before it (R101). -/
def prbsFrom : Nat → List Bool → List Bool
  | 0, _ => []
  | n + 1, window =>
    let next := xor ((window[0]?).getD false) ((window[3]?).getD false)
    next :: prbsFrom n (window.drop 1 ++ [next])

/-- The first `n` bits that scramble a codeword. Which bits of the seed come out first is left open, so the first 31 are free. -/
def scrambleBits (block codeword n : Nat) : List Bool :=
  let start := (List.range 31).map fun i => bitOf (Config.prbsStart (scrambleSeed block codeword)).toNat i
  (start ++ prbsFrom (n - 31) start).take n

/-- Scrambling, which is its own inverse (R101). -/
def scramble (block codeword : Nat) (info : List Bool) : List Bool :=
  List.zipWith xor info (scrambleBits block codeword info.length)

/-! ### The code (R103) -/

/-- The circulant shifts of block row `r` at step `s`, by block column. -/
def circulants (s r : Nat) : List (Nat × Nat) :=
  let k := stepK s
  let m := 72 - k
  ((List.range k).filter fun c => (List.range 3).any fun q => (c + q * (m / 3)) % m == r).map (fun c => (c, (r * (2 * c + 1) * 89 + 17 * c) % 1024))
    ++ (if r = 0 then [] else [(k + r - 1, 0)]) ++ [(k + r, 0)]

/-- Column `c` of a word. -/
def column (w c : Nat) : Nat := w / 2 ^ (1024 * c) % 2 ^ 1024

/-- The bits that the 1,024 checks of a circulant of shift `v` take from a column: check `i` takes bit (i + v) mod 1,024. -/
def rotated (v x : Nat) : Nat := x / 2 ^ v + x % 2 ^ v * 2 ^ (1024 - v)

/-- The 1,024 checks of block row `r` on a word: a bit for each, set where it is not satisfied. -/
def syndromeRow (s r w : Nat) : Nat := (circulants s r).foldl (fun x cv => x ^^^ rotated cv.2 (column w cv.1)) 0

/-- A word is a codeword when every check is satisfied: its syndrome is zero (R103, R104). -/
def syndromeZero (s w : Nat) : Bool := (List.range (72 - stepK s)).all fun r => syndromeRow s r w == 0

/-- The codeword of some information bits: each parity column is the accumulated sum of the block rows up to its own (R100, R103). -/
def encodeWord (s info : Nat) : Nat :=
  ((List.range (72 - stepK s)).foldl (fun (acc : Nat × Nat) j =>
    let p := acc.2 ^^^ syndromeRow s j info
    (acc.1 + p * 2 ^ (1024 * (stepK s + j)), p)) (info, 0)).1

/-- Bits as a number, the first one lowest. -/
def ofBits : List Bool → Nat
  | [] => 0
  | b :: bs => b2n b + 2 * ofBits bs

/-- Information scrambled, or descrambled (R101). -/
def scrambleWord (s block codeword info : Nat) : Nat := info ^^^ ofBits (scrambleBits block codeword (1024 * stepK s))

/-- The codeword that the controller programs for some information (R101, R103). -/
def programWord (s block codeword info : Nat) : Nat := encodeWord s (scrambleWord s block codeword info)

/-- The filler pattern of a codeword: zero information at the block's step; at S0 the reference pattern too (R102). -/
def fillerWord (s block codeword : Nat) : Nat := programWord s block codeword 0

/-- The information bytes of a decoded codeword (R100, R101). -/
def infoOf (s block codeword w : Nat) : List Byte :=
  leBytes (infoBytes s) (scrambleWord s block codeword (w % 2 ^ (1024 * stepK s)))

/-! ### The decoders (R104, R105, Table 4.4) -/

/-- How many bits of a number of at most `fuel` bits are set. -/
def popCount : Nat → Nat → Nat
  | 0, _ => 0
  | fuel + 1, n => if n = 0 then 0 else n % 2 + popCount fuel (n / 2)

/-- The message of a min-sum decoder to one bit of a check, from what the other bits bring: positive for 1, which is the sum of the other bits;
the least magnitude, less 1 for the hard decoder, and 0.75 of it in 6 bits for the soft one, whose rounding is open (Table 4.4). -/
def checkMessage (soft : Bool) (others : List Int) : Int :=
  let m := (others.map Int.natAbs).foldl min ((others.head?.getD 0).natAbs)
  let size : Nat := if soft then min 31 (Config.softScale m) else m - 1
  if (others.filter fun x => decide (0 < x)).length % 2 = 1 then size else -size

/-- One check of a layer: its bits' values without its last messages, and with the new ones. -/
def runCheck (soft : Bool) (ns : List Nat) (key : Nat) (a : Array Int × Array (List Int)) : Array Int × Array (List Int) :=
  let old := a.2.getD key []
  let q := ns.mapIdx fun i n => a.1.getD n 0 - (old[i]?).getD 0
  let new := (List.range q.length).map fun i => checkMessage soft (q.eraseIdx i)
  ((ns.zip (List.zipWith (· + ·) q new)).foldl (fun l x => l.set! x.1 x.2) a.1, a.2.set! key new)

/-- One iteration: the block rows as layers in order, each with its 1,024 checks. -/
def runIteration (soft : Bool) (s : Nat) (a : Array Int × Array (List Int)) : Array Int × Array (List Int) :=
  (List.range (72 - stepK s)).foldl (fun a r => (List.range 1024).foldl (fun a i =>
    runCheck soft ((circulants s r).map fun cv => cv.1 * 1024 + (i + cv.2) % 1024) (1024 * r + i) a) a) a

/-- The bits that the values stand for. -/
def hardBits (l : Array Int) : Nat := ofBits (l.toList.map fun x => decide (0 < x))

/-- At most `limit` iterations: the word whose syndrome is zero, or the number of checks not satisfied at the end (Table 4.5). -/
def iterate (soft : Bool) (s : Nat) : Nat → Array Int × Array (List Int) → Except Nat Nat
  | 0, a => .error (((List.range (72 - stepK s)).map fun r => popCount 1024 (syndromeRow s r (hardBits a.1))).sum)
  | n + 1, a =>
    let b := runIteration soft s a
    if syndromeZero s (hardBits b.1) then .ok (hardBits b.1) else iterate soft s n b

/-- The outcomes of Table 4.5: the word, or the count of unsatisfied checks. -/
inductive Outcome | clean | corrected (word : Nat) | failed (checks : Nat)
  deriving DecidableEq, Repr

/-- Decode a word read, each bit at its magnitude (R104): a failed codeword stays as it was read. -/
def decodeWith (soft : Bool) (limit s read : Nat) (size : Nat → Nat) : Outcome :=
  if syndromeZero s read then .clean
  else
    let llr := ((List.range 73728).map fun n => if bitOf read n then (size n : Int) else -(size n : Int)).toArray
    match iterate soft s limit (llr, (List.replicate (1024 * (72 - stepK s)) []).toArray) with
    | .ok w => .corrected w
    | .error n => .failed n

/-- A hard-decision attempt: at most 20 iterations, each bit at one magnitude, which the spec does not give. -/
def decodeHard (s read : Nat) : Outcome := decodeWith false 20 s read fun _ => Config.hardMagnitude

/-- The word that an attempt on `read` ends with, where it decodes. -/
def Outcome.word (read : Nat) : Outcome → Option Nat
  | .clean => some read
  | .corrected w => some w
  | .failed _ => none

/-- Shifts of the extra reads of a soft attempt, in steps (Table 4.6). -/
def softShifts (level : Nat) : List Int := if level = 1 then [-3, 3] else [-6, -3, 3, 6]

/-- Magnitude of a bit by the distance of its cell from the nearest threshold of the page, in steps (Table 4.6). -/
def softMagnitude (level distance : Nat) : Nat :=
  if level = 1 then (if distance ≤ 3 then 2 else 6) else if distance ≤ 3 then 1 else if distance ≤ 6 then 4 else 7

/-- The distance of cell `n` from the nearest threshold as the extra reads show it, nearest first: in which bin its read changes (R115). -/
def softBin (level : Nat) (reads : List Nat) (n : Nat) : Nat :=
  let bit (k : Nat) : Bool := bitOf ((reads[k]?).getD 0) n
  if level = 1 then (if bit 1 != bit 2 then 0 else 6)
  else if bit 2 != bit 3 then 0 else if bit 1 != bit 4 then 6 else 7

/-- A soft-decision attempt of a level (R115): the read at the vector first, then the reads at the shifts of Table 4.6. At most 40 iterations. -/
def decodeSoft (level s : Nat) (reads : List Nat) : Outcome :=
  decodeWith true 40 s ((reads.head?).getD 0) fun n => softMagnitude level (softBin level reads n)

/-! ### Hard levels, tracking counts and the capacity read (R109, R110, R117) -/

/-- All the cells of a wordline in one plane. -/
def allCells : Nat := 2 ^ 147456 - 1

/-- The cells whose five page bits give level `x` (Table 4.1). -/
def levelCells (pages : List Nat) (x : Nat) : Nat :=
  (List.range 5).foldl (fun m p =>
    let page := (pages[p]?).getD 0
    m &&& (if bitOf ((levelValues[x]?).getD 0) p then page else allCells ^^^ (page &&& allCells))) allCells

/-- The cells of half `h` of a wordline. -/
def halfCells (h : Nat) : Nat := (2 ^ 73728 - 1) * 2 ^ (73728 * h)

/-- Codeword `h` of a page as read. -/
def codewordOf (page h : Nat) : Nat := page / 2 ^ (73728 * h) % 2 ^ 73728

/-- A page with codeword `h` in place of what was read. -/
def withCodeword (page h w : Nat) : Nat :=
  let old := codewordOf page h * 2 ^ (73728 * h)
  (page ^^^ old) ||| (w * 2 ^ (73728 * h))

/-- The cells whose bit differs between each two adjacent positions of a page, among those of the levels on both sides of a threshold. -/
def windowCells (base : List Nat) (positions : List Nat) (t : Nat) : List Nat :=
  let near := levelCells base (t - 1) ||| levelCells base t
  (positions.zip (positions.drop 1)).map fun x => near &&& (x.1 ^^^ x.2)

/-- The counts of valley tracking: for each threshold its seven windows, from the eight shifted reads of its page (R109, step 3). -/
def valleyCounts (r : WordlineReads) : List (List Nat) :=
  (List.range 31).map fun i =>
    (windowCells r.base ((r.shifted[pageOfThreshold (i + 1)]?).getD []) (i + 1)).map (popCount 147456)

/-- The groups u and d of a known codeword, for each threshold: `base` as read, codeword `h` of page `p` known to be `w` (R110). -/
def errorCounts (base : List Nat) (p h w : Nat) : List (Nat × Nat) :=
  let page := (base[p]?).getD 0
  let known := withCodeword page h w
  let wrong := (page ^^^ known) &&& halfCells h
  let levels := base.set p known
  (List.range 31).map fun i =>
    if pageOfThreshold (i + 1) = p then
      (popCount 147456 (levelCells levels (i + 1) &&& wrong), popCount 147456 (levelCells levels i &&& wrong))
    else (0, 0)

/-- The sum of two lists of groups. -/
def addCounts (a b : List (Nat × Nat)) : List (Nat × Nat) := List.zipWith (fun x y => (x.1 + y.1, x.2 + y.2)) a b

/-- The codewords of a wordline that decode in the reads: page, half and word. -/
def decodedOf (s : Nat) (base : List Nat) : List (Nat × Nat × Nat) :=
  (List.range 10).filterMap fun k =>
    let read := codewordOf ((base[k / 2]?).getD 0) (k % 2)
    ((decodeHard s read).word read).map fun w => (k / 2, k % 2, w)

/-- The groups of R110 over the known codewords of a run on block `b`: those that decoded, and at S0 the block's reference codewords, with the reads of
the five pages of each one's wordline (Table 4.6a). -/
def refineCounts (s b : Nat) (r : WordlineReads) : List (Nat × Nat) :=
  let none31 := List.replicate 31 (0, 0)
  let own := (decodedOf s r.base).foldl (fun acc k => addCounts acc (errorCounts r.base k.1 k.2.1 k.2.2)) none31
  if s = 0 then (referenceCodewords.zip r.refs).foldl (fun acc k =>
    addCounts acc (errorCounts k.2 (k.1 % 10 / 2) (k.1 % 2) (fillerWord 0 b k.1))) own
  else own

/-- The bins of a capacity read: 8 windows at each of the 31 thresholds, lowest first, then the 32 level cores; each cell in one of them. A cell in
windows of two thresholds stands in the lower one. -/
def binCells (base : List Nat) (shifted : List (List Nat)) : List Nat :=
  let positions (p : Nat) : List Nat :=
    let r := (shifted[p]?).getD []
    r.take 4 ++ [(base[p]?).getD 0] ++ r.drop 4
  let windows := (List.range 31).flatMap fun i => windowCells base (positions (pageOfThreshold (i + 1))) (i + 1)
  let (left, cut) := windows.foldl (fun (acc : Nat × List Nat) w => (acc.1 ^^^ (acc.1 &&& w), acc.2 ++ [acc.1 &&& w])) (allCells, [])
  cut ++ (List.range 32).map fun x => levelCells base x &&& left

/-- The cells of a wordline by true level × 512 + bin, over the halves that are usable: `words` holds the decoded words of the five pages (R117). -/
def jointCounts (base : List Nat) (shifted : List (List Nat)) (halves : List (Nat × List Nat)) : SMap Nat :=
  let bins := binCells base shifted
  halves.foldl (fun m k =>
    let truth := (List.range 5).map fun p => withCodeword 0 k.1 ((k.2[p]?).getD 0)
    (List.range 32).foldl (fun m x =>
      let mine := levelCells truth x &&& halfCells k.1
      (bins.mapIdx fun y c => (x * 512 + y, popCount 147456 (mine &&& c))).foldl (fun m e => smUpd 0 e.1 (· + e.2) m) m) m) []

/-- `bits` binary digits of the logarithm of a ratio between 1 and 2, in units of 2^-64: each squaring gives the next one. -/
def logDigits : Nat → Nat → Nat
  | 0, _ => 0
  | bits + 1, x =>
    let y := x * x / 2 ^ 64
    if 2 ^ 65 ≤ y then 2 ^ bits + logDigits bits (y / 2) else logDigits bits y

/-- The base-2 logarithm of a positive number, in units of 2^-40 (notes/assumptions/135.md). -/
def log2Fixed (n : Nat) : Nat := Nat.log2 n * 2 ^ 40 + logDigits 40 (n * 2 ^ 64 / 2 ^ Nat.log2 n)

/-- ln 2 in units of 10^-20. -/
def ln2 : Nat := 69314718055994530941

/-- The mutual information of the counts in thousandths of a bit per cell, less the bias, not below 0 and rounded down (R117). -/
def capacityOf (m : SMap Nat) : Nat :=
  let n := smSum m
  let row (x : Nat) : Nat := smSum (m.filter fun e => e.1 / 512 == x)
  let col (y : Nat) : Nat := smSum (m.filter fun e => e.1 % 512 == y)
  let bits (k : Nat) : Int := log2Fixed k
  let c : Int := (m.map fun e => (e.2 : Int) * (bits e.2 + bits n - bits (row (e.1 / 512)) - bits (col (e.1 % 512)))).sum
  let bias : Int := 279 * 31 * 10 ^ 20 * 2 ^ 40 / (2 * ln2)
  if n = 0 then 0 else (max 0 ((c - bias) * 1000 / (n * 2 ^ 40))).toNat

/-! ### Parity (R190, R191, R242) -/

/-- Multiplication by g = 0x02 in GF(2^8) with 0x11D. -/
def gfDouble (a : Nat) : Nat := if a < 128 then 2 * a else (2 * a) ^^^ 0x11D

/-- Multiplication in GF(2^8). -/
def gfMul (a b : Nat) : Nat :=
  (List.range 8).foldl (fun x i => if bitOf b i then x ^^^ Nat.repeat gfDouble i a else x) 0

/-- g to the power `n`. -/
def gfPow (n : Nat) : Nat := Nat.repeat gfDouble n 1

/-- The inverse of a nonzero element: its 254th power. -/
def gfInv (a : Nat) : Nat := (List.range 254).foldl (fun x _ => gfMul x a) 1

/-- The P byte and the Q byte over the data members' bytes, by data index (R191). -/
def parityP (ds : List Nat) : Nat := ds.foldl (· ^^^ ·) 0
def parityQ (ds : List Nat) : Nat := (ds.mapIdx fun i x => gfMul (gfPow i) x).foldl (· ^^^ ·) 0

/-- A word of 9,216 bytes with every byte multiplied by `c` in GF(2^8). -/
def gfWord (c w : Nat) : Nat := ofLe ((leBytes 9216 w).map fun x => BitVec.ofNat 8 (gfMul x.toNat c))

/-- The sum of data images, and of each times g to its data index (R191, R242). -/
def sumWords (ds : List (Nat × Nat)) : Nat := ds.foldl (fun x e => x ^^^ e.2) 0
def sumScaled (ds : List (Nat × Nat)) : Nat := ds.foldl (fun x e => x ^^^ gfWord (gfPow e.1) e.2) 0

/-- Byte of a stored image in the row's accumulation: P first, then Q, each ordered by plane, then page, then byte (R190, R191). -/
def parityOffset (q : Bool) (plane page byte : Nat) : Nat := (if q then 368640 else 0) + plane * 92160 + page * 18432 + byte

end Sys2Proof.Machine
end

