-- ==== Sys2Proof/Machine/CellCoding.lean ====
section
/-! DEFINITION. Read levels and their tracking, fresh reads, the wear slope and the efficiency reports (spec/04). -/
namespace Sys2Proof.Machine

/-! ### Tracking runs (R106 to R112) -/

/-- The smaller of two windows' counts; of equal counts the window nearer zero, and of two equally near the lower (R109). -/
def betterWindow (a b : Int × Nat) : Int × Nat :=
  if b.2 < a.2 then b
  else if b.2 = a.2 && (b.1.natAbs < a.1.natAbs || (b.1.natAbs = a.1.natAbs && b.1 < a.1)) then b
  else a

/-- The centre of the window that valley tracking picks for a threshold (R109). -/
def valleyCentre (windows : List Nat) : Int :=
  match ([-6, -4, -2, 0, 2, 4, 6] : List Int).zip windows with
  | [] => 0
  | w :: ws => (ws.foldl betterWindow w).1

/-- How error-count refinement moves a threshold (R110). -/
def refineStep (u d : Nat) : Int :=
  if d < u && 4 * (u + d) < (u - d) * (u - d) then -1
  else if u < d && 4 * (u + d) < (d - u) * (d - u) then 1
  else 0

/-- A class's 31 offsets, all zero where it has never been set (R106). -/
def classVector (v : List Int) : List Int := (List.range 31).map fun t => (v[t]?).getD 0

/-- The sum of R111. -/
def vectorDistance (a b : List Int) : Nat := ((a.zip b).map fun p => (p.1 - p.2).natAbs).sum

/-- The class whose vector is nearest, the lowest number among equals (R111; notes/assumptions/20.md). -/
def nearestClass (v : List Int) (x : DieState) : Nat :=
  (List.range 16).foldl (fun k j =>
    if vectorDistance v (classVector (smGet ([], 0) x.classes j).1) < vectorDistance v (classVector (smGet ([], 0) x.classes k).1)
    then j else k) 0

/-- The class with the lowest use count, lowest number first (R111). -/
def leastUsedClass (x : DieState) : Nat :=
  (List.range 16).foldl (fun k j => if (smGet ([], 0) x.classes j).2 < (smGet ([], 0) x.classes k).2 then j else k) 0

/-- The level table after a run that yields `v`, and the block's class (R111). -/
def classUpdate (v : List Int) (x : DieState) : DieState × Nat :=
  let k := nearestClass v x
  let w := classVector (smGet ([], 0) x.classes k).1
  if vectorDistance v w ≤ 31 then
    ({ x with classes := smUpd ([], 0) k (fun c => ((v.zip w).map fun p => p.2 + (p.1 - p.2).sign, c.2 + 1)) x.classes }, k)
  else
    let k := leastUsedClass x
    ({ x with classes := smSet ([], 0) k (v, 1) x.classes }, k)

/-- Offsets held to the limits of the profile; TRACKING_LIMIT once per die and hour (R112), naming the lowest threshold that a limit holds
(notes/assumptions/137.md). -/
def limitOffsets (n : Nat) (raw : List Int) (d : Device) : List Int × Device :=
  let p := profileOf n d
  let held := raw.map fun z => max p.readOffsetMin (min p.readOffsetMax z)
  match (List.range 31).find? fun t => raw[t]? != held[t]? with
  | none => (held, d)
  | some t =>
    if (match (die n d).trackingLimitHours with | none => true | some h => decide (h + 16 ≤ hours d)) then
      (held, logRec Code.trackingLimit [n, t + 1, i40 ((held[t]?).getD 0)]
        (updDie n (fun x => { x with trackingLimitHours := some (hours d) }) d))
    else (held, d)

/-- The vector of a block's class (R106). -/
def blockVector (b : Nat) (d : Device) : List Int := classVector (smGet ([], 0) (die (dieOfBlock b) d).classes (block b d).cls).1

/-- The read offsets that a read of a block needs are loaded in its LUN, every threshold moved by `shift` (R85, R107, R234). -/
def loadOffsets (b : Nat) (shift : Int) (d : Device) : Device :=
  updDie (dieOfBlock b) (fun x => { x with loaded := (blockVector b d).map (· + shift) }) d

/-- The vector that valley tracking of a wordline finds from a start (R109). -/
def valleyVector (start : List Int) (r : WordlineReads) : List Int :=
  List.zipWith (· + ·) start ((valleyCounts r).map valleyCentre)

/-- A tracking run on a wordline of a block (R109 to R112): the vector of its reads, and the level table and the block's class after it. A run is over
before the next one starts (R113; notes/assumptions/138.md). -/
def trackingRun (b : Nat) (r : WordlineReads) (d : Device) : Device :=
  let n := dieOfBlock b
  let raw := List.zipWith (fun v e => v + refineStep e.1 e.2) (valleyVector (blockVector b d) r) (refineCounts (block b d).step b r)
  let (held, d) := limitOffsets n raw (loadOffsets b 7 d)
  let u := classUpdate held (die n d)
  incObj Obj.trackingRuns (updBlock b (fun e => { e with cls := u.2 }) (updDie n (fun _ => u.1) d))

/-! ### Decoding attempts and the steps of the ladder that a block climbs alone (R104, R105, R236, Table 8.3) -/

/-- The outcome of an attempt is counted (R105). -/
def countAttempt (soft : Bool) (o : Outcome) (d : Device) : Device :=
  let failed : Nat := match o with | .failed _ => 1 | _ => 0
  if soft then addObj Obj.softFailures failed (incObj Obj.softDecodes d) else addObj Obj.hardFailures failed (incObj Obj.hardDecodes d)

/-- What a codeword comes to at steps L1 to L4: its word and step, 5 where it has not decoded; the wordlines, as block × 512 + wordline, on which a
tracking run has been made for the command; and the device. -/
structure Climb where
  word : Option Nat := none
  step : Nat := 5
  ran : List Nat := []
  dev : Device
  deriving DecidableEq, Repr

/-- A hard-decision attempt of block `b`'s code on a read. -/
def tryHard (b step read : Nat) (ran : List Nat) (d : Device) : Climb :=
  let o := decodeHard (block b d).step read
  let d := countAttempt false o d
  match o.word read with
  | some w => { word := some w, step := step, ran := ran, dev := d }
  | none => { ran := ran, dev := d }

/-- A soft-decision attempt of a level, at step 2 + level (R115). -/
def trySoft (b level : Nat) (reads : List Nat) (ran : List Nat) (d : Device) : Climb :=
  let o := decodeSoft level (block b d).step reads
  let d := countAttempt true o (loadOffsets b (if level = 1 then 3 else 6) d)
  match o.word ((reads.head?).getD 0) with
  | some w => { word := some w, step := 2 + level, ran := ran, dev := d }
  | none => { ran := ran, dev := d }

/-- Go on with the next step where the codeword has not decoded. -/
def Climb.orElse (c : Climb) (next : List Nat → Device → Climb) : Climb := if c.word.isSome then c else next c.ran c.dev

/-- The tracking run that a failed hard-decision attempt starts, unless one of the same wordline has just been made (R114, R237). -/
def trackOnce (b wordline : Nat) (r : WordlineReads) (ran : List Nat) (d : Device) : List Nat × Device :=
  if ran.contains (b * 512 + wordline) then (ran, d) else ((b * 512 + wordline) :: ran, trackingRun b r d)

/-- Codeword `cw` of block `b` climbs L1 to L4; a read with Limited Retry stops after L1 (Table 8.3, R237). -/
def climbOwn (b cw : Nat) (r : CodewordReads) (limited : Bool) (ran : List Nat) (d : Device) : Climb :=
  let c := tryHard b 1 r.first ran (loadOffsets b 0 d)
  if limited then c
  else c.orElse fun ran d =>
    let (ran, d) := trackOnce b (cw / 10) r.tracking ran d
    ((tryHard b 2 r.second ran (loadOffsets b 0 d)).orElse (trySoft b 1 r.soft1)).orElse (trySoft b 2 r.soft2)

/-- Codewords `first`, `first` + 1, … of a block climb L1 to L4 one after another. -/
def climbAll (b : Nat) : Nat → List CodewordReads → List Nat → Device → List Climb × Device
  | _, [], _, d => ([], d)
  | cw, r :: rs, ran, d =>
    let c := climbOwn b cw r false ran d
    let (cs, d) := climbAll b (cw + 1) rs c.ran c.dev
    (c :: cs, d)

/-! ### Block headers and footers (R131, R132, R134) -/

/-- A header frame is valid, but for its Step: Magic, FormatVersion, Crc, BlockNumber and DeviceInstance (R131). Reserved fields do not
count (R9). -/
def headerFields (b : Nat) (bs : List Byte) (d : Device) : Bool :=
  bs.take 4 == ascii "TZBH" && ofLe ((bs.drop 4).take 2) = 1 && ofLe ((bs.drop 4092).take 4) = crc32c (bs.take 4092)
    && ofLe ((bs.drop 24).take 4) = b && ofLe ((bs.drop 8).take 8) = d.media.sb.instance_

/-- Codeword 0 of a block as read, decoded at a step: the header frame it holds (R128, R129). -/
def headerAt (b s read : Nat) : Option (List Byte) := ((decodeHard s read).word read).map fun w => (infoOf s b 0 w).take 4096

/-- The search of R132: the first step, S0 to S7, at which codeword 0 decodes and yields a valid header that names that step. -/
def headerSearch (b read : Nat) (d : Device) : Option (Nat × List Byte) :=
  ((List.range 8).findSome? fun s => (headerAt b s read).bind fun bs =>
    if headerFields b bs d && ofLe ((bs.drop 6).take 1) = s then some (s, bs) else none)

/-- A block's table entry is rebuilt from its header, found at step `s` (R132). Without a readable header the block is retired: at once where it
belongs to no stripe, and otherwise with its stripe, whose live grains are rebuilt first. -/
def takeHeader (b : Nat) (found : Option (Nat × List Byte)) (d : Device) : Device :=
  match found with
  | some (s, bs) =>
    logRec Code.headerStepSearch [b, s] (updBlock b (fun e =>
      { e with step := s, cap := ofLe ((bs.drop 44).take 2), erases := ofLe ((bs.drop 48).take 4) + e.spared - (die (dieOfBlock b) d).sweeps
               stripe := ofLe ((bs.drop 60).take 8) % 2 ^ 40 }) d)
  | none =>
    let d := logRec Code.headerUnreadable [b] d
    if (smGet {} d.media.blocks b).stripe = 0 then
      nameGauge (dieOfBlock b) (incObj Obj.blocksRetired (updBlock b (fun e => { e with state := 5, retireCause := 5 }) d))
    else queueStripe 2 (block b d).stripe (updBlock b (fun e => { e with state := 4, retireCause := 5 }) d)

/-- A block table entry of which both copies mismatch is rebuilt from the block's header, whose step is searched for (Table 1.5, row 5; R132). -/
def rebuildEntry (b read : Nat) (d : Device) : Device :=
  let d := incObj Obj.headerStepSearches (logRec Code.complementDoubleFault [5, b] d)
  takeHeader b (headerSearch b read d) d

/-- A block table entry's pair mismatches (Table 1.5, row 5): the persisted table gives it, or the block's header where both copies fail. -/
def entryMismatch (b : Nat) (both : Bool) (read : Nat) (d : Device) : Device :=
  if both then rebuildEntry b read d
  else updBlock b (fun _ => smGet {} d.media.savedBlocks b) (logRec Code.complementMismatch [5, b] d)

/-- A footer as read is valid (R134). -/
def footerFields (b : Nat) (bs : List Byte) (d : Device) : Bool :=
  let n := bs.length
  bs.take 4 == ascii "TZBF" && ofLe ((bs.drop 4).take 2) = 1 && ofLe ((bs.drop (n - 4)).take 4) = crc32c (bs.take (n - 4))
    && ofLe ((bs.drop 6).take 2) = ofLe ((bs.drop (n - 8)).take 2) && ofLe ((bs.drop 8).take 8) = (block b d).header.openSeq
    && ofLe ((bs.drop 16).take 4) = b

/-- A closed block's footer reads as these bytes, none where its frames do not decode: one that fails makes the block closed without a footer (R134,
R135). -/
def footerRead (d : Device) (x : Nat × List Byte) : Device :=
  let e := block x.1 d
  if e.state != 2 || e.role != 0 || e.noFooter || footerFields x.1 x.2 d then d
  else logRec Code.footerUnreadable [x.1] (updBlock x.1 (fun e => { e with noFooter := true }) d)

/-! ### Fresh reads (R116 to R122, spec/10 R288) -/

/-- The sample wordlines (R116). -/
def sampleWordlines : List Nat := [64, 192, 320, 448]

/-- The fresh C falls below the threshold of the step the block was written at (R122). -/
def rateCheck (b c : Nat) (d : Device) : Device :=
  let e := block b d
  if e.rateQ || stepThreshold e.step ≤ c then d
  else logRec Code.rateEstimateHigh [b, e.cap, c] (incObj Obj.rateEstimatesHigh
    (queueStripe 3 e.stripe (updBlock b (fun e => { e with rateQ := true }) d)))

/-- Record a block's fresh C (R118), and the fall since its last record (R119): 0 with fewer than four usable halves, which is not held against the
step's threshold (notes/assumptions/137.md). -/
def recordFreshC (b c : Nat) (d : Device) : Device :=
  let e := block b d
  let n := dieOfBlock b
  let value := if e.halves < 4 then 0 else c
  let d := if e.freshC != 0 && value != 0 && 0 < e.freshLag && e.freshLag != 255 then
      updDie n (fun x => { x with falls := smSet none b (some (((e.freshC : Int) - value) * 100 / e.freshLag)) x.falls }) d
    else d
  updBlock b (fun e => { e with freshC := value, freshLag := 0 }) { d with media := { d.media with fresh := smErase b d.media.fresh } }

/-- The fresh C that a die's gauge blocks give (R119). -/
def updateGaugeC (n : Nat) (d : Device) : Device :=
  updDie n (fun x => { x with gaugeC := median ((goodGauge n d).map fun b => (block b d).freshC) }) d

/-- A codeword of a sample wordline decodes at none of L1 to L4 (R288). -/
def freshFailure (b w : Nat) (d : Device) : Device :=
  let n := dieOfBlock b
  let key := b * 512 + w
  let recent := (key, hours d) :: (die n d).freshFails.filter fun f => f.1 != key && hours d < f.2 + 384
  let d := updDie n (fun x => { x with freshFails := recent }) d
  if getObj Obj.dieFreshFailLimit d ≤ recent.length then failDie n 4 d else d

/-- A fresh read of a sample wordline is due: the next wordline has been finely programmed, or the block is a gauge block, and the wordline has not been
fresh-read since the block opened. -/
def freshReadable (b w : Nat) (d : Device) : Bool :=
  let e := block b d
  sampleWordlines.contains w && !e.sampled.contains w && !(die (dieOfBlock b) d).failed &&
    (e.state = 7 || (e.role = 0 && (e.state = 1 || e.state = 2) && decide (w + 1 ≤ e.lastFine)))

/-! ### The reads that wait at a die (R235, R249) -/

/-- A die cannot be read directly: failed, unpowered, out of service or read-inhibited (R237, R250, R251). -/
def dieUnreadable (n : Nat) (d : Device) : Bool :=
  !dieInService n d || bitOf (getObj (Obj.carrierThermalState (bankOfDie n)) d) 1

/-- The grain's block cannot be read directly. -/
def blockUnreadable (b : Nat) (d : Device) : Bool :=
  dieUnreadable (dieOfBlock b) d || (stripe (block b d).stripe d).lost.contains (bankOfDie (dieOfBlock b))

/-- The codewords of a block that frames `frame` to `frame` + `frames` − 1 occupy (R128, R233). -/
def grainCodewords (s frame frames : Nat) : List Nat :=
  let first := frame * 4096 / infoBytes s
  let last := ((frame + max frames 1) * 4096 - 1) / infoBytes s
  (List.range (last + 1 - first)).map fun i => blockCodeword s (first + i)

/-- A bank's carrier is present and not yet powered while M4 stages the carriers: reads of its grains wait (R249). -/
def carrierStaging (bank : Nat) (d : Device) : Bool :=
  d.ctl.mode = .m4 && !d.ctl.staged && (carrier bank d).present && (carrierState bank d = 0x00 || carrierState bank d = 0x01 || carrierState bank d = 0x02)

/-- A grain touches a sample wordline that still waits for its fresh read, which comes before every other read of it (R116). -/
def waitsFresh (ptr frames : Nat) (d : Device) : Bool :=
  (grainCodewords (block (blockOf ptr) d).step (frameOf ptr) frames).any fun cw => freshReadable (blockOf ptr) (cw / 10) d

/-- A host read that came to a die before the number given is still to be made there: class 1 of Table 8.2 comes before every other class, and
within it the order of arrival holds (R235). -/
def hostReadAhead (n before : Nat) (d : Device) : Bool :=
  d.media.wp.reads.any fun r => r.grains.any fun g =>
    g.stage == .codewords && dieOfBlock (blockOf g.pointer) = n && decide (g.arrival < before) && !blockUnreadable (blockOf g.pointer) d
      && !carrierStaging (bankOfDie n) d && !waitsFresh g.pointer (smGet {} d.media.stored g.pointer).frames d

/-- A read of a lower class can be made on a die now: no host read waits there, and no array operation runs that is not suspended (R66, R235). -/
def dieFree (n : Nat) (d : Device) : Bool := !(opRuns n d && !(die n d).op.suspended) && !hostReadAhead n d.media.wp.nextId d

/-- The five pages that the first reads of ten codewords make. -/
def pagesOfReads (rs : List CodewordReads) : List Nat :=
  (List.range 5).map fun p =>
    let read (h : Nat) : Nat := ((rs[2 * p + h]?).map (·.first)).getD 0
    read 0 + read 1 * 2 ^ 73728

/-- The halves of a wordline whose five codewords have all decoded, with their words (R117). -/
def usableHalves (cs : List Climb) : List (Nat × List Nat) :=
  [0, 1].filterMap fun h =>
    let ws := (List.range 5).filterMap fun p => (cs[2 * p + h]?).bind (·.word)
    if ws.length = 5 then some (h, ws) else none

/-- The counts of a capacity read join those of the block's wordlines before (R117). -/
def addFresh (b : Nat) (m : SMap Nat) (d : Device) : Device :=
  { d with media := { d.media with fresh := smUpd [] b (fun x => m.foldl (fun x e => smUpd 0 e.1 (· + e.2) x) x) d.media.fresh } }

/-- The reference offsets of a die are the vector that the fresh reads of its weir marks leave (R272). -/
def setReference (b : Nat) (d : Device) : Device :=
  let v := blockVector b d
  updDie (dieOfBlock b) (fun x => { x with refOffsets := v, found := v }) d

/-- A fresh read of wordline `w` (R116): the capacity read, the decoding of its ten codewords, the tracking run, the fresh class, and C over the
wordlines read so far, which is checked against the step and recorded after the last sample wordline (notes/assumptions/21.md). A codeword that
decodes at none of L1 to L4 counts against the die (R288). -/
def freshReadDone (b w : Nat) (r : SampleReads) (capacity : List (List Nat)) (d : Device) : Device :=
  let n := dieOfBlock b
  if !freshReadable b w d || !dieFree n d then d
  else whileCharged (bankOfDie n) (opTokens (profileOf n d) 1) (fun d =>
    let reads := (List.range 10).map fun k => (r.codewords[k]?).getD {}
    let (cs, d) := climbAll b (10 * w) reads [] d
    let d := trackingRun b r.tracking d
    let halves := usableHalves cs
    let d := addFresh b (jointCounts (pagesOfReads reads) capacity halves) d
    let d := updBlock b (fun e => { e with halves := min 8 (e.halves + halves.length), sampled := w :: e.sampled }) d
    let d := updDie n (fun x => { x with freshClass := (block b d).cls, op := { x.op with suspended := false } }) d
    let c := capacityOf (smGet [] d.media.fresh b)
    let gauge := (block b d).state = 7
    let d := if !gauge && !halves.isEmpty then rateCheck b c d else d
    let d := if w = 448 then recordFreshC b c d else d
    let d := if w = 448 && gauge then setReference b (updateGaugeC n d) else d
    if cs.all (·.word.isSome) then d else freshFailure b w d) d

/-- FRESH_READ (R116). -/
def execFreshRead (block wordline : Nat) (reads : SampleReads) (capacity : List (List Nat)) (s : State) : Host.Outcome State Fault Refusal :=
  runDev (freshReadDone block wordline reads capacity) s

/-! ### The wear slope (R119) -/

/-- The slope that a die's records give, in 0.00001 bits per cell per cycle. -/
def slopeOf (x : DieState) : Nat :=
  let falls := x.falls.filterMap (·.2)
  if falls.length < 64 then 100 else (max 0 (min 400 (medianInt falls))).toNat

/-- Recompute the slope of a die, at most once per operating hour. -/
def recomputeSlope (d : Device) (e : Nat × DieState) : Device :=
  if hours d < e.2.slopeHours + 16 then d
  else setObj (dieKey 0x8340 e.1) (slopeOf e.2) (updDie e.1 (fun x => { x with slopeHours := hours d }) d)

/-- WEAR_SLOPE_RECOMPUTE (R119). -/
def execWearSlopeRecompute (s : State) : Host.Outcome State Fault Refusal :=
  runDev (fun d => d.media.dies.foldl recomputeSlope d) s

/-! ### Efficiency reports (R124 to R126) -/

/-- η in ten-thousandths of a block at a step with recorded C in thousandths (R20, R21, R124). -/
def etaOf (step cap : Nat) : Nat := framesPerBlock step * 10000000 / (2304 * cap)

/-- A block that carries a payload stream, has been opened and is not retired (R124). -/
def countedBlock (e : Block) : Bool := e.role = 0 && 1 ≤ e.state && e.state ≤ 4

/-- The counted blocks. -/
def countedBlocks (d : Device) : List (Nat × Block) := d.media.blocks.filter fun e => countedBlock (block e.1 d)

/-- The dies that the entries lie on, each once. -/
def diesOf (es : List (Nat × Block)) : List Nat :=
  es.foldl (fun ns e => if ns.contains (dieOfBlock e.1) then ns else ns ++ [dieOfBlock e.1]) []

/-- ETA_REPORT_UPDATE (R126): the per-die medians and the device figures. -/
def updateEta (d : Device) : Device :=
  let es := countedBlocks d
  let n := es.length
  let d := { d with media := { d.media with rc := { d.media.rc with etaHours := hours d } } }
  let d := { d with objs := d.objs.filter fun o => !(0x8300 ≤ o.1 / 256 && o.1 / 256 ≤ 0x833F) }
  let d := (diesOf es).foldl (fun d x =>
    let mine := (es.filter fun e => dieOfBlock e.1 = x).map (·.2)
    setObj (dieKey 0x8300 x) (median (mine.map fun e => etaOf e.step e.cap))
      (setObj (dieKey 0x8320 x) (median (mine.map (·.cap))) d)) d
  let etas := es.map fun e => etaOf e.2.step e.2.cap
  let d := setObj Obj.deviceEtaMedian (median etas) (setObj Obj.deviceEtaMin (etas.foldl min (etas.head?.getD 0)) d)
  let d := setObj Obj.deviceCodeRateMean ((es.map fun e => stepK e.2.step).sum * 10000 / (72 * n)) d
  let d := setObj Obj.deviceCapacityMedian (median (es.map (·.2.cap))) d
  (List.range 8).foldl (fun d s => setObj (Obj.blocksAtStep (s + 1)) (es.filter (·.2.step = s)).length d) d

/-- ETA_REPORT_UPDATE (R126). -/
def execEtaReportUpdate (s : State) : Host.Outcome State Fault Refusal := runDev updateEta s

/-- EtaQueryStatus of a queried block (Table 4.7; the order of the tests is notes/assumptions/22.md). -/
def etaStatus (b : Nat) (d : Device) : Nat :=
  let e := block b d
  if b = 0xFFFFFFFF then 0x04
  else if !dieInService (dieOfBlock b) d then 0x05
  else if e.state = 5 then 0x02
  else if e.state = 6 || e.state = 7 then 0x03
  else if e.state = 0 || e.state = 3 then 0x01
  else if e.role != 0 then 0x03
  else 0x00

/-- What subindices 0x02 to 0x06 of EtaQuery read as for a path's queried block (R125). -/
def etaRead (b sub : Nat) (d : Device) : Nat :=
  let e := block b d
  let st := etaStatus b d
  match sub with
  | 0x02 => st
  | 0x03 => if st = 0 then e.step else 0xFF
  | 0x04 => if st = 0 then e.cap else 0
  | 0x05 => if st = 0 then etaOf e.step e.cap else 0
  | _ => if st = 0x04 then 0 else e.freshC

end Sys2Proof.Machine
end

