-- ==== Sys2Proof/Machine/Fetch.lean ====
section
/-! DEFINITION. What every NVMe command meets: the fetch, the checks of R363, statuses, failed commands and the Error Information log
(spec/12 R355 to R390, spec/02 R48 to R51). -/
namespace Sys2Proof.Machine

/-! ### The sack hoist's queues (R499) -/

/-- The commands that a sack hoist channel has queued and not moved: Writes that have not landed, and Reads. -/
def channelQueue (ch : Nat) (d : Device) : List Nat :=
  ((d.media.wp.writes.filter fun w => w.kind = 0 && !w.landed && w.channel = ch).map (·.id))
    ++ (d.media.wp.reads.filter fun r => !r.verify && r.channel = ch).map (·.id)

/-- How many commands a channel has queued. -/
def channelLoad (ch : Nat) (d : Device) : Nat := (channelQueue ch d).length

/-- The channel with the fewest commands queued, the lowest among equals. -/
def pickChannel (d : Device) : Nat :=
  (List.range 16).foldl (fun best c => if channelLoad c d < channelLoad best d then c else best) 0

/-- A channel moves one command's data in full before it starts the next: it is the turn of the command that was assigned first. -/
def channelTurn (ch id : Nat) (d : Device) : Bool := (channelQueue ch d).all (id ≤ ·)

/-- Every channel's queue is full: fetching waits. -/
def channelsFull (d : Device) : Bool := (List.range 16).all fun c => 64 ≤ channelLoad c d

/-! ### Fetching -/

/-- The controller of a port fetches: ready, no fatal status, link up, bus master, D0, fetching not stopped for the device, no request for a
context waiting and some sack hoist channel with room (R52, R339, R347, R360, R365, R499). -/
def portFetches (p : Nat) (d : Device) : Bool :=
  let t := port p d
  t.linkUp && t.rdy && !t.cfs && portSends p d && !d.ctl.fetchStopped && !poolWaits (p + 1) 2 d && !channelsFull d

/-- A submission queue holds an entry that has not been fetched. -/
def waitingEntry (t : PortState) (sq : Nat) : Bool :=
  let q := smGet {} t.sqs sq
  q.live && q.head != q.tail

/-- The queue that the rotation takes the next entry from: the one in turn while its burst lasts, then the next one that holds an entry (R360). -/
def nextQueue (t : PortState) : Option Nat :=
  if waitingEntry t t.turnQueue && t.turnLeft != 0 then some t.turnQueue
  else
    let held := (t.sqs.map (·.1)).filter (waitingEntry t)
    ((held.filter (t.turnQueue < ·)) ++ held).head?

/-- It is the turn of a submission queue, which holds an entry that has not been fetched. -/
def queueHolds (p sq : Nat) (d : Device) : Bool := waitingEntry (port p d) sq && nextQueue (port p d) == some sq

/-- The Arbitration Burst of a controller (feature 0x01, default 8); 111b sets no limit. -/
def arbitrationBurst (t : PortState) : Nat :=
  match ((smGet none t.features 0x01).getD 3) % 8 with | 7 => 4096 | b => 2 ^ b

/-- An entry is taken from a queue: the rotation counts it against the burst of the queue in turn. -/
def takeTurn (sq : Nat) (t : PortState) : PortState :=
  if t.turnQueue = sq && t.turnLeft != 0 then { t with turnLeft := t.turnLeft - 1 }
  else { t with turnQueue := sq, turnLeft := arbitrationBurst t - 1 }

/-- A command is fetched from its submission queue (R360). -/
def takeEntry (p sq : Nat) (d : Device) : Device :=
  incObj (Obj.commandsFetched p) (updPort p (fun t =>
    { takeTurn sq t with
      sqs := smUpd {} sq (fun q => { q with head := (q.head + 1) % q.size }) t.sqs
      before := smUpd 0 sq (· - 1) t.before
      lastAdminMs := if sq = 0 then nowMs d else t.lastAdminMs }) d)

/-! ### Statuses -/

/-- Do Not Retry where a rule gives a status without stating it (R371). -/
def dnrOf (sct sc : Nat) : Bool :=
  !(sct = 0 && (sc = 0x82 || sc = 0x1D || sc = 0x84 || sc = 0x20 || sc = 0x83 || sc = 0x07 || sc = 0x04))

/-- Statuses without an entry in the Error Information log (R382). -/
def noErrorEntry (sct sc : Nat) : Bool := sct = 0 && (sc = 0 || sc = 0x82 || sc = 0x83 || sc = 0x07)

/-- Place an entry in a controller's Error Information log: 64 entries, newest first (R382). -/
def logError (p : Nat) (e : ErrEntry) (d : Device) : Device :=
  updPort p (fun t => { t with errorCount := t.errorCount + 1, errors := ({ e with count := t.errorCount + 1 } :: t.errors).take 64 }) d

/-- Complete a command with a failure: type, code, Do Not Retry, Command Retry Delay, LBA and Parameter Error Location. -/
def failWith (c : HostCmd) (sct sc : Nat) (dnr : Bool) (crd lba pel dw0 : Nat) (d : Device) : Device :=
  let p := c.port.val
  let d := if noErrorEntry sct sc then d
    else logError p { sqid := c.sqid, cid := c.cid, sct := sct, sc := sc, dnr := dnr, lba := lba, nsid := c.nsid, pel := pel } d
  postCompletion p { sqid := c.sqid, cid := c.cid, sct := sct, sc := sc, dnr := dnr, crd := crd, dw0 := dw0 }
    (incObj (Obj.commandsFailed p) d)

/-- Complete a command with a failure whose Do Not Retry follows R371. -/
def failCmd (c : HostCmd) (sct sc : Nat) (d : Device) : Device := failWith c sct sc (dnrOf sct sc) 0 0 0xFFFF 0 d

/-- `failCmd`, naming the first field at fault by its byte in the submission entry (R382). -/
def failField (c : HostCmd) (sct sc byte : Nat) (d : Device) : Device := failWith c sct sc (dnrOf sct sc) 0 0 byte 0 d

/-- Complete a command successfully, with Dwords 0 and 1 and the data it returns. -/
def succeed (c : HostCmd) (dw0 dw1 : Nat) (data : List Byte) (d : Device) : Device :=
  postCompletion c.port.val { sqid := c.sqid, cid := c.cid, dw0 := dw0, dw1 := dw1, data := data } d

/-- Invalid Field in Command. -/
def invalidField (c : HostCmd) (d : Device) : Device := failCmd c 0x0 0x02 d

/-- A chain or host-memory failure of Table 12.8 is counted (R502); a host-memory fault also on its port (Table 11.12). -/
def countMemoryFault (p sct sc : Nat) (d : Device) : Device :=
  if sct != 0 then d
  else
    let d := incObj Obj.hoistDescriptorsFailed d
    if sc = 0x04 then incObj (Obj.portHostMemoryFaults p) d else d

/-! ### Namespaces and reservations -/

/-- The namespace slot a command names (R137: NSID − 1). -/
def slotOf (c : HostCmd) : Nat := c.nsid - 1

/-- A namespace is attached to the controller of a port. -/
def attachedTo (p slot : Nat) (d : Device) : Bool := (namespace_ slot d).active && bitOf (namespace_ slot d).attached p

/-- The NSID is that of an active namespace attached to the controller (R363 step 1). -/
def nsidValid (c : HostCmd) (d : Device) : Bool := decide (1 ≤ c.nsid && c.nsid ≤ 1024) && attachedTo c.port.val (slotOf c) d

/-- Metadata bytes per logical block of a format (Table 12.6). -/
def metaBytes (flbas : Nat) : Nat := match flbas % 16 with | 1 => 8 | 2 => 16 | _ => 0

/-! ### Data pointers (R380, R381, Table 12.8) -/

/-- The transfer length of a command: with metadata in an extended-LBA format (R363). -/
def transferBytes (slot nlb : Nat) (d : Device) : Nat :=
  let f := (namespace_ slot d).flbas
  nlb * (4096 + if f / 16 % 2 = 1 then metaBytes f else 0)

/-- A descriptor that names a further segment. -/
def namesSegment (x : SglDescriptor) : Bool := x.kind == .segment || x.kind == .lastSegment

/-- The status code of a segment as it is fetched, `visited` being the addresses that the chain has named (R381); the rows in the table's order
(notes/assumptions/148.md). -/
def segmentFault (visited : List Nat) (seg : List SglDescriptor) : Option Nat :=
  if seg.any fun x => !x.byAddress || x.kind == .bitBucket || x.kind == .keyed || x.kind == .transport then some 0x11
  else if (seg.any fun x => namesSegment x && (x.bytes == 0 || x.bytes % 16 != 0 || visited.contains x.address))
      || seg.dropLast.any (·.kind == .lastSegment) then some 0x0D
  else if 256 < seg.length then some 0x0E
  else none

/-- The status code of the first segment of a chain that fails. -/
def chainFault : List Nat → List (List SglDescriptor) → Option Nat
  | _, [] => none
  | visited, seg :: rest => match segmentFault visited seg with
    | some sc => some sc
    | none => chainFault (visited ++ (seg.filter namesSegment).map (·.address)) rest

/-- The bytes of a chain's data blocks. -/
def chainBytes (segments : List (List SglDescriptor)) : Nat := ((segments.flatten.filter (·.kind == .data)).map (·.bytes)).sum

/-- The status code that a command's data pointers fail with (Table 12.8): of generic type. -/
def pointerFault (p bytes : Nat) (x : DataPointers) (d : Device) : Option Nat :=
  let page := 4096 * 2 ^ ((port p d).cc.toNat / 128 % 16)
  if x.metadata % 4 != 0 || (!x.sgl && ((x.prps.take 1).any (· % 4 != 0) || (x.prps.drop 1).any (· % page != 0))) then some 0x13
  else match (if x.sgl then chainFault [] (x.segments.take 4096) else none) with
    | some sc => some sc
    | none =>
      if x.sgl && 4096 < x.segments.length then some 0x0D
      else if x.refused then some 0x04
      else if x.sgl && chainBytes x.segments != bytes then some 0x0F
      else none

/-- The byte that an error entry names for a failure of a data transfer: that of PRP1 or SGL1 where the data pointers fail (R382;
notes/assumptions/148.md). -/
def pointerField (sct sc : Nat) : Nat := if sct = 0x0 && [0x0D, 0x0E, 0x0F, 0x11, 0x13].contains sc then 24 else 0xFFFF

/-- What a command does to the medium, for the reservation check. -/
inductive IoClass | reads | writes
  deriving DecidableEq, Repr

/-- The controller's host is registered with a namespace. -/
def isRegistrant (p slot : Nat) (d : Device) : Bool := (namespace_ slot d).registrants.any (·.hostId == (port p d).hostId)

/-- The controller's host holds the reservation: any registrant under types 5 and 6 (notes/assumptions/23.md). -/
def isHolder (p slot : Nat) (d : Device) : Bool :=
  let n := namespace_ slot d
  if n.resType = 5 || n.resType = 6 then isRegistrant p slot d
  else n.resType != 0 && n.holder == some (port p d).hostId

/-- A reservation prevents a command (R377, R378; notes/assumptions/23.md). -/
def reservationConflict (p slot : Nat) (k : IoClass) (d : Device) : Bool :=
  let t := (namespace_ slot d).resType
  if t = 0 || isHolder p slot d then false
  else match k with
    | .writes => !(t != 1 && t != 2 && isRegistrant p slot d)
    | .reads => if t = 1 || t = 3 || t = 5 then false else !(t != 2 && isRegistrant p slot d)

/-! ### Modes and the checks before admission -/

/-- The hold of M8 (R50), the refusal of M9 (R51) or of a failed Sanitize (R550) for a command that those rules name, otherwise `k`. -/
def modeRows (i : Instr) (c : HostCmd) (k : Device → Device) (d : Device) : Device :=
  if d.ctl.mode = .m8 then { d with held := d.held ++ [i] }
  else if d.ctl.mode = .m9 then failCmd c 0x0 0x1D d
  else if d.sec.san.failed then failCmd c 0x0 0x1C d
  else k d

/-- The next entry of a queue was submitted after its port's shutdown notification (R48). -/
def afterNotice (p sq : Nat) (d : Device) : Bool := (port p d).notified && smGet 0 (port p d).before sq == 0

/-- A command is fetched: unless its controller fetches and its queue holds an entry nothing happens; one submitted after a shutdown
notification of the port fails with Command Sequence Error (R48). -/
def fetched (c : HostCmd) (k : Device → Device) (d : Device) : Device :=
  let p := c.port.val
  if !(portFetches p d && queueHolds p c.sqid d) then d
  else
    let late := afterNotice p c.sqid d
    let d := takeEntry p c.sqid d
    if late then failCmd c 0x0 0x0C d else k d

/-- The command finds a pool D context; otherwise fetching on its port pauses and retries (R360). A command that ends at once gives it back at once. -/
def withContext (c : HostCmd) (k : Device → Device) (d : Device) : Device :=
  let p := c.port.val
  if !(portFetches p d && queueHolds p c.sqid d) || !poolsActive d || grantOk 2 (p + 1) 1 d then k d
  else poolEmptyResult (p + 1) 2 256 true d

/-- The commands that are fetched before they ask for their context (Table 6.2), and hold it while they are carried out. -/
def asksLater : Instr → Bool
  | .write .. | .writeZeroes .. | .datasetManagement .. | .read .. | .verify .. => true
  | _ => false

/-- An I/O command: on a queue other than the admin queue, under the mode rows. -/
def ioCommand (i : Instr) (c : HostCmd) (k : Device → Device) (d : Device) : Device :=
  if c.sqid = 0 then d
  else if asksLater i then fetched c (modeRows i c k) d
  else withContext c (fetched c (modeRows i c k)) d

/-- Admin commands that R51 serves in M9. -/
inductive AdminClass | always | held | other
  deriving DecidableEq, Repr

/-- The commands of Table 20.11, which the recovery port serves (R595). -/
def recoveryServes : Instr → Bool
  | .identify .. | .getLogPage .. | .firmwareImageDownload .. | .firmwareCommitReplace .. | .firmwareCommitActivate ..
  | .firmwareCommitSelect .. | .firmwareCommitImmediate .. | .keepAlive .. | .dictionaryRead .. | .dictionaryWrite .. => true
  | _ => false

/-- An admin command. Those of R50 are held in M8; in M9 only those that R51 names are served. -/
def adminCommand (i : Instr) (c : HostCmd) (a : AdminClass) (k : Device → Device) (d : Device) : Device :=
  if c.sqid != 0 then d
  else withContext c (fetched c fun d =>
    if d.ctl.mode = .m2 && !recoveryServes i then failCmd c 0x0 0x01 d
    else if a = .held && d.ctl.mode = .m8 then { d with held := d.held ++ [i] }
    else if a != .always && d.ctl.mode = .m9 then failCmd c 0x0 0x1D d
    else k d) d

/-- The checks of R363 on a command that names logical blocks. -/
def blockChecks (c : HostCmd) (slba nlb : Nat) (limit mdts : Bool) (k : IoClass) (ok : Device → Device) (d : Device) : Device :=
  let n := namespace_ (slotOf c) d
  let bytes := nlb * (4096 + if n.flbas / 16 % 2 = 1 then metaBytes n.flbas else 0)
  if !nsidValid c d then failField c 0x0 0x0B 4 d
  else if c.reserved then invalidField c d
  else if (limit && 512 < nlb) || (mdts && 2097152 < bytes) then failField c 0x0 0x02 48 d
  else if n.nsze < slba + nlb then failCmd c 0x0 0x80 d
  else if n.formatting then failCmd c 0x0 0x84 d
  else if reservationConflict c.port.val (slotOf c) k d then failCmd c 0x0 0x83 d
  else ok d

/-- A command asks for its pool D context, and goes on with it; where the pool is empty it waits, and Abort can find it (Table 6.2, R364). -/
def holdContext (i : Instr) (c : HostCmd) (k : Nat → Device → Device) (d : Device) : Device :=
  match takeBuffer (c.port.val + 1) 2 false d with
  | (some x, d) => k x d
  | (none, d) => { d with delayed := d.delayed ++ [i] }

/-- The rows of Table 6.2 after R363 and before admission; a write that finds pool D empty waits (the instruction `i`). -/
def writeRows (i : Instr) (c : HostCmd) (deallocate : Bool) (ok : Nat → Device → Device) (d : Device) : Device :=
  if d.settings.lost then failCmd c 0x0 0x20 d
  else if !deallocate && d.sec.keyLost.contains (slotOf c) then failCmd c 0x2 0x86 d
  else if programInhibited d then failWith c 0x0 0x82 false 1 0 0xFFFF 0 (incObj Obj.writesRefusedInhibited d)
  else holdContext i c ok d

end Sys2Proof.Machine
end

