-- ==== Sys2Proof/Machine/Ciphers.lean ====
section
/-! DEFINITION. The cryptographic functions that spec/18 names by their standards: SHA-256 (FIPS 180-4) and HMAC, AES-256 (FIPS 197), its XTS mode with
ciphertext stealing (IEEE 1619) and Key Wrap (NIST SP 800-38F), each written from its definition (notes/assumptions/143.md). -/
namespace Sys2Proof.Machine

/-! ### SHA-256 and HMAC (R524, R540) -/

/-- `n` bytes of a value, most significant first, and the value of such bytes. -/
def beBytes (n v : Nat) : List Byte := (leBytes n v).reverse
def ofBe (bs : List Byte) : Nat := ofLe bs.reverse

/-- The bytes of two lists, combined by exclusive or. -/
def xorBytes (xs ys : List Byte) : List Byte := (xs.zip ys).map fun p => p.1 ^^^ p.2

/-- The integer part of a `k`-th root, found bit by bit below 2^fuel. -/
def rootOf (k n : Nat) : Nat → Nat → Nat
  | 0, r => r
  | fuel + 1, r => rootOf k n fuel (if (r + 2 ^ fuel) ^ k ≤ n then r + 2 ^ fuel else r)

/-- The primes below 312, of which there are 64. -/
def firstPrimes : List Nat := (List.range 312).filter fun n => 2 ≤ n && (List.range 18).all fun d => d < 2 || n % d != 0 || n = d

/-- The first 32 bits of the fractional part of a prime's root. -/
def rootBits (k p : Nat) : BitVec 32 := BitVec.ofNat 32 (rootOf k (p * 2 ^ (32 * k)) 40 0)

/-- SHA-256's round constants, from the cube roots of the 64 primes, and its initial value, from the square roots of the first eight. -/
def shaRounds : List (BitVec 32) := firstPrimes.map (rootBits 3)
def shaStart : List (BitVec 32) := (firstPrimes.take 8).map (rootBits 2)

/-- The message with its padding: one bit, zeros, and its length in bits. -/
def shaPad (m : List Byte) : List Byte :=
  m ++ [0x80#8] ++ List.replicate ((119 - m.length % 64) % 64) 0#8 ++ beBytes 8 (8 * m.length)

/-- The message schedule: 48 words after the 16 of the block. -/
def shaSchedule : Nat → List (BitVec 32) → List (BitVec 32)
  | 0, w => w
  | fuel + 1, w =>
    let at_ (k : Nat) : BitVec 32 := (w[w.length - k]?).getD 0
    let s0 := (at_ 15).rotateRight 7 ^^^ (at_ 15).rotateRight 18 ^^^ (at_ 15 >>> 3)
    let s1 := (at_ 2).rotateRight 17 ^^^ (at_ 2).rotateRight 19 ^^^ (at_ 2 >>> 10)
    shaSchedule fuel (w ++ [at_ 16 + s0 + at_ 7 + s1])

/-- One round on the working variables a to h. -/
def shaRound (v : List (BitVec 32)) (kw : BitVec 32 × BitVec 32) : List (BitVec 32) :=
  match v with
  | [a, b, c, d, e, f, g, h] =>
    let big1 := e.rotateRight 6 ^^^ e.rotateRight 11 ^^^ e.rotateRight 25
    let choice := (e &&& f) ^^^ (~~~ e &&& g)
    let t1 := h + big1 + choice + kw.1 + kw.2
    let big0 := a.rotateRight 2 ^^^ a.rotateRight 13 ^^^ a.rotateRight 22
    let major := (a &&& b) ^^^ (a &&& c) ^^^ (b &&& c)
    [t1 + big0 + major, a, b, c, d + t1, e, f, g]
  | v => v

/-- One block of 64 bytes. -/
def shaBlock (h : List (BitVec 32)) (block : List Byte) : List (BitVec 32) :=
  let w := shaSchedule 48 ((List.range 16).map fun i => BitVec.ofNat 32 (ofBe ((block.drop (4 * i)).take 4)))
  ((shaRounds.zip w).foldl shaRound h |>.zip h).map fun p => p.1 + p.2

/-- SHA-256: 32 bytes. -/
def sha256 (m : List Byte) : List Byte :=
  let p := shaPad m
  (((List.range (p.length / 64)).foldl (fun h i => shaBlock h ((p.drop (64 * i)).take 64)) shaStart).map fun x => beBytes 4 x.toNat).flatten

/-- HMAC-SHA-256 under a key of at most 64 bytes. -/
def hmac (key m : List Byte) : List Byte :=
  let k := key ++ List.replicate (64 - key.length) 0#8
  sha256 (k.map (· ^^^ 0x5C#8) ++ sha256 (k.map (· ^^^ 0x36#8) ++ m))

/-! ### AES-256 -/

/-- Twice a byte in GF(2^8) under x^8 + x^4 + x^3 + x + 1, and a product. -/
def aesDouble (b : Byte) : Byte := (b <<< 1) ^^^ if b.msb then 0x1B#8 else 0#8
def aesTimes (n : Nat) (b : Byte) : Byte :=
  ((List.range 8).foldl (fun (acc : Byte × Byte) k => (if bitOf n k then acc.1 ^^^ acc.2 else acc.1, aesDouble acc.2)) (0#8, b)).1

/-- A byte's inverse, its 254th power; zero for zero. -/
def aesInverse (b : Byte) : Byte := (List.range 253).foldl (fun x _ => aesTimes b.toNat x) b

/-- The S-box and its inverse: the affine map after, or undone before, the inverse. -/
def aesSub (b : Byte) : Byte :=
  let x := aesInverse b
  x ^^^ x.rotateLeft 1 ^^^ x.rotateLeft 2 ^^^ x.rotateLeft 3 ^^^ x.rotateLeft 4 ^^^ 0x63#8
def aesUnsub (b : Byte) : Byte := aesInverse (b.rotateLeft 1 ^^^ b.rotateLeft 3 ^^^ b.rotateLeft 6 ^^^ 0x05#8)

/-- The words of the key schedule, four bytes each: eight of the key, 52 more. -/
def aesWords : Nat → List (List Byte) → List (List Byte)
  | 0, w => w
  | fuel + 1, w =>
    let i := w.length
    let last := (w[i - 1]?).getD []
    let turned := if i % 8 = 0 then
        xorBytes ((last.drop 1 ++ last.take 1).map aesSub) [(List.range (i / 8 - 1)).foldl (fun r _ => aesDouble r) 1#8, 0#8, 0#8, 0#8]
      else if i % 8 = 4 then last.map aesSub else last
    aesWords fuel (w ++ [xorBytes ((w[i - 8]?).getD []) turned])

/-- The fifteen round keys of a 32-byte key. -/
def aesKeys (key : List Byte) : List (List Byte) :=
  let w := aesWords 52 ((List.range 8).map fun i => (key.drop (4 * i)).take 4)
  (List.range 15).map fun i => ((w.drop (4 * i)).take 4).flatten

/-- Row r of the state, whose byte of column c stands at 4c + r, turns left by r places, or right. -/
def shiftRows (s : List Byte) : List Byte := (List.range 16).map fun i => (s[(i + 4 * (i % 4)) % 16]?).getD 0
def unshiftRows (s : List Byte) : List Byte := (List.range 16).map fun i => (s[(i + 12 * (i % 4)) % 16]?).getD 0

/-- Each column is multiplied by the polynomial whose coefficients are given, that of its own byte first. -/
def mixBy (cs : List Nat) (s : List Byte) : List Byte :=
  (List.range 16).map fun i => (List.range 4).foldl (fun acc k =>
    acc ^^^ aesTimes ((cs[k]?).getD 0) ((s[i / 4 * 4 + (i + k) % 4]?).getD 0)) 0#8

/-- AES-256 of a 16-byte block, and its inverse. -/
def aesEncrypt (keys : List (List Byte)) (block : List Byte) : List Byte :=
  let round (s : List Byte) (i : Nat) : List Byte :=
    let s := shiftRows (s.map aesSub)
    xorBytes (if i = 14 then s else mixBy [2, 3, 1, 1] s) ((keys[i]?).getD [])
  ((List.range 14).map (· + 1)).foldl round (xorBytes block ((keys[0]?).getD []))
def aesDecrypt (keys : List (List Byte)) (block : List Byte) : List Byte :=
  let round (s : List Byte) (i : Nat) : List Byte :=
    let s := xorBytes ((unshiftRows s).map aesUnsub) ((keys[i]?).getD [])
    if i = 0 then s else mixBy [14, 11, 13, 9] s
  ((List.range 14).map (13 - ·)).foldl round (xorBytes block ((keys[14]?).getD []))

/-! ### XTS with ciphertext stealing (R527) -/

/-- The tweak of the next block: twice the value in GF(2^128), held least significant byte first. -/
def nextTweak (t : List Byte) : List Byte :=
  let v := 2 * ofLe t
  leBytes 16 (if 2 ^ 128 ≤ v then (v - 2 ^ 128) ^^^ 0x87 else v)

/-- One block under its tweak. -/
def xtsBlock (cipher : List Byte → List Byte) (t b : List Byte) : List Byte := xorBytes (cipher (xorBytes b t)) t

/-- The blocks of a data unit from one on, the last full one and the part after it by stealing; `back` for decryption, which swaps their tweaks. -/
def xtsBlocks (cipher : List Byte → List Byte) (back : Bool) : Nat → List Byte → List Byte → List Byte
  | 0, _, _ => []
  | fuel + 1, t, data =>
    if data.length < 16 then []
    else if data.length = 16 then xtsBlock cipher t data
    else if 32 ≤ data.length then xtsBlock cipher t (data.take 16) ++ xtsBlocks cipher back fuel (nextTweak t) (data.drop 16)
    else
      let next := nextTweak t
      let whole := xtsBlock cipher (if back then next else t) (data.take 16)
      let part := data.drop 16
      xtsBlock cipher (if back then t else next) (part ++ whole.drop part.length) ++ whole.take part.length

/-- AES-256-XTS of a data unit of at least 16 bytes, under Key1, Key2 and the 16-byte tweak value. -/
def xtsEncrypt (key1 key2 tweak data : List Byte) : List Byte :=
  xtsBlocks (aesEncrypt (aesKeys key1)) false (data.length + 1) (aesEncrypt (aesKeys key2) tweak) data
def xtsDecrypt (key1 key2 tweak data : List Byte) : List Byte :=
  xtsBlocks (aesDecrypt (aesKeys key1)) true (data.length + 1) (aesEncrypt (aesKeys key2) tweak) data

/-! ### Key Wrap (R525) -/

/-- One step of the wrap: the integrity register and the data words, of eight bytes each. -/
def wrapStep (keys : List (List Byte)) (n : Nat) (s : List Byte × List (List Byte)) (t : Nat) : List Byte × List (List Byte) :=
  let i := t % n
  let b := aesEncrypt keys (s.1 ++ (s.2[i]?).getD [])
  (xorBytes (b.take 8) (beBytes 8 (t + 1)), s.2.set i (b.drop 8))

/-- AES Key Wrap of a key of a multiple of eight bytes: eight bytes more. -/
def wrapKey (kek key : List Byte) : List Byte :=
  let n := key.length / 8
  let words := (List.range n).map fun i => (key.drop (8 * i)).take 8
  let (a, r) := (List.range (6 * n)).foldl (wrapStep (aesKeys kek) n) (List.replicate 8 0xA6#8, words)
  a ++ r.flatten

end Sys2Proof.Machine
end

