-- ==== Sys2Proof/Machine/Deflate.lean ====
section
/-! DEFINITION. DEFLATE as RFC 1951 defines it and spec/07 uses it: the inflater with the errors of Table 7.6 (R220, R221), and the compressor, a
function of its input and the effort alone (R208 to R212). Streams are lists of bits, the least significant bit of each byte first. -/
namespace Sys2Proof.Machine

/-! ### Bits, bytes and codes -/

/-- The bits of a list of bytes. -/
def bitsOf (bs : List Byte) : List Bool := (bs.map fun b => (List.range 8).map fun k => bitOf b.toNat k).flatten

/-- The value of bits, the first one least significant. -/
def bitsValue : List Bool → Nat
  | [] => 0
  | b :: bs => b2n b + 2 * bitsValue bs

/-- `n` bits of a value, least significant first: extra bits, counts and block headers. -/
def lowBits (n v : Nat) : List Bool := (List.range n).map (bitOf v)

/-- `n` bits of a Huffman code, most significant first. -/
def codeBits (n v : Nat) : List Bool := (lowBits n v).reverse

/-- Bytes of a bit stream; bits after its end, up to the byte boundary, are zero (R209). -/
def packBits : Nat → List Bool → List Byte
  | 0, _ => []
  | fuel + 1, bits => if bits.isEmpty then [] else BitVec.ofNat 8 (bitsValue (bits.take 8)) :: packBits fuel (bits.drop 8)

/-- How many symbols have a code of each length from 1 to 15. -/
def lengthCounts (lens : List Nat) : List Nat := (List.range 15).map fun l => (lens.filter (· == l + 1)).length

/-- The symbols in the order of their canonical codes: by length, then by number. -/
def codeOrder (lens : List Nat) : List Nat :=
  ((List.range 15).map fun l => (List.range lens.length).filter fun s => (lens[s]?).getD 0 = l + 1).flatten

/-- What a code leaves of the code space, in units of 2^-15; below zero where it is over-subscribed. -/
def codeSlack (lens : List Nat) : Int := 2 ^ 15 - (((lens.filter (· != 0)).map fun l => 2 ^ (15 - min l 15)).sum : Nat)

/-- The first code of each length from 1 to 15 (RFC 1951, 3.2.2). -/
def firstCodes (lens : List Nat) : List Nat :=
  ((lengthCounts lens).foldl (fun (acc : Nat × List Nat) n => ((acc.1 + n) * 2, acc.2 ++ [acc.1])) (0, [])).2

/-- The bits of each symbol's canonical code; none for a symbol without one. -/
def codeTable (lens : List Nat) : Array (List Bool) :=
  let firsts := firstCodes lens
  (lens.foldl (fun (acc : Array (List Bool) × List Nat) l =>
    if l = 0 then (acc.1.push [], acc.2)
    else
      let used := (acc.2[l - 1]?).getD 0
      (acc.1.push (codeBits l ((firsts[l - 1]?).getD 0 + used)), acc.2.set (l - 1) (used + 1))) (#[], List.replicate 15 0)).1

/-- The fixed literal/length code, and the fixed distance code. -/
def fixedLit : List Nat := (List.range 288).map fun s => if s < 144 then 8 else if s < 256 then 9 else if s < 280 then 7 else 8
def fixedDist : List Nat := List.replicate 32 5

/-- The base length and the extra bits of length symbol 257 + i; the base distance and the extra bits of distance symbol i (RFC 1951, 3.2.5). -/
def lengthBase (i : Nat) : Nat × Nat :=
  if i < 8 then (i + 3, 0) else if i = 28 then (258, 0) else ((4 + i % 4) * 2 ^ (i / 4 - 1) + 3, i / 4 - 1)
def distBase (i : Nat) : Nat × Nat := if i < 4 then (i + 1, 0) else ((2 + i % 2) * 2 ^ (i / 2 - 1) + 1, i / 2 - 1)

/-- The order in which a dynamic block's header gives the lengths of the code-length code. -/
def lengthOrder : List Nat := [16, 17, 18] ++ [0] ++ ((List.range 7).map fun i => [8 + i, 7 - i]).flatten ++ [15]

/-! ### The inflater (R220, Table 7.6 rows 6 to 9) -/

/-- The next `n` bits, and the rest; row 8 where the stream ends before them. -/
def takeBits (n : Nat) (bits : List Bool) : Except Nat (Nat × List Bool) :=
  if bits.length < n then .error 8 else .ok (bitsValue (bits.take n), bits.drop n)

/-- Follow a canonical code bit by bit: the number of the symbol in the order of the codes. `first` and `index` are the first code and the first number of
the length reached, `code` the bits taken so far. -/
def followCode : List Nat → Nat → Nat → Nat → List Bool → Except Nat (Nat × List Bool)
  | [], _, _, _, _ => .error 6
  | _ :: _, _, _, _, [] => .error 8
  | n :: ns, code, first, index, b :: bits =>
    let code := 2 * code + b2n b
    if code < first + n then .ok (index + (code - first), bits) else followCode ns code ((first + n) * 2) (index + n) bits

/-- The next symbol of a code. -/
def takeSymbol (lens : List Nat) (bits : List Bool) : Except Nat (Nat × List Bool) :=
  match followCode (lengthCounts lens) 0 0 0 bits with
  | .ok (i, rest) => .ok (((codeOrder lens)[i]?).getD 0, rest)
  | .error e => .error e

/-- Copy `n` bytes from `dist` back, which may overlap what they add. -/
def copyBack (dist : Nat) : Nat → Array Byte → Array Byte
  | 0, out => out
  | n + 1, out => copyBack dist n (out.push ((out[out.size - dist]?).getD 0))

/-- A length symbol's copy: its length, the distance that follows, and the bits after both. -/
def takeCopy (dist : List Nat) (i : Nat) (bits : List Bool) : Except Nat (Nat × Nat × List Bool) :=
  match takeBits (lengthBase i).2 bits with
  | .error e => .error e
  | .ok (x, bits) => match takeSymbol dist bits with
    | .error e => .error e
    | .ok (s, bits) =>
      if 30 ≤ s then .error 6
      else match takeBits (distBase s).2 bits with
        | .error e => .error e
        | .ok (y, bits) => .ok ((lengthBase i).1 + x, (distBase s).1 + y, bits)

/-- The symbols of a block, up to its end-of-block symbol, for an output of at most `limit` bytes. -/
def inflateSymbols (limit : Nat) (lit dist : List Nat) : Nat → Array Byte → List Bool → Except Nat (Array Byte × List Bool)
  | 0, _, _ => .error 8
  | fuel + 1, out, bits =>
    match takeSymbol lit bits with
    | .error e => .error e
    | .ok (s, bits) =>
      if s = 256 then .ok (out, bits)
      else if s < 256 then
        if limit ≤ out.size then .error 7 else inflateSymbols limit lit dist fuel (out.push (BitVec.ofNat 8 s)) bits
      else if 286 ≤ s then .error 6
      else match takeCopy dist (s - 257) bits with
        | .error e => .error e
        | .ok (n, back, bits) =>
          if out.size < back then .error 6
          else if limit < out.size + n then .error 7
          else inflateSymbols limit lit dist fuel (copyBack back n out) bits

/-- The code lengths of a dynamic block's header, `n` of them, with their repeats. -/
def takeLengths (cl : List Nat) (n : Nat) : Nat → List Nat → List Bool → Except Nat (List Nat × List Bool)
  | 0, _, _ => .error 8
  | fuel + 1, lens, bits =>
    if n ≤ lens.length then (if n < lens.length then .error 6 else .ok (lens, bits))
    else match takeSymbol cl bits with
      | .error e => .error e
      | .ok (s, bits) =>
        if s < 16 then takeLengths cl n fuel (lens ++ [s]) bits
        else
          let (extra, base) : Nat × Nat := if s = 16 then (2, 3) else if s = 17 then (3, 3) else (7, 11)
          match takeBits extra bits with
          | .error e => .error e
          | .ok (x, bits) =>
            match (if s = 16 then lens.getLast? else some 0) with
            | none => .error 6
            | some v => takeLengths cl n fuel (lens ++ List.replicate (base + x) v) bits

/-- A code may be used: it is complete, or, for distances, empty or the single code of length 1 that RFC 1951 permits. -/
def codeUsable (distances : Bool) (lens : List Nat) : Bool :=
  codeSlack lens = 0 || (distances && (lens.all (· == 0) || ((lens.filter (· != 0)) == [1])))

/-- The codes that a dynamic block's header describes. -/
def takeCodes (bits : List Bool) : Except Nat ((List Nat × List Nat) × List Bool) :=
  match takeBits 14 bits with
  | .error e => .error e
  | .ok (h, bits) =>
    let nlit := h % 32 + 257
    let ndist := h / 32 % 32 + 1
    let ncode := h / 1024 + 4
    if 286 < nlit || 30 < ndist then .error 6
    else if bits.length < 3 * ncode then .error 8
    else
      let given := (List.range ncode).map fun i => bitsValue ((bits.drop (3 * i)).take 3)
      let cl := (List.range 19).map fun s => match (lengthOrder.take ncode).findIdx? (· == s) with | some i => (given[i]?).getD 0 | none => 0
      if !codeUsable false cl then .error 6
      else match takeLengths cl (nlit + ndist) (nlit + ndist + 1) [] (bits.drop (3 * ncode)) with
        | .error e => .error e
        | .ok (lens, bits) =>
          let lit := lens.take nlit
          let dist := lens.drop nlit
          if !codeUsable false lit || !codeUsable true dist then .error 6 else .ok ((lit, dist), bits)

/-- A stored block, from the byte boundary after its header on; `done` counts the bits taken before `bits`. -/
def inflateStored (limit done : Nat) (out : Array Byte) (bits : List Bool) : Except Nat (Array Byte × List Bool) :=
  match takeBits 32 (bits.drop ((8 - done % 8) % 8)) with
  | .error e => .error e
  | .ok (h, bits) =>
    let n := h % 65536
    if n + h / 65536 != 65535 then .error 6
    else if bits.length < 8 * n then .error 8
    else if limit < out.size + n then .error 7
    else .ok ((List.range n).foldl (fun (o : Array Byte) i => o.push (BitVec.ofNat 8 (bitsValue ((bits.drop (8 * i)).take 8)))) out, bits.drop (8 * n))

/-- Block after block up to the first with BFINAL = 1. -/
def inflateBlocks (limit total : Nat) : Nat → Array Byte → List Bool → Except Nat (Array Byte × List Bool)
  | 0, _, _ => .error 8
  | fuel + 1, out, bits =>
    match takeBits 3 bits with
    | .error e => .error e
    | .ok (h, bits) =>
      let block := match h / 2 with
        | 0 => inflateStored limit (total - bits.length) out bits
        | 1 => inflateSymbols limit fixedLit fixedDist (bits.length + 1) out bits
        | 2 => match takeCodes bits with
          | .error e => .error e
          | .ok (codes, bits) => inflateSymbols limit codes.1 codes.2 (bits.length + 1) out bits
        | _ => .error 6
      match block with
      | .error e => .error e
      | .ok (out, bits) => if h % 2 = 1 then .ok (out, bits) else inflateBlocks limit total fuel out bits

/-- Inflate a stream to exactly `limit` bytes: the bytes, or the row of Table 7.6 that fails first. -/
def inflate (limit : Nat) (stream : List Byte) : Except Nat (List Byte) :=
  let bits := bitsOf stream
  match inflateBlocks limit bits.length (bits.length + 1) #[] bits with
  | .error e => .error e
  | .ok (out, rest) => if out.size < limit then .error 8 else if 8 ≤ rest.length then .error 9 else .ok out.toList

/-! ### The compressor (R208 to R212) -/

/-- A symbol of a compressed block: a literal, or a match by its length and distance. -/
inductive Token
  | lit (b : Byte)
  | copy (len dist : Nat)
  deriving DecidableEq, Repr

/-- The chain positions that an effort visits, and whether it evaluates lazily (Table 7.1). -/
def effortDepth (effort : Nat) : Nat := match effort with | 1 => 16 | 3 => 256 | 4 => 1024 | _ => 64
def effortLazy (effort : Nat) : Bool := effort != 1

/-- The byte of the input at a position. -/
def byteAt (data : Array Byte) (i : Nat) : Nat := ((data[i]?).getD 0).toNat

/-- The hash of three bytes (R210). -/
def hash3 (data : Array Byte) (i : Nat) : Nat := ((byteAt data i * 1024) ^^^ (byteAt data (i + 1) * 32) ^^^ byteAt data (i + 2)) % 32768

/-- The chains (R210): for each position one above the previous position with the same hash, 0 for none. A position without three bytes has no hash. -/
def chains (data : Array Byte) : Array Nat :=
  ((List.range (data.size - 2)).foldl (fun (acc : Array Nat × Array Nat) i =>
    let h := hash3 data i
    (acc.1.push ((acc.2[h]?).getD 0), acc.2.setIfInBounds h (i + 1))) (#[], Array.replicate 32768 0)).1

/-- How many bytes from `i` on repeat those from `j` on, at most `fuel`. -/
def matchLength (data : Array Byte) (j i : Nat) : Nat → Nat
  | 0 => 0
  | fuel + 1 => if byteAt data j = byteAt data i then matchLength data (j + 1) (i + 1) fuel + 1 else 0

/-- The longest match along a chain, and the nearest of equal ones; `next` is one above the chain's next position, 0 at its end (R210). -/
def searchChain (data : Array Byte) (chain : Array Nat) (i most : Nat) : Nat → Nat → Nat × Nat → Nat × Nat
  | 0, _, best => best
  | visits + 1, next, best =>
    if next = 0 || 32768 < i - (next - 1) then best
    else
      let n := matchLength data (next - 1) i most
      searchChain data chain i most visits ((chain[next - 1]?).getD 0) (if best.1 < n then (n, i - (next - 1)) else best)

/-- The match found at a position of a block that ends at `stop`: length and distance. -/
def findMatch (data : Array Byte) (chain : Array Nat) (depth stop i : Nat) : Option (Nat × Nat) :=
  let (n, dist) := searchChain data chain i (min 258 (stop - i)) depth ((chain[i]?).getD 0) (0, 0)
  if n < 3 || (n = 3 && 4096 < dist) then none else some (n, dist)

/-- The symbols of a block from position `i` to `stop` (R209, R210). -/
def tokenize (data : Array Byte) (chain : Array Nat) (depth : Nat) (lazily : Bool) (stop : Nat) : Nat → Nat → List Token
  | 0, _ => []
  | fuel + 1, i =>
    if stop ≤ i then []
    else match findMatch data chain depth stop i with
      | none => .lit (BitVec.ofNat 8 (byteAt data i)) :: tokenize data chain depth lazily stop fuel (i + 1)
      | some (n, dist) =>
        if lazily && (findMatch data chain depth stop (i + 1)).any (fun m => n < m.1) then
          .lit (BitVec.ofNat 8 (byteAt data i)) :: tokenize data chain depth lazily stop fuel (i + 1)
        else .copy n dist :: tokenize data chain depth lazily stop fuel (i + n)

/-- The length symbol of a match, less 257, and the distance symbol. -/
def lengthSymbol (n : Nat) : Nat := if n = 258 then 28 else (((List.range 28).filter fun i => (lengthBase i).1 ≤ n).getLast?).getD 0
def distSymbol (d : Nat) : Nat := (((List.range 30).filter fun i => (distBase i).1 ≤ d).getLast?).getD 0

/-- The literal/length symbol, and the distance symbol, of a token. -/
def litOf : Token → Nat
  | .lit b => b.toNat
  | .copy n _ => 257 + lengthSymbol n
def distOf : Token → Option Nat
  | .lit _ => none
  | .copy _ d => some (distSymbol d)

/-- How often each of `n` symbols occurs. -/
def frequencies (n : Nat) (xs : List Nat) : List Nat := (List.range n).map fun s => (xs.filter (· == s)).length

/-- The bits of a token under a pair of codes. -/
def tokenBits (lit dist : Array (List Bool)) (t : Token) : List Bool :=
  (lit[litOf t]?).getD [] ++ match t with
    | .lit _ => []
    | .copy n d =>
      let i := lengthSymbol n
      let j := distSymbol d
      lowBits (lengthBase i).2 (n - (lengthBase i).1) ++ (dist[j]?).getD [] ++ lowBits (distBase j).2 (d - (distBase j).1)

/-- The symbols of a block and its end-of-block symbol under a pair of codes. -/
def blockBits (lit dist : List Nat) (ts : List Token) : List Bool :=
  let l := codeTable lit
  let d := codeTable dist
  (ts.map (tokenBits l d)).flatten ++ (l[256]?).getD []

/-- The lengths without those that are zero at the end, at least `least` of them. -/
def trimLengths (least : Nat) (lens : List Nat) : List Nat :=
  lens.take (max least (lens.length - (lens.reverse.takeWhile (· == 0)).length))

/-- The code of a block's symbols (R211): lengths that the engine builds from the frequencies, limited to 15 bits (notes/assumptions/142.md). -/
def builtCode (limit : Nat) (freqs : List Nat) : List Nat :=
  (List.range freqs.length).map fun s => min limit (((Config.codeLengths limit freqs)[s]?).getD 0)

/-- The distance code of a block; one without distance symbols carries one code of length 1 (R211). -/
def builtDist (freqs : List Nat) : List Nat := if freqs.all (· == 0) then [1] else builtCode 15 freqs

/-- The bits of a code-length symbol: 16 to 18 carry the repeat that `lengthRuns` gave them. -/
def runBits (cl : Array (List Bool)) (r : Nat × Nat) : List Bool :=
  (cl[r.1]?).getD [] ++ lowBits (if r.1 = 16 then 2 else if r.1 = 17 then 3 else if r.1 = 18 then 7 else 0) r.2

/-- A dynamic block after its three header bits: the code-length header, then the symbols (R211). How the lengths are run-length coded is the engine's
(notes/assumptions/142.md). -/
def dynamicBits (ts : List Token) : List Bool :=
  let lit := trimLengths 257 (builtCode 15 (frequencies 286 (256 :: ts.map litOf)))
  let dist := trimLengths 1 (builtDist (frequencies 30 (ts.filterMap distOf)))
  let runs := Config.lengthRuns (lit ++ dist)
  let cl := builtCode 7 (frequencies 19 (runs.map (·.1)))
  let sent := trimLengths 4 (lengthOrder.map fun s => (cl[s]?).getD 0)
  lowBits 5 (lit.length - 257) ++ lowBits 5 (dist.length - 1) ++ lowBits 4 (sent.length - 4) ++ (sent.map (lowBits 3)).flatten
    ++ (runs.map (runBits (codeTable cl))).flatten ++ blockBits lit dist ts

/-- A block: the shorter coding, fixed where they are equal, and whether it is dynamic (R209, R211). -/
def deflateBlock (last : Bool) (ts : List Token) : Bool × List Bool :=
  let fixed := blockBits fixedLit fixedDist ts
  let dynamic := dynamicBits ts
  if dynamic.length < fixed.length then (true, [last, false, true] ++ dynamic) else (false, [last, true, false] ++ fixed)

/-- What the compressor makes of a grain's input: the stream, and its blocks of fixed and of dynamic coding. -/
structure Deflated where
  stream : List Byte := []
  fixed : Nat := 0
  dynamic : Nat := 0
  deriving DecidableEq, Repr

/-- The compressor (R208 to R212): four blocks, which end at input offsets 16,384, 32,768 and 49,152 and at the end of the input. -/
def deflate (effort : Nat) (input : List Byte) : Deflated :=
  let data := input.toArray
  let chain := chains data
  let blocks := (List.range 4).map fun k =>
    let stop := if k = 3 then data.size else min data.size (16384 * (k + 1))
    deflateBlock (k == 3) (tokenize data chain (effortDepth effort) (effortLazy effort) stop (data.size + 1) (16384 * k))
  let bits := (blocks.map (·.2)).flatten
  { stream := packBits (bits.length + 1) bits, fixed := (blocks.filter (!·.1)).length, dynamic := (blocks.filter (·.1)).length }

end Sys2Proof.Machine
end

