-- ==== Sys2Proof/Machine/GrainForm.lean ====
section
/-! DEFINITION. The stored form of a grain: its compression input, its header, the encrypted span, and what a decompression engine makes of the bytes
that a read brings (spec/07 R207, R213 to R221, spec/18 R524 to R527). -/
namespace Sys2Proof.Machine

/-! ### Keys (R524 to R527) -/

/-- The bytes of a namespace key's two XTS keys: bits [255:0] and bits [511:256]. -/
def xtsKey1 (k : BitVec 512) : List Byte := leBytes 32 (k.toNat % 2 ^ 256)
def xtsKey2 (k : BitVec 512) : List Byte := leBytes 32 (k.toNat / 2 ^ 256)

/-- The namespace key of a key slot. -/
def slotKey (k : Nat) (d : Device) : BitVec 512 := (smGet {} d.sec.keys k).key

/-- The tweak value of a grain, as the 16 bytes of the standard's tweak value (R527). -/
def grainTweak (slot grain : Nat) : List Byte := leBytes 16 (grain + slot * 2 ^ 40)

/-! ### The stored bytes (R207, R213 to R218) -/

/-- The compression input of a grain: its blocks, then the metadata of each (R207). -/
def compressionInput (g : StoredGrain) : List Byte :=
  (g.blocks.map fun b => leBytes 4096 b.toNat).flatten ++ (g.metas.map (leBytes (8 * g.metaCode))).flatten

/-- What a compression engine makes of a grain at an effort, and whether its inflater gives the input back (R213). -/
def compressGrain (effort : Nat) (g : StoredGrain) : Deflated := deflate effort (compressionInput g)
def compressionGood (effort : Nat) (g : StoredGrain) : Bool :=
  match inflate (compressionInput g).length (compressGrain effort g).stream with
  | .ok out => out == compressionInput g
  | .error _ => false

/-- The stored bytes of a grain after its header: the stream of its engine, or the compression input of a raw one (R214). -/
def storedBytes (g : StoredGrain) : List Byte := if g.compressed then (compressGrain g.effort g).stream else compressionInput g

/-- Bytes 0 to 31 of the header, the clear part (Table 7.3). -/
def grainClear (g : StoredGrain) : List Byte :=
  let dynamic := g.compressed && (compressGrain g.effort g).dynamic != 0
  sealed 32 [(0, ascii "TZGH"), (4, leBytes 2 1), (6, leBytes 1 (b2n g.compressed + 2 * b2n dynamic + 4 * g.metaCode)),
    (8, leBytes 2 g.slot), (10, leBytes 2 g.keySlot), (12, leBytes 4 g.length), (16, leBytes 5 g.grain)]

/-- Bytes 32 to 63, the sealed part, before its encryption (Table 7.3). -/
def grainSealed (g : StoredGrain) : List Byte :=
  layout 32 [(0, leBytes 8 (crc64 (compressionInput g))), (8, leBytes 5 g.grain), (13, leBytes 2 g.slot)]

/-- A grain's frames: the clear part, the encrypted span of sealed part and stored bytes, and zeroes to the end of the last frame (R218). -/
def grainImage (key : BitVec 512) (g : StoredGrain) : List Byte :=
  layout (4096 * g.frames) [(0, grainClear g),
    (32, xtsEncrypt (xtsKey1 key) (xtsKey2 key) (grainTweak g.slot g.grain) (grainSealed g ++ storedBytes g))]

/-! ### Reading it back (R219 to R221) -/

/-- The value of `n` bytes of a list at an offset. -/
def fieldOf (bs : List Byte) (o n : Nat) : Nat := ofLe ((bs.drop o).take n)

/-- Rows 1 to 3 of Table 7.6 on a header's clear part, for the grain of a slot that was looked up at a pointer, in a namespace with `meta_` metadata bytes per
block: the first that fails, 0 for none. -/
def clearError (slot grain pointer metaSize : Nat) (bs : List Byte) (d : Device) : Nat :=
  let code := fieldOf bs 6 1 / 4 % 4
  let length := fieldOf bs 12 4
  let packed := fieldOf bs 6 1 % 2 = 1
  let frames := if packed then (64 + length + 4095) / 4096 else 17
  if bs.take 4 != ascii "TZGH" || fieldOf bs 4 2 != 1 || fieldOf bs 28 4 != crc32c (bs.take 28) || code = 3 then 1
  else if fieldOf bs 8 2 != slot || fieldOf bs 16 5 != grain then 2
  else if code * 8 != metaSize || (if packed then length = 0 || decide (65472 < length) else length != 65536 + 16 * metaSize)
      || decide (framesPerBlock (block (pointer / 16384) d).step < pointer % 16384 + frames) then 3
  else 0

/-- The blocks of a compression input, and the metadata of each. -/
def splitInput (metaSize : Nat) (input : List Byte) : List LBlock × List Nat :=
  ((List.range 16).map fun j => BitVec.ofNat 32768 (fieldOf input (4096 * j) 4096),
   (List.range 16).map fun j => fieldOf input (65536 + metaSize * j) metaSize)

/-- A decompression engine's run on the bytes that a read brought (R221): the data, or the first row of Table 7.6 that fails. -/
def decodeGrain (slot grain pointer metaSize : Nat) (bs : List Byte) (d : Device) : Except Nat (List LBlock × List Nat) :=
  let e := clearError slot grain pointer metaSize bs d
  if e != 0 then .error e
  else
    let k := fieldOf bs 10 2
    let length := fieldOf bs 12 4
    if !d.sec.loaded.contains k then .error 4
    else
      let key := slotKey k d
      let span := xtsDecrypt (xtsKey1 key) (xtsKey2 key) (grainTweak slot grain) ((bs.drop 32).take (32 + length))
      let size := 65536 + 16 * metaSize
      if fieldOf span 8 5 != grain || fieldOf span 13 2 != slot then .error 5
      else match (if fieldOf bs 6 1 % 2 = 1 then inflate size (span.drop 32) else .ok (span.drop 32)) with
        | .error e => .error e
        | .ok out => if fieldOf span 0 8 != crc64 out then .error 10 else .ok (splitInput metaSize out)

end Sys2Proof.Machine
end

