-- ==== Sys2Proof/Machine/WritePath.lean ====
section
/-! DEFINITION. The write path: admission, landing, compression, placement, rows and forced closes, completion, the buffer ceiling
(spec/06, spec/07 R207 to R226). -/
namespace Sys2Proof.Machine

/-! ### Access -/

/-- Change the write path. -/
def updWp (f : WritePath → WritePath) (d : Device) : Device := { d with media := { d.media with wp := f d.media.wp } }

/-- A write command that is not yet over. -/
def writeCmd (id : Nat) (d : Device) : Option WriteCmd := d.media.wp.writes.find? (·.id == id)

/-- Change a write command. -/
def updWrite (id : Nat) (f : WriteCmd → WriteCmd) (d : Device) : Device :=
  updWp (fun w => { w with writes := w.writes.map fun x => if x.id = id then f x else x }) d

/-- The pool D context of a port's command returns (R180, R494). -/
def freeContext (port : Nat) (i : Option Nat) (d : Device) : Device := giveBuffers (port + 1) 2 i.toList d

/-- What a write command, a grain in flight and a Flush command hold of the pools returns (Table 6.1). -/
def freeWrite (w : WriteCmd) (d : Device) : Device := giveBuffers (0x10 + w.channel) 4 w.landing (freeContext w.port w.context d)
def freeFlight (g : FlightGrain) (d : Device) : Device := g.buffers.foldl (fun d b => giveBuffers b.1 4 [b.2] d) d
def freeFlights (gs : List FlightGrain) (d : Device) : Device := gs.foldl (fun d g => freeFlight g d) d
def freeFlush (f : FlushCmd) (d : Device) : Device := freeContext f.port f.context d

/-- Take a write command away. -/
def dropWrite (id : Nat) (d : Device) : Device :=
  let gone := d.media.wp.writes.filter (·.id == id)
  gone.foldl (fun d w => freeWrite w d) (updWp (fun w => { w with writes := w.writes.filter (·.id != id) }) d)

/-- A grain in flight, by its number. -/
def flightGrain (id : Nat) (d : Device) : Option FlightGrain := d.media.flight.find? (·.id == id)

/-- Change a grain in flight. -/
def updFlight (id : Nat) (f : FlightGrain → FlightGrain) (d : Device) : Device :=
  { d with media := { d.media with flight := d.media.flight.map fun g => if g.id = id then f g else g } }

/-- A number for a command or grain, never used again since reset. -/
def newId (d : Device) : Nat × Device := (d.media.wp.nextId, updWp (fun w => { w with nextId := w.nextId + 1 }) d)

/-- The command as its completion names it. -/
def WriteCmd.host (w : WriteCmd) : HostCmd :=
  { port := Fin.ofNat 4 w.port, sqid := w.sqid, cid := w.cid, nsid := w.slot + 1 }

/-! ### Grains of a command -/

/-- First grain a range touches, and how many. -/
def grainsTouched (slba nlb : Nat) : Nat × Nat := (slba / 16, (slba + nlb + 15) / 16 - slba / 16)

/-- A range covers every logical block that the namespace gives grain `g`. -/
def coversWhole (nsze slba nlb g : Nat) : Bool := decide (slba ≤ 16 * g && min (16 * (g + 1)) nsze ≤ slba + nlb)

/-- The grains that a range covers in part. -/
def partialGrains (nsze slba nlb : Nat) : List Nat :=
  let (first, n) := grainsTouched slba nlb
  if n = 0 then []
  else ([first] ++ if n = 1 then [] else [first + n - 1]).filter fun g => !coversWhole nsze slba nlb g

/-- The whole grains that a range covers: first and count. -/
def wholeGrains (nsze slba nlb : Nat) : Nat × Nat :=
  let first := (slba + 15) / 16
  let last := if nsze ≤ slba + nlb then grainsOf nsze else (slba + nlb) / 16
  (first, last - first)

/-- A pending unmap of a write names a grain. -/
def unmapCovers (w : WriteCmd) (slot g : Nat) : Bool :=
  w.slot == slot && w.unmaps.any fun u => u.2.2.isNone && decide (u.1 ≤ g && g < u.1 + u.2.1)

/-- The runs of grains a command touches. -/
def touchedRuns (w : WriteCmd) : List (Nat × Nat) :=
  if w.kind = 2 then w.unmaps.map fun u => (u.1, u.2.1) else [grainsTouched w.slba w.nlb]

/-- Two commands touch a common grain. -/
def overlaps (a b : WriteCmd) : Bool :=
  a.slot == b.slot && (touchedRuns a).any fun x => (touchedRuns b).any fun y => decide (x.1 < y.1 + y.2 && y.1 < x.1 + x.2)

/-! ### Admission (R179, R180, R197, R499) -/

/-- Volatile Write Cache of a port's controller (Table 12.5). -/
def vwcOn (p : Nat) (d : Device) : Bool :=
  match smGet none (port p d).features 0x06 with
  | some v => v % 2 = 1
  | none => getObj Obj.vwcDefault d = 1

/-- Modes in which a write may be carried under the buffered rule (R197). -/
def bufferedMode (d : Device) : Bool :=
  serviceMode d.ctl.mode || (d.ctl.mode = .m7 && d.media.evac.isSome && !shutdownNotice d)

/-- Free slots of the volatile write buffer: under the ceiling, less the slots in use and those of admitted writes that are landing. -/
def bufferFree (d : Device) : Nat :=
  getObj Obj.writeBufferCeiling d - bufferInUse d
    - ((d.media.wp.writes.filter fun w => w.buffered && !w.landed).map fun w => (grainsTouched w.slba w.nlb).2).sum

/-- More slots are in use than the ceiling allows (R202). -/
def overCeiling (d : Device) : Bool := decide (getObj Obj.writeBufferCeiling d < bufferInUse d)

/-- Admit a command with its context (R180, R203): its number, its rule and its channel are fixed. -/
def admitWrite (c : HostCmd) (kind slba nlb : Nat) (fua : Bool) (unmaps : List (Nat × Nat)) (context : Nat) (d : Device) : Nat × Device :=
  let (id, d) := newId d
  let touched := if kind = 2 then (unmaps.map (·.2)).sum else (grainsTouched slba nlb).2
  let buffered := vwcOn c.port.val d && !fua && bufferedMode d && !d.ctl.bufferHold && !overCeiling d
    && decide (touched ≤ bufferFree d)
  (id, updWp (fun w => { w with writes := w.writes ++ [{ id := id, port := c.port.val, sqid := c.sqid, cid := c.cid, slot := slotOf c,
                                                          slba := slba, nlb := nlb, kind := kind, fua := fua, buffered := buffered,
                                                          channel := pickChannel d, context := some context, unmaps := unmaps.map fun u => (u.1, u.2, none) }] }) d)

/-! ### Map updates (R146 to R149, R181, R182) -/

/-- Earlier grains in flight of the same grain take the sequence of the update that has overtaken them (notes/assumptions/28.md). -/
def overtake (slot g id seq : Nat) (d : Device) : Device :=
  { d with media := { d.media with flight := d.media.flight.map fun x =>
      if x.stored.slot = slot && x.stored.grain = g && x.cmd != 0 && x.id < id && x.seq.isNone then { x with seq := some seq } else x } }

/-- An unmap of an earlier command on the grain waits to be applied. -/
def unmapWaits (g : FlightGrain) (d : Device) : Bool :=
  d.media.wp.writes.any fun w => w.id < g.cmd && w.landed && unmapCovers w g.stored.slot g.stored.grain

/-- Apply the update of a host grain: Unmap for an all-zero grain, otherwise Place (R149, R181). -/
def applyGrain (g : FlightGrain) (d : Device) : Device :=
  if g.seq.isSome || unmapWaits g d then d
  else if !updateReady g.stored.slot g.stored.grain d then holdUpdate g.stored.slot g.stored.grain d
  else
    let seq := getObj Obj.journalSequence d
    if g.zero then
      overtake g.stored.slot g.stored.grain g.id seq (updFlight g.id (fun x => { x with seq := some seq })
        (unmapRange g.stored.slot g.stored.grain 1 d))
    else match g.placed with
      | none => d
      | some p =>
        let d := updBlock p.block (fun e => { e with valid := e.valid + p.frames }) d
        overtake g.stored.slot g.stored.grain g.id seq (updFlight g.id (fun x => { x with seq := some seq })
          (setEntry .place g.stored.slot g.stored.grain (pointerOf p.block p.frame) d))

/-- Apply the pending unmaps of a landed command (R182). -/
def applyUnmaps (id : Nat) (d : Device) : Device :=
  match writeCmd id d with
  | none => d
  | some w =>
    (List.range w.unmaps.length).foldl (fun d i =>
      match w.unmaps[i]? with
      | none => d
      | some (first, n, done) =>
        if done.isSome then d
        else
          let seq := getObj Obj.journalSequence d
          let d := unmapRange w.slot first n d
          if getObj Obj.journalSequence d = seq then d
          else
            let d := updWrite id (fun w => { w with unmaps := w.unmaps.set i (first, n, some seq) }) d
            { d with media := { d.media with flight := d.media.flight.map fun x =>
                if x.stored.slot = w.slot && first ≤ x.stored.grain && x.stored.grain < first + n && x.cmd != 0 && x.cmd < id && x.seq.isNone
                then { x with seq := some seq } else x } }) d

/-! ### The engines' queues (R215, R225, R226) -/

/-- What an engine holds: compression engines 0 to 7, decompression engines 8 to 23. -/
def engineJobs (k : Nat) (d : Device) : List EngineJob := smGet [] d.media.wp.engines k

/-- Change what an engine holds. -/
def updEngine (k : Nat) (f : List EngineJob → List EngineJob) (d : Device) : Device :=
  updWp (fun w => { w with engines := smUpd [] k f w.engines }) d

/-- The compression engines, and the decompression engines. -/
def compressors : List Nat := List.range 8
def decompressors : List Nat := (List.range 16).map (· + 8)

/-- The in-service engine with the fewest grains, the lowest number among equals, that can still queue one (R225). -/
def pickEngine (ks : List Nat) (d : Device) : Option Nat :=
  (ks.filter fun k => !d.media.wp.offline.contains k && (engineJobs k d).length < 5).foldl (fun best k => match best with
    | none => some k
    | some b => if (engineJobs k d).length < (engineJobs b d).length then some k else some b) none

/-- Dispatch a job to an engine of its kind, where one has room. -/
def dispatchJob (ks : List Nat) (d : Device) (j : EngineJob) : Device :=
  match pickEngine ks d with
  | some k => updEngine k (· ++ [j]) d
  | none => d

/-- Some engine of a kind holds a job for a grain. -/
def inEngine (ks : List Nat) (id grain : Nat) (d : Device) : Bool := ks.any fun k => (engineJobs k d).any fun j => j.id = id && j.grain = grain

/-- A grain in flight still needs a compression engine. -/
def needsEngine (g : FlightGrain) : Bool := g.cmd != 0 && !g.zero && g.stored.frames = 0

/-- A grain of a read needs a decompression engine. -/
def readNeedsEngine (id grain : Nat) (d : Device) : Bool :=
  d.media.wp.reads.any fun r => r.id = id && r.grains.any fun g => g.grain = grain && g.stage == .inflate

/-- Jobs whose grain is gone leave the engines; grains that wait are dispatched in order (R225), under the effort and mode in force (R226). -/
def dispatch (d : Device) : Device :=
  let wanted (k : Nat) (j : EngineJob) : Bool :=
    if k < 8 then d.media.flight.any fun g => g.id = j.id && needsEngine g else readNeedsEngine j.id j.grain d
  let d := updWp (fun w => { w with
    engines := (w.engines.map fun e => (e.1, e.2.filter (wanted e.1))).filter fun e => !e.2.isEmpty }) d
  let raw := getObj Obj.compressionMode d = 1
  let d := (d.media.flight.filter fun g => needsEngine g && !inEngine compressors g.id 0 d).foldl (fun d g =>
    dispatchJob compressors d { id := g.id, effort := getObj Obj.compressionEffort d, raw := raw }) d
  let reads := (d.media.wp.reads.map fun r => (r.grains.filter fun g => g.stage == .inflate).map fun g => (r.id, g.grain)).flatten
  (reads.filter fun x => !inEngine decompressors x.1 x.2 d).foldl (fun d x => dispatchJob decompressors d { id := x.1, grain := x.2 }) d

/-- An engine goes out of service: what it holds is dispatched to the others (R215, R222). -/
def retireEngine (k : Nat) (d : Device) : Device :=
  dispatch (updEngine k (fun _ => []) (updWp (fun w => { w with offline := w.offline ++ [k] }) d))

/-- The job in work at an engine ends, where it is the one named. With no compression engine in service every grain is stored raw (R215). -/
def endJobAt (k id grain : Nat) (d : Device) : Option (EngineJob × Device) :=
  if k < 8 && compressors.all (d.media.wp.offline.contains ·) then some ({ id := id, raw := true }, d)
  else match engineJobs k d with
    | j :: _ => if j.id = id && j.grain = grain then some (j, updEngine k (·.drop 1) d) else none
    | [] => none

/-! ### Landing (steps 2 and 3 of Table 6.1) -/

/-- Sixteen blocks of zeroes, and no metadata. -/
def zeroBlocks : List LBlock := List.replicate 16 0
def zeroMetas : List Nat := List.replicate 16 0

/-- The newest grain in flight of a logical grain. -/
def newestInFlight (slot g : Nat) (d : Device) : Option FlightGrain :=
  (d.media.flight.filter fun x => x.stored.slot = slot && x.stored.grain = g && x.cmd != 0).getLast?

/-- A pending unmap is newer than the newest grain in flight of the logical grain. -/
def unmapNewest (slot g : Nat) (d : Device) : Bool :=
  let newest := match newestInFlight slot g d with | some x => x.cmd | none => 0
  d.media.wp.writes.any fun w => w.landed && newest < w.id && unmapCovers w slot g

/-- An entry names frames that no grain can stand at (R129, R140): it is malformed, or starts beyond its block's payload stream. -/
def frameRangeBad (e : Nat) (d : Device) : Bool :=
  classify e d = .malformed || (classify e d = .pointer && decide (framesPerBlock (block (blockOf e) d).step ≤ frameOf e))

/-- A frame-range fault is counted and recorded (R129, R140). -/
def frameRangeFault (slot g e : Nat) (d : Device) : Device :=
  logRec Code.frameRangeFault [slot, g, e] (incObj Obj.frameRangeFaults d)

/-- The merge read of a grain has met a frame-range fault: no grain or Unmap in flight stands for the entry. -/
def noteFrameRange (slot g : Nat) (d : Device) : Device :=
  let e := mapEntry slot g d
  if !unmapNewest slot g d && (newestInFlight slot g d).isNone && frameRangeBad e d then frameRangeFault slot g e d else d

/-- What a partly covered grain holds before a merge (R181): its blocks and metadata, or the status that ends the write (Table 6.2). -/
def currentGrain (slot g : Nat) (unreadable : List Nat) (d : Device) : Except (Nat × Nat × Bool) (List LBlock × List Nat) :=
  if unmapNewest slot g d then .ok (zeroBlocks, zeroMetas)
  else match newestInFlight slot g d with
    | some x => .ok (x.stored.blocks, x.stored.metas)
    | none =>
      let e := mapEntry slot g d
      match classify e d with
      | .unmapped => .ok (zeroBlocks, zeroMetas)
      | .lost => .error (0x2, 0x81, true)
      | .malformed => .error (0x2, 0x81, false)
      | .pointer =>
        if unreadable.contains g || frameRangeBad e d then .error (0x2, 0x81, false)
        else
          let s := smGet {} d.media.stored e
          .ok (s.blocks, s.metas)

/-- The whole grain that a command leaves (R204): the host's blocks (zeroes for Write Zeroes) over the blocks it does not cover. -/
def mergeGrain (w : WriteCmd) (r : Landing) (g : Nat) (cur : List LBlock × List Nat) : List LBlock × List Nat :=
  let inside (j : Nat) : Bool := decide (w.slba ≤ 16 * g + j && 16 * g + j < w.slba + w.nlb)
  ((List.range 16).map fun j =>
      if inside j then (if w.kind = 0 then (r.data[16 * g + j - w.slba]?).getD 0 else 0) else (cur.1[j]?).getD 0,
   (List.range 16).map fun j =>
      if inside j then (if w.kind = 0 then (r.metas[16 * g + j - w.slba]?).getD 0 else 0) else (cur.2[j]?).getD 0)

/-- End a write before step 3 with a failure: nothing of it is stored (R180). -/
def failWrite (w : WriteCmd) (sct sc : Nat) (dnr : Bool) (lba : Nat) (d : Device) : Device :=
  failWith w.host sct sc dnr 0 lba (pointerField sct sc) 0 (dropWrite w.id d)

/-- The next of a command's landing buffers, as a grain in flight holds it. -/
def landingBuffer (w : WriteCmd) (i : Nat) : List (Nat × Nat) := (w.landing[i]?).toList.map fun b => (0x10 + w.channel, b)

/-- A grain that has passed step 3 is held in DRAM, in its landing buffer; earlier grains of the same logical grain are superseded (R197). The buffer of
an all-zero grain is not needed further. -/
def holdGrain (w : WriteCmd) (g i : Nat) (content : List LBlock × List Nat) (d : Device) : Device :=
  let (id, d) := newId d
  let ns := namespace_ w.slot d
  let zero := content.1.all (· == 0) && content.2.all (· == 0)
  let fg : FlightGrain :=
    { id := id, cmd := w.id, fua := w.fua, zero := zero, buffers := if zero then [] else landingBuffer w i
      stored := { slot := w.slot, grain := g, keySlot := ns.keySlot, metaCode := metaBytes ns.flbas / 8, blocks := content.1,
                  metas := content.2 } }
  let d := { d with media := { d.media with flight := (d.media.flight.map fun x =>
      if x.stored.slot = w.slot && x.stored.grain = g && x.cmd != 0 then { x with superseded := true } else x) ++ [fg] } }
  if zero then applyGrain fg (incObj Obj.zeroGrainsUnmapped (freeFlight { fg with buffers := landingBuffer w i } d)) else d

/-- The landing buffers that a command still needs: one for each grain that a Write touches, none under the buffered rule, whose grains land in
slots (Table 6.1). -/
def landingNeed (w : WriteCmd) : Nat := if w.kind = 0 && !w.buffered then (grainsTouched w.slba w.nlb).2 - w.landing.length else 0

/-- The command's channel asks for the landing buffers that it still needs, one after another (R503). -/
def takeLanding (id : Nat) (d : Device) : Device :=
  match writeCmd id d with
  | none => d
  | some w => (List.range (landingNeed w)).foldl (fun d _ => match takeBuffer (0x10 + w.channel) 4 false d with
    | (some i, d) => updWrite id (fun x => { x with landing := x.landing ++ [i] }) d
    | (none, d) => d) d

/-- The command holds every landing buffer that it needs. -/
def landingHeld (id : Nat) (d : Device) : Bool := match writeCmd id d with
  | some w => landingNeed w = 0
  | none => false
/-- An earlier admitted command on one of the grains has not landed (R181). -/
def mustWait (w : WriteCmd) (d : Device) : Bool :=
  d.media.wp.writes.any fun x => x.id < w.id && !x.landed && overlaps x w

/-- The grains of a Write that take data, and those of a Write Zeroes that it covers in part. -/
def heldGrains (w : WriteCmd) (d : Device) : List Nat :=
  if w.kind = 0 then
    let (first, n) := grainsTouched w.slba w.nlb
    (List.range n).map (first + ·)
  else if w.kind = 1 then partialGrains (namespace_ w.slot d).nsze w.slba w.nlb
  else []

/-- The first partly covered grain that ends the write, and its status. -/
def firstBad (parts : List Nat) (slot : Nat) (unreadable : List Nat) (d : Device) : Option (Nat × Nat × Nat × Bool) :=
  parts.findSome? fun g => match currentGrain slot g unreadable d with
    | .error e => some (g, e)
    | .ok _ => none

/-- The failure that a landing meets: of a Write's data pointers or host memory (Table 12.8), otherwise of its protection checks (Table 6.2). -/
def landingFault (w : WriteCmd) (r : Landing) (d : Device) : Option (Nat × Nat) :=
  match (if w.kind = 0 then pointerFault w.port (transferBytes w.slot w.nlb d) r.pointers d else none) with
  | some sc => some (0x0, sc)
  | none => r.fault

/-- Steps 2 and 3 of Table 6.1 for a command (R180, R181, R501, R502; notes/assumptions/26.md). -/
def landWrite (id : Nat) (r : Landing) (d : Device) : Device :=
  match writeCmd id d with
  | none => d
  | some w =>
    let ns := namespace_ w.slot d
    let parts := if w.kind = 2 then [] else partialGrains ns.nsze w.slba w.nlb
    if w.landed || mustWait w d || (w.kind = 0 && !channelTurn w.channel id d) then d
    else if !(parts.all fun g => lookupReady w.slot g d) then parts.foldl (fun d g => askPage 1 w.slot (pageOf g) d) d
    else match landingFault w r d with
      | some (sct, sc) =>
        failWrite w sct sc (dnrOf sct sc) 0 (countMemoryFault w.port sct sc d)
      | none =>
        match firstBad parts w.slot r.unreadable d with
        | some (g, (sct, sc, dnr)) => failWrite w sct sc dnr (max w.slba (16 * g)) (noteFrameRange w.slot g d)
        | none =>
          let whole := wholeGrains ns.nsze w.slba w.nlb
          let d := updWrite id (fun x => { x with
            landed := true
            unmaps := if w.kind = 1 && whole.2 != 0 then [(whole.1, whole.2, none)] else x.unmaps }) d
          let d := if w.kind = 0 then
              addObj Obj.hoistBytesToDram (w.nlb * (4096 + metaBytes ns.flbas)) (incObj Obj.hoistCommandsMoved
                { d with sub := { d.sub with dataWritten := d.sub.dataWritten + 8 * w.nlb, written := true } })
            else d
          let d := addObj Obj.grainReads (parts.filter fun g => classify (mapEntry w.slot g d) d = .pointer).length d
          let grains := heldGrains w d
          let d := updWrite id (fun x => { x with landing := [] }) ((grains.zip (List.range grains.length)).foldl (fun d (g, i) =>
            let cur := match currentGrain w.slot g r.unreadable d with | .ok c => c | .error _ => (zeroBlocks, zeroMetas)
            holdGrain w g i (mergeGrain w r g cur) d) d)
          let covers (x : FlightGrain) : Bool := match writeCmd id d with
            | some y => unmapCovers y x.stored.slot x.stored.grain
            | none => false
          let mark (x : FlightGrain) : FlightGrain :=
            if x.cmd != 0 && x.cmd < id && covers x then { x with superseded := true } else x
          dispatch (applyUnmaps id { d with media := { d.media with flight := d.media.flight.map mark } })

/-! ### Compression (R213 to R226) -/

/-- Keep the entries of an engine's faults within the last hour of operating time, with a new one. -/
def engineFault (engine : Nat) (d : Device) : Nat × Device :=
  let now := hours d
  let hs := now :: (smGet [] d.media.wp.engineFaults engine).filter fun h => decide (now < h + 16)
  (hs.length, updWp (fun w => { w with engineFaults := smSet [] engine hs w.engineFaults }) d)

/-- A verification mismatch is recorded; an engine with three in an hour goes out of service (R214, R215). -/
def compressMismatch (engine slot g : Nat) (d : Device) : Device :=
  let d := logRec Code.compressVerifyMismatch [engine, slot, g] d
  let (n, d) := engineFault engine d
  if 3 ≤ n && !(d.media.wp.offline.contains engine) then
    logRec Code.compressionEngineOffline [engine, n]
      (setObj Obj.compressionEnginesInService (getObj Obj.compressionEnginesInService d - 1) (retireEngine engine d))
  else d

/-- Why a grain is stored raw (Table 7.2). -/
inductive Form | compressed | rawMode | rawMismatch | rawNoSaving
  deriving DecidableEq, Repr

/-- The stored form of a grain (Table 7.2): stored raw as its dispatch says, the inflater agrees, and the compressed length. -/
def chooseForm (raw good : Bool) (length : Nat) : Form :=
  if raw then .rawMode else if !good then .rawMismatch else if 65472 < length then .rawNoSaving else .compressed

/-- Frames of a stored grain (R214). -/
def storedFrames (f : Form) (length : Nat) : Nat := match f with | .compressed => (64 + length + 4095) / 4096 | _ => 17

/-- The counts of Table 7.7 for a grain stored: its form, what its engine emitted, and the input's length. The blocks of a grain that is then stored raw are
not counted (notes/assumptions/144.md). -/
def countStored (f : Form) (x : Deflated) (input parity : Nat) (d : Device) : Device :=
  let len := match f with | .compressed => x.stream.length | _ => input
  let frames := storedFrames f x.stream.length
  let d := addObj Obj.inputBytes input (addObj Obj.storedBytes (64 + len) (addObj Obj.storedFrames frames d))
  let d := updWp (fun w => { w with recent := (w.recent.filter fun e => decide (nowMs d < e.1 + 60000)) ++ [(nowMs d, input, frames, parity)] }) d
  match f with
  | .compressed => incObj Obj.grainsCompressed (addObj Obj.fixedBlocks x.fixed (addObj Obj.dynamicBlocks x.dynamic d))
  | .rawMode => incObj Obj.grainsStoredRaw d
  | .rawMismatch => incObj Obj.rawVerifyMismatch (incObj Obj.grainsStoredRaw d)
  | .rawNoSaving => incObj Obj.rawNoSaving (incObj Obj.grainsStoredRaw d)

/-! ### Rows (R188 to R193) -/

/-- Row `r` is gathered (R188). -/
def rowFull (n r : Nat) (d : Device) : Bool :=
  (dataDies n d).all fun x =>
    let g := group x (groupSlot (stripe n d).kind) d
    g.used && g.stripe = n && !g.blocks.isEmpty && g.blocks.all fun b => decide (r < g.rowBase) || reachesRow b (r - g.rowBase) d

/-- Encode what can be encoded of every member (R189). -/
def encodeMembers (n : Nat) (d : Device) : Device :=
  (liveDies n d).foldl (fun d x => encodeGroup x (groupSlot (stripe n d).kind) d) d

/-- Rows up to the new gathered count no longer wait. -/
def setGathered (n r : Nat) (d : Device) : Device :=
  updStripe n (fun t => { t with gathered := r, held := t.held.filter fun h => decide (r ≤ h.1) }) d

/-- Close a row as it stands, short where it is not gathered (R192). -/
def closeRow (n r : Nat) (d : Device) : Device :=
  let d := if rowFull n r d then d else incObj Obj.shortRows d
  let d := (dataDies n d).foldl (fun d x =>
    let g := group x (groupSlot (stripe n d).kind) d
    g.blocks.foldl (fillRow (r - g.rowBase)) d) d
  setGathered n (r + 1) d

/-- A row becomes a padding row on every member (R74, R192). -/
def padRow (n r : Nat) (d : Device) : Device :=
  let k := groupSlot (stripe n d).kind
  let d := (liveDies n d).foldl (fun d x =>
    padWordline x k (r - (group x k d).rowBase) d) d
  incObj Obj.paddingRows (setGathered n (r + 1) d)

/-- The last closed row is a padding row of the members. -/
def lastIsPadding (n : Nat) (d : Device) : Bool :=
  match liveDies n d with
  | x :: _ =>
    let g := group x (groupSlot (stripe n d).kind) d
    g.padding.contains ((stripe n d).gathered - 1 - g.rowBase)
  | [] => true

/-- Rows are closed up to `r`, then further rows that hold placed frames, until a padding row or row 511 (R192). -/
def closeRows : Nat → Nat → Nat → Device → Device
  | 0, _, _, d => d
  | fuel + 1, n, r, d =>
    let st := stripe n d
    if 512 ≤ st.gathered then d
    else if st.gathered ≤ r then closeRows fuel n r (closeRow n st.gathered d)
    else if r + 1 < st.gathered && lastIsPadding n d then d
    else if st.held.any (·.1 == st.gathered) then closeRows fuel n r (closeRow n st.gathered d)
    else if lastIsPadding n d then d
    else padRow n st.gathered d

/-- A forced close of a stripe at row `r` (R192). -/
def forceClose (n r : Nat) (d : Device) : Device :=
  if (stripe n d).isOpen && !(stripe n d).members.isEmpty && r + 1 < 513 && (stripe n d).gathered ≤ r + 1 then
    encodeMembers n (closeRows 513 n r d)
  else d

/-- Force the closes that the grains a test picks need. -/
def closeFor (pick : FlightGrain → Bool) (d : Device) : Device :=
  (d.media.flight.filter fun g => pick g && g.seq.isNone).foldl (fun d g =>
    match g.placed with
    | some p => forceClose p.stripe (lastRowOf p d) d
    | none => d) d

/-- Every row of every open stripe that holds a placed frame is force-closed (Table 6.3). -/
def closeAllRows (d : Device) : Device :=
  d.media.stripes.foldl (fun d e =>
    if e.2.isOpen && !e.2.held.isEmpty then forceClose e.1 (e.2.held.foldl (fun m h => max m h.1) 0) d else d) d

/-- ROW_GATHERED (R188, R189). -/
def gatherRow (n : Nat) (d : Device) : Device :=
  let st := stripe n d
  if st.isOpen && !st.members.isEmpty && st.gathered < 512 && rowFull n st.gathered d then
    encodeMembers n (setGathered n (st.gathered + 1) d)
  else d

/-! ### Placement (R186, R187) -/

/-- The open stripes of a kind and parity mode that take grains. -/
def takingStripes (kind parity frames : Nat) (d : Device) : List Nat :=
  (d.media.stripes.filter fun e => e.2.isOpen && !e.2.stopped && e.2.kind = kind && e.2.parity = parity
    && !(openBlocks e.1 frames d).isEmpty).map (·.1)

/-- The next stripe of the rotation. -/
def nextInRotation (ns : List Nat) (d : Device) : Option Nat :=
  match ns.find? (d.media.wp.rotation < ·) with
  | some n => some n
  | none => ns.head?

/-- The lowest row of a stripe that is not encoded on every data member (R189). -/
def lowestUnencoded (n : Nat) (d : Device) : Nat :=
  ((dataDies n d).map fun x =>
    let g := group x (groupSlot (stripe n d).kind) d
    g.rowBase + g.encoded).foldl min (stripe n d).gathered

/-- Placed frames in a stripe's lowest row that is not encoded. -/
def framesInLowestRow (n : Nat) (d : Device) : Nat :=
  let st := stripe n d
  ((dataDies n d).map fun x =>
    let g := group x (groupSlot st.kind) d
    let w := lowestUnencoded n d - g.rowBase
    (g.blocks.map fun b =>
      let e := block b d
      min e.next (rowEndFrame e.step w) - if w = 0 then 1 else min e.next (rowEndFrame e.step (w - 1))).sum).sum

/-- The stripe a grain goes to (R187). -/
def pickStripe (fua : Bool) (ns : List Nat) (d : Device) : Option Nat :=
  if fua then
    let best := (ns.map fun n => framesInLowestRow n d).foldl max 0
    nextInRotation (ns.filter fun n => framesInLowestRow n d = best) d
  else nextInRotation ns d

/-- A grain must be carried on without waiting: FUA, a Flush, a hold-up flush or shutdown, or a ceiling below occupancy (Table 6.3). -/
def mustClose (g : FlightGrain) (d : Device) : Bool :=
  g.fua || d.media.wp.flushes.any (fun f => f.waits.contains g.cmd)
    || (d.media.wp.reads.any fun r => r.fua && r.slot = g.stored.slot && r.grains.any fun x => x.grain = g.stored.grain)
    || (overCeiling d && match writeCmd g.cmd d with | some w => w.buffered | none => false)

/-- Every grain of a FUA write has been placed or unmapped. -/
def allPlaced (cmd : Nat) (d : Device) : Bool :=
  d.media.flight.all fun g => g.cmd != cmd || g.placed.isSome || g.zero || g.seq.isSome

/-- The band of Table 9.3 lets a host grain be placed now. -/
def hostPlacementAllowed (frames : Nat) (d : Device) : Bool :=
  let f := getObj Obj.freePermille d
  let rc := d.media.rc
  if f ≤ getObj Obj.reclaimStopPermille d then false
  else if getObj Obj.reclaimUrgentPermille d ≤ f then true
  else decide (rc.epochPlaced + frames ≤ rc.epochMoved * (rc.victimCap - rc.victimLive) / rc.victimLive + 64)

/-- The forced closes that the grains of a FUA write need, once they are all placed; each is counted (0x3202.03). -/
def fuaClose (cmd : Nat) (d : Device) : Device :=
  let stripes := ((d.media.flight.filter fun g => g.cmd = cmd && g.seq.isNone).filterMap fun g => g.placed.map (·.stripe)).eraseDups
  addObj Obj.fuaCloses stripes.length (closeFor (fun x => x.cmd == cmd) d)

/-- The stripe and block that take a grain (R187). Blocks that it does not fit are full, and a stripe that has no other is passed over. -/
def pickPlace (g : FlightGrain) (kind parity : Nat) : Nat → Device → Option (Nat × Nat) × Device
  | 0, d => (none, d)
  | fuel + 1, d =>
    match pickStripe g.fua (takingStripes kind parity g.stored.frames d) d with
    | none => (none, d)
    | some n => match pickBlock n g.stored.frames 64 d with
      | (some b, d) => (some (n, b), d)
      | (none, d) => pickPlace g kind parity fuel d

/-- Place a grain whose stored form is chosen (R187): it takes the next frames of the chosen block's stream. The pool B buffers that held it
return (Table 6.1). -/
def placeGrain (g : FlightGrain) (d : Device) : Device :=
  let kind := if g.cmd = 0 then 2 else 1
  let parity := (namespace_ g.stored.slot d).parity
  if kind = 1 && !hostPlacementAllowed g.stored.frames d then d
  else match pickPlace g kind parity (d.media.stripes.length + 1) d with
    | (none, d) => d
    | (some (n, b), d) =>

      let e := block b d
      let p : Placement := { stripe := n, block := b, frame := e.next, frames := g.stored.frames }
      let d := updBlock b (fun e => { e with next := e.next + g.stored.frames, grains := e.grains + 1 }) d
      let d := freeFlight g (updFlight g.id (fun x => { x with placed := some p, buffers := [] }) (updWp (fun w => { w with rotation := n }) d))
      let d := { d with media := { d.media with stored := smSet {} (pointerOf b p.frame) g.stored d.media.stored
                                                rc := { d.media.rc with epochPlaced := d.media.rc.epochPlaced
                                                          + if kind = 1 then g.stored.frames else 0 } } }
      let d := holdRows p d
      if g.fua then
        if allPlaced g.cmd d then fuaClose g.cmd d else d
      else if mustClose g d then forceClose n (lastRowOf p d) d
      else d

/-- Place the grains that wait for a place, oldest first. -/
def placeWaiting (d : Device) : Device :=
  (d.media.flight.filter fun g => g.placed.isNone && !g.zero && g.seq.isNone && g.stored.frames != 0).foldl (fun d g => placeGrain g d) d

/-- The stored form that the engine of a job chooses for a grain (R212 to R214). -/
def formOf (j : EngineJob) (disagrees : Bool) (g : StoredGrain) : Form :=
  chooseForm j.raw (!disagrees && compressionGood j.effort g) (compressGrain j.effort g).stream.length

/-- A grain in flight takes its stored form. -/
def withForm (f : Form) (effort : Nat) (x : FlightGrain) : FlightGrain :=
  let length := (compressGrain effort x.stored).stream.length
  { x with stored := { x.stored with frames := storedFrames f length, compressed := f = .compressed, effort := effort
                                     length := if f = .compressed then length else 65536 + 128 * x.stored.metaCode } }

/-- The second pool B buffer of a grain that an engine ends (Table 6.1): a raw grain takes none. `e` is the device without the job; with the pool
empty `d` stays, the job still in work. -/
def secondBuffer (engine : Nat) (raw : Bool) (d e : Device) : Option (List (Nat × Nat)) × Device :=
  if raw then (some [], e)
  else match takeBuffer (0x20 + engine) 4 false e with
    | (some i, e) => (some [(0x20 + engine, i)], e)
    | (none, _) => (none, (takeBuffer (0x20 + engine) 4 false d).2)

/-- GRAIN_COMPRESSED (R214): the grain in work at an engine goes into a second pool B buffer (Table 6.1), takes its stored form, and is placed. With the
pool empty it stays in work at the engine until its retry. -/
def compressed (id engine : Nat) (disagrees : Bool) (d : Device) : Device :=
  match flightGrain id d with
  | none => d
  | some g =>
    if !needsEngine g then d
    else match endJobAt engine id 0 d with
      | none => d
      | some (j, e) =>
      match secondBuffer engine j.raw d e with
      | (none, d) => d
      | (some second, d) =>
        let f := formOf j disagrees g.stored
        let d := if f = .rawMismatch then compressMismatch engine g.stored.slot g.stored.grain d else d
        let d := countStored f (compressGrain j.effort g.stored) (65536 + 128 * g.stored.metaCode) (namespace_ g.stored.slot d).parity d
        placeWaiting (dispatch (updFlight id (fun x => { withForm f j.effort x with buffers := x.buffers ++ second }) d))

/-! ### Opening stripes (R183 to R185) -/

/-- Parity modes that need host stripes, or moved stripes. -/
def modesUsed (kind : Nat) (d : Device) : List Nat :=
  let uses (par : Nat) : Bool := d.sub.namespaces.any fun e => e.2.active && e.2.parity = par &&
    if kind = 1 then e.2.attached != 0 else d.media.map.entries.any fun m => m.1 / 2 ^ 40 = e.1 && classify m.2 d = .pointer
  [1, 2].filter uses

/-- What each parity mode has taken over the last 10 s. -/
def recentLoad (kind par : Nat) (d : Device) : Nat :=
  if kind = 1 then ((d.media.wp.recent.filter fun e => e.2.2.2 = par && nowMs d < e.1 + 10000).map fun e => e.2.1).sum
  else ((d.media.wp.recentMoved.filter fun e => e.2.2 = par && nowMs d < e.1 + 10000).map fun e => e.2.1).sum

/-- The mode that takes the rest: the larger load, the division in force where equal. -/
def favoured (kind : Nat) (d : Device) : Nat :=
  let a := recentLoad kind 1 d
  let b := recentLoad kind 2 d
  if b < a then 1 else if a < b then 2 else if kind = 1 then d.media.wp.favouredHost else d.media.wp.favouredMoved

/-- The division of the stripes between the parity modes in force (R183). -/
def updateDivision (d : Device) : Device :=
  updWp (fun w => { w with favouredHost := favoured 1 d, favouredMoved := favoured 2 d }) d

/-- How many stripes of a kind and parity mode are to be open (R89, R183). -/
def openTarget (kind par : Nat) (d : Device) : Nat :=
  if kind = 3 then (if par = 2 then 2 else 0)
  else
    let total := if kind = 1 then getObj Obj.openHostStripes d else getObj Obj.openMovedStripes d
    let used := modesUsed kind d
    if used.length = 2 then (if par = favoured kind d then total - 1 else 1)
    else if used.length = 1 then (if used.contains par then total else 0)
    else if par = favoured kind d then total else 0

/-- Open stripes of a kind and mode that need no replacement yet: row 480 not gathered. -/
def openCount (kind par : Nat) (d : Device) : Nat :=
  (d.media.stripes.filter fun e => e.2.isOpen && e.2.kind = kind && e.2.parity = par && decide (e.2.gathered ≤ 480)).length

/-- A die can take a plane group of a kind (R184). -/
def eligibleDie (kind n : Nat) (d : Device) : Bool :=
  dieInService n d && !(die n d).exhausted && !(group n (groupSlot kind) d).used && (List.range 4).all (fun p => freeInPlane n p d != 0)
    && !bitOf (getObj (Obj.carrierThermalState (bankOfDie n)) d) 0

/-- The eligible die of a bank with the most free good blocks, the lowest number among equals. -/
def pickDie (kind bank : Nat) (d : Device) : Option Nat :=
  ((List.range 256).foldl (fun (best : Option (Nat × Nat)) i =>
    let n := bank * 256 + i
    if eligibleDie kind n d then
      let free := ((List.range 4).map fun p => freeInPlane n p d).sum
      match best with
      | none => some (n, free)
      | some (m, f) => if f < free then some (n, free) else some (m, f)
    else best) none).map (·.1)

/-- The stripe engine takes the placement buffers of a new stripe's data members (R186, R495). -/
def holdStanding (n data : Nat) (d : Device) : Device :=
  (List.range data).foldl (fun d _ => match takeBuffer 0x41 5 true d with
    | (some i, d) => updStripe n (fun t => { t with standing := t.standing ++ [i] }) d
    | (none, d) => d) d

/-- STRIPE_OPEN: one member in each bank that can give one (R17, R183 to R185). -/
def openStripe (kind : Nat) (d : Device) : Device :=
  match ([1, 2].filter fun par => openCount kind par d < openTarget kind par d).head? with
  | none => d
  | some par =>
    let banks := (List.range 16).filter (bankOpen · d)
    let d := updateDivision d
    if banks.length < 15 then d
    else
      let picks := banks.map fun b => (b, pickDie kind b d)
      match picks.find? (·.2.isNone) with
      | some (bank, _) =>
        if d.media.wp.openDelayed.contains kind then d
        else logRec Code.stripeOpenDelayed [kind, bank] (updWp (fun w => { w with openDelayed := w.openDelayed ++ [kind] }) d)
      | none =>
        let n := d.media.wp.nextStripe
        let members := picks.map fun p => (p.1, p.2.getD 0)
        let data := members.length - par
        if poolWaits 0x41 5 d || !poolsActive d then d
        else if !grantOk 5 0x41 data d then poolEmptyResult 0x41 5 1048576 true d
        else
        let d := updStripe n (fun _ => { exists_ := true, isOpen := true, kind := kind, parity := par, members := members }) d
        let d := members.foldl (fun d m => updGroup m.2 (groupSlot kind) (fun _ => { used := true, stripe := n, kind := kind }) d) d
        incObj Obj.stripesOpen (updWp (fun w =>
          { w with nextStripe := n + 1, openDelayed := w.openDelayed.filter (· != kind) }) (holdStanding n data d))

/-! ### Completion (R196 to R198) -/

/-- A journal sequence is persistent. -/
def persistentSeq (q : Option Nat) (d : Device) : Bool := match q with | some q => decide (q < d.media.map.persistent) | none => false

/-- Every grain of a command is durable, or unmapped with its record persistent (R13, R205, Table 6.4). -/
def durable (w : WriteCmd) (d : Device) : Bool :=
  w.landed && d.media.flight.all (fun g => g.cmd != w.id || persistentSeq g.seq d) && w.unmaps.all fun u => persistentSeq u.2.2 d

/-- Flush commands whose writes are all durable complete (R198). -/
def serveFlushes (d : Device) : Device :=
  d.media.wp.flushes.foldl (fun d f =>
    if (f.waits.all fun id => match writeCmd id d with
        | some w => durable w d
        | none => true) then
      postCompletion f.port { sqid := f.sqid, cid := f.cid } (freeFlush f (updWp (fun w => { w with flushes := w.flushes.erase f }) d))
    else d) d

/-- What has become durable is let go: Flush commands complete, then commands that are completed and durable, and durable grains, are no
longer held. -/
def settle (d : Device) : Device :=
  let d := serveFlushes d
  let done := (d.media.wp.writes.filter fun w => w.completed && durable w d).map (·.id)
  let d := done.foldl (fun d id => dropWrite id d) d
  let live := d.media.wp.writes.map (·.id)
  let settled (g : FlightGrain) : Bool := persistentSeq g.seq d && !live.contains g.cmd
  freeFlights (d.media.flight.filter settled) { d with media := { d.media with flight := d.media.flight.filter fun g => !settled g } }

/-- Apply what of a command's updates waits for the map (R149, R182). -/
def pushUpdates (id : Nat) (d : Device) : Device :=
  let d := applyUnmaps id d
  (d.media.flight.filter fun g => g.cmd = id && g.zero).foldl (fun d g => applyGrain g d) d

/-- WRITE_COMPLETION (R196): a landed command that has reached its completion point completes; after a reset of its port the entry is
discarded. -/
def completeWrite (id : Nat) (d : Device) : Device :=
  match writeCmd id d with
  | none => d
  | some w =>
    if w.completed || !w.landed then d
    else
      let d := pushUpdates id d
      match writeCmd id d with
      | none => d
      | some w =>
        if w.buffered || durable w d then
          let d := freeContext w.port w.context (updWrite id (fun x => { x with completed := true, context := none })
            { d with sub := { d.sub with writeCmds := d.sub.writeCmds + 1 } })
          let d := incObj (if w.buffered then Obj.writesBuffered else Obj.writesDurable) d
          settle (if w.dropped then d else succeed w.host 0 0 [] d)
        else d

/-- PLACE (R149): once the grain is on the medium. -/
def placeUpdate (id : Nat) (d : Device) : Device :=
  match flightGrain id d with
  | none => d
  | some g =>
    if g.cmd = 0 then d
    else if g.zero then applyGrain g d
    else match g.placed with
      | some p => if lastRowOf p d < (stripe p.stripe d).done || !(stripe p.stripe d).isOpen then applyGrain g d else d
      | none => d

/-- RELOCATE (R146, R223): the entry moves from the old pointer to the new one when it still holds the old. -/
def relocateUpdate (id : Nat) (d : Device) : Device :=
  match flightGrain id d with
  | none => d
  | some g =>
    match g.placed, g.old with
    | some p, some old =>
      if g.cmd != 0 || g.seq.isSome || !(lastRowOf p d < (stripe p.stripe d).done || !(stripe p.stripe d).isOpen) then d
      else if !updateReady g.stored.slot g.stored.grain d then holdUpdate g.stored.slot g.stored.grain d
      else
        let seq := getObj Obj.journalSequence d
        let moved := mapEntry g.stored.slot g.stored.grain d = old
        let d := conditionalSet .relocate g.stored.slot g.stored.grain old (pointerOf p.block p.frame) d
        let d := if moved then updBlock p.block (fun e => { e with valid := e.valid + p.frames }) d else d
        updFlight id (fun x => { x with seq := some (if moved then seq else 0) }) d
    | _, _ => d

/-! ### Host commands -/

/-- WRITE after its fetch (Table 6.2). -/
def writeBody (i : Instr) (c : HostCmd) (slba nlb : Nat) (fua : Bool) (d : Device) : Device :=
  blockChecks c slba nlb true true .writes (writeRows i c false fun x d => (admitWrite c 0 slba nlb fua [] x d).2) d

/-- WRITE_ZEROES after its fetch (R182). -/
def writeZeroesBody (i : Instr) (c : HostCmd) (slba nlb : Nat) (fua : Bool) (unreadable : List Nat) (d : Device) : Device :=
  blockChecks c slba nlb false false .writes (writeRows i c false fun x d =>
    let (id, d) := admitWrite c 1 slba nlb fua [] x d
    landWrite id { unreadable := unreadable } d) d

/-- DATASET_MANAGEMENT after its fetch (R182): only the deallocate attribute acts. -/
def datasetBody (i : Instr) (c : HostCmd) (ranges : List (Nat × Nat)) (deallocate : Bool) (d : Device) : Device :=
  let nsze := (namespace_ (slotOf c) d).nsze
  let far := ranges.foldl (fun m r => max m (r.1 + r.2)) 0
  blockChecks { c with reserved := c.reserved || decide (256 < ranges.length) } 0 far false false .writes (fun d =>
    if !deallocate then succeed c 0 0 [] { d with sub := { d.sub with writeCmds := d.sub.writeCmds + 1 } }
    else writeRows i c true (fun x d =>
      let (id, d) := admitWrite c 2 0 0 false ((ranges.map fun r => wholeGrains nsze r.1 r.2).filter (·.2 != 0)) x d
      landWrite id {} d) d) d

/-- FLUSH after its fetch (R198): it waits for every write that has completed and is not durable, and forces the closes it needs. -/
def flushBody (c : HostCmd) (d : Device) : Device :=
  let all := c.nsid = 0xFFFFFFFF
  if !all && !nsidValid c d then failField c 0x0 0x0B 4 d
  else if c.reserved then invalidField c d
  else if !all && (namespace_ (slotOf c) d).formatting then failCmd c 0x0 0x84 d
  else if !all && reservationConflict c.port.val (slotOf c) .writes d then failCmd c 0x0 0x83 d
  else
    let waits := (d.media.wp.writes.filter fun w => w.completed && (all || w.slot = slotOf c) && !durable w d).map (·.id)
    let (context, d) := takeBuffer (c.port.val + 1) 2 false d
    let f : FlushCmd := { port := c.port.val, sqid := c.sqid, cid := c.cid, context := context, waits := waits }
    let d := updWp (fun w => { w with flushes := w.flushes ++ [f] }) d
    settle (closeFor (fun g => waits.contains g.cmd) d)

/-! ### The buffer ceiling (R200, R202) -/

/-- MT/s of a channel rate code (Table 3.2). -/
def rateOf (code : Nat) : Nat := match code with | 0 => 400 | 1 => 800 | 2 => 1000 | _ => 1200

/-- Channels that are up. -/
def channelsUp (d : Device) : List Nat := (List.range 128).filter fun c => getObj (Obj.channelState c) d = 0x02

/-- Profile entries of the carriers in service. -/
def entriesInService (d : Device) : List ProfileEntry :=
  ((List.range 128).filter fun c => bankInService (c / 8) d && getObj (Obj.channelState c) d = 0x02).map fun c => profileOf (c * 32) d

/-- e_g of R200 in mJ per GiB. -/
def flushEnergy (d : Device) : Rat :=
  let es := entriesInService d
  let top (f : ProfileEntry → Nat) : Rat := (((es.map f).foldl max 0 : Nat) : Rat)
  let rate : Nat := match channelsUp d with
    | [] => 0
    | cs => (cs.map fun c => rateOf (getObj (Obj.channelRateActual c) d)).foldl min 1200
  let u : Rat := 1755154905 / 368640
  let coarse := top (·.tCoarseMax) / 1000000
  let fine := top (·.tFineMax) / 1000000
  let t := u * (coarse + fine) / (15 * (getObj Obj.openHostStripes d : Rat))
  let xfer := if rate ≤ 800 then top (·.tokXferLow) else top (·.tokXferHigh)
  let ops := u * (top (·.tokCoarse) * coarse + top (·.tokFine) * fine + 2 * xfer * 368640 / ((rate : Rat) * 1000000)) * 10
  ops + (48 + 15 + 16 * top (·.tokBase) / 100) * t * 1000

/-- The ceiling of R200: zero while the hold-up store has not passed its last test. -/
def ceilingOf (d : Device) : Nat :=
  let eu := getObj Obj.writeBufferEnergy d
  let slots := ((eu : Rat) * 16384 / max 10000 (flushEnergy d)).floor.toNat
  if eu = 0 then 0 else min (min 65536 (getObj Obj.writeBufferMaxGrains d)) slots

/-- The deduction d of R470 in mJ. -/
def deduction (d : Device) : Rat :=
  let es := entriesInService d
  let top (f : ProfileEntry → Nat) : Rat := (((es.map f).foldl max 0 : Nat) : Rat)
  let rate : Nat := match channelsUp d with
    | [] => 0
    | cs => (cs.map fun c => rateOf (getObj (Obj.channelRateActual c) d)).foldl min 1200
  let coarse := top (·.tCoarseMax) / 1000000
  let fine := top (·.tFineMax) / 1000000
  let xfer := if rate ≤ 800 then top (·.tokXferLow) else top (·.tokXferHigh)
  let pu := top (·.tokCoarse) * coarse + top (·.tokFine) * fine + 2 * xfer * 368640 / ((rate : Rat) * 1000000)
  let stripes : Rat := ((getObj Obj.openHostStripes d + getObj Obj.openMovedStripes d + 4 : Nat) : Rat)
  let t := 4 * (2 * coarse + fine)
  (stripes * 64 * pu / 100 + (48 + 15 + 16 * top (·.tokBase) / 100) * t + 2 / 10) * 1000

/-- e_u of R472 in mJ: e_raw of the last passed test less d, zero while the test state is not passed. -/
def verifiedEnergy (d : Device) : Nat :=
  if getObj Obj.holdUpState d = 0x02 then d.holdup.rawMj - (deduction d).ceil.toNat else 0

/-- Recompute d, e_u and the ceiling (R200, R472); a change takes effect at once, is recorded, and forces closes while more slots are in use (R202). -/
def recomputeCeiling (d : Device) : Device :=
  let eu := verifiedEnergy d
  let d := setObj Obj.writeBufferEnergy eu (setObj Obj.holdUpVerifiedMj eu (setObj Obj.holdUpDeductionMj (deduction d).ceil.toNat d))
  let d := setObj Obj.flushEnergyPerGiB (flushEnergy d).floor.toNat d
  let old := getObj Obj.writeBufferCeiling d
  let new := ceilingOf d
  if new = old then d
  else
    let d := logRec Code.writeBufferCeilingChanged [old, new, bufferInUse d] (setObj Obj.writeBufferCeiling new d)
    if new < bufferInUse d then
      let ids := (d.media.wp.writes.filter (·.buffered)).map (·.id)
      closeFor (fun g => ids.contains g.cmd && !g.superseded) d
    else d

/-! ### Meanings -/

/-- GRAIN_COMPRESSED (R214). -/
def execGrainCompressed (id : Nat) (engine : Fin 8) (disagrees : Bool) (s : State) : Host.Outcome State Fault Refusal :=
  runDev (compressed id engine.val disagrees) s

/-- ROW_GATHERED (R188). -/
def execRowGathered (stripe : Nat) (s : State) : Host.Outcome State Fault Refusal :=
  runDev (fun d => placeWaiting (gatherRow stripe d)) s

/-- The rows of a stripe that have held frames for RowCloseTimeoutMs, or every held row while a flush or shutdown work runs (Table 6.3). -/
def timedOutRows (n : Nat) (d : Device) : List Nat :=
  ((stripe n d).held.filter fun h => d.ctl.flushing || d.sub.shutdownRunning
    || decide (h.2 + getObj Obj.rowCloseTimeoutMs d ≤ nowMs d)).map (·.1)

/-- ROW_CLOSE_TIMEOUT (R193). -/
def execRowCloseTimeout (stripe : Nat) (s : State) : Host.Outcome State Fault Refusal :=
  runDev (fun d => match timedOutRows stripe d with
    | [] => d
    | r :: rs => placeWaiting (forceClose stripe (rs.foldl max r) d)) s

/-- STRIPE_OPEN (R184). -/
def execStripeOpen (kind : Fin 3) (s : State) : Host.Outcome State Fault Refusal := runDev (openStripe (kind.val + 1)) s

/-- PROGRAM_PASS_COMPLETE (R71, R76): grains that a failure displaced are placed again. -/
def execProgramPassComplete (die : Die) (slot : Fin 2) (failed : List Nat) (s : State) : Host.Outcome State Fault Refusal :=
  runDev (fun d => startOp die.val (placeWaiting (passEnds die.val slot.val true failed d))) s

/-- WRITE_COMPLETION (R196). -/
def execWriteCompletion (id : Nat) (s : State) : Host.Outcome State Fault Refusal := runDev (completeWrite id) s

/-- PLACE (R149). -/
def execPlace (id : Nat) (s : State) : Host.Outcome State Fault Refusal := runDev (placeUpdate id) s

/-- RELOCATE (R146). -/
def execRelocate (id : Nat) (s : State) : Host.Outcome State Fault Refusal := runDev (relocateUpdate id) s

/-- A write completion, a Flush, a namespace job or a checkpoint waits on a record of the open frame (R161). -/
def sealWaited (d : Device) : Bool :=
  let waits (w : WriteCmd) : Bool := w.landed && !durable w d
    && d.media.flight.all (fun g => g.cmd != w.id || g.seq.isSome) && w.unmaps.all (·.2.2.isSome)
  d.media.map.checkpoint.isSome || d.sub.nsJobs.any (·.seq.isSome) || d.ctl.flushing || d.sub.shutdownRunning
    || d.media.wp.writes.any fun w => waits w && (!(w.buffered || w.completed) || d.media.wp.flushes.any fun f => f.waits.contains w.id)

/-- The row that holds a system frame is force-closed (R192, Table 6.3). -/
def closeRowAt (d : Device) (ptr : Nat) : Device :=
  let b := blockOf ptr
  let n := (block b d).stripe
  if (block b d).state = 1 && (stripe n d).isOpen && (stripe n d).kind = 3 then
    forceClose n (lastRowOf { stripe := n, block := b, frame := frameOf ptr, frames := 1 } d) d
  else d

/-- The rows that hold the copies of the frame sealed last are force-closed (R192, Table 6.3). -/
def closeJournalRows (d : Device) : Device :=
  match d.media.map.journal.getLast? with
  | none => d
  | some f => [f.place1, f.place2].foldl closeRowAt d

/-- Seal the open frame; where a completion, a Flush or a checkpoint waits on it, the rows of its copies are closed (R161, Table 6.3). -/
def sealAndClose (copy1 copy2 : Bool) (d : Device) : Device :=
  let e := settle (sealFrame copy1 copy2 d)
  if sealWaited d && !d.media.map.openFrame.isEmpty then closeJournalRows e else e

/-- JOURNAL_FRAME_SEAL (R161, R162): the open frame is full, or waited on. -/
def execJournalFrameSeal (copy1 copy2 : Bool) (s : State) : Host.Outcome State Fault Refusal :=
  runDev (fun d => onlyIf ((decide (252 ≤ d.media.map.openFrame.length) || sealWaited d) && !programsHeld d) (sealAndClose copy1 copy2) d) s

/-- JOURNAL_SEAL_TIMEOUT (R161): 10 ms after the open frame's first record. -/
def execJournalSealTimeout (copy1 copy2 : Bool) (s : State) : Host.Outcome State Fault Refusal :=
  runDev (fun d => onlyIf (decide (d.media.map.openMs + 10 ≤ nowMs d) && !programsHeld d) (sealAndClose copy1 copy2) d) s

/-! ### The flash logbook (R564 to R569, R573) -/

/-- A logbook flush can run: the flash index is complete, no clear runs, a stripe can open, no carrier in service is program-inhibited but for
a hold-up flush, and the mode allows it (R568, R480). -/
def logFlushPossible (d : Device) : Bool :=
  d.log.indexComplete && !d.log.clearing && decide (15 ≤ banksOpen d) && !programsHeld d
    && match d.ctl.mode with | .m0 | .m1 | .m2 | .m3 | .m11 => false | _ => true

/-- A logbook frame is written at the location reserved for it, the next location is reserved, and its row is force-closed (R564, R566). -/
def writeLogFrame (d : Device) (rs : List LogRecord) : Device :=
  let (place, d) := match d.log.frames.getLast? with
    | some f => (f.next, d)
    | none => systemPlace none d
  let (next, d) := systemPlace none d
  closeRowAt { d with log := { d.log with frames := d.log.frames ++ [{ records := rs, place := place, next := next }], newest := place } } place

/-- Records come onto the medium in frames of 63 (R564, R565). -/
def writeLogFrames (rs : List LogRecord) (d : Device) : Device := (chunks 63 rs.length rs).foldl writeLogFrame d

/-- Copy every unpersisted ring record into frames and bring them onto the medium; the oldest frames are released (R564 to R567). -/
def persistRing (d : Device) : Device :=
  let d := writeLogFrames ((d.log.ring.filter fun e => !e.persisted).map (·.entry)) d
  { d with log := { d.log with ring := d.log.ring.map fun e => { e with persisted := true }
                               frames := trimFrames d.log.frames.length d.log.frames, flushDue := false } }

/-- The pool A buffers that a flush fills (R564). -/
def flushBuffers (d : Device) : Nat := ((d.log.ring.filter fun e => !e.persisted).length + 62) / 63

/-- The logbook flush that is due runs (R564); where none can run, or the pool A buffers are not to be had, it waits (R493, R568). The buffers
are taken and returned within the flush; in M10 the pools stand still and the flush at its entry runs all the same (R497,
notes/assumptions/153.md). -/
def runLogFlush (d : Device) : Device :=
  if !d.log.flushDue || !logFlushPossible d || (poolsActive d && poolWaits 0x09 3 d) then d
  else if poolsActive d && !grantOk 3 0x09 (flushBuffers d) d then poolEmptyResult 0x09 3 4096 true d
  else reportOverwritten (incObj Obj.logbookFlushes (persistRing d))

/-- LOGBOOK_FLUSH (R564). -/
def execLogbookFlush (s : State) : Host.Outcome State Fault Refusal := runDev runLogFlush s

/-- The clear of R573, from step 1 to the superblock of step 3: a new chain starts with the LOGBOOK_CLEARED records, the new one last; the old chain and
every other record accepted before are gone. -/
def clearLogbook (path : Nat) (d : Device) : Device :=
  let before := heldRecords d
  let kept := before.filter (·.code == Code.logbookCleared)
  let head := headSequence d
  let d := logRec Code.logbookCleared [path, head, before.length - kept.length] d
  let newer := d.log.ring.filter fun e => serialLater e.entry.seq head
  let d := { d with log := { d.log with
      ring := (d.log.ring.filter fun e => e.entry.code == Code.logbookCleared || serialLater e.entry.seq head).map fun e =>
        if e.entry.code = Code.logbookCleared then { e with persisted := true } else e
      frames := [] } }
  writeLogFrames (kept ++ (newer.filter (·.entry.code == Code.logbookCleared)).map (·.entry)) d

/-- CHECKPOINT_SUPERBLOCK (R167). -/
def execCheckpointSuperblock (failed : List Nat) (s : State) : Host.Outcome State Fault Refusal :=
  runDev (fun d => settle (finishCheckpoint failed d)) s

/-- WRITE (R179). -/
def execWrite (cmd : HostCmd) (slba nlb : Nat) (fua : Bool) (s : State) : Host.Outcome State Fault Refusal :=
  runDev (ioCommand (.write cmd slba nlb fua) cmd (writeBody (.write cmd slba nlb fua) cmd slba nlb fua)) s

/-- WRITE_ZEROES (R182). -/
def execWriteZeroes (cmd : HostCmd) (slba nlb : Nat) (fua : Bool) (unreadable : List Nat) (s : State) : Host.Outcome State Fault Refusal :=
  runDev (ioCommand (.writeZeroes cmd slba nlb fua unreadable) cmd
    (writeZeroesBody (.writeZeroes cmd slba nlb fua unreadable) cmd slba nlb fua unreadable)) s

/-- DATASET_MANAGEMENT (R182). -/
def execDatasetManagement (cmd : HostCmd) (ranges : List (Nat × Nat)) (deallocate : Bool) (s : State) :
    Host.Outcome State Fault Refusal :=
  runDev (ioCommand (.datasetManagement cmd ranges deallocate) cmd
    (datasetBody (.datasetManagement cmd ranges deallocate) cmd ranges deallocate)) s

/-- FLUSH (R198). -/
def execFlush (cmd : HostCmd) (s : State) : Host.Outcome State Fault Refusal :=
  runDev (ioCommand (.flush cmd) cmd (flushBody cmd)) s

end Sys2Proof.Machine
end

