-- ==== Sys2Proof/Machine/ReadPath.lean ====
section
/-! DEFINITION. The read path: lookup, recovery ladder, decompression and what the host receives (spec/08, spec/07 R219 to R222). -/
namespace Sys2Proof.Machine

/-! ### Access -/

/-- A read in progress. -/
def readCmd (id : Nat) (d : Device) : Option ReadCmd := d.media.wp.reads.find? (·.id == id)

/-- Change a read. -/
def updRead (id : Nat) (f : ReadCmd → ReadCmd) (d : Device) : Device :=
  updWp (fun w => { w with reads := w.reads.map fun x => if x.id = id then f x else x }) d

/-- Change a grain of a read. -/
def updReadGrain (id grain : Nat) (f : ReadGrain → ReadGrain) (d : Device) : Device :=
  updRead id (fun r => { r with grains := r.grains.map fun g => if g.grain = grain then f g else g }) d

/-- A grain of a read. -/
def readGrain (id grain : Nat) (d : Device) : Option ReadGrain := (readCmd id d).bind fun r => r.grains.find? (·.grain == grain)

/-- The command as its completion names it. -/
def ReadCmd.host (r : ReadCmd) : HostCmd :=
  { port := Fin.ofNat 4 r.port, sqid := r.sqid, cid := r.cid, nsid := r.slot + 1 }

/-! ### The end of a read (R245 to R248) -/

/-- The logical blocks of a grain that a command asked for, with LBA and metadata. -/
def blocksOf (r : ReadCmd) (g : ReadGrain) : List (Nat × LBlock × Nat) :=
  ((List.range 16).map (16 * g.grain + ·)).filterMap fun lba =>
    if r.slba ≤ lba && lba < r.slba + r.nlb then
      some (lba, (g.blocks[lba - 16 * g.grain]?).getD 0, (g.metas[lba - 16 * g.grain]?).getD 0)
    else none

/-- What a read holds of the pools returns: its context, and the read-out buffers of its channel (R503). -/
def freeRead (r : ReadCmd) (d : Device) : Device :=
  giveBuffers (0x10 + r.channel) 4 (r.grains.filterMap (·.buffer)) (freeContext r.port r.context d)

/-- Take a read away. -/
def dropRead (id : Nat) (d : Device) : Device :=
  let gone := d.media.wp.reads.filter (·.id == id)
  gone.foldl (fun d r => freeRead r d) (updWp (fun w => { w with reads := w.reads.filter (·.id != id) }) d)

/-- Every grain of a read has ended, and its channel's turn has come: the read completes, with the status of the failing grain of lowest LBA, and
the blocks of the grains that did not fail (R247, R499). -/
def endRead (id : Nat) (d : Device) : Device :=
  match readCmd id d with
  | none => d
  | some r =>
    if d.ctl.mode = .m10 || d.ctl.mode = .m11 || !(r.grains.all fun g => g.stage == .ended) || !(r.verify || channelTurn r.channel id d) then d
    else
      let good := r.grains.filter (·.failed.isNone)
      let moved := if r.verify then [] else (good.map (blocksOf r)).flatten
      let n := moved.length
      let d := dropRead id d
      let d := if r.verify then d
        else addObj Obj.hoistBytesToHost (n * (4096 + metaBytes (namespace_ r.slot d).flbas)) (incObj Obj.hoistCommandsMoved d)
      let d := { d with sub := { d.sub with readCmds := d.sub.readCmds + 1, dataRead := d.sub.dataRead + 8 * n } }
      match r.grains.findSome? (fun g => g.failed.map fun f => (g.grain, f)) with
      | none => postCompletion r.port { sqid := r.sqid, cid := r.cid, blocks := moved } d
      | some (g, (sct, sc, dnr, crd)) =>
        let d := incObj (Obj.commandsFailed r.port) d
        let d := if noErrorEntry sct sc then d
          else logError r.port { sqid := r.sqid, cid := r.cid, sct := sct, sc := sc, dnr := dnr, lba := max r.slba (16 * g),
                                 nsid := r.slot + 1 } d
        postCompletion r.port { sqid := r.sqid, cid := r.cid, sct := sct, sc := sc, dnr := dnr, crd := crd, blocks := moved } d

/-- A channel goes on to its next command: the reads whose turn it is and whose grains have all ended complete, in order (R499). -/
def advanceChannel (ch : Nat) (d : Device) : Device :=
  ((d.media.wp.reads.filter fun r => !r.verify && r.channel = ch).map (·.id)).foldl (fun d id => endRead id d) d

/-- A read completes once it can, and its channel goes on. -/
def finishRead (id : Nat) (d : Device) : Device :=
  match readCmd id d with
  | none => d
  | some r => if r.verify then endRead id d else advanceChannel r.channel d

/-- A grain of a read ends with data. -/
def grainDelivered (id grain : Nat) (blocks : List LBlock) (metas : List Nat) (d : Device) : Device :=
  let d := match readCmd id d with
    | some r => if r.verify then d else sendOnLink 0x02 (sendOnLink 0x04 d)
    | none => d
  finishRead id (updReadGrain id grain (fun g => { g with stage := .ended, blocks := blocks, metas := metas }) d)

/-- A grain of a read ends with a failure. -/
def grainFailed (id grain sct sc : Nat) (dnr : Bool) (crd : Nat) (d : Device) : Device :=
  finishRead id (updReadGrain id grain (fun g => { g with stage := .ended, failed := some (sct, sc, dnr, crd) }) d)

/-- READ_UNRECOVERED, at most 64 a second (R248). -/
def recordUnrecovered (slot grain block step error : Nat) (d : Device) : Device :=
  let recent := d.media.rc.readRecords.filter fun t => decide (nowMs d < t + 1000)
  if 64 ≤ recent.length then incObj Obj.readRecordsSuppressed d
  else logRec Code.readUnrecovered [slot, grain, block, step, error]
    { d with media := { d.media with rc := { d.media.rc with readRecords := nowMs d :: recent } } }

/-- A grain is unrecovered (R236, R244, R245). -/
def grainUnrecovered (id grain step error : Nat) (d : Device) : Device :=
  match readCmd id d, readGrain id grain d with
  | some r, some g =>
    grainFailed id grain 0x2 0x81 false 0 (recordUnrecovered r.slot grain (blockOf g.pointer) step error (incObj Obj.grainsUnrecovered d))
  | _, _ => d

/-! ### Lookup (stages 2 and 3 of Table 8.1) -/

/-- An admitted command on the grain has not landed (R230). -/
def landingOn (slot grain : Nat) (d : Device) : Bool :=
  d.media.wp.writes.any fun w => w.slot = slot && !w.landed
    && (touchedRuns w).any fun t => decide (t.1 ≤ grain && grain < t.1 + t.2)

/-- A grain has data or an Unmap that is not durable: reads of it are served from DRAM (R73, R230). -/
def notDurable (slot grain : Nat) (d : Device) : Bool :=
  d.media.flight.any (fun g => g.cmd != 0 && g.stored.slot = slot && g.stored.grain = grain && !persistentSeq g.seq d)
    || d.media.wp.writes.any fun w => w.slot = slot && w.landed && w.unmaps.any fun u =>
        decide (u.1 ≤ grain && grain < u.1 + u.2.1) && !persistentSeq u.2.2 d

/-- The number of a read stream (R155): port, queue and NSID as one. -/
def streamOf (r : ReadCmd) : Nat := (r.port * 65536 + r.sqid) * 2 ^ 32 + r.slot + 1

/-- A Read with Force Unit Access waits until every grain that it covers is durable (R232). -/
def fuaWaits (r : ReadCmd) (d : Device) : Bool := r.fua && r.grains.any fun g => notDurable r.slot g.grain d

/-- The power-up request of a carrier that a read waits for is served next among those of the carriers still unpowered (R249, R491). -/
def stageNext (bank : Nat) (d : Device) : Device :=
  let powerUp (q : TokenReq) : Bool := (carrier q.bank d).awaitTokens == some q.id
  match d.res.waiting.find? fun q => q.bank = bank && powerUp q, d.res.waiting.find? powerUp with
  | some q, some first =>
    if q.id = first.id then d
    else
      let q' := { q with sinceMs := first.sinceMs, guard := first.guard }
      { d with res := { d.res with waiting := ((d.res.waiting.erase q).map fun x => if x.id = first.id then [q', x] else [x]).flatten } }
  | _, _ => d

/-- A grain of a read waits for its codewords, from the frames that a pointer names; a carrier that is not yet powered is staged next (R249). -/
def awaitCodewords (id grain ptr : Nat) (d : Device) : Device :=
  let (n, d) := newId d
  let bank := bankOfDie (dieOfBlock (blockOf ptr))
  let d := updReadGrain id grain (fun g => { g with stage := .codewords, pointer := ptr, arrival := n }) d
  if carrierStaging bank d then stageNext bank d else d

/-- A read has met a frame-range fault (R246): the line is reloaded and the entry looked up once more. A reload gives every entry of the line as it stands,
or fails, and then the entry is lost. -/
def lookupFault (id slot grain e : Nat) (d : Device) : Device :=
  if reloadBroken slot (lineOf grain) d then
    grainFailed id grain 0x2 0x81 true 0 (incObj Obj.lostGrainReads (lineReloaded slot (lineOf grain) false d))
  else grainFailed id grain 0x2 0x81 true 0 (frameRangeFault slot grain e d)

/-- Serve a grain that is not on the medium from where its newest form is held (R230): from its landing slot in the volatile write buffer, otherwise
from pool C or the pass-hold area, through stage 5; not before step 4 of Table 6.1 is finished. -/
def serveBuffered (id grain : Nat) (x : FlightGrain) (d : Device) : Device :=
  let d' := incObj Obj.grainReads (incObj Obj.grainReadsFromBuffers d)
  match x.placed with
  | none => d
  | some p =>
    if (writeCmd x.cmd d).any (·.buffered) then grainDelivered id grain x.stored.blocks x.stored.metas d'
    else dispatch (updReadGrain id grain (fun g => { g with stage := .inflate, pointer := pointerOf p.block p.frame, step := 0 }) d')

/-- Look a grain of a read up where it can be looked up now (R129, R228 to R232, R245, R246, R249). -/
def lookupReadGrain (id grain : Nat) (d : Device) : Device :=
  match readCmd id d, readGrain id grain d with
  | some r, some g =>
    if g.stage != .lookup || landingOn r.slot grain d || fuaWaits r d then d
    else
      let d' := incObj Obj.grainReads (incObj Obj.grainReadsFromBuffers d)
      if unmapNewest r.slot grain d then grainDelivered id grain zeroBlocks zeroMetas d'
      else match (newestInFlight r.slot grain d).filter (fun x => x.seq.isNone) with
        | some x =>
          if x.zero then grainDelivered id grain zeroBlocks zeroMetas d'
          else serveBuffered id grain x d
        | none =>
          if !lookupReady r.slot grain d then askPage 1 r.slot (pageOf grain) d
          else
            let e := mapEntry r.slot grain d
            let d := incObj Obj.grainReads (lookupEntry (streamOf r) r.slot grain d)
            match classify e d with
            | .unmapped => grainDelivered id grain zeroBlocks zeroMetas d
            | .lost => grainFailed id grain 0x2 0x81 true 0 (incObj Obj.lostGrainReads d)
            | .malformed => lookupFault id r.slot grain e d
            | .pointer => if frameRangeBad e d then lookupFault id r.slot grain e d else awaitCodewords id grain e d
  | _, _ => d

/-- Look every grain of a read up. -/
def lookupAll (id : Nat) (d : Device) : Device :=
  match readCmd id d with
  | some r => r.grains.foldl (fun d g => lookupReadGrain id g.grain d) d
  | none => d

/-- A lookup of a read stream, and the reads that wait for the grain are looked up again. -/
def lookupCommand (stream slot grain : Nat) (d : Device) : Device :=
  let d := readDirectory (pageKey slot (pageOf grain)) d
  let waiting := (d.media.wp.reads.filter fun r => r.slot = slot && r.grains.any fun g => g.grain = grain && g.stage == .lookup).map (·.id)
  let d := if waiting.isEmpty then lookupEntry stream slot grain d else d
  waiting.foldl (fun d id => lookupReadGrain id grain d) d

/-! ### The recovery ladder (R236 to R243) -/

/-- An operation of a die times out (R64, R65): Reset LUN, counted and recorded; the second in a row fails the die. -/
def operationTimeout (n func : Nat) (d : Device) : Device :=
  let d := logRec Code.operationTimeout [n, func] (incObj (Obj.channelOpTimeouts (channelOfDie n)) d)
  let d := updDie n (fun x => { x with timeouts := x.timeouts + 1 }) d
  if 2 ≤ (die n d).timeouts then failDie n 1 d else d

/-! ### Reconstruction (R239 to R243) -/

/-- The members whose images make the parity of row `r` of a stripe: those that were not lost before (R195, R239). -/
def rowSet (n r : Nat) (d : Device) : List (Nat × Nat) :=
  (stripe n d).members.filter fun m => !(stripe n d).without.any fun x => x.1 = m.1 && x.2 ≤ r

/-- The stripe row of a codeword of a block (R194). -/
def rowOf (b cw : Nat) (d : Device) : Nat := cw / 10 + (block b d).contRow

/-- The block of plane `q` of a member die in which row `r` of a stripe lies: of its groups, the continuation that starts last at or before the row. -/
def peerBlock (n dieNo q r : Nat) (d : Device) : Option Nat :=
  ((d.media.blocks.filter fun e => e.2.stripe = n && dieOfBlock e.1 = dieNo && planeOfBlock e.1 = q && e.2.state != 0
      && decide (e.2.contRow ≤ r)).foldl (fun (best : Option (Nat × Block)) e => match best with
    | none => some e
    | some x => if x.2.contRow < e.2.contRow then some e else some x) none).map (·.1)

/-- A member's image of row `r` is still held in its pass-hold area, or in pool C before its coarse pass (R241): its fine pass has not run. -/
def heldInDram (n r : Nat) (m : Nat × Nat) (d : Device) : Bool :=
  let g := group m.2 (groupSlot (stripe n d).kind) d
  g.used && g.stripe = n && decide (g.rowBase + g.fine ≤ r)

/-- The data index of a member (R185). -/
def dataIndex (n : Nat) (m : Nat × Nat) (d : Device) : Nat :=
  (((stripe n d).members.filter fun x => memberRole x.2 n d = 0).findIdx? (· == m)).getD 0

/-- What a member brings to a reconstruction: its bank and die, its role, its data index, and its image, none where it is an unknown. -/
structure Image where
  die : Nat := 0
  role : Nat := 0
  index : Nat := 0
  word : Option Nat := none
  deriving DecidableEq, Repr, Inhabited

/-- A peer's image: from DRAM where it is held there; a data peer's by L1 to L4 of its own block at its own step, a parity peer's from a hard read that is
not decoded. A peer that is not read, or cannot be, or whose read times out, is an unknown (R239 to R242). -/
def peerImage (n r q k : Nat) (ps : List PeerReads) (m : Nat × Nat) (ran : List Nat) (d : Device) : Image × List Nat × Device :=
  let x : Image := { die := m.2, role := memberRole m.2 n d, index := dataIndex n m d }
  match ps.find? (·.bank == m.1) with
  | none => (x, ran, d)
  | some p =>
    if heldInDram n r m d then ({ x with word := some p.image }, ran, d)
    else if dieUnreadable m.2 d || (stripe n d).lost.contains m.1 then (x, ran, d)
    else if p.timedOut then (x, ran, operationTimeout m.2 0x08 d)
    else match peerBlock n m.2 q r d with
      | none => (x, ran, d)
      | some b =>
        if x.role = 0 then
          let c := climbOwn b ((r - (block b d).contRow) * 10 + k) p.reads false ran d
          let d := if 4 ≤ c.step then queueRefresh b c.dev else c.dev
          ({ x with word := c.word }, c.ran, d)
        else ({ x with word := some p.reads.first }, ran, loadOffsets b 0 d)

/-- The images of every member of the row's parity set but the one that is reconstructed. -/
def peerImages (n r q k : Nat) (ps : List PeerReads) : List (Nat × Nat) → List Nat → Device → List Image × List Nat × Device
  | [], ran, d => ([], ran, d)
  | m :: ms, ran, d =>
    let (x, ran, d) := peerImage n r q k ps m ran d
    let (xs, ran, d) := peerImages n r q k ps ms ran d
    (x :: xs, ran, d)

/-- The unknown data images by data index, from the parity images that are known (R242); none where there are too many unknowns. -/
def solveUnknowns (xs : List Image) : Option (List (Nat × Nat)) :=
  let data := xs.filter (·.role == 0)
  let known := data.filterMap fun x => x.word.map (x.index, ·)
  let p := (xs.find? (·.role == 1)).bind (·.word)
  let q := (xs.find? (·.role == 2)).bind (·.word)
  match (data.filter (·.word.isNone)).map (·.index), p, q with
  | [j], some p, _ => some [(j, p ^^^ sumWords known)]
  | [j], none, some q => some [(j, gfWord (gfInv (gfPow j)) (q ^^^ sumScaled known))]
  | [j, k], some p, some q =>
    let a := p ^^^ sumWords known
    let b := q ^^^ sumScaled known
    let x := gfWord (gfInv (gfPow j ^^^ gfPow k)) (b ^^^ gfWord (gfPow k) a)
    some [(j, x), (k, a ^^^ x)]
  | _, _, _ => none

/-- A reconstructed image decodes with the code of its member: hard decision first, then soft decision with the magnitudes of the parity page's level-1
reads (R243). -/
def decodeImage (s : Nat) (soft1 : List Nat) (word : Nat) (d : Device) : Bool × Device :=
  let o := decodeHard s word
  let d := countAttempt false o d
  if (o.word word).isSome then (true, d)
  else
    let o := decodeWith true 40 s word fun i => softMagnitude 1 (softBin 1 soft1 i)
    ((o.word word).isSome, countAttempt true o d)

/-- Every solved image decodes at its member's step. -/
def decodeImages (n r q : Nat) (soft1 : List Nat) (xs : List Image) : List (Nat × Nat) → Device → Bool × Device
  | [], d => (true, d)
  | (j, w) :: rest, d =>
    let s := match (xs.find? fun x => x.role = 0 && x.index = j).bind fun x => peerBlock n x.die q r d with
      | some b => (block b d).step
      | none => 7
    let (ok, d) := decodeImage s soft1 w d
    let (others, d) := decodeImages n r q soft1 xs rest d
    (ok && others, d)

/-- L5: reconstruct codeword `cw` of block `b` from its stripe (R239 to R243). -/
def reconstruct (b cw : Nat) (ps : List PeerReads) (ran : List Nat) (d : Device) : Bool × List Nat × Device :=
  let n := (block b d).stripe
  let r := rowOf b cw d
  let q := planeOfBlock b
  match (rowSet n r d).find? fun m => m.2 == dieOfBlock b with
  | none => (false, ran, d)
  | some me =>
    let (xs, ran, d) := peerImages n r q (cw % 10) ps ((rowSet n r d).filter (· != me)) ran d
    let all : List Image := { die := me.2, index := dataIndex n me d } :: xs
    match solveUnknowns all with
    | none => (false, ran, d)
    | some ws =>
      let used : Nat := if ((xs.find? (·.role == 1)).bind (·.word)).isSome then 1 else 2
      let bank := ((xs.find? (·.role == used)).map (·.die / 256)).getD 16
      let soft1 := ((ps.find? (·.bank == bank)).map (·.reads.soft1)).getD []
      let (ok, d) := decodeImages n r q soft1 all ws d
      (ok, ran, d)

/-! ### The ladder of a grain (R233, R236 to R238) -/

/-- Count the codewords by the step at which they decoded (Table 8.6). -/
def countSteps (steps : List Nat) (d : Device) : Device :=
  let n (k : Nat) : Nat := (steps.filter (· == k)).length
  addObj Obj.recoveredL2 (n 2) (addObj Obj.recoveredL3 (n 3) (addObj Obj.recoveredL4 (n 4) (addObj Obj.recoveredL5 (n 5)
    (addObj Obj.reconstructionFailures (n 6) d))))

/-- One codeword of a read: L1 to L4 where its die can be read and the read has not timed out, then L5. The step at which it decodes, 6 for none. -/
def climbLadder (b cw : Nat) (r : CodewordReads × List PeerReads) (toL5 limited : Bool) (ran : List Nat) (d : Device) : Nat × List Nat × Device :=
  let c : Climb := if toL5 then { ran := ran, dev := d } else climbOwn b cw r.1 limited ran d
  if c.word.isSome then (c.step, c.ran, c.dev)
  else
    let (ok, ran, d) := reconstruct b cw r.2 c.ran c.dev
    (if ok then 5 else 6, ran, d)

/-- The codewords of a grain, one after another: the steps at which they decode. -/
def climbGrain (b : Nat) (toL5 limited : Bool) : List Nat → List (CodewordReads × List PeerReads) → List Nat → Device → List Nat × Device
  | [], _, _, d => ([], d)
  | cw :: cws, rs, ran, d =>
    let (s, ran, d) := climbLadder b cw (rs.head?.getD ({}, [])) toL5 limited ran d
    let (ss, d) := climbGrain b toL5 limited cws (rs.drop 1) ran d
    (s :: ss, d)

/-- A grain's codewords are read and climb the ladder: the highest step that one of them needed, 6 where one is unrecovered. A read that times out is
handled by R64 and R65, and goes on at L5 (R237). -/
def gatherGrain (ptr frames : Nat) (a : ArrayRead) (limited : Bool) (d : Device) : Nat × Device :=
  let b := blockOf ptr
  let n := dieOfBlock b
  let unreadable := blockUnreadable b d
  let d := if unreadable then d else if a.timedOut then operationTimeout n 0x08 d else updDie n (fun x => { x with timeouts := 0 }) d
  let (steps, d) := climbGrain b (unreadable || a.timedOut) limited (grainCodewords (block b d).step (frameOf ptr) frames) a.codewords [] d
  let d := countSteps steps d
  let top := steps.foldl max 1
  (top, if 4 ≤ top then queueRefresh b d else d)

/-- A read of a grain can run on its die now: the die is not busy, or its operation is suspended (R66), no sample wordline it touches still waits for its
fresh read (R116), and the read's tokens are free (R78, R80). A grain whose die cannot be read takes none. -/
def readRuns (ptr frames : Nat) (d : Device) : Bool :=
  let b := blockOf ptr
  let n := dieOfBlock b
  blockUnreadable b d ||
    (!(opRuns n d && !(die n d).op.suspended)
      && !waitsFresh ptr frames d
      && chargeFits (bankOfDie n) (opTokens (profileOf n d) 1) d)

/-- The operation that was suspended for a read goes on after it (R66). -/
def resumeOp (n : Nat) (d : Device) : Device := updDie n (fun x => { x with op := { x.op with suspended := false } }) d

/-- The codewords of a grain of a read climb the ladder (R233, R236 to R238, R250). -/
def ladder (id grain : Nat) (a : ArrayRead) (d : Device) : Device :=
  match readCmd id d, readGrain id grain d with
  | some r, some g =>
    let frames := (smGet {} d.media.stored g.pointer).frames
    let n := dieOfBlock (blockOf g.pointer)
    if g.stage != .codewords || carrierStaging (bankOfDie n) d || !readRuns g.pointer frames d
        || (!blockUnreadable (blockOf g.pointer) d && hostReadAhead n g.arrival d) then d
    else
      let inhibited := bitOf (getObj (Obj.carrierThermalState (bankOfDie n)) d) 1 && dieInService n d
      let (top, d) := gatherGrain g.pointer frames a (r.limited || r.tlerMs.isSome) (sendOnLink (0x20 + bankOfDie n) d)
      let d := resumeOp n d
      if top = 6 then
        if inhibited then grainFailed id grain 0x0 0x82 false 1 (incObj Obj.readsRefusedInhibited d)
        else grainUnrecovered id grain 5 0 d
      else dispatch (updReadGrain id grain (fun g => { g with stage := .inflate, step := top }) d)
  | _, _ => d

/-! ### Decompression (R219 to R222, R244) -/

/-- A run of a decompression engine on a grain of a read (R221): its data, or the first row of Table 7.6 that fails. Bytes that were read as they were stored give
the data that was stored, where the rows that the map, the namespace and the keys decide pass; `slip` is a fault of the engine's own. -/
def engineRun (r : ReadCmd) (grain pointer : Nat) (bytes : Option (List Byte)) (slip : Nat) (d : Device) : Except Nat (List LBlock × List Nat) :=
  let s := smGet {} d.media.stored pointer
  let metaSize := metaBytes (namespace_ r.slot d).flbas
  let run : Except Nat (List LBlock × List Nat) := match bytes with
    | some bs => decodeGrain r.slot grain pointer metaSize bs d
    | none =>
      if s.slot != r.slot || s.grain != grain then .error 2
      else if s.metaCode * 8 != metaSize || framesPerBlock (block (blockOf pointer) d).step < frameOf pointer + s.frames then .error 3
      else if !d.sec.loaded.contains s.keySlot then .error 4
      else .ok (s.blocks, s.metas)
  match run with
  | .ok x => if 5 ≤ slip && slip ≤ 10 then .error slip else .ok x
  | .error e => .error (if 5 ≤ e && 5 ≤ slip && slip ≤ 10 then slip else e)

/-- An engine disagrees with another that succeeds (R222). -/
def engineDisagrees (bad good error : Nat) (d : Device) : Device :=
  let d := incObj Obj.engineDisagreements d
  if getObj Obj.decompressionEnginesInService d ≤ 1 then d
  else
    let d := logRec Code.decompressionEngineDisagree [bad, good, error] d
    let (n, d) := engineFault (bad + 8) d
    if 3 ≤ n && !(d.media.wp.offline.contains (bad + 8)) then
      logRec Code.decompressionEngineOffline [bad, n]
        (setObj Obj.decompressionEnginesInService (getObj Obj.decompressionEnginesInService d - 1) (retireEngine (bad + 8) d))
    else d

/-- A grain of a read has passed stage 5 with its data; the delivery may still fail (stage 6). -/
def deliver (id grain : Nat) (data : List LBlock × List Nat) (fault : Option (Nat × Nat)) (d : Device) : Device :=
  match readCmd id d with
  | some r =>
    match fault with
    | none => grainDelivered id grain data.1 data.2 d
    | some (sct, sc) =>
      if sct = 0x2 then grainFailed id grain sct sc true 0 d
      else if r.verify then grainDelivered id grain data.1 data.2 d
      else
        let d := countMemoryFault r.port sct sc (dropRead id d)
        advanceChannel r.channel
          (failWith r.host sct sc (dnrOf sct sc) 0 0 0xFFFF 0 { d with sub := { d.sub with readCmds := d.sub.readCmds + 1 } })
  | none => d

/-- Every run on a grain of a read has failed with error `e`: KEY_UNAVAILABLE is not retried, and any other error sends the grain to the verification
reconstruction (R221, R222, R244). -/
def decompressFails (r : ReadCmd) (grain pointer e : Nat) (x : Inflated) (d : Device) : Device :=
  let d := incObj (Obj.decompressErrors e) d
  if e = 4 then grainFailed r.id grain 0x2 0x86 true 0 d
  else match (if x.substituted then engineRun r grain pointer x.again x.slip3 d else .error e) with
    | .ok data => deliver r.id grain data x.fault (incObj Obj.verificationRecoveries d)
    | .error _ => grainUnrecovered r.id grain 6 e d

/-- A Read's channel takes the read-out buffer of a grain, which holds the data until they are moved; the grain goes on with it. With the pool empty the
grain stays in work at its engine until the retry (R503). A Verify moves nothing and takes none. -/
def withReadOut (r : ReadCmd) (grain : Nat) (k : Device → Device) (d : Device) : Device :=
  if r.verify then k d
  else match takeBuffer (0x10 + r.channel) 4 false d with
    | (some i, d) => k (updReadGrain r.id grain (fun g => { g with buffer := some i }) d)
    | (none, d) => d

/-- The decompression engine that has a grain of a read in work ends its run (R221, R222, R225, R244). -/
def decompress (id grain engine : Nat) (x : Inflated) (d : Device) : Device :=
  match readCmd id d, readGrain id grain d with
  | some r, some g =>
    match (if g.stage == .inflate then endJobAt (engine + 8) id grain d else none) with
    | none => d
    | some _ => withReadOut r grain (fun d =>
      match endJobAt (engine + 8) id grain d with
      | none => d
      | some (_, d) =>
      dispatch (match engineRun r grain g.pointer x.bytes x.slip d with
        | .ok data => deliver id grain data x.fault d
        | .error e =>
          if e < 5 then decompressFails r grain g.pointer e x d
          else match engineRun r grain g.pointer x.bytes x.slip2 d with
            | .ok data => deliver id grain data x.fault (engineDisagrees engine x.engine2 e d)
            | .error _ => decompressFails r grain g.pointer e x d)) d
  | _, _ => d

/-! ### Host commands -/

/-- A Read or Verify is admitted, and its grains are looked up (R228). -/
def startRead (c : HostCmd) (slba nlb : Nat) (verify fua limited : Bool) (context : Nat) (d : Device) : Device :=
  let (id, d) := newId d
  let (first, n) := grainsTouched slba nlb
  let r : ReadCmd := { id := id, port := c.port.val, sqid := c.sqid, cid := c.cid, slot := slotOf c, slba := slba, nlb := nlb,
                       verify := verify, fua := fua, limited := limited, channel := pickChannel d, context := some context, fetchMs := nowMs d,
                       grains := (List.range n).map fun i => { grain := first + i } }
  let d := if limited && !verify then incObj Obj.limitedRetryReads d else d
  let d := updWp (fun w => { w with reads := w.reads ++ [r] }) d
  let d := if fua then closeFor (fun g => g.stored.slot = r.slot && decide (first ≤ g.stored.grain && g.stored.grain < first + n)) d else d
  lookupAll id d

/-- READ after its fetch (R228, Table 8.4). -/
def readBody (i : Instr) (c : HostCmd) (slba nlb : Nat) (fua limited : Bool) (pointers : DataPointers) (d : Device) : Device :=
  blockChecks c slba nlb true true .reads (fun d => match pointerFault c.port.val (transferBytes (slotOf c) nlb d) pointers d with
    | some sc => failWith c 0x0 sc (dnrOf 0x0 sc) 0 0 (pointerField 0x0 sc) 0 (countMemoryFault c.port.val 0x0 sc d)
    | none => holdContext i c (startRead c slba nlb false fua limited) d) d

/-- VERIFY after its fetch. -/
def verifyBody (i : Instr) (c : HostCmd) (slba nlb : Nat) (limited : Bool) (d : Device) : Device :=
  blockChecks c slba nlb true false .reads (holdContext i c (startRead c slba nlb true false limited)) d

/-- TLER (R372): past TLER × 100 ms the undecoded codewords go to L5; past a further TLER × 100 ms the read fails. -/
def tlerExpires (id : Nat) (d : Device) : Device :=
  match readCmd id d with
  | none => d
  | some r =>
    let t := 100 * (namespace_ r.slot d).tler
    if t = 0 || r.verify then d
    else match r.tlerMs with
      | none => if r.fetchMs + t < nowMs d then updRead id (fun r => { r with tlerMs := some (nowMs d) }) d else d
      | some s =>
        if nowMs d < s + t then d
        else
          let lba := match r.grains.find? (·.stage != .ended) with | some g => max r.slba (16 * g.grain) | none => r.slba
          let d := dropRead id d
          advanceChannel r.channel (failWith r.host 0x2 0x81 false 0 lba 0xFFFF 0
            { d with sub := { d.sub with readCmds := d.sub.readCmds + 1 } })

/-! ### Meanings -/

/-- A transfer ends: the landing buffers that the command needs are asked for, and with all of them held its data are landed and its channel goes on
(Table 6.1, R503). -/
def dataLanded (w : WriteCmd) (landing : Landing) (d : Device) : Device :=
  if w.landed || (w.kind = 0 && !channelTurn w.channel w.id d) then d
  else
    let d := takeLanding w.id d
    if landingHeld w.id d then advanceChannel w.channel (landWrite w.id landing (sendOnLink 0x03 (sendOnLink 0x01 d))) else d

/-- DATA_LANDED (R501): a transfer ends only while the port moves data. -/
def execDataLanded (id : Nat) (landing : Landing) (s : State) : Host.Outcome State Fault Refusal :=
  runDev (fun d => match writeCmd id d with
    | some w => onlyIf (portSends w.port d) (dataLanded w landing) d
    | none => d) s

/-- MAP_LOOKUP (R140, R173). -/
def execMapLookup (stream slot grain : Nat) (s : State) : Host.Outcome State Fault Refusal := runDev (lookupCommand stream slot grain) s

/-- ARRAY_READ_COMPLETE (R236). -/
def execArrayReadComplete (id grain : Nat) (result : ArrayRead) (s : State) : Host.Outcome State Fault Refusal :=
  runDev (ladder id grain result) s

/-- GRAIN_DECOMPRESS (R221). -/
def execGrainDecompress (id grain : Nat) (engine : Fin 16) (result : Inflated) (s : State) : Host.Outcome State Fault Refusal :=
  runDev (decompress id grain engine.val result) s

/-- READ (R228). -/
def execRead (cmd : HostCmd) (slba nlb : Nat) (fua limited : Bool) (pointers : DataPointers) (s : State) :
    Host.Outcome State Fault Refusal :=
  runDev (ioCommand (.read cmd slba nlb fua limited pointers) cmd
    (readBody (.read cmd slba nlb fua limited pointers) cmd slba nlb fua limited pointers)) s

/-- VERIFY (R228). -/
def execVerify (cmd : HostCmd) (slba nlb : Nat) (limited : Bool) (s : State) : Host.Outcome State Fault Refusal :=
  runDev (ioCommand (.verify cmd slba nlb limited) cmd (verifyBody (.verify cmd slba nlb limited) cmd slba nlb limited)) s

/-- TLER_EXPIRY (R372). -/
def execTlerExpiry (id : Nat) (s : State) : Host.Outcome State Fault Refusal := runDev (tlerExpires id) s

end Sys2Proof.Machine
end

