-- ==== Sys2Proof/Machine/Reclaim.lean ====
section
/-! DEFINITION. The bolter, stripe release, wear levelling, the drift gauge, the calendar and the next wake (spec/09). -/
namespace Sys2Proof.Machine

/-- Change the reclaim state. -/
def updRc (f : Reclaim → Reclaim) (d : Device) : Device := { d with media := { d.media with rc := f d.media.rc } }

/-! ### Live grains -/

/-- The data blocks of a stripe that carry a stream and are not yet emptied: open, closed or failing. -/
def dataBlocks (n : Nat) (d : Device) : List Nat :=
  (d.media.blocks.filter fun e => e.2.stripe = n && e.2.role = 0 && (e.2.state = 1 || e.2.state = 2 || e.2.state = 4)).map (·.1)

/-- A stored grain is live: its map entry points at it (R261). -/
def liveAt (ptr : Nat) (g : StoredGrain) (d : Device) : Bool := mapEntry g.slot g.grain d = ptr

/-- The live grains of a stripe with their pointers, lowest bank first. -/
def liveGrains (n : Nat) (d : Device) : List (Nat × StoredGrain) :=
  let bs := dataBlocks n d
  d.media.stored.filter fun e => bs.contains (blockOf e.1) && liveAt e.1 e.2 d

/-- A relocated copy of the grain at a pointer waits in DRAM. -/
def relocating (ptr : Nat) (d : Device) : Bool := d.media.flight.any fun g => g.cmd = 0 && g.old == some ptr && g.seq.isNone

/-- Every closed data block of a stripe without a live grain becomes empty (R261, R281); a failing one stays failing. -/
def emptyBlocks (n : Nat) (d : Device) : Device :=
  let live := (liveGrains n d).map fun e => blockOf e.1
  ((dataBlocks n d).filter fun b => !live.contains b && (block b d).state = 2).foldl
    (fun d b => updBlock b (fun e => { e with state := 3, scrubDue := 0xFFFFFFFF, valid := 0 }) d) d

/-- Read a live grain and hand it to compression, which passes it through; it waits for its place (R261, R223). `restriping` tells which
engine moves it. -/
def startRelocation (restriping : Bool) (ptr : Nat) (g : StoredGrain) (d : Device) : Device :=
  let (id, d) := newId d
  let parity := (namespace_ g.slot d).parity
  let d := incObj Obj.grainReads (incObj Obj.grainsPassedThrough d)
  let d := if restriping then d else addObj Obj.framesRelocated g.frames d
  let fresh (w : Nat) (xs : List (Nat × Nat)) : List (Nat × Nat) := (xs.filter fun e => decide (nowMs d < e.1 + w)) ++ [(nowMs d, g.frames)]
  let d := updRc (fun rc =>
    if restriping then { rc with recentRestripe := fresh 1000 rc.recentRestripe }
    else { rc with recentBolter := fresh 1000 rc.recentBolter, epochMoved := rc.epochMoved + g.frames }) d
  let d := updWp (fun w => { w with recentMoved := (w.recentMoved.filter fun e => decide (nowMs d < e.1 + 10000)) ++ [(nowMs d, g.frames, parity)] }) d
  let x : FlightGrain := { id := id, slot := g.slot, grain := g.grain, old := some ptr, stored := g }
  placeWaiting { d with media := { d.media with flight := d.media.flight ++ [x] } }

/-- A relocation read of a grain (R229, R236): none while its die is busy or its tokens are not free, otherwise whether it is unrecovered. -/
def relocationRead (ptr : Nat) (g : StoredGrain) (a : ArrayRead) (d : Device) : Option Bool × Device :=
  let n := dieOfBlock (blockOf ptr)
  if !readRuns ptr g.frames d || carrierStaging (bankOfDie n) d || ((opRuns n d || !dieFree n d) && !blockUnreadable (blockOf ptr) d) then (none, d)
  else
    let (top, d) := gatherGrain ptr g.frames a false d
    (some (top == 6), d)

/-! ### Reconciliation (R258, R259) -/

/-- Reconcile a block: the frames of its released grains leave ValidFrames. -/
def reconcile (b : Nat) (d : Device) : Device :=
  let mine := d.media.rc.released.filter (·.1 == b)
  let frames := (mine.map fun e => (smGet {} d.media.stored (pointerOf b e.2)).frames).sum
  let d := if mine.isEmpty then d else updBlock b (fun e => { e with valid := e.valid - frames }) d
  updRc (fun rc => { rc with released := rc.released.filter (·.1 != b) }) d

/-- RELEASE_RECONCILE (R259), which reads the block's footer: its bytes, where it does not read as it was written. -/
def execReleaseReconcile (block : Nat) (footer : Option (List Byte)) (s : State) : Host.Outcome State Fault Refusal :=
  runDev (fun d =>
    let own := (d.media.rc.released.filter (·.1 == block)).length
    onlyIf (decide (64 ≤ own) || (own != 0 && decide (50331648 ≤ d.media.rc.released.length)))
      (fun d => reconcile block (match footer with | some bs => footerRead d (block, bs) | none => d)) d) s

/-! ### Victims (R263 to R268) -/

/-- The bolter selects and relocates only in M5, M6 and M7 (R267). -/
def bolterMode (d : Device) : Bool := match d.ctl.mode with | .m5 | .m6 | .m7 => true | _ => false

/-- The remaining thermal age of a block before its refresh, below zero when past (R285): 0 is its due age when refresh is due or queued. -/
def remaining (b : Nat) (e : Block) (d : Device) : Int :=
  let rc := d.media.rc
  let due : Nat := if e.refreshDue || rc.q1.contains e.stripe || rc.q2.contains e.stripe || rc.q3.contains e.stripe then 0
    else min e.scrubDue (e.closeAge + getObj Obj.refreshAgeMax d)
  (due : Int) - thermalAge (dieOfBlock b) d

/-- The earliest refresh due age of a stripe's data blocks, less the age of the die (the order within queue 1; notes/assumptions/30.md). -/
def refreshOrder (n : Nat) (d : Device) : Int :=
  (dataBlocks n d).foldl (fun m b =>
    let e := block b d
    min m ((min e.scrubDue (e.closeAge + getObj Obj.refreshAgeMax d) : Nat) - (thermalAge (dieOfBlock b) d : Int))) (2 ^ 40)

/-- Live frames and capacity of a stripe's data blocks (R264). -/
def stripeLoad (n : Nat) (d : Device) : Nat × Nat :=
  let bs := dataBlocks n d
  ((bs.map fun b => (block b d).valid).sum, (bs.map fun b => framesPerBlock (block b d).step - 1).sum)

/-- Mean erase count of the good blocks of a stripe's dies, and of its data blocks. -/
def eraseMeans (n : Nat) (d : Device) : Rat × Rat :=
  let dies := (stripe n d).members.map (·.2)
  let good := (dies.map fun x => ((List.range 4).map fun p => goodInPlane x p d).sum).sum
  let unlisted := (dies.map fun x => (die x d).sweeps * (16384 - (d.media.blocks.filter fun e => dieOfBlock e.1 = x).length)).sum
  let sum := unlisted + ((d.media.blocks.filter fun e => dies.contains (dieOfBlock e.1) && (block e.1 d).state != 4 && (block e.1 d).state < 5).map
    fun e => eraseCount e.1 e.2 d).sum
  let bs := dataBlocks n d
  let own := (bs.map fun b => eraseCount b (block b d) d).sum
  ((sum : Rat) / (good : Rat), (own : Rat) / (bs.length : Rat))

/-- The score of R264; 0 for a stripe without dead frames. -/
def score (n : Nat) (d : Device) : Rat :=
  let (live, cap) := stripeLoad n d
  if cap ≤ live then 0
  else
    let u : Rat := (live : Rat) / (cap : Rat)
    let closed := ((dataBlocks n d).map fun b => (block b d).closeHours).foldl max 0
    let age : Nat := min 8760 (max 1 ((hours d - closed) / 16))
    let (dieMean, own) := eraseMeans n d
    let wear := 1 + max 0 (dieMean - own) / (getObj Obj.wearWeight d : Rat)
    (1 - u) * (age : Rat) * wear / (1 + u)

/-- The stripes that may be chosen by score (R265). -/
def eligibleStripes (d : Device) : List Nat :=
  (d.media.stripes.filter fun e =>
    !e.2.isOpen && e.2.kind != 3 && e.2.pinned.isEmpty && e.2.lost.isEmpty
      && e.2.members.all (fun m => dieInService m.2 d && carrierState m.1 d != 0x03)
      && (e.2.closeMs = 0 || decide (e.2.closeMs + 60000 ≤ nowMs d))
      && !(d.media.restripe.any fun r => r.stripe = e.1)).map (·.1)

/-- The stripe of the highest score above 0, the lowest StripeId among equals. -/
def bestByScore (d : Device) : Option Nat :=
  ((eligibleStripes d).foldl (fun (best : Option (Nat × Rat)) n =>
    let s := score n d
    if s ≤ 0 then best
    else match best with
      | none => some (n, s)
      | some (m, t) => if t < s then some (n, s) else some (m, t)) none).map (·.1)

/-- The stripes of a queue that are closed: an open one is relocated once it has closed. -/
def closedOf (q : List Nat) (d : Device) : List Nat := q.filter fun n => !(stripe n d).isOpen

/-- The first stripe of queue 1: earliest refresh due first, arrival among equals. -/
def earliestDue (d : Device) : Option Nat :=
  ((closedOf d.media.rc.q1 d).foldl (fun (best : Option (Nat × Int)) n =>
    let k := refreshOrder n d
    match best with
    | none => some (n, k)
    | some (m, t) => if k < t then some (n, k) else some (m, t)) none).map (·.1)

/-- PHYSICALLY_FULL once per occurrence: no room, and no eligible stripe with a dead frame (R268). -/
def notePhysicallyFull (d : Device) : Device :=
  let es := eligibleStripes d
  let f := getObj Obj.freePermille d
  if getObj Obj.reclaimStopPermille d < f || getObj Obj.physicallyFull d = 1
      || es.any (fun n => decide ((stripeLoad n d).1 < (stripeLoad n d).2)) then d
  else
    let live := es.map fun n => (stripeLoad n d).1
    logRec Code.physicallyFull [f, live.foldl min (live.head?.getD 0)] (setObj Obj.physicallyFull 1 d)

/-- The next victim of Table 9.2; queue 5 opens below S, and its second band is still while throttling is active (R266, R267). -/
def nextVictim (d : Device) : Option Nat :=
  let rc := d.media.rc
  let f := getObj Obj.freePermille d
  if !(closedOf rc.q1 d).isEmpty then earliestDue d
  else if !(closedOf rc.q2 d).isEmpty then (closedOf rc.q2 d).head?
  else if !(closedOf rc.q3 d).isEmpty then (closedOf rc.q3 d).head?
  else if !(closedOf rc.q4 d).isEmpty then (closedOf rc.q4 d).head?
  else if f < getObj Obj.reclaimStartPermille d && !(getObj Obj.reclaimUrgentPermille d ≤ f && throttlingActive d) then bestByScore d
  else none

/-- Select the next victim where none is being relocated; the blocks of a stripe that is scored are reconciled first (R259). Of the footers that are read,
those that do not read as they were written come with the command, by block. -/
def selectVictim (footers : List (Nat × List Byte)) (d : Device) : Device :=
  if !bolterMode d || d.media.rc.victim.isSome then d
  else
    let d := footers.foldl footerRead d
    let d := (eligibleStripes d).foldl (fun d n => (dataBlocks n d).foldl (fun d b => reconcile b d) d) d
    let d := notePhysicallyFull d
    match nextVictim d with
    | none => d
    | some n =>
      let d := (dataBlocks n d).foldl (fun d b => reconcile b d) d
      let (live, cap) := stripeLoad n d
      updRc (fun rc => { rc with q1 := rc.q1.erase n, q2 := rc.q2.erase n, q3 := rc.q3.erase n, q4 := rc.q4.erase n,
                                 victim := some n, victimLive := live, victimCap := cap }) d

/-- VICTIM_SELECT (R263). -/
def execVictimSelect (footers : List (Nat × List Byte)) (s : State) : Host.Outcome State Fault Refusal := runDev (selectVictim footers) s

/-! ### Relocation and pins (R261, R262, R266) -/

/-- Stored frames moved within the last second. -/
def lastSecond (xs : List (Nat × Nat)) (d : Device) : Nat := ((xs.filter fun e => decide (nowMs d < e.1 + 1000)).map (·.2)).sum

/-- The second band of Table 9.3 lets the bolter move a further grain of so many frames. -/
def bolterMoves (frames : Nat) (d : Device) : Bool :=
  let f := getObj Obj.freePermille d
  if getObj Obj.reclaimUrgentPermille d ≤ f && f < getObj Obj.reclaimStartPermille d then
    !throttlingActive d
      && decide ((lastSecond d.media.rc.recentBolter d + frames) * 4096 ≤ 1000000 * getObj Obj.reclaimBackgroundMBps d)
  else true

/-- Pin a grain that relocation could not read (R262). -/
def pinGrain (n ptr : Nat) (g : StoredGrain) (d : Device) : Device :=
  let b := blockOf ptr
  let d := recordUnrecovered g.slot g.grain b 5 0 (incObj Obj.grainsUnrecovered d)
  logRec Code.relocationPinned [n, b, g.grain]
    (updBlock b (fun e => { e with pinned := true })
      (updStripe n (fun t => { t with pinned := t.pinned ++ [(g.slot, g.grain)], pinHours := if t.pinned.isEmpty then hours d else t.pinHours }) d))

/-- The pinned grains of a stripe whose entries still point into it; when none is left its pins are cleared. -/
def refreshPins (n : Nat) (d : Device) : Device :=
  let st := stripe n d
  if st.pinned.isEmpty then d
  else
    let live := liveGrains n d
    let keep := st.pinned.filter fun k => live.any fun e => e.2.slot = k.1 && e.2.grain = k.2
    let d := updStripe n (fun t => { t with pinned := keep }) d
    if keep.isEmpty then emptyBlocks n ((dataBlocks n d).foldl (fun d b => updBlock b (fun e => { e with pinned := false }) d) d) else d

/-- The next grain of the victim is relocated, or pinned where it is unrecovered; a victim with no further grain is done. -/
def relocateNext (a : ArrayRead) (d : Device) : Device :=
  if !bolterMode d then d
  else match d.media.rc.victim with
    | none => d
    | some n =>
      let pinned := (stripe n d).pinned
      let live := (liveGrains n d).filter fun e => !pinned.contains (e.2.slot, e.2.grain)
      match live.find? fun e => !relocating e.1 d with
      | some (ptr, g) =>
        if !bolterMoves g.frames d then d
        else match relocationRead ptr g a d with
          | (none, d) => d
          | (some true, d) => pinGrain n ptr g d
          | (some false, d) => startRelocation false ptr g d
      | none =>
        let d := emptyBlocks n d
        if live.isEmpty then updRc (fun rc => { rc with victim := none }) d else d

/-- GRAIN_RELOCATE (R261). -/
def execGrainRelocate (read : ArrayRead) (s : State) : Host.Outcome State Fault Refusal := runDev (relocateNext read) s

/-- A pinned grain is read again, and moved where it can be read now. -/
def retryGrain (reads : List (Nat × Nat × ArrayRead)) (d : Device) (e : Nat × StoredGrain) : Device :=
  match reads.find? fun x => x.1 = e.2.slot && x.2.1 = e.2.grain with
  | none => d
  | some x =>
    if relocating e.1 d then d
    else match relocationRead e.1 e.2 x.2.2 d with
      | (some false, d) => startRelocation false e.1 e.2 d
      | (_, d) => d

/-- The pinned grains are tried again once every 24 hours of operating time (R262), with the reads of each, by slot and grain. -/
def retryPinned (n : Nat) (reads : List (Nat × Nat × ArrayRead)) (d : Device) : Device :=
  let st := stripe n d
  if !bolterMode d || st.pinned.isEmpty || hours d < st.pinHours + 384 then d
  else
    let d := updStripe n (fun t => { t with pinHours := hours d }) d
    let again := (liveGrains n d).filter fun e => st.pinned.contains (e.2.slot, e.2.grain)
    refreshPins n (again.foldl (retryGrain reads) d)

/-- PINNED_RETRY (R262). -/
def execPinnedRetry (stripe : Nat) (reads : List (Nat × Nat × ArrayRead)) (s : State) : Host.Outcome State Fault Refusal :=
  runDev (retryPinned stripe reads) s

/-! ### Release (R260, R297, R301, R293) -/

/-- Every block of a stripe, with what the table says of it. -/
def stripeBlocks (n : Nat) (d : Device) : List Nat :=
  (d.media.blocks.filter fun e => e.2.stripe = n && e.2.role != 3 && e.2.state != 0).map (·.1)

/-- A block on a bank that has left service, which counts as empty (R297). -/
def onLostBank (n b : Nat) (d : Device) : Bool :=
  (stripe n d).lost.contains (bankOfDie (dieOfBlock b)) && !(die (dieOfBlock b) d).failed

/-- R260 for one data block: empty, failing or retired without a live grain, not pinned, and R151 holds. -/
def blockReleasable (n b : Nat) (d : Device) : Bool :=
  let e := block b d
  let live := (d.media.stored.any fun g => blockOf g.1 = b && liveAt g.1 g.2 d)
  (e.state = 3 || ((e.state = 4 || e.state = 5 || onLostBank n b d) && !live)) && !e.pinned
    && decide (e.movedSeq ≤ d.media.map.persistent)
    && !(d.media.wp.reads.any fun r => r.grains.any fun g => (g.stage == .codewords || g.stage == .inflate) && blockOf g.pointer = b)

/-- The restripe set no longer holds a stripe with a member in a lost bank: the bank leaves the expected set (R293, R301). -/
def dropLostBanks (d : Device) : Device :=
  let gone := d.media.expected.filter fun b => (carrier b d).lost && !bankInService b d
    && !(d.media.restripe.any fun r => (stripe r.stripe d).lost.contains b)
    && !(d.media.stripes.any fun e => e.2.isOpen && e.2.lost.contains b)
  if gone.isEmpty then d else { d with media := { d.media with expected := d.media.expected.filter fun b => !gone.contains b } }

/-- A stripe leaves the restripe set at its release (R301). -/
def leaveRestripe (n : Nat) (d : Device) : Device :=
  if !(d.media.restripe.any fun r => r.stripe = n) then d
  else
    let d := incObj Obj.stripesRestriped { d with media := { d.media with restripe := d.media.restripe.filter fun r => r.stripe != n } }
    let d := if d.media.restripe.isEmpty then
        logRec Code.restripeComplete [getObj Obj.stripesRestriped d, getObj Obj.stripesLost d] d else d
    dropLostBanks d

/-- The blocks that hold a frame of a system structure in use: what the superblock's roots name, the page images, the journal, the group log and the
flash logbook with their reserved locations, and the extents of the snapshots (R151, R167, R567). -/
def systemLive (d : Device) : List Nat :=
  let m := d.media.map
  let r := d.media.sb.roots
  d.media.rc.lostPlaces.map blockOf ++ [r.mapCheckpoint, r.mapJournal, r.directoryA, r.directoryB, r.blockTable, r.gaugeTable, r.logbook, r.lostRange, r.namespaces, r.calendar].map blockOf
    ++ (m.images.map fun e => blockOf e.2.place) ++ (m.journal.map fun f => [f.place1, f.place2, f.next1, f.next2].map blockOf).flatten
    ++ [blockOf m.record.head1, blockOf m.record.head2] ++ (m.record.extentsA ++ m.record.extentsB).map (·.1)
    ++ (d.media.groupLog.map fun f => [f.place1, f.place2, f.next1, f.next2].map blockOf).flatten
    ++ [blockOf d.media.tableIndex.next1, blockOf d.media.tableIndex.next2]
    ++ (d.log.frames.map fun f => blockOf f.place) ++ (match d.log.frames.getLast? with | some f => [blockOf f.next] | none => [])

/-- Release a stripe: its blocks become free, failing ones retired (R260). -/
def releaseStripe (n : Nat) (d : Device) : Device :=
  let d := refreshPins n d
  let d := if d.media.restripe.any (fun r => r.stripe = n) then emptyBlocks n d else d
  let st := stripe n d
  let system := st.kind = 3
  let bs := stripeBlocks n d
  let ready := bs.all fun b => (block b d).role != 0 || (if system then !(systemLive d).contains b else blockReleasable n b d)
  if !st.exists_ || st.isOpen || !st.pinned.isEmpty || !ready then d
  else
    let d := bs.foldl (fun d b =>
      let state := (smGet {} d.media.blocks b).state
      let d := if state = 4 then incObj Obj.blocksRetired d else d
      updBlock b (fun e => { e with state := if e.state = 4 || e.state = 5 then 5 else 0, stripe := 0, role := 3, step := 0, valid := 0,
                                    refreshQ := false, readQ := false, rateQ := false, wearQ := false, refreshDue := false,
                                    overdue := false, scrubDue := 0xFFFFFFFF, movedSeq := 0 }) d) d
    let d := bs.foldl (fun d b => nameGauge (dieOfBlock b) d) d
    let d := { d with media := { d.media with
      stripes := smErase n d.media.stripes
      stored := d.media.stored.filter fun g => !bs.contains (blockOf g.1)
      rc := { d.media.rc with
        q1 := d.media.rc.q1.erase n, q2 := d.media.rc.q2.erase n, q3 := d.media.rc.q3.erase n, q4 := d.media.rc.q4.erase n
        released := d.media.rc.released.filter (fun e => !bs.contains e.1)
        victim := if d.media.rc.victim = some n then none else d.media.rc.victim } } }
    leaveRestripe n (incObj Obj.stripesReleased d)

/-- STRIPE_RELEASE (R260). -/
def execStripeRelease (stripe : Nat) (s : State) : Host.Outcome State Fault Refusal := runDev (releaseStripe stripe) s

/-! ### Wear levelling and the tables (R270, R256) -/

/-- Closed data blocks of a die. -/
def closedData (n : Nat) (d : Device) : List (Nat × Block) :=
  d.media.blocks.filter fun e => dieOfBlock e.1 = n && (block e.1 d).state = 2 && e.2.role = 0

/-- The hourly comparison of a die (R270). -/
def checkWear (n : Nat) (d : Device) : Device :=
  if !dieInService n d || hours d < smGet 0 d.media.rc.wearHours n + 16 then d
  else
    let d := updRc (fun rc => { rc with wearHours := smSet 0 n (hours d) rc.wearHours }) d
    let es := closedData n d
    let low := es.foldl (fun (best : Option (Nat × Block)) e => match best with
      | none => some e
      | some b => if eraseCount e.1 e.2 d < eraseCount b.1 b.2 d || (eraseCount e.1 e.2 d = eraseCount b.1 b.2 d && e.2.closeHours < b.2.closeHours) then some e else some b) none
    match low with
    | none => d
    | some (b, e) =>
      if (es.map fun x => eraseCount x.1 x.2 d).foldl max 0 ≤ eraseCount b e d + getObj Obj.wearSpreadLimit d || e.wearQ
          || (d.media.restripe.any fun r => r.stripe = e.stripe) then d
      else incObj Obj.wearMovesQueued (queueStripe 4 e.stripe
        ((dataBlocks e.stripe d).foldl (fun d b => updBlock b (fun e => { e with wearQ := true }) d) d))

/-- WEAR_LEVELLING_CHECK (R270). -/
def execWearLevellingCheck (die : Die) (s : State) : Host.Outcome State Fault Refusal := runDev (checkWear die.val) s

/-- BLOCK_TABLE_WRITE (R256): at its interval, or during shutdown processing; its root changes. -/
def writeTable (d : Device) : Device :=
  if (bolterMode d || d.ctl.mode = .m9)
      && (d.sub.shutdownRunning || decide (60 * d.media.rc.tableHours + 16 * getObj Obj.blockTableIntervalMin d ≤ 60 * hours d)) then
    saveTables { d with media := { d.media with sbDue := true } }
  else d

/-- BLOCK_TABLE_WRITE (R256). -/
def execBlockTableWrite (s : State) : Host.Outcome State Fault Refusal := runDev writeTable s

/-! ### The drift gauge (R272 to R278) -/

/-- e^(p/q) in units of 2^-128, by 300 terms of its series (notes/assumptions/31.md). -/
def expFix (p q : Nat) : Nat :=
  (List.range 300).foldl (fun acc i => 2 ^ 128 + p * acc / (q * (300 - i))) (2 ^ 128)

/-- Binary logarithm of num/den ≥ 1 in units of 2^-40 (notes/assumptions/31.md). -/
def log2Fix (num den : Nat) : Nat :=
  let k := Nat.log2 (num / den)
  let rec bits : Nat → Nat → Nat → Nat
    | 0, _, acc => acc
    | fuel + 1, m, acc =>
      let m2 := m * m / 2 ^ 64
      if 2 ^ 65 ≤ m2 then bits fuel (m2 / 2) (2 * acc + 1) else bits fuel m2 (2 * acc)
  bits 40 (num * 2 ^ 64 / (den * 2 ^ k)) 0 + k * 2 ^ 40

/-- The drift D of a scan in mV times 64: the sum over thresholds 24 to 31 of the eight wordlines (R273). -/
def driftSum (ref : List Int) (found : List (List Int)) (stepMv : Nat) : Int :=
  ((found.map fun v => ((List.range 8).map fun i => ((ref[23 + i]?).getD 0) - ((v[23 + i]?).getD 0)).sum).sum) * stepMv

/-- The gauge age of a scan (R273), saturating at 32 bits. -/
def gaugeAgeOf (ref : List Int) (found : List (List Int)) (stepMv : Nat) (d : Device) : Nat :=
  let s := driftSum ref found stepMv
  if s ≤ 0 then 0
  else
    let n := 8 * max 1 found.length
    let e := expFix (10 * s.toNat) (n * max 1 (getObj Obj.gaugeModelA d))
    min 0xFFFFFFFF (getObj Obj.gaugeModelTau d * (e - 2 ^ 128) / 2 ^ 128)

/-- The vector of a scan: the mean over its wordlines, rounded down (notes/assumptions/29.md). -/
def meanVector (found : List (List Int)) : List Int :=
  (List.range 31).map fun t => (found.map fun v => (v[t]?).getD 0).sum / (max 1 found.length : Nat)

/-- Move a die's level classes by the gauge drift over a dark period (R276). -/
def moveClasses (n : Nat) (before after : DieState) (dark : Nat) (d : Device) : Device :=
  let tau := getObj Obj.gaugeModelTau d
  let lg := log2Fix (tau + before.gaugeAge + dark) (max 1 (tau + before.gaugeAge))
  if dark = 0 || lg = 0 then d
  else (List.range 16).foldl (fun d k =>
    let es := (closedData n d).filter fun e => e.2.cls = k
    if es.isEmpty then d
    else
      let age := median (es.map fun e => before.ageBase + before.gaugeAge - e.2.closeAge)
      let lk := log2Fix (tau + age + dark) (max 1 (tau + age))
      let v := classVector (smGet ([], 0) (die n d).classes k).1
      let f := classVector after.found
      let f0 := classVector (if before.found.isEmpty then before.refOffsets else before.found)
      let raw := (List.range 31).map fun t =>
        let g := (f[t]?).getD 0 - (f0[t]?).getD 0
        (v[t]?).getD 0 + (2 * g * (lk : Int) + lg) / (2 * (lg : Int))
      let (held, d) := limitOffsets n raw d
      updDie n (fun x => { x with classes := smUpd ([], 0) k (fun c => (held, c.2)) x.classes }) d) d

/-- The gauge of a die is unavailable (R278). -/
def gaugeUnavailable (n : Nat) (d : Device) : Bool :=
  let x := die n d
  x.gaugeState != 0 || decide ((goodGauge n d).length < 2)

/-- The vector that the repeated valley tracking of a wordline of the weir marks finds: again from the new vector while a chosen window is an edge
window (R273, step 1). -/
def gaugeVector (start : List Int) : List WordlineReads → List Int
  | [] => start
  | r :: rs =>
    let v := valleyVector start r
    if ((valleyCounts r).map valleyCentre).any fun z => z.natAbs = 6 then gaugeVector v rs else v

/-- The vectors of the eight wordlines, from the reads of at most six trackings of each. -/
def gaugeVectors (start : List Int) (runs : List (List WordlineReads)) : List (List Int) :=
  (List.range 8).map fun i => gaugeVector (classVector start) (((runs[i]?).getD []).take 6)

/-- A gauge scan of a die (R273), with the dark age of a scan in M4 (R276). -/
def scanDie (n : Nat) (runs : List (List WordlineReads)) (d : Device) : Device :=
  if gaugeUnavailable n d then d
  else
    let x := die n d
    let found := gaugeVectors x.refOffsets runs
    let p := profileOf n d
    let d := if d.ctl.mode = .m4 && d.media.rc.loadedWallMs.isNone then
        updRc (fun rc => { rc with loadedWallMs := some ((d.media.dies.map (·.2.scanWallMs)).foldl max 0) }) d else d
    let age := gaugeAgeOf x.refOffsets found p.readOffsetStepMv d
    let wall := if getObj Obj.wallClockSource d = 0 then 0 else getObj Obj.wallClockMs d
    let wake := d.ctl.mode = .m4 && !x.scanned
    let y := { x with gaugeAge := age, found := meanVector found, scanHours := hours d, scanCycle := getObj Obj.powerCycleCount d,
                      scanWallMs := wall, scanned := true, darkAge := if wake then age - x.gaugeAge else x.darkAge }
    let d := updDie n (fun _ => y) d
    if wake then moveClasses n x y (age - x.gaugeAge) d else d

/-- The dies of the powered carriers (R274): present and not failed. -/
def poweredDies (d : Device) : List Nat :=
  (List.range 4096).filter fun n => penHigh (bankOfDie n) d && !(die n d).failed
    && bitOf (getObj (Obj.channelTargetsPresent (channelOfDie n)) d) (n / 4 % 8)

/-- Queue the stripes whose age since close has reached RefreshAgeMax (R283). -/
def queueAged (d : Device) : Device :=
  if !bolterMode d then d
  else (d.media.blocks.filter fun e => (block e.1 d).state = 2 && e.2.role = 0 && e.2.stripe != 0
      && decide (e.2.closeAge + getObj Obj.refreshAgeMax d ≤ thermalAge (dieOfBlock e.1) d)).foldl (fun d e =>
    if d.media.rc.q1.contains e.2.stripe || d.media.rc.victim = some e.2.stripe || (d.media.restripe.any fun r => r.stripe = e.2.stripe)
        || (smGet {} d.media.blocks e.1).refreshQ then d
    else incObj Obj.refreshesQueued (queueStripe 1 e.2.stripe
      ((dataBlocks e.2.stripe d).foldl (fun d b => updBlock b (fun e => { e with refreshQ := true }) d) d))) d

/-- The end of the wake's scans (R276, R278, R284): dark ages, unavailable gauges, overdue blocks. -/
def finishScans (d : Device) : Device :=
  let dies := poweredDies d
  if d.ctl.mode != .m4 || !d.ctl.staged || d.ctl.gaugesScanned || !(dies.all fun n => (die n d).scanned || gaugeUnavailable n d) then d
  else
    let scanned := dies.filter fun n => (die n d).scanned && !gaugeUnavailable n d
    let largest (ns : List Nat) : Nat := (ns.map fun n => (die n d).darkAge).foldl max 0
    let top := largest scanned
    let med := median (scanned.map fun n => (die n d).darkAge)
    let first := (scanned.find? fun n => (die n d).darkAge = top).getD 0
    let d := setObj Obj.darkAgeMedian med (setObj Obj.darkAgeMax top d)
    let d := if d.media.rc.darkRecorded || scanned.isEmpty then d else logRec Code.gaugeDarkAge [med, top, first] d
    let lost := dies.filter fun n => gaugeUnavailable n d
    let d := setObj Obj.gaugesUnavailable lost.length d
    let d := lost.foldl (fun d n =>
      let near := scanned.filter fun m => bankOfDie m = bankOfDie n
      let dark := 5 * largest (if near.isEmpty then scanned else near) / 4
      logRec Code.gaugeUnavailable [n, dark]
        (updDie n (fun x => { x with darkAge := dark, gaugeAge := min 0xFFFFFFFF (x.gaugeAge + dark) }) d)) d
    let late (e : Nat × Block) : Bool := (block e.1 d).state = 2 && e.2.role = 0 && decide (0 < e.2.valid)
      && decide (e.2.scrubDue ≤ thermalAge (dieOfBlock e.1) d)
    let overdue := d.media.blocks.filter late
    let worst := (overdue.map fun e => thermalAge (dieOfBlock e.1) d - e.2.scrubDue).foldl max 0
    let d := setObj Obj.blocksOverdueAtWake overdue.length
      (overdue.foldl (fun d e => updBlock e.1 (fun x => { x with overdue := true }) d) d)
    let d := if overdue.isEmpty then d else logRec Code.calendarOverdue [overdue.length, worst] d
    let d := moveRoot (fun p r => { r with calendar := p }) d
    observeDark (updRc (fun rc => { rc with darkRecorded := true, scanHours := hours d }) { d with ctl := { d.ctl with gaugesScanned := true } })

/-- GAUGE_SCAN (R273, R274): a die of a powered carrier in M4, once the gauge table has been loaded through the superblock's root (R97). -/
def execGaugeScan (die : Die) (runs : List (List WordlineReads)) (s : State) : Host.Outcome State Fault Refusal :=
  runDev (fun d => onlyIf (d.ctl.mode = .m4 && d.settings.loaded.contains 1 && (poweredDies d).contains die.val)
    (whileCharged (bankOfDie die.val) (opTokens (profileOf die.val d) 1) fun d => finishScans (scanDie die.val runs d)) d) s

/-- The scan of every die in service at its interval, or during shutdown processing (R274). -/
def scanRound (scans : List (Nat × List (List WordlineReads))) (d : Device) : Device :=
  if !bolterMode d
      || !(d.sub.shutdownRunning || decide (d.media.rc.scanHours + 16 * getObj Obj.gaugeScanIntervalHours d ≤ hours d)) then d
  else
    let d := scans.foldl (fun d e => if dieInService e.1 d then scanDie e.1 e.2 d else d) d
    queueAged (updRc (fun rc => { rc with scanHours := hours d }) (moveRoot (fun p r => { r with calendar := p }) d))

/-- GAUGE_SCAN_INTERVAL (R274). -/
def execGaugeScanInterval (scans : List (Nat × List (List WordlineReads))) (s : State) : Host.Outcome State Fault Refusal :=
  runDev (scanRound scans) s

/-- A refresh of the weir marks is due (R277, R278): the gauge age, a threshold near the lower limit, a refresh that a reset cut off, or a gauge block
that has been replaced. -/
def refreshDueOf (n : Nat) (d : Device) : Bool :=
  let x := die n d
  decide (getObj Obj.gaugeRefreshAge d ≤ x.gaugeAge) || x.gaugeState = 1 || x.gaugeMoved
    || x.found.any fun z => decide (z ≤ (profileOf n d).readOffsetMin + 4)

/-- A gauge block fails to erase or to program: it holds no live data, so it is retired at once (Table 3.6). -/
def gaugeBlockFails (erase : Bool) (b : Nat) (d : Device) : Device :=
  let d := incObj Obj.blocksRetired (updBlock b (fun e => { e with state := 5, retireCause := if erase then 2 else 1 }) d)
  if erase then logRec Code.eraseFail [b, 0, 0x03] (incObj Obj.eraseFailCount d)
  else logRec Code.programFail [b, 0, 0x01] (incObj Obj.programFailCount d)

/-- A gauge refresh (R277): scan, age taken over into AgeBase, the marks erased and programmed; their fresh reads then give the reference offsets (R272). The gauge blocks of
the planes named in `eraseFailed` and `programFailed` fail in it and are replaced where a block is free (R96). It holds the erase's tokens (R78). -/
def refreshGauge (n : Nat) (runs : List (List WordlineReads)) (eraseFailed programFailed : List Nat) (d : Device) : Device :=
  if !(dieInService n d || (d.ctl.mode = .m4 && (poweredDies d).contains n)) || (group n 1 d).used || (die n d).op.kind != 0
      || !refreshDueOf n d || (bankInhibited (bankOfDie n) d && !d.ctl.flushing) then d
  else whileCharged (bankOfDie n) (max (opTokens (profileOf n d) 4) (opTokens (profileOf n d) 3)) (fun d =>
    let d := scanDie n runs d
    let age := (die n d).gaugeAge
    let marks := goodGauge n d
    let d := marks.foldl (fun d b => updBlock b (fun e =>
      { e with erases := min 524287 (e.erases + 1), freshLag := min 255 (e.freshLag + 1), halves := 0, sampled := [] }) d) d
    let d := logRec Code.gaugeRefreshed [n, age] (updDie n (fun x =>
      { x with ageBase := x.ageBase + age, gaugeAge := 0, gaugeState := 0, gaugeMoved := false, found := [] }) d)
    let d := moveRoot (fun p r => { r with calendar := p }) d
    nameGauge n (marks.foldl (fun d b =>
      if eraseFailed.contains (planeOfBlock b) then gaugeBlockFails true b d
      else if programFailed.contains (planeOfBlock b) then gaugeBlockFails false b d else d) d)) d

/-- GAUGE_REFRESH (R277). -/
def execGaugeRefresh (die : Die) (runs : List (List WordlineReads)) (eraseFailed programFailed : List Nat) (s : State) :
    Host.Outcome State Fault Refusal :=
  runDev (refreshGauge die.val runs eraseFailed programFailed) s

/-! ### Scrubs (R282) and the next wake (R285) -/

/-- HardRef of Table 9.6. -/
def hardRef (s : Nat) : Nat := ([200, 240, 290, 340, 450, 580, 800, 1200][s]?).getD 1200

/-- A block is due for a scrub (R282). -/
def scrubIsDue (b : Nat) (d : Device) : Bool :=
  let e := block b d
  e.state = 2 && e.role = 0 && decide (0 < e.valid) && decide (e.scrubDue ≤ thermalAge (dieOfBlock b) d)
    && dieInService (dieOfBlock b) d
    && !(e.refreshQ || e.readQ || e.rateQ || e.wearQ || (d.media.restripe.any fun r => r.stripe = e.stripe))

/-- No overdue block is later past its due age than this one (R284). -/
def scrubFirst (b : Nat) (d : Device) : Bool :=
  let late (x : Nat) : Nat := thermalAge (dieOfBlock x) d - (block x d).scrubDue
  let overdue := (d.media.blocks.filter fun e => e.2.overdue && scrubIsDue e.1 d).map (·.1)
  overdue.isEmpty || (overdue.contains b && overdue.all fun x => decide (late x ≤ late b))

/-- How many bits a decode changed, none where it failed (Table 4.5). -/
def changedBits (read : Nat) (o : Outcome) : Option Nat := (o.word read).map fun w => popCount 73728 (read ^^^ w)

/-- ρ of a scrub in percent, with the largest count it comes from: 100 where a codeword fails (R282, step 4). -/
def scrubResult (s : Nat) (again : List Nat) : Bool × Nat :=
  let counts := (List.range 10).map fun k =>
    let read := codewordOf ((again[k / 2]?).getD 0) (k % 2)
    changedBits read (decodeHard s read)
  (counts.any (·.isNone), (counts.filterMap id).foldl max 0)

/-- A scrub (R282, Table 9.7): the reads of the tracking run on the sample wordline, and its five pages read again after it. -/
def scrubBlock (b : Nat) (first : WordlineReads) (again : List Nat) (d : Device) : Device :=
  let n := dieOfBlock b
  if !bolterMode d || !scrubIsDue b d || !scrubFirst b d || !dieFree n d then d
  else whileCharged (bankOfDie n) (opTokens (profileOf n d) 1) (fun d =>
    let d := loadOffsets b 0 (trackingRun b first (loadOffsets b 0 d))
    let e := block b d
    let (failed, worst) := scrubResult e.step again
    let d := addObj Obj.hardDecodes 10 (addObj Obj.hardFailures
      ((List.range 10).filter fun k => let read := codewordOf ((again[k / 2]?).getD 0) (k % 2); ((decodeHard e.step read).word read).isNone).length d)
    let ref := hardRef e.step
    let ratio := if failed then 100 else min 100 (100 * worst / ref)
    let limit := getObj Obj.refreshRatio d
    let high := failed || limit * ref ≤ 100 * worst
    let mid := failed || limit * ref ≤ 200 * worst
    let interval := if high || mid then e.scrubInterval else min (2 * e.scrubInterval) (getObj Obj.scrubIntervalMax d)
    let d := updBlock b (fun e =>
      { e with sample := (e.sample + 1) % 4, lastRatio := ratio, scrubInterval := interval, overdue := false,
               scrubDue := thermalAge n d + interval }) d
    let d := incObj Obj.scrubsRun (resumeOp n d)
    if high then
      incObj Obj.refreshesQueued (queueStripe 1 e.stripe
        ((dataBlocks e.stripe d).foldl (fun d b => updBlock b (fun e => { e with refreshQ := true, refreshDue := true }) d) d))
    else d) d

/-- SCRUB (R282). -/
def execScrub (block : Nat) (first : WordlineReads) (again : List Nat) (s : State) : Host.Outcome State Fault Refusal :=
  runDev (scrubBlock block first again) s

/-- NextWakeDueHours as R285 computes it. -/
def nextWakeHours (d : Device) : Nat :=
  let es := d.media.blocks.filter fun e => (block e.1 d).state = 2 && e.2.role = 0 && decide (0 < e.2.valid)
  let top := 24 * getObj Obj.nextWakeMaxDays d
  let f := max (getObj Obj.darkAgingFactor d) (getObj Obj.observedDarkFactor d)
  match es.map fun e => remaining e.1 e.2 d with
  | [] => top
  | r :: rs =>
    let rem := rs.foldl min r
    min (max (rem * 750 / (f : Int) - getObj Obj.wakeMarginHours d) 0).toNat top

/-- Compute and report the next wake (R285). -/
def computeWake (d : Device) : Device :=
  let h := nextWakeHours d
  setObj Obj.nextWakeDueHours h
    (setObj Obj.nextWakeDue (if getObj Obj.wallClockSource d = 0 then 0 else getObj Obj.wallClockMs d + h * 3600000) d)

/-- NEXT_WAKE_COMPUTE (R285). -/
def execNextWakeCompute (s : State) : Host.Outcome State Fault Refusal := runDev (fun d => onlyIf (bolterMode d) computeWake d) s

/-- NEXT_WAKE_DUE_REACHED (R349): wake event 4 on every port. -/
def execNextWakeDueReached (s : State) : Host.Outcome State Fault Refusal :=
  runDev (fun d => onlyIf (getObj Obj.nextWakeDue d != 0 && getObj Obj.wallClockSource d != 0
    && decide (getObj Obj.nextWakeDue d ≤ getObj Obj.wallClockMs d)) (signalWakeAll 4) d) s

end Sys2Proof.Machine
end

