-- ==== Sys2Proof/Machine/Restripe.lean ====
section
/-! DEFINITION. The restripe, lost stripes, the map sweep and the lost-range log (spec/10 R296 to R307). -/
namespace Sys2Proof.Machine

/-- Change the entry of a stripe in the restripe set. -/
def updRestripe (n : Nat) (f : RestripeEntry → RestripeEntry) (d : Device) : Device :=
  { d with media := { d.media with restripe := d.media.restripe.map fun r => if r.stripe = n then f r else r } }

/-! ### Order and pauses (R298 to R301) -/

/-- A bank is read-inhibited, being brought up or joining: its members are unreadable for a time only (R300). -/
def tempUnreadable (bank : Nat) (d : Device) : Bool :=
  carrierState bank d = 0x02 || carrierState bank d = 0x03
    || (bankInService bank d && bitOf (getObj (Obj.carrierThermalState bank) d) 1)

/-- Every stripe of the set is set aside, or taken back, as its members stand (R300). -/
def refreshAside (d : Device) : Device :=
  { d with media := { d.media with restripe := d.media.restripe.map fun r =>
    { r with aside := (stripe r.stripe d).members.any fun m => tempUnreadable m.1 d } } }

/-- A stripe that has members only in a draining bank rests while its evacuation is paused (R319). -/
def drainPausedFor (r : RestripeEntry) (d : Device) : Bool :=
  !r.lost && match d.media.evac with | some e => e.pausedThrottle || e.pausedShutdown | none => false

/-- Parity members less lost members, in the least protected row (R298). -/
def redundancy (n : Nat) (d : Device) : Int := ((stripe n d).parity : Int) - (lostInRows n (stripe n d)).length

/-- u of a stripe (R264). -/
def liveFraction (n : Nat) (d : Device) : Rat :=
  let (live, cap) := stripeLoad n d
  (live : Rat) / (cap : Rat)

/-- `a` is taken before `b` (R298). -/
def restripesBefore (a b : RestripeEntry) (d : Device) : Bool :=
  if a.lost != b.lost then a.lost
  else if redundancy a.stripe d != redundancy b.stripe d then decide (redundancy a.stripe d < redundancy b.stripe d)
  else if liveFraction a.stripe d != liveFraction b.stripe d then decide (liveFraction a.stripe d < liveFraction b.stripe d)
  else decide (a.stripe < b.stripe)

/-- The stripe the restripe works on: one that it has not finished, is not set aside and does not rest. -/
def restripeNext (d : Device) : Option RestripeEntry :=
  (d.media.restripe.filter fun r => !r.aside && !r.settled && !r.declared && !drainPausedFor r d
      && !(liveGrains r.stripe d).isEmpty).foldl
    (fun best r => match best with
      | none => some r
      | some b => if restripesBefore r b d then some r else some b) none

/-- The restripe may run (R299, R292). -/
def restripeRuns (d : Device) : Bool := bolterMode d && !d.sub.shutdownRunning && decide (15 ≤ banksOpen d)

/-- A further grain of so many frames stays within the rate of R299. -/
def restripeMoves (frames : Nat) (d : Device) : Bool :=
  let rate := if throttlingActive d then min 1000 (getObj Obj.restripeMBps d) else getObj Obj.restripeMBps d
  decide ((lastSecond d.media.rc.recentRestripe d + frames) * 4096 ≤ 1000000 * rate)

/-! ### Lost stripes (R302, R303) -/

/-- The grains of a lost stripe that it could not read and whose entries still point into it. -/
def unreadLive (r : RestripeEntry) (known : Bool) (d : Device) : List (Nat × StoredGrain) :=
  (liveGrains r.stripe d).filter fun e => r.unread.any fun u => u.1 = e.2.slot && u.2.1 = e.2.grain && u.2.2 = known

/-- Apply Mark lost to grains of a stripe, counting those that took it. -/
def markGrains (n : Nat) (es : List (Nat × StoredGrain)) (d : Device) : Device :=
  es.foldl (fun d e =>
    let d := markLost e.2.slot e.2.grain e.1 d
    if mapEntry e.2.slot e.2.grain d = lostEntry then updRestripe n (fun r => { r with marked := r.marked + 1 }) d else d) d

/-- The event of a lost stripe is over: it is counted and recorded, and its blocks become empty. -/
def stripeIsLost (n : Nat) (d : Device) : Device :=
  match d.media.restripe.find? (·.stripe = n) with
  | none => d
  | some r =>
    emptyBlocks n (logRec Code.stripeLost [n, r.marked] (incObj Obj.stripesLost (updRestripe n (fun r => { r with settled := true }) d)))

/-- Every readable grain of a stripe has been moved: it is declared lost where others are left, and what is left is marked, directly or by
the next map sweep. -/
def declareLost (n : Nat) (d : Device) : Device :=
  match d.media.restripe.find? (·.stripe = n) with
  | none => d
  | some r =>
    let d := markGrains n (unreadLive r true d) d
    if !(unreadLive r true d).isEmpty then d
    else if (unreadLive r false d).isEmpty then stripeIsLost n d
    else updRc (fun rc => { rc with sweeps := rc.sweeps ++ [n] }) (updRestripe n (fun r => { r with declared := true }) d)

/-- One move of the restripe: the next live grain of the stripe in turn (R297), or the end of the stripe. -/
def restripeStep (a : ArrayRead) (known : Bool) (d : Device) : Device :=
  if !restripeRuns d then d
  else
    let d := refreshAside d
    match restripeNext d with
    | none => d.media.restripe.foldl (fun d r => emptyBlocks r.stripe d) d
    | some r =>
      let n := r.stripe
      let live := (liveGrains n d).filter fun e => !(r.unread.any fun u => u.1 = e.2.slot && u.2.1 = e.2.grain)
      match live.find? fun e => !relocating e.1 d with
      | none => if live.isEmpty then declareLost n (emptyBlocks n d) else emptyBlocks n d
      | some (ptr, g) =>
        let f := getObj Obj.freePermille d
        match relocationRead ptr g a d with
        | (none, d) => d
        | (some true, d) =>
          recordUnrecovered g.slot g.grain (blockOf ptr) 5 0 (incObj Obj.grainsUnrecovered
            (updRestripe n (fun r => { r with unread := r.unread ++ [(g.slot, g.grain, known)] }) d))
        | (some false, d) =>
          if f ≤ getObj Obj.reclaimStopPermille d then
            if d.media.rc.spaceRecorded then d
            else logRec Code.restripeWaitingSpace [f, restripeLeft d] (updRc (fun rc => { rc with spaceRecorded := true }) d)
          else
            let d := updRc (fun rc => { rc with spaceRecorded := false }) d
            if restripeMoves g.frames d then startRelocation true ptr g d else d

/-- RESTRIPE (R297 to R302). -/
def execRestripe (read : ArrayRead) (known : Bool) (s : State) : Host.Outcome State Fault Refusal := runDev (restripeStep read known) s

/-- The map sweep (R303): every entry that points into a stripe awaiting it is marked lost; the sweep ends when none is left. -/
def sweepMap (d : Device) : Device :=
  if !bolterMode d || getObj Obj.mapResidentComplete d = 0 then d
  else
    let d := if d.media.rc.sweeping.isEmpty then updRc (fun rc => { rc with sweeping := rc.sweeps, sweeps := [] }) d else d
    d.media.rc.sweeping.foldl (fun d n =>
      let d := markGrains n (liveGrains n d) d
      if (liveGrains n d).isEmpty then
        stripeIsLost n (updRc (fun rc => { rc with sweeping := rc.sweeping.filter (· != n) }) d)
      else d) d

/-- MAP_SWEEP (R303). -/
def execMapSweep (s : State) : Host.Outcome State Fault Refusal := runDev sweepMap s

/-! ### The lost-range log (R305, R306) -/

/-- What makes an event of R305: a lost stripe, a lost line of a slot, or a lost page of a slot. -/
def lossEvent (x : Nat × Nat × Nat × Nat) : Nat × Nat × Nat :=
  let (slot, grain, cause, st) := x
  if cause = 1 then (1, st, 0) else if cause = 2 then (2, slot, lineOf grain) else (3, slot, pageOf grain)

/-- An event's entries may be appended: its Mark lost records are persistent, and a stripe's event is over. -/
def eventReady (x : Nat × Nat × Nat × Nat) (d : Device) : Bool :=
  let (slot, grain, cause, st) := x
  let m := d.media.map
  let marks (r : JRecord) : Bool := match r with
    | .entrySet s g v => s = slot && g = grain && v = lostEntry
    | _ => false
  let waits := m.openFrame.any marks || (sequenced m.journal).any fun r => decide (m.persistent ≤ r.1) && marks r.2
  !waits && (cause != 1 || !(d.media.restripe.any fun r => r.stripe = st && !r.unread.isEmpty && !r.settled))

/-- Put a (slot, grain) pair into a rising list. -/
def insertPair (x : Nat × Nat) : List (Nat × Nat) → List (Nat × Nat)
  | [] => [x]
  | y :: ys => if x.1 < y.1 || (x.1 = y.1 && x.2 < y.2) then x :: y :: ys else if x = y then y :: ys else y :: insertPair x ys

/-- The maximal runs of a rising list: slot, first grain, count. -/
def runsOf : List (Nat × Nat) → List (Nat × Nat × Nat)
  | [] => []
  | x :: xs =>
    match runsOf xs with
    | (s, f, n) :: rest => if s = x.1 && f = x.2 + 1 then (s, x.2, n + 1) :: rest else (x.1, x.2, 1) :: (s, f, n) :: rest
    | [] => [(x.1, x.2, 1)]

/-- The frames of 125 entries that an append writes. -/
def framesFor (n : Nat) : List Nat := List.replicate (n / 125) 125 ++ if n % 125 = 0 then [] else [n % 125]

/-- Whole frames that are dropped, oldest first, until at most `room` entries are held: how many frames, how many entries. -/
def dropFrames (room : Nat) : List Nat → Nat × Nat
  | [] => (0, 0)
  | f :: fs => if (f :: fs).sum ≤ room then (0, 0) else let (k, n) := dropFrames room fs; (k + 1, n + f)

/-- Append the entries of the first event that is ready (R305, R306), and report the new entries to hosts (vendor event 0x01). -/
def appendLost (d : Device) : Device :=
  match d.media.rc.toAppend.find? fun x =>
      (d.media.rc.toAppend.filter fun y => lossEvent y = lossEvent x).all fun y => eventReady y d with
  | none => d
  | some x =>
    let mine := d.media.rc.toAppend.filter fun y => lossEvent y = lossEvent x
    let runs := runsOf (mine.foldr (fun y l => insertPair (y.1, y.2.1) l) [])
    let entries : List LostRange := runs.map fun r =>
      { slot := r.1, cause := x.2.2.1, first := r.2.1, count := r.2.2, stripe := x.2.2.2, hours := hours d,
        cycle := getObj Obj.powerCycleCount d % 2 ^ 24 }
    let rc := d.media.rc
    let (frames, dropped) := dropFrames (262144 - entries.length) rc.lostFrames
    let d := updRc (fun rc =>
      { rc with toAppend := rc.toAppend.filter fun y => lossEvent y != lossEvent x,
                lostLog := rc.lostLog.drop dropped ++ entries, lostFirst := rc.lostFirst + dropped,
                lostFrames := rc.lostFrames.drop frames ++ framesFor entries.length
                lostPlaces := rc.lostPlaces.drop frames }) d
    let d := (framesFor entries.length).foldl (fun d _ =>
      let (p, d) := systemPlace none d
      setRoot (fun r => { r with lostRange := p }) (updRc (fun rc => { rc with lostPlaces := rc.lostPlaces ++ [p] }) d)) d
    let d := addObj Obj.lostRangeDropped dropped d
    let d := if dropped = 0 then d else logRec Code.lostRangeLogWrapped [getObj Obj.lostRangeDropped d] d
    raiseOnAll { typ := 7, info := 0x01, page := 0xC0 } d

/-- LOST_RANGE_APPEND (R306). -/
def execLostRangeAppend (s : State) : Host.Outcome State Fault Refusal := runDev appendLost s

end Sys2Proof.Machine
end

