-- ==== Sys2Proof/Machine/Carriers.lean ====
section
/-! DEFINITION. Carriers and channels: bring-up, classification, joining, removal and evacuation, operation status (spec/03 R60 to R70,
spec/10 R308 to R322). -/
namespace Sys2Proof.Machine

/-! ### Power-up and bring-up (Table 3.3) -/

/-- Modes in which carriers are brought up (R313, R314); not in M4 while SupplyHold pauses staging (R43). -/
def carrierMode (d : Device) : Bool := match d.ctl.mode with | .m4 => !d.ctl.supplyHold | .m5 | .m6 | .m7 => true | _ => false

/-- The entry whose charges a power-up takes: the one the bank's channels last matched, or else the one with the largest charge (R61, R79). -/
def chargeEntry (bank : Nat) (d : Device) : ProfileEntry :=
  match (d.media.profile.find? fun e => e.1 == getObj (Obj.channelProfileEntry (bank * 8)) d).map (·.2) with
  | some e => e
  | none =>
    let all := d.media.profile.map (·.2)
    all.foldl (fun b e => if b.tokBase + b.tokPowerUp < e.tokBase + e.tokPowerUp then e else b) (all.head?.getD {})

/-- A carrier is to be brought up: its base and power-up tokens are requested (R78, R79, R491). -/
def startBringUp (bank : Nat) (d : Device) : Device :=
  let e := chargeEntry bank d
  let id := d.res.nextReq
  let d := updCarrier bank (fun c => { c with deferred := false, bringUp := 0, awaitTokens := some id, requested := e.tokBase + e.tokPowerUp,
                                              powerUp := e.tokPowerUp, powerUpMs := e.tokPowerUpMs }) d
  requestTokens bank (e.tokBase + e.tokPowerUp) false (setCarrierState bank 0x02 d)

/-- Step 1: PEN rises once the tokens are granted; the bank's channels are bringing up. -/
def raisePen (bank : Nat) (d : Device) : Device :=
  let c := carrier bank d
  match c.awaitTokens with
  | none => d
  | some id =>
    if carrierState bank d != 0x02 || d.ctl.supplyHold || d.res.waiting.any (·.id == id) then d
    else
      let d := updCarrier bank (fun c => { c with awaitTokens := none, bringUp := 1, penMs := nowMs d, powerUpHeld := c.powerUp }) d
      let d := setDomains [0x10 + bank] 0x04
        { d with media := { d.media with pen := if d.media.pen.contains bank then d.media.pen else d.media.pen ++ [bank] } }
      (List.range 8).foldl (fun d c => setObj (Obj.channelState (bank * 8 + c)) 0x01 d) d

/-- CHANNEL_BRING_UP (R67). -/
def execChannelBringUp (bank : Bank) (s : State) : Host.Outcome State Fault Refusal := runDev (raisePen bank.val) s

/-- Advance the bring-up of a bank from one step of Table 3.3 to the next. -/
def nextStep (bank step : Nat) (f : Carrier → Carrier) (d : Device) : Device :=
  if carrierState bank d = 0x02 && (carrier bank d).bringUp = step then updCarrier bank (fun c => { f c with bringUp := step + 1 }) d else d

/-- PGOOD_RISE (R67), step 2. -/
def execPgoodRise (bank : Bank) (s : State) : Host.Outcome State Fault Refusal :=
  runDev (nextStep bank.val 1 fun c => { c with pgood := true }) s

/-- Change a channel's link. -/
def updChannel (cc : Nat) (f : ChannelLink → ChannelLink) (d : Device) : Device :=
  { d with media := { d.media with channels := smUpd {} cc f d.media.channels } }

/-- Step 3 ends: the chip enables are driven high and the other outputs to their idle levels, write protection low (R68, R619). -/
def drivePins (bank : Nat) (d : Device) : Device :=
  if carrierState bank d = 0x02 && (carrier bank d).bringUp = 2 then
    (List.range 8).foldl (fun d c => updChannel (bank * 8 + c) (fun _ => { driven := true }) d) (nextStep bank 2 id d)
  else d

/-- DIE_POWER_ON_ELAPSED (R67), step 3. -/
def execDiePowerOnElapsed (bank : Bank) (s : State) : Host.Outcome State Fault Refusal := runDev (drivePins bank.val) s

/-! ### Leaving service (R289, R291, R309, R321) -/

/-- A bank has members that are not yet lost, or serves. -/
def hasMembers (bank : Nat) (d : Device) : Bool :=
  bankInService bank d || carrierState bank d = 0x05
    || d.media.stripes.any fun e => !e.2.lost.contains bank && e.2.members.any (·.1 == bank)

/-- A bank's carrier leaves with what it holds: outputs off, its members lost where it has any, a superblock without it due (R294, R91). -/
def dropCarrier (bank : Nat) (d : Device) : Device :=
  let members := hasMembers bank d
  let d := clearPen bank d
  if members then loseBank bank d else d

/-- A carrier's power fails (R309): cause 1 PGOOD fell, 2 PGOOD did not rise. The third fault within an hour latches. -/
def powerFault (bank cause : Nat) (d : Device) : Device :=
  let hs := hours d :: (carrier bank d).faultHours.filter fun h => decide (hours d < h + 16)
  let n := min 255 (getObj (Obj.carrierFaultCount bank) d + 1)
  let d := updCarrier bank (fun c => { c with faultHours := hs }) (setObj (Obj.carrierFaultCount bank) n d)
  let d := logRec Code.carrierPowerFault [bank, cause, n] d
  setCarrierState bank (if 3 ≤ hs.length then 0x09 else 0x08) (dropCarrier bank d)

/-- POWER_GOOD_LOST (R309). -/
def execPowerGoodLost (bank : Bank) (s : State) : Host.Outcome State Fault Refusal :=
  runDev (fun d => onlyIf (penHigh bank.val d && (carrier bank.val d).pgood) (powerFault bank.val 1) d) s

/-- PGOOD_TIMEOUT (R309): 20 ms after PEN. -/
def execPgoodTimeout (bank : Bank) (s : State) : Host.Outcome State Fault Refusal :=
  runDev (fun d => onlyIf (penHigh bank.val d && (carrier bank.val d).bringUp = 1
    && decide ((carrier bank.val d).penMs + 20 ≤ nowMs d)) (powerFault bank.val 2) d) s

/-- A removal is recognised (R310, R321). -/
def removeCarrier (bank : Nat) (d : Device) : Device :=
  let st := carrierState bank d
  let d := updCarrier bank (fun c => { c with present := false, deferred := false, button := false, waiting := false }) d
  if [0x00, 0x01, 0x07, 0x08, 0x09, 0x0A, 0x0B].contains st then setCarrierState bank 0x00 (if penHigh bank d then clearPen bank d else d)
  else setCarrierState bank 0x00 (dropCarrier bank (logRec Code.carrierRemoved [bank, st] d))

/-- CARRIER_REMOVAL (R321). -/
def execCarrierRemoval (bank : Bank) (s : State) : Host.Outcome State Fault Refusal :=
  runDev (fun d => onlyIf ((carrier bank.val d).present && d.ctl.mode != .m0) (removeCarrier bank.val) d) s

/-! ### Insertion, classification and joining (R313 to R317, R86, R87) -/

/-- An insertion is handled in the mode in force (R313, R314, Table 10.11); in M4 under SupplyHold staging waits (R43). -/
def handleInsertion (bank : Nat) (d : Device) : Device :=
  match d.ctl.mode with
  | .m4 =>
    if d.ctl.supplyHold then setCarrierState bank 0x01 (updCarrier bank (fun c => { c with deferred := true }) d)
    else startBringUp bank d
  | .m5 | .m6 | .m7 =>
    if getObj Obj.autoPowerOnInsert d = 1 then startBringUp bank d
    else setCarrierState bank 0x01 (updCarrier bank (fun c => { c with deferred := false }) d)
  | _ => setCarrierState bank 0x01 (updCarrier bank (fun c => { c with deferred := true }) d)

/-- CARRIER_INSERTION (R313, R314, R349 wake event 2). -/
def execCarrierInsertion (bank : Bank) (s : State) : Host.Outcome State Fault Refusal :=
  runDev (fun d => onlyIf (!(carrier bank.val d).present && d.ctl.mode != .m0) (fun d =>
    handleInsertion bank.val (signalWakeAll 2 (updCarrier bank.val (fun c => { c with present := true }) d))) d) s

/-- Carriers held under R314 are handled once the mode allows it; in M4 every present carrier is brought up, in ascending bank order (R491). -/
def handleWaitingCarriers (d : Device) : Device :=
  if !carrierMode d then d
  else (List.range 16).foldl (fun d b =>
    let c := carrier b d
    let st := carrierState b d
    if c.present && (st = 0x00 || st = 0x01) && (c.deferred || d.ctl.mode = .m4) then handleInsertion b d else d) d

/-- A LUN matches an entry (R86). -/
def lunMatches (r : LunReport) (e : ProfileEntry) : Bool :=
  r.crcGood && r.geometry && decide (e.minOnfi ≤ r.revision)
    && (List.range 8).all fun i =>
      (((r.id[i]?).getD 0) ^^^ ((e.idMatch[i]?).getD 0)) &&& ((e.idMask[i]?).getD 0) == 0

/-- The entry a LUN matches: the first in entry order. -/
def matchLun (r : LunReport) (d : Device) : Option Nat := (d.media.profile.find? fun e => lunMatches r e.2).map (·.1)

/-- Steps 4 and 5 of Table 3.3: the LUNs of a carrier match one entry, or the carrier does not serve (R87). Dies of absent targets have
failed (Table 10.1). -/
def identify (bank : Nat) (present : List Nat) (reports : List LunReport) (d : Device) : Device :=
  if !(carrierState bank d = 0x02 && (carrier bank d).bringUp = 3) then d
  else
    let d := (List.range 8).foldl (fun d c => setObj (Obj.channelTargetsPresent (bank * 8 + c)) (((present[c]?).getD 0) % 256) d) d
    let first := (reports.head?).bind fun r => matchLun r d
    match reports.find? (fun r => matchLun r d != first), first with
    | none, some e =>
      let d := (List.range 8).foldl (fun d c => setObj (Obj.channelProfileEntry (bank * 8 + c)) e d) d
      let absent := (List.range 256).filter fun i => !bitOf ((present[i / 32]?).getD 0) (i % 32 / 4)
      updCarrier bank (fun c => { c with bringUp := 5 }) (absent.foldl (fun d i => failDie (bank * 256 + i) 5 d) d)
    | bad, _ =>
      let r := ((if first.isNone then reports.head? else bad).orElse fun _ => reports.head?).getD { die := bank * 256 }
      let d := logRec Code.carrierProfileMismatch [r.die, (matchLun r d).getD 0xFF] d
      setCarrierState bank 0x0B (dropCarrier bank d)

/-- TARGET_RESET_READY (R67, R86, R87). -/
def execTargetResetReady (bank : Bank) (present : List Nat) (reports : List LunReport) (s : State) : Host.Outcome State Fault Refusal :=
  runDev (identify bank.val present reports) s

/-- The carrier is the one that the superblock in use counts as present, so that its lost sides are not read (R95). -/
def inDevice (bank : Nat) (anchor : Option (Nat × Nat)) (d : Device) : Bool :=
  bitOf d.media.sb.banks bank && anchor.any (·.1 == d.media.sb.instance_)

/-- What a carrier's anchor groups hold, as they were read: another carrier's copy takes the place of what the bank's held (R94, R315). -/
def noteAnchors (bank : Nat) (found : Option (Nat × Nat)) (d : Device) : Device :=
  let holds (k : Nat) : Bool := (anchor k d).last.any fun s => found == some (s.instance_, s.generation)
  if holds (2 * bank) || holds (2 * bank + 1) then d
  else updAnchor (2 * bank + 1) (fun _ => {}) (updAnchor (2 * bank) (fun _ => match found with
    | some (i, g) => { updates := 1, last := some { instance_ := i, generation := g } }
    | none => {}) d)

/-- The class of a brought-up carrier, as the row of Table 10.7 (R315). -/
def classOf (bank : Nat) (anchor : Option (Nat × Nat)) (d : Device) : Nat :=
  let lost := bitOf d.media.sb.lostSides (2 * bank) && bitOf d.media.sb.lostSides (2 * bank + 1)
  match if lost && inDevice bank anchor d then none else anchor with
  | none => 2
  | some (inst, gen) =>
    if inst = d.media.sb.instance_ then
      if d.ctl.mode = .m4 && bitOf d.media.sb.banks bank && !(carrier bank d).lost then 1
      else if gen = getObj (Obj.carrierLastGeneration bank) d then 3 else 4
    else 5

/-- Classify a carrier whose channels are brought up (Table 10.7). -/
def classifyCarrier (bank : Nat) (anchor : Option (Nat × Nat)) (d : Device) : Device :=
  let k := classOf bank anchor d
  let d := noteAnchors bank anchor (updCarrier bank (fun c => { c with cls := k, found := anchor, bringUp := 0 }) d)
  match k with
  | 1 => logRec Code.carrierJoined [bank, 1] (setCarrierState bank 0x04 (updCarrier bank (fun c => { c with lost := false }) d))
  | 2 => setCarrierState bank (if getObj Obj.autoJoinBlank d = 1 then 0x03 else 0x0A) d
  | 5 => setCarrierState bank 0x0A (logRec Code.carrierForeign [bank, (anchor.getD (0, 0)).1] d)
  | _ => setCarrierState bank 0x03 d

/-- Steps 6 to 8 on a channel: NV-LPDDR4 is selected, which ends the write protection (R60, R619), ZQ calibration long has run, and the entry's
settings and the pass control are written (Tables 3.3, 3.11). -/
def linkUp (cc : Nat) (d : Device) : Device :=
  let e := profileOf (cc * 32) d
  updChannel cc (fun c => { c with wpHigh := true, lpddr4 := true, drive := e.driveStrength, odt := e.odt, passControl := 1, zqMs := nowMs d }) d

/-- Training of a channel ends (R61, R69): the code reached, below the one asked for where training fell back, or none. -/
def trained (cc : Nat) (reached : Option Nat) (d : Device) : Device :=
  let stored := getObj (Obj.channelRateCode cc) d
  let top := (profileOf (cc * 32) d).maxRateCode
  let start := min stored top
  let d := if top < stored then logRec Code.channelRateReduced [cc, top] d else d
  match reached with
  | some r =>
    let r := min r start
    let d := if r < start then logRec Code.channelRateReduced [cc, r] d else d
    recomputeCeiling (setObj (Obj.channelState cc) 0x02 (setObj (Obj.channelRateActual cc) r (linkUp cc d)))
  | none =>
    let d := logRec Code.channelTrainingFailed [cc] (setObj (Obj.channelState cc) 0x03 d)
    (List.range 32).foldl (fun d i => failDie (cc * 32 + i) 5 d) d

/-- Steps 6 to 8 end on a channel; with the bank's last channel the carrier is classified (R315). -/
def trainingDone (cc : Nat) (reached : Option Nat) (anchor : Option (Nat × Nat)) (d : Device) : Device :=
  let bank := cc / 8
  if !(carrierState bank d = 0x02 && (carrier bank d).bringUp = 5 && getObj (Obj.channelState cc) d = 0x01) then d
  else whileCharged bank 5 (fun d =>
    let d := trained cc reached d
    if carrierState bank d = 0x02 && (List.range 8).all (fun c => getObj (Obj.channelState (bank * 8 + c)) d != 0x01) then
      classifyCarrier bank anchor d
    else d) d

/-- CHANNEL_TRAINING_DONE (R69, Table 3.7). -/
def execChannelTrainingDone (channel : Channel) (reached : Option Nat) (anchor : Option (Nat × Nat)) (s : State) :
    Host.Outcome State Fault Refusal := runDev (trainingDone channel.val reached anchor) s

/-- A block of a stripe that the restripe still has to move keeps its entry while its bank joins again (notes/assumptions/32.md). -/
def awaitsRestripe (e : Block) (d : Device) : Bool := e.stripe != 0 && d.media.restripe.any fun r => r.stripe = e.stripe

/-- The blocks of a bank that joins: those that no restripe awaits are free again, with the erase counts that a class-3 carrier brings (R316). -/
def joinBlocks (bank : Nat) (d : Device) : Device :=
  let keep := (carrier bank d).cls = 3
  let mine (b : Nat) : Bool := bankOfDie (dieOfBlock b) = bank
  let clear (e : Nat × Block) : Nat × Block :=
    if !mine e.1 || awaitsRestripe e.2 d then e else (e.1, { erases := if keep then e.2.erases else 0, spared := if keep then e.2.spared else 0 })
  let blocks := (d.media.blocks.map clear).filter fun e => decide (e.2 ≠ {})
  let gone (b : Nat) : Bool := mine b && !awaitsRestripe (smGet {} d.media.blocks b) d
  { d with media := { d.media with blocks := blocks, stored := d.media.stored.filter fun g => !gone (blockOf g.1) } }

/-- The persisted table of a bank takes what the bank's blocks hold. -/
def saveJoined (bank : Nat) (d : Device) : Device :=
  let mine (b : Nat) : Bool := bankOfDie (dieOfBlock b) = bank
  { d with media := { d.media with savedBlocks :=
    (d.media.blocks.filter fun e => mine e.1).foldl (fun m e => smPut e.1 e.2 m) (d.media.savedBlocks.filter fun e => !mine e.1) } }

/-- A die of a bank that joins: its offset table as scanned, or failed where its channel does not reach it. -/
def joinDie (n : Nat) (offsets : List Int) (d : Device) : Device :=
  let usable := bitOf (getObj (Obj.channelTargetsPresent (channelOfDie n)) d) (n / 4 % 8) && getObj (Obj.channelState (channelOfDie n)) d = 0x02
  let keep := (carrier (bankOfDie n) d).cls = 3
  let v := classVector offsets
  updDie n (fun x => if usable then { refOffsets := v, found := v, scanHours := hours d, scanned := true, sweeps := if keep then x.sweeps else 0 }
                     else { failed := true }) d

/-- A bank that joins is expected from now on, with both of its anchor sides. -/
def expectBank (bank : Nat) (d : Device) : Device :=
  setCarrierState bank 0x04 { d with media := { d.media with
    sb := { d.media.sb with lostSides := setBit (setBit d.media.sb.lostSides (2 * bank) false) (2 * bank + 1) false }
    expected := if d.media.expected.contains bank then d.media.expected else d.media.expected ++ [bank] } }

/-- Steps 1 to 5 of Table 10.8 (R316): the bank's table is set, its weir marks programmed, a superblock with it written. -/
def joinBank (bank : Nat) (refOffsets : List (List Int)) (failed : List Nat) (d : Device) : Device :=
  if carrierState bank d != 0x03 then d
  else
    let d := saveJoined bank (eraseAnchor (2 * bank + 1) (eraseAnchor (2 * bank) (joinBlocks bank d)))
    let d := expectBank bank ((List.range 256).foldl (fun d i => joinDie (bank * 256 + i) ((refOffsets[i]?).getD []) d) d)
    let d := moveRoot (fun p r => { r with gaugeTable := p }) (moveRoot (fun p r => { r with calendar := p }) d)
    let d := updCarrier bank (fun c => { c with lost := false }) (setObj (Obj.carrierJoinHours bank) (hours d) (writeSuperblock failed d))
    logRec Code.carrierJoined [bank, (carrier bank d).cls] d

/-- CARRIER_JOINED (R316). -/
def execCarrierJoined (bank : Bank) (refOffsets : List (List Int)) (failed : List Nat) (s : State) : Host.Outcome State Fault Refusal :=
  runDev (joinBank bank.val refOffsets failed) s

/-! ### Planned removal (R318 to R320) -/

/-- Frames the device could hold on the good blocks of other banks' dies in service (R318). -/
def removalRoom (bank : Nat) (d : Device) : Nat :=
  ((List.range 4096).map fun n =>
    if bankOfDie n = bank || !dieInService n d then 0
    else
      let listed := d.media.blocks.filter fun e => dieOfBlock e.1 = n && (block e.1 d).state != 6 && (block e.1 d).state != 7
      let good := listed.filter fun e => e.2.state != 4 && e.2.state != 5
      let all := 16384 - 4 * b2n (anchorDie n) - 4
      (all - listed.length) * (framesPerBlock 4 - 1) + (good.map fun e => framesPerBlock e.2.lastStep - 1).sum).sum

/-- Frames that the live data of the device need after the removal (R318). -/
def removalNeed (d : Device) : Rat :=
  (d.media.blocks.filter fun e => e.2.role = 0 && e.2.stripe != 0).foldl (fun s e =>
    s + (e.2.valid : Rat) * 15 / ((15 - (stripe e.2.stripe d).parity : Nat) : Rat)) 0

/-- The removal of a bank is refused for space (R318). -/
def removalRefused (bank : Nat) (d : Device) : Bool :=
  decide ((removalRoom bank d : Rat) * ((1000 - getObj Obj.reclaimStopPermille d : Nat) : Rat) / 1000 < removalNeed d)

/-- The abort window of a removal opens (R318). -/
def openWindow (bank : Nat) (d : Device) : Device :=
  setCarrierState bank 0x05 (updCarrier bank (fun c => { c with windowMs := nowMs d, waiting := false }) d)

/-- A removal is cancelled, in its window or while it runs (R318, R319): stripes that were in the restripe set for it alone leave it. -/
def cancelRemoval (bank : Nat) (d : Device) : Device :=
  let d := logRec Code.evacuationCancelled [bank, restripeProgress d] (updCarrier bank (fun c => { c with waiting := false }) d)
  if carrierState bank d = 0x06 then
    let had := !d.media.restripe.isEmpty
    let d := setCarrierState bank 0x04
      { d with media := { d.media with evac := none, restripe := d.media.restripe.filter (·.lost) } }
    if had && d.media.restripe.isEmpty then
      logRec Code.restripeComplete [getObj Obj.stripesRestriped d, getObj Obj.stripesLost d] d
    else d
  else setCarrierState bank 0x04 d

/-- A removal is refused: back in service, AIND blinks for 3 s (R318). -/
def refuseRemoval (bank reason : Nat) (d : Device) : Device :=
  logRec Code.evacuationRefused [bank, reason]
    (setCarrierState bank 0x04 (updCarrier bank (fun c => { c with waiting := false, refusedUntil := nowMs d + 3000 }) d))

/-- A removal is accepted (R319): the bank drains, its open stripes stop, its closed stripes join the restripe set. -/
def acceptRemoval (bank : Nat) (d : Device) : Device :=
  let d := setCarrierState bank 0x06
    { updCarrier bank (fun c => { c with waiting := false }) d with media := { d.media with evac := some { bank := bank } } }
  let d := updCarrier bank (fun c => { c with waiting := false }) d
  let d := d.media.stripes.foldl (fun d e =>
    if e.2.members.any (·.1 == bank) && !e.2.lost.contains bank then
      if e.2.isOpen then stopStripe e.1 d else joinRestripe e.1 false d
    else d) d
  if serviceMode d.ctl.mode then changeMode .m7 d else d

/-- The end of the abort window (R318, step 3). -/
def windowEnds (bank : Nat) (d : Device) : Device :=
  let c := carrier bank d
  if carrierState bank d != 0x05 || nowMs d < c.windowMs + 5000 then d
  else if d.media.evac.isSome then refuseRemoval bank 0x01 d
  else if (d.ctl.mode != .m5 && d.ctl.mode != .m6) || higherDue d then updCarrier bank (fun c => { c with waiting := true }) d
  else if banksOpen d < 15 then refuseRemoval bank 0x02 d
  else if removalRefused bank d then refuseRemoval bank 0x03 d
  else acceptRemoval bank d

/-- ABORT_WINDOW_EXPIRY (R318). -/
def execAbortWindowExpiry (bank : Bank) (s : State) : Host.Outcome State Fault Refusal := runDev (windowEnds bank.val) s

/-- No stripe with a member in the bank is left; system areas are stripes, anchors and gauges apart. -/
def drained (bank : Nat) (d : Device) : Bool := !d.media.stripes.any fun e => e.2.members.any (·.1 == bank) && !e.2.lost.contains bank

/-- An evacuation completes (R320). -/
def evacuated (failed : List Nat) (d : Device) : Device :=
  match d.media.evac with
  | none => d
  | some e =>
    if carrierState e.bank d != 0x06 || !drained e.bank d then d
    else
      let d := writeSuperblock failed (setCarrierState e.bank 0x07 { d with media := { d.media with
        evac := none, expected := d.media.expected.filter (· != e.bank) } })
      let d := clearPen e.bank d
      dueTransitions (updateCauses (logRec Code.carrierDrained [e.bank, d.media.sb.generation] d))

/-- EVACUATION_COMPLETE (R320). -/
def execEvacuationComplete (failed : List Nat) (s : State) : Host.Outcome State Fault Refusal := runDev (evacuated failed) s

/-- CARRIER_BUTTON_IGNORED (R313). -/
def buttonIgnored (bank : Nat) (d : Device) : Device := logRec Code.carrierButtonIgnored [bank, carrierState bank d] d

/-- A press of the attention button (R313, R314, R318, R319). -/
def pressButton (bank : Nat) (d : Device) : Device :=
  let c := carrier bank d
  match carrierState bank d with
  | 0x01 => if carrierMode d && !c.deferred then startBringUp bank d else buttonIgnored bank d
  | 0x04 => openWindow bank d
  | 0x05 => cancelRemoval bank d
  | 0x06 => cancelRemoval bank d
  | 0x08 => if carrierMode d then startBringUp bank d else buttonIgnored bank d
  | 0x09 => buttonIgnored bank d
  | 0x0A => buttonIgnored bank d
  | 0x0B => buttonIgnored bank d
  | _ => d

/-- ATTENTION_BUTTON_PRESS (R318, R349 wake event 3). -/
def execAttentionButtonPress (bank : Bank) (s : State) : Host.Outcome State Fault Refusal :=
  runDev (fun d => onlyIf ((carrier bank.val d).present && d.ctl.mode != .m0) (fun d =>
    pressButton bank.val (signalWakeAll 3 (updCarrier bank.val (fun c => { c with button := true }) d))) d) s

/-- CarrierCommand (Table 10.9): none where the command is not valid in the carrier's state. -/
def carrierCommand (bank value : Nat) (d : Device) : Option Device :=
  let st := carrierState bank d
  match value with
  | 0x01 => if st = 0x04 then some (openWindow bank d) else none
  | 0x02 => if st = 0x05 || st = 0x06 then some (cancelRemoval bank d) else none
  | 0x03 => if st = 0x01 && carrierMode d && !(carrier bank d).deferred then some (startBringUp bank d) else none
  | 0x04 => if st = 0x0A then some (setCarrierState bank 0x03 d) else none
  | 0x05 => if st = 0x08 && carrierMode d then some (startBringUp bank d) else none
  | _ => none

/-! ### Operation status, timeouts and suspension (R63 to R67, R70) -/

/-- Maximum time of an operation in µs, its ONFI function code, from the die's entry. -/
def opMax (n op : Nat) (d : Device) : Nat :=
  let p := profileOf n d
  match op with | 1 => p.tReadMax | 2 => p.tCoarseMax | 3 => p.tFineMax | _ => p.tEraseMax
/-- The function code that OPERATION_TIMEOUT names: of a four-plane operation that of its last plane, whose confirm starts it
(notes/assumptions/134.md). -/
def opFunction (op : Nat) : Nat := match op with | 1 => 0x08 | 2 => 0x0C | 3 => 0x0E | _ => 0x10

/-- The operation named runs on the die: 2 a coarse pass, 3 a fine pass, 4 an erase, of the group of that slot. -/
def opOutstanding (n slot op : Nat) (d : Device) : Bool :=
  let x := (die n d).op
  opRuns n d && x.kind = op && x.slot = slot && !(die n d).failed

/-- A timed-out program or erase has failed on its four planes, and the timeout is counted (R64, Table 3.6); a second one in a row fails the
die (R65). -/
def opFails (n slot op func : Nat) (d : Device) : Device :=
  operationTimeout n func
    (if op = 4 then eraseEnds n slot false [0, 1, 2, 3] d else placeWaiting (passEnds n slot false [0, 1, 2, 3] d))

/-- An operation has completed in time: timeouts are no longer consecutive (R65). Its result comes with the status that ends it. -/
def foundReady (n : Nat) (d : Device) : Device := updDie n (fun x => { x with timeouts := 0 }) d

/-- A status poll of a LUN (R63, R64): an operation still busy at 110 % of its maximum time, time suspended left out (R67), has timed out. -/
def poll (n slot op elapsedUs : Nat) (busy : Bool) (d : Device) : Device :=
  if getObj (Obj.channelState (channelOfDie n)) d != 0x02 || !opOutstanding n slot op d || (die n d).op.suspended then d
  else if !busy then foundReady n d
  else if 11 * opMax n op d ≤ 10 * elapsedUs then startOp n (opFails n slot op (opFunction op) d)
  else d

/-- STATUS_POLL (R63). -/
def execStatusPoll (die : Die) (slot : Fin 2) (op elapsedUs : Nat) (busy : Bool) (s : State) : Host.Outcome State Fault Refusal :=
  runDev (poll die.val slot.val op elapsedUs busy) s

/-- A rising edge of a channel's ready/busy line (R63): every LUN of the channel with an operation outstanding is polled, and those not named
are found ready. -/
def pollChannel (cc : Nat) (busy : List Nat) (d : Device) : Device :=
  (d.media.dies.map (·.1)).foldl (fun d n =>
    if channelOfDie n = cc && opRuns n d && !(die n d).op.suspended && !busy.contains n then foundReady n d else d) d

/-- READY_BUSY_RISE (R63). -/
def execReadyBusyRise (channel : Channel) (busy : List Nat) (s : State) : Host.Outcome State Fault Refusal :=
  runDev (pollChannel channel.val busy) s

/-- A suspend command does not reach the suspended state within TSuspendMax: it is handled as a timeout, under the code of Suspend
(R67; notes/assumptions/134.md). -/
def suspendFails (n slot op : Nat) (d : Device) : Device :=
  if opOutstanding n slot op d && (die n d).op.suspended && getObj (Obj.channelState (channelOfDie n)) d = 0x02 then
    startOp n (opFails n slot op 0x13 d)
  else d

/-- SUSPEND_TIMEOUT (R67). -/
def execSuspendTimeout (die : Die) (slot : Fin 2) (op : Nat) (s : State) : Host.Outcome State Fault Refusal :=
  runDev (suspendFails die.val slot.val op) s

/-- A read meets a die that is busy with an erase or a program (R66): the operation is suspended for it where the entry permits and the limit is
not reached; it keeps its tokens (R80). Otherwise the read waits. -/
def suspendFor (n op : Nat) (d : Device) : Device :=
  let p := profileOf n d
  let permitted := if op = 4 then bitOf p.flags 1 else bitOf p.flags 2
  if !opRuns n d || (die n d).op.kind != op || (die n d).op.suspended || !dieInService n d then d
  else if permitted && (die n d).op.suspends < p.suspendLimit then
    updDie n (fun x => { x with op := { x.op with suspends := x.op.suspends + 1, suspended := true } }) d
  else updDie n (fun x => { x with op := { x.op with readsWaiting := x.op.readsWaiting + 1 } }) d

/-- READ_SUSPEND (R66). -/
def execReadSuspend (die : Die) (op : Nat) (s : State) : Host.Outcome State Fault Refusal := runDev (suspendFor die.val op) s

/-- ZQ calibration short (R70, Table 3.7): once a second of the channel's on-time, while it holds the step's five tokens. No transfer is in
progress between commands (notes/assumptions/11.md). -/
def zqShort (cc : Nat) (d : Device) : Device :=
  if getObj (Obj.channelState cc) d != 0x02 || nowMs d < (smGet {} d.media.channels cc).zqMs + 1000 then d
  else whileCharged (cc / 8) 5 (updChannel cc fun c => { c with zqMs := nowMs d }) d

/-- ZQ_CALIBRATION_SHORT (R70). -/
def execZqCalibrationShort (channel : Channel) (s : State) : Host.Outcome State Fault Refusal := runDev (zqShort channel.val) s

end Sys2Proof.Machine
end

