-- ==== Sys2Proof/Machine/Supply.lean ====
section
/-! DEFINITION. The system supply, the hold-up store, the housekeeping round, temperature, throttling and the core voltage (spec/15 R460 to
R482). -/
namespace Sys2Proof.Machine

/-! ### Charging the store (R467) -/

/-- HU_CHG_EN is high from M3 on, except during a test, in M8 and M11 and while VSYS is below the warning level. -/
def chargeWanted (d : Device) : Bool :=
  let m := d.ctl.mode
  !(m = .m0 || m = .m1 || m = .m2 || m = .m8 || m = .m11) && !d.holdup.testing && !d.ctl.warned

/-- Drive HU_CHG_EN as R467 states; each rise starts the time of the charge. -/
def driveCharge (d : Device) : Device :=
  let want := chargeWanted d
  if want = d.ctl.huChgEn then d
  else
    let d := { d with ctl := { d.ctl with huChgEn := want } }
    if want then { d with holdup := { d.holdup with chargeMs := nowMs d, reached := false, timedOut := false } } else d

/-! ### The energy relied on (R470 to R473) -/

/-- The hold-up settings as they stand. -/
def holdUpNow (d : Device) : HoldUpSettings :=
  { currentMa := getObj Obj.holdUpTestCurrentMa d, floorMv := getObj Obj.holdUpFloorMv d, minMv := getObj Obj.holdUpMinMv d
    efficiencyPct := getObj Obj.holdUpEfficiencyPct d, esrMaxMohm := getObj Obj.holdUpEsrMaxMohm d }

/-- The hold-up settings in force: a change takes effect at the next test (R473). -/
def holdUpInForce (d : Device) : HoldUpSettings := d.holdup.settings.getD (holdUpNow d)

/-- A hold-up setting is about to change: those in force stay in force until the next test (R473). -/
def keepHoldUp (d : Device) : Device := { d with holdup := { d.holdup with settings := some (holdUpInForce d) } }


/-- The deduction is reported as it stands (0x5020.06); the energy follows where a test has ended without a result. -/
def energyAtEpoch (d : Device) : Device :=
  let d := setObj Obj.holdUpDeductionMj (deduction d).ceil.toNat d
  if d.holdup.restored then recomputeCeiling { d with holdup := { d.holdup with restored := false } } else d

/-- The store fails outside a test (R467, R471): cause 0x07 or 0x08. -/
def storeFails (cause : Nat) (d : Device) : Device :=
  recomputeCeiling (setObj Obj.holdUpFailCause cause (setObj Obj.holdUpState 0x03 d))

/-! ### Supply warnings (R463, R464) -/

/-- The warning comparator trips (Table 15.10). -/
def supplyTrips (d : Device) : Device :=
  let m := d.ctl.mode
  if m = .m0 || m = .m1 then d
  else
    let d := abandonTest (incObj Obj.supplyWarnings { d with ctl := { d.ctl with warned := true, qualifying := false, qualified := false } })
    let d := { d with ctl := { d.ctl with huChgEn := false } }
    let rec_ (d : Device) : Device := logRec Code.supplyWarning [getObj Obj.vsysMv d, modeNum m] d
    match m with
    | .m4 => updateCauses { d with ctl := { d.ctl with supplyHold := true } }
    | .m5 | .m6 | .m7 | .m9 => if higherDue d then d else closeAllRows (enterFlush (rec_ d))
    | .m8 => d
    | _ => rec_ d

/-- SUPPLY_WARNING (R463). -/
def execSupplyWarning (s : State) : Host.Outcome State Fault Refusal := runDev supplyTrips s

/-- The recovery comparator trips: VSYS is above the warning level again; M8 and a held M4 start the 20 ms qualification (R464, R43). -/
def supplyRecovers (d : Device) : Device :=
  let d := { d with ctl := { d.ctl with warned := false } }
  let d := if d.ctl.mode = .m8 || (d.ctl.mode = .m4 && d.ctl.supplyHold) then { d with ctl := { d.ctl with qualifying := true } } else d
  driveCharge d

/-- RECOVERY_COMPARATOR_TRIP (R464). -/
def execRecoveryComparatorTrip (s : State) : Host.Outcome State Fault Refusal :=
  runDev (fun d => onlyIf (d.ctl.mode != .m0 && d.ctl.warned) supplyRecovers d) s

/-- A write of SupplyWarningMv takes effect at once (R462): VSYS below the new level counts as a fall through it. -/
def warningLevelChanged (d : Device) : Device :=
  if getObj Obj.vsysMv d < getObj Obj.supplyWarningMv d && !d.ctl.warned && d.therm.last.isSome then
    supplyTrips d
  else d

/-! ### The hold-up test (R468 to R471) -/

/-- Modes in which a due test runs. -/
def testMode (d : Device) : Bool := match d.ctl.mode with | .m4 | .m5 | .m6 | .m7 | .m9 => true | _ => false

/-- A test is due: a cause of R468 waits, or the interval has passed since the last test. -/
def testDue (d : Device) : Bool :=
  d.holdup.due || match d.holdup.lastTestHours with
    | some h => decide (h + 16 * getObj Obj.holdUpTestIntervalHours d ≤ hours d)
    | none => false

/-- Step 1 of Table 15.12; a test waits while VSYS is below the warning level (R467, notes/assumptions/151.md). While it runs the store has not
passed its last test (R468), and the ceiling is zero (R200). -/
def startTest (d : Device) : Device :=
  if !testMode d || !testDue d || d.holdup.testing || d.ctl.warned then d
  else
    let before := getObj Obj.holdUpState d
    recomputeCeiling (setObj Obj.holdUpState 0x04
      { d with ctl := { d.ctl with huChgEn := false }
               holdup := { d.holdup with due := false, testing := true, before := before, v0 := none, samples := [], stopped := false,
                                         settings := none } })

/-- HOLDUP_TEST_DUE (R468). -/
def execHoldupTestDue (s : State) : Host.Outcome State Fault Refusal := runDev startTest s

/-- HOLDUP_TEST_BASELINE (R469): v0 is taken and HU_TEST driven high. -/
def execHoldupTestBaseline (v0 : Nat) (s : State) : Host.Outcome State Fault Refusal :=
  runDev (fun d => onlyIf (d.holdup.testing && d.holdup.v0.isNone) (fun d =>
    { d with holdup := { d.holdup with v0 := some v0 }, ctl := { d.ctl with huTest := true } }) d) s

/-- A sample; HU_TEST goes low after 60 of them, or at the first at or below the floor plus 100 mV (step 4). -/
def takeSample (mv : Nat) (d : Device) : Device :=
  if !d.holdup.testing || !d.ctl.huTest || d.holdup.stopped then d
  else
    let xs := d.holdup.samples ++ [mv]
    let stop := decide (60 ≤ xs.length) || decide (mv ≤ (holdUpInForce d).floorMv + 100)
    { d with holdup := { d.holdup with samples := xs, stopped := stop }, ctl := { d.ctl with huTest := !stop } }

/-- HOLDUP_TEST_SAMPLE (R469). -/
def execHoldupTestSample (mv : Nat) (s : State) : Host.Outcome State Fault Refusal := runDev (takeSample mv) s

/-- The least-squares line of R470 over samples 5 to n in volts: a and the fall s per ms, and the largest distance from it. -/
def fitLine (samples : List Nat) : Rat × Rat × Rat :=
  let pts : List (Rat × Rat) := ((List.range samples.length).drop 4).map fun i =>
    (((i + 1 : Nat) : Rat), (((samples[i]?).getD 0 : Nat) : Rat) / 1000)
  let n : Rat := (pts.length : Rat)
  let sx := (pts.map (·.1)).sum
  let sy := (pts.map (·.2)).sum
  let sxx := (pts.map fun p => p.1 * p.1).sum
  let sxy := (pts.map fun p => p.1 * p.2).sum
  let s := -((n * sxy - sx * sy) / (n * sxx - sx * sx))
  let a := (sy + s * sx) / n
  let off (p : Rat × Rat) : Rat := max (p.2 - (a - s * p.1)) (a - s * p.1 - p.2)
  (a, s, (pts.map off).foldl max 0)

/-- What a test finds: c in µF, esr in mΩ, e_raw in mJ, and the first cause of Table 15.13 that applies, 0 for a pass. -/
def testResult (d : Device) : Nat × Nat × Nat × Nat :=
  let xs := d.holdup.samples
  let v0 := d.holdup.v0.getD 0
  let h := holdUpInForce d
  let floor_ := h.floorMv
  let (a, s, dist) := fitLine xs
  let i : Rat := (h.currentMa : Rat) / 1000
  let good : Bool := decide (0 < s)
  let c : Rat := if good then i / (s * 1000) else 0
  let esr : Rat := if good then ((v0 : Rat) / 1000 - a) / i else 0
  let resid : Rat := if good then dist / (s * (xs.length : Rat)) else 0
  let vf : Rat := (floor_ : Rat) / 1000
  let vm : Rat := (h.minMv : Rat) / 1000
  let raw : Rat := if good then (h.efficiencyPct : Rat) / 100 * (1 / 2) * c * (vf * vf - vm * vm) * 1000 else 0
  let cause :=
    if v0 < floor_ + 500 then 1
    else if (v0 :: xs).any fun v => decide (45000 < v) || decide (v < 5000) then 2
    else if xs.length < 20 then 3
    else if !good || decide (2 / 100 < resid) then 4
    else if decide ((h.esrMaxMohm : Rat) < esr * 1000) then 5
    else if raw.floor ≤ (deduction d).ceil then 6
    else 0
  ((c * 1000000).floor.toNat, (esr * 1000).floor.toNat, raw.floor.toNat, cause)

/-- Step 5 of Table 15.12, and the result (R471). -/
def endTest (d : Device) : Device :=
  if !d.holdup.testing || !d.holdup.stopped then d
  else
    let (c, esr, raw, cause) := testResult d
    let d := driveCharge { d with holdup := { d.holdup with testing := false, lastTestHours := some (hours d) } }
    let d := incObj Obj.holdUpTestsRun (setObj Obj.holdUpEsrMohm (min 0xFFFF esr) (setObj Obj.holdUpCapacitanceUf (c % 2 ^ 32) d))
    recomputeCeiling <|
      if cause = 0 then
        setObj Obj.holdUpRawMj (raw % 2 ^ 32) (setObj Obj.holdUpFailCause 0 (setObj Obj.holdUpState 0x02 { d with holdup := { d.holdup with rawMj := raw } }))
      else
        logRec Code.holdupTestFailed [cause, c, esr] (incObj Obj.holdUpTestsFailed
          (setObj Obj.holdUpFailCause cause (setObj Obj.holdUpState 0x03 d)))

/-- HOLDUP_TEST_END (R471). -/
def execHoldupTestEnd (s : State) : Host.Outcome State Fault Refusal := runDev endTest s

/-- HoldUpTestRequest (Table 15.18): none for the state-conflict abort. -/
def requestTest (d : Device) : Option Device :=
  match d.ctl.mode with
  | .m8 | .m10 | .m11 => none
  | _ => some { d with holdup := { d.holdup with due := true } }

/-- The charge has not reached its level within 120 s (R467): once per charge. -/
def chargeTimeout (d : Device) : Device :=
  if d.ctl.huChgEn && !d.holdup.reached && !d.holdup.timedOut && decide (d.holdup.chargeMs + 120000 ≤ nowMs d) then
    storeFails 0x07 (logRec Code.holdupChargeTimeout [getObj Obj.holdUpSenseMv d] { d with holdup := { d.holdup with timedOut := true } })
  else d

/-- HOLDUP_CHARGE_TIMEOUT (R467). -/
def execHoldupChargeTimeout (s : State) : Host.Outcome State Fault Refusal := runDev chargeTimeout s

/-! ### The housekeeping round: supplies (R465, R467, R475) -/

/-- The store's readings: floor, recharge level, and what becomes due (R465, R467, R468). -/
def roundStore (prev : Option Round) (r : Round) (d : Device) : Device :=
  let floor_ := (holdUpInForce d).floorMv
  let d := setObj Obj.holdUpSenseMv r.huSenseMv d
  let two (p : Nat → Bool) : Bool := p r.huSenseMv && match prev with | some q => p q.huSenseMv | none => false
  let first := prev.isNone && decide (floor_ + 500 ≤ r.huSenseMv)
  let high := first || two fun v => decide (floor_ + 500 ≤ v)
  let d := if d.ctl.bufferHold && two (fun v => decide (floor_ ≤ v)) then { d with ctl := { d.ctl with bufferHold := false } } else d
  let d := if high && !d.holdup.testing then
      let due := d.holdup.due || !d.holdup.reachedSinceReset || d.holdup.recharge
      { d with holdup := { d.holdup with reached := true, reachedSinceReset := true, recharge := false, due := due }
               ctl := { d.ctl with recharging := false } }
    else d
  let low := two fun v => decide (v < floor_)
  let watched := match d.ctl.mode with | .m0 | .m1 | .m8 => false | _ => true
  if low && watched && !d.holdup.testing && !(getObj Obj.holdUpState d = 0x03 && getObj Obj.holdUpFailCause d = 0x08) then
    storeFails 0x08 (logRec Code.holdupBelowFloor [r.huSenseMv] d)
  else d

/-- The windows of Table 21.4 in tenths of a mV for channels 0x13 to 0x19; VDD_CORE's follows the VID target. -/
def railWindow (i : Nat) (d : Device) : Nat × Nat :=
  match i with
  | 0 => let t := 6000 + d.ctl.vidTarget * 25 / 2; (t - 500, t + 500)
  | 1 => (7600, 8400)
  | 2 => (8250, 8750)
  | 3 => (7125, 7875)
  | 4 => (10670, 11330)
  | 5 => (11400, 12600)
  | 6 => (17100, 18900)
  | _ => (31350, 34650)

/-- A rail lies outside its window in two rounds (R475): recorded once a minute per rail. -/
def roundRail (prev : Option Round) (r : Round) (d : Device) (i : Nat) : Device :=
  let v := (r.railsMv[i]?).getD 0
  let d := setObj (Obj.railMv (i + 1)) v d
  let w := railWindow i d
  let out (x : Nat) : Bool := decide (10 * x < w.1) || decide (w.2 < 10 * x)
  let again := match prev with | some q => out ((q.railsMv[i]?).getD 0) | none => false
  let at_ := smGet 0 d.therm.railFaultMs i
  if out v && again && (at_ = 0 || decide (at_ + 60000 ≤ nowMs d)) then
    logRec Code.supplyRailFault [0x12 + i, v] { d with therm := { d.therm with railFaultMs := smSet 0 i (nowMs d) d.therm.railFaultMs } }
  else d

/-! ### The controller die (R476, R478) -/

/-- A sensor of a round is valid (R476): in range, and within 25 °C of the median of the others. -/
def sensorValid (xs : List Int) (i : Nat) : Bool :=
  let v := (xs[i]?).getD 0
  decide (-55 ≤ v && v ≤ 150) && decide (Int.natAbs (v - medianInt (xs.eraseIdx i)) ≤ 25)

/-- The valid readings of a round. -/
def validReadings (xs : List Int) : List Int := (List.range xs.length).filterMap fun i => if sensorValid xs i then xs[i]? else none

/-- Die maximum and minimum of a round (R476). -/
def dieRange (xs : List Int) : Int × Int :=
  match validReadings xs with
  | [] => (105, -10)
  | v :: vs =>
    let hi := vs.foldl max v
    let lo := vs.foldl min v
    (if vs.length + 1 < 3 then 105 else hi, lo)

/-- A limit that acts at a level and clears at another, each read in two rounds (R474, R478): a high limit. -/
def highLimit (act clear : Int) (prev cur : Int) (on : Bool) : Bool :=
  if act ≤ cur && act ≤ prev then true else if cur ≤ clear && prev ≤ clear then false else on

/-- The same for a low limit: it acts below its level and clears at or above the other. -/
def lowLimit (act clear : Int) (prev cur : Int) (on : Bool) : Bool :=
  if cur < act && prev < act then true else if clear ≤ cur && clear ≤ prev then false else on

/-- The die's limits of Table 15.16. -/
def roundDie (prev : Option Round) (r : Round) (d : Device) : Device :=
  let d := (List.range r.sensors.length).foldl (fun d i =>
    let v := (r.sensors[i]?).getD 0
    if sensorValid r.sensors i then setObj (Obj.sensorTemp (i + 1)) (tempByte v) d
    else
      let d := setObj (Obj.sensorTemp (i + 1)) 0 d
      if d.therm.faultySensors.contains i then d
      else logRec Code.sensorFault [i, i40 v] { d with therm := { d.therm with faultySensors := i :: d.therm.faultySensors } }) d
  let (hi, lo) := dieRange r.sensors
  let sensor := ((List.range r.sensors.length).find? fun i => sensorValid r.sensors i && (r.sensors[i]?).getD 0 = hi).getD 0
  let d := { d with therm := { d.therm with dieMax := hi, dieMin := lo, hottest := tempByte hi } }
  let d := setObj Obj.dieTempMax (tempByte hi) (setObj Obj.dieTempMin (tempByte lo) d)
  match prev with
  | none => d
  | some q =>
    let (hi0, lo0) := dieRange q.sensors
    let warn := highLimit 95 90 hi0 hi d.therm.dieWarn
    let d := if warn && !d.therm.dieWarn then logRec Code.dieTempWarning [tempByte hi, sensor] d else d
    let cold := d.ctl.mode = .m3 && lowLimit (-10) (-10) lo0 lo d.ctl.coldHold
    let d := { d with therm := { d.therm with dieWarn := warn, dieHot := highLimit 105 100 hi0 hi d.therm.dieHot }
                      ctl := { d.ctl with coldHold := cold } }
    if 118 ≤ hi && 118 ≤ hi0 then
      if d.ctl.mode = .m1 then
        if d.ctl.haltLatch then d
        else logRec Code.thermalHalt [tempByte hi, sensor] { d with ctl := { d.ctl with haltLatch := true } }
      else toHalt sensor d
    else d

/-! ### Carriers (R477 to R480) -/

/-- The converter range: a reading within 6 counts of either end is a fault. -/
def cthFault (c : Nat) : Bool := decide (c ≤ 6) || decide (4089 ≤ c)

/-- The temperature of a CTH reading in °C by the beta equation, B = 3,435 K at 25 °C (R477; notes/assumptions/33.md). -/
def cthTemp (c : Nat) : Rat :=
  let r := 4096 - c
  let lg : Rat := if r ≤ c then (log2Fix c r : Rat) else -(log2Fix r c : Rat)
  let ln := lg * 762123384786 / (2 ^ 80 : Nat)
  1 / (20 / 5963 + ln / 3435) - 27315 / 100

/-- Change a carrier's limits. -/
def updThermal (bank : Nat) (f : CarrierThermal → CarrierThermal) (d : Device) : Device :=
  { d with therm := { d.therm with carriers := smUpd {} bank f d.therm.carriers } }

/-- An inhibit starts or ends (Table 15.16): `k` is its bit of CarrierThermalState. -/
def setInhibit (bank k : Nat) (on : Bool) (d : Device) : Device :=
  if bitOf (getObj (Obj.carrierThermalState bank) d) k = on then d
  else
    let d := setThermalBit bank k on d
    logRec Code.carrierColdInhibit [bank, (if on then 1 else 3) + k, getObj (Obj.carrierTemperature bank) d]
      (updThermal bank (fun c => if k = 0 then { c with programInhibit := on } else { c with readInhibit := on })
        (if k = 0 && on then withdrawOps bank d else d))

/-- A carrier's shutdown (R479): latched until the power cycle. -/
def carrierShutdown (bank : Nat) (d : Device) : Device :=
  let d := updThermal bank (fun c => { c with shutdown := true }) (setThermalBit bank 4 true d)
  setCarrierState bank 0x09 (dropCarrier bank (logRec Code.carrierThermalShutdown [bank, getObj (Obj.carrierTemperature bank) d] d))

/-- A carrier's sensor fault is recognised (R477): no limit acts on it any longer, its inhibits end. -/
def sensorFaultOf (bank count : Nat) (d : Device) : Device :=
  let d := logRec Code.carrierSensorFault [bank, count]
    (updThermal bank (fun c => { c with fault := true, validRounds := 0, warn := false, throttle := false }) (setThermalBit bank 5 true d))
  setInhibit bank 0 false (setInhibit bank 1 false (setThermalBit bank 2 false d))

/-- The limits of a carrier whose readings of two rounds are valid. -/
def carrierLimits (bank : Nat) (t0 t : Rat) (d : Device) : Device :=
  let c := smGet {} d.therm.carriers bank
  let high (act clear : Rat) (on : Bool) : Bool := if act ≤ t && act ≤ t0 then true else if t ≤ clear && t0 ≤ clear then false else on
  let low (act clear : Rat) (on : Bool) : Bool := if t < act && t0 < act then true else if clear ≤ t && clear ≤ t0 then false else on
  let warn := high 70 65 c.warn
  let d := if warn && !c.warn then logRec Code.carrierTempWarning [bank, getObj (Obj.carrierTemperature bank) d] d else d
  let d := updThermal bank (fun c => { c with warn := warn, throttle := high 80 75 c.throttle }) (setThermalBit bank 2 warn d)
  let d := setInhibit bank 1 (low (-20) (-15) c.readInhibit) (setInhibit bank 0 (low 0 5 c.programInhibit) d)
  if 90 ≤ t && 90 ≤ t0 && !c.shutdown then carrierShutdown bank d else d

/-- A round's reading of a bank's thermistor (R477). -/
def roundCarrier (prev : Option Round) (r : Round) (d : Device) (bank : Nat) : Device :=
  if !(carrier bank d).present then
    let c := smGet {} d.therm.carriers bank
    setObj (Obj.carrierTemperature bank) 0 (setObj (Obj.carrierThermalState bank) (16 * b2n c.shutdown)
      (updThermal bank (fun c => { shutdown := c.shutdown }) d))
  else
    let n := (r.cth[bank]?).getD 0
    let n0 := match prev with | some q => (q.cth[bank]?).getD n | none => n
    let bad := cthFault n
    let d := setObj (Obj.carrierTemperature bank) (if bad then 0 else tempByte (cthTemp n).floor) d
    let c := smGet {} d.therm.carriers bank
    if bad then
      let d := updThermal bank (fun c => { c with validRounds := if c.fault then 0 else c.validRounds }) d
      if prev.isSome && cthFault n0 && !c.fault then sensorFaultOf bank n d else d
    else
      let d := updThermal bank (fun c => { c with validRounds := min 10 (c.validRounds + 1) }) d
      let d := if c.fault && !cthFault n0 then setThermalBit bank 5 false (updThermal bank (fun c => { c with fault := false }) d) else d
      if 9 ≤ c.validRounds && prev.isSome && !cthFault n0 then carrierLimits bank (cthTemp n0) (cthTemp n) d else d

/-- The housekeeping round (R474): every reading is reported, and every threshold acts that two rounds have met. -/
def housekeeping (r : Round) (d : Device) : Device :=
  if d.ctl.mode = .m0 || !d.ctl.porReleased then d
  else
    let prev := d.therm.last
    let d := setObj Obj.vsysMv r.vsysMv (setObj Obj.vsysMinMv (if prev.isNone then r.vsysMv else min r.vsysMv (getObj Obj.vsysMinMv d)) d)
    let d := roundStore prev r d
    let d := (List.range 8).foldl (roundRail prev r) d
    let d := roundDie prev r d
    let d := (List.range 16).foldl (roundCarrier prev r) d
    let d := { d with therm := { d.therm with last := some r } }
    updateThrottling { d with therm := { d.therm with sanitizePaused := d.ctl.mode = .m9 && thresholdHeld d } }

/-- HOUSEKEEPING_ROUND (R474). -/
def execHousekeepingRound (round : Round) (s : State) : Host.Outcome State Fault Refusal := runDev (housekeeping round) s

/-! ### Throttling and the core voltage (R481, R460, R461) -/

/-- The running 5 s of die throttling end (R481). -/
def levelRise (d : Device) : Device :=
  if !d.therm.dieThrottle || nowMs d < d.therm.levelStartMs + 5000 then d
  else
    let stays := d.therm.levelStartMax - 2 < d.therm.dieMax
    let level := getObj Obj.throttleLevel d
    let d := { d with therm := { d.therm with levelStartMax := d.therm.dieMax, levelStartMs := nowMs d } }
    if stays && level < 3 then
      withhold (logRec Code.throttleStart [0x01, 0xFF, tempByte d.therm.dieMax] (setObj Obj.throttleLevel (level + 1) d))
    else d

/-- THROTTLE_LEVEL_RISE (R481). -/
def execThrottleLevelRise (s : State) : Host.Outcome State Fault Refusal := runDev levelRise s

/-- Highest code of a throttling level (Table 15.17). -/
def vidCap (d : Device) : Nat := match getObj Obj.throttleLevel d with | 0 => 0xC8 | 1 => 0x64 | 2 => 0x50 | _ => 0x28

/-- A code within R461's bounds: at or above the floor, the throttling cap first. -/
def vidBounded (n : Nat) (d : Device) : Nat := min (vidCap d) (max (getObj Obj.vidFloorCode d) n)

/-- The ring's count of the last millisecond, and where R461 takes the code. -/
def measurePace (count : Nat) (work : Bool) (d : Device) : Device :=
  if d.ctl.mode = .m0 || !d.ctl.porReleased then d
  else
    let d := markLoaded 3 d
    let pace := min 0xFFFF (count / 1000)
    let code := getObj Obj.vidCode d
    let d := setObj Obj.pace pace { d with ctl := { d.ctl with workQueued := work } }
    let target := if serviceMode d.ctl.mode then
        vidBounded (if 1430 < pace || !work then code - 1 else if pace < 1300 then 0xC8 else code) d
      else vidOutside d
    { d with ctl := { d.ctl with vidTarget := target } }

/-- PACE_MEASURE (R461). -/
def execPaceMeasure (count : Nat) (work : Bool) (s : State) : Host.Outcome State Fault Refusal := runDev (measurePace count work) s

/-- The code moves by one step towards its target (R460); in M0 to M2 and M11 HK holds 0x78. -/
def stepVid (d : Device) : Device :=
  match d.ctl.mode with
  | .m0 | .m1 | .m2 | .m11 => d
  | _ =>
    let target := if serviceMode d.ctl.mode then vidBounded d.ctl.vidTarget d else vidOutside d
    let code := getObj Obj.vidCode d
    setObj Obj.vidCode (if code < target then code + 1 else if target < code then code - 1 else code)
      { d with ctl := { d.ctl with vidTarget := target } }

/-- VID_STEP (R22, R460). -/
def execVidStep (s : State) : Host.Outcome State Fault Refusal := runDev stepVid s

end Sys2Proof.Machine
end

