-- ==== Sys2Proof/Machine/Failover.lean ====
section
/-! DEFINITION. The management complexes and the power domains (spec/17, spec/15 R452 to R459). A takeover changes none of what
other blocks own: ledgers, map, transactions and keys (R31, R177, R450, R522). -/
namespace Sys2Proof.Machine

/-- Change the complexes. -/
def updCpx (f : Complexes → Complexes) (d : Device) : Device := { d with cpx := f d.cpx }

/-- Modes in which a takeover runs (R515). -/
def takeoverMode (d : Device) : Bool := match d.ctl.mode with
  | .m3 | .m4 | .m5 | .m6 | .m7 | .m8 | .m9 => true
  | _ => false

/-- A takeover fails (R513): recorded, both complexes held, M10. -/
def takeoverFails (condition cause : Nat) (d : Device) : Device :=
  toLockdown (holdComplexes (logRec Code.takeoverFailed [condition, cause] d))

/-- The other complex follows: in step, in retention, or through its last epoch before its return (Table 17.4 code 0x01, R517). -/
def otherFollows (failing : Nat) (d : Device) : Bool :=
  if failing = 1 then getObj Obj.standbyState d = 0x01 || getObj Obj.standbyState d = 0x03
  else getObj Obj.primaryState d = 0x01 || d.cpx.returnStep = 4

/-- Recovery begins anew (Table 17.6, M2): transfers of an image in progress are abandoned. -/
def restartRecovery (d : Device) : Device :=
  { d with cs := { d.cs with recPath := 0, recCode := 0, recPieces := [], recHeld := 0, recComp := {} } }

/-- CPX-S, in retention or entering it, is requested on by the switchover machine, a level-type wake (R459, R522). -/
def callStandby (d : Device) : Device :=
  if getObj Obj.standbyState d != 0x03 && getObj (Obj.domainState 4) d != 0x03 then d
  else
    let d := if d.domains.lossWindow.contains 4 then incObj (Obj.wakesDuringEntry 4) d else d
    setObj Obj.standbyState 0x01 (setDomains [4] 0x01 { d with domains := { d.domains with kept := smErase 4 d.domains.kept } })

/-- Steps 1 and 2 of Table 17.3: the failing complex's gate closes and it is held in reset; the other is requested on. -/
def startTakeover (cause : Nat) (d : Device) : Device :=
  let failing := getObj Obj.complexInControl d
  let d := setObj Obj.lastTakeoverCause cause d
  if !otherFollows failing d then takeoverFails 0x01 cause d
  else
    let d := updCpx (fun c => { c with takeover := some { cause := cause, failing := failing },
                                       gateP := c.gateP && failing != 1, gateS := c.gateS && failing != 2 }) d
    if failing = 1 then callStandby (setObj Obj.primaryState 0x02 d)
    else setObj Obj.standbyState 0x04 d

/-- A cause of Table 17.2 raised by the complex in control, by mode (R511, R515). While a takeover waits for its step 7 the new complex's
cause fails it; another request while one runs is an inconsistency (Table 17.5, code 0x04). -/
def raiseCause (cause : Nat) (d : Device) : Device :=
  if d.ctl.mode = .m2 then
    restartRecovery (logRec Code.failoverTakeover [cause, 0x00, getObj Obj.lastTakeoverMicros d] (setObj Obj.lastTakeoverCause cause d))
  else if !takeoverMode d || getObj Obj.complexInControl d = 0 then d
  else match d.cpx.takeover with
    | none => startTakeover cause d
    | some t =>
      if t.opened then takeoverFails (if cause = 2 || cause = 3 then 0x04 else 0x05) t.cause d
      else toLockdown (holdComplexes (logRec Code.switchoverInconsistent [0x04, getObj Obj.complexInControl d] d))

/-- GOVERNOR_MISMATCH (R511). -/
def execGovernorMismatch (s : State) : Host.Outcome State Fault Refusal := runDev (raiseCause 0x01) s

/-- NON_CODE_REPORT (R507). -/
def execNonCodeReport (s : State) : Host.Outcome State Fault Refusal := runDev (raiseCause 0x03) s

/-- MISSED_EPOCH (R510). -/
def execMissedEpoch (s : State) : Host.Outcome State Fault Refusal := runDev (raiseCause 0x04) s

/-- CORE_MEMORY_UNCORRECTABLE (R511). -/
def execCoreMemoryUncorrectable (s : State) : Host.Outcome State Fault Refusal := runDev (raiseCause 0x05) s

/-- Steps 3 to 5 of Table 17.3. -/
def openGate (crcEqual : Bool) (micros : Nat) (d : Device) : Device :=
  match d.cpx.takeover with
  | none => d
  | some t =>
    if t.opened then d
    else if !crcEqual then takeoverFails 0x02 t.cause d
    else
      let other := if t.failing = 1 then 2 else 1
      let d := updCpx (fun c => { c with takeover := some { t with opened := true, micros := micros },
                                         gateP := other = 1, gateS := other = 2, returnStep := 0 }) d
      let d := setObj (if other = 1 then Obj.primaryState else Obj.standbyState) 0x00 (setObj Obj.complexInControl other d)
      setObj Obj.lastTakeoverMicros (min 0xFFFF micros) (incObj Obj.takeovers (setDomains [if other = 1 then 3 else 4] 0x01 d))

/-- TAKEOVER_OUTPUTS_REACHED (R512). -/
def execTakeoverOutputsReached (crcEqual : Bool) (micros : Nat) (s : State) : Host.Outcome State Fault Refusal :=
  runDev (openGate crcEqual micros) s

/-- TAKEOVER_STEP_TIMEOUT (R513). -/
def execTakeoverStepTimeout (s : State) : Host.Outcome State Fault Refusal :=
  runDev (fun d => match d.cpx.takeover with
    | some t => if t.opened then d else takeoverFails 0x03 t.cause d
    | none => d) s

/-- The returns within the last 24 operating hours (R517). -/
def recentReturns (d : Device) : List Nat := d.cpx.returnHours.filter fun h => decide (hours d < h + 384)

/-- A return of the primary is counted (R517). -/
def countReturn (d : Device) : Device :=
  let hs := hours d :: recentReturns d
  incObj Obj.primaryReturns (setObj Obj.returnsInWindow (min 3 hs.length) (updCpx (fun c => { c with returnHours := hs }) d))

/-- The primary is out until the power cycle (R516, R517), for a reason of Table 17.9. -/
def retirePrimary (reason : Nat) (d : Device) : Device :=
  logRec Code.primaryRetired [reason] (setDomains [3] 0x00 (setObj Obj.primaryState 0x04 (updCpx (fun c => { c with returnStep := 0 }) d)))

/-- Step 7 of Table 17.3: recorded; what becomes of the failed complex (Table 17.2, R516, R517). -/
def finishTakeover (t : Takeover) (d : Device) : Device :=
  let d := updCpx (fun c => { c with takeover := none }) d
  let d := logRec Code.failoverTakeover [t.cause, getObj Obj.complexInControl d, t.micros] d
  if t.failing = 1 then
    if t.cause = 2 || t.cause = 3 then retirePrimary 0x01 d
    else updCpx (fun c => { c with returnStep := 1 }) d
  else countReturn (setDomains [4] 0x00 d)

/-- The injection test (R509): passed on a mismatch report. It ends step 6 of a takeover. -/
def injectionTest (report : Nat) (d : Device) : Device :=
  if !(takeoverMode d || d.ctl.mode = .m2) || getObj Obj.complexInControl d = 0 then d
  else
    let d := incObj Obj.governorInjections (updCpx (fun c => { c with injectionBit := (c.injectionBit + 1) % 80 }) d)
    match d.cpx.takeover with
    | some t =>
      if !t.opened then d
      else if report = 2 then finishTakeover t d
      else takeoverFails 0x04 t.cause d
    | none => if report = 2 then d else raiseCause 0x02 d

/-- GOVERNOR_INJECTION_TEST (R509). -/
def execGovernorInjectionTest (report : Nat) (s : State) : Host.Outcome State Fault Refusal := runDev (injectionTest report) s

/-- SWITCHOVER_INCONSISTENT (R514). -/
def execSwitchoverInconsistent (code : Nat) (s : State) : Host.Outcome State Fault Refusal :=
  runDev (fun d => onlyIf (takeoverMode d) (fun d =>
    toLockdown (holdComplexes (logRec Code.switchoverInconsistent [code, getObj Obj.complexInControl d] d))) d) s

/-! ### Self-tests and the return of the primary (R516, R517, R520) -/

/-- PRIMARY_RESET_HOLD_EXPIRY (R516). -/
def execPrimaryResetHoldExpiry (s : State) : Host.Outcome State Fault Refusal :=
  runDev (fun d => onlyIf (d.cpx.returnStep = 1) (updCpx fun c => { c with returnStep := 2 }) d) s

/-- The primary's self-test ends. -/
def primaryTested (pass : Bool) (ms : Nat) (d : Device) : Device :=
  if d.cpx.returnStep != 2 then d
  else
    let d := setObj Obj.lastSelfTestMs ms d
    if !pass then retirePrimary 0x02 d
    else if 3 ≤ (recentReturns d).length then retirePrimary 0x03 d
    else setObj Obj.primaryState 0x03 (updCpx (fun c => { c with returnStep := 3 }) d)

/-- PRIMARY_SELF_TEST_DONE (R516). -/
def execPrimarySelfTestDone (pass : Bool) (ms : Nat) (s : State) : Host.Outcome State Fault Refusal := runDev (primaryTested pass ms) s

/-- Steps 2 to 6 of Table 17.7 at an epoch boundary: the full copy, then an epoch of following, then the comparison and the return. -/
def returnAtEpoch (crcEqual : Bool) (d : Device) : Device :=
  if d.cpx.takeover.isSome then d
  else if d.cpx.returnStep = 3 then updCpx (fun c => { c with returnStep := 4 }) d
  else if d.cpx.returnStep = 4 then
    if !crcEqual then retirePrimary 0x02 d
    else
      let d := updCpx (fun c => { c with returnStep := 0, gateP := true, gateS := false }) d
      let d := setObj Obj.primaryState 0x00 (setObj Obj.standbyState 0x01 (setObj Obj.complexInControl 0x01 d))
      let d := countReturn d
      logRec Code.primaryReturned [getObj Obj.returnsInWindow d, getObj Obj.lastSelfTestMs d] d
  else d

/-- The standby's boot self-test ends (R520). -/
def standbyTested (pass : Bool) (ms : Nat) (d : Device) : Device :=
  if getObj Obj.standbyState d != 0x02 || d.cpx.copyDue || !takeoverMode d then d
  else
    let d := setObj Obj.lastSelfTestMs ms d
    if pass then updCpx (fun c => { c with copyDue := true }) d
    else logRec Code.standbySelftestFailed [ms] (setDomains [4] 0x00 (setObj Obj.standbyState 0x04 d))

/-- STANDBY_SELF_TEST_DONE (R520). -/
def execStandbySelfTestDone (pass : Bool) (ms : Nat) (s : State) : Host.Outcome State Fault Refusal := runDev (standbyTested pass ms) s

/-! ### Retention of the standby (R521) -/

/-- CPX-S enters retention (R521, Table 15.4). -/
def standbySleeps (d : Device) : Device :=
  if serviceMode d.ctl.mode && getObj Obj.standbyState d = 0x01 && getObj Obj.complexInControl d = 0x01
      && getObj Obj.standbyRetentionIdleMs d != 0 && d.cpx.copiedSinceInput && getObj (Obj.domainState 4) d = 0x01 then
    incObj (Obj.entryRequests 4) (setObj Obj.standbyState 0x03 (setObj (Obj.domainState 4) 0x02
      { d with domains := { d.domains with commits := smUpd 0 4 (· + 1) d.domains.commits
                                           kept := smSet 0 4 (getObj (Obj.retainBanks 4) d) d.domains.kept
                                           lossWindow := 4 :: d.domains.lossWindow.filter (· != 4) } }))
  else d

/-- STANDBY_RETENTION_IDLE (R521). -/
def execStandbyRetentionIdle (s : State) : Host.Outcome State Fault Refusal := runDev standbySleeps s

/-- An input arrives while CPX-S is in retention (R521): it is released to both complexes once their states agree. -/
def standbyWakes (memOk : Bool) (d : Device) : Device :=
  let d := updCpx (fun c => { c with copiedSinceInput := false }) d
  if getObj Obj.standbyState d != 0x03 then d
  else
    let kept := smGet 0 d.domains.kept 4
    let d := if kept != 0 && !memOk then logRec Code.retentionLost [0x04] d else d
    setObj Obj.standbyState 0x01 (setObj (Obj.domainState 4) 0x01 { d with domains := { d.domains with kept := smErase 4 d.domains.kept } })

/-- STANDBY_WAKE_INPUT (R521). -/
def execStandbyWakeInput (memOk : Bool) (s : State) : Host.Outcome State Fault Refusal := runDev (standbyWakes memOk) s

/-! ### Domains (R453 to R459) -/

/-- The domain codes of Table 15.1. -/
def domainCode (dd : Nat) : Bool := decide (1 ≤ dd && dd ≤ 7) || decide (0x10 ≤ dd && dd ≤ 0x1F)

/-- A domain is in the floor of the mode (Table 2.6), or never leaves the on state (R452, R521). -/
def inFloor (dd : Nat) (d : Device) : Bool :=
  let m := d.ctl.mode
  if dd = 1 then m != .m0
  else if 0x10 ≤ dd then dataMode m && penHigh (dd - 0x10) d
  else match m with
    | .m0 | .m1 | .m11 => false
    | .m2 => dd = 2 || dd = 3
    | .m3 => dd = 2 || dd = 3 || dd = 4 || dd = 7
    | .m10 => dd = 2 || dd = 7
    | _ => dd = 2 || dd = 5 || dd = 6 || dd = 7 || (controlDomain d).contains dd

/-- The owners of Table 16.4 whose blocks lie in a domain (Table 15.1): those of pool buffers. -/
def domainOwners (dd : Nat) (d : Device) : List Nat :=
  match dd with
  | 2 => [1, 2, 3, 4]
  | 3 | 4 => if controlDomain d = [dd] then [0x0A] else []
  | 5 => [0x40]
  | 6 => poolOwners.filter fun o => (decide (0x10 ≤ o) && decide (o ≤ 0x37)) || (decide (0x41 ≤ o) && decide (o ≤ 0x45))
  | _ => if 0x10 ≤ dd then [dd + 0x40] else []

/-- A block of a domain holds units of a ledger (R457): a pool's buffers, or a bank's power tokens. -/
def holdsUnits (dd : Nat) (d : Device) : Bool :=
  ((domainOwners dd d).any fun o => [2, 3, 4, 5].any fun l => heldBy l o d != 0)
    || (decide (0x10 ≤ dd) && (heldBy 1 (dd - 0x10 + 1) d != 0 || heldBy 1 (dd - 0x10 + 0x11) d != 0))

/-- A refuser of Table 15.5 that the state shows for a domain. -/
def refuses (dd code : Nat) (d : Device) : Bool :=
  match code with
  | 0x02 => holdsUnits dd d
  | 0x03 => dd = 6 && (List.range 16).any fun ch => channelLoad ch d != 0
  | 0x04 => dd = 6 && !d.media.wp.engines.isEmpty
  | 0x06 => decide (0x10 ≤ dd) && d.media.dies.any fun x => bankOfDie x.1 = dd - 0x10 && x.2.op.kind != 0
  | 0x07 => (linksOf dd).any fun l => heldBy 6 l d != 0
  | 0x08 => (dd = 3 || dd = 4) && (d.cpx.copyDue || d.cpx.returnStep = 3)
  | 0x09 => dd = 6 && !d.sec.loaded.isEmpty
  | _ => false

/-- The refuser that is named, the first in the order of Table 15.5 (R457, notes/assumptions/149.md): what the state shows, or one that only the
request brings (the logbook writer, the map engine, a transaction); 0 where every block grants. -/
def refuserOf (dd brought : Nat) (d : Device) : Nat :=
  ((List.range 9).map (· + 1)).find? (fun c => c = brought || refuses dd c d) |>.getD 0

/-- Steps 1 and 2 of Table 15.4 (R456, R457). Only the complexes enter retention (R453). -/
def requestEntry (dd : Nat) (retention : Bool) (refuser : Nat) (d : Device) : Device :=
  let soon := match smGet none d.domains.refusedMs dd with | some t => decide (nowMs d < t + 1) | none => false
  if !domainCode dd || getObj (Obj.domainState dd) d != 0x01 || inFloor dd d || soon || (retention && dd != 3 && dd != 4) then d
  else
    let d := incObj (Obj.entryRequests dd) d
    let r := refuserOf dd refuser d
    if r != 0 then
      setObj (Obj.lastRefuser dd) (r % 256) (incObj (Obj.entryRefusals dd)
        { d with domains := { d.domains with refusedMs := smSet none dd (some (nowMs d)) d.domains.refusedMs } })
    else setObj (Obj.domainState dd) 0x03
      { d with domains := { d.domains with entering := smSet none dd (some { toRetention := retention, granted := true }) d.domains.entering } }

/-- DOMAIN_ENTRY_REQUEST (R456). -/
def execDomainEntryRequest (dd : Nat) (retention : Bool) (refuser : Nat) (s : State) : Host.Outcome State Fault Refusal :=
  runDev (requestEntry dd retention refuser) s

/-- An entry is cut off before step 4 (R458). -/
def abortEntry (dd : Nat) (d : Device) : Device :=
  match smGet none d.domains.entering dd with
  | none => d
  | some _ => setDomains [dd] 0x01 d

/-- Steps 4 and 5: the domain is in retention, or off. A domain that has come into the mode's floor meanwhile stays on (R39, R458). -/
def commitEntry (dd : Nat) (d : Device) : Device :=
  match smGet none d.domains.entering dd with
  | none => d
  | some e =>
    if inFloor dd d then abortEntry dd d else
    let d := { d with domains := { d.domains with
      entering := smErase dd d.domains.entering
      commits := smUpd 0 dd (· + 1) d.domains.commits
      kept := smSet 0 dd (if e.toRetention then getObj (Obj.retainBanks dd) d else 0) d.domains.kept
      lossWindow := dd :: d.domains.lossWindow.filter (· != dd) } }
    let d := returnCredits dd d
    let d := if dd = 4 && e.toRetention && getObj Obj.standbyState d = 0x01 then setObj Obj.standbyState 0x03 d else d
    setObj (Obj.domainState dd) (if e.toRetention then 0x02 else 0x00) d

/-- DOMAIN_ENTRY_COMMIT (R456). -/
def execDomainEntryCommit (dd : Nat) (s : State) : Host.Outcome State Fault Refusal := runDev (commitEntry dd) s

/-- DOMAIN_ENTRY_ABORT (R458). -/
def execDomainEntryAbort (dd : Nat) (s : State) : Host.Outcome State Fault Refusal := runDev (abortEntry dd) s

/-- A domain is woken (R455, R458, R459): an entry in progress is aborted; a domain in retention or off comes on. -/
def wakeDomain (dd : Nat) (error : Bool) (d : Device) : Device :=
  match getObj (Obj.domainState dd) d with
  | 0x03 => abortEntry dd d
  | 0x01 => d
  | st =>
    if !domainCode dd || mustBeOff dd d then d
    else
      let kept := smGet 0 d.domains.kept dd
      let d := if d.domains.lossWindow.contains dd then incObj (Obj.wakesDuringEntry dd) d else d
      let d := if st != 0x00 && kept != 0 && error then logRec Code.retentionLost [dd] d else d
      let d := if dd = 4 && getObj Obj.standbyState d = 0x03 then setObj Obj.standbyState 0x01 d else d
      setObj (Obj.domainState dd) 0x01 { d with domains := { d.domains with kept := smErase dd d.domains.kept } }

/-- DOMAIN_WAKE (R459). -/
def execDomainWake (dd : Nat) (error : Bool) (s : State) : Host.Outcome State Fault Refusal := runDev (wakeDomain dd error) s

end Sys2Proof.Machine
end

