-- ==== Sys2Proof/Machine/Firmware.lean ====
section
/-! DEFINITION. The code store and its firmware: download and commit, the boot's choice of a slot, the selection of the settings and
recovery (spec/20, spec/12 R366). -/
namespace Sys2Proof.Machine

/-! ### Slots, regions and protection -/

/-- First block, from the slot's start, and blocks of a component's region (Table 20.2). -/
def region (code : Nat) : Nat × Nat := match code with | 1 => (0, 384) | 2 => (384, 16) | 3 => (400, 16) | 4 => (416, 4) | _ => (0, 0)

/-- Largest image of a component (Tables 20.2 and 20.4). -/
def largestImage (code : Nat) : Nat := if code = 5 then 4608 else (region code).2 * 65536

/-- First block of a slot (Table 20.1). -/
def slotBase (s : Nat) : Nat := if s = 2 then 512 else 64

/-- The slot that does not run: slot 2 where none runs and slot 1 is not it. -/
def otherSlot (d : Device) : Nat := if d.cs.running = 2 then 1 else 2

/-- Change a firmware slot. -/
def updSlot (s : Nat) (f : FwSlot → FwSlot) (d : Device) : Device :=
  updCs (fun c => if s = 2 then { c with slot2 := f c.slot2 } else { c with slot1 := f c.slot1 }) d

/-- A slot with a worn block (R579). -/
def slotWorn (s : Nat) (d : Device) : Bool := d.cs.worn.any fun b => slotBase s ≤ b && b < slotBase s + 448

/-- A block of a protected range (Table 20.6). -/
def protectedBlock (b : Nat) (d : Device) : Bool :=
  (d.ctl.csWpLow && b < 2) || (d.cs.running != 0 && slotBase d.cs.running ≤ b && b < slotBase d.cs.running + 448)
    || (24 ≤ b && b < 64) || 960 ≤ b || d.cs.worn.contains b

/-- Erase the blocks an image of a component needs. -/
def eraseImage (s code length : Nat) (d : Device) : Device :=
  updCs (fun c => (List.range ((length + 65535) / 65536)).foldl (fun c i => eraseBlock (slotBase s + (region code).1 + i) c) c) d

/-- Update the boot control record (R588): an entry of the next generation goes to copy A, then to copy B. -/
def bootWrite (f : CodeStore → CodeStore) (d : Device) : Device :=
  updCs (fun c => logAppend 22 (logAppend 20 { f c with bootGen := c.bootGen + 1, bootValid := true })) d

/-- Verification failures of the code store (R579): recorded, and a block whose repeated erase fails is worn. -/
def noteFailure (d : Device) (f : StoreFailure) : Device :=
  let d := if f.kind = 1 && !f.recovered then updCs (fun c => { c with worn := f.block :: c.worn }) d else d
  logRec Code.codeStoreVerifyFailed [f.block, f.kind.val + 1, if f.recovered then 0x01 else 0x02] (incObj Obj.verifyFailures d)

/-! ### Components and sets -/

/-- Why a component does not pass R552 and R586, by Table 20.9, if it does not. -/
def rejection (code : Nat) (x : Component) (d : Device) : Option Nat :=
  if !x.present then some 0x06
  else if !x.headerOk || largestImage code < x.length then some 0x01
  else if !x.keyOk || !bitOf d.cs.keysFused x.signingKey || bitOf d.cs.keysRevoked x.signingKey then some 0x02
  else if !x.signatureOk then some 0x03
  else if x.securityVersion < smGet 0 d.cs.fusedMin code then some 0x04
  else none

/-- The version of a member of the set of a slot: the option area in use is member 5. -/
def memberVersion (s code : Nat) (d : Device) : Nat := if code = 5 then d.cs.oa.version else slotVersionOf s code d

/-- The compatibility entries of a member hold that name another member (R586). -/
def compatible (s : Nat) (x : Component) (d : Device) : Bool :=
  (x.compat.filter fun e => 1 ≤ e.1 && e.1 ≤ 5).all fun (y, lo, hi) => decide (lo ≤ memberVersion s y d && memberVersion s y d ≤ hi)

/-- A copy of the option area is valid (R582): its header passes R586, its payload is sound, its block carries no erase flag. -/
def oaValid (second : Bool) (d : Device) : Bool :=
  let x := if second then d.cs.oa.copyB else d.cs.oa.copyA
  x.valid && (rejection 5 x.comp d).isNone && !d.cs.eraseFlags.contains (b2n second)

/-- The copy of the option area in use is copy B: the valid copy of the higher generation (R582). -/
def oaUsesB (d : Device) : Bool :=
  oaValid true d && (!oaValid false d || decide (d.cs.oa.copyA.payload.generation < d.cs.oa.copyB.payload.generation))

/-- The members of the set of a slot: its four components, and the option area in use (R586). -/
def setMembers (s : Nat) (d : Device) : List (Nat × Component) :=
  ([1, 2, 3, 4].map fun code => (code, smGet {} (fwSlot s d).comps code))
    ++ [(5, if oaUsesB d then d.cs.oa.copyB.comp else d.cs.oa.copyA.comp)]

/-- The first reason against booting a set, as component code and reason; none when every member passes and the set is compatible. -/
def setFault (s : Nat) (d : Device) : Option (Nat × Nat) :=
  match (setMembers s d).findSome? fun e => (rejection e.1 e.2 d).map fun r => (e.1, r) with
  | some f => some f
  | none => ((setMembers s d).find? fun e => !compatible s e.2 d).map fun e => (e.1, 0x05)

/-! ### Boot (R591) -/

/-- The first function or feature that a profile entry must provide and does not (R84, Tables 3.10 and 3.11). -/
def missingFunction (e : ProfileEntry) : Option Nat :=
  let need := (List.range 0x12).map (· + 1) ++ (if bitOf e.flags 1 || bitOf e.flags 2 then [0x13, 0x14] else [])
    ++ (if bitOf e.flags 3 then [0x15] else []) ++ (if bitOf e.flags 4 then [0x16] else []) ++ if bitOf e.flags 5 then [0x17] else []
  match need.find? fun f => !(e.opcodes.any fun o => o.1 == f) with
  | some f => some f
  | none => [0x01, 0x02, 0x03, 0x04].find? fun f => !(e.features.any fun o => o.1 == f)

/-- The media profile becomes active (R83, R84): an entry that lacks a function is rejected. -/
def activateProfile (x : Component) (d : Device) : Device :=
  if !x.profileOk then d
  else
    let d := { d with media := { d.media with profile := (((List.range x.entries.length).zip x.entries).filter fun e => (missingFunction e.2).isNone) } }
    recomputeCeiling ((x.entries.zip (List.range x.entries.length)).foldl (fun d (e, i) =>
      match missingFunction e with
      | some f => logRec Code.profileEntryIncomplete [i, f] d
      | none => d) d)

/-- A slot is running. -/
def bootFrom (s : Nat) (d : Device) : Device :=
  activateProfile (smGet {} (fwSlot s d).comps 4) (updCs (fun c => { c with running := s }) d)

/-- The order in which slots are tried. -/
def bootOrder (d : Device) : List Nat :=
  let start := if d.cs.nextSlot != 0 then [d.cs.nextSlot] else []
  [d.cs.lastGood, 1, 2].foldl (fun order s => if s != 0 && !order.contains s then order ++ [s] else order) start

/-- Try the slots in order; `fails` lists the slots whose activation fails. -/
def trySlots (fails : List Nat) : List Nat → Device → Device
  | [], d => d
  | s :: rest, d =>
    let f := fwSlot s d
    if !f.holds || f.settingsIncompatible then trySlots fails rest d
    else
      let pending := s = d.cs.nextSlot && s != d.cs.lastGood
      if pending && d.cs.attempts = 3 then
        trySlots fails rest (bootWrite (fun c => { c with nextSlot := 0 }) (logRec Code.slotFallback [s, 0x09] d))
      else match setFault s d with
        | some (code, reason) =>
          let d := logRec Code.componentRejected [s, code, reason] d
          let d := if s = d.cs.nextSlot then bootWrite (fun c => { c with nextSlot := 0 }) d else d
          trySlots fails rest (logRec Code.slotFallback [s, reason] d)
        | none =>
          let d := if pending then bootWrite (fun c => { c with attempts := c.attempts + 1 }) d else d
          if fails.contains s then trySlots fails rest (logRec Code.slotFallback [s, 0x07] d)
          else bootFrom s d

/-- The mask ROM chooses and activates a slot (R591); no slot runs where none can. The flag tells that SettingsLostPending is newly set. -/
def bootSelect (fails : List Nat) (d : Device) : Device × Bool :=
  let d := trySlots fails (bootOrder d) (updCs (fun c => { c with running := 0 }) d)
  if d.cs.running != 0 then (d, false)
  else match [1, 2].find? fun s => (fwSlot s d).holds && (fwSlot s d).settingsIncompatible && (setFault s d).isNone with
    | some s =>
      let d := updSlot s (fun f => { f with settingsIncompatible := false }) d
      (bootFrom s (bootWrite (fun c => { c with lostPending := true }) d), true)
    | none => (d, false)

/-- The boot control record is rebuilt where neither copy holds a valid entry (R588). -/
def rebuildBootControl (d : Device) : Device :=
  if d.cs.bootValid then d
  else
    let b := decide (d.settings.copyA.generation < d.settings.copyB.generation)
    logRec Code.bootControlRebuilt [b2n b]
      (bootWrite (fun c => { c with nextSlot := 0, lastGood := 1, attempts := 0, activeB := b, lostPending := false,
                                    slot1 := { c.slot1 with holds := true, settingsIncompatible := false, completedWake := false }
                                    slot2 := { c.slot2 with holds := true, settingsIncompatible := false, completedWake := false } }) d)

/-- Blocks with their erase flag set are erased again, protected ones apart (R578). -/
def redoErases (d : Device) : Device :=
  let todo := d.cs.eraseFlags.filter fun b => !protectedBlock b d
  todo.foldl (fun d b =>
    let d := updCs (eraseBlock b) (incObj Obj.erasesRedone d)
    logRec Code.codeStoreEraseRedone [b, smGet 0 d.cs.eraseCounts b] d)
    (updCs (fun c => { c with eraseFlags := c.eraseFlags.filter fun b => !todo.contains b }) d)

/-- Where a copy's payload and complement start in the code store (Table 20.6): the location of a mismatch. -/
def oaLocation (copyB : Bool) : Nat := 65536 * b2n copyB + 512

/-- Load the option area (R582): the valid copy of the higher generation. A copy whose complement pair is at fault is recorded (R26), and so
are both (R27). Answers false where neither copy is valid. -/
def loadOptionArea (pairFault : Bool) (d : Device) : Device × Bool :=
  let a := oaValid false d
  let b := oaValid true d
  if !a && !b then (if pairFault then logRec Code.complementDoubleFault [8, oaLocation false] d else d, false)
  else
    let useB := oaUsesB d
    let x := if useB then d.cs.oa.copyB else d.cs.oa.copyA
    let d := updCs (fun c => { c with oa := { c.oa with inUse := x.payload, version := x.comp.version } }) d
    (if pairFault && !(if useB then a else b) then logRec Code.complementMismatch [8, oaLocation !useB] d else d, true)

/-- Once M3 is reached an invalid or older copy is rewritten from the copy in use, while CS_WP_N is high (R582). -/
def rewriteOptionArea (d : Device) : Device :=
  let useB := oaUsesB d
  let x := if useB then d.cs.oa.copyB else d.cs.oa.copyA
  let y := if useB then d.cs.oa.copyA else d.cs.oa.copyB
  let stale := !oaValid (!useB) d || decide (y.payload.generation < x.payload.generation)
  if stale && !d.ctl.csWpLow then updCs (fun c => eraseBlock (b2n (!useB)) { c with oa := { c.oa with copyA := x, copyB := x } }) d
  else d

/-! ### Settings selection (R593) -/

/-- Bytes of an object's value by type (Table 13.3). -/
def typeSize : ObjType → Nat | .bool | .u8 => 1 | .u16 => 2 | .u32 => 4 | .u40 | .i40 => 5 | .u64 => 8 | .str => 0 | .blob => 0

/-- Bytes of an object's value. -/
def objSize (key : Nat) : Nat := match objRow? key with | some r => typeSize r.typ | none => 0

/-- Bytes of a settings entry with a value of `n` bytes (Table 13.10): header, value, complement, CRC, padding to 8 bytes. -/
def entryBytes (n : Nat) : Nat := (8 + 2 * n + 4 + 7) / 8 * 8

/-- Bytes of a group record. -/
def recordSize (r : GroupRecord) : Nat := (r.map fun e => entryBytes (if e.2.isSome then objSize e.1 else 0)).sum

/-- The value a copy gives an object: that of its latest group record, none for the default. -/
def copyValue (c : SettingsCopy) (key : Nat) : Option Nat :=
  c.records.foldl (fun v r => r.foldl (fun v e => if e.1 = key then e.2 else v) v) none

/-- The objects a copy names. -/
def copyKeys (c : SettingsCopy) : List Nat :=
  (c.records.flatten).foldl (fun ks e => if ks.contains e.1 then ks else ks ++ [e.1]) []

/-- One group record per object whose value differs from its default (R410, R593). -/
def compactRecords (c : SettingsCopy) : List GroupRecord :=
  (copyKeys c).filterMap fun k => match copyValue c k with
    | some v => if v = objDefault k then none else some [(k, some v)]
    | none => none

/-- Put a settings copy into its place. -/
def setCopy (b : Bool) (c : SettingsCopy) (d : Device) : Device :=
  { d with settings := if b then { d.settings with copyB := c } else { d.settings with copyA := c } }

/-- First block of a settings copy (Table 20.1). -/
def copyBlock (b : Bool) : Nat := if b then 10 else 8

/-- Write a copy in full: its blocks are erased, and the entries stand in one of them (R593). -/
def rewriteCopy (b : Bool) (version generation : Nat) (records : List GroupRecord) (d : Device) : Device :=
  setCopy b { valid := true, version := version, generation := generation, block := 0,
              used := 64 + (records.map recordSize).sum, records := records }
    (updCs (fun c => eraseBlock (copyBlock b + 1) (eraseBlock (copyBlock b) c)) d)

/-- A copy can be read by firmware that reads versions `r` to `w`. -/
def readableCopy (r w : Nat) (c : SettingsCopy) : Bool := c.valid && decide (r ≤ c.version && c.version ≤ w)

/-- The first row of Table 20.10: an empty copy at version w becomes active, and SettingsLost is set. -/
def useEmptyCopy (w : Nat) (first : Bool) (d : Device) : Device :=
  let o := !d.cs.activeB
  let y := settingsCopy o d
  let d := if y.valid && y.version = w && y.records.isEmpty then d
    else rewriteCopy o w ((settingsCopy (!o) d).generation + 1) [] d
  let d := bootWrite (fun c => { c with activeB := o }) { d with settings := { d.settings with lost := true } }
  if first then logRec Code.settingsLost [w] d else d

/-- MF selects its settings (Table 20.10). Answers true where the device resets through M1. -/
def selectSettings (first : Bool) (d : Device) : Device × Bool :=
  let mf := smGet {} (fwSlot d.cs.running d).comps 1
  let r := mf.settingsFrom
  let w := mf.settingsWritten
  let aB := d.cs.activeB
  let a := settingsCopy aB d
  let o := settingsCopy (!aB) d
  let d := { d with settings := { d.settings with lost := false } }
  if d.cs.lostPending then (useEmptyCopy w first d, false)
  else if readableCopy r w a && a.version = w then (d, false)
  else if readableCopy r w a then
    let d := rewriteCopy (!aB) w (a.generation + 1) (compactRecords a) d
    (logRec Code.settingsMigrated [a.version, w, b2n (!aB)] (bootWrite (fun c => { c with activeB := !aB }) d), false)
  else if readableCopy r w o && o.version = w then
    (logRec Code.settingsMigrated [a.version, w, b2n (!aB)] (bootWrite (fun c => { c with activeB := !aB }) d), false)
  else
    let d := logRec Code.settingsUnreadable [a.version, o.version, d.cs.running] d
    let other := fwSlot (otherSlot d) d
    if other.holds && !other.settingsIncompatible then
      let d := updSlot d.cs.running (fun f => { f with settingsIncompatible := true }) d
      (bootWrite (fun c => { c with nextSlot := if c.nextSlot = c.running then 0 else c.nextSlot }) d, true)
    else (useEmptyCopy w true (bootWrite (fun c => { c with lostPending := true }) d), false)

/-- Load the stored objects from the active copy: every one takes its stored value, or its factory default (R405, R409). -/
def loadSettings (d : Device) : Device :=
  let c := settingsCopy d.cs.activeB d
  let stored := objRows.filter (·.stored)
  let d := stored.foldl (fun d r =>
    { d with objs := d.objs.filter fun e => !(r.idxLo ≤ e.1 / 256 && e.1 / 256 ≤ r.idxHi && r.subLo ≤ e.1 % 256 && e.1 % 256 ≤ r.subHi) }) d
  (copyKeys c).foldl (fun d k => match copyValue c k with | some v => setObj k v d | none => d) d

/-! ### Appending to a settings copy (R410) -/

/-- Compact a settings copy (R410): one entry per object whose value differs from its default, in the copy's other block, or where that is worn
in the same one (R579). -/
def compactCopy (b : Bool) (d : Device) : Device :=
  let c := settingsCopy b d
  let records := compactRecords c
  let target := if d.cs.worn.contains (copyBlock b + (1 - c.block)) then c.block else 1 - c.block
  let d := updCs (eraseBlock (copyBlock b + c.block)) (incObj Obj.settingsCompactions d)
  logRec Code.settingsCompacted [b2n b, c.generation + 1]
    (setCopy b { c with records := records, generation := c.generation + 1, block := target,
                        used := 64 + (records.map recordSize).sum } d)

/-- Append a group record to one copy; `outcome` as in `StoreOutcome`. Answers false where it cannot be stored. -/
def appendToCopy (b : Bool) (r : GroupRecord) (outcome : Nat) (d : Device) : Device × Bool :=
  let fits (d : Device) : Bool := decide ((settingsCopy b d).used + recordSize r ≤ 65536)
  let d := if fits d && outcome = 0 then d else compactCopy b d
  if outcome = 2 || !fits d then (d, false)
  else
    let c := settingsCopy b d
    (setCopy b { c with records := c.records ++ [r], used := c.used + recordSize r } d, true)

/-! ### Mismatched pairs in the code store (R26, R27, Table 1.5) -/

/-- What the other settings copy gives for an object: it is the secondary copy where it has the active copy's settings version. -/
def secondarySetting (key : Nat) (d : Device) : Option Nat :=
  let o := settingsCopy (!d.cs.activeB) d
  if o.valid && o.version = (settingsCopy d.cs.activeB d).version then some ((copyValue o key).getD (objDefault key)) else none

/-- A stored setting's pair mismatches: the object takes the secondary value, which is also appended to the active copy, or its default
where there is none. -/
def settingMismatch (key : Nat) (both : Bool) (d : Device) : Device :=
  match (if both then none else secondarySetting key d) with
  | some v => setObj key v (appendToCopy d.cs.activeB [(key, some v)] 0 (logRec Code.complementMismatch [1, key] d)).1
  | none => setObj key (objDefault key) (logRec Code.complementDoubleFault [1, key] d)

/-- Read a stored setting, a mismatched pair handled first. -/
def readSetting (key : Nat) (d : Device) : Device :=
  match takeDamage 1 key d with
  | (some x, d) => settingMismatch key (x.level != 0) d
  | (none, d) => d

/-- An erase counter's pair mismatches: the mirror gives it, or it takes the highest counter of the area. -/
def counterMismatch (location : Nat) (both : Bool) (d : Device) : Device :=
  if both then
    updCs (fun c => { c with eraseCounts := smSet 0 (location / 65536) ((c.eraseCounts.map Prod.snd).foldl max 0) c.eraseCounts })
      (logRec Code.complementDoubleFault [4, location] d)
  else logRec Code.complementMismatch [4, location] d

/-- A reader finds a mismatched pair of a value of Table 1.5 (R25 to R27). Rows 2 and 8 act where the counters and the option area are loaded. -/
def takeMismatch (d : Device) (x : Mismatch) : Device :=
  let both := x.level != 0
  match x.row with
  | 1 => settingMismatch x.location both d
  | 3 => totalMismatch (x.location / 256 - 0x6200) both d
  | 4 => counterMismatch x.location both d
  | 5 => entryMismatch x.location both x.read d
  | 6 => directoryMismatch x.location both d
  | 7 => recordMismatch x.location x.level.val d
  | _ => d

/-! ### The first M5 or M6 after a reset (R592, R553) -/

/-- A component has run through a wake in both slots: the same version stands in both, and both have completed a wake. -/
def ranInBoth (code : Nat) (d : Device) : Bool :=
  d.cs.slot1.completedWake && d.cs.slot2.completedWake && slotVersionOf 1 code d = slotVersionOf 2 code d

/-- Advance a component's fused minimum to its declared minimum (R553). -/
def advanceMinimum (d : Device) (code : Nat) : Device :=
  let x := smGet {} (fwSlot d.cs.running d).comps code
  if x.present && ranInBoth code d && smGet 0 d.cs.fusedMin code < x.declaredMin then
    logRec Code.securityVersionAdvanced [code, x.declaredMin]
      (updCs (fun c => { c with fusedMin := smSet 0 code x.declaredMin c.fusedMin }) d)
  else d

/-- Blow the revocation fuses that a running component declares (R553): of another key than its own, which is not revoked. -/
def revokeKeys (d : Device) (code : Nat) : Device :=
  let x := smGet {} (fwSlot d.cs.running d).comps code
  if !x.present || bitOf d.cs.keysRevoked x.signingKey then d
  else (List.range 4).foldl (fun d k =>
    if bitOf x.revokeKeys k && k != x.signingKey && !bitOf d.cs.keysRevoked k then
      logRec Code.signingKeyRevoked [k, code] (updCs (fun c => { c with keysRevoked := setBit c.keysRevoked k true }) d)
    else d) d

/-- What the controller does when the mode first becomes M5 or M6 after a reset (R592). -/
def firstService (d : Device) : Device :=
  if d.ctl.wakeCompleted || !serviceMode d.ctl.mode || d.cs.running = 0 then d
  else
    let s := d.cs.running
    let before := d.cs.lastGood
    let d := updSlot s (fun f => { f with completedWake := true }) { d with ctl := { d.ctl with wakeCompleted := true } }
    let d := bootWrite (fun c => { c with lastGood := s, attempts := if c.nextSlot = s then 0 else c.attempts,
                                          nextSlot := if c.nextSlot = s then 0 else c.nextSlot }) d
    let d := if before = s then d else logRec Code.firmwareActivated [s, slotVersionOf s 1 d, before] d
    [1, 2, 3, 4].foldl revokeKeys ([1, 2, 3, 4].foldl advanceMinimum d)

/-! ### Download (R366, R587, R596) -/

/-- Two pieces share a byte. -/
def piecesMeet (p : Piece) (q : Piece) : Bool := p.offset < q.offset + q.bytes && q.offset < p.offset + p.bytes

/-- Pieces in the order of their offsets that follow on each other from `at_` reach `length`. -/
def covers (length : Nat) (ps : List Piece) : Bool :=
  let reach := ps.foldl (fun at_ _ => (ps.filter fun p => p.offset ≤ at_).foldl (fun m p => max m (p.offset + p.bytes)) at_) 0
  decide (length ≤ reach)

/-- The blocks of the target slot that a recovery piece is the first to reach are erased before its pages are programmed (R596). -/
def eraseForPiece (target code : Nat) (p : Piece) (earlier : List Piece) (d : Device) : Device :=
  let reached (ps : List Piece) (i : Nat) : Bool := ps.any fun q => decide (q.offset < 65536 * (i + 1) && 65536 * i < q.offset + q.bytes)
  if code = 0 || 4 < code then d
  else
    let blocks := (List.range (region code).2).filter fun i => reached [p] i && !reached earlier i
    updCs (fun c => blocks.foldl (fun c i => eraseBlock (slotBase target + (region code).1 + i) c) c) d

/-- What a recovery piece meets: an error, or the device that has programmed it (R596). -/
def recoveryPiece (path : Nat) (p : Piece) (header : Option (Nat × Component)) (failures : List StoreFailure) (d : Device) :
    Option Device :=
  let c := d.cs
  let target := getObj Obj.recoveryTargetSlot d
  if p.offset = 0 then
    if c.recPath != 0 then none
    else
      let (code, x) := header.getD (0, {})
      let d := updCs (fun c => { c with recPath := path, recCode := code, recComp := x, recPieces := [p] }) d
      let d := setObj Obj.recoveryBytesWritten p.bytes d
      let d := if 1 ≤ code && code ≤ 4 then
          eraseForPiece target code p [] (updSlot target (fun f => { f with comps := smErase code f.comps }) d)
        else d
      some (failures.foldl noteFailure d)
  else if c.recPath != path || c.recPieces.any (piecesMeet p) then none
  else
    some (failures.foldl noteFailure (addObj Obj.recoveryBytesWritten p.bytes
      (updCs (fun c => { c with recPieces := p :: c.recPieces }) (eraseForPiece target c.recCode p c.recPieces d))))

/-- Firmware Image Download (R366, R587; in M2 R596). -/
def downloadBody (cmd : HostCmd) (offset bytes : Nat) (header : Option (Nat × Component)) (failures : List StoreFailure) (d : Device) :
    Device :=
  let p : Piece := { offset := offset, bytes := bytes }
  if cmd.reserved || offset % 4096 != 0 || bytes % 4096 != 0 then invalidField cmd d
  else if 25165824 < offset + bytes then invalidField cmd d
  else if d.ctl.mode = .m2 then
    match recoveryPiece (cmd.port.val + 1) p header failures d with
    | none => failCmd cmd 0x0 0x0C d
    | some d => if failures.any (!·.recovered) then failCmd cmd 0x0 0x06 d else succeed cmd 0 0 [] d
  else if (port cmd.port.val d).staged.any (piecesMeet p) then failCmd cmd 0x1 0x14 d
  else succeed cmd 0 0 [] (updPort cmd.port.val (fun t =>
    { t with staged := p :: t.staged, stagedComp := if offset = 0 then header else t.stagedComp }) d)

/-- FIRMWARE_IMAGE_DOWNLOAD (R587). -/
def execFirmwareImageDownload (cmd : HostCmd) (offset bytes : Nat) (header : Option (Nat × Component)) (failures : List StoreFailure)
    (s : State) : Host.Outcome State Fault Refusal :=
  runDev (adminCommand (.firmwareImageDownload cmd offset bytes header failures) cmd .other
    (downloadBody cmd offset bytes header failures)) s

/-! ### Commit (R584, R589, R590) -/

/-- A commit ends: with a failure, or successfully. The staged image of its port is discarded (R587). -/
def endCommit (j : CommitJob) (status : Option (Nat × Nat)) (d : Device) : Device :=
  let d := updPort j.cmd.port.val (fun t => { t with staged := [], stagedComp := none }) d
  if j.dropped then d
  else match status with
    | some (sct, sc) => failCmd j.cmd sct sc d
    | none => succeed j.cmd 0 0 [] d

/-- The component a port has staged, where it can be parsed (Table 20.8). -/
def stagedImage (p : Nat) (d : Device) : Option (Nat × Component) :=
  let t := port p d
  match t.stagedComp with
  | some (code, x) =>
    if x.headerOk && 1 ≤ code && code ≤ 5 && 512 ≤ x.length && x.length ≤ largestImage code && covers x.length t.staged then some (code, x)
    else none
  | none => none

/-- The option-area copy that a commit writes: the one of lower generation, where one is invalid that one, and the other one where its
block is worn (R579, R584). -/
def oaTarget (d : Device) : Bool :=
  let lowB := oaValid false d && (!oaValid true d || decide (d.cs.oa.copyB.payload.generation < d.cs.oa.copyA.payload.generation))
  if d.cs.worn.contains (b2n lowB) then !lowB else lowB

/-- Change an option-area copy. -/
def updOa (b : Bool) (f : OaCopy → OaCopy) (d : Device) : Device :=
  updCs (fun c => { c with oa := if b then { c.oa with copyB := f c.oa.copyB } else { c.oa with copyA := f c.oa.copyA } }) d

/-- The clone of R589: every component of the running slot that the commit does not replace goes to the other slot. -/
def cloneRunning (s code : Nat) (d : Device) : Device :=
  if (fwSlot s d).cloned || s = d.cs.running || d.cs.running = 0 then d
  else
    let src := (fwSlot d.cs.running d).comps
    let d := ([1, 2, 3, 4].filter (· != code)).foldl (fun d k => eraseImage s k (smGet {} src k).length d) d
    let others := [1, 2, 3, 4].filter (· != code)
    updSlot s (fun f => { f with cloned := true, comps := others.foldl (fun m k => smSet {} k (smGet {} src k) m) f.comps }) d

/-- Decide a commit as it starts (Table 20.8): either it ends at once with a status, or it programs. -/
def startCommit (j : CommitJob) (d : Device) : Device × Option (Option (Nat × Nat)) :=
  let named := if j.slot = 0 then otherSlot d else j.slot
  if j.action = 3 then (d, some (some (0x1, 0x0B)))
  else if 2 < j.slot then (d, some (some (0x1, 0x06)))
  else if j.action = 2 then
    if named != d.cs.running && !(fwSlot named d).holds then (d, some (some (0x1, 0x06)))
    else (bootWrite (fun c => { c with nextSlot := if named = c.running then 0 else named, attempts := 0 }) d, some none)
  else match stagedImage j.cmd.port.val d with
    | none => (d, some (some (0x1, 0x07)))
    | some (code, x) =>
      if code = 5 then
        if d.ctl.csWpLow then (d, some (some (0x1, 0x13)))
        else
          let b := oaTarget d
          let d := updOa b (fun y => { y with valid := false }) (updCs (eraseBlock (b2n b)) d)
          (updCs (fun c => { c with jobs := { j with started := true, code := 5, comp := x, target := 0 } :: c.jobs.drop 1 }) d, none)
      else if named = d.cs.running then (d, some (some (0x1, 0x06)))
      else if slotWorn named d then (d, some (some (0x0, 0x06)))
      else
        let d := bootWrite id (updSlot named (fun f => { f with holds := false, completedWake := false }) d)
        let d := cloneRunning named code d
        let d := eraseImage named code x.length (updSlot named (fun f => { f with comps := smErase code f.comps }) d)
        (updCs (fun c => { c with jobs := { j with started := true, code := code, comp := x, target := named } :: c.jobs.drop 1 }) d, none)

/-- Serve the waiting commits, in order of fetch, up to one that programs (R590). -/
def serveCommits : Nat → Device → Device
  | 0, d => d
  | fuel + 1, d =>
    match d.cs.jobs with
    | [] => d
    | j :: rest =>
      if j.started then d
      else match startCommit j d with
        | (d, some status) => serveCommits fuel (endCommit j status (updCs (fun c => { c with jobs := rest }) d))
        | (d, none) => d

/-- Serve every waiting commit that can be served. -/
def serveAllCommits (d : Device) : Device := serveCommits d.cs.jobs.length d

/-- In M2: complete the component received (R596). Answers false where it is incomplete. -/
def recoveryComplete (path : Nat) (d : Device) : Device × Bool :=
  let c := d.cs
  let x := c.recComp
  let ok := c.recPath = path && x.headerOk && 1 ≤ c.recCode && c.recCode ≤ 5 && x.length ≤ largestImage c.recCode
    && 512 ≤ x.length && covers x.length c.recPieces && !(c.recCode = 5 && d.ctl.csWpLow)
  if !ok then (d, false)
  else
    let t := getObj Obj.recoveryTargetSlot d
    let d := updCs (fun c => { c with recPath := 0, recCode := 0, recComp := {}, recPieces := [], recHeld := 0 }) d
    if c.recCode = 5 then
      let b := oaTarget d
      (logRec Code.optionAreaUpdated [x.payload.generation, b2n b]
        (updOa b (fun _ => { valid := true, comp := { x with present := true }, payload := x.payload }) (updCs (eraseBlock (b2n b)) d)), true)
    else
      let d := updSlot t (fun f =>
        let comps := smSet {} c.recCode { x with present := true } f.comps
        { f with comps := comps, holds := [1, 2, 3, 4].all fun k => (smGet {} comps k).present, settingsIncompatible := false }) d
      (logRec Code.firmwareCommitted [t, c.recCode, x.version] (bootWrite id d), true)

/-- In M2: NextSlot becomes a slot, and the device passes to M1 (R596, Table 2.4). -/
def recoveryBoot (s : Nat) (d : Device) : Device :=
  enterHeld (bootWrite (fun c => { c with nextSlot := s, attempts := 0 }) d)

/-- A commit on the recovery port (R596). -/
def recoveryCommitPort (cmd : HostCmd) (action slot : Nat) (d : Device) : Device :=
  let t := getObj Obj.recoveryTargetSlot d
  if action = 3 then failCmd cmd 0x1 0x0B d
  else if 2 < slot then failCmd cmd 0x1 0x06 d
  else if action = 2 then
    let s := if slot = 0 then t else slot
    if !(fwSlot s d).holds then failCmd cmd 0x1 0x06 d else recoveryBoot s (succeed cmd 0 0 [] d)
  else match recoveryComplete (cmd.port.val + 1) d with
    | (d, false) => failCmd cmd 0x1 0x07 d
    | (d, true) =>
      let d := succeed cmd 0 0 [] d
      if action = 1 then recoveryBoot t d else d

/-- A Firmware Commit joins those in progress; in M2 it is decided at once. -/
def commitBody (cmd : HostCmd) (action slot : Nat) (d : Device) : Device :=
  if cmd.reserved then invalidField cmd d
  else if d.ctl.mode = .m2 then recoveryCommitPort cmd action slot d
  else serveAllCommits (updCs (fun c => { c with jobs := c.jobs ++ [{ cmd := cmd, action := action, slot := slot }] }) d)

/-- FIRMWARE_COMMIT_REPLACE (R589). -/
def execFirmwareCommitReplace (cmd : HostCmd) (slot : Nat) (s : State) : Host.Outcome State Fault Refusal :=
  runDev (adminCommand (.firmwareCommitReplace cmd slot) cmd .held (commitBody cmd 0 slot)) s

/-- FIRMWARE_COMMIT_ACTIVATE (R589). -/
def execFirmwareCommitActivate (cmd : HostCmd) (slot : Nat) (s : State) : Host.Outcome State Fault Refusal :=
  runDev (adminCommand (.firmwareCommitActivate cmd slot) cmd .held (commitBody cmd 1 slot)) s

/-- FIRMWARE_COMMIT_SELECT (R589). -/
def execFirmwareCommitSelect (cmd : HostCmd) (slot : Nat) (s : State) : Host.Outcome State Fault Refusal :=
  runDev (adminCommand (.firmwareCommitSelect cmd slot) cmd .held (commitBody cmd 2 slot)) s

/-- FIRMWARE_COMMIT_IMMEDIATE (R366). -/
def execFirmwareCommitImmediate (cmd : HostCmd) (slot : Nat) (s : State) : Host.Outcome State Fault Refusal :=
  runDev (adminCommand (.firmwareCommitImmediate cmd slot) cmd .held (commitBody cmd 3 slot)) s

/-- The programming of the first commit ends (R589 steps 3 to 5, R584). -/
def commitDone (failures : List StoreFailure) (d : Device) : Device :=
  match d.cs.jobs with
  | [] => d
  | j :: rest =>
    if !j.started then d
    else
      let d := failures.foldl noteFailure (updCs (fun c => { c with jobs := rest }) d)
      let d :=
        if failures.any (!·.recovered) then endCommit j (some (0x0, 0x06)) d
        else if j.code = 5 then
          let b := oaTarget d
          let d := updOa b (fun _ => { valid := true, comp := { j.comp with present := true }, payload := j.comp.payload }) d
          let d := logRec Code.optionAreaUpdated [j.comp.payload.generation, b2n b] d
          endCommit j none (logRec Code.firmwareCommitted [0, 5, j.comp.version] d)
        else
          let d := updSlot j.target (fun f => { f with comps := smSet {} j.code { j.comp with present := true } f.comps,
                                                       holds := true, settingsIncompatible := false }) d
          let d := if j.action = 1 then bootWrite (fun c => { c with nextSlot := j.target, attempts := 0 }) d else bootWrite id d
          endCommit j none (logRec Code.firmwareCommitted [j.target, j.code, j.comp.version] d)
      serveAllCommits d

/-- FIRMWARE_COMMIT_DONE (R589). -/
def execFirmwareCommitDone (failures : List StoreFailure) (s : State) : Host.Outcome State Fault Refusal := runDev (commitDone failures) s

/-- CS_WP_N has held a level for 10 µs (R612): a fall before an option area has verified ends its commit (R584). -/
def csWpChanges (low : Bool) (d : Device) : Device :=
  let d := { d with ctl := { d.ctl with csWpLow := low } }
  match d.cs.jobs with
  | j :: rest =>
    if low && j.started && j.code = 5 then
      serveAllCommits (endCommit j (some (0x1, 0x13)) (updCs (fun c => { c with jobs := rest }) d))
    else d
  | [] => d

/-- CS_WP_N_CHANGE (R612). -/
def execCsWpNChange (low : Bool) (s : State) : Host.Outcome State Fault Refusal := runDev (csWpChanges low) s

/-! ### Recovery objects (R597, Table 20.12) -/

/-- A write of RecoveryChunk: none where it fails with StateConflict. `drained` bytes of the HK buffer have been programmed since. -/
def recoveryChunk (path bytes : Nat) (header : Option (Nat × Component)) (drained : Nat) (failures : List StoreFailure) (d : Device) :
    Option Device :=
  let held := d.cs.recHeld - drained
  if 65536 < held + bytes then none
  else
    match recoveryPiece path { offset := getObj Obj.recoveryOffset d, bytes := bytes } header failures d with
    | none => none
    | some d => some (addObj Obj.recoveryOffset 4096 (updCs (fun c => { c with recHeld := held + bytes }) d))

/-- A write of RecoveryCommit: none where it fails with StateConflict. -/
def recoveryCommit (path value : Nat) (d : Device) : Option Device :=
  let t := getObj Obj.recoveryTargetSlot d
  if value = 3 then (if (fwSlot t d).holds then some (recoveryBoot t d) else none)
  else match recoveryComplete path d with
    | (_, false) => none
    | (d, true) => some (if value = 2 then recoveryBoot t d else d)

end Sys2Proof.Machine
end

