-- ==== Sys2Proof/Machine/Security.lean ====
section
/-! DEFINITION. Namespace keys and the key area, authorisation on the access paths, and sanitizing (spec/18). -/
namespace Sys2Proof.Machine

/-- Change the security block and key area. -/
def updSec (f : Security → Security) (d : Device) : Device := { d with sec := f d.sec }

/-- Change an access path. -/
def updPath (p : Nat) (f : PathState → PathState) (d : Device) : Device :=
  { d with settings := { d.settings with paths := smUpd {} p f d.settings.paths } }

/-! ### The key area (R530 to R533) -/

/-- Live entries of the key area: namespace keys, authorisation keys, a sanitize record (R531). -/
def liveEntries (d : Device) : Nat :=
  keysLive d + ((List.range 8).filter (authSlotSet · d)).length + b2n (d.sec.san.action != 0 && !d.sec.san.complete)

/-- First block of a region of a key-area copy (Table 20.1). -/
def keyRegion (copyB second : Bool) : Nat := 12 + 4 * b2n copyB + 2 * b2n second

/-- Compaction of both copies (R532): the live entries go to the other region, both blocks of the full one are erased. -/
def compactKeys (d : Device) : Device :=
  let old := d.sec.second
  let live := liveEntries d
  let d := updSec (fun k => { k with used := live, second := !old, generation := k.generation + 1 }) d
  [false, true].foldl (fun d b =>
    let first := keyRegion b old
    logRec Code.keyAreaCompacted [b2n b, d.sec.generation, live] (updCs (fun c => eraseBlock (first + 1) (eraseBlock first c)) d)) d

/-- Append an entry to both copies (R531, R532): a region holds 1,364. -/
def appendKeyEntry (d : Device) : Device :=
  let d := if d.sec.used < 1364 then d else compactKeys d
  updSec (fun k => { k with used := k.used + 1 }) d

/-- A map entry, in DRAM or as a wake would restore it, reaches a grain stored under a key slot (R526). -/
def slotReached (k : Nat) (d : Device) : Bool :=
  let saved := mediumEntries d.media.map
  d.media.stored.any fun g => g.2.keySlot = k
    && (mapEntry g.2.slot g.2.grain d = g.1 || smGet 0 saved (mapKey g.2.slot g.2.grain) = g.1)

/-- A key slot is free (R526). -/
def keySlotFree (k : Nat) (d : Device) : Bool :=
  !(smGet {} d.sec.keys k).live && !(d.sub.namespaces.any fun n => n.2.active && n.2.keySlot = k) && !slotReached k d

/-- The lowest free key slot from `k` on. -/
def lowestKeySlot (d : Device) : Nat → Nat → Nat
  | 0, k => k
  | fuel + 1, k => if keySlotFree k d then k else lowestKeySlot d fuel (k + 1)

/-- Draw a new key into a slot, store it and load it (R525). -/
def drawInto (k : Nat) (d : Device) : Device :=
  let key := Config.freeKey d.free
  appendKeyEntry (updSec (fun s =>
    { s with keys := smUpd {} k (fun e => { live := true, key := key, generation := e.generation + 1 }) s.keys
             loaded := k :: s.loaded.filter (· != k) }) { d with free := d.free + 1 })

/-- Draw a new key into the lowest free slot (R526). -/
def drawKey (d : Device) : Nat × Device :=
  let k := lowestKeySlot d 2048 0
  (k, drawInto k d)

/-- Name a namespace slot's key slot, in a record of the namespace table that is written anew (R534, R91). -/
def setKeySlot (slot k : Nat) (d : Device) : Device :=
  moveRoot (fun p r => { r with namespaces := p })
    { d with sub := { d.sub with namespaces := smUpd {} slot (fun n => { n with keySlot := k }) d.sub.namespaces } }

/-- Destroy a slot's entry in both copies and discard the key from the security block (R528, R531). -/
def destroyKey (k : Nat) (d : Device) : Device :=
  updSec (fun s => { s with keys := smUpd {} k (fun e => { e with live := false, key := 0, goodA := true, goodB := true }) s.keys
                            loaded := s.loaded.filter (· != k) }) d

/-- The wake unwraps the current key of every namespace (R528, R533), and destroys every live entry whose slot no namespace names (R534).
Keys whose entry is unreadable in both copies make their namespace key-lost. -/
def unwrapKeys (d : Device) : Device :=
  let stale := (d.sec.keys.filter fun e => e.2.live && !(d.sub.namespaces.any fun n => n.2.active && n.2.keySlot = e.1)).map (·.1)
  let d := stale.foldl (fun d k => destroyKey k d) (updSec (fun s => { s with loaded := [], keyLost := [] }) d)
  (d.sub.namespaces.filter (·.2.active)).foldl (fun d (slot, n) =>
    let e := smGet {} d.sec.keys n.keySlot
    if e.live && (e.goodA || e.goodB) then updSec (fun s => { s with loaded := n.keySlot :: s.loaded }) d
    else logRec Code.keyUnwrapFailed [slot, n.keySlot] (updSec (fun s => { s with keyLost := s.keyLost ++ [slot] }) d)) d

/-- A Format with SES 001b or 010b replaces the key of a namespace slot (R534, R536). -/
def replaceKey (slot : Nat) (d : Device) : Device :=
  let old := (namespace_ slot d).keySlot
  let (k, d) := drawKey d
  let d := setKeySlot slot k d
  let d := destroyKey old (regionReset slot (pagesOf (namespace_ slot d).nsze) d)
  logRec Code.namespaceKeyReplaced [slot + 1, old, k] (updSec (fun s => { s with keyLost := s.keyLost.filter (· != slot) }) d)

/-! ### Authorisation (R537 to R546) -/

/-- The row of an implemented object: an array element is one of Table 13.1 (R392). -/
def objectRow? (index sub : Nat) : Option ObjRow := objRow? (objKey index sub)

/-- A guarded object. -/
def guarded (key : Nat) : Bool := match objRow? key with | some r => r.acc = .grd | none => false

/-- The right that an operation and argument need (Table 18.2), as its bit; none where no right covers them. -/
def neededRight (op arg : Nat) : Option Nat :=
  if op = 2 then some 1
  else
    let index := arg % 65536
    let sub := arg / 65536 % 256
    if !guarded (objKey index sub) then none
    else if index = 0x4410 || index = 0x4411 then (if sub = 1 then some 3 else some 2)
    else some 0

/-- A path is locked out (R543). -/
def pathLocked (p : Nat) (d : Device) : Bool := (pathState p d).lockedUntil.isSome

/-- Withdraw the challenges of a path that a test picks: their units return (R539). -/
def withdrawChallenges (p : Nat) (pick : Challenge → Bool) (d : Device) : Device :=
  let n := ((pathState p d).challenges.filter pick).length
  ledgerGive 8 p n (updPath p (fun s => { s with challenges := s.challenges.filter fun c => !pick c }) d)

/-- What a challenge comes to. -/
inductive ChallengeResult
  | reserved
  | locked
  | conflict
  | nonce (n : Nat)
  deriving DecidableEq, Repr

/-- An argument has the form of its operation (Table 18.3). -/
def argumentForm (op arg : Nat) : Bool :=
  if op = 1 then decide (arg < 2 ^ 24) else op = 2 && (arg = 0x80 || arg = 0x84)

/-- A challenge on a path (R538, R539). -/
def challenge (p slot op arg : Nat) (d : Device) : ChallengeResult × Device :=
  if 7 < slot || !argumentForm op arg then (.reserved, d)
  else if pathLocked p d then (.locked, d)
  else
    let covered := match neededRight op arg with | some b => bitOf (authRightsOf slot d) b | none => false
    if !authSlotSet slot d || !covered || (op = 2 && p = 5) then (.conflict, d)
    else
      let n := (Config.freeNonce d.free).val + 1
      let d := { d with free := d.free + 1 }
      let d := if 8 ≤ (pathState p d).challenges.length then updPath p (fun s => { s with challenges := s.challenges.drop 1 }) d
        else ledgerTake 8 p 1 d
      let c : Challenge := { nonce := n, slot := slot, op := op, arg := arg, issuedMs := nowMs d }
      (.nonce n, updPath p (fun s => { s with challenges := s.challenges ++ [c] }) d)

/-- Outcomes of a response (Table 18.5). -/
inductive ResponseResult
  | reserved | locked | wrongPath | notOutstanding | failed | success
  deriving DecidableEq, Repr

/-- A failure is counted; the fifth within 10 minutes locks the path for 15 (R543). -/
def countFailure (p slot : Nat) (d : Device) : Device :=
  let recent := (pathState p d).failures.filter fun t => decide (nowMs d < t + 600000)
  let d := updPath p (fun s => { s with failures := nowMs d :: recent }) d
  if recent.length + 1 < 5 then d
  else
    let d := withdrawChallenges p (fun _ => true) d
    logRec Code.pathLockedOut [p, slot] (updPath p (fun s => { s with lockedUntil := some (nowMs d + 900000), grant := none }) d)

/-- A text with spaces up to `n` characters (R8). -/
def textField (n : Nat) (bs : List Byte) : List Byte := (bs ++ List.replicate (n - bs.length) (BitVec.ofNat 8 0x20)).take n

/-- The message whose HMAC answers a challenge of a path (Table 18.4). -/
def authMessage (p : Nat) (c : Challenge) (d : Device) : List Byte :=
  layout 64 [(0, ascii "TZAU"), (4, leBytes 2 1), (6, leBytes 1 p), (7, leBytes 1 c.slot), (8, leBytes 1 c.op), (12, leBytes 4 c.arg),
    (16, leBytes 8 c.nonce), (24, leBytes 8 d.media.sb.instance_), (32, textField 20 d.cs.oa.inUse.serial)]

/-- An authorisation key: the owner key of manufacture in slot 0 until it is written (R537). -/
def authKeyOf (slot : Nat) (d : Device) : List Byte := (smGet {} d.sec.auth slot).key.getD (leBytes 32 Config.ownerKey.toNat)

/-- The right response to a challenge (R540): 32 bytes. -/
def rightResponse (p : Nat) (c : Challenge) (d : Device) : List Byte := hmac (authKeyOf c.slot d) (authMessage p c d)

/-- A response on a path (Table 18.5, first row that applies). -/
def respond (p slot op arg nonce : Nat) (response : List Byte) (d : Device) : ResponseResult × Device :=
  if 7 < slot || !argumentForm op arg then (.reserved, d)
  else if pathLocked p d then (.locked, d)
  else if [1, 2, 3, 4, 5].any (fun q => q != p && (pathState q d).challenges.any (·.nonce == nonce)) then (.wrongPath, d)
  else match (pathState p d).challenges.find? (·.nonce == nonce) with
    | none => (.notOutstanding, d)
    | some c =>
      let d := withdrawChallenges p (·.nonce == nonce) d
      if c.slot != slot || c.op != op || c.arg != arg || response != rightResponse p c d then (.failed, countFailure p slot d)
      else (.success, updPath p (fun s => { s with grant := some { op := op, arg := arg, givenMs := nowMs d } }) d)

/-- The path holds a grant for an operation and argument. -/
def grantFor (p op arg : Nat) (d : Device) : Bool :=
  match (pathState p d).grant with
  | some g => g.op = op && g.arg = arg && decide (nowMs d < g.givenMs + 10000)
  | none => false

/-- The path's grant is used (R542). -/
def useGrant (p : Nat) (d : Device) : Device := updPath p (fun s => { s with grant := none }) d

/-- CHALLENGE_EXPIRY (R539): challenges outstanding for 60 s end. -/
def expireChallenges (d : Device) : Device :=
  [1, 2, 3, 4, 5].foldl (fun d p => withdrawChallenges p (fun c => decide (c.issuedMs + 60000 ≤ nowMs d)) d) d

/-- CHALLENGE_EXPIRY (R539). -/
def execChallengeExpiry (s : State) : Host.Outcome State Fault Refusal := runDev expireChallenges s

/-- Grants that are 10 s old end unused (R542). -/
def expireGrants (d : Device) : Device :=
  [1, 2, 3, 4, 5].foldl (fun d p => match (pathState p d).grant with
    | some g => if g.givenMs + 10000 ≤ nowMs d then useGrant p d else d
    | none => d) d

/-- GRANT_EXPIRY (R542). -/
def execGrantExpiry (s : State) : Host.Outcome State Fault Refusal := runDev expireGrants s

/-- Locks whose 15 minutes have passed end (R543). -/
def unlockPaths (d : Device) : Device :=
  [1, 2, 3, 4, 5].foldl (fun d p => match (pathState p d).lockedUntil with
    | some t =>
      if t ≤ nowMs d then logRec Code.pathUnlocked [p] (updPath p (fun s => { s with lockedUntil := none, failures := [] }) d) else d
    | none => d) d

/-- PATH_UNLOCKED (R543). -/
def execPathUnlocked (s : State) : Host.Outcome State Fault Refusal := runDev unlockPaths s

/-- A path loses its challenges and its grant: at a reset, and for a port path at its controller-level reset (R545). -/
def clearPath (p : Nat) (d : Device) : Device := useGrant p (withdrawChallenges p (fun _ => true) d)

/-- The effect of a write of AuthKey: 32 bytes set a slot's key, none empty it (R546). -/
def writeAuthKey (p slot : Nat) (key : List Byte) (d : Device) : Device :=
  let d := [1, 2, 3, 4, 5].foldl (fun d q => withdrawChallenges q (·.slot == slot) d) d
  let put (x : AuthSlot) : AuthSlot :=
    if key.isEmpty then { generation := x.generation } else { x with key := some key, generation := x.generation + 1 }
  let d := updSec (fun s => { s with auth := smUpd {} slot put s.auth }) d
  logRec Code.authKeyChanged [slot, p] (if key.isEmpty then d else appendKeyEntry d)

/-- The effect of a write of AuthRights (R546). -/
def writeAuthRights (p slot rights : Nat) (d : Device) : Device :=
  let d := [1, 2, 3, 4, 5].foldl (fun d q => withdrawChallenges q (·.slot == slot) d) d
  let d := updSec (fun s => { s with auth := smUpd {} slot (fun x =>
    { x with rights := if slot = 0 then 0 else rights, generation := x.generation + 1 }) s.auth }) d
  logRec Code.authKeyChanged [slot, p] (appendKeyEntry d)

/-- An abort code (R401): reason and subindex at fault. -/
def abortCode (reason sub : Nat) : Nat := reason + 256 * sub

/-- Path Locked Out, with the seconds left (Table 12.14). -/
def failLocked (c : HostCmd) (d : Device) : Device :=
  failWith c 0x1 0xC5 true 0 0 0xFFFF (lockSeconds (c.port.val + 1) d) d

/-- Authorise Challenge (Tables 12.13, 12.14). -/
def challengeBody (c : HostCmd) (slot op arg : Nat) (d : Device) : Device :=
  if c.reserved then invalidField c d
  else match challenge (c.port.val + 1) slot op arg d with
    | (.reserved, d) => invalidField c d
    | (.locked, d) => failLocked c d
    | (.conflict, d) => failWith c 0x1 0xC0 true 0 0 0xFFFF (abortCode 0x06 0) d
    | (.nonce n, d) => succeed c (n % 2 ^ 32) (n / 2 ^ 32) [] d

/-- AUTHORISE_CHALLENGE (R539). -/
def execAuthoriseChallenge (cmd : HostCmd) (slot op arg : Nat) (s : State) : Host.Outcome State Fault Refusal :=
  runDev (adminCommand (.authoriseChallenge cmd slot op arg) cmd .other (challengeBody cmd slot op arg)) s

/-- Authorise Respond (Tables 12.14, 18.5). -/
def respondBody (c : HostCmd) (slot op arg nonce : Nat) (response : List Byte) (d : Device) : Device :=
  if c.reserved then invalidField c d
  else match respond (c.port.val + 1) slot op arg nonce response d with
    | (.reserved, d) => invalidField c d
    | (.locked, d) => failLocked c d
    | (.wrongPath, d) => failCmd c 0x1 0xC4 d
    | (.notOutstanding, d) => failCmd c 0x1 0xC3 d
    | (.failed, d) => failCmd c 0x1 0xC2 d
    | (.success, d) => succeed c 0 0 [] d

/-- AUTHORISE_RESPOND (R541). -/
def execAuthoriseRespond (cmd : HostCmd) (slot op arg nonce : Nat) (response : List Byte) (s : State) : Host.Outcome State Fault Refusal :=
  runDev (adminCommand (.authoriseRespond cmd slot op arg nonce response) cmd .other (respondBody cmd slot op arg nonce response)) s

/-- The check of R544 on a destructive command: it goes on with the grant used, or fails with Authorisation Required. -/
def destructive (c : HostCmd) (opcode : Nat) (ok : Device → Device) (d : Device) : Device :=
  let p := c.port.val + 1
  if grantFor p 2 opcode d then ok (useGrant p d)
  else if getObj Obj.destructiveNeedsAuth d = 1 then failCmd c 0x1 0xC1 d
  else ok d

/-! ### Sanitize (R547 to R551) -/

/-- Open stripes and blocks are abandoned (Table 18.6 step 2, R135): blocks close without a footer, groups and rows in flight are gone. -/
def abandonOpen (d : Device) : Device :=
  let open_ := (d.media.blocks.filter (·.2.state = 1)).map (·.1)
  let d := open_.foldl (fun d b => updBlock b (fun e => { e with noFooter := true }) d) d
  let d := closeBlocks 0 open_ d
  let close (t : Stripe) : Stripe :=
    if t.isOpen then { t with isOpen := false, stopped := true, held := [], standing := [], sums := [], closeHours := hours d, closeMs := nowMs d } else t
  setObj Obj.stripesOpen 0
    { d with media := { d.media with groups := [], stripes := d.media.stripes.map fun e => (e.1, close e.2) } }

/-- The estimate of a block erase in seconds: every plane group of the dies in service, as many at once as the free tokens allow, at TEraseTyp
(R548); none where no erase can be made. -/
def eraseEstimate (d : Device) : Option Nat :=
  let e : ProfileEntry := ((d.media.profile.head?).map (·.2)).getD {}
  let groups := 4096 * ((List.range 4096).filter (dieInService · d)).length
  let par := (ledger 1 d).free / e.tokErase
  if par = 0 then none else some (groups * e.tEraseTyp / par / 1000000)

/-- The sanitize record takes a step: a new entry of the key area, one generation on (R530, R531, R547). -/
def recordStep (n : Nat) (d : Device) : Device :=
  appendKeyEntry (updSec (fun s => { s with san := { s.san with step := n }, sanGeneration := s.sanGeneration + 1 }) d)

/-- Step 1 of Table 18.6: the record is appended; every write admitted before completes successfully, and so does every Flush. -/
def startSanitize (action : Nat) (ause : Bool) (d : Device) : Device :=
  let d := recordStep 1 (updSec (fun s =>
    { s with san := { action := action, ause := ause, hours := hours d, startMs := nowMs d,
                      estimate := if action = 2 then eraseEstimate d else none } }) d)
  let d := (d.media.wp.writes.filter fun w => !w.completed && !w.dropped).foldl (fun d w => succeed w.host 0 0 [] d) d
  let d := d.media.wp.flushes.foldl (fun d f => postCompletion f.port { sqid := f.sqid, cid := f.cid } d) d
  let d := d.media.wp.flushes.foldl (fun d f => freeFlush f d) (d.media.wp.writes.foldl (fun d w => freeWrite w d) d)
  updWp (fun w => { w with writes := [], flushes := [] }) d

/-- Step 2: once the admitted reads have completed, open stripes are abandoned and the buffers are zeroed. -/
def zeroBuffers (d : Device) : Device :=
  let d := (d.media.stripes.filter (·.2.isOpen)).foldl (fun d e => releaseBuffers e.1 d) ((d.media.dies.map (·.1)).foldl (fun d n => endOp n d) d)
  let d := freeFlights d.media.flight (abandonOpen d)
  recordStep 2 { d with media := { d.media with flight := [] } }

/-- Step 3: every namespace key is destroyed and every namespace takes a new one; a Sanitize frees every slot (R526). -/
def rekeyAll (d : Device) : Device :=
  let d := (d.sec.keys.filter (·.2.live)).foldl (fun d e => destroyKey e.1 d) d
  let slots := (d.sub.namespaces.filter (·.2.active)).map (·.1)
  let d := (slots.zip (List.range slots.length)).foldl (fun d (slot, k) => setKeySlot slot k (drawInto k d)) d
  recordStep 3 (updSec (fun s => { s with keyLost := [] }) d)

/-- Step 4: the Region reset of every slot, and a checkpoint. -/
def resetRegions (d : Device) : Device :=
  let slots := (d.sub.namespaces.filter (·.2.active)).map (·.1)
  let d := sealAll (slots.foldl (fun d slot => regionReset slot (pagesOf (namespace_ slot d).nsze) d) d)
  let d := finishCheckpoint [] (startCheckpoint { d with media := { d.media with map := { d.media.map with checkpoint := none } } })
  recordStep 4 d

/-- A block of a system stripe that holds a frame of a structure in use (R548). -/
def holdsSystem (live : List Nat) (e : Nat × Block) (d : Device) : Bool :=
  e.2.stripe != 0 && (stripe e.2.stripe d).exists_ && (stripe e.2.stripe d).kind = 3 && live.contains e.1

/-- A block that a block erase passes over (R548): anchor and gauge blocks, and those of system stripes that hold a structure in use. -/
def sparedBlock (live : List Nat) (e : Nat × Block) (d : Device) : Bool :=
  (block e.1 d).state = 6 || (block e.1 d).state = 7 || holdsSystem live e d

/-- The erase of a block fails in a block erase: of a retired block it is counted alone (R548), any other block is retired (Table 3.6). -/
def eraseFails (d : Device) (b : Nat) : Device :=
  let d := incObj Obj.eraseFailCount d
  if (block b d).state = 5 then d
  else logRec Code.eraseFail [b, 0, 0x03] (incObj Obj.blocksRetired (updBlock b (fun e => { e with state := 5, retireCause := 2 }) d))

/-- Step 5 (R548): every block of every die in service is erased but those it passes over; what the others held is gone. The erase fails of the
blocks `failed`. -/
def eraseAll (failed : List Nat) (d : Device) : Device :=
  let inService := (List.range 4096).filter (dieInService · d)
  let erased (b : Nat) : Bool := inService.contains (dieOfBlock b)
  let live := systemLive { d with media := { d.media with rc := { d.media.rc with lostPlaces := [] } } }
  let bad := failed.filter fun b => erased b && !sparedBlock live (b, block b d) d
  let next (e : Nat × Block) : Nat × Block :=
    if !erased e.1 then e
    else if sparedBlock live e d then (e.1, { e.2 with spared := e.2.spared + 1 })
    else if e.2.state = 5 then e
    else (e.1, { erases := e.2.erases, spared := e.2.spared, freshC := e.2.freshC, freshLag := min 255 (e.2.freshLag + 1),
                 cap := e.2.cap, lastStep := e.2.lastStep })
  let blocks := d.media.blocks.map next
  let d := { d with media := { d.media with
    stored := d.media.stored.filter fun g => !erased (blockOf g.1)
    blocks := blocks.filter fun e => decide (e.2 ≠ {})
    stripes := d.media.stripes.filter fun e => d.media.blocks.any fun b => b.2.stripe = e.1 && holdsSystem live b d
    restripe := d.media.restripe.filter fun r => (stripe r.stripe d).kind = 3
    rc := { d.media.rc with q1 := [], q2 := [], q3 := [], q4 := [], victim := none, released := [] } } }
  bad.foldl eraseFails (inService.foldl (fun d n => updDie n (fun x => { x with sweeps := x.sweeps + 1 }) d) (recordStep 5 d))

/-- The running Sanitize goes on by one step at a control epoch of M9, unless a throttle threshold pauses it (R47, R551). -/
def sanitizeStep (d : Device) : Device :=
  let r := d.sec.san
  if d.ctl.mode != .m9 || r.action = 0 || r.failed || r.complete || thresholdHeld d then d
  else if r.step = 1 then (if d.media.wp.reads.isEmpty then zeroBuffers d else d)
  else if r.step = 2 then rekeyAll d
  else if r.step = 3 then (if journalFull d then startCheckpoint (noteJournalFull d) else resetRegions d)
  else d

/-- A notification handled in M9 (Table 2.8): its tables are written once step 4 is done, so a Sanitize that completes ends its handling;
one that failed before step 4 leaves it waiting for M7 (notes/assumptions/129.md). -/
def noticeAfterSanitize (d : Device) : Device :=
  if !d.sub.shutdownRunning then d
  else
    let d := { d with sub := { d.sub with shutdownRunning := false } }
    if 4 ≤ d.sec.san.step then shutdownReported (saveTables d)
    else (List.range 4).foldl (fun d p => if (port p d).shst = 1 then updPort p (fun t => { t with shutWaiting := true }) d else d) d

/-- The Sanitize ends: the device leaves M9 (Table 2.4). -/
def leaveSanitize (d : Device) : Device :=
  let d := noticeAfterSanitize (raiseOnAll { typ := 6, info := 0x01, page := 0x81 } d)
  if d.ctl.mode = .m9 then changeMode (serviceTarget d) d else d

/-- SANITIZE_COMPLETE: the last step ends (Table 18.6 steps 5 and 6), or the step reached cannot complete (R550). -/
def sanitizeEnds (failed : Bool) (eraseFailed : List Nat) (d : Device) : Device :=
  let r := d.sec.san
  if d.ctl.mode != .m9 || r.action = 0 || r.failed || r.complete then d
  else if failed then
    leaveSanitize (logRec Code.sanitizeFailed [r.action, r.step] (updSec (fun s => { s with san := { s.san with failed := true } }) d))
  else if r.step != 4 then d
  else
    let d := if r.action = 2 then eraseAll eraseFailed d else d
    let d := setRoot (fun r => { r with lostRange := 0 }) { d with
                      media := { d.media with rc := { d.media.rc with
                        lostLog := [], lostFrames := [], lostPlaces := [], lostFirst := d.media.rc.lostFirst + d.media.rc.lostLog.length, toAppend := [] } }
                      sub := { d.sub with journalWarning := false, written := false } }
    let d := updSec (fun s => { s with san := { s.san with step := 6, complete := true } }) d
    leaveSanitize (logRec Code.sanitizeCompleted [r.action, (nowMs d - r.startMs) / 1000] d)

/-- SANITIZE_COMPLETE (R547). -/
def execSanitizeComplete (failed : Bool) (eraseFailed : List Nat) (s : State) : Host.Outcome State Fault Refusal :=
  runDev (sanitizeEnds failed eraseFailed) s

/-- A Sanitize is decided in M5 and M6 alone (R51); not while a transition to M10 or M11 waits (R41). -/
def sanitizeMode (c : HostCmd) (ok : Device → Device) (d : Device) : Device :=
  if serviceMode d.ctl.mode && !higherDue d then ok d else failCmd c 0x0 0x0C d

/-- The checks of a Sanitize after those of R363 and before its own (R46). -/
def sanitizeAdmitted (c : HostCmd) (ok : Device → Device) (d : Device) : Device :=
  if c.reserved then invalidField c d
  else if d.settings.lost && dataMode d.ctl.mode then failCmd c 0x0 0x20 d
  else ok d

/-- Checks of a Sanitize before it is carried out (R46, R51, R544). The authorisation is checked before the mode: no rule orders the two
(notes/assumptions/130.md). -/
def sanitizeChecks (c : HostCmd) (ok : Device → Device) (d : Device) : Device :=
  sanitizeAdmitted c (destructive c 0x84 (sanitizeMode c ok)) d

/-- Sanitize with block erase or crypto erase (R367, R547): accepted in M5 and M6, it puts the device in M9. -/
def sanitizeBody (c : HostCmd) (action : Nat) (ause : Bool) (d : Device) : Device :=
  sanitizeChecks c (fun d => changeMode .m9 (succeed c 0 0 [] (startSanitize action ause d))) d

/-- Sanitize with exit failure mode (R550). -/
def exitFailureBody (c : HostCmd) (d : Device) : Device :=
  sanitizeChecks c (fun d =>
    if d.sec.san.failed && d.sec.san.ause then succeed c 0 0 [] (updSec (fun s => { s with san := {} }) d) else failCmd c 0x0 0x0C d) d

/-- SANITIZE_BLOCK_ERASE (R547). -/
def execSanitizeBlockErase (cmd : HostCmd) (ause : Bool) (s : State) : Host.Outcome State Fault Refusal :=
  runDev (adminCommand (.sanitizeBlockErase cmd ause) cmd .held (sanitizeBody cmd 2 ause)) s

/-- SANITIZE_CRYPTO_ERASE (R547). -/
def execSanitizeCryptoErase (cmd : HostCmd) (ause : Bool) (s : State) : Host.Outcome State Fault Refusal :=
  runDev (adminCommand (.sanitizeCryptoErase cmd ause) cmd .held (sanitizeBody cmd 4 ause)) s

/-- SANITIZE_EXIT_FAILURE (R550). -/
def execSanitizeExitFailure (cmd : HostCmd) (s : State) : Host.Outcome State Fault Refusal :=
  runDev (adminCommand (.sanitizeExitFailure cmd) cmd .held (exitFailureBody cmd)) s

/-- Sanitize with overwrite (R367): not offered, after the checks of R46 and R51. -/
def overwriteBody (c : HostCmd) (d : Device) : Device := sanitizeAdmitted c (sanitizeMode c (invalidField c)) d

/-- SANITIZE_OVERWRITE (R367). -/
def execSanitizeOverwrite (cmd : HostCmd) (s : State) : Host.Outcome State Fault Refusal :=
  runDev (adminCommand (.sanitizeOverwrite cmd) cmd .held (overwriteBody cmd)) s

end Sys2Proof.Machine
end

