-- ==== Sys2Proof/Machine/Dictionary.lean ====
section
/-! DEFINITION. The object dictionary: addressing, reads, writes, stored settings, coupled groups, and the rows that are requests of an
access path (spec/13). -/
namespace Sys2Proof.Machine

/-! ### Abort reasons (Table 13.7) and rows -/

abbrev Abort.objectAbsent : Nat := 0x01
abbrev Abort.subindexAbsent : Nat := 0x02
abbrev Abort.readOnly : Nat := 0x03
abbrev Abort.lengthMismatch : Nat := 0x04
abbrev Abort.valueOutOfRange : Nat := 0x05
abbrev Abort.stateConflict : Nat := 0x06
abbrev Abort.authorisationRequired : Nat := 0x07
abbrev Abort.modeNotAdmitted : Nat := 0x08
abbrev Abort.notYetAvailable : Nat := 0x09
abbrev Abort.storeFailed : Nat := 0x0A
abbrev Abort.pathLockedOut : Nat := 0x0B

/-- Rows of an index. -/
def indexRows (index : Nat) : List ObjRow := objRows.filter fun r => r.idxLo ≤ index && index ≤ r.idxHi

/-- The index is an array index (R391, R392). -/
def arrayIndex (index : Nat) : Bool := (indexRows index).any (·.array)

/-- Highest subindex implemented of a record index: the value of its subindex 0x00 (R391). -/
def highestSub (index : Nat) : Nat := (indexRows index).foldl (fun m r => max m r.subHi) 0

/-- Why an object does not exist, if it does not (R393). -/
def absent (index sub : Nat) : Option Nat :=
  if (indexRows index).isEmpty || 0xF000 ≤ index then some Abort.objectAbsent
  else if (sub = 0 && !arrayIndex index) || (objRow? (objKey index sub)).isSome then none
  else some Abort.subindexAbsent

/-- Commit subindexes and their members (Table 13.12). -/
def groupMembers (index : Nat) : List Nat :=
  if index = 0x1011 then [0x101101, 0x101102] else if index = 0x3400 then [0x340001, 0x340002, 0x340003] else []

/-- An object is the commit subindex of a group (R416). -/
def isCommit (key : Nat) : Bool := key = 0x10110F || key = 0x34000F

/-- An object is a member of a group. -/
def isMember (key : Nat) : Bool := (groupMembers (key / 256)).contains key

/-- Code of a type (Table 13.3). -/
def typeCode : ObjType → Nat
  | .bool => 1 | .u8 => 2 | .u16 => 3 | .u32 => 4 | .u40 => 5 | .i40 => 6 | .u64 => 7 | .str => 8 | .blob => 9

/-- Code of an access class (Table 13.4). -/
def classCode : Access → Nat | .ro => 1 | .rw => 2 | .wo => 3 | .rws => 4 | .grd => 5

/-- Type code of an object; that of subindex 0x00 of a record index is U8. -/
def typeOf (key : Nat) : Nat := match objRow? key with | some r => typeCode r.typ | none => 2

/-- The access byte (R397, Table 13.5). -/
def accessByte (key : Nat) : Nat :=
  match objRow? key with
  | some r => 128 * b2n r.array + 64 * b2n r.perPath + 32 * b2n (isCommit key) + 16 * b2n (isMember key) + 8 * b2n r.stored
      + classCode r.acc
  | none => 1

/-! ### Reading -/

/-- The eight characters of R3 for a main firmware version. -/
def revisionText (v : Nat) : List Byte :=
  let digit (n : Nat) : Byte := BitVec.ofNat 8 (48 + n % 10)
  let dot : Byte := BitVec.ofNat 8 46
  let minor := v / 65536 % 256
  let build := v % 65536
  [digit (v / 16777216), dot, digit (minor / 10), digit minor, dot, digit (build / 100), digit (build / 10), digit build]

/-- Held counts of owners 0x01 to 0xFF (0x62LL.04). -/
def ownerHeldBytes (l : Nat) (d : Device) : List Byte := ((List.range 255).map fun o => leBytes 4 (heldBy l (o + 1) d)).flatten

/-- The leak audit (0x6209.01). -/
def leakAuditBytes (d : Device) : List Byte :=
  ((List.range 255).map fun i =>
    let o := i + 1
    let age := match oldestBuffer o d with | some (_, t) => (nowMs d - t) / 100 | none => 0
    leBytes 2 (heldBy 2 o d) ++ leBytes 2 (heldBy 3 o d) ++ leBytes 2 (heldBy 4 o d) ++ leBytes 2 (heldBy 5 o d)
      ++ leBytes 4 age ++ leBytes 4 (smGet 0 d.res.poolEmpty o)).flatten

/-- What a read of a commit subindex returns on a path (Table 13.11). -/
def commitWord (path key : Nat) (d : Device) : Nat :=
  let s := pathState path d
  let failed := smGet none s.failed key
  65536 * getObj key d + 256 * failed.getD 0 + 2 * b2n failed.isSome
    + b2n ((groupMembers (key / 256)).any fun k => s.shadows.any (·.1 == k))

/-- A path's query block (R125). -/
def queryBlock (path : Nat) (d : Device) : Nat :=
  (((pathState path d).vals.find? fun e => e.1 == Obj.etaQueryBlock).map (·.2)).getD 0xFFFFFFFF

/-- The bytes of an object's value on a path: the value last written or committed (R404). No STR object is writable, so the checks that R395
makes on a write meet none. -/
def readBytes (path key : Nat) (d : Device) : List Byte :=
  if key % 256 = 0 && !arrayIndex (key / 256) then leBytes 1 (highestSub (key / 256))
  else if key = 0x100101 then ascii "Tytha ZV-1024"
  else if key = 0x100102 then d.cs.oa.inUse.serial
  else if key = 0x100103 then revisionText (slotVersionOf d.cs.running 1 d)
  else if key = Obj.logbookRecords then ((readRecords d).map recordBytes).flatten
  else if key = Obj.codeStoreEraseCounts then
    ((List.range 1024).map fun b => leBytes 4 (min 0xFFFFFFFF (smGet 0 d.cs.eraseCounts b))).flatten
  else if 0x6201 ≤ key / 256 && key / 256 ≤ 0x6208 && key % 256 = 4 then ownerHeldBytes (key / 256 - 0x6200) d
  else if key = 0x620901 then leakAuditBytes d
  else if isCommit key then leBytes 4 (commitWord path key d)
  else if key = Obj.etaQueryBlock then leBytes 4 (queryBlock path d)
  else if key / 256 = 0x4310 then leBytes (objSize key) (etaRead (queryBlock path d) (key % 256) d)
  else leBytes (objSize key) (scalarValue key d)

/-- Serve a read (R402, R405): the abort reason, or the value. -/
def readObject (path index sub : Nat) (d : Device) : Except Nat (List Byte) :=
  match absent index sub with
  | some e => .error e
  | none =>
    let key := objKey index sub
    if !readAdmitted index d then .error Abort.modeNotAdmitted
    else if (objRow? key).isSome && !readable key d then .error Abort.notYetAvailable
    else if key = Obj.logbookRecords && (readRecords d).isEmpty && (d.ctl.mode = .m11 || !d.log.indexComplete)
        && getObj Obj.logbookReadSequence d != 0 then .error Abort.notYetAvailable
    else .ok (readBytes path key d)

/-- A read of LedgerFree or LedgerOwnerHeld checks the ledger (R29). -/
def readEffect (index sub : Nat) (d : Device) : Device :=
  if 0x6201 ≤ index && index ≤ 0x6208 && (sub = 2 || sub = 4) then checkLedger (index - 0x6200) d else d

/-! ### Settings store (R406 to R411) -/

/-- The object whose entry of a group record failed (R411, R414). -/
def failedEntry (r : GroupRecord) (out : StoreOutcome) : Nat := (r[min out.entry (r.length - 1)]?.map (·.1)).getD 0

/-- The store of a write has failed (R411). -/
def storeFailure (b : Bool) (r : GroupRecord) (out : StoreOutcome) (d : Device) : Device :=
  let key := failedEntry r out
  logRec Code.settingsStoreFailed [key / 256, key % 256, b2n b] d

/-- Store a group record: in the active copy, then in the other one where it has the same version (R406, R408). -/
def storeRecord (r : GroupRecord) (out : StoreOutcome) (d : Device) : Device × Bool :=
  if r.isEmpty then (d, true)
  else
    let a := d.cs.activeB
    match appendToCopy a r out.active.val d with
    | (d', false) => (storeFailure a r out d', false)
    | (d', true) =>
      let d' := incObj Obj.settingsWrites d'
      let o := settingsCopy (!a) d'
      if !o.valid || o.version != (settingsCopy a d').version then (d', true)
      else match appendToCopy (!a) r out.other.val d' with
        | (d'', true) => (d'', true)
        | (d'', false) =>
          -- the record already in the active copy is superseded
          let c := settingsCopy a d''
          (storeFailure (!a) r out (setCopy a { c with records := c.records.dropLast } d''), false)

/-! ### Effects of writes -/

/-- A stored object takes a value. -/
def settingEffect (key v : Nat) (d : Device) : Device :=
  let held := 0x502009 ≤ key && key ≤ 0x50200D
  let d := setObj key v (if held && v != getObj key d then keepHoldUp d else d)
  if key = Obj.tokenPoolSize then resizePool v d
  else if key = Obj.supplyWarningMv then warningLevelChanged d
  else if key = Obj.tokenBankQuota || key = Obj.tokenBankReserve then withhold d
  else if key = Obj.writeBufferMaxGrains || key = Obj.openHostStripes || key = Obj.openMovedStripes then recomputeCeiling d
  else d

/-- SettingsAcknowledge (R594). -/
def acknowledgeSettings (path : Nat) (d : Device) : Device :=
  if !d.cs.lostPending && !d.settings.lost then d
  else
    let d := bootWrite (fun c => { c with lostPending := false }) { d with settings := { d.settings with lost := false } }
    updateCauses (logRec Code.settingsAcknowledged [path] d)

/-- LogbookClear: in M8, and while the flash index is not complete, it conflicts with the state (R573, notes/assumptions/17.md). -/
def clearRequest (path : Nat) (d : Device) : Option Device :=
  if d.ctl.mode = .m8 || !d.log.indexComplete then none
  else some (writeSuperblock [] (clearLogbook path d))

/-- The bits of an object that are not reserved, where a write may bring others: a write to a reserved field has no effect (R9). -/
def writtenBits (key v : Nat) : Nat :=
  if key / 256 = 0x2110 then v % 4 else if key = Obj.portClocking then v % 16 else v

/-- An object is stored in settings. -/
def storedObject (key : Nat) : Bool := match objRow? key with | some r => r.stored | none => false

/-- The effect of an accepted value of an object that is no group member: none where it conflicts with the state. -/
def writeEffect (path key : Nat) (bytes : List Byte) (out : StoreOutcome) (d : Device) : Option Device :=
  let v := writtenBits key (ofLe bytes)
  if key = Obj.mapCacheControl then cacheControl v d
  else if key = Obj.etaQueryBlock then
    some (updPath path (fun s => { s with vals := (key, v) :: s.vals.filter (·.1 != key) }) d)
  else if key / 256 = 0x4410 then some (writeAuthKey path (key % 256 - 1) bytes d)
  else if key / 256 = 0x4411 then some (writeAuthRights path (key % 256 - 1) v d)
  else if key = Obj.holdUpTestRequest then requestTest d
  else if key = Obj.logbookClear then clearRequest path d
  else if key = Obj.settingsAcknowledge then some (acknowledgeSettings path d)
  else if key = Obj.recoveryChunk then recoveryChunk path bytes.length out.header out.drained out.failures d
  else if key = Obj.recoveryCommit then recoveryCommit path v d
  else if key / 256 = 0x8202 then carrierCommand (key % 256) v d
  else if storedObject key then some (settingEffect key v d)
  else some (setObj key v d)

/-! ### Requests (R398 to R403) -/

/-- Parts of a write: the subindexes it spans, with the abort that its shape gives, if any (R399). -/
def spanParts (index : Nat) : Nat → Nat → List Byte → List (Nat × List Byte) × Option (Nat × Nat)
  | 0, _, _ => ([], none)
  | fuel + 1, key, bytes =>
    if bytes.isEmpty then ([], none)
    else if key / 256 != index then ([], some (Abort.subindexAbsent, 0))
    else match objRow? key with
      | none => ([], some (Abort.subindexAbsent, key % 256))
      | some r =>
        let n := typeSize r.typ
        if n = 0 || bytes.length < n then ([], some (Abort.lengthMismatch, key % 256))
        else
          let (rest, e) := spanParts index fuel (key + 1) (bytes.drop n)
          ((key, bytes.take n) :: rest,
            if isCommit key then (match e with | some (1, s) => some (1, s) | some (2, s) => some (2, s) | some (4, s) => some (4, s)
                                               | _ => some (Abort.stateConflict, key % 256)) else e)

/-- The parts of a write request and the abort its shape gives. -/
def shape (key : Nat) (bytes : List Byte) : List (Nat × List Byte) × Option (Nat × Nat) :=
  match objRow? key with
  | none => ([(key, bytes)], none)
  | some r =>
    let n := typeSize r.typ
    if n = 0 || bytes.length = n then ([(key, bytes)], none)
    else if bytes.length < n then ([(key, bytes)], some (Abort.lengthMismatch, key % 256))
    else spanParts (key / 256) 256 key bytes

/-- The mode admits a write of an object (R403, R598). -/
def writeAdmitted (key : Nat) (d : Device) : Bool :=
  match d.ctl.mode with
  | .m0 | .m1 | .m10 | .m11 => false
  | .m2 => key = 0x602005 || (0x704001 ≤ key && key ≤ 0x704004)
  | _ => key / 256 != 0x7040

/-- The RetainBanks bits that name a bank (Table 15.3). -/
def retainMask (dd : Nat) : Nat := match dd with | 3 | 4 => 0x7 | 5 => 0xFFFFFFFF | 6 => 0xFFFF | _ => 0

/-- The value that an object has after a request: the one it carries, or the current one. -/
def candidate (parts : List (Nat × List Byte)) (key : Nat) (d : Device) : Nat :=
  match parts.find? (·.1 == key) with | some p => ofLe p.2 | none => getObj key d

/-- The bound of a write of ChannelRateCode (R61): the matched entry's MaxRateCode, or the highest among the active profile's entries. -/
def rateBound (cc : Nat) (d : Device) : Nat :=
  match d.media.profile.find? fun e => e.1 == getObj (Obj.channelProfileEntry cc) d with
  | some e => e.2.maxRateCode
  | none => (d.media.profile.map (·.2.maxRateCode)).foldl max 0

/-- A value is within the type and the range of its object (Tables 13.3, 13.7, and the object's row). -/
def inRange (parts : List (Nat × List Byte)) (d : Device) (key : Nat) (bytes : List Byte) : Bool :=
  let v := writtenBits key (ofLe bytes)
  match objRow? key with
  | none => true
  | some r =>
    if key / 256 = 0x8100 then decide (1 ≤ v) && decide (v ≤ rateBound (key % 256) d)
    else if key / 256 = 0x4410 then bytes.length = 32 || (bytes.isEmpty && key % 256 != 1)
    else if key = Obj.recoveryChunk then decide (1 ≤ bytes.length && bytes.length ≤ 4096)
    else if v < r.lo || r.hi < v then false
    else if key / 256 = 0x4411 then decide (v < 16) && (key % 256 != 1 || v = 15)
    else if key = Obj.recoveryOffset then
      v % 4096 = 0 && decide (v < if 1 ≤ d.cs.recCode then largestImage d.cs.recCode else 25165824)
    else if key / 256 = 0x6021 then
      v = 0 || (match objRow? v with | some s => s.typ != .str && s.typ != .blob | none => false)
    else if key / 256 = 0x5210 then v &&& retainMask (key % 256) = v
    else if key = Obj.holdUpFloorMv then decide (candidate parts Obj.holdUpMinMv d + 5000 ≤ v)
    else if key = Obj.holdUpMinMv then decide (v + 5000 ≤ candidate parts Obj.holdUpFloorMv d)
    else if key = Obj.tokenPoolSize then decide (16 * candidate parts Obj.tokenBankReserve d ≤ v)
    else if key = Obj.tokenBankReserve then decide (16 * v ≤ candidate parts Obj.tokenPoolSize d)
    else true

/-- The rank of an abort reason in R402. -/
def rank (reason : Nat) : Nat :=
  match reason with
  | 0x01 => 1 | 0x02 => 2 | 0x08 => 3 | 0x03 => 4 | 0x04 => 5 | 0x0C => 6 | 0x0B => 7 | 0x07 => 8 | 0x05 => 9 | 0x06 => 10
  | 0x09 => 11 | _ => 12

/-- The abort that decides: of the lowest rank, the first found. -/
def firstAbort (es : List (Nat × Nat)) : Option (Nat × Nat) :=
  es.foldl (fun best e => match best with | none => some e | some b => if rank e.1 < rank b.1 then some e else some b) none

/-- The class of an object that is written. -/
def accessOf (key : Nat) : Access := match objRow? key with | some r => r.acc | none => .ro

/-- Aborts of steps 1 to 5 of R402. -/
def earlyAborts (parts : List (Nat × List Byte)) (shapeAbort : Option (Nat × Nat)) (d : Device) : List (Nat × Nat) :=
  (match shapeAbort with | some e => if rank e.1 < 7 then [e] else [] | none => [])
    ++ (parts.filter fun p => !writeAdmitted p.1 d).map (fun p => (Abort.modeNotAdmitted, p.1 % 256))
    ++ (parts.filter fun p => accessOf p.1 = .ro).map fun p => (Abort.readOnly, p.1 % 256)

/-- Step 6 of R402 for the whole request (R417, R418): the abort, or the device with the grant used. -/
def authorise (path key : Nat) (parts : List (Nat × List Byte)) (d : Device) : Except Nat Device :=
  if d.ctl.mode = .m2 || !(parts.any fun p => accessOf p.1 = .grd) then .ok d
  else if pathLocked path d then .error Abort.pathLockedOut
  else if grantFor path 1 (key / 256 + 65536 * (key % 256)) d then .ok (useGrant path d)
  else .error Abort.authorisationRequired

/-- A member's candidate: the path's shadow, or the committed value (R414). -/
def memberCandidate (path key : Nat) (d : Device) : Nat :=
  match (pathState path d).shadows.find? (·.1 == key) with | some s => s.2 | none => getObj key d

/-- The first member whose rule of Table 13.12 fails (R414). -/
def disagreement (path index : Nat) (d : Device) : Option Nat :=
  let c (sub : Nat) : Nat := memberCandidate path (objKey index sub) d
  if index = 0x1011 then
    let nominal := if c 1 = 0 then 500 else 1000
    let data := if c 2 = 0 then 2000 else 5000
    if data ≤ 5 * nominal then none else some 1
  else if c 1 ≤ c 2 then some 1
  else if c 2 ≤ c 3 then some 2
  else none

/-- Shadows of a group that a path holds. -/
def groupShadows (path index : Nat) (d : Device) : List (Nat × Nat) :=
  (pathState path d).shadows.filter fun s => (groupMembers index).contains s.1

/-- Put a value into a path's shadow of a member (R412). -/
def setShadow (path key v : Nat) (d : Device) : Device :=
  updPath path (fun s => { s with shadows := s.shadows.filter (·.1 != key) ++ [(key, v)] }) d

/-- Clear a path's shadows of a group, and the member that its last commit left; after a success that commit has not failed (Table 13.11). -/
def clearGroup (path index : Nat) (success : Bool) (d : Device) : Device :=
  let key := objKey index 0x0F
  updPath path (fun s => { s with shadows := s.shadows.filter fun e => !(groupMembers index).contains e.1,
                                  failed := if success then smErase key s.failed else smUpd none key (·.map fun _ => 0) s.failed }) d

/-- A commit or a discard of a group (R413, R414): the abort, if any. -/
def commitGroup (path index value : Nat) (out : StoreOutcome) (d : Device) : Option (Nat × Nat) × Device :=
  let key := objKey index 0x0F
  let fail (sub : Nat) (d : Device) : Device := updPath path (fun s => { s with failed := smSet none key (some sub) s.failed }) d
  if value = 2 then (none, clearGroup path index false d)
  else
    let shadows := groupShadows path index d
    if shadows.isEmpty then (none, clearGroup path index true d)
    else match disagreement path index d with
      | some sub => (some (Abort.valueOutOfRange, sub), fail sub d)
      | none =>
        let members := (groupMembers index).map fun k => (k, memberCandidate path k d)
        let record := members.map fun s => (s.1, some s.2)
        match storeRecord record out d with
        | (d, false) =>
          let sub := failedEntry record out % 256
          (some (Abort.storeFailed, sub), fail sub d)
        | (d, true) =>
          let d := members.foldl (fun d s => settingEffect s.1 s.2 d) d
          (none, clearGroup path index true (setObj key ((getObj key d + 1) % 65536) d))

/-- SettingsRestoreDefaults (R423): one group record returns every stored object to its default. -/
def restoreDefaults (path : Nat) (out : StoreOutcome) (d : Device) : Option (Nat × Nat) × Device :=
  let keys := (copyKeys (settingsCopy d.cs.activeB d)).filter fun k => (copyValue (settingsCopy d.cs.activeB d) k).isSome
  match storeRecord (keys.map fun k => (k, none)) out d with
  | (d, false) => (some (Abort.storeFailed, 2), d)
  | (d, true) =>
    (none, logRec Code.settingsDefaultsRestored [path] (keys.foldl (fun d k => settingEffect k (objDefault k) d) d))

/-- Every part takes effect at one instant: none where one conflicts with the state; members set shadows. -/
def applyParts (path : Nat) (out : StoreOutcome) : List (Nat × List Byte) → Device → Except Nat Device
  | [], d => .ok d
  | (key, bytes) :: rest, d =>
    if isMember key then applyParts path out rest (setShadow path key (ofLe bytes) d)
    else match writeEffect path key bytes out d with
      | none => .error (key % 256)
      | some d => applyParts path out rest d

/-- Steps 7 to 10 of R402 and the effects, after the authorisation. -/
def lateWrite (path key : Nat) (parts : List (Nat × List Byte)) (shapeAbort : Option (Nat × Nat)) (out : StoreOutcome) (d : Device) :
    Option (Nat × Nat) × Device :=
  let values := (parts.filter fun p => !inRange parts d p.1 p.2).map fun p => (Abort.valueOutOfRange, p.1 % 256)
  match firstAbort (values ++ shapeAbort.toList) with
  | some e => (some e, d)
  | none =>
    if isCommit key then commitGroup path (key / 256) (candidate parts key d) out d
    else if key = Obj.settingsRestoreDefaults then restoreDefaults path out d
    else match applyParts path out parts d with
      | .error sub => (some (Abort.stateConflict, sub), d)
      | .ok _ =>
        let record := (parts.filter fun p => storedObject p.1 && !isMember p.1).map fun p => (p.1, some (writtenBits p.1 (ofLe p.2)))
        match storeRecord record out d with
        | (d, false) => (some (Abort.storeFailed, failedEntry record out % 256), d)
        | (d, true) => (none, match applyParts path out parts d with | .ok d => d | .error _ => d)

/-- A request would store a setting (R403). -/
def wouldStore (path key : Nat) (parts : List (Nat × List Byte)) (d : Device) : Bool :=
  if isCommit key then
    candidate parts key d = 1 && !(groupShadows path (key / 256) d).isEmpty && (disagreement path (key / 256) d).isNone
  else key = Obj.settingsRestoreDefaults || parts.any fun p => storedObject p.1 && !isMember p.1

/-- What a write request comes to. -/
inductive WriteResult
  | held
  | aborted (reason sub : Nat)
  | done
  deriving DecidableEq, Repr

/-- Serve a write request (R402, R403). -/
def writeObject (path index sub : Nat) (bytes : List Byte) (out : StoreOutcome) (d : Device) : WriteResult × Device :=
  match absent index sub with
  | some e => (.aborted e sub, d)
  | none =>
    let key := objKey index sub
    let (parts, shapeAbort) := shape key bytes
    match firstAbort (earlyAborts parts shapeAbort d) with
    | some e => (.aborted e.1 e.2, d)
    | none =>
      if d.ctl.mode = .m8 && shapeAbort.isNone && wouldStore path key parts d then (.held, d)
      else match authorise path key parts d with
        | .error e => (.aborted e sub, d)
        | .ok d =>
          match lateWrite path key parts shapeAbort out d with
          | (some e, d) => (.aborted e.1 e.2, d)
          | (none, d) => (.done, d)

/-- Count an answered request (0x1000.02, 0x1000.03). -/
def countRequest (aborted : Bool) (d : Device) : Device :=
  let d := incObj Obj.dictionaryRequests d
  if aborted then incObj Obj.dictionaryAborts d else d

/-- The service answers a path's request: the abort code, or the value. -/
def answerPath (path : Nat) (abort : Option Nat) (value : List Byte) (d : Device) : Device :=
  updPath path (fun s => { s with abort := abort, value := value }) (countRequest abort.isSome d)

/-- A path code of R419. -/
def validPath (path : Nat) : Bool := decide (1 ≤ path && path ≤ 5)

/-- A write request of an access path, for the command `i`: held in M8 where it would store a setting (R403). -/
def writeRequest (i : Instr) (path index sub : Nat) (bytes : List Byte) (out : StoreOutcome) (d : Device) : Device :=
  if !validPath path then d
  else match writeObject path index sub bytes out d with
    | (.held, d) => { d with held := d.held ++ [i] }
    | (.aborted e s, d) => answerPath path (some (abortCode e s)) [] d
    | (.done, d) => answerPath path none [] d

/-- What a read of an object meets of mismatched pairs: those of a stored setting, and of the records that are read (R26, R571). -/
def meetPairs (key : Nat) (d : Device) : Device :=
  if key = Obj.logbookRecords then ((readRecords d).map (·.seq)).foldl readRecord d
  else if storedObject key then readSetting key d else d

/-- A read request of an access path. -/
def readRequest (path index sub : Nat) (d : Device) : Device :=
  if !validPath path then d
  else
    let d := meetPairs (objKey index sub) d
    match readObject path index sub d with
    | .error e => answerPath path (some (abortCode e sub)) [] d
    | .ok v => readEffect index sub (answerPath path none v d)

/-- A write of a value to one object, in as many bytes as the object's type has. -/
def writeValue (i : Instr) (path key value : Nat) (out : StoreOutcome) (d : Device) : Device :=
  writeRequest i path (key / 256) (key % 256) (leBytes (objSize key) value) out d

/-! ### Meanings -/

/-- OBJECT_WRITE (R406). -/
def execObjectWrite (path index sub : Nat) (value : List Byte) (out : StoreOutcome) (s : State) : Host.Outcome State Fault Refusal :=
  runDev (writeRequest (.objectWrite path index sub value out) path index sub value out) s

/-- A write of a group member goes through `writeValue`; an object that is no member is no concern of the command. -/
def memberWrite (path index sub value : Nat) (d : Device) : Device :=
  let key := objKey index sub
  onlyIf (isMember key) (writeValue (.groupMemberWrite path index sub value) path key value {}) d

/-- GROUP_MEMBER_WRITE (R412). -/
def execGroupMemberWrite (path index sub value : Nat) (s : State) : Host.Outcome State Fault Refusal :=
  runDev (memberWrite path index sub value) s

/-- A write of 0x01 or 0x02 to a commit subindex. -/
def groupRequest (i : Instr) (path index value : Nat) (out : StoreOutcome) (d : Device) : Device :=
  onlyIf (isCommit (objKey index 0x0F)) (writeValue i path (objKey index 0x0F) value out) d

/-- GROUP_COMMIT (R414). -/
def execGroupCommit (path index : Nat) (out : StoreOutcome) (s : State) : Host.Outcome State Fault Refusal :=
  runDev (groupRequest (.groupCommit path index out) path index 1 out) s

/-- GROUP_DISCARD (R413). -/
def execGroupDiscard (path index : Nat) (s : State) : Host.Outcome State Fault Refusal :=
  runDev (groupRequest (.groupDiscard path index) path index 2 {}) s

/-- TOKEN_POOL_SIZE_WRITE (R488). -/
def execTokenPoolSizeWrite (path value : Nat) (out : StoreOutcome) (s : State) : Host.Outcome State Fault Refusal :=
  runDev (writeValue (.tokenPoolSizeWrite path value out) path Obj.tokenPoolSize value out) s

/-- SUPPLY_WARNING_LEVEL_WRITE (R462). -/
def execSupplyWarningLevelWrite (path value : Nat) (out : StoreOutcome) (s : State) : Host.Outcome State Fault Refusal :=
  runDev (writeValue (.supplyWarningLevelWrite path value out) path Obj.supplyWarningMv value out) s

/-- ETA_QUERY_BLOCK (R125). -/
def execEtaQueryBlock (path value : Nat) (s : State) : Host.Outcome State Fault Refusal :=
  runDev (writeValue (.etaQueryBlock path value) path Obj.etaQueryBlock value {}) s

/-- MAP_CACHE_ENABLE (R156). -/
def execMapCacheEnable (path : Nat) (s : State) : Host.Outcome State Fault Refusal :=
  runDev (writeValue (.mapCacheEnable path) path Obj.mapCacheControl 1 {}) s

/-- MAP_CACHE_DISABLE (R156). -/
def execMapCacheDisable (path : Nat) (s : State) : Host.Outcome State Fault Refusal :=
  runDev (writeValue (.mapCacheDisable path) path Obj.mapCacheControl 2 {}) s

/-- MAP_CACHE_INVALIDATE (R156). -/
def execMapCacheInvalidate (path : Nat) (s : State) : Host.Outcome State Fault Refusal :=
  runDev (writeValue (.mapCacheInvalidate path) path Obj.mapCacheControl 3 {}) s

/-- HOLDUP_TEST_REQUEST (R468). -/
def execHoldupTestRequest (path value : Nat) (s : State) : Host.Outcome State Fault Refusal :=
  runDev (writeValue (.holdupTestRequest path value) path Obj.holdUpTestRequest value {}) s

/-- CARRIER_REQUEST_REMOVAL (R318). -/
def execCarrierRequestRemoval (path : Nat) (bank : Bank) (s : State) : Host.Outcome State Fault Refusal :=
  runDev (writeValue (.carrierRequestRemoval path bank) path (Obj.carrierCommand bank.val) 1 {}) s

/-- CARRIER_CANCEL_REMOVAL (R319). -/
def execCarrierCancelRemoval (path : Nat) (bank : Bank) (s : State) : Host.Outcome State Fault Refusal :=
  runDev (writeValue (.carrierCancelRemoval path bank) path (Obj.carrierCommand bank.val) 2 {}) s

/-- CARRIER_POWER_ON (R313). -/
def execCarrierPowerOn (path : Nat) (bank : Bank) (s : State) : Host.Outcome State Fault Refusal :=
  runDev (writeValue (.carrierPowerOn path bank) path (Obj.carrierCommand bank.val) 3 {}) s

/-- CARRIER_ADOPT (R315). -/
def execCarrierAdopt (path : Nat) (bank : Bank) (s : State) : Host.Outcome State Fault Refusal :=
  runDev (writeValue (.carrierAdopt path bank) path (Obj.carrierCommand bank.val) 4 {}) s

/-- CARRIER_RETRY_POWER_FAULT (R313). -/
def execCarrierRetryPowerFault (path : Nat) (bank : Bank) (s : State) : Host.Outcome State Fault Refusal :=
  runDev (writeValue (.carrierRetryPowerFault path bank) path (Obj.carrierCommand bank.val) 5 {}) s

/-- SETTINGS_ACKNOWLEDGE (R594). -/
def execSettingsAcknowledge (path value : Nat) (s : State) : Host.Outcome State Fault Refusal :=
  runDev (writeValue (.settingsAcknowledge path value) path Obj.settingsAcknowledge value {}) s

/-- SETTINGS_RESTORE_DEFAULTS (R423). -/
def execSettingsRestoreDefaults (path value : Nat) (out : StoreOutcome) (s : State) : Host.Outcome State Fault Refusal :=
  runDev (writeValue (.settingsRestoreDefaults path value out) path Obj.settingsRestoreDefaults value out) s

/-- LOGBOOK_CLEAR (R573). -/
def execLogbookClear (path value : Nat) (s : State) : Host.Outcome State Fault Refusal :=
  runDev (writeValue (.logbookClear path value) path Obj.logbookClear value {}) s

/-- LEDGER_FREE_READ (R29). -/
def execLedgerFreeRead (path ledger : Nat) (s : State) : Host.Outcome State Fault Refusal :=
  runDev (readRequest path (0x6200 + ledger) 0x02) s

/-- LEDGER_OWNER_HELD_READ (R29). -/
def execLedgerOwnerHeldRead (path ledger : Nat) (s : State) : Host.Outcome State Fault Refusal :=
  runDev (readRequest path (0x6200 + ledger) 0x04) s

/-- AUTH_KEY_WRITE (R546). -/
def execAuthKeyWrite (path slot : Nat) (key : List Byte) (s : State) : Host.Outcome State Fault Refusal :=
  runDev (writeRequest (.authKeyWrite path slot key) path 0x4410 (slot + 1) key {}) s

/-- AUTH_RIGHTS_WRITE (R546). -/
def execAuthRightsWrite (path slot rights : Nat) (s : State) : Host.Outcome State Fault Refusal :=
  runDev (writeRequest (.authRightsWrite path slot rights) path 0x4411 (slot + 1) (leBytes 1 rights) {}) s

/-- RECOVERY_CHUNK (R597). -/
def execRecoveryChunk (path : Nat) (chunk : List Byte) (out : StoreOutcome) (s : State) : Host.Outcome State Fault Refusal :=
  runDev (writeRequest (.recoveryChunk path chunk out) path 0x7040 0x03 chunk out) s

/-- RECOVERY_COMMIT_REPLACE (R596). -/
def execRecoveryCommitReplace (path : Nat) (s : State) : Host.Outcome State Fault Refusal :=
  runDev (writeValue (.recoveryCommitReplace path) path Obj.recoveryCommit 1 {}) s

/-- RECOVERY_COMMIT_ACTIVATE (R596). -/
def execRecoveryCommitActivate (path : Nat) (s : State) : Host.Outcome State Fault Refusal :=
  runDev (writeValue (.recoveryCommitActivate path) path Obj.recoveryCommit 2 {}) s

/-- RECOVERY_COMMIT_SELECT (R596). -/
def execRecoveryCommitSelect (path : Nat) (s : State) : Host.Outcome State Fault Refusal :=
  runDev (writeValue (.recoveryCommitSelect path) path Obj.recoveryCommit 3 {}) s

end Sys2Proof.Machine
end

