-- ==== Sys2Proof/Machine/CanDict.lean ====
section
/-! DEFINITION. Dictionary transactions over the management link (spec/14 R433 to R440). -/
namespace Sys2Proof.Machine

/-- The path code of CAN (R419). -/
abbrev canPath : Nat := 5

/-- Change the node's transaction. -/
def setTrans (t : Option CanTransaction) (d : Device) : Device := { d with can := { d.can with trans := t } }

/-- Data lengths of CAN FD (R432): the frame is padded to the next one. -/
def canPad (bytes : List Byte) : List Byte :=
  let n := bytes.length
  let size := if n ≤ 8 then 8 else ([12, 16, 20, 24, 32, 48, 64].find? fun k => n ≤ k).getD 64
  bytes ++ List.replicate (size - n) 0

/-- Queue a response (Table 14.4). -/
def sendResponse (r : CanRequest) (status typ access length : Nat) (data : List Byte) (d : Device) : Device :=
  queueFrame { func := 6, owner := 3, queuedMs := nowMs d, tag := r.tag,
               data := canPad (leBytes 1 status ++ leBytes 1 r.tag ++ leBytes 2 r.index ++ leBytes 1 r.sub ++ leBytes 1 typ
                 ++ leBytes 1 access ++ leBytes 1 length ++ data) } d

/-- Protocol refused, with its reason (Table 14.6), and counted (0x1012.07). -/
def refuseCan (r : CanRequest) (reason : Nat) (d : Device) : Device :=
  sendResponse r 0x04 0 0 0 (leBytes 1 reason) (incObj Obj.canProtocolRefusals d)

/-- A frame of the dictionary request function is received: not by a silent node, and in no mode without a dictionary. -/
def canHears (d : Device) : Bool := !d.can.silent && d.ctl.mode != .m0 && d.ctl.mode != .m1

/-- The checks of Table 14.6 that come before a request is served: `bad` is the rest of row 0x02. -/
def canRequest (r : CanRequest) (bad : Bool) (ok : Device → Device) (d : Device) : Device :=
  if !canHears d then d
  else if r.short || bad then refuseCan r 0x02 d
  else if d.can.trans.isSome then refuseCan r 0x03 d
  else if r.reserved then refuseCan r 0x07 d
  else ok (actedOn d)

/-- An abort as a response: code, and the seconds left of a lockout. -/
def respondAbort (r : CanRequest) (reason sub : Nat) (d : Device) : Device :=
  sendResponse r 0x01 0 0 0 (leBytes 4 (abortCode reason sub)
    ++ leBytes 4 (if reason = Abort.pathLockedOut then lockSeconds canPath d else 0)) d

/-- Queue the segments of a value, 60 bytes each, the last marked (Table 14.7). -/
def queueSegments (tag : Nat) : Nat → Nat → List Byte → Device → Device
  | 0, _, _, d => d
  | fuel + 1, seg, bytes, d =>
    let last := bytes.length ≤ 60
    let d := queueFrame { func := 8, owner := 3, queuedMs := nowMs d, tag := tag,
                          data := canPad (leBytes 1 (128 + 64 * b2n last) ++ leBytes 1 tag ++ leBytes 2 seg ++ bytes.take 60) } d
    if last then d else queueSegments tag fuel (seg + 1) (bytes.drop 60) d

/-- Read (R433, R439). -/
def canReadBody (r : CanRequest) (d : Device) : Device :=
  let d := meetPairs (objKey r.index r.sub) d
  match readObject canPath r.index r.sub d with
  | .error e => respondAbort r e r.sub (answerPath canPath (some (abortCode e r.sub)) [] d)
  | .ok v =>
    let key := objKey r.index r.sub
    let d := readEffect r.index r.sub (answerPath canPath none v d)
    if v.length ≤ 56 then sendResponse r 0x00 (typeOf key) (accessByte key) v.length v d
    else
      let d := setTrans (some { tag := r.tag, idx := r.index, sub := r.sub, sending := true }) d
      queueSegments r.tag 69 0 v (sendResponse r 0x02 (typeOf key) (accessByte key) 0xFF (leBytes 2 v.length) d)

/-- CAN_READ (R433). -/
def execCanRead (req : CanRequest) (s : State) : Host.Outcome State Fault Refusal :=
  runDev (canRequest req false (canReadBody req)) s

/-- Serve a write and answer it; held in M8 under R403, the transaction stays outstanding (R437). -/
def canServeWrite (i : Instr) (r : CanRequest) (value : List Byte) (out : StoreOutcome) (d : Device) : Device :=
  match writeObject canPath r.index r.sub value out d with
  | (.held, d) => setTrans (some { tag := r.tag, idx := r.index, sub := r.sub }) { d with held := d.held ++ [i] }
  | (.aborted e s, d) => respondAbort r e s (setTrans none (answerPath canPath (some (abortCode e s)) [] d))
  | (.done, d) =>
    let key := objKey r.index r.sub
    sendResponse r 0x00 (typeOf key) (accessByte key) 0 [] (setTrans none (answerPath canPath none [] d))

/-- CAN_WRITE (R433). -/
def execCanWrite (req : CanRequest) (value : List Byte) (out : StoreOutcome) (s : State) : Host.Outcome State Fault Refusal :=
  runDev (canRequest req (decide (56 < req.length)) (canServeWrite (.canWrite req value out) req (value.take req.length) out)) s

/-- Open a segmented write (R438). -/
def openSegmented (r : CanRequest) (total : Nat) (d : Device) : Device :=
  sendResponse r 0x03 0 0 0 [] (setTrans (some { tag := r.tag, idx := r.index, sub := r.sub, total := some total, lastMs := nowMs d }) d)

/-- CAN_SEGMENTED_WRITE (R438). -/
def execCanSegmentedWrite (req : CanRequest) (total : Nat) (s : State) : Host.Outcome State Fault Refusal :=
  runDev (canRequest req (decide (total < 57 || 4096 < total)) (openSegmented req total)) s

/-- A transaction's request head, for its responses. -/
def CanTransaction.request (t : CanTransaction) : CanRequest := { tag := t.tag, index := t.idx, sub := t.sub }

/-- Abort transfer (R436, R439, Table 14.6). -/
def abortTransfer (r : CanRequest) (d : Device) : Device :=
  if !canHears d then d
  else if r.short then refuseCan r 0x02 d
  else if r.reserved then refuseCan r 0x07 d
  else match d.can.trans with
    | some t =>
      if t.tag = r.tag && (t.total.isSome || t.sending) then
        let d := actedOn (setTrans none d)
        let mine (f : CanFrame) : Bool := f.owner = 3 && f.func = 8 && f.tag = r.tag
        let d := if t.sending then
            withdrawWhere mine d.can.queue { d with can := { d.can with backlog := d.can.backlog.filter fun f => !mine f } }
          else d
        refuseCan t.request 0x06 d
      else refuseCan r 0x08 d
    | none => refuseCan r 0x08 d

/-- CAN_ABORT_TRANSFER (R436). -/
def execCanAbortTransfer (req : CanRequest) (s : State) : Host.Outcome State Fault Refusal := runDev (abortTransfer req) s

/-- A segment of a segmented write (R438, R440); `i` is the command that M8 would hold for the whole value. -/
def takeSegment (i : List Byte → Instr) (tag segment : Nat) (last short : Bool) (data : List Byte) (out : StoreOutcome) (d : Device) : Device :=
  if !canHears d then d
  else if short then incObj Obj.canFramesIgnored d
  else match d.can.trans with
    | none => incObj Obj.canFramesIgnored d
    | some t =>
      match t.total with
      | none => incObj Obj.canFramesIgnored d
      | some total =>
        let isLast := total ≤ 60 * (segment + 1)
        let d := actedOn d
        if tag != t.tag || segment != t.nextSeg || last != isLast then refuseCan t.request 0x04 (setTrans none d)
        else if t.lastMs + 1000 < nowMs d then refuseCan t.request 0x05 (setTrans none d)
        else
          let received := t.received ++ data.take (min 60 (total - 60 * segment))
          if isLast then canServeWrite (i received) t.request received out d
          else setTrans (some { t with received := received, nextSeg := t.nextSeg + 1, lastMs := nowMs d }) d

/-- CAN_SEGMENT (R440). -/
def execCanSegment (tag segment : Nat) (last short : Bool) (data : List Byte) (out : StoreOutcome) (s : State) :
    Host.Outcome State Fault Refusal :=
  runDev (takeSegment (fun whole => .canSegment tag segment last short whole out) tag segment last short data out) s

/-- More than 1 s has passed between segments (Table 14.6). -/
def segmentTimeout (d : Device) : Device :=
  match d.can.trans with
  | some t => if t.total.isSome && t.lastMs + 1000 < nowMs d then refuseCan t.request 0x05 (setTrans none d) else d
  | none => d

/-- SEGMENT_TIMEOUT (R435). -/
def execSegmentTimeout (s : State) : Host.Outcome State Fault Refusal := runDev segmentTimeout s

/-- CAN_UNKNOWN_COMMAND (R435). -/
def execCanUnknownCommand (req : CanRequest) (s : State) : Host.Outcome State Fault Refusal :=
  runDev (fun d => onlyIf (canHears d) (refuseCan req 0x01) d) s

/-- Authorise challenge over CAN (Table 14.5). -/
def canChallenge (r : CanRequest) (slot op arg : Nat) (d : Device) : Device :=
  match challenge canPath slot op arg d with
  | (.reserved, d) => refuseCan r 0x07 d
  | (.locked, d) => sendResponse r 0x05 0 0 0 (leBytes 4 0x04 ++ leBytes 4 (lockSeconds canPath d)) d
  | (.conflict, d) => respondAbort r Abort.stateConflict 0 d
  | (.nonce n, d) => sendResponse r 0x00 0 0 0 (leBytes 8 n) d

/-- CAN_AUTHORISE_CHALLENGE (R434). -/
def execCanAuthoriseChallenge (req : CanRequest) (slot op arg : Nat) (s : State) : Host.Outcome State Fault Refusal :=
  runDev (canRequest req false (canChallenge req slot op arg)) s

/-- Authorise respond over CAN (Tables 14.5, 18.5). -/
def canRespond (r : CanRequest) (slot op arg nonce : Nat) (response : List Byte) (d : Device) : Device :=
  match respond canPath slot op arg nonce response d with
  | (.reserved, d) => refuseCan r 0x07 d
  | (.locked, d) => sendResponse r 0x05 0 0 0 (leBytes 4 0x04 ++ leBytes 4 (lockSeconds canPath d)) d
  | (.wrongPath, d) => sendResponse r 0x05 0 0 0 (leBytes 8 0x03) d
  | (.notOutstanding, d) => sendResponse r 0x05 0 0 0 (leBytes 8 0x02) d
  | (.failed, d) => sendResponse r 0x05 0 0 0 (leBytes 8 0x01) d
  | (.success, d) => sendResponse r 0x00 0 0 0 [] d

/-- CAN_AUTHORISE_RESPOND (R434). -/
def execCanAuthoriseRespond (req : CanRequest) (slot op arg nonce : Nat) (response : List Byte) (s : State) :
    Host.Outcome State Fault Refusal :=
  runDev (canRequest req false (canRespond req slot op arg nonce response)) s

end Sys2Proof.Machine
end

