-- ==== Sys2Proof/Machine/Pcie.lean ====
section
/-! DEFINITION. The expansion-bus endpoint: links, per-port resets, configuration writes, interrupts, errors and link power (spec/11). -/
namespace Sys2Proof.Machine

/-! ### Ports -/

/-- The ports that the straps configure, or the one recovery port of M2 (R323, R343). -/
def portCount (d : Device) : Nat :=
  if d.ctl.mode = .m2 then 1 else match getObj Obj.portConfig d with | 0x01 => 2 | 0x02 => 4 | _ => 1

/-- A link can come up in the mode (Table 2.5, R352). -/
def linkMode (m : Mode) : Bool := match m with | .m0 | .m1 | .m11 => false | _ => true

/-- A Function Level Reset of a port is in progress (R345). -/
def flrRunning (p : Nat) (d : Device) : Bool :=
  match (port p d).flrMs with | some t => decide (nowMs d < t + 100) | none => false

/-- A port answers configuration requests (R345, R348). -/
def configReady (p : Nat) (d : Device) : Bool :=
  (port p d).linkUp && getObj (Obj.portLinkState p) d != 0x05 && !flrRunning p d

/-- A port answers memory requests (R339, R347). -/
def memoryReady (p : Nat) (d : Device) : Bool :=
  configReady p d && (port p d).cfg.mse && getObj (Obj.portPowerState p) d != 0x03

/-- Largest payload of a port, in bytes: any value above 512 is treated as 512 (Table 11.5). -/
def payloadBytes (p : Nat) (d : Device) : Nat := min 512 (128 * 2 ^ (port p d).cfg.mps)

/-- Most non-posted requests outstanding (R338). -/
def requestLimit (p : Nat) (d : Device) : Nat :=
  let c := (port p d).cfg
  if c.tenBitTag then 512 else if c.extendedTag then 256 else 32

/-- The completion timeout of a Completion Timeout Value, in µs (Table 11.7). -/
def completionTimeoutUs (v : Nat) : Nat :=
  match v with
  | 0b0001 => 80 | 0b0010 => 8000 | 0b0101 => 50000 | 0b0110 => 180000 | 0b1001 => 800000
  | 0b1010 => 3000000 | 0b1101 => 12000000 | 0b1110 => 60000000 | _ => 40000

/-- Relaxed Ordering of the requests of a port: only the writes of read data follow Enable Relaxed Ordering (R336, Table 11.6). -/
def relaxedOrdering (p : Nat) (readData : Bool) (d : Device) : Bool := readData && (port p d).cfg.relaxed

/-! ### The commands of a port -/

/-- The head of a host command that may wait. -/
def hostOf (i : Instr) : Option HostCmd :=
  match i with
  | .write c .. | .read c .. | .writeZeroes c .. | .datasetManagement c .. | .verify c .. | .flush c
  | .sanitizeBlockErase c .. | .sanitizeCryptoErase c .. | .sanitizeExitFailure c
  | .sanitizeOverwrite c | .firmwareCommitReplace c .. | .firmwareCommitActivate c .. | .firmwareCommitSelect c ..
  | .firmwareCommitImmediate c .. | .formatNvm c .. | .namespaceCreate c .. | .namespaceDelete c | .namespaceAttach c ..
  | .namespaceDetach c .. | .dictionaryWrite c .. | .reservationRegister c .. | .reservationReport c .. | .reservationAcquire c ..
  | .reservationRelease c .. | .invalidCommandOpcode c => some c
  | _ => none

/-- The access path of a write that M8 may hold (R403). -/
def heldPath (i : Instr) : Option Nat :=
  match i with
  | .objectWrite p .. | .groupCommit p .. | .settingsRestoreDefaults p .. | .tokenPoolSizeWrite p .. | .supplyWarningLevelWrite p .. => some p
  | _ => none

/-- A waiting command is one of a port. -/
def ofPort (p : Nat) (i : Instr) : Bool :=
  match hostOf i with | some c => c.port.val == p | none => heldPath i == some (p + 1)

/-- Commands of a port that its reset drops: not admitted, or admitted without having landed, reads, and those that wait. -/
def droppedCommands (p : Nat) (d : Device) : Nat :=
  let w := d.media.wp
  (d.held.filter (ofPort p)).length + (d.delayed.filter (ofPort p)).length + (w.reads.filter (·.port == p)).length
    + (w.flushes.filter (·.port == p)).length + (w.writes.filter fun x => x.port == p && !x.landed).length
    + (d.cs.jobs.filter fun j => j.cmd.port.val == p && !j.started && !j.dropped).length

/-- Admitted writes of a port that its reset carries to their completion point. -/
def carriedWrites (p : Nat) (d : Device) : Nat :=
  (d.media.wp.writes.filter fun x => x.port == p && x.landed && !x.completed && !x.dropped).length

/-- A port has a command outstanding or a completion entry held (R351). -/
def portBusy (p : Nat) (d : Device) : Bool :=
  let t := port p d
  t.sqs.any (fun q => q.2.live && q.2.head != q.2.tail) || !t.held.isEmpty || !t.aers.isEmpty
    || droppedCommands p d + carriedWrites p d != 0

/-- The latency in µs that the port last reported by LTR, none while the mechanism is not enabled (R351). -/
def ltrMicros (p : Nat) (d : Device) : Option Nat :=
  if (port p d).cfg.ltrEnable then some (if portBusy p d then 100 else 3000) else none

/-- What a reset of a port does to its commands (Table 11.10): those that have not landed, reads and waiting commands are dropped; landed
writes and a running commit are carried on, and their completion entries discarded. -/
def dropCommands (p : Nat) (d : Device) : Device :=
  let d := (d.media.wp.reads.filter (·.port = p)).foldl (fun d r => dropRead r.id d) d
  let d := (d.media.wp.writes.filter fun x => x.port = p && !x.landed).foldl (fun d w => dropWrite w.id d) d
  let d := (d.media.wp.flushes.filter (·.port = p)).foldl (fun d f => freeFlush f d) d
  let d := (d.media.wp.writes.filter (·.port = p)).foldl (fun d w => freeContext p w.context d) d
  let d := updWp (fun w => { w with
    flushes := w.flushes.filter (·.port != p)
    writes := w.writes.map fun x => if x.port = p then { x with dropped := true, context := none } else x }) d
  let d := (List.range 16).foldl (fun d ch => advanceChannel ch d) d
  let jobs := (d.cs.jobs.filter fun j => j.cmd.port.val != p || j.started).map fun j =>
    if j.cmd.port.val = p then { j with dropped := true } else j
  let ns := d.sub.nsJobs.map fun j => if j.cmd.port.val = p then { j with dropped := true } else j
  settle { d with sub := { d.sub with nsJobs := ns }, held := d.held.filter fun i => !ofPort p i, delayed := d.delayed.filter fun i => !ofPort p i, cs := { d.cs with jobs := jobs } }

/-! ### Resets (R344, R358) -/

/-- The controller-scoped features after a controller-level reset: only Volatile Write Cache takes its value from an object (Table 12.5). -/
def resetFeatures (d : Device) : SMap (Option Nat) := smSet none 0x06 (some (getObj Obj.vwcDefault d)) []

/-- A controller's state after a controller-level reset. In M10 CSTS.CFS stays 1 (R52). -/
def resetController (t : PortState) (lockdown : Bool) (features : SMap (Option Nat)) : PortState :=
  { t with
    cc := 0, rdy := false, cfs := lockdown, shst := 0, ccBad := false, entrySizeBad := false
    intMask := 0, pendingVec := [], sqs := [], turnQueue := 0, turnLeft := 0, cqs := [], features := features, hostId := 0, queuesSet := false
    aers := [], events := [], eventsMasked := [], errors := [], notified := false, before := [], held := [], staged := [], stagedComp := none }

/-- An access path at a reset: challenges, grant, shadows and the values of per-path objects go (R125, R415, R545). -/
def resetPath (path : Nat) (d : Device) : Device :=
  updPath path (fun s => { s with shadows := [], vals := [] }) (clearPath path d)

/-- A controller-level reset (R358). -/
def controllerReset (p : Nat) (d : Device) : Device :=
  let d := dropCommands p (resetPath (p + 1) d)
  updPort p (fun t => resetController t (d.ctl.mode = .m10) (resetFeatures d)) d

/-- A port's configuration space after a reset; the sticky fields of Table 11.10 stay. -/
def resetConfig (keepLink : Bool) (t : PortState) : PortState :=
  { t with
    bme := false
    cfg := { aspmL1 := keepLink && t.cfg.aspmL1, uncorrectableMask := t.cfg.uncorrectableMask
             uncorrectableSeverity := t.cfg.uncorrectableSeverity, correctableMask := t.cfg.correctableMask }
    vpdAddr := 0, vpdFlag := false, vpdData := 0, msixEnable := false, functionMask := false, msiEnable := false, msiVectors := 1
    masked := [], asqs := 0, acqs := 0 }

/-- A link goes down: nothing is in use. -/
def dropLink (p : Nat) (d : Device) : Device :=
  setObj (Obj.portLinkState p) 0x00 (setObj (Obj.portLinkSpeed p) 0 (setObj (Obj.portLinkWidth p) 0 (setObj (Obj.portPowerState p) 0xFF
    (updPort p (fun t => { t with linkUp := false }) d))))

/-- A reset of one port, with its record (R344, R346): hot reset and link down take the link down, Function Level Reset keeps it. -/
def portReset (code p : Nat) (flr : Bool) (d : Device) : Device :=
  let snaps := [p, droppedCommands p d, carriedWrites p d]
  let d := updPort p (resetConfig flr) (controllerReset p d)
  let d := if flr then setObj (Obj.portPowerState p) 0x00 d else dropLink p d
  let now := if flr || flrRunning p d then some (nowMs d) else none
  logRec code snaps (updPort p (fun t => { t with flrMs := now }) d)

/-- LINK_UP (R325): a configured port reaches L0 at a rate and width that it supports; it leaves Detect, so WAKE_N is released. -/
def reachL0 (p rate width : Nat) (d : Device) : Device :=
  let top := if d.ctl.mode = .m2 then 3 else getObj Obj.maxLinkSpeedCode d
  let lanes := if d.ctl.mode = .m2 then 8 else configuredWidth d
  if (port p d).linkUp || !linkMode d.ctl.mode || portCount d ≤ p || rate = 0 || top < rate || width = 0 || lanes < width then d
  else
    let d := setObj (Obj.portPowerState p) 0x00 (setObj (Obj.portLinkSpeed p) rate (setObj (Obj.portLinkWidth p) width
      (updPort p (fun t => { t with linkUp := true, wakeMs := none }) d)))
    let st := activeLinkState p d
    let d := setObj (Obj.portLinkState p) st d
    if st = 0x03 then logRec Code.pcieLinkDegraded [p, rate, width] d else d

/-- LINK_UP (R325). -/
def execLinkUp (port : Port) (rate width : Nat) (s : State) : Host.Outcome State Fault Refusal := runDev (reachL0 port.val rate width) s

/-- LINK_DOWN (R344). -/
def execLinkDown (p : Port) (s : State) : Host.Outcome State Fault Refusal :=
  runDev (fun d => onlyIf (port p.val d).linkUp
    (fun d => incObj (Obj.portLinkDownCount p.val) (portReset Code.pcieLinkDown p.val false d)) d) s

/-- HOT_RESET (R344). -/
def execHotReset (p : Port) (s : State) : Host.Outcome State Fault Refusal :=
  runDev (fun d => onlyIf (port p.val d).linkUp
    (fun d => incObj (Obj.portHotResets p.val) (portReset Code.pcieHotReset p.val false d)) d) s

/-- FUNCTION_LEVEL_RESET (R345): no effect while one is in progress. -/
def execFunctionLevelReset (p : Port) (s : State) : Host.Outcome State Fault Refusal :=
  runDev (fun d => onlyIf (configReady p.val d)
    (fun d => incObj (Obj.portFlrs p.val) (portReset Code.pcieFlr p.val true d)) d) s

/-- LINK_DETECT_RETRY (R346, R349): a port that finds a partner leaves Detect and trains. -/
def detectRetry (p : Nat) (found : Bool) (d : Device) : Device :=
  if (port p d).linkUp || !linkMode d.ctl.mode || portCount d ≤ p then d
  else setObj (Obj.portLinkState p) (b2n found) (updPort p (fun t => { t with wakeMs := if found then none else t.wakeMs }) d)

/-- LINK_DETECT_RETRY (R346). -/
def execLinkDetectRetry (port : Port) (found : Bool) (s : State) : Host.Outcome State Fault Refusal := runDev (detectRetry port.val found) s

/-! ### Configuration writes -/

/-- Held completion entries are posted in order once the port can send again (R339, R347). -/
def postHeld (p : Nat) (d : Device) : Device :=
  if portSends p d then updPort p (fun t => t.held.foldl (fun t c => enqueueCompletion c t) { t with held := [] }) d else d

/-- POWER_STATE_WRITE (R347). -/
def writePowerState (p value : Nat) (d : Device) : Device :=
  if !configReady p d then d
  else
    let d := updPort p (fun t => { t with pmeEn := bitOf value 8, pmeStatus := t.pmeStatus && !bitOf value 15 }) (leaveL1 p d)
    match value % 4 with
    | 0 => postHeld p (setObj (Obj.portPowerState p) 0x00 d)
    | 3 => setObj (Obj.portPowerState p) 0x03 d
    | _ => d

/-- POWER_STATE_WRITE (R347). -/
def execPowerStateWrite (port : Port) (value : Nat) (s : State) : Host.Outcome State Fault Refusal := runDev (writePowerState port.val value) s

/-- PME_TURN_OFF (R348): the port enters L2/L3 Ready; nothing is flushed. -/
def execPmeTurnOff (p : Port) (s : State) : Host.Outcome State Fault Refusal :=
  runDev (fun d => onlyIf (port p.val d).linkUp (setObj (Obj.portLinkState p.val) 0x05) d) s

/-- WAKE_N_RELEASE (R349): 10 s after it was driven low. -/
def execWakeNRelease (p : Port) (s : State) : Host.Outcome State Fault Refusal :=
  runDev (fun d => match (port p.val d).wakeMs with
    | some t => onlyIf (decide (t + 10000 ≤ nowMs d)) (updPort p.val fun t => { t with wakeMs := none }) d
    | none => d) s

/-- ASPM_L1_ENTRY (R350). -/
def execAspmL1Entry (p : Port) (idleUs : Nat) (s : State) : Host.Outcome State Fault Refusal :=
  runDev (fun d => onlyIf ((port p.val d).cfg.aspmL1 && decide (getObj Obj.aspmIdleUs d ≤ idleUs)
      && (getObj (Obj.portLinkState p.val) d == 0x02 || getObj (Obj.portLinkState p.val) d == 0x03))
    (setObj (Obj.portLinkState p.val) 0x04) d) s

/-- BUS_MASTER_ENABLE (R339). Status bits of Advanced Error Reporting are cleared by writing 1; the header log is free again with its error. -/
def writeBusMaster (p : Nat) (bme : Bool) (cfg : PortConfig) (clearU clearC : Nat) (d : Device) : Device :=
  if !configReady p d then d
  else
    let clear (v m : Nat) : Nat := (BitVec.ofNat 32 v &&& ~~~BitVec.ofNat 32 m).toNat
    let freed (t : PortState) : Bool := match t.aerFirst with | some b => bitOf clearU b | none => false
    postHeld p (updPort p (fun t => { t with
      bme := bme
      bmeMs := if t.bme && !bme then nowMs d else t.bmeMs
      cfg := cfg
      aerUncorrectable := clear t.aerUncorrectable clearU
      aerCorrectable := clear t.aerCorrectable clearC
      aerFirst := if freed t then none else t.aerFirst
      aerHeader := if freed t then 0 else t.aerHeader }) (leaveL1 p d))

/-- BUS_MASTER_ENABLE (R339). -/
def execBusMasterEnable (port : Port) (bme : Bool) (cfg : PortConfig) (clearUncorrectable clearCorrectable : Nat) (s : State) :
    Host.Outcome State Fault Refusal := runDev (writeBusMaster port.val bme cfg clearUncorrectable clearCorrectable) s

/-! ### Interrupts (R332 to R335) -/

/-- A completion queue whose interrupts are enabled holds entries beyond its head doorbell. -/
def queueDue (q : CompQueue) : Bool := q.live && q.ien && !q.posted.isEmpty

/-- Unmask a vector that is pending: its message is sent where a queue of the vector still holds entries; its pending bit is cleared. -/
def releaseVector (v : Nat) (t : PortState) : PortState :=
  if !t.pendingVec.contains v || t.masked.contains v || (t.msixEnable && t.functionMask) then t
  else
    let due := t.cqs.any fun q => queueDue q.2 && (if t.msixEnable then q.2.vector = v else q.2.vector % t.msiVectors = v)
    { t with pendingVec := t.pendingVec.erase v, messages := if due then v :: t.messages else t.messages }

/-- MSIX_UNMASK (R333, R334): a vector's own mask bit, or the Function Mask, is cleared. -/
def unmask (p : Nat) (vector : Option Nat) (d : Device) : Device :=
  if !configReady p d then d
  else updPort p (fun t => match vector with
    | some v =>
      let mask := if t.msixEnable then t.intMask else BitVec.ofNat 32 (setBit t.intMask.toNat v false)
      releaseVector v { t with masked := t.masked.filter (· != v), intMask := mask }
    | none => t.pendingVec.foldl (fun t v => releaseVector v t) { t with functionMask := false }) (leaveL1 p d)

/-- MSIX_UNMASK (R333). -/
def execMsixUnmask (port : Port) (vector : Option Nat) (s : State) : Host.Outcome State Fault Refusal := runDev (unmask port.val vector) s

/-- MSI_ENABLE (R334, R335): when interrupts become enabled each queue that holds entries signals once. -/
def writeMsi (p : Nat) (msix functionMask msi : Bool) (multiple : Nat) (masked : List Nat) (d : Device) : Device :=
  if !configReady p d then d
  else updPort p (fun t =>
    let was := t.msixEnable || t.msiEnable
    let u : PortState := { t with
      msixEnable := msix, functionMask := functionMask, msiEnable := msi, msiVectors := 2 ^ min 5 multiple, masked := masked
      intMask := if msi && !msix then BitVec.ofNat 32 ((List.range 32).filter (fun v => masked.contains v) |>.map (2 ^ ·)).sum else t.intMask }
    if was || !(msix || msi) then u
    else u.cqs.foldl (fun t q => if queueDue q.2 then signalVector q.2.vector t else t) u) (leaveL1 p d)

/-- MSI_ENABLE (R335). -/
def execMsiEnable (port : Port) (msix functionMask msi : Bool) (multiple : Nat) (masked : List Nat) (s : State) :
    Host.Outcome State Fault Refusal := runDev (writeMsi port.val msix functionMask msi multiple masked) s

/-! ### Errors (R339 to R341) -/

/-- A command fails as a host-memory fault (Table 12.8): a write that has not landed, or a read. -/
def failHostMemory (p sqid cid : Nat) (d : Device) : Device :=
  match d.media.wp.writes.find? (fun w => w.port == p && w.sqid == sqid && w.cid == cid && !w.landed) with
  | some w => settle (advanceChannel w.channel (failWrite w 0x0 0x04 false 0 (countMemoryFault p 0x0 0x04 d)))
  | none =>
    match d.media.wp.reads.find? (fun r => r.port == p && r.sqid == sqid && r.cid == cid && !r.verify) with
    | some r => advanceChannel r.channel (failCmd r.host 0x0 0x04 (countMemoryFault p 0x0 0x04 (dropRead r.id d)))
    | none => d

/-- The command named by an error, if any. -/
def failNamed (p : Nat) (cmd : Option (Nat × Nat)) (d : Device) : Device :=
  match cmd with | some (sqid, cid) => failHostMemory p sqid cid d | none => d

/-- A correctable error: counted, and logged by its status bit. -/
def correctableError (p bit : Nat) (d : Device) : Device :=
  incObj (Obj.portCorrectableErrors p) (updPort p (fun t => { t with aerCorrectable := setBit t.aerCorrectable bit true }) d)

/-- The class of an error, and its status bit in Advanced Error Reporting: correctable, uncorrectable, or of no class. -/
def errorBit (e : PcieError) : Option (Bool × Nat) :=
  match e with
  | .receiver => some (true, 0)
  | .badTlp => some (true, 6)
  | .badDllp => some (true, 7)
  | .replayRollover => some (true, 8)
  | .replayTimeout => some (true, 12)
  | .correctedInternal => some (true, 14)
  | .headerLogOverflow => some (true, 15)
  | .dataLink => some (false, 4)
  | .poisonedCompletion | .poisonedWrite => some (false, 12)
  | .flowControl => some (false, 13)
  | .unexpectedCompletion => some (false, 16)
  | .receiverOverflow => some (false, 17)
  | .malformed => some (false, 18)
  | .ecrc => some (false, 19)
  | .unsupportedRequest => some (false, 20)
  | .completionRefused => none

/-- TLP_ERROR (R341, Table 11.8): counted and logged; a failed host memory read fails its command. -/
def tlpError (p : Nat) (e : PcieError) (header : Nat) (cmd : Option (Nat × Nat)) (d : Device) : Device :=
  if !(port p d).linkUp then d
  else
    let d := match errorBit e with
      | some (true, b) => correctableError p b d
      | some (false, b) => uncorrectableError p b header d
      | none => d
    if e = .poisonedCompletion || e = .completionRefused then failNamed p cmd d else d

/-- TLP_ERROR (R341). -/
def execTlpError (port : Port) (error : PcieError) (header : Nat) (cmd : Option (Nat × Nat)) (s : State) :
    Host.Outcome State Fault Refusal := runDev (tlpError port.val error header cmd) s

/-- COMPLETION_TIMEOUT (R340, R341). -/
def timeOut (p elapsedUs header : Nat) (cmd : Option (Nat × Nat)) (d : Device) : Device :=
  let t := port p d
  if !t.linkUp || t.cfg.timeoutDisable || elapsedUs < completionTimeoutUs t.cfg.completionTimeout then d
  else failNamed p cmd (uncorrectableError p 14 header d)

/-- COMPLETION_TIMEOUT (R340). -/
def execCompletionTimeout (port : Port) (elapsedUs header : Nat) (cmd : Option (Nat × Nat)) (s : State) :
    Host.Outcome State Fault Refusal := runDev (timeOut port.val elapsedUs header cmd) s

/-- BUS_MASTER_HOLD_TIMEOUT (R339): a transfer held for 1 s fails its command; the entry of the failure stays held. -/
def execBusMasterHoldTimeout (p : Port) (sqid cid : Nat) (s : State) : Host.Outcome State Fault Refusal :=
  runDev (fun d => onlyIf ((port p.val d).linkUp && !(port p.val d).bme && decide ((port p.val d).bmeMs + 1000 ≤ nowMs d)) (failHostMemory p.val sqid cid) d) s

/-! ### Vital product data (R331) -/

/-- VPD_READ (R331): four bytes of the option area's data; F is set. -/
def execVpdRead (p : Port) (address : Nat) (s : State) : Host.Outcome State Fault Refusal :=
  runDev (fun d => onlyIf (configReady p.val d) (fun d =>
    updPort p.val (fun t => { t with vpdAddr := address, vpdFlag := true, vpdData := ofLe ((d.cs.oa.inUse.vpd.drop address).take 4) })
      (leaveL1 p.val d)) d) s

/-- VPD_WRITE (R331): nothing is written; F is cleared. -/
def execVpdWrite (p : Port) (address : Nat) (s : State) : Host.Outcome State Fault Refusal :=
  runDev (fun d => onlyIf (configReady p.val d) (fun d =>
    updPort p.val (fun t => { t with vpdAddr := address, vpdFlag := false }) (leaveL1 p.val d)) d) s

end Sys2Proof.Machine
end

