-- ==== Sys2Proof/Machine/HostPages.lean ====
section
/-! DEFINITION. The data structures that Identify and Get Log Page return (spec/12 R368, R369, R383 to R386). Where spec/12 names a field
and its value, the byte position is that of NVM Express Base 2.0c and NVM Command Set 1.0c (PRESUMED, notes/assumptions/45.md). -/
namespace Sys2Proof.Machine

/-! ### Building a page -/

/-- Kelvin of a temperature in °C. -/
def kelvin (t : Int) : Nat := (t + 273).toNat

/-- Kelvin of a temperature held as °C + 64; 0 where absent or faulted. -/
def kelvinOfByte (v : Nat) : Nat := if v = 0 then 0 else v + 209

/-! ### Identify (R368, R369) -/

/-- The NVM Subsystem NQN (R355). -/
def subsystemNqn (d : Device) : List Byte := ascii "nqn.2023-11.com.maelken:tytha-zv1024:" ++ textField 20 d.cs.oa.inUse.serial

/-- The main firmware's revision (R3), or RECOVERY in M2 (Table 20.11). -/
def firmwareRevision (d : Device) : List Byte :=
  if d.ctl.mode = .m2 then ascii "RECOVERY" else revisionText (slotVersionOf d.cs.running 1 d)

/-- Identify Controller (Table 12.4a). -/
def identifyController (p : Nat) (d : Device) : List Byte :=
  let m2 := d.ctl.mode = .m2
  let oa := d.cs.oa.inUse
  layout 4096
    [(0, leBytes 2 0x1E6B), (2, leBytes 2 oa.subVendor), (4, textField 20 oa.serial), (24, textField 40 (ascii "Tytha ZV-1024")),
     (64, firmwareRevision d), (73, leBytes 3 oa.oui), (76, leBytes 1 0x03), (77, leBytes 1 9), (78, leBytes 2 (p + 1)),
     (80, leBytes 4 0x00020000), (84, leBytes 4 12000000), (88, leBytes 4 120000000), (92, leBytes 4 0x500), (96, leBytes 4 1),
     (128, leBytes 2 10), (130, leBytes 2 50), (132, leBytes 2 300), (256, leBytes 2 (if m2 then 0x0004 else 0x000E)), (258, leBytes 1 7),
     (259, leBytes 1 7), (260, leBytes 1 0x04), (261, leBytes 1 0x0E), (262, leBytes 1 63), (263, leBytes 1 0), (264, leBytes 1 1),
     (266, leBytes 2 368), (268, leBytes 2 391), (319, leBytes 1 1), (320, leBytes 2 10), (328, leBytes 4 3), (512, leBytes 1 0x66),
     (513, leBytes 1 0x44), (514, leBytes 2 0), (516, leBytes 4 (if m2 then 0 else 1024)), (520, leBytes 2 0x00EC), (524, leBytes 1 0x04),
     (525, leBytes 1 0x07), (536, leBytes 4 1), (540, leBytes 4 1024), (768, subsystemNqn d),
     (2048, leBytes 2 (4800 + getObj Obj.tokenPoolSize d)), (3072, leBytes 4 128 ++ leBytes 4 1024 ++ leBytes 4 4096 ++ leBytes 4 16)]

/-- NUSE of a namespace: 16 logical blocks per grain whose entry is a pointer or lost, at most NSZE (Table 12.4b). -/
def namespaceUse (slot : Nat) (d : Device) : Nat :=
  min (namespace_ slot d).nsze (16 * (d.media.map.entries.filter fun e => e.1 / 2 ^ 40 = slot && e.2 != 0).length)

/-- The three LBA formats (Table 12.6). -/
def lbaFormats : List Byte := leBytes 4 (12 * 65536) ++ leBytes 4 (12 * 65536 + 8) ++ leBytes 4 (12 * 65536 + 16)

/-- Identify Namespace with the fields that every namespace shares; the others from `n`, NUSE and NGUID (Table 12.4b). -/
def namespaceData (n : Namespace) (use : Nat) (nguid : List Byte) : List Byte :=
  layout 4096
    [(0, leBytes 8 n.nsze), (8, leBytes 8 n.nsze), (16, leBytes 8 use), (24, leBytes 1 0x13), (25, leBytes 1 2), (26, leBytes 1 n.flbas),
     (27, leBytes 1 0x03), (28, leBytes 1 0x1F), (29, leBytes 1 n.dps), (30, leBytes 1 n.nmic), (31, leBytes 1 0x7F), (33, leBytes 1 0x09),
     (34, leBytes 2 15), (36, leBytes 2 15), (40, leBytes 2 15), (42, leBytes 2 0), (44, leBytes 2 15), (64, leBytes 2 15),
     (66, leBytes 2 15), (68, leBytes 2 15), (70, leBytes 2 15), (72, leBytes 2 511), (104, nguid), (128, lbaFormats)]

/-- NGUID: DeviceInstance and the creation count. -/
def nguidOf (slot : Nat) (d : Device) : List Byte := leBytes 8 d.media.sb.instance_ ++ leBytes 8 (namespace_ slot d).creation

/-- Identify Namespace of a slot. -/
def identifySlot (slot : Nat) (d : Device) : List Byte := namespaceData (namespace_ slot d) (namespaceUse slot d) (nguidOf slot d)

/-- A list of at most 1,024 NSIDs above the one given. -/
def nsidList (above : Nat) (pick : Nat → Bool) : List Byte :=
  layout 4096 [(0, (((List.range 1024).filter fun s => decide (above < s + 1) && pick s).map fun s => leBytes 4 (s + 1)).flatten)]

/-- A controller list of the IDs from `from_` on. -/
def controllerList (from_ : Nat) (ps : List Nat) : List Byte :=
  let ids := (ps.map (· + 1)).filter fun i => decide (from_ ≤ i)
  layout 4096 [(0, leBytes 2 ids.length ++ (ids.map (leBytes 2)).flatten)]

/-- The ports whose controllers are present. -/
def controllersPresent (d : Device) : List Nat := List.range (portCount d)

/-- A data structure that Identify returns, or the status it fails with. -/
def identifyPage (c : HostCmd) (cns cntid csi : Nat) (d : Device) : Except (Nat × Nat) (List Byte) :=
  let p := c.port.val
  let slot := c.nsid - 1
  let inRange := decide (1 ≤ c.nsid && c.nsid ≤ 1024)
  let active := inRange && (namespace_ slot d).active
  if d.ctl.mode = .m2 && cns != 0x01 then .error (0x0, 0x02)
  else match cns with
  | 0x00 =>
    if c.nsid = 0xFFFFFFFF then .ok (namespaceData {} 0 [])
    else if !inRange then .error (0x0, 0x0B)
    else if attachedTo p slot d then .ok (identifySlot slot d) else .ok (zeroBytes 4096)
  | 0x01 => .ok (identifyController p d)
  | 0x02 => .ok (nsidList c.nsid fun s => attachedTo p s d)
  | 0x03 =>
    if !active then .error (0x0, 0x0B)
    else .ok (layout 4096 [(0, leBytes 4 0x1002 ++ nguidOf slot d ++ leBytes 4 0x0104 ++ leBytes 1 0)])
  | 0x05 =>
    if csi != 0 then .error (0x0, 0x02)
    else if !active then .ok (zeroBytes 4096) else .ok (layout 4096 [(20, leBytes 4 (2 * 128))])
  | 0x06 => if csi != 0 then .error (0x0, 0x02) else .ok (layout 4096 [(0, leBytes 1 9), (1, leBytes 1 0), (3, leBytes 1 256)])
  | 0x10 => .ok (nsidList c.nsid fun s => (namespace_ s d).active)
  | 0x11 => if !inRange then .error (0x0, 0x0B) else if active then .ok (identifySlot slot d) else .ok (zeroBytes 4096)
  | 0x12 => if !active then .error (0x0, 0x0B)
    else .ok (controllerList cntid ((controllersPresent d).filter fun q => bitOf (namespace_ slot d).attached q))
  | 0x13 => .ok (controllerList cntid (controllersPresent d))
  | 0x1C => .ok (layout 4096 [(0, leBytes 8 1)])
  | _ => .error (0x0, 0x02)

/-- IDENTIFY (R368, R369, R595). -/
def identifyBody (c : HostCmd) (cns cntid csi : Nat) (d : Device) : Device :=
  if c.reserved then invalidField c d
  else match identifyPage c cns cntid csi d with
    | .ok bs => succeed c 0 0 bs d
    | .error (sct, sc) => failCmd c sct sc d

/-- IDENTIFY (R368). -/
def execIdentify (cmd : HostCmd) (cns cntid csi : Nat) (s : State) : Host.Outcome State Fault Refusal :=
  runDev (adminCommand (.identify cmd cns cntid csi) cmd .always (identifyBody cmd cns cntid csi)) s

/-! ### Health (R271, R384) -/

/-- Percentage Used (R271): of the profile entry with the largest share of its rated cycles. -/
def percentageUsed (d : Device) : Nat :=
  let share (i : Nat) : Nat :=
    let banks := (List.range 16).filter fun b => bankInService b d && getObj (Obj.channelProfileEntry (b * 8)) d == i
    let inBanks (n : Nat) : Bool := banks.contains (n / 256)
    let rated := (smGet {} d.media.profile i).ratedCycles
    let good := d.media.blocks.filter fun e => inBanks (e.1 / 16384) && e.2.state != 4 && e.2.state != 5
      && !(smGet {} d.media.dies (e.1 / 16384)).failed
    let listed := (good.map fun e => eraseCount e.1 e.2 d).sum
    let others := ((d.media.dies.filter fun x => inBanks x.1 && !x.2.failed).map fun x =>
      x.2.sweeps * (16384 - (d.media.blocks.filter fun e => e.1 / 16384 = x.1).length)).sum
    let bad := (d.media.blocks.filter fun e => inBanks (e.1 / 16384) && (e.2.state = 4 || e.2.state = 5)).length
    let count := 256 * 16384 * banks.length - bad
    if count = 0 || rated = 0 then 0 else 100 * (listed + others) / (count * rated)
  min 255 (((d.media.profile.map (·.1)).map share).foldl max 0)

/-- Available Spare (R271). -/
def availableSpare (d : Device) : Nat := 100 - 10000 * (d.media.blocks.filter (·.2.state = 5)).length / (7 * 67108864)

/-- The temperature that a TMPSEL names, in K: composite and controller die, or the hottest carrier thermistor. -/
def selectedTemp (sel : Nat) (d : Device) : Nat :=
  if sel = 2 then ((List.range 16).map fun b => kelvinOfByte (getObj (Obj.carrierTemperature b) d)).foldl max 0
  else kelvin d.therm.dieMax

/-- A threshold of the Temperature Threshold feature is crossed. -/
def tempCrossed (d : Device) : Bool :=
  [0, 1, 2].any fun s =>
    let t := selectedTemp s d
    t != 0 && (decide (smGet 368 d.sub.tempOver s ≤ t) || decide (t ≤ smGet 0 d.sub.tempUnder s))

/-- Critical Warning (Table 12.10). -/
def criticalWarning (d : Device) : Nat :=
  b2n (decide (availableSpare d < 10)) + 2 * b2n (tempCrossed d)
    + 4 * b2n (d.sub.journalWarning || ((d.media.stripes.any fun e => e.2.exists_ && !e.2.lost.isEmpty
                && decide ((if e.2.parity = 2 then 2 else 1) < e.2.lost.length)) && !d.media.rc.lostLog.isEmpty))
    + 8 * b2n d.settings.lost + 16 * b2n (getObj Obj.holdUpState d != 0x02)

/-- Thousands of 512-byte units, rounded up. -/
def dataUnits (n : Nat) : Nat := (n + 999) / 1000

/-- The SMART / Health Information page (Table 12.10). -/
def smartPage (d : Device) : List Byte :=
  let u := d.sub
  layout 512
    [(0, leBytes 1 (criticalWarning d)), (1, leBytes 2 (kelvin d.therm.dieMax)), (3, leBytes 1 (availableSpare d)), (4, leBytes 1 10),
     (5, leBytes 1 (percentageUsed d)), (32, leBytes 16 (dataUnits u.dataRead)), (48, leBytes 16 (dataUnits u.dataWritten)),
     (64, leBytes 16 u.readCmds), (80, leBytes 16 u.writeCmds), (96, leBytes 16 (u.busyMs / 60000)),
     (112, leBytes 16 (getObj Obj.powerCycleCount d)), (128, leBytes 16 (hours d / 16)), (144, leBytes 16 d.ctl.unsafeShutdowns),
     (160, leBytes 16 (getObj Obj.grainsUnrecovered d + getObj Obj.lostGrainReads d)),
     (176, leBytes 16 ((List.range 4).map fun p => (port p d).errorCount).sum), (192, leBytes 4 (u.warnTempMs / 60000)),
     (196, leBytes 4 (u.critTempMs / 60000)), (200, leBytes 2 (kelvin d.therm.dieMax)), (202, leBytes 2 (selectedTemp 2 d))]

/-! ### Other pages -/

/-- Supported Log Pages (Table 12.9). -/
def supportedPages : List Byte :=
  layout 1024 ([0x00, 0x01, 0x02, 0x03, 0x04, 0x05, 0x07, 0x08, 0x80, 0x81, 0xC0, 0xC1, 0xC2].map fun l => (4 * l, leBytes 4 1))

/-- An Error Information entry. -/
def errorBytes (e : ErrEntry) : List Byte :=
  layout 64 [(0, leBytes 8 e.count), (8, leBytes 2 e.sqid), (10, leBytes 2 e.cid),
    (12, leBytes 2 (2 * e.sc + 512 * e.sct + 32768 * b2n e.dnr)), (14, leBytes 2 e.pel), (16, leBytes 8 e.lba), (24, leBytes 4 e.nsid)]

/-- The Error Information page of a port. -/
def errorPage (p : Nat) (d : Device) : List Byte := layout 4096 [(0, ((port p d).errors.map errorBytes).flatten)]

/-- The Firmware Slot Information page. -/
def firmwarePage (d : Device) : List Byte :=
  let rev (s : Nat) : List Byte := if slotVersionOf s 1 d = 0 then zeroBytes 8 else revisionText (slotVersionOf s 1 d)
  layout 512 [(0, leBytes 1 (d.cs.running + 16 * d.cs.nextSlot)), (8, rev 1), (16, rev 2)]

/-- The Changed Namespace List page. -/
def changedPage (p : Nat) (d : Device) : List Byte := layout 4096 [(0, (((port p d).changedNs.take 1024).map (leBytes 4)).flatten)]

/-- The Commands Supported and Effects page: supported, and logical block content changes. -/
def effectsPage : List Byte :=
  let admin := [0x00, 0x01, 0x02, 0x04, 0x05, 0x06, 0x08, 0x09, 0x0A, 0x0C, 0x0D, 0x10, 0x11, 0x15, 0x18, 0x80, 0x84, 0xC1, 0xC2, 0xC4, 0xC5]
  let io := [0x00, 0x01, 0x02, 0x08, 0x09, 0x0C, 0x0D, 0x0E, 0x11, 0x15]
  layout 4096
    ((admin.map fun o => (4 * o, leBytes 4 (1 + 2 * b2n (o == 0x80 || o == 0x84))))
      ++ io.map fun o => (1024 + 4 * o, leBytes 4 (1 + 2 * b2n (o == 0x01 || o == 0x08 || o == 0x09))))

/-- The Reservation Notification page: the oldest notice. -/
def reservationPage (p : Nat) (d : Device) : List Byte :=
  match (port p d).resNotices with
  | [] => zeroBytes 64
  | (n, typ, nsid) :: rest => layout 64 [(0, leBytes 8 n), (8, leBytes 1 typ), (9, leBytes 1 (min 255 rest.length)), (12, leBytes 4 nsid)]

/-- The Sanitize Status page; the progress of a running Sanitize is a free value. -/
def sanitizePage (d : Device) : List Byte :=
  let r := d.sec.san
  let running := r.action != 0 && !r.failed && !r.complete
  let status := if r.failed then 3 else if r.complete then 1 else if running then 2 else 0
  let none_ := 0xFFFFFFFF
  layout 512
    [(0, leBytes 2 (if running then Config.freeNat d.free % 65536 else 65535)), (2, leBytes 2 (status + 256 * b2n (!d.sub.written))),
     (4, leBytes 4 (r.action + 8 * b2n r.ause)), (8, leBytes 4 none_), (12, leBytes 4 (r.estimate.getD ((eraseEstimate d).getD none_))),
     (16, leBytes 4 120), (20, leBytes 4 none_), (24, leBytes 4 none_), (28, leBytes 4 none_)]

/-- A lost-range entry (Table 10.2). -/
def lostRangeBytes (e : LostRange) : List Byte :=
  leBytes 2 e.slot ++ leBytes 1 e.cause ++ leBytes 1 0 ++ leBytes 5 e.first ++ leBytes 5 e.count ++ leBytes 2 0 ++ leBytes 8 e.stripe
    ++ leBytes 4 e.hours ++ leBytes 3 e.cycle ++ leBytes 1 0

/-- The Lost-Range List page for the slots that `pick` selects (Table 12.11). -/
def lostRangePage (pick : Nat → Bool) (d : Device) : List Byte :=
  let rc := d.media.rc
  let es := rc.lostLog.filter fun e => pick e.slot
  leBytes 8 es.length ++ leBytes 8 (getObj Obj.lostRangeDropped d) ++ leBytes 8 (rc.lostFirst + rc.lostLog.length - 1) ++ zeroBytes 40
    ++ (es.map lostRangeBytes).flatten

/-- The Carrier Status page (Table 12.11). -/
def carrierPage (d : Device) : List Byte :=
  let head := leBytes 2 (banksMask d) ++ leBytes 2 (scalarValue Obj.banksExpected d) ++ leBytes 1 (restripeStateOf d) ++ zeroBytes 3
    ++ leBytes 8 (restripeLeft d) ++ leBytes 2 (restripeProgress d) ++ zeroBytes 46
  let bank (b : Nat) : List Byte :=
    leBytes 1 (carrierState b d) ++ leBytes 1 (carrierSignals b d) ++ leBytes 1 (getObj (Obj.carrierFaultCount b) d) ++ zeroBytes 1
      ++ leBytes 2 (carrierDies b d) ++ leBytes 2 (kelvinOfByte (getObj (Obj.carrierTemperature b) d))
      ++ leBytes 4 (getObj (Obj.carrierJoinHours b) d) ++ leBytes 8 (getObj (Obj.carrierLastGeneration b) d) ++ zeroBytes 44
  head ++ ((List.range 16).map bank).flatten

/-- The Capacity Efficiency page (Table 12.11). -/
def efficiencyPage (d : Device) : List Byte :=
  let head := leBytes 2 (getObj Obj.deviceEtaMedian d) ++ leBytes 2 (getObj Obj.deviceEtaMin d) ++ leBytes 2 (getObj Obj.deviceCodeRateMean d)
    ++ leBytes 2 (getObj Obj.deviceCapacityMedian d) ++ ((List.range 8).map fun s => leBytes 4 (getObj (Obj.blocksAtStep (s + 1)) d)).flatten
    ++ leBytes 4 d.media.rc.etaHours ++ zeroBytes 20
  let one (n : Nat) : List Byte :=
    leBytes 2 (getObj (dieKey 0x8300 n) d) ++ leBytes 2 (getObj (dieKey 0x8320 n) d) ++ leBytes 2 (wearSlope n d) ++ zeroBytes 2
  head ++ ((List.range 4096).map one).flatten

/-! ### Telemetry (R385, R572) -/

/-- The header of a telemetry page; Data Area 3's last block does not fit its field, which holds the low 16 bits. -/
def telemetryHeader (lid : Nat) (d : Device) : List Byte :=
  layout 512 [(0, leBytes 1 lid), (5, leBytes 3 d.cs.oa.inUse.oui), (8, leBytes 2 8), (10, leBytes 2 520), (12, leBytes 2 (131592 % 65536)),
    (381, leBytes 1 d.sub.telemetryHostGen), (382, leBytes 1 (b2n d.sub.telemetryAvailable)), (383, leBytes 1 d.sub.telemetryGen)]

/-- The newest persisted record whose sequence is congruent to `s` modulo 1,048,576. -/
def areaRecord (s : Nat) (d : Device) : List Byte :=
  match (flashRecords d).reverse.find? fun r => r.seq % 1048576 = s with | some r => recordBytes r | none => zeroBytes 64

/-- Byte `i` of a telemetry page: the header, Area 1 with the free contents of its capture, Area 2 and Area 3. -/
def telemetryByte (cap : Option (Nat × List LogRecord)) (header : List Byte) (i : Nat) (d : Device) : Byte :=
  if i < 512 then (header[i]?).getD 0
  else if i < 512 * 9 then match cap with | some (n, _) => Config.freeByte (n * 4096 + (i - 512)) | none => 0
  else if i < 512 * 521 then
    match cap with
    | some (_, rs) => match rs[(i - 512 * 9) / 64]? with | some r => ((recordBytes r)[(i - 512 * 9) % 64]?).getD 0 | none => 0
    | none => 0
  else if i < 512 * 131593 then ((areaRecord ((i - 512 * 521) / 64) d)[(i - 512 * 521) % 64]?).getD 0
  else 0

/-- Create Telemetry Host-Initiated Data captures Areas 1 and 2. -/
def captureHost (d : Device) : Device :=
  { d with free := d.free + 1
           sub := { d.sub with telemetryHost := some (d.free, ringRecords d), telemetryHostGen := (d.sub.telemetryHostGen + 1) % 256 } }

/-! ### Get Log Page (R383) -/

/-- A page by its identifier and its length in bytes; none where a page is not one of Table 12.9. -/
def logPage (c : HostCmd) (lid : Nat) (d : Device) : Option (Nat × (Nat → Byte)) :=
  let p := c.port.val
  let whole (bs : List Byte) : Option (Nat × (Nat → Byte)) := some (bs.length, fun i => (bs[i]?).getD 0)
  if d.ctl.mode = .m2 && lid != 0x01 && lid != 0x03 then none
  else match lid with
  | 0x00 => whole supportedPages
  | 0x01 => whole (errorPage p d)
  | 0x02 => whole (smartPage d)
  | 0x03 => whole (firmwarePage d)
  | 0x04 => whole (changedPage p d)
  | 0x05 => whole effectsPage
  | 0x07 => let h := telemetryHeader lid d; some (512 * 131593, fun i => telemetryByte d.sub.telemetryHost h i d)
  | 0x08 => let h := telemetryHeader lid d; some (512 * 131593, fun i => telemetryByte d.sub.telemetry h i d)
  | 0x80 => whole (reservationPage p d)
  | 0x81 => whole (sanitizePage d)
  | 0xC0 => whole (port p d).lostCapture
  | 0xC1 => whole (carrierPage d)
  | 0xC2 => whole (efficiencyPage d)
  | _ => none

/-- What the fetch of a page does before it is read: Create captures telemetry, and offset 0 captures the Lost-Range List (R385, R386). -/
def beforePage (c : HostCmd) (lid offset : Nat) (create : Bool) (d : Device) : Device :=
  let p := c.port.val
  if lid = 0x07 && create then captureHost d
  else if lid = 0xC0 && offset = 0 then
    let pick (s : Nat) : Bool := if c.nsid = 0xFFFFFFFF then attachedTo p s d else s = c.nsid - 1
    updPort p (fun t => { t with lostCapture := lostRangePage pick d }) d
  else d

/-- What reading a page does: unless events are retained, its event type is unmasked and its waiting events are gone; lists that are read
are emptied, the oldest reservation notice goes, the controller's telemetry is no longer waiting. -/
def afterPage (p lid : Nat) (retain : Bool) (d : Device) : Device :=
  let d := if lid = 0x81 then { d with free := d.free + 1 } else d
  let d := if retain then d
    else
      let d := updPort p (fun t => { t with eventsMasked := t.eventsMasked.filter (fun m => m / 256 != lid)
                                            events := t.events.filter (fun e => e.page != lid) }) d
      if lid = 0x08 then { d with sub := { d.sub with telemetryAvailable := false } } else d
  if lid = 0x04 then updPort p (fun t => { t with changedNs := [] }) d
  else if lid = 0x80 then updPort p (fun t => { t with resNotices := t.resNotices.drop 1 }) d
  else d

/-- GET_LOG_PAGE (R383 to R386, R595). -/
def logPageBody (c : HostCmd) (lid offset bytes : Nat) (retain create : Bool) (d : Device) : Device :=
  let p := c.port.val
  if c.reserved then invalidField c d
  else if lid = 0x02 && c.nsid != 0 && c.nsid != 0xFFFFFFFF then invalidField c d
  else if lid = 0xC0 && d.ctl.mode != .m2 && c.nsid != 0xFFFFFFFF && !nsidValid c d then failField c 0x0 0x0B 4 d
  else
    let e := beforePage c lid offset create d
    match logPage c lid e with
    | none => failCmd c 0x1 0x09 d
    | some (n, at_) =>
      if n < offset || offset % 4 != 0 then invalidField c d
      else
        let data := (List.range bytes).map fun i => if offset + i < n then at_ (offset + i) else 0
        succeed c 0 0 data (afterPage p lid retain e)

/-- GET_LOG_PAGE (R383). -/
def execGetLogPage (cmd : HostCmd) (lid offset bytes : Nat) (retain create : Bool) (s : State) : Host.Outcome State Fault Refusal :=
  runDev (adminCommand (.getLogPage cmd lid offset bytes retain create) cmd .always (logPageBody cmd lid offset bytes retain create)) s

end Sys2Proof.Machine
end

