-- ==== Sys2Proof/Machine/Nvme.lean ====
section
/-! DEFINITION. The NVMe controllers: enable, shutdown, doorbells, queues, features, events, namespaces, Format, dictionary commands and
reservations (spec/12). -/
namespace Sys2Proof.Machine

/-! ### Controller registers (R356 to R358, R48, R49) -/

/-- CSTS.RDY of an enabled controller (R38, Table 2.5). -/
def readyMode (d : Device) : Bool :=
  match d.ctl.mode with
  | .m2 | .m5 | .m6 | .m7 | .m8 | .m9 => true
  | .m4 => d.ctl.dirResident
  | _ => false

/-- CC.EN of a port. -/
def enabled (t : PortState) : Bool := t.cc.getLsbD 0

/-- CC and AQA are accepted (R357): CSS 000b, MPS at most MPSMAX, AMS 000b, no admin queue of size 0. -/
def ccAccepted (cc aqa : Nat) : Bool :=
  cc / 16 % 8 == 0 && decide (cc / 128 % 16 ≤ 4) && cc / 2048 % 8 == 0 && aqa % 4096 != 0 && aqa / 65536 % 4096 != 0

/-- The admin queues as AQA gives them. -/
def withAdminQueues (aqa : Nat) (t : PortState) : PortState :=
  { t with
    asqs := aqa % 4096, acqs := aqa / 65536 % 4096
    sqs := smSet {} 0 { live := true, size := aqa % 4096 + 1 } t.sqs
    cqs := smSet {} 0 { live := true, size := aqa / 65536 % 4096 + 1 } t.cqs }

/-- CONTROLLER_ENABLE (R357): a write of CC.EN from 0 to 1. In M10 RDY stays 0 (R52). -/
def enableController (p cc aqa : Nat) (d : Device) : Device :=
  if !memoryReady p d || enabled (port p d) then d
  else
    let d := updPort p (fun t => { t with cc := BitVec.ofNat 32 (setBit cc 0 true), lastAdminMs := nowMs d }) (leaveL1 p d)
    if ccAccepted cc aqa then
      updPort p (fun t => { withAdminQueues aqa t with
        rdy := readyMode d, entrySizeBad := cc / 65536 % 16 != 6 || cc / 1048576 % 16 != 4 }) d
    else logRec Code.nvmeCcInvalid [p, setBit cc 0 true % 2 ^ 32] (updPort p (fun t => { t with ccBad := true }) d)

/-- CONTROLLER_ENABLE (R357). -/
def execControllerEnable (port : Port) (cc aqa : Nat) (s : State) : Host.Outcome State Fault Refusal :=
  runDev (enableController port.val cc aqa) s

/-- CONTROLLER_DISABLE (R358): a write of CC.EN from 1 to 0. -/
def execControllerDisable (p : Port) (s : State) : Host.Outcome State Fault Refusal :=
  runDev (fun d => onlyIf (memoryReady p.val d && enabled (port p.val d)) (fun d => controllerReset p.val (leaveL1 p.val d)) d) s

/-- The work of R48 and R199 begins: open rows close, and a checkpoint starts unless one runs, which a new one then follows (R168). -/
def shutdownWork (d : Device) : Device := startCheckpoint (closeAllRows (startShutdown d))

/-- The entries submitted and not yet fetched, by submission queue. -/
def queued (t : PortState) : SMap Nat :=
  t.sqs.filterMap fun q => let n := (q.2.tail + q.2.size - q.2.head) % q.2.size; if q.2.live && n != 0 then some (q.1, n) else none

/-- SHUTDOWN_NOTIFICATION (R48, R49, Table 2.8). -/
def notifyShutdown (p : Nat) (d : Device) : Device :=
  if !memoryReady p d then d
  else
    let d := updPort p (fun t => { t with notified := true, shst := 1, before := if t.notified then t.before else queued t }) (leaveL1 p d)
    match d.ctl.mode with
    | .m2 => if d.cs.jobs.isEmpty then setShst p 2 d else d
    | .m3 | .m10 => setShst p 2 d
    | .m4 | .m8 => updPort p (fun t => { t with shutWaiting := true }) d
    | .m5 | .m6 =>
      if higherDue d then updPort p (fun t => { t with shutWaiting := true }) d else changeMode .m7 (shutdownWork d)
    | .m7 => if d.sub.shutdownRunning then d else shutdownWork d
    | .m9 => startShutdown d
    | _ => d

/-- SHUTDOWN_NOTIFICATION (R48). -/
def execShutdownNotification (port : Port) (s : State) : Host.Outcome State Fault Refusal := runDev (notifyShutdown port.val) s

/-- The work of R48 is done: the buffer, passes, parity and a checkpoint are on the medium. -/
def shutdownDone (d : Device) : Bool :=
  !flushNeeded d && d.media.map.checkpoint.isNone && !d.media.map.checkpointDue
    && !(d.media.wp.writes.any fun w => w.landed && !durable w d)

/-- SHUTDOWN_PROCESSING_COMPLETE (R48, R49): the block table is written and the next wake computed; the device leaves M7 unless an
evacuation resumes. In M9 step 4 of Table 18.6 must have been reached; in M2 no commit may be in progress. -/
def completeShutdown (d : Device) : Device :=
  let finish (d : Device) : Device := shutdownReported (saveTables { d with sub := { d.sub with shutdownRunning := false } })
  match d.ctl.mode with
  | .m2 => if d.cs.jobs.isEmpty then shutdownReported d else d
  | .m7 =>
    if !(d.sub.shutdownRunning && shutdownDone d) then d
    else
      let d := computeWake (finish { d with media := { d.media with sbDue := true } })
      match d.media.evac with
      | some e => { d with media := { d.media with evac := some { e with pausedShutdown := false } } }
      | none => changeMode (serviceTarget d) d
  | .m9 => if d.sub.shutdownRunning && 4 ≤ d.sec.san.step then finish d else d
  | _ => d

/-- SHUTDOWN_PROCESSING_COMPLETE (R48). -/
def execShutdownProcessingComplete (s : State) : Host.Outcome State Fault Refusal := runDev completeShutdown s

/-! ### Doorbells (R361) -/

/-- An invalid doorbell write is reported, and has no other effect. -/
def badDoorbell (p : Nat) (d : Device) : Device := raiseEvent p { typ := 0, info := 0x01, page := 0x01 } d

/-- SQ_TAIL_DOORBELL (R361). -/
def ringTail (p sq tail : Nat) (d : Device) : Device :=
  let q := smGet {} (port p d).sqs sq
  if !(memoryReady p d && enabled (port p d)) then d
  else if !q.live || q.size ≤ tail then badDoorbell p (leaveL1 p d)
  else updPort p (fun t => { t with sqs := smUpd {} sq (fun q => { q with tail := tail }) t.sqs }) (leaveL1 p d)

/-- SQ_TAIL_DOORBELL (R361). -/
def execSqTailDoorbell (port : Port) (sqid tail : Nat) (s : State) : Host.Outcome State Fault Refusal := runDev (ringTail port.val sqid tail) s

/-- Entries that wait for room in a completion queue are put into it. -/
def refill (cq : Nat) (t : PortState) : PortState :=
  let q := smGet {} t.cqs cq
  let room := q.size - 1 - q.posted.length
  let n := min room q.waiting.length
  if n = 0 then t
  else cqDue cq { t with cqs := smUpd {} cq (fun q =>
    { q with posted := q.posted ++ q.waiting.take n, waiting := q.waiting.drop n, coalesced := q.coalesced + n }) t.cqs }

/-- CQ_HEAD_DOORBELL (R361). -/
def ringHead (p cq head : Nat) (d : Device) : Device :=
  let q := smGet {} (port p d).cqs cq
  let n := (head + q.size - q.head) % q.size
  if !(memoryReady p d && enabled (port p d)) then d
  else if !q.live || q.size ≤ head || q.posted.length < n then badDoorbell p (leaveL1 p d)
  else updPort p (fun t => refill cq { t with cqs := smUpd {} cq (fun q => { q with head := head, posted := q.posted.drop n }) t.cqs })
    (leaveL1 p d)

/-- CQ_HEAD_DOORBELL (R361). -/
def execCqHeadDoorbell (port : Port) (cqid head : Nat) (s : State) : Host.Outcome State Fault Refusal := runDev (ringHead port.val cqid head) s

/-- INTERRUPT_COALESCING_TIME (R370): what has been posted since the last interrupt is signalled. -/
def coalescingEnds (p cq : Nat) (d : Device) : Device :=
  let q := smGet {} (port p d).cqs cq
  if queueDue q && q.coalesced != 0 && coalesces (port p d) q.vector then
    updPort p (fun t => signalVector q.vector { t with cqs := smUpd {} cq (fun q => { q with coalesced := 0 }) t.cqs }) d
  else d

/-- INTERRUPT_COALESCING_TIME (R370). -/
def execInterruptCoalescingTime (port : Port) (cqid : Nat) (s : State) : Host.Outcome State Fault Refusal :=
  runDev (coalescingEnds port.val cqid) s

/-! ### Keep alive (R365) -/

/-- KEEP_ALIVE_EXPIRED (R365). -/
def keepAliveExpires (p : Nat) (d : Device) : Device :=
  let t := port p d
  let kato := (smGet none t.features 0x0F).getD 0
  if !t.rdy || t.cfs || kato = 0 || nowMs d < t.lastAdminMs + kato then d
  else
    let d := updPort p (fun t => { t with cfs := true, held := [], pendingVec := [] }) (dropCommands p d)
    logRec Code.nvmeKeepAliveExpired [p, kato] (incObj (Obj.keepAliveExpiries p) d)

/-- KEEP_ALIVE_EXPIRED (R365). -/
def execKeepAliveExpired (port : Port) (s : State) : Host.Outcome State Fault Refusal := runDev (keepAliveExpires port.val) s

/-- KEEP_ALIVE (R365): its fetch has restarted the time. -/
def keepAliveBody (c : HostCmd) (d : Device) : Device := if c.reserved then invalidField c d else succeed c 0 0 [] d

/-- KEEP_ALIVE (R365). -/
def execKeepAlive (cmd : HostCmd) (s : State) : Host.Outcome State Fault Refusal :=
  runDev (adminCommand (.keepAlive cmd) cmd .always (keepAliveBody cmd)) s

/-! ### Queues (R359) -/

/-- The checks of Table 12.2 that both kinds of creation share; `taken` tells whether the Queue ID is in use. -/
def queueChecks (c : HostCmd) (qid size : Nat) (taken contiguous : Bool) (ok : Device → Device) (d : Device) : Device :=
  if c.reserved then invalidField c d
  else if (port c.port.val d).entrySizeBad then failField c 0x1 0x02 42 d
  else if qid = 0 || 255 < qid || taken then failField c 0x1 0x01 40 d
  else if size = 0 || 4095 < size then failField c 0x1 0x02 42 d
  else if !contiguous then failField c 0x0 0x02 44 d
  else ok d

/-- CREATE_IO_SQ (R359). -/
def createSq (c : HostCmd) (qid size cqid : Nat) (contiguous : Bool) (d : Device) : Device :=
  let p := c.port.val
  queueChecks c qid size (smGet {} (port p d).sqs qid).live contiguous (fun d =>
    if cqid = 0 || !(smGet {} (port p d).cqs cqid).live then failField c 0x1 0x00 46 d
    else succeed c 0 0 [] (updPort p (fun t =>
      { t with sqs := smSet {} qid { live := true, size := size + 1, cqid := cqid } t.sqs }) d)) d

/-- CREATE_IO_SQ (R359). -/
def execCreateIoSq (cmd : HostCmd) (qid size cqid : Nat) (contiguous : Bool) (s : State) : Host.Outcome State Fault Refusal :=
  runDev (adminCommand (.createIoSq cmd qid size cqid contiguous) cmd .other (createSq cmd qid size cqid contiguous)) s

/-- CREATE_IO_CQ (R332, R359). -/
def createCq (c : HostCmd) (qid size vector : Nat) (contiguous interrupts : Bool) (d : Device) : Device :=
  let p := c.port.val
  queueChecks c qid size (smGet {} (port p d).cqs qid).live contiguous (fun d =>
    if 256 < vector then failField c 0x1 0x08 46 d
    else succeed c 0 0 [] (updPort p (fun t =>
      { t with cqs := smSet {} qid { live := true, size := size + 1, vector := vector, ien := interrupts } t.cqs }) d)) d

/-- CREATE_IO_CQ (R359). -/
def execCreateIoCq (cmd : HostCmd) (qid size vector : Nat) (contiguous interrupts : Bool) (s : State) : Host.Outcome State Fault Refusal :=
  runDev (adminCommand (.createIoCq cmd qid size vector contiguous interrupts) cmd .other (createCq cmd qid size vector contiguous interrupts)) s

/-- DELETE_IO_SQ: commands fetched from it complete to its completion queue. -/
def deleteSq (c : HostCmd) (qid : Nat) (d : Device) : Device :=
  let p := c.port.val
  if c.reserved then invalidField c d
  else if qid = 0 || !(smGet {} (port p d).sqs qid).live then failField c 0x1 0x01 40 d
  else succeed c 0 0 [] (updPort p (fun t =>
    { t with sqs := smUpd {} qid (fun (q : SubQueue) => { cqid := q.cqid }) t.sqs }) d)

/-- DELETE_IO_SQ (R359). -/
def execDeleteIoSq (cmd : HostCmd) (qid : Nat) (s : State) : Host.Outcome State Fault Refusal :=
  runDev (adminCommand (.deleteIoSq cmd qid) cmd .other (deleteSq cmd qid)) s

/-- DELETE_IO_CQ: not while a submission queue still uses it. -/
def deleteCq (c : HostCmd) (qid : Nat) (d : Device) : Device :=
  let p := c.port.val
  if c.reserved then invalidField c d
  else if qid = 0 || !(smGet {} (port p d).cqs qid).live then failField c 0x1 0x01 40 d
  else if (port p d).sqs.any fun q => q.2.live && q.2.cqid == qid then failField c 0x1 0x0C 40 d
  else succeed c 0 0 [] (updPort p (fun t => { t with cqs := smSet {} qid {} t.cqs }) d)

/-- DELETE_IO_CQ (R359). -/
def execDeleteIoCq (cmd : HostCmd) (qid : Nat) (s : State) : Host.Outcome State Fault Refusal :=
  runDev (adminCommand (.deleteIoCq cmd qid) cmd .other (deleteCq cmd qid)) s

/-! ### Abort, events, unknown opcodes (R362, R364, R387) -/

/-- A waiting command is the one that an Abort names. -/
def abortTarget (p sqid cid : Nat) (i : Instr) : Bool :=
  match hostOf i with | some c => c.port.val == p && c.sqid == sqid && c.cid == cid | none => false

/-- ABORT (R364): a command that is held in M8 or waits for pool D is aborted. -/
def abortBody (c : HostCmd) (sqid cid : Nat) (d : Device) : Device :=
  let p := c.port.val
  let hit := abortTarget p sqid cid
  if c.reserved then invalidField c d
  else match ((d.held ++ d.delayed).find? hit).bind hostOf with
    | some x =>
      let d := { d with held := d.held.filter (fun i => !hit i), delayed := d.delayed.filter (fun i => !hit i) }
      succeed c 0 0 [] (failCmd x 0x0 0x07 d)
    | none => succeed c 1 0 [] d

/-- ABORT (R364). -/
def execAbort (cmd : HostCmd) (sqid cid : Nat) (s : State) : Host.Outcome State Fault Refusal :=
  runDev (adminCommand (.abort cmd sqid cid) cmd .always (abortBody cmd sqid cid)) s

/-- ASYNC_EVENT_REQUEST (R387): at most 8 outstanding; a waiting event completes it at once. -/
def asyncBody (c : HostCmd) (d : Device) : Device :=
  let p := c.port.val
  let t := port p d
  if c.reserved then invalidField c d
  else if 8 ≤ t.aers.length then failCmd c 0x1 0x05 d
  else match t.events.find? fun e => !(t.eventsMasked.any fun m => m % 256 == e.typ) with
    | some e => raiseEvent p e (updPort p (fun t => { t with aers := [c.cid], events := t.events.filter (· != e) }) d)
    | none => updPort p (fun t => { t with aers := t.aers ++ [c.cid] }) d

/-- ASYNC_EVENT_REQUEST (R387). -/
def execAsyncEventRequest (cmd : HostCmd) (s : State) : Host.Outcome State Fault Refusal :=
  runDev (adminCommand (.asyncEventRequest cmd) cmd .always (asyncBody cmd)) s

/-- INVALID_COMMAND_OPCODE (R362): on an I/O queue M8 holds the command and M9 refuses it first (R363); an admin one fails in M9 likewise. -/
def invalidOpcode (c : HostCmd) (d : Device) : Device :=
  let bad := failCmd c 0x0 0x01
  if c.sqid = 0 then adminCommand (.invalidCommandOpcode c) c .other bad d
  else ioCommand (.invalidCommandOpcode c) c bad d

/-- INVALID_COMMAND_OPCODE (R362). -/
def execInvalidCommandOpcode (cmd : HostCmd) (s : State) : Host.Outcome State Fault Refusal := runDev (invalidOpcode cmd) s

/-! ### Features (R370) -/

/-- The features of Table 12.5. -/
def featureIds : List Nat := [0x01, 0x02, 0x04, 0x05, 0x06, 0x07, 0x08, 0x09, 0x0A, 0x0B, 0x0E, 0x0F, 0x16, 0x81, 0x82, 0x83]

/-- Namespace-scoped features. -/
def nsFeature (fid : Nat) : Bool := fid == 0x05 || fid == 0x82 || fid == 0x83

/-- What a namespace table record holds of a namespace (Table 12.7a): everything but the features that no record keeps. -/
def tableRecord (n : Namespace) : Namespace := { n with tler := 0, resMask := 0 }

/-- Change a namespace: a record of the namespace table that changes is written anew, and its root with it (R374, R91). -/
def updNs (slot : Nat) (f : Namespace → Namespace) (d : Device) : Device :=
  let n := namespace_ slot d
  let d := { d with sub := { d.sub with namespaces := smUpd {} slot f d.sub.namespaces } }
  if tableRecord (f n) = tableRecord n then d else moveRoot (fun p r => { r with namespaces := p }) d

/-- The slots a namespace-scoped command names: one, or every namespace attached to the controller. -/
def namedSlots (c : HostCmd) (d : Device) : List Nat :=
  if c.nsid = 0xFFFFFFFF then (List.range 1024).filter fun s => attachedTo c.port.val s d else [slotOf c]

/-- Set a controller-scoped feature. -/
def setFeature (p fid v : Nat) (d : Device) : Device := updPort p (fun t => { t with features := smSet none fid (some v) t.features }) d

/-- The controller has a registration. -/
def registered (p : Nat) (d : Device) : Bool := (List.range 1024).any fun s => isRegistrant p s d

/-- The effect of a Set Features: the status it fails with, or the device and Dword 0 (Table 12.5). -/
def setFeatureValue (c : HostCmd) (fid value data : Nat) (d : Device) : Except (Nat × Nat) (Device × Nat) :=
  let p := c.port.val
  let bad : Except (Nat × Nat) (Device × Nat) := .error (0x0, 0x02)
  match fid with
  | 0x02 => if value % 32 != 0 then bad else .ok (d, 0)
  | 0x04 =>
    let sel := value / 65536 % 16
    let th := value / 1048576 % 4
    if 2 < sel || 1 < th then bad
    else if th = 0 then .ok ({ d with sub := { d.sub with tempOver := smSet 368 sel (value % 65536) d.sub.tempOver } }, 0)
    else .ok ({ d with sub := { d.sub with tempUnder := smSet 0 sel (value % 65536) d.sub.tempUnder } }, 0)
  | 0x05 => if bitOf value 16 then bad
    else .ok ((namedSlots c d).foldl (fun d s => updNs s (fun n => { n with tler := value % 65536 }) d) d, 0)
  | 0x07 =>
    if (port p d).queuesSet then .error (0x0, 0x0C)
    else .ok (updPort p (fun t => { t with queuesSet := true }) d, 254 + 65536 * 254)
  | 0x09 =>
    let v := value % 65536
    if 256 < v then bad else .ok (if v = 0 then d else setFeature p (0x0900 + v) (value / 65536 % 2) d, 0)
  | 0x0E => .ok (setWallClock (data % 2 ^ 48) (1 + 16 * p) d, 0)
  | 0x0F => .ok (setFeature p 0x0F ((value + 999) / 1000 * 1000) d, 0)
  | 0x16 => if data % 256 != 1 then bad else .ok (d, 0)
  | 0x81 =>
    if !bitOf value 0 then bad
    else if registered p d then .error (0x0, 0x0C)
    else .ok (updPort p (fun t => { t with hostId := BitVec.ofNat 128 data }) d, 0)
  | 0x82 => .ok ((namedSlots c d).foldl (fun d s => updNs s (fun n => { n with resMask := value % 16 }) d) d, 0)
  | 0x83 => .ok ((namedSlots c d).foldl (fun d s => updNs s (fun n => { n with ptpl := bitOf value 0 }) d) d, 0)
  | _ => .ok (setFeature p fid value d, 0)

/-- SET_FEATURES (R370). -/
def setFeaturesBody (c : HostCmd) (fid : Nat) (save : Bool) (value data : Nat) (d : Device) : Device :=
  if nsFeature fid && c.nsid != 0xFFFFFFFF && !nsidValid c d then failField c 0x0 0x0B 4 d
  else if c.reserved || !featureIds.contains fid then invalidField c d
  else if save then failCmd c 0x1 0x0D d
  else match setFeatureValue c fid value data d with
    | .error (sct, sc) => failCmd c sct sc d
    | .ok (d, dw0) => succeed c dw0 0 [] d

/-- SET_FEATURES (R370). -/
def execSetFeatures (cmd : HostCmd) (fid : Nat) (save : Bool) (value data : Nat) (s : State) : Host.Outcome State Fault Refusal :=
  runDev (adminCommand (.setFeatures cmd fid save value data) cmd .other (setFeaturesBody cmd fid save value data)) s

/-- The default of a feature (Table 12.5). -/
def featureDefault (c : HostCmd) (fid value : Nat) (d : Device) : Nat :=
  match fid with
  | 0x01 => 3
  | 0x04 => if value / 1048576 % 4 = 0 then 368 else 0
  | 0x06 => getObj Obj.vwcDefault d
  | 0x07 => 254 + 65536 * 254
  | 0x09 => value % 65536
  | 0x83 => b2n (namespace_ (slotOf c) d).ptpl
  | _ => 0

/-- The current value of a feature in Dword 0. -/
def featureCurrent (c : HostCmd) (fid value : Nat) (d : Device) : Nat :=
  let t := port c.port.val d
  let sel := value / 65536 % 16
  match fid with
  | 0x04 => if value / 1048576 % 4 = 0 then smGet 368 d.sub.tempOver sel else smGet 0 d.sub.tempUnder sel
  | 0x05 => (namespace_ (slotOf c) d).tler
  | 0x09 => value % 65536 + 65536 * (smGet none t.features (0x0900 + value % 65536)).getD 0
  | 0x82 => (namespace_ (slotOf c) d).resMask
  | 0x83 => b2n (namespace_ (slotOf c) d).ptpl
  | _ => (smGet none t.features fid).getD (featureDefault c fid value d)

/-- The data that Get Features returns: the timestamp with its origin, host behaviour, the host identifier. -/
def featureData (p fid : Nat) (dflt : Bool) (d : Device) : List Byte :=
  match fid with
  | 0x0E =>
    let known := getObj Obj.wallClockSource d != 0
    leBytes 6 (if known then getObj Obj.wallClockMs d else nowMs d - d.ctl.resetMs) ++ leBytes 1 (2 * b2n known) ++ leBytes 1 0
  | 0x16 => leBytes 512 1
  | 0x81 => leBytes 16 (if dflt then 0 else (port p d).hostId.toNat)
  | _ => []

/-- GET_FEATURES (R370): Select 000b current, 001b default, 010b saved, which is the default, 011b capabilities. -/
def getFeaturesBody (c : HostCmd) (fid select value : Nat) (d : Device) : Device :=
  let p := c.port.val
  if nsFeature fid && !nsidValid c d then failField c 0x0 0x0B 4 d
  else if c.reserved || !featureIds.contains fid || 3 < select then invalidField c d
  else if fid = 0x04 && (2 < value / 65536 % 16 || 1 < value / 1048576 % 4) then invalidField c d
  else if fid = 0x09 && 256 < value % 65536 then invalidField c d
  else if select = 3 then succeed c (if nsFeature fid then 6 else 4) 0 [] d
  else if select = 0 then succeed c (featureCurrent c fid value d) 0 (featureData p fid false d) d
  else succeed c (featureDefault c fid value d) 0 (featureData p fid true d) d

/-- GET_FEATURES (R370). -/
def execGetFeatures (cmd : HostCmd) (fid select value : Nat) (s : State) : Host.Outcome State Fault Refusal :=
  runDev (adminCommand (.getFeatures cmd fid select value) cmd .always (getFeaturesBody cmd fid select value)) s

/-! ### Namespaces (R373 to R376, Table 12.6b) -/

/-- The protection settings suit a format: a type of 1 to 3 only on formats 1 and 2. -/
def protectionOk (flbas dps : Nat) : Bool := dps % 8 == 0 || (flbas % 16 != 0 && decide (dps % 8 ≤ 3))

/-- R145: enough free chunks, and at most 3.5 PiB of grains in all namespaces. -/
def roomFor (nsze : Nat) (d : Device) : Bool :=
  decide (chunksOf nsze ≤ chunksFree d)
    && decide (grainsOf nsze + ((slotsInUse d).map fun s => grainsOf (namespace_ s d).nsze).sum ≤ 60129542144)

/-- The lowest free slot (R373). -/
def freeSlot (d : Device) : Nat := (((List.range 1024).filter fun s => !(slotsInUse d).contains s).head?).getD 0

/-- The parity mode that byte 3,072 names. -/
def parityOf (parity : Nat) (d : Device) : Nat := if parity = 0 then getObj Obj.defaultParityMode d else parity

/-- Region reset of a new namespace, whose pages are resident with nothing on the medium. -/
def createRecord (slot nsze flbas dps nmic parity : Nat) (d : Device) : Device :=
  let d := updNs slot (fun _ => { active := true, flbas := flbas, dps := dps, nmic := nmic % 2, parity := parity, nsze := nsze
                                  creation := d.sub.creations + 1 }) { d with sub := { d.sub with creations := d.sub.creations + 1 } }
  let (k, d) := drawKey d
  regionReset slot (pagesOf nsze) (setKeySlot slot k d)

/-- NAMESPACE_CREATE (R373, Table 12.6b): it has no NSID to check. A field at fault lies in the data, which PRP1 names (R382;
notes/assumptions/148.md). -/
def createNamespace (c : HostCmd) (nsze ncap flbas dps nmic parity : Nat) (d : Device) : Device :=
  if c.reserved then invalidField c d
  else if d.settings.lost then failCmd c 0x0 0x20 d
  else if nsze != ncap || nsze = 0 || 2 < parity then failField c 0x0 0x02 24 d
  else if 2 < flbas % 16 || 32 ≤ flbas || !protectionOk flbas dps then failField c 0x1 0x0A 24 d
  else if 1024 ≤ (slotsInUse d).length then failCmd c 0x1 0x16 d
  else if !roomFor nsze d then failCmd c 0x1 0x15 d
  else
    let slot := freeSlot d
    let par := parityOf parity d
    let d := createRecord slot nsze flbas dps nmic par d
    succeed c (slot + 1) 0 [] (logRec Code.namespaceCreated [slot + 1, nsze, par] d)

/-- NAMESPACE_CREATE (R373). -/
def execNamespaceCreate (cmd : HostCmd) (nsze ncap flbas dps nmic parity : Nat) (s : State) : Host.Outcome State Fault Refusal :=
  runDev (adminCommand (.namespaceCreate cmd nsze ncap flbas dps nmic parity) cmd .held (createNamespace cmd nsze ncap flbas dps nmic parity)) s

/-- An NSID is that of an active namespace. -/
def nsActive (c : HostCmd) (d : Device) : Bool := decide (1 ≤ c.nsid && c.nsid ≤ 1024) && (namespace_ (slotOf c) d).active

/-- A Namespace Attribute Changed notice on the controllers of a mask (R375). -/
def noticeChanged (slot mask : Nat) (d : Device) : Device :=
  (List.range 4).foldl (fun d p =>
    if bitOf mask p then
      let d := updPort p (fun t => { t with changedNs := if t.changedNs.contains (slot + 1) then t.changedNs else t.changedNs ++ [slot + 1] }) d
      if (port p d).rdy then raiseEvent p { typ := 2, info := 0x00, page := 0x04 } d else d
    else d) d

/-- A deletion starts: the namespace is inactive for commands fetched from now on (R375). -/
def startDelete (c : HostCmd) (slots : List Nat) (d : Device) : Device :=
  let d := slots.foldl (fun d s =>
    noticeChanged s (namespace_ s d).attached (updNs s (fun n => { n with active := false }) d)) d
  { d with sub := { d.sub with nsJobs := d.sub.nsJobs ++ [{ cmd := c, delete := true, slots := slots }] } }

/-- NAMESPACE_DELETE (R375, R535); NSID FFFFFFFFh names every namespace. -/
def deleteNamespace (c : HostCmd) (d : Device) : Device :=
  let all := (List.range 1024).filter fun s => (namespace_ s d).active
  if c.nsid != 0xFFFFFFFF && !nsActive c d then failField c 0x0 0x0B 4 d
  else if c.reserved then invalidField c d
  else if d.settings.lost then failCmd c 0x0 0x20 d
  else startDelete c (if c.nsid = 0xFFFFFFFF then all else [slotOf c]) d

/-- NAMESPACE_DELETE (R375). -/
def execNamespaceDelete (cmd : HostCmd) (s : State) : Host.Outcome State Fault Refusal :=
  runDev (adminCommand (.namespaceDelete cmd) cmd .held (deleteNamespace cmd)) s

/-- The failure of an attachment or detachment, in the order of Table 12.6b. -/
def attachFault (c : HostCmd) (attach : Bool) (ids : List Nat) (d : Device) : Option (Nat × Nat) :=
  let n := namespace_ (slotOf c) d
  let on (i : Nat) : Bool := decide (1 ≤ i) && bitOf n.attached (i - 1)
  if attach && ids.any on then some (0x1, 0x18)
  else if attach && n.nmic = 0 && (1 < ids.length || n.attached != 0) then some (0x1, 0x19)
  else if !attach && ids.any (fun i => decide (1 ≤ i && i ≤ 4) && !on i) then some (0x1, 0x1A)
  else if ids.isEmpty || ids.any (fun i => i = 0 || 4 < i || portCount d < i) then some (0x1, 0x1C)
  else none

/-- NAMESPACE_ATTACH and NAMESPACE_DETACH (R373, R375). -/
def attachNamespace (c : HostCmd) (attach : Bool) (ids : List Nat) (d : Device) : Device :=
  if !nsActive c d then failField c 0x0 0x0B 4 d
  else if c.reserved then invalidField c d
  else match attachFault c attach ids d with
    | some (sct, sc) => failField c sct sc 24 d
    | none =>
      let slot := slotOf c
      let was := (namespace_ slot d).attached
      let d := updNs slot (fun n => { n with attached := ids.foldl (fun v i => setBit v (i - 1) attach) n.attached }) d
      succeed c 0 0 [] (if attach then d else noticeChanged slot was d)

/-- NAMESPACE_ATTACH (R373). -/
def execNamespaceAttach (cmd : HostCmd) (controllers : List Nat) (s : State) : Host.Outcome State Fault Refusal :=
  runDev (adminCommand (.namespaceAttach cmd controllers) cmd .other (attachNamespace cmd true controllers)) s

/-- NAMESPACE_DETACH (R375). -/
def execNamespaceDetach (cmd : HostCmd) (controllers : List Nat) (s : State) : Host.Outcome State Fault Refusal :=
  runDev (adminCommand (.namespaceDetach cmd controllers) cmd .other (attachNamespace cmd false controllers)) s

/-- FORMAT_NVM (R376, R544): commands fetched from now on fail with Format In Progress. -/
def formatBody (c : HostCmd) (flbas dps ses : Nat) (d : Device) : Device :=
  let slots := namedSlots c d
  if c.nsid != 0xFFFFFFFF && !nsActive c d then failField c 0x0 0x0B 4 d
  else if c.reserved || 2 < ses then invalidField c d
  else if slots.any (fun s => (namespace_ s d).formatting) then failCmd c 0x0 0x84 d
  else if d.settings.lost then failCmd c 0x0 0x20 d
  else
    let go (d : Device) : Device :=
      if 2 < flbas % 16 || !protectionOk flbas dps then failField c 0x1 0x0A 40 d
      else
        let d := slots.foldl (fun d s => updNs s (fun n => { n with formatting := true }) d) d
        { d with sub := { d.sub with nsJobs := d.sub.nsJobs ++ [{ cmd := c, slots := slots, flbas := flbas, dps := dps, ses := ses }] } }
    if ses = 0 then go d else destructive c 0x80 go d

/-- FORMAT_NVM (R376). -/
def execFormatNvm (cmd : HostCmd) (flbas dps ses : Nat) (s : State) : Host.Outcome State Fault Refusal :=
  runDev (adminCommand (.formatNvm cmd flbas dps ses) cmd .held (formatBody cmd flbas dps ses)) s

/-- Commands admitted for a slot are still in flight. -/
def slotBusy (slot : Nat) (d : Device) : Bool :=
  d.media.wp.writes.any (fun w => w.slot == slot) || d.media.wp.reads.any (fun r => r.slot == slot)

/-- Region resets of a job, with a new key where the Format asks for one; the journal sequence they end at (R375, R534). -/
def resetJob (j : NsJob) (d : Device) : Device × NsJob :=
  let rekey := !j.delete && j.ses != 0 && !j.rekeyed
  let d := j.slots.foldl (fun d s => if rekey then replaceKey s d else regionReset s (if j.delete then 0 else pagesOf (namespace_ s d).nsze) d) d
  (d, { j with rekeyed := true, seq := some (getObj Obj.journalSequence d) })

/-- A job whose Region resets are durable ends: a deletion destroys the key and returns the chunks; a Format takes its new format. -/
def endJob (j : NsJob) (d : Device) : Device :=
  let d := j.slots.foldl (fun d s =>
    let n := namespace_ s d
    if j.delete then
      logRec Code.namespaceDeleted [s + 1, chunksOf n.nsze] (updNs s (fun _ => {}) (destroyKey n.keySlot d))
    else
      logRec Code.namespaceFormatted [s + 1, j.flbas, j.ses]
        (noticeChanged s n.attached (updNs s (fun n => { n with formatting := false, flbas := j.flbas, dps := j.dps }) d))) d
  if j.dropped then d else succeed j.cmd 0 0 [] d

/-- The deletions and Formats go on at a control epoch (R375). -/
def stepJobs (d : Device) : Device :=
  let jobs := d.sub.nsJobs
  jobs.foldl (fun d j =>
    match j.seq with
    | none =>
      if j.slots.any (slotBusy · d) || journalFull d then
        let d := if journalFull d then noteJournalFull d else d
        { d with sub := { d.sub with nsJobs := d.sub.nsJobs ++ [j] } }
      else
        let (d, j) := resetJob j d
        { d with sub := { d.sub with nsJobs := d.sub.nsJobs ++ [j] } }
    | some q =>
      if q ≤ d.media.map.persistent then endJob j d
      else { d with sub := { d.sub with nsJobs := d.sub.nsJobs ++ [j] } }) { d with sub := { d.sub with nsJobs := [] } }

/-! ### Dictionary commands (R388, R389) -/

/-- A dictionary request that is refused (R420, R421, Table 12.14). -/
def refusedRequest (c : HostCmd) (sub abort : Nat) (d : Device) : Device :=
  let p := c.port.val + 1
  if abort = Abort.authorisationRequired then failCmd c 0x1 0xC1 d
  else if abort = Abort.pathLockedOut then failWith c 0x1 0xC5 true 0 0 0xFFFF (lockSeconds p d) d
  else failWith c 0x1 0xC0 true 0 0 0xFFFF (abortCode abort sub) d

/-- DICTIONARY_WRITE (R388); a write that would store a setting is held in M8 (R403). -/
def dictionaryWriteBody (i : Instr) (c : HostCmd) (index sub : Nat) (value : List Byte) (out : StoreOutcome) (d : Device) : Device :=
  if c.reserved || value.isEmpty || 4096 < value.length then invalidField c d
  else match writeObject (c.port.val + 1) index sub value out d with
    | (.held, d) => { d with held := d.held ++ [i] }
    | (.aborted e s, d) => refusedRequest c s e (answerPath (c.port.val + 1) (some (abortCode e s)) [] d)
    | (.done, d) => succeed c 0 0 [] (answerPath (c.port.val + 1) none [] d)

/-- DICTIONARY_WRITE (R388). -/
def execDictionaryWrite (cmd : HostCmd) (index sub : Nat) (value : List Byte) (out : StoreOutcome) (s : State) :
    Host.Outcome State Fault Refusal :=
  runDev (adminCommand (.dictionaryWrite cmd index sub value out) cmd .other
    (dictionaryWriteBody (.dictionaryWrite cmd index sub value out) cmd index sub value out)) s

/-- DICTIONARY_READ (R388): a shorter buffer takes the first bytes; Dword 0 holds the full length, the type and the access class. -/
def dictionaryReadBody (c : HostCmd) (index sub bytes : Nat) (d : Device) : Device :=
  if c.reserved || bytes = 0 || 4096 < bytes then invalidField c d
  else
    let path := c.port.val + 1
    let d := meetPairs (objKey index sub) d
    match readObject path index sub d with
    | .error e => refusedRequest c sub e (answerPath path (some (abortCode e sub)) [] d)
    | .ok v =>
      let key := objKey index sub
      readEffect index sub (succeed c (v.length + 65536 * typeOf key + 16777216 * accessByte key) 0 (v.take bytes) (answerPath path none v d))

/-- DICTIONARY_READ (R388). -/
def execDictionaryRead (cmd : HostCmd) (index sub bytes : Nat) (s : State) : Host.Outcome State Fault Refusal :=
  runDev (adminCommand (.dictionaryRead cmd index sub bytes) cmd .always (dictionaryReadBody cmd index sub bytes)) s

/-! ### Reservations (R377 to R379; the NVMe base rules are PRESUMED, notes/assumptions/46.md) -/

/-- A reservation notice to every controller whose host is `h`, unless the namespace masks its type (Table 12.9). -/
def noticeHost (slot typ : Nat) (h : BitVec 128) (d : Device) : Device :=
  if bitOf (namespace_ slot d).resMask typ then d
  else (List.range 4).foldl (fun d p =>
    if (port p d).hostId = h && (port p d).rdy then
      raiseEvent p { typ := 6, info := 0x00, page := 0x80 }
        (updPort p (fun t => { t with resCount := t.resCount + 1, resNotices := t.resNotices ++ [(t.resCount + 1, typ, slot + 1)] }) d)
    else d) d

/-- A notice to each of several hosts. -/
def noticeHosts (slot typ : Nat) (hs : List (BitVec 128)) (d : Device) : Device := hs.foldl (fun d h => noticeHost slot typ h d) d

/-- The checks every reservation command meets: R363, and a host identifier that is not zero. -/
def reservationChecks (c : HostCmd) (ok : Namespace → BitVec 128 → Device → Device) (d : Device) : Device :=
  let n := namespace_ (slotOf c) d
  let h := (port c.port.val d).hostId
  if !nsidValid c d then failField c 0x0 0x0B 4 d
  else if c.reserved then invalidField c d
  else if n.formatting then failCmd c 0x0 0x84 d
  else if h = 0 then failCmd c 0x0 0x0C d
  else ok n h d

/-- The key a host is registered with. -/
def keyOf (n : Namespace) (h : BitVec 128) : Option Nat := (n.registrants.find? (·.hostId == h)).map (·.key)

/-- Every registrant holds the reservation. -/
def allHold (n : Namespace) : Bool := n.resType == 5 || n.resType == 6

/-- A host holds the reservation. -/
def holdsReservation (n : Namespace) (h : BitVec 128) : Bool :=
  if allHold n then n.registrants.any (·.hostId == h) else n.resType != 0 && n.holder == some h

/-- Hosts registered other than one. -/
def otherHosts (n : Namespace) (h : BitVec 128) : List (BitVec 128) := (n.registrants.filter (·.hostId != h)).map (·.hostId)

/-- Take a host's registration away; its reservation is released where no holder is left. -/
def unregister (h : BitVec 128) (n : Namespace) : Namespace :=
  let rest := n.registrants.filter (·.hostId != h)
  let gone := if allHold n then rest.isEmpty else n.holder == some h
  { n with registrants := rest, resType := if gone then 0 else n.resType, holder := if gone then none else n.holder }

/-- RESERVATION_REGISTER: register, unregister, replace. -/
def registerBody (c : HostCmd) (action : Nat) (ignoreKey : Bool) (cptpl current new : Nat) (d : Device) : Device :=
  reservationChecks c (fun n h d =>
    let slot := slotOf c
    let mine := keyOf n h
    let done (d : Device) : Device :=
      succeed c 0 0 [] (updNs slot (fun n => { n with
        prgen := (n.prgen + 1) % 2 ^ 32, ptpl := if cptpl = 2 then false else if cptpl = 3 then true else n.ptpl }) d)
    let join (d : Device) : Device :=
      if 8 ≤ n.registrants.length then failWith c 0x0 0x02 true 0 0 0xFFFF 0 d
      else done (updNs slot (fun n => { n with registrants := n.registrants ++ [{ hostId := h, key := new, ctrl := c.port.val + 1 }] }) d)
    if 2 < action || cptpl = 1 || 3 < cptpl then invalidField c d
    else match action, mine with
      | 0, none => join d
      | 0, some k => if k = new then done d else failCmd c 0x0 0x83 d
      | 1, none => failCmd c 0x0 0x83 d
      | 1, some k =>
        if !ignoreKey && k != current then failCmd c 0x0 0x83 d
        else
          let released := holdsReservation n h && (n.resType = 3 || n.resType = 4)
          let d := done (updNs slot (unregister h) d)
          if released then noticeHosts slot 2 (otherHosts n h) d else d
      | _, none => if ignoreKey then join d else failCmd c 0x0 0x83 d
      | _, some k =>
        if !ignoreKey && k != current then failCmd c 0x0 0x83 d
        else done (updNs slot (fun n => { n with
          registrants := n.registrants.map fun r => if r.hostId = h then { r with key := new } else r }) d)) d

/-- RESERVATION_REGISTER (R377). -/
def execReservationRegister (cmd : HostCmd) (action : Nat) (ignoreKey : Bool) (cptpl current new : Nat) (s : State) :
    Host.Outcome State Fault Refusal :=
  let i : Instr := .reservationRegister cmd action ignoreKey cptpl current new
  runDev (ioCommand i cmd (registerBody cmd action ignoreKey cptpl current new)) s

/-- The Reservation Status structure with 128-bit host identifiers. -/
def reservationStatus (n : Namespace) : List Byte :=
  let one (r : Registrant) : List Byte :=
    layout 64 [(0, leBytes 2 r.ctrl), (2, leBytes 1 (b2n (holdsReservation n r.hostId))), (8, leBytes 8 r.key), (16, leBytes 16 r.hostId.toNat)]
  layout 64 [(0, leBytes 4 n.prgen), (4, leBytes 1 n.resType), (5, leBytes 2 n.registrants.length), (9, leBytes 1 (b2n n.ptpl))]
    ++ (n.registrants.map one).flatten

/-- RESERVATION_REPORT. -/
def reportBody (c : HostCmd) (extended : Bool) (bytes : Nat) (d : Device) : Device :=
  reservationChecks c (fun n _ d =>
    if !extended then failCmd c 0x0 0x1A d
    else
      let page := reservationStatus n
      succeed c 0 0 ((page ++ zeroBytes (bytes - page.length)).take bytes) d) d

/-- RESERVATION_REPORT (R377). -/
def execReservationReport (cmd : HostCmd) (extended : Bool) (bytes : Nat) (s : State) : Host.Outcome State Fault Refusal :=
  let i : Instr := .reservationReport cmd extended bytes
  runDev (ioCommand i cmd (reportBody cmd extended bytes)) s

/-- A host takes a reservation. -/
def takeReservation (rtype : Nat) (h : BitVec 128) (n : Namespace) : Namespace := { n with resType := rtype, holder := some h }

/-- A preempt: the registrations it takes away, and whether the issuer takes the reservation; none where no registrant has the key. -/
def preemptPlan (n : Namespace) (h : BitVec 128) (key : Nat) : Option (List (BitVec 128) × Bool) :=
  let withKey := (n.registrants.filter fun r => r.key == key && r.hostId != h).map (·.hostId)
  if n.resType != 0 && allHold n && key = 0 then some (otherHosts n h, true)
  else
    let holderKey := match n.holder with | some x => keyOf n x | none => none
    if n.resType != 0 && !allHold n && holderKey = some key then some (withKey, true)
    else if n.registrants.any (·.key == key) then some (withKey, false)
    else none

/-- RESERVATION_ACQUIRE: acquire, preempt, preempt and abort. -/
def acquireBody (c : HostCmd) (action : Nat) (ignoreKey : Bool) (rtype current preempt : Nat) (d : Device) : Device :=
  reservationChecks c (fun n h d =>
    let slot := slotOf c
    let keyGood := match keyOf n h with | some k => ignoreKey || k == current | none => false
    if 2 < action || rtype = 0 || 6 < rtype then invalidField c d
    else if !keyGood then failCmd c 0x0 0x83 d
    else if action = 0 then
      if n.resType = 0 then succeed c 0 0 [] (updNs slot (takeReservation rtype h) d)
      else if holdsReservation n h && n.resType = rtype then succeed c 0 0 [] d
      else failCmd c 0x0 0x83 d
    else if preempt = 0 && !(n.resType != 0 && allHold n) then invalidField c d
    else match preemptPlan n h preempt with
      | none => failCmd c 0x0 0x83 d
      | some (lost, take) =>
        let d := updNs slot (fun n =>
          let m := { lost.foldl (fun n x => unregister x n) n with prgen := (n.prgen + 1) % 2 ^ 32 }
          if take then takeReservation rtype h m else m) d
        let d := noticeHosts slot 1 lost d
        let stay := (otherHosts n h).filter fun x => !lost.contains x
        succeed c 0 0 [] (if take && rtype != n.resType then noticeHosts slot 2 stay d else d)) d

/-- RESERVATION_ACQUIRE (R378). -/
def execReservationAcquire (cmd : HostCmd) (action : Nat) (ignoreKey : Bool) (rtype current preempt : Nat) (s : State) :
    Host.Outcome State Fault Refusal :=
  let i : Instr := .reservationAcquire cmd action ignoreKey rtype current preempt
  runDev (ioCommand i cmd (acquireBody cmd action ignoreKey rtype current preempt)) s

/-- RESERVATION_RELEASE: release, clear. -/
def releaseBody (c : HostCmd) (action : Nat) (ignoreKey : Bool) (rtype current : Nat) (d : Device) : Device :=
  reservationChecks c (fun n h d =>
    let slot := slotOf c
    let keyGood := match keyOf n h with | some k => ignoreKey || k == current | none => false
    if 1 < action then invalidField c d
    else if !keyGood then failCmd c 0x0 0x83 d
    else if action = 1 then
      let d := updNs slot (fun n => { n with registrants := [], resType := 0, holder := none, prgen := (n.prgen + 1) % 2 ^ 32 }) d
      succeed c 0 0 [] (noticeHosts slot 3 (otherHosts n h) d)
    else if !holdsReservation n h then succeed c 0 0 [] d
    else if rtype != n.resType then invalidField c d
    else
      let d := updNs slot (fun n => { n with resType := 0, holder := none }) d
      succeed c 0 0 [] (if 3 ≤ n.resType then noticeHosts slot 2 (otherHosts n h) d else d)) d

/-- RESERVATION_RELEASE (R378). -/
def execReservationRelease (cmd : HostCmd) (action : Nat) (ignoreKey : Bool) (rtype current : Nat) (s : State) :
    Host.Outcome State Fault Refusal :=
  let i : Instr := .reservationRelease cmd action ignoreKey rtype current
  runDev (ioCommand i cmd (releaseBody cmd action ignoreKey rtype current)) s

end Sys2Proof.Machine
end

