-- ==== Sys2Proof/Machine/Control.lean ====
section
/-! DEFINITION. Commands that have waited, the end of a hold-up flush, and the inputs that put the device into M1 or M0: PERST#, the power-on
reset and the VSYS reset monitor (spec/02, spec/15 R464, spec/21 R609 to R617). -/
namespace Sys2Proof.Machine

/-! ### Commands that have waited (R50, R403, Table 6.2) -/

/-- An admin command that M8 has held, decided in the mode returned to (R50, R51). -/
def heldAdmin (i : Instr) (c : HostCmd) (k : Device → Device) (d : Device) : Device :=
  if d.ctl.mode = .m8 then { d with held := d.held ++ [i] }
  else if d.ctl.mode = .m9 then failCmd c 0x0 0x1D d
  else k d

/-- Serve a command that was fetched before and has waited: held in M8, or delayed for a pool D context. -/
def serve (i : Instr) (d : Device) : Device :=
  match i with
  | .write c slba nlb fua => modeRows i c (writeBody i c slba nlb fua) d
  | .writeZeroes c slba nlb fua bad => modeRows i c (writeZeroesBody i c slba nlb fua bad) d
  | .datasetManagement c ranges deallocate => modeRows i c (datasetBody i c ranges deallocate) d
  | .flush c => modeRows i c (flushBody c) d
  | .read c slba nlb fua limited fault => modeRows i c (readBody i c slba nlb fua limited fault) d
  | .verify c slba nlb limited => modeRows i c (verifyBody i c slba nlb limited) d
  | .reservationRegister c action ignoreKey cptpl current new => modeRows i c (registerBody c action ignoreKey cptpl current new) d
  | .reservationReport c extended bytes => modeRows i c (reportBody c extended bytes) d
  | .reservationAcquire c action ignoreKey rtype current preempt => modeRows i c (acquireBody c action ignoreKey rtype current preempt) d
  | .reservationRelease c action ignoreKey rtype current => modeRows i c (releaseBody c action ignoreKey rtype current) d
  | .invalidCommandOpcode c => modeRows i c (failCmd c 0x0 0x01) d
  | .firmwareCommitReplace c slot => heldAdmin i c (commitBody c 0 slot) d
  | .firmwareCommitActivate c slot => heldAdmin i c (commitBody c 1 slot) d
  | .firmwareCommitSelect c slot => heldAdmin i c (commitBody c 2 slot) d
  | .firmwareCommitImmediate c slot => heldAdmin i c (commitBody c 3 slot) d
  | .namespaceCreate c nsze ncap flbas dps nmic parity => heldAdmin i c (createNamespace c nsze ncap flbas dps nmic parity) d
  | .namespaceDelete c => heldAdmin i c (deleteNamespace c) d
  | .formatNvm c flbas dps ses => heldAdmin i c (formatBody c flbas dps ses) d
  | .sanitizeBlockErase c ause => heldAdmin i c (sanitizeBody c 2 ause) d
  | .sanitizeCryptoErase c ause => heldAdmin i c (sanitizeBody c 4 ause) d
  | .sanitizeExitFailure c => heldAdmin i c (exitFailureBody c) d
  | .sanitizeOverwrite c => heldAdmin i c (overwriteBody c) d
  | .dictionaryWrite c index sub value out => heldAdmin i c (dictionaryWriteBody i c index sub value out) d
  | .objectWrite path index sub value out => writeRequest i path index sub value out d
  | .groupCommit path index out => groupRequest i path index 1 out d
  | .settingsRestoreDefaults path value out => writeValue i path Obj.settingsRestoreDefaults value out d
  | .tokenPoolSizeWrite path value out => writeValue i path Obj.tokenPoolSize value out d
  | .supplyWarningLevelWrite path value out => writeValue i path Obj.supplyWarningMv value out d
  | .canWrite req value out => canServeWrite i req (value.take req.length) out d
  | .canSegment _ _ _ _ value out => match d.can.trans with
    | some t => canServeWrite i t.request value out d
    | none => d
  | _ => d

/-- Serve every command that M8 has held, in order of submission (R50). -/
def serveHeld (d : Device) : Device := d.held.foldl (fun d i => serve i d) { d with held := [] }

/-- The commands of a port that wait for a pool D context are tried again, in order (Table 6.2). -/
def rerunDelayed (p : Nat) (d : Device) : Device :=
  if dataMode d.ctl.mode && !d.ctl.fetchStopped && !poolWaits (p + 1) 2 d && grantOk 2 (p + 1) 1 d then
    (d.delayed.filter (ofPort p)).foldl (fun d i => serve i d) { d with delayed := d.delayed.filter fun i => !ofPort p i }
  else d

/-- A retry of a pool's owner; a port's delayed commands go on with its pool D context (R493, Table 6.2). -/
def retryPool (owner pool : Nat) (d : Device) : Device :=
  let d := retryBuffer owner pool d
  if pool = 2 && 1 ≤ owner && owner ≤ 4 then rerunDelayed (owner - 1) d else d

/-- POOL_RETRY (R493). -/
def execPoolRetry (owner pool : Nat) (s : State) : Host.Outcome State Fault Refusal := runDev (retryPool owner pool) s

/-! ### The end of a hold-up flush and the return from M8 (R42, R464, R465) -/

/-- Notifications that waited in M8 are handled as in the mode returned to (Table 2.8). -/
def waitingNotices (d : Device) : Device :=
  if !notificationWaits d then d
  else match d.ctl.mode with
    | .m5 | .m6 => changeMode .m7 (shutdownWork d)
    | .m7 => if d.sub.shutdownRunning then
        (List.range 4).foldl (fun d p => updPort p (fun t => { t with shutWaiting := false }) d) d
      else shutdownWork d
    | .m9 => startShutdown d
    | _ => d

/-- The return from M8 to the previous mode: SAG_RECOVERED, the recharge of R465, and what has waited (R50, R314, R49). -/
def returnMode (d : Device) : Device :=
  let ms := nowMs d - d.ctl.flushStartMs
  let ctl := { d.ctl with qualifying := false, qualified := false, bufferHold := true, recharging := true }
  let d := changeMode d.ctl.flushFrom { d with ctl := ctl, holdup := { d.holdup with recharge := true } }
  let d := logRec Code.sagRecovered [ms, getObj Obj.vsysMinMv d] (incObj Obj.sagsRecovered d)
  waitingNotices (serveHeld (handleWaitingCarriers (driveCharge d)))

/-- The end of a hold-up flush: the journal's open frame is on the medium (R163), and every record accepted before (R569). It has not ended
while a grain or a pass is still pending. Transitions that waited for it follow, by priority (R42, R464). -/
def finishFlush (d : Device) : Device :=
  let e := settle (sealAll d)
  let e := if journalBroken e then settle (finishCheckpoint [] (startCheckpoint (finishCheckpoint [] e))) else e
  if !d.ctl.flushing || flushNeeded e then d
  else
    let e := runLogFlush { e with log := { e.log with flushDue := true } }
    let e := { e with ctl := { e.ctl with flushing := false } }
    if e.ctl.dueM11 then enterHalt e
    else if e.ctl.dueM10 then
      let reset := e.ctl.dueM1 || e.ctl.perstLow
      let e := enterLockdown e
      if reset then enterHeld e else e
    else if e.ctl.mode = .m8 then
      if e.ctl.dueM1 then enterHeld e else if e.ctl.qualified then returnMode e else e
    else e

/-- HOLD_UP_FLUSH_COMPLETE (R42). -/
def execHoldUpFlushComplete (s : State) : Host.Outcome State Fault Refusal := runDev finishFlush s

/-- VSYS has stayed above the recovery level for 20 ms (R464, R43). -/
def recoveryQualifies (d : Device) : Device :=
  if !d.ctl.qualifying then d
  else
    let d := { d with ctl := { d.ctl with qualifying := false, supplyHold := false } }
    if d.ctl.mode = .m8 then
      let d := { d with ctl := { d.ctl with qualified := true } }
      if d.ctl.flushing || d.ctl.dueM1 then d else returnMode d
    else handleWaitingCarriers (updateCauses d)

/-- SAG_RECOVERY_QUALIFIED (R464). -/
def execSagRecoveryQualified (s : State) : Host.Outcome State Fault Refusal := runDev recoveryQualifies s

/-! ### PERST# (R54) -/

/-- Every link goes down at once, with a controller-level reset of its port (Table 11.10). -/
def portsDown (d : Device) : Device :=
  (List.range 4).foldl (fun d p => dropLink p (updPort p (resetConfig false) (controllerReset p d))) d

/-- The links are down and a reset waits for the flush. -/
def resetDue (d : Device) : Device := closeAllRows (portsDown { d with ctl := { d.ctl with dueM1 := true } })

/-- M1 is entered, unless a flush runs. -/
def heldUnlessFlushing (d : Device) : Device := if d.ctl.flushing then d else enterHeld d

/-- PERST# is asserted (R54): M1 at once where nothing is left to carry, otherwise through M8. M11 stays. -/
def assertPerst (d : Device) : Device :=
  let d := { d with ctl := { d.ctl with perstLow := true } }
  match d.ctl.mode with
  | .m0 | .m1 | .m11 => d
  | .m8 => heldUnlessFlushing (resetDue d)
  | m => if d.ctl.flushing || (dataMode m && flushNeeded d) then enterFlush (resetDue d) else enterHeld (portsDown d)

/-- PERST_ASSERT (R54). -/
def execPerstAssert (s : State) : Host.Outcome State Fault Refusal := runDev assertPerst s

/-! ### VSYS and the power-on reset (R609, R610, R615, R557) -/

/-- WAKE_N of every port is released (R617). -/
def releaseWake (d : Device) : Device := (List.range 4).foldl (fun d p => updPort p (fun t => { t with wakeMs := none }) d) d

/-- Landed data is not durable (Table 12.10, Unsafe Shutdowns). -/
def landedNotDurable (d : Device) : Bool :=
  d.media.flight.any (fun g => !g.superseded && g.cmd != 0) || d.media.wp.writes.any fun w => w.landed && !durable w d

/-- M0: nothing runs, nothing is recorded (R37). -/
def enterOff (d : Device) : Device :=
  if d.ctl.mode = .m0 then d
  else
    let d := heldOutputs (abandonTest d)
    let ctl := { d.ctl with mode := .m0, prev := d.ctl.mode, flushing := false, dueM1 := false, dueM10 := false, dueM11 := false }
    domainFloor { d with ctl := ctl }

/-- VSYS falls below the reset threshold (R615): M1 while it is present, M0 once it is absent. -/
def vsysFalls (absent : Bool) (d : Device) : Device :=
  let unsafe_ := d.ctl.vsysUp && landedNotDurable d
  let d := releaseWake { d with ctl := { d.ctl with vsysUp := false, unsafeShutdowns := d.ctl.unsafeShutdowns + b2n unsafe_ } }
  if absent then enterOff d else if d.ctl.mode = .m0 || d.ctl.mode = .m1 then d else enterHeld d

/-- VSYS_RESET_FALL (R615). -/
def execVsysResetFall (absent : Bool) (s : State) : Host.Outcome State Fault Refusal := runDev (vsysFalls absent) s

/-- An object's row has a reset form. -/
def hasForm (f : ResetForm) (key : Nat) : Bool := match objRow? key with | some r => r.form == f | none => false

/-- What a namespace keeps over a power cycle (R379). -/
def cycleNamespace (n : Namespace) : Namespace :=
  if n.ptpl then n else { n with resType := 0, holder := none, registrants := [] }

/-- What a power cycle clears beside what the reset that follows it clears: objects of the form "at power cycle" (R405), latches, locks,
the wall clock, sticky fields, and registrations that do not persist. -/
def powerCycle (d : Device) : Device :=
  let latched := (List.range 16).filter fun b => carrierState b d = 0x09
  let d := latched.foldl (fun d b => setObj (Obj.carrierState b) 0x00 d) d
  let d := setObj Obj.primaryState 0x00 (setObj Obj.standbyState 0x02 { d with objs := d.objs.filter fun e => !hasForm .atCycle e.1 })
  let rc := { d.media.rc with observed := false, clockSet := none, loadedWallMs := none, wakeMs := 0 }
  let carriers := smMap {} (fun c : Carrier => { c with faultHours := [] }) d.media.carriers
  let paths := smMap {} (fun p : PathState => { p with failures := [], lockedUntil := none }) d.settings.paths
  let ports := smMap {} (fun t : PortState => ({ errorCount := t.errorCount } : PortState)) d.ports
  let sub := { d.sub with namespaces := smMap {} cycleNamespace d.sub.namespaces, telemetry := none, telemetryHost := none
                          telemetryAvailable := false }
  { d with
    media := { d.media with rc := rc, carriers := carriers }
    settings := { d.settings with paths := paths }
    ports := ports, sub := sub, can := {}, therm := {}
    cpx := { d.cpx with returnHours := [] }
    ctl := { d.ctl with haltLatch := false, warned := false } }

/-- Byte offset in the code store of the newest entry of counter image A. -/
def counterOffset (d : Device) : Nat :=
  let p := smGet {} d.cs.logs 4
  (4 + b2n p.second) * 65536 + 64 + 32 * (p.used - 1)

/-- The counters as a run start finds them (R26, R27, Table 1.5): image B stands in for image A; where both fail hours and cycles come from
the newest flash record, 0 where the flash logbook holds none (notes/assumptions/132.md), and the ceiling is open. -/
def loadCounters (fault : Nat) (d : Device) : Device :=
  if fault = 0 then d
  else if fault = 1 then logRec Code.complementMismatch [2, counterOffset d] d
  else
    let d := logRec Code.complementDoubleFault [2, counterOffset d] d
    let (ceiling, d) := freshNat d
    let r := (((d.log.frames.map (·.records)).flatten).getLast?).getD {}
    updCs (fun c => { c with counters := { hours := r.hours, cycles := r.cycle, ceiling := ceiling % (2 ^ 32 - 1) + 1 } }) d

/-- The run start of the logbook, once VSYS and the power-on reset allow it (R557). -/
def runStart (fault : Nat) (d : Device) : Device :=
  if d.log.runStarted || !d.ctl.vsysUp || !d.ctl.porReleased then d else logbookRunStart (loadCounters fault d)

/-- VSYS rises above the reset threshold after a fall: the power cycle is complete. -/
def vsysRises (fault : Nat) (d : Device) : Device :=
  if d.ctl.vsysUp then d
  else
    let d := powerCycle { d with ctl := { d.ctl with vsysUp := true }, log := { d.log with runStarted := false } }
    runStart fault (if d.ctl.mode = .m0 then changeMode .m1 d else d)

/-- VSYS_RISE (R40). -/
def execVsysRise (fault : Fin 3) (s : State) : Host.Outcome State Fault Refusal := runDev (vsysRises fault.val) s

/-- What the active settings copy holds for an object. -/
def committed (key : Nat) (d : Device) : Nat :=
  let c := settingsCopy d.cs.activeB d
  if c.valid then (copyValue c key).getD (objDefault key) else objDefault key

/-- The node number in use (R430); CAN_NODE_ID_INVALID where the node becomes silent. -/
def takeNodeId (d : Device) : Device :=
  let strap := getObj Obj.nodeIdStrap d
  let o := committed Obj.nodeIdOverride d
  let active := if 1 ≤ o && o ≤ 127 then o else strap
  let before := d.can.silent
  let d := setObj Obj.nodeIdActive active { d with can := { d.can with silent := active = 0 } }
  if active != 0 then d
  else
    let d := setObj Obj.canBusState 0x03 d
    if before then d else logRec Code.canNodeIdInvalid [strap, o] d

/-- The power-on reset releases (Table 21.6 step 4): HK starts, drives VID 0x78, samples NODEID and makes the run start. -/
def porReleases (nodeId fault : Nat) (d : Device) : Device :=
  if d.ctl.porReleased then d
  else
    let d := { d with ctl := { d.ctl with porReleased := true, vidTarget := 0x78 } }
    runStart fault (takeNodeId (setObj Obj.nodeIdStrap (nodeId % 128) (setObj Obj.vidCode 0x78 d)))

/-- POWER_ON_RESET_RELEASE (R609). -/
def execPowerOnResetRelease (nodeId : Nat) (fault : Fin 3) (s : State) : Host.Outcome State Fault Refusal :=
  runDev (porReleases nodeId fault.val) s

/-- The power-on reset asserts (R609): M1 at once. -/
def porAsserts (d : Device) : Device :=
  let d := releaseWake { d with ctl := { d.ctl with porReleased := false } }
  match d.ctl.mode with
  | .m0 | .m1 => d
  | _ => enterHeld d

/-- POWER_ON_RESET_ASSERT (R609). -/
def execPowerOnResetAssert (s : State) : Host.Outcome State Fault Refusal := runDev porAsserts s

/-! ### Operating hours (R580) -/

/-- A step of 1/16 hour is counted, and a counter entry appended. -/
def hourTick (d : Device) : Device :=
  if d.ctl.mode = .m0 || !d.ctl.porReleased || !d.log.runStarted then d
  else
    let d := incObj Obj.operatingHours d
    appendCounterEntry { hours := hours d, cycles := getObj Obj.powerCycleCount d, ceiling := d.cs.counters.ceiling } d

/-- OPERATING_HOUR_TICK (R580). -/
def execOperatingHourTick (s : State) : Host.Outcome State Fault Refusal := runDev hourTick s

end Sys2Proof.Machine
end

