-- ==== Sys2Proof/Machine/Boot.lean ====
section
/-! DEFINITION. The release of a reset: what every reset clears, the checks of the mask ROM, and the boot up to the training of the DRAM
(spec/02 R40, R53, spec/20 R578 to R593, spec/21 R609, R610). -/
namespace Sys2Proof.Machine

/-! ### What a reset clears (R32, R405, Table 11.10) -/

/-- Objects that a reset returns to their default: those "at reset", those that read a constant, and stored ones until they are loaded
(R405). A carrier's latched fault stays until the power cycle, and so does a complex that is out (Tables 10.5, 17.8). -/
def resetObjects (d : Device) : Device :=
  let gone (e : Nat × Nat) : Bool := match objRow? e.1 with
    | some r => r.form == .atReset || r.form == .reads || r.stored
    | none => false
  let latched := (List.range 16).filter fun b => carrierState b d = 0x09
  let primaryOut := getObj Obj.primaryState d = 0x04
  let standbyOut := getObj Obj.standbyState d = 0x04
  let d := { d with objs := d.objs.filter fun e => !gone e }
  let d := latched.foldl (fun d b => setObj (Obj.carrierState b) 0x09 d) d
  let d := if standbyOut then setObj Obj.standbyState 0x04 d else d
  if primaryOut then
    setObj Obj.primaryState 0x04 (setObj Obj.standbyState 0x00 (setObj Obj.complexInControl 0x02 d))
  else d

/-- Live frames of a block by the entries in force. -/
def entryFrames (b : Nat) (d : Device) : Nat :=
  ((d.media.map.entries.filter fun e => blockOf e.2 = b && classify e.2 d = .pointer).map
    fun e => (smGet {} d.media.stored e.2).frames).sum

/-- The map holds what the medium's checkpoint, images and journal give; no page is resident, and a checkpoint in progress is abandoned (R170, R177). -/
def resetMap (d : Device) : Device :=
  let m := d.media.map
  let m := { entries := mediumEntries m, images := m.images, snapshot := m.snapshot, record := m.record, journal := m.journal, persistent := m.persistent,
             checkpointDue := m.checkpointDue, recordsSince := m.recordsSince && !m.journal.isEmpty : MapState }
  setObj Obj.journalSequence m.persistent { d with media := { d.media with map := m } }

/-- Blocks and stripes as a wake finds them: open ones are abandoned, a block that a live grain is back in is no longer empty, and a closed
stripe that has lost a member is in the restripe set (R135, R151, R296). -/
def resetBlocks (d : Device) : Device :=
  let back (e : Nat × Block) : Nat × Block :=
    let live := entryFrames e.1 d
    (e.1, { e.2 with movedSeq := min e.2.movedSeq d.media.map.persistent, valid := max e.2.valid live
                     state := if e.2.state = 3 && live != 0 then 2 else e.2.state })
  let d := abandonOpen { d with media := { d.media with blocks := d.media.blocks.map back } }
  let stripes := smMap {} (fun t : Stripe => { t with closeMs := 0 }) d.media.stripes
  let d := { d with media := { d.media with stripes := stripes } }
  (d.media.stripes.filter fun e => e.2.exists_ && !(lostInRows e.1 e.2).isEmpty && !(d.media.restripe.any fun r => r.stripe = e.1)).foldl
    (fun d e => joinRestripe e.1 true d) d

/-- A die after a reset: what the medium's records hold of it. Its level table is zero until M4 reloads it (R106). -/
def resetDie (x : DieState) : DieState :=
  { x with classes := [], loaded := [], scanned := false, op := {}, timeouts := 0, exhausted := false, gauge := x.savedGauge }

/-- The media side: data in flight, commands and engines are gone; what the medium holds stays. -/
def resetMedia (d : Device) : Device :=
  let d := resetBlocks (resetMap { d with media := { d.media with flight := [] } })
  let m := d.media
  let rc := { m.rc with released := [], victim := none, epochMoved := 0, epochPlaced := 0, recentBolter := [], recentRestripe := []
                        fullRecorded := false, spaceRecorded := false, belowRecorded := false, sweeps := [], sweeping := []
                        readRecords := [], darkRecorded := false, growthCount := 0, growthFrames := 0 }
  let carriers := smMap {} (fun c : Carrier =>
    ({ present := c.present, faultHours := c.faultHours, lost := c.lost, found := c.found, cls := c.cls } : Carrier)) m.carriers
  { d with media := { m with
      pen := [], carriers := carriers, expected := [], evac := none
      restripe := m.restripe.map fun r => { stripe := r.stripe, lost := r.lost }
      dies := smMap {} resetDie m.dies
      wp := { nextId := m.wp.nextId, nextStripe := m.wp.nextStripe, openSeq := m.wp.openSeq }
      sbDue := false, rc := rc } }

/-- A port after a reset: sticky fields, a driven WAKE_N and the subsystem's notices stay (Table 11.10, R349). -/
def resetPort (t : PortState) : PortState :=
  { pmeEn := t.pmeEn, pmeStatus := t.pmeStatus, aerUncorrectable := t.aerUncorrectable, aerCorrectable := t.aerCorrectable
    aerHeader := t.aerHeader, aerFirst := t.aerFirst, wakeMs := t.wakeMs, errorCount := t.errorCount
    changedNs := t.changedNs, resNotices := t.resNotices, resCount := t.resCount
    cfg := { uncorrectableMask := t.cfg.uncorrectableMask, uncorrectableSeverity := t.cfg.uncorrectableSeverity
             correctableMask := t.cfg.correctableMask } }

/-- The code store beside its blocks: commits in progress and a recovery are gone; the recovery target is the slot other than LastGoodSlot
(R590, R596). -/
def resetStore (d : Device) : Device :=
  let d := restartRecovery (updCs (fun c =>
    { c with jobs := [], slot1 := { c.slot1 with cloned := false }, slot2 := { c.slot2 with cloned := false } }) d)
  setObj Obj.recoveryTargetSlot (if d.cs.lastGood = 1 then 2 else 1) d

/-- The ledgers, every one with no unit held: the totals of the option area in use, and the token pool (R32, Table 16.1). -/
def rebuildLedgers (d : Device) : Device :=
  let fixed := (List.range 7).map fun i => (i + 2, rebuildLedger (derivedTotal (i + 2) d))
  { d with ledgers := (1, rebuildLedger (getObj Obj.tokenPoolSize d)) :: fixed, res := {} }

/-- Everything a reset clears, the CAN queue with it (R450). Failure counts and locks of the access paths stay (R545), and so do the logbook's ring and numbering (R563). -/
def resetDevice (d : Device) : Device :=
  let d := resetStore (resetMedia (resetObjects d))
  let d := [1, 2, 3, 4, 5].foldl (fun d p => resetPath p d) d
  let latches := smMap {} (fun c : CarrierThermal => ({ shutdown := c.shutdown } : CarrierThermal)) d.therm.carriers
  let settings := { d.settings with loaded := [], lost := false, ratesInUse := (committed Obj.canNominalRate d, committed Obj.canDataRate d) }
  let sub := { d.sub with shutdownRunning := false, critical := 0, tempOver := [], tempUnder := []
                          nsJobs := d.sub.nsJobs.map fun j => { j with seq := none, dropped := true } }
  let c := d.ctl
  let ctl := { haltLatch := c.haltLatch, csWpLow := c.csWpLow, unsafeShutdowns := c.unsafeShutdowns, warned := c.warned, ms := c.ms
               resetMs := c.ms, mode := c.mode, prev := c.prev, huChgEn := c.huChgEn : Control }
  let d := { d with
    ctl := ctl
    therm := { carriers := latches }
    holdup := {}, domains := {}, res := {}
    cpx := { returnHours := d.cpx.returnHours, gateP := getObj Obj.primaryState d != 0x04, gateS := getObj Obj.primaryState d = 0x04 }
    log := { d.log with indexComplete := false, clearing := false }
    settings := settings
    can := { nodeConflict := d.can.nodeConflict, silent := d.can.silent }
    sec := { d.sec with loaded := [], keyLost := [], san := if d.sec.san.complete then {} else d.sec.san }
    ports := smMap {} resetPort d.ports
    sub := sub, held := [], delayed := [] }
  (latches.map (·.1)).foldl (fun d b => setThermalBit b 4 true d) (takeNodeId d)

/-! ### Boot (R582, R588, R591, R593, R409, R610) -/

/-- The mode that a release sets: no transition for R37 and PreviousMode. -/
def releaseInto (m : Mode) (d : Device) : Device :=
  let ctl := { d.ctl with mode := m, prev := .m1 }
  driveCharge (domainFloor (setObj Obj.modeEntryHours (hours d) { d with ctl := ctl }))

/-- PORTCFG is sampled (R323). -/
def samplePortcfg (v : Nat) (d : Device) : Device :=
  if v = 3 then logRec Code.portcfgInvalid [3] (setObj Obj.portConfig 0 d) else setObj Obj.portConfig v d

/-- What the code store's copies turn out to be. -/
def noteCopies (x : BootInputs) (d : Device) : Device :=
  let oa (c : OptionArea) : OptionArea :=
    { c with copyA := { c.copyA with valid := c.copyA.valid && !x.oaBadA }, copyB := { c.copyB with valid := c.copyB.valid && !x.oaBadB } }
  let d := updCs (fun c => { c with oa := oa c.oa, bootValid := c.bootValid && !x.bootBad, eraseFlags := c.eraseFlags ++ x.cutErases }) d
  let d := if x.settingsBadA then setCopy false { settingsCopy false d with valid := false } d else d
  if x.settingsBadB then setCopy true { settingsCopy true d with valid := false } d else d

/-- A settings copy ends in a torn record: it and what follows are ignored (R409). -/
def dropTorn (d : Device) (t : Bool × Nat) : Device :=
  let c := settingsCopy t.1 d
  let kept := c.records.take t.2
  logRec Code.settingsEntryTorn [b2n t.1, 64 + (kept.map recordSize).sum] (setCopy t.1 { c with records := kept } d)

/-- The DRAM is trained (Table 2.4, R144, R621): it gives the map area's chunks; a channel that fails ends in M10. -/
def trainDram (x : BootInputs) (d : Device) : Device :=
  match x.dramFailed with
  | some ch => toLockdown (logRec Code.dramTrainingFailed [ch] d)
  | none => setObj Obj.mapAreaChunks ((x.dram - 85) * 256) { d with ctl := { d.ctl with ddrResetHigh := true } }

/-- M3: a slot and its settings (R591, R593, R409). Answers true where the device resets through M1. -/
def bootSlot (x : BootInputs) (d : Device) : Device × Bool :=
  let (d, first) := bootSelect x.slotFails d
  if d.cs.running = 0 then (logRec Code.recoveryEntered [0x03] (changeMode .m2 d), false)
  else
    let (d, again) := selectSettings first (x.torn.foldl dropTorn d)
    if again then (d, true)
    else
      let d := x.mismatches.foldl takeMismatch (withhold (rebuildLedgers (loadSettings d)))
      let d := (List.range 4).foldl (fun d p => updPort p (fun t => { t with features := resetFeatures d }) d)
        { d with ctl := { d.ctl with sris := getObj Obj.portClocking d } }
      let limit := getObj Obj.journalLimitFrames d
      (trainDram x { d with settings := { d.settings with journalLimit := limit } }, false)

/-- One release of the reset; answers true where it ends in M1 again. -/
def releaseOnce (x : BootInputs) (d : Device) : Device × Bool :=
  let d := redoErases (noteCopies x (rebuildLedgers (resetDevice d)))
  let (d, good) := loadOptionArea x.pairFault d
  let d := samplePortcfg x.portcfg.val (rebuildLedgers (rebuildBootControl d))
  let cause : Nat := if x.recovLow then 1 else if good then 0 else 2
  let d := if cause = 0 then releaseInto .m3 d else logRec Code.recoveryEntered [cause] (releaseInto .m2 d)
  if d.ctl.haltLatch then (enterHalt d, false)
  else if cause != 0 then (d, false)
  else bootSlot x (rewriteOptionArea d)

/-- The reset is released (R609) where the other two conditions of R609 hold; a set that cannot read the settings resets through M1 once
(Table 20.10). In any mode but M1 the rise of PERST# is only noted (R54). -/
def releaseReset (x : BootInputs) (d : Device) : Device :=
  let wake := if d.media.rc.loadedWallMs.isNone then d.ctl.ms else d.media.rc.wakeMs
  let d := { d with ctl := { d.ctl with perstLow := false }, media := { d.media with rc := { d.media.rc with wakeMs := wake } } }
  if d.ctl.mode != .m1 || !d.ctl.vsysUp || !d.ctl.porReleased then d
  else
    let (d, again) := releaseOnce x d
    if again then
      (releaseOnce { x with cutErases := [], torn := [], mismatches := x.mismatches } (enterHeld d)).1
    else d

/-- RESET_RELEASE (R609). -/
def execResetRelease (boot : BootInputs) (s : State) : Host.Outcome State Fault Refusal := runDev (releaseReset boot) s

end Sys2Proof.Machine
end

