-- ==== Sys2Proof/Machine/Epoch.lean ====
section
/-! DEFINITION. The 1 ms control epoch (spec/17 R508; spec/02 R36, R41): what runs at its boundary, and what the blocks without commands of
their own have come to by then. -/
namespace Sys2Proof.Machine

/-! ### Time and the epoch copy -/

/-- One millisecond passes: the REFOSC count, and the wall clock once it is known (R279). -/
def passMs (d : Device) : Device :=
  if d.ctl.mode = .m0 then d
  else
    let d := { d with ctl := { d.ctl with ms := d.ctl.ms + 1 } }
    if d.ctl.porReleased && getObj Obj.wallClockSource d != 0 then addObj Obj.wallClockMs 1 d else d

/-- A complex follows the one in control. -/
def someoneFollows (d : Device) : Bool :=
  getObj Obj.complexInControl d != 0 && otherFollows (getObj Obj.complexInControl d) d && d.cpx.takeover.isNone

/-- The epoch copy (R508): at most 4,096 lines; the rest, and every line of a copy that is discarded, goes with the next one. -/
def epochCopy (lines : Nat) (good : Bool) (d : Device) : Device :=
  if !someoneFollows d then d
  else
    let all := d.cpx.carried + lines
    let sent := min 4096 all
    let d := addObj Obj.epochLinesCarried (all - sent) (setObj Obj.epochCopyLines sent d)
    let c := { d.cpx with carried := if good then all - sent else all, copiedSinceInput := d.cpx.copiedSinceInput || good }
    { d with cpx := c }

/-- The standby whose self-test has passed has its full copy and follows (R520); the primary returns (Table 17.7). -/
def complexesAtEpoch (crcEqual : Bool) (d : Device) : Device :=
  let d := if d.cpx.copyDue && getObj Obj.standbyState d = 0x02 && takeoverMode d then
      setObj Obj.standbyState 0x01 (updCpx (fun c => { c with copyDue := false }) d)
    else d
  returnAtEpoch crcEqual (setObj Obj.returnsInWindow (min 3 (recentReturns d).length) d)

/-! ### The wake (Table 2.4, spec/03 R94, spec/05 R170 to R172, spec/19 R566) -/

/-- The copies of the last updates on both sides' anchor groups of the banks in service (R94). -/
def anchorCopies (d : Device) : List (Nat × Superblock) :=
  (d.media.anchors.filter fun a => bankInService (a.1 / 2) d).filterMap fun a => a.2.last.map (a.1, ·)

/-- The copy of the highest generation. -/
def newestCopy (cs : List (Nat × Superblock)) : Option Superblock :=
  cs.foldl (fun best c => match best with
    | none => some c.2
    | some b => if b.generation < c.2.generation then some c.2 else some b) none

/-- The valid copies: those that do not fail their CRC or a root's pair, of the DeviceInstance of the highest generation (R94). -/
def validCopies (bad : List Nat) (d : Device) : List (Nat × Superblock) :=
  let inst := (newestCopy (anchorCopies d)).map (·.instance_)
  (anchorCopies d).filter fun c => !bad.contains c.1 && inst == some c.2.instance_

/-- The superblock is selected (R94), `bad` naming the anchor groups (bank × 2 + side) whose copy fails its CRC or a pair: the valid copy of the
highest generation is in use. Its banks are the expected set, the keys are unwrapped (R528). Where no anchor group holds a copy, the one of device
initialisation stays in use (notes/assumptions/3.md). -/
def loadSuperblock (bad : List Nat) (faults : List (Nat × Bool)) (d : Device) : Device :=
  let good := validCopies bad d
  let skipped := (List.range 16).filter fun b => bad.contains (2 * b) || bad.contains (2 * b + 1)
    || (anchorCopies d).any fun c => c.1 / 2 == b && !good.contains c
  let d := skipped.foldl (fun d b => logRec Code.superblockCopyBad [b] d) (markLoaded 1 d)
  let d := { d with media := { d.media with sb := (newestCopy good).getD d.media.sb
                                            dies := smMap {} (fun x : DieState => { x with classes := x.savedClasses }) d.media.dies } }
  let d := { d with media := { d.media with expected := (List.range 16).filter fun b => bitOf d.media.sb.banks b } }
  let break_ (d : Device) (f : Nat × Bool) : Device :=
    updSec (fun s => { s with keys := smUpd {} f.1 (fun e => if f.2 then { e with goodB := false } else { e with goodA := false }) s.keys }) d
  unwrapKeys (faults.foldl break_ d)

/-- Steps 3 and 4 of Table 5.14: the snapshot and the journal that a wake can read give the directory, the replay table and the entries. A journal that ends
before its last frame, or where the locations after it do not read as erased, is truncated: the sequence expected is recorded, and the map goes on from
there (R172). -/
def followJournal (bad : List (Nat × Bool)) (dirtyEnd : Bool) (d : Device) : Device :=
  let m := d.media.map
  let frames := validFrames bad m.journal
  let expected := nextSequence m.record.seq frames
  let t := replayed m frames
  let imaged := t.dir.foldl (fun ps e => smSet {} e.1 { image := e.2 } ps) ([] : SMap MapPage)
  let pages := t.lists.foldl (fun ps e => smUpd {} e.1 (fun p => { p with replay := e.2 }) ps) imaged
  let cut := dirtyEnd || decide (frames.length < m.journal.length)
  let d := setObj Obj.journalFrames frames.length (setObj Obj.journalSequence expected (updMap (fun m =>
    { m with entries := restored m t, pages := pages, journal := frames, persistent := expected }) d))
  if cut then
    logRec Code.mapJournalTruncated [expected, getObj Obj.checkpointSequence d] { d with sub := { d.sub with journalWarning := true } }
  else d

/-! ### The block table at wake (R256, R257) -/

/-- The group-log records that a wake replays: those above the open mark, of the frames before the first that has no valid copy. -/
def replayRecords (bad : List (Nat × Bool)) (d : Device) : List PlaneRecord :=
  let valid (f : PlaneFrame) : Bool := f.records.all fun r => !(bad.contains (r.openSeq, false) && bad.contains (r.openSeq, true))
  (((d.media.groupLog.takeWhile valid).map (·.records)).flatten).filter (d.media.tableIndex.mark < ·.openSeq)

/-- A block's entry as the table on the medium gives it (`s`), or as the last of the records that name it does; erase counts are exact, ValidFrames never
below the live frames, and the last fine wordline of an open block is found on the medium (R257, R259). -/
def restoredBlock (rs : List PlaneRecord) (b : Nat) (now : Block) (d : Device) : Block :=
  let s := smGet {} d.media.savedBlocks b
  let live := entryFrames b d
  let mine := rs.filter (·.blocks.contains b)
  match mine.getLast? with
  | none =>
    { s with erases := now.erases, spared := now.spared, header := now.header, lastFine := if s.state = 1 then now.lastFine else s.lastFine
             movedSeq := now.movedSeq, valid := max s.valid live, state := if s.state = 3 && live != 0 then 2 else s.state }
  | some r =>
    { now with state := 1, cls := s.cls, step := (r.steps[planeOfBlock b]?).getD 0, stripe := r.stripe.getD 0 % 2 ^ 40
               role := if r.kind = 4 then 1 else if r.kind = 5 then 2 else 0, cont := r.row.isSome, contRow := r.row.getD 0
               freshC := s.freshC, freshLag := min 255 (s.freshLag + mine.length), valid := live, retireCause := 0, closeHours := 0, pinned := false
               refreshQ := false, readQ := false, rateQ := false, wearQ := false, refreshDue := false, overdue := false }

/-- The stripes of the table that the working table does not hold, as the headers of their blocks give them (R185, R267). -/
def rebuildStripes (d : Device) : Device :=
  let used := d.media.blocks.filter fun e => e.2.stripe != 0 && 1 ≤ e.2.state && e.2.state ≤ 5
  let known := d.media.stripes.filter fun e => used.any (·.2.stripe == e.1)
  let stripes := used.foldl (fun ss e => if (smGet {} ss e.2.stripe).exists_ then ss else
    smSet {} e.2.stripe { exists_ := true, kind := e.2.header.kind, parity := e.2.header.parity, members := e.2.header.members
                          lost := (e.2.header.members.map (·.1)).filter fun b => (carrier b d).lost } ss) known
  { d with media := { d.media with stripes := stripes, restripe := d.media.restripe.filter fun r => (smGet {} stripes r.stripe).exists_ } }

/-- A queue of Table 9.2 as the flags of the blocks give it: the stripes that stood in it keep their order. -/
def rebuildQueue (old : List Nat) (flag : Block → Bool) (d : Device) : List Nat :=
  let flagged := ((d.media.blocks.filter fun e => e.2.stripe != 0 && flag e.2 && !(d.media.restripe.any fun r => r.stripe = e.2.stripe)).map
    (·.2.stripe)).eraseDups
  old.filter (flagged.contains ·) ++ flagged.filter fun n => !old.contains n

/-- The block table is loaded and the group log replayed into it; every block that was open is closed without a footer (R135, R257). -/
def replayTable (bad : List (Nat × Bool)) (d : Device) : Device :=
  let rs := replayRecords bad d
  let keys := (d.media.blocks.map (·.1)) ++ ((d.media.savedBlocks.map (·.1)).filter fun k => !d.media.blocks.any (·.1 == k))
  let blocks := keys.foldl (fun m k => smSet {} k (restoredBlock rs k (smGet {} d.media.blocks k) d) m) []
  let d := { d with media := { d.media with blocks := blocks } }
  let left := (d.media.blocks.filter (·.2.state = 1)).map (·.1)
  let d := closeBlocks 0 left (left.foldl (fun d b => updBlock b (fun e => { e with noFooter := true }) d) d)
  let d := rebuildStripes d
  let rc := d.media.rc
  updRc (fun _ => { rc with q1 := rebuildQueue rc.q1 (·.refreshQ) d, q2 := rebuildQueue rc.q2 (·.readQ) d
                            q3 := rebuildQueue rc.q3 (·.rateQ) d, q4 := rebuildQueue rc.q4 (·.wearQ) d }) d

/-- Step 5 of Table 5.14: the directory is resident, and CSTS.RDY rises (R44). -/
def loadDirectory (lost : List (Nat × Nat)) (d : Device) : Device :=
  let d := lost.foldl (fun d x => directoryMismatch (pageKey x.1 x.2) true d) d
  let largest := (d.media.dies.map fun e => e.2.scanWallMs).foldl max 0
  let rc := { d.media.rc with loadedWallMs := some (d.media.rc.loadedWallMs.getD largest) }
  let d := markLoaded 2 { d with ctl := { d.ctl with dirResident := true }, media := { d.media with rc := rc } }
  (List.range 4).foldl (fun d p => updPort p (fun t => { t with rdy := t.rdy || (enabled t && !t.ccBad) }) d) d

/-- What M4 has read by this epoch. -/
def wakeInputs (x : EpochInputs) (d : Device) : Device :=
  let d := match x.superblock with
    | some bad => if d.settings.loaded.contains 1 then d else loadSuperblock bad x.keyFaults d
    | none => d
  let d := x.checkpointBad.foldl (fun d r => logRec Code.checkpointFrameBad [r, getObj Obj.checkpointSequence d] d) d
  if !d.settings.loaded.contains 1 || d.ctl.dirResident then d
  else match x.directory with
    | none => d
    | some lost =>
      if [0, 1, 2].all fun r => x.checkpointBad.contains r then d else loadDirectory lost (replayTable x.groupLogBad (followJournal x.journalBad x.dirtyEnd d))

/-- FirstSequence of a logbook frame (Table 19.5), and the last sequence in it. -/
def firstSequence (f : LogFrame) : Nat := (f.records.head?.map (·.seq)).getD 0
def lastSequence (f : LogFrame) : Nat := (f.records.getLast?.map (·.seq)).getD 0

/-- The chain as a wake finds it (R566): from the frame that LogbookRoot names on to the last valid one, and back as far as the frames are valid;
and whether it ends there. -/
def chainFound (bad : List Nat) (d : Device) : List LogFrame × Bool :=
  let good (f : LogFrame) : Bool := !bad.contains (firstSequence f)
  let fs := d.log.frames
  let i := (fs.findIdx? (·.place == d.media.sb.roots.logbook)).getD 0
  let on := (fs.drop i).takeWhile good
  let back := ((fs.take i).reverse.takeWhile good).reverse
  (if on.isEmpty then [] else back ++ on, decide (on.length = (fs.drop i).length))

/-- The flash logbook's index is complete (R566): a chain whose end is not clean is recorded with the sequence that would follow. -/
def indexLogbook (x : EpochInputs) (d : Device) : Device :=
  if !x.logIndex || d.log.indexComplete || !d.settings.loaded.contains 1 then d
  else
    let (fs, clean) := chainFound x.logBad d
    let newest := (fs.getLast?.map lastSequence).getD 0
    let d := { d with log := { d.log with indexComplete := true, frames := fs, newest := (fs.getLast?.map (·.place)).getD 0 } }
    if clean && !x.logDirty then d else logRec Code.logbookChainTruncated [seqAfter newest, newest] d

/-- Every present carrier has been brought up or has failed to: staging ends, and expected banks that are not in service have left it
(R293, R294). -/
def endStaging (d : Device) : Device :=
  let settled (b : Nat) : Bool := !(carrier b d).present || !([0x00, 0x01, 0x02].contains (carrierState b d))
  if d.ctl.mode != .m4 || d.ctl.staged || d.ctl.supplyHold || !d.settings.loaded.contains 1 || !(List.range 16).all settled then d
  else
    let d := { d with ctl := { d.ctl with staged := true } }
    noteBanks (d.media.expected.foldl (fun d b => if bankInService b d || (carrier b d).lost then d else loseBank b d) d)

/-- M3: the boot is complete; the map cache is enabled (Table 5.8). -/
def bootInputs (x : EpochInputs) (d : Device) : Device :=
  if d.ctl.mode = .m3 && x.bootComplete && !d.ctl.bootComplete then
    setObj Obj.mapCacheState 0x02 { d with ctl := { d.ctl with bootComplete := true } }
  else d

/-! ### Reports -/

/-- f of R265: free plane groups over good ones, in thousandths, over the dies in service; PhysicallyFull clears above U (R268). -/
def reportFree (d : Device) : Device :=
  let dies := (List.range 4096).filter (dieInService · d)
  let least (f : Nat → Nat → Device → Nat) (n : Nat) : Nat := ((List.range 4).map fun p => f n p d).foldl min 4096
  let free := (dies.map (least freeInPlane)).sum
  let good := (dies.map (least goodInPlane)).sum
  let f := if good = 0 then 0 else 1000 * free / good
  let d := setObj Obj.freePermille f d
  if getObj Obj.physicallyFull d = 1 && getObj Obj.reclaimUrgentPermille d < f then
    setObj Obj.physicallyFull 0 { d with media := { d.media with rc := { d.media.rc with fullRecorded := false } } }
  else d

/-- The restripe set's size and live frames at its last growth (Table 10.9). -/
def noteGrowth (d : Device) : Device :=
  let n := d.media.restripe.length
  let rc := d.media.rc
  { d with media := { d.media with rc :=
      { rc with growthCount := n, growthFrames := if rc.growthCount < n then restripeLeft d else rc.growthFrames } } }

/-- An I/O command is outstanding on some port. -/
def ioOutstanding (d : Device) : Bool :=
  let w := d.media.wp
  !w.reads.isEmpty || !w.flushes.isEmpty || !d.held.isEmpty || !d.delayed.isEmpty || w.writes.any fun x => !x.completed && !x.dropped

/-- Controller busy time and the composite temperature times (Table 12.10): WCTEMP 368 K, CCTEMP 391 K. -/
def countTimes (d : Device) : Device :=
  let k := kelvin d.therm.dieMax
  { d with sub := { d.sub with busyMs := d.sub.busyMs + b2n (ioOutstanding d), warnTempMs := d.sub.warnTempMs + b2n (decide (368 ≤ k))
                               critTempMs := d.sub.critTempMs + b2n (decide (391 ≤ k)) } }

/-- Bits of the SMART critical warning that are newly set raise their event where Asynchronous Event Configuration enables them (R387). -/
def raiseWarnings (d : Device) : Device :=
  let now := criticalWarning d
  let new := (List.range 5).filter fun k => bitOf now k && !bitOf d.sub.critical k
  let raise (d : Device) (k : Nat) : Device :=
    (List.range 4).foldl (fun d p =>
      if (port p d).rdy && bitOf (featureOf p 0x0B d) k then
        raiseEvent p { typ := 1, info := match k with | 0 => 2 | 1 => 1 | _ => 0, page := 0x02 } d
      else d) d
  new.foldl raise { d with sub := { d.sub with critical := now } }

/-! ### The epoch -/

/-- Shutdown work that a due transition has started closes open rows and starts its checkpoint (R48). -/
def dueAtEpoch (d : Device) : Device :=
  let before := d.sub.shutdownRunning
  let d := dueTransitions d
  if d.sub.shutdownRunning && !before && d.ctl.mode != .m9 then startCheckpoint (closeAllRows d) else d

/-- Abort windows that have ended with a request that waits, and buttons no longer pressed (R318). -/
def carriersAtEpoch (d : Device) : Device :=
  let d := handleWaitingCarriers d
  (List.range 16).foldl (fun d b =>
    let d := if (carrier b d).waiting then windowEnds b d else d
    if (carrier b d).button then updCarrier b (fun c => { c with button := false }) d else d) d

/-- What the media side does at an epoch: queues, pins, the restripe set and namespace jobs. -/
def mediaAtEpoch (d : Device) : Device :=
  let d := dropLostBanks (refreshAside (queueAged (finishScans (endStaging d))))
  let pinned := (d.media.stripes.filter fun e => !e.2.pinned.isEmpty).map (·.1)
  let d := updateDivision d
  let d := startOps (noteGrowth (stepJobs (pinned.foldl (fun d n => refreshPins n d) d)))
  let rc := { d.media.rc with epochMoved := 0, epochPlaced := 0 }
  { d with media := { d.media with rc := rc } }

/-- The epoch in the modes from M3 to M9. -/
def serviceEpoch (x : EpochInputs) (d : Device) : Device :=
  let d := x.mismatches.foldl takeMismatch (bootInputs x { d with damaged := d.damaged ++ x.damaged })
  let d := drainBuffer (x.lineErrors.foldl lineError d)
  let d := if d.ctl.mode = .m4 then wakeInputs x d else d
  let d := complexesAtEpoch x.crcEqual (epochCopy x.lines x.copyGood (indexLogbook x d))
  let d := { d with domains := { d.domains with lossWindow := [] } }
  let d := mediaAtEpoch (carriersAtEpoch d)
  let d := updateCauses (firstService (dueAtEpoch (sanitizeStep (energyAtEpoch (reportFree d)))))
  let d := raiseWarnings (countTimes d)
  (List.range 4).foldl (fun d p => rerunDelayed p d) d

/-- The control epoch: the checks of every ledger come first (R29, R30); a lockdown then ends the epoch. -/
def controlEpoch (x : EpochInputs) (d : Device) : Device :=
  let d := passMs d
  match d.ctl.mode with
  | .m0 | .m1 | .m2 | .m11 => d
  | .m10 => { d with domains := { d.domains with lossWindow := [] } }
  | _ =>
    let d := [1, 2, 3, 4, 5, 6, 7, 8].foldl (fun d l => checkLedger l d) d
    if d.ctl.mode = .m10 then d else serviceEpoch x d

/-- CONTROL_EPOCH (R508). -/
def execControlEpoch (epoch : EpochInputs) (s : State) : Host.Outcome State Fault Refusal := runDev (controlEpoch epoch) s

end Sys2Proof.Machine
end

