-- ==== Sys2Proof/Machine/Dispatch.lean ====
section
/-! DEFINITION. Dispatch: each command to its meaning. -/
namespace Sys2Proof.Machine

def exec (i : Instr) (s : State) : Host.Outcome State Fault Refusal :=
  match i with
  | .vsysRise fault => Sys2Proof.Machine.execVsysRise fault s
  | .vsysResetFall absent => Sys2Proof.Machine.execVsysResetFall absent s
  | .powerOnResetRelease nodeId fault => Sys2Proof.Machine.execPowerOnResetRelease nodeId fault s
  | .resetRelease boot => Sys2Proof.Machine.execResetRelease boot s
  | .perstAssert => Sys2Proof.Machine.execPerstAssert s
  | .supplyWarning => Sys2Proof.Machine.execSupplyWarning s
  | .recoveryComparatorTrip => Sys2Proof.Machine.execRecoveryComparatorTrip s
  | .sagRecoveryQualified => Sys2Proof.Machine.execSagRecoveryQualified s
  | .holdUpFlushComplete => Sys2Proof.Machine.execHoldUpFlushComplete s
  | .csWpNChange low => Sys2Proof.Machine.execCsWpNChange low s
  | .housekeepingRound round => Sys2Proof.Machine.execHousekeepingRound round s
  | .throttleLevelRise => Sys2Proof.Machine.execThrottleLevelRise s
  | .holdupChargeTimeout => Sys2Proof.Machine.execHoldupChargeTimeout s
  | .holdupTestDue => Sys2Proof.Machine.execHoldupTestDue s
  | .holdupTestRequest path value => Sys2Proof.Machine.execHoldupTestRequest path value s
  | .holdupTestBaseline v0 => Sys2Proof.Machine.execHoldupTestBaseline v0 s
  | .holdupTestSample mv => Sys2Proof.Machine.execHoldupTestSample mv s
  | .holdupTestEnd => Sys2Proof.Machine.execHoldupTestEnd s
  | .paceMeasure count work => Sys2Proof.Machine.execPaceMeasure count work s
  | .vidStep => Sys2Proof.Machine.execVidStep s
  | .controlEpoch epoch => Sys2Proof.Machine.execControlEpoch epoch s
  | .governorInjectionTest report => Sys2Proof.Machine.execGovernorInjectionTest report s
  | .missedEpoch => Sys2Proof.Machine.execMissedEpoch s
  | .governorMismatch => Sys2Proof.Machine.execGovernorMismatch s
  | .nonCodeReport => Sys2Proof.Machine.execNonCodeReport s
  | .coreMemoryUncorrectable => Sys2Proof.Machine.execCoreMemoryUncorrectable s
  | .takeoverOutputsReached crcEqual micros => Sys2Proof.Machine.execTakeoverOutputsReached crcEqual micros s
  | .takeoverStepTimeout => Sys2Proof.Machine.execTakeoverStepTimeout s
  | .switchoverInconsistent code => Sys2Proof.Machine.execSwitchoverInconsistent code s
  | .primaryResetHoldExpiry => Sys2Proof.Machine.execPrimaryResetHoldExpiry s
  | .primarySelfTestDone pass ms => Sys2Proof.Machine.execPrimarySelfTestDone pass ms s
  | .standbySelfTestDone pass ms => Sys2Proof.Machine.execStandbySelfTestDone pass ms s
  | .standbyRetentionIdle => Sys2Proof.Machine.execStandbyRetentionIdle s
  | .standbyWakeInput memOk => Sys2Proof.Machine.execStandbyWakeInput memOk s
  | .domainEntryRequest dd retention refuser => Sys2Proof.Machine.execDomainEntryRequest dd retention refuser s
  | .domainEntryCommit dd => Sys2Proof.Machine.execDomainEntryCommit dd s
  | .domainEntryAbort dd => Sys2Proof.Machine.execDomainEntryAbort dd s
  | .domainWake dd error => Sys2Proof.Machine.execDomainWake dd error s
  | .carrierInsertion bank => Sys2Proof.Machine.execCarrierInsertion bank s
  | .carrierRemoval bank => Sys2Proof.Machine.execCarrierRemoval bank s
  | .powerGoodLost bank => Sys2Proof.Machine.execPowerGoodLost bank s
  | .pgoodTimeout bank => Sys2Proof.Machine.execPgoodTimeout bank s
  | .attentionButtonPress bank => Sys2Proof.Machine.execAttentionButtonPress bank s
  | .abortWindowExpiry bank => Sys2Proof.Machine.execAbortWindowExpiry bank s
  | .evacuationComplete failed => Sys2Proof.Machine.execEvacuationComplete failed s
  | .carrierRequestRemoval path bank => Sys2Proof.Machine.execCarrierRequestRemoval path bank s
  | .carrierCancelRemoval path bank => Sys2Proof.Machine.execCarrierCancelRemoval path bank s
  | .carrierPowerOn path bank => Sys2Proof.Machine.execCarrierPowerOn path bank s
  | .carrierAdopt path bank => Sys2Proof.Machine.execCarrierAdopt path bank s
  | .carrierRetryPowerFault path bank => Sys2Proof.Machine.execCarrierRetryPowerFault path bank s
  | .channelBringUp bank => Sys2Proof.Machine.execChannelBringUp bank s
  | .pgoodRise bank => Sys2Proof.Machine.execPgoodRise bank s
  | .diePowerOnElapsed bank => Sys2Proof.Machine.execDiePowerOnElapsed bank s
  | .targetResetReady bank present reports => Sys2Proof.Machine.execTargetResetReady bank present reports s
  | .channelTrainingDone channel reached anchor => Sys2Proof.Machine.execChannelTrainingDone channel reached anchor s
  | .carrierJoined bank refOffsets failed => Sys2Proof.Machine.execCarrierJoined bank refOffsets failed s
  | .zqCalibrationShort channel => Sys2Proof.Machine.execZqCalibrationShort channel s
  | .readyBusyRise channel busy => Sys2Proof.Machine.execReadyBusyRise channel busy s
  | .statusPoll die slot op elapsedUs busy => Sys2Proof.Machine.execStatusPoll die slot op elapsedUs busy s
  | .suspendTimeout die slot op => Sys2Proof.Machine.execSuspendTimeout die slot op s
  | .readSuspend die op => Sys2Proof.Machine.execReadSuspend die op s
  | .programPassComplete die slot failed => Sys2Proof.Machine.execProgramPassComplete die slot failed s
  | .eraseComplete die slot failed => Sys2Proof.Machine.execEraseComplete die slot failed s
  | .groupEraseStale die slot => Sys2Proof.Machine.execGroupEraseStale die slot s
  | .arrayReadComplete id grain result => Sys2Proof.Machine.execArrayReadComplete id grain result s
  | .tokenRequest bank amount flush => Sys2Proof.Machine.execTokenRequest bank amount flush s
  | .tokenGrant => Sys2Proof.Machine.execTokenGrant s
  | .tokenReturn bank amount => Sys2Proof.Machine.execTokenReturn bank amount s
  | .tokenGuardEngage bank => Sys2Proof.Machine.execTokenGuardEngage bank s
  | .powerUpTokensReturn bank => Sys2Proof.Machine.execPowerUpTokensReturn bank s
  | .tokenPoolSizeWrite path value out => Sys2Proof.Machine.execTokenPoolSizeWrite path value out s
  | .poolRequest owner size standing => Sys2Proof.Machine.execPoolRequest owner size standing s
  | .poolRetry owner pool => Sys2Proof.Machine.execPoolRetry owner pool s
  | .bufferReturn owner pool index => Sys2Proof.Machine.execBufferReturn owner pool index s
  | .bufferHeldLong owner => Sys2Proof.Machine.execBufferHeldLong owner s
  | .fabricCreditReturn link => Sys2Proof.Machine.execFabricCreditReturn link s
  | .freshRead block wordline reads capacity => Sys2Proof.Machine.execFreshRead block wordline reads capacity s
  | .formPlaneGroup die slot => Sys2Proof.Machine.execFormPlaneGroup die slot s
  | .wearSlopeRecompute => Sys2Proof.Machine.execWearSlopeRecompute s
  | .etaQueryBlock path value => Sys2Proof.Machine.execEtaQueryBlock path value s
  | .etaReportUpdate => Sys2Proof.Machine.execEtaReportUpdate s
  | .mapLookup stream slot grain => Sys2Proof.Machine.execMapLookup stream slot grain s
  | .place id => Sys2Proof.Machine.execPlace id s
  | .relocate id => Sys2Proof.Machine.execRelocate id s
  | .unmap slot first count => Sys2Proof.Machine.execUnmap slot first count s
  | .markLost slot grain pointer => Sys2Proof.Machine.execMarkLost slot grain pointer s
  | .regionReset slot => Sys2Proof.Machine.execRegionReset slot s
  | .mapCacheEnable path => Sys2Proof.Machine.execMapCacheEnable path s
  | .mapCacheDisable path => Sys2Proof.Machine.execMapCacheDisable path s
  | .mapCacheInvalidate path => Sys2Proof.Machine.execMapCacheInvalidate path s
  | .mapPageLoad slot page readable bad => Sys2Proof.Machine.execMapPageLoad slot page readable bad s
  | .backgroundLoad readable bad => Sys2Proof.Machine.execBackgroundLoad readable bad s
  | .mapLineReloaded slot line good => Sys2Proof.Machine.execMapLineReloaded slot line good s
  | .journalFrameSeal copy1 copy2 => Sys2Proof.Machine.execJournalFrameSeal copy1 copy2 s
  | .journalSealTimeout copy1 copy2 => Sys2Proof.Machine.execJournalSealTimeout copy1 copy2 s
  | .checkpointStart => Sys2Proof.Machine.execCheckpointStart s
  | .checkpointInterval => Sys2Proof.Machine.execCheckpointInterval s
  | .checkpointSuperblock failed => Sys2Proof.Machine.execCheckpointSuperblock failed s
  | .superblockWrite failed => Sys2Proof.Machine.execSuperblockWrite failed s
  | .dataLanded id landing => Sys2Proof.Machine.execDataLanded id landing s
  | .grainCompressed id engine disagrees => Sys2Proof.Machine.execGrainCompressed id engine disagrees s
  | .rowGathered stripe => Sys2Proof.Machine.execRowGathered stripe s
  | .rowCloseTimeout stripe => Sys2Proof.Machine.execRowCloseTimeout stripe s
  | .stripeOpen kind => Sys2Proof.Machine.execStripeOpen kind s
  | .writeCompletion id => Sys2Proof.Machine.execWriteCompletion id s
  | .grainDecompress id grain engine result => Sys2Proof.Machine.execGrainDecompress id grain engine result s
  | .victimSelect footers => Sys2Proof.Machine.execVictimSelect footers s
  | .grainRelocate read => Sys2Proof.Machine.execGrainRelocate read s
  | .pinnedRetry stripe reads => Sys2Proof.Machine.execPinnedRetry stripe reads s
  | .releaseReconcile block footer => Sys2Proof.Machine.execReleaseReconcile block footer s
  | .stripeRelease stripe => Sys2Proof.Machine.execStripeRelease stripe s
  | .wearLevellingCheck die => Sys2Proof.Machine.execWearLevellingCheck die s
  | .blockTableWrite => Sys2Proof.Machine.execBlockTableWrite s
  | .gaugeScan die runs => Sys2Proof.Machine.execGaugeScan die runs s
  | .gaugeScanInterval scans => Sys2Proof.Machine.execGaugeScanInterval scans s
  | .gaugeRefresh die runs eraseFailed programFailed => Sys2Proof.Machine.execGaugeRefresh die runs eraseFailed programFailed s
  | .scrub block first again => Sys2Proof.Machine.execScrub block first again s
  | .nextWakeCompute => Sys2Proof.Machine.execNextWakeCompute s
  | .nextWakeDueReached => Sys2Proof.Machine.execNextWakeDueReached s
  | .restripe read known => Sys2Proof.Machine.execRestripe read known s
  | .mapSweep => Sys2Proof.Machine.execMapSweep s
  | .lostRangeAppend => Sys2Proof.Machine.execLostRangeAppend s
  | .linkUp port rate width => Sys2Proof.Machine.execLinkUp port rate width s
  | .linkDown port => Sys2Proof.Machine.execLinkDown port s
  | .hotReset port => Sys2Proof.Machine.execHotReset port s
  | .functionLevelReset port => Sys2Proof.Machine.execFunctionLevelReset port s
  | .linkDetectRetry port found => Sys2Proof.Machine.execLinkDetectRetry port found s
  | .powerStateWrite port value => Sys2Proof.Machine.execPowerStateWrite port value s
  | .pmeTurnOff port => Sys2Proof.Machine.execPmeTurnOff port s
  | .wakeNRelease port => Sys2Proof.Machine.execWakeNRelease port s
  | .aspmL1Entry port idleUs => Sys2Proof.Machine.execAspmL1Entry port idleUs s
  | .msixUnmask port vector => Sys2Proof.Machine.execMsixUnmask port vector s
  | .tlpError port error header cmd => Sys2Proof.Machine.execTlpError port error header cmd s
  | .completionTimeout port elapsedUs header cmd => Sys2Proof.Machine.execCompletionTimeout port elapsedUs header cmd s
  | .busMasterHoldTimeout port sqid cid => Sys2Proof.Machine.execBusMasterHoldTimeout port sqid cid s
  | .vpdRead port address => Sys2Proof.Machine.execVpdRead port address s
  | .vpdWrite port address => Sys2Proof.Machine.execVpdWrite port address s
  | .controllerEnable port cc aqa => Sys2Proof.Machine.execControllerEnable port cc aqa s
  | .controllerDisable port => Sys2Proof.Machine.execControllerDisable port s
  | .shutdownNotification port => Sys2Proof.Machine.execShutdownNotification port s
  | .shutdownProcessingComplete => Sys2Proof.Machine.execShutdownProcessingComplete s
  | .sqTailDoorbell port sqid tail => Sys2Proof.Machine.execSqTailDoorbell port sqid tail s
  | .cqHeadDoorbell port cqid head => Sys2Proof.Machine.execCqHeadDoorbell port cqid head s
  | .keepAliveExpired port => Sys2Proof.Machine.execKeepAliveExpired port s
  | .createIoSq cmd qid size cqid contiguous => Sys2Proof.Machine.execCreateIoSq cmd qid size cqid contiguous s
  | .createIoCq cmd qid size vector contiguous interrupts => Sys2Proof.Machine.execCreateIoCq cmd qid size vector contiguous interrupts s
  | .deleteIoSq cmd qid => Sys2Proof.Machine.execDeleteIoSq cmd qid s
  | .deleteIoCq cmd qid => Sys2Proof.Machine.execDeleteIoCq cmd qid s
  | .getLogPage cmd lid offset bytes retain create => Sys2Proof.Machine.execGetLogPage cmd lid offset bytes retain create s
  | .identify cmd cns cntid csi => Sys2Proof.Machine.execIdentify cmd cns cntid csi s
  | .abort cmd sqid cid => Sys2Proof.Machine.execAbort cmd sqid cid s
  | .setFeatures cmd fid save value data => Sys2Proof.Machine.execSetFeatures cmd fid save value data s
  | .getFeatures cmd fid select value => Sys2Proof.Machine.execGetFeatures cmd fid select value s
  | .asyncEventRequest cmd => Sys2Proof.Machine.execAsyncEventRequest cmd s
  | .namespaceCreate cmd nsze ncap flbas dps nmic parity => Sys2Proof.Machine.execNamespaceCreate cmd nsze ncap flbas dps nmic parity s
  | .namespaceDelete cmd => Sys2Proof.Machine.execNamespaceDelete cmd s
  | .namespaceAttach cmd controllers => Sys2Proof.Machine.execNamespaceAttach cmd controllers s
  | .namespaceDetach cmd controllers => Sys2Proof.Machine.execNamespaceDetach cmd controllers s
  | .firmwareImageDownload cmd offset bytes header failures => Sys2Proof.Machine.execFirmwareImageDownload cmd offset bytes header failures s
  | .firmwareCommitReplace cmd slot => Sys2Proof.Machine.execFirmwareCommitReplace cmd slot s
  | .firmwareCommitActivate cmd slot => Sys2Proof.Machine.execFirmwareCommitActivate cmd slot s
  | .firmwareCommitSelect cmd slot => Sys2Proof.Machine.execFirmwareCommitSelect cmd slot s
  | .firmwareCommitImmediate cmd slot => Sys2Proof.Machine.execFirmwareCommitImmediate cmd slot s
  | .firmwareCommitDone failures => Sys2Proof.Machine.execFirmwareCommitDone failures s
  | .keepAlive cmd => Sys2Proof.Machine.execKeepAlive cmd s
  | .formatNvm cmd flbas dps ses => Sys2Proof.Machine.execFormatNvm cmd flbas dps ses s
  | .sanitizeBlockErase cmd ause => Sys2Proof.Machine.execSanitizeBlockErase cmd ause s
  | .sanitizeCryptoErase cmd ause => Sys2Proof.Machine.execSanitizeCryptoErase cmd ause s
  | .sanitizeExitFailure cmd => Sys2Proof.Machine.execSanitizeExitFailure cmd s
  | .sanitizeOverwrite cmd => Sys2Proof.Machine.execSanitizeOverwrite cmd s
  | .sanitizeComplete failed eraseFailed => Sys2Proof.Machine.execSanitizeComplete failed eraseFailed s
  | .dictionaryWrite cmd index sub value out => Sys2Proof.Machine.execDictionaryWrite cmd index sub value out s
  | .dictionaryRead cmd index sub bytes => Sys2Proof.Machine.execDictionaryRead cmd index sub bytes s
  | .authoriseChallenge cmd slot op arg => Sys2Proof.Machine.execAuthoriseChallenge cmd slot op arg s
  | .authoriseRespond cmd slot op arg nonce response => Sys2Proof.Machine.execAuthoriseRespond cmd slot op arg nonce response s
  | .flush cmd => Sys2Proof.Machine.execFlush cmd s
  | .write cmd slba nlb fua => Sys2Proof.Machine.execWrite cmd slba nlb fua s
  | .read cmd slba nlb fua limited pointers => Sys2Proof.Machine.execRead cmd slba nlb fua limited pointers s
  | .writeZeroes cmd slba nlb fua unreadable => Sys2Proof.Machine.execWriteZeroes cmd slba nlb fua unreadable s
  | .datasetManagement cmd ranges deallocate => Sys2Proof.Machine.execDatasetManagement cmd ranges deallocate s
  | .verify cmd slba nlb limited => Sys2Proof.Machine.execVerify cmd slba nlb limited s
  | .reservationRegister cmd action ignoreKey cptpl current new => Sys2Proof.Machine.execReservationRegister cmd action ignoreKey cptpl current new s
  | .reservationReport cmd extended bytes => Sys2Proof.Machine.execReservationReport cmd extended bytes s
  | .reservationAcquire cmd action ignoreKey rtype current preempt => Sys2Proof.Machine.execReservationAcquire cmd action ignoreKey rtype current preempt s
  | .reservationRelease cmd action ignoreKey rtype current => Sys2Proof.Machine.execReservationRelease cmd action ignoreKey rtype current s
  | .objectWrite path index sub value out => Sys2Proof.Machine.execObjectWrite path index sub value out s
  | .groupMemberWrite path index sub value => Sys2Proof.Machine.execGroupMemberWrite path index sub value s
  | .groupCommit path index out => Sys2Proof.Machine.execGroupCommit path index out s
  | .groupDiscard path index => Sys2Proof.Machine.execGroupDiscard path index s
  | .settingsAcknowledge path value => Sys2Proof.Machine.execSettingsAcknowledge path value s
  | .settingsRestoreDefaults path value out => Sys2Proof.Machine.execSettingsRestoreDefaults path value out s
  | .logbookClear path value => Sys2Proof.Machine.execLogbookClear path value s
  | .ledgerFreeRead path ledger => Sys2Proof.Machine.execLedgerFreeRead path ledger s
  | .ledgerOwnerHeldRead path ledger => Sys2Proof.Machine.execLedgerOwnerHeldRead path ledger s
  | .authKeyWrite path slot key => Sys2Proof.Machine.execAuthKeyWrite path slot key s
  | .authRightsWrite path slot rights => Sys2Proof.Machine.execAuthRightsWrite path slot rights s
  | .supplyWarningLevelWrite path value out => Sys2Proof.Machine.execSupplyWarningLevelWrite path value out s
  | .recoveryChunk path chunk out => Sys2Proof.Machine.execRecoveryChunk path chunk out s
  | .recoveryCommitReplace path => Sys2Proof.Machine.execRecoveryCommitReplace path s
  | .recoveryCommitActivate path => Sys2Proof.Machine.execRecoveryCommitActivate path s
  | .recoveryCommitSelect path => Sys2Proof.Machine.execRecoveryCommitSelect path s
  | .challengeExpiry => Sys2Proof.Machine.execChallengeExpiry s
  | .grantExpiry => Sys2Proof.Machine.execGrantExpiry s
  | .pathUnlocked => Sys2Proof.Machine.execPathUnlocked s
  | .canRead req => Sys2Proof.Machine.execCanRead req s
  | .canWrite req value out => Sys2Proof.Machine.execCanWrite req value out s
  | .canSegmentedWrite req total => Sys2Proof.Machine.execCanSegmentedWrite req total s
  | .canAbortTransfer req => Sys2Proof.Machine.execCanAbortTransfer req s
  | .canAuthoriseChallenge req slot op arg => Sys2Proof.Machine.execCanAuthoriseChallenge req slot op arg s
  | .canAuthoriseRespond req slot op arg nonce response => Sys2Proof.Machine.execCanAuthoriseRespond req slot op arg nonce response s
  | .canSegment tag segment last short data out => Sys2Proof.Machine.execCanSegment tag segment last short data out s
  | .segmentTimeout => Sys2Proof.Machine.execSegmentTimeout s
  | .heartbeat => Sys2Proof.Machine.execHeartbeat s
  | .timeSync ms elapsed => Sys2Proof.Machine.execTimeSync ms elapsed s
  | .wakeFrame flags seq => Sys2Proof.Machine.execWakeFrame flags seq s
  | .canFrameIgnored => Sys2Proof.Machine.execCanFrameIgnored s
  | .canNodeIdConflict func => Sys2Proof.Machine.execCanNodeIdConflict func s
  | .canBusOff => Sys2Proof.Machine.execCanBusOff s
  | .canBusOffRecovery => Sys2Proof.Machine.execCanBusOffRecovery s
  | .canFrameTransmitted error wins => Sys2Proof.Machine.execCanFrameTransmitted error wins s
  | .noticeWithdrawal => Sys2Proof.Machine.execNoticeWithdrawal s
  | .logbookFlush => Sys2Proof.Machine.execLogbookFlush s
  | .ceilingEntryVerified => Sys2Proof.Machine.execCeilingEntryVerified s
  | .operatingHourTick => Sys2Proof.Machine.execOperatingHourTick s
  | .powerOnResetAssert => Sys2Proof.Machine.execPowerOnResetAssert s
  | .busMasterEnable port bme cfg clearUncorrectable clearCorrectable => Sys2Proof.Machine.execBusMasterEnable port bme cfg clearUncorrectable clearCorrectable s
  | .tlerExpiry id => Sys2Proof.Machine.execTlerExpiry id s
  | .invalidCommandOpcode cmd => Sys2Proof.Machine.execInvalidCommandOpcode cmd s
  | .canUnknownCommand req => Sys2Proof.Machine.execCanUnknownCommand req s
  | .interruptCoalescingTime port cqid => Sys2Proof.Machine.execInterruptCoalescingTime port cqid s
  | .msiEnable port msix functionMask msi multiple masked => Sys2Proof.Machine.execMsiEnable port msix functionMask msi multiple masked s
  | .canReceiveError increment => Sys2Proof.Machine.execCanReceiveError increment s

end Sys2Proof.Machine
end

