-- ==== Sys2Proof/Safety.lean ====
section
/-! DEFINITION. The terms that claims are stated in: what a command does, what it records, and what stays true of the ledgers and of the
logbook. -/
namespace Sys2Proof.Machine

/-- Command `c` runs in state `s`, leaves the queue as it is and brings the device into a state with property `P`. -/
def Does (c : Instr) (s : State) (P : Device → Prop) : Prop := ∃ d, exec c s = .next { s with dev := d } ∧ P d

/-- Command `c` changes nothing in state `s`. -/
def Idle (c : Instr) (s : State) : Prop := exec c s = .next s

/-! ### Frames -/

/-- The objects that taking a record, queueing a frame or posting a completion may change: LogbookNoticesDropped, LogbookRecordsOverwritten,
CanTxCancelled, and PortLinkState of a link that leaves L1 (R350). -/
def asideObjs : List Nat :=
  [Obj.logbookNoticesDropped, Obj.logbookRecordsOverwritten, Obj.canTxCancelled] ++ (List.range 4).map Obj.portLinkState

/-- From `d` to `e` nothing has changed but what taking records, queueing CAN frames, raising events and posting completions change: the
logbook's writer, the transmit queue and its ledger, completion queues and pending events of the ports, the counter log of the code store and
the telemetry capture. -/
structure Aside (d e : Device) : Prop where
  ctl : e.ctl = d.ctl
  therm : e.therm = d.therm
  holdup : e.holdup = d.holdup
  domains : e.domains = d.domains
  cpx : e.cpx = d.cpx
  res : e.res = d.res
  settings : e.settings = d.settings
  sec : e.sec = d.sec
  media : e.media = d.media
  held : e.held = d.held
  delayed : e.delayed = d.delayed
  damaged : e.damaged = d.damaged
  objs : ∀ k, k ∉ asideObjs → getObj k e = getObj k d
  ledgers : ∀ l, l ≠ 7 → ledger l e = ledger l d
  log : e.log = { d.log with nextSeq := e.log.nextSeq, raising := e.log.raising, waiting := e.log.waiting, ring := e.log.ring
                             lostFirst := e.log.lostFirst, lostCount := e.log.lostCount, flushDue := e.log.flushDue }
  can : e.can = { d.can with queue := e.can.queue, backlog := e.can.backlog, noticeMs := e.can.noticeMs, hbSeq := e.can.hbSeq
                             bootSent := e.can.bootSent, busOffSince := e.can.busOffSince }
  cs : e.cs = { d.cs with counters := e.cs.counters, logs := e.cs.logs, eraseCounts := e.cs.eraseCounts }
  sub : e.sub = { d.sub with telemetry := e.sub.telemetry, telemetryGen := e.sub.telemetryGen
                             telemetryAvailable := e.sub.telemetryAvailable }
  port : ∀ p, port p e = { port p d with cqs := (port p e).cqs, messages := (port p e).messages, pendingVec := (port p e).pendingVec
                                         aers := (port p e).aers, events := (port p e).events, eventsMasked := (port p e).eventsMasked
                                         held := (port p e).held }

/-- Every object but those listed reads as before. -/
def OnlyObjs (ks : List Nat) (d e : Device) : Prop := ∀ k, k ∉ ks → getObj k e = getObj k d

/-- Every ledger but those listed is as before. -/
def OnlyLedgers (ls : List Nat) (d e : Device) : Prop := ∀ l, l ∉ ls → ledger l e = ledger l d

/-- Every port but those listed is as before. -/
def OnlyPorts (ps : List Nat) (d e : Device) : Prop := ∀ p, p ∉ ps → port p e = port p d

/-- From `d` to `e` nothing has changed but the medium, objects, ledgers, what arbitrates them, entries of power domains that a bank's loss cuts
off, and what `Aside` admits. -/
def MediumOnly (d e : Device) : Prop :=
  Aside { d with objs := e.objs, ledgers := e.ledgers, res := e.res, media := e.media, domains := { d.domains with entering := e.domains.entering } } e

/-- Of the medium, nothing has changed but the superblock with its anchor groups and saved tables, and the stripes, groups and blocks into which
system frames go. -/
def FramesOnly (d e : Device) : Prop :=
  e.media = { d.media with sb := e.media.sb, sbDue := e.media.sbDue, anchors := e.media.anchors, dies := e.media.dies
                           stripes := e.media.stripes, groups := e.media.groups, blocks := e.media.blocks }

/-- The counts of filler frames, short rows and padding rows. -/
def frameObjs : List Nat := [Obj.fillerFrames, Obj.shortRows, Obj.paddingRows]

/-- Buffers of a pool are held by an owner, each once, so that their return breaks no ledger (R487). -/
def Holds (pool owner : Nat) (is : List Nat) (d : Device) : Prop :=
  is.Nodup ∧ (∀ i ∈ is, (smGet {} d.res.buffers (pool * 65536 + i)).owner = owner) ∧ is.length ≤ heldBy pool owner d

/-- The pool C buffers of a stripe are held by its engine (R190). -/
def BuffersHeld (n : Nat) (d : Device) : Prop := Holds 5 0x41 ((stripe n d).standing ++ (stripe n d).sums.map (·.2)) d

/-- A write command, and a read, hold their pool D context and the pool B buffers of their channel (Table 6.1, R503). -/
def WriteHolds (w : WriteCmd) (d : Device) : Prop := Holds 2 (w.port + 1) w.context.toList d ∧ Holds 4 (0x10 + w.channel) w.landing d
def ReadHolds (r : ReadCmd) (d : Device) : Prop :=
  Holds 2 (r.port + 1) r.context.toList d ∧ Holds 4 (0x10 + r.channel) (r.grains.filterMap (·.buffer)) d

/-- The grains in flight hold their pool B buffers, each once (Table 6.1). -/
def FlightsHold (d : Device) : Prop :=
  let bs := (d.media.flight.map (·.buffers)).flatten
  (bs.map (·.2)).Nodup ∧ (∀ b ∈ bs, (smGet {} d.res.buffers (4 * 65536 + b.2)).owner = b.1) ∧
  ∀ b ∈ bs, (bs.filter (·.1 == b.1)).length ≤ heldBy 4 b.1 d

/-- What the commands and the grains in flight hold of the pools: pool, owner and index (Table 6.1). -/
def poolClaims (d : Device) : List (Nat × Nat × Nat) :=
  (d.media.wp.writes.map fun w => w.context.toList.map (2, w.port + 1, ·) ++ w.landing.map (4, 0x10 + w.channel, ·)).flatten
    ++ (d.media.wp.reads.map fun r => r.context.toList.map (2, r.port + 1, ·)
        ++ (r.grains.filterMap (·.buffer)).map (4, 0x10 + r.channel, ·)).flatten
    ++ (d.media.wp.flushes.map fun f => f.context.toList.map (2, f.port + 1, ·)).flatten
    ++ (d.media.flight.map fun g => g.buffers.map fun b => (4, b.1, b.2)).flatten

/-- Every buffer that a command or a grain in flight names is its owner's, and none is named twice: no return of one breaks a ledger (R487). -/
def PoolsHold (d : Device) : Prop :=
  ((poolClaims d).map fun c => (c.1, c.2.2)).Nodup ∧
  (∀ c ∈ poolClaims d, (smGet {} d.res.buffers (c.1 * 65536 + c.2.2)).owner = c.2.1) ∧
  ∀ c ∈ poolClaims d, ((poolClaims d).filter fun x => x.1 == c.1 && x.2.1 == c.2.1).length ≤ heldBy c.1 c.2.1 d

/-- No read of an array read times out. -/
def InTime (a : ArrayRead) : Prop := a.timedOut = false ∧ ∀ c ∈ a.codewords, ∀ p ∈ c.2, p.timedOut = false

/-- No gauge block of a die waits for a free one to replace it (R96). -/
def GaugeNamed (n : Nat) (d : Device) : Prop := ∀ g ∈ gaugeBlocks n d, (smGet {} d.media.blocks g).state ≠ 5

/-- An owner can take `n` buffers of a pool now (R492, R493, R497). -/
def CanTake (owner pool n : Nat) (d : Device) : Prop := poolsActive d = true ∧ poolWaits owner pool d = false ∧ grantOk pool owner n d = true

/-- The tokens of a die's operation are held by its bank (R486). -/
def ChargeHeld (n : Nat) (d : Device) : Prop := (die n d).op.charge ≤ heldBy 1 (bankOfDie n + 1) d

/-- An update of the map that cannot be applied yet waits after the others, its pages asked for, and nothing else has changed but what `Aside`
admits (R148, R169, R173). -/
def UpdateWaits (u : MapUpdate) (before d : Device) : Prop :=
  d.media.map.waits = before.media.map.waits ++ [u] ∧ OnlyObjs asideObjs before d ∧
  Aside { before with objs := d.objs, media := { before.media with map := { before.media.map with
    waits := d.media.map.waits, asked := d.media.map.asked, fullRecorded := d.media.map.fullRecorded } } } d

/-! ### Host commands -/

/-- The completion queue of a command. -/
def cqOf (c : HostCmd) (d : Device) : Nat := if c.sqid = 0 then 0 else (smGet {} (port c.port.val d).sqs c.sqid).cqid

/-- The completion of a command can be posted at once, beside those of waiting Asynchronous Event Requests: its port sends, and its completion
queue has room (R339, R360). -/
def RoomFor (c : HostCmd) (d : Device) : Prop :=
  portSends c.port.val d = true ∧ (smGet {} (port c.port.val d).cqs (cqOf c d)).live = true ∧
  (smGet {} (port c.port.val d).cqs (cqOf c d)).posted.length + (port c.port.val d).aers.length + 1
    < (smGet {} (port c.port.val d).cqs (cqOf c d)).size

/-- The command is fetched and not refused for a shutdown notification, and its completion can be posted (R360, R48). -/
def Fetchable (c : HostCmd) (d : Device) : Prop :=
  portFetches c.port.val d = true ∧ queueHolds c.port.val c.sqid d = true ∧ afterNotice c.port.val c.sqid d = false ∧ RoomFor c d

/-- A pool D context is free for the command at its fetch (R360, R494). -/
def ContextFree (c : HostCmd) (d : Device) : Prop := poolsActive d = true → grantOk 2 (c.port.val + 1) 1 d = true

/-- A completion entry of the command, with property `P`, has been posted. -/
def Completes (c : HostCmd) (P : Completion → Prop) (before d : Device) : Prop :=
  ∃ e ∈ (smGet {} (port c.port.val d).cqs (cqOf c before)).posted.drop (smGet {} (port c.port.val before).cqs (cqOf c before)).posted.length,
    e.sqid = c.sqid ∧ e.cid = c.cid ∧ P e

/-- The command has completed successfully, with this Dword 0. -/
def Succeeds (c : HostCmd) (dw0 : Nat) (before d : Device) : Prop := Completes c (fun e => e.sct = 0 ∧ e.sc = 0 ∧ e.dw0 = dw0) before d

/-- The command is an admin command that its port fetches, with no reserved field set (R360, R363). -/
def AdminReady (c : HostCmd) (d : Device) : Prop := c.sqid = 0 ∧ c.reserved = false ∧ Fetchable c d ∧ ContextFree c d

/-- The command is an I/O command that its port fetches and the mode serves, with no reserved field set (R50, R51, R360, R363, R550). -/
def IoReady (c : HostCmd) (d : Device) : Prop :=
  c.sqid ≠ 0 ∧ c.reserved = false ∧ Fetchable c d ∧ d.ctl.mode ∉ [Mode.m8, .m9] ∧ d.sec.san.failed = false

/-- A block command passes the checks of R363: its namespace is attached, its blocks lie in it, no Format runs, no reservation is against it. -/
def BlocksOk (c : HostCmd) (slba nlb : Nat) (k : IoClass) (d : Device) : Prop :=
  nsidValid c d = true ∧ slba + nlb ≤ (namespace_ (slotOf c) d).nsze ∧ (namespace_ (slotOf c) d).formatting = false ∧
  reservationConflict c.port.val (slotOf c) k d = false

/-- A write passes the rows of Table 6.2 before admission. -/
def WriteOk (c : HostCmd) (d : Device) : Prop :=
  d.settings.lost = false ∧ slotOf c ∉ d.sec.keyLost ∧ programInhibited d = false ∧ CanTake (c.port.val + 1) 2 1 d

/-- What the fetch of a command changes, and nothing but that and what `Aside` admits. -/
def FetchedOnly (c : HostCmd) (before d : Device) : Prop := Aside (takeEntry c.port.val c.sqid before) d

/-! ### Requests of the access paths -/

/-- The access path may write: it is one of R419's, and the mode admits writes (R403). -/
def Admitted (path : Nat) (d : Device) : Prop :=
  1 ≤ path ∧ path ≤ 5 ∧ d.ctl.mode ∈ [Mode.m3, .m4, .m5, .m6, .m7, .m8, .m9]

/-- The access path may write the guarded object `key`: it is admitted, not locked out, and holds a grant for operation 0x01 on that object
(R417, R418). -/
def Granted (path key : Nat) (d : Device) : Prop :=
  Admitted path d ∧ pathLocked path d = false ∧ grantFor path 1 (key / 256 + 65536 * (key % 256)) d = true

/-- A group record of `n` bytes can be stored: the settings copies have room for it (R406, R410). -/
def RoomToStore (n : Nat) (d : Device) : Prop := d.settings.copyA.used + n ≤ 65536 ∧ d.settings.copyB.used + n ≤ 65536

/-- The request of a path has been answered without an abort, and counted. -/
def Answered (path : Nat) (before d : Device) : Prop :=
  (pathState path d).abort = none ∧
  getObj Obj.dictionaryRequests d = (getObj Obj.dictionaryRequests before + 1) % objModulus Obj.dictionaryRequests

/-- Nothing has changed but the path's own state, the settings copies, the counts of requests, the objects named, and what `Aside` admits. -/
def PathOnly (path : Nat) (ks : List Nat) (before d : Device) : Prop :=
  OnlyObjs ([Obj.dictionaryRequests, Obj.dictionaryAborts] ++ ks ++ asideObjs) before d ∧
  (∀ p, p ≠ path → pathState p d = pathState p before) ∧
  d.settings = { before.settings with copyA := d.settings.copyA, copyB := d.settings.copyB, paths := d.settings.paths } ∧
  Aside { before with objs := d.objs, settings := d.settings } d

/-- The active settings copy holds one more group record, and so does the other one where it is of the same version (R406, R408). -/
def Stored (r : GroupRecord) (before d : Device) : Prop :=
  let a := before.cs.activeB
  (settingsCopy a d).records = (settingsCopy a before).records ++ [r] ∧
  ((settingsCopy (!a) before).valid = true → (settingsCopy (!a) before).version = (settingsCopy a before).version →
    (settingsCopy (!a) d).records = (settingsCopy (!a) before).records ++ [r])

/-- The object is a stored setting whose value alone is what a write of it changes. -/
def PlainSetting (key : Nat) : Prop :=
  absent (key / 256) (key % 256) = none ∧ accessOf key = .rws ∧ storedObject key = true ∧ isMember key = false ∧
  key ∉ [Obj.tokenPoolSize, Obj.supplyWarningMv, Obj.tokenBankQuota, Obj.tokenBankReserve, Obj.writeBufferMaxGrains, Obj.openHostStripes,
    Obj.openMovedStripes] ∧ key / 256 ≠ 0x5020

/-! ### The management link -/

/-- The node answers a dictionary request at once: it is not silent, a dictionary is there, no frame of the dictionary waits for a slot, one is
free for it, and it holds less than its reserve (R430, R433, R448). -/
def CanAnswers (d : Device) : Prop :=
  d.can.silent = false ∧ d.ctl.mode ≠ .m0 ∧ d.ctl.mode ≠ .m1 ∧ (∀ f ∈ d.can.backlog, f.owner ≠ 3) ∧ grantOk 7 3 1 d = true ∧ heldBy 7 3 d < 8

/-- One more response to a request has been queued: its status, type, access byte, length and data, laid out as Table 14.4 has it. -/
def Responds (r : CanRequest) (status typ access length : Nat) (data : List Byte) (before d : Device) : Prop :=
  let f : CanFrame := { func := 6, owner := 3, queuedMs := nowMs before, tag := r.tag
                        data := canPad (leBytes 1 status ++ leBytes 1 r.tag ++ leBytes 2 r.index ++ leBytes 1 r.sub ++ leBytes 1 typ
                          ++ leBytes 1 access ++ leBytes 1 length ++ data) }
  d.can.queue.count f = before.can.queue.count f + 1

/-- Nothing has changed but the transmit queue and its ledger, the transaction, the CAN path's answer, and the listed counts. -/
def LinkOnly (objs : List Nat) (before d : Device) : Prop :=
  OnlyObjs objs before d ∧ OnlyLedgers [7] before d ∧
  (∀ p, p ≠ canPath → pathState p d = pathState p before) ∧
  d = { before with objs := d.objs, ledgers := d.ledgers, settings := { before.settings with paths := d.settings.paths }
                    can := { before.can with queue := d.can.queue, backlog := d.can.backlog, trans := d.can.trans } }

/-- A request that was served or aborted has changed nothing else. -/
def RequestOnly (before d : Device) : Prop :=
  LinkOnly [Obj.canFramesActedOn, Obj.dictionaryRequests, Obj.dictionaryAborts] before d

/-- The protocol refusal that names the reason has been queued and counted, and nothing else has changed (Table 14.6, 0x1012.07). -/
def Refuses (r : CanRequest) (reason : Byte) (before d : Device) : Prop :=
  Responds r 0x04 0 0 0 [reason] before d ∧
  getObj Obj.canProtocolRefusals d = (getObj Obj.canProtocolRefusals before + 1) % 2 ^ 32 ∧
  LinkOnly [Obj.canFramesActedOn, Obj.canProtocolRefusals] before d

/-! ### Ledgers -/

/-- R29 for one ledger: no owner is listed twice or with nothing, and free plus the held counts is the total. -/
def LedgerConserved (g : Ledger) : Prop := smWf 0 g.held = true ∧ g.free + smSum g.held = g.total

/-- R29 for every ledger. -/
def LedgersConserved (m : SMap Ledger) : Prop := ∀ l, LedgerConserved (smGet {} m l)

/-- A ledger whose total's pair agrees beside it (R25). -/
def LedgerSound (g : Ledger) : Prop := LedgerConserved g ∧ pairMatches g.total g.inverse = true

/-- Every ledger is conserved with its pair whole, and no mismatch of a total register (Table 1.5, row 3) waits for its reader. -/
def LedgersSound (d : Device) : Prop := (∀ l, LedgerSound (smGet {} d.ledgers l)) ∧ ∀ x ∈ d.damaged, x.row ≠ 3

/-- The mismatched pairs that a command brings with it. -/
def mismatchesOf : Instr → List Mismatch
  | .controlEpoch x => x.mismatches ++ x.damaged
  | .resetRelease x => x.mismatches
  | _ => []

/-! ### The logbook -/

/-- The newest record of the ring. -/
def newest (d : Device) : Option LogRecord := d.log.ring.getLast?.map (·.entry)

/-- The writer takes a record at once: the run start is past, nothing waits, and the next number lies below the ceiling (R557). -/
def WriterOpen (d : Device) : Prop := d.log.runStarted = true ∧ d.log.waiting = [] ∧ d.log.nextSeq ≠ d.log.ceiling

/-- The newest record of `d` has this code, these snapshots, and the number that came next before. -/
def Recorded (code : Nat) (snaps : List Nat) (before d : Device) : Prop :=
  ∃ r, newest d = some r ∧ r.code = code ∧ r.seq = before.log.nextSeq ∧ (snaps.map (· % 2 ^ 40)).take 8 <+: r.snaps

/-- A sequence number: 32 bits, never 0 (R556). -/
def InSeq (n : Nat) : Prop := 1 ≤ n ∧ n < 2 ^ 32

/-- The ring holds at most 4,096 records (R563), and every number the writer works with is one that R556 allows: the next one, the ceiling
in force, the one being raised, and that of the newest counter entry (R557). -/
def LogOk (g : Logbook) (c : CounterEntry) : Prop :=
  g.ring.length ≤ 4096 ∧ InSeq g.nextSeq ∧ InSeq g.ceiling ∧ (∀ n, g.raising = some n → InSeq n) ∧ InSeq c.ceiling

end Sys2Proof.Machine
end

