-- ==== Sys2Proof/Certificates/Slice0/Obligations.lean ====
section
/-! DEFINITION. The statements for the provers, by the chapters of spec/. A clause that ends in `Does c s fun d => …` says that command `c`
completes in state `s` with its own effect, and what it leaves alone. -/
open Sys2Proof Sys2Proof.Machine

/-! ### The queue -/

/-- A step runs the command at the front of the queue, on the state with the rest of the queue. -/
def Obligations.StepRunsFrontCommand : Prop :=
  ∀ (s : State) (c : Instr) (cs : List Instr), s.pending = c :: cs → step s = exec c { s with pending := cs }

/-- With nothing waiting the block idles (the model's choice: notes/assumptions/1.md). -/
def Obligations.EmptyQueueIdles : Prop := ∀ s : State, s.pending = [] → step s = .next s

/-- Every command ends in a next state and leaves the queue to the step. -/
def Obligations.ExecKeepsQueue : Prop := ∀ (c : Instr) (s : State), Does c s fun _ => True

/-! ### Invariants -/

/-- R29 and R25, whatever the command: after a step free plus the held counts is the total of every ledger and every total's pair agrees, if
it was so before. A mismatch of a total register (Table 1.5, row 3) is the one fault that sets a total beside the counts; none waits
for its reader here and the command brings none. -/
def Obligations.StepConservesLedgers : Prop :=
  ∀ s t : State, LedgersSound s.dev → (∀ c ∈ s.pending.head?, ∀ x ∈ mismatchesOf c, x.row ≠ 3) → step s = .next t → LedgersSound t.dev

/-- R29 and R25 hold in the state after reset. -/
def Obligations.ResetConservesLedgers : Prop := LedgersSound State.reset.dev

/-- R556, R563 and the numbers of R557, whatever the command: the ring keeps to 4,096 records and no number is 0 or beyond 32 bits. -/
def Obligations.StepKeepsLogbookBounds : Prop :=
  ∀ s t : State, LogOk s.dev.log s.dev.cs.counters → step s = .next t → LogOk t.dev.log t.dev.cs.counters

/-- The bounds of the logbook hold after reset. -/
def Obligations.ResetKeepsLogbookBounds : Prop := LogOk State.reset.dev.log State.reset.dev.cs.counters

/-- What reset leaves by R32, R35 and R557: M3 with M1 before it, every ledger free in full with nothing held, every die unlisted, no
command fetched, numbering that starts at 1 below a ceiling of 65,536, and the power-on count of ModeChangeCount at 0. -/
def Obligations.ResetState : Prop :=
  State.reset.pending = [] ∧ State.reset.dev.ctl.mode = .m3 ∧ State.reset.dev.ctl.prev = .m1 ∧
  (∀ l ∈ [1, 2, 3, 4, 5, 6, 7, 8], (ledger l State.reset.dev).free = (ledger l State.reset.dev).total ∧
    (ledger l State.reset.dev).held = [] ∧ 0 < (ledger l State.reset.dev).total) ∧
  State.reset.dev.log.nextSeq = 1 ∧ State.reset.dev.log.ceiling = 65536 ∧ getObj Obj.modeChangeCount State.reset.dev = 0 ∧
  State.reset.dev.held = [] ∧ State.reset.dev.delayed = []

/-! ### Supply and reset inputs (spec/02, spec/15, spec/21) -/

/-- R40, R609, R615: VSYS_RISE leads from M0 to M1 and unlocks every path, VSYS_RESET_FALL to M1 or, with VSYS gone, to M0, which records
nothing (R37); POWER_ON_RESET_RELEASE drives VID 0x78 and takes the node number (R430), POWER_ON_RESET_ASSERT goes to M1. Where M1 is
entered every PEN is low, every link down and every WAKE_N released. -/
def Obligations.SupplyInputsSetTheMode : Prop :=
  (∀ (s : State) (fault : Fin 3), s.dev.ctl.mode = .m0 → s.dev.ctl.vsysUp = false → Does (.vsysRise fault) s fun d =>
    d.ctl.mode = .m1 ∧ d.ctl.prev = .m0 ∧ d.ctl.vsysUp = true ∧ d.ctl.haltLatch = false ∧
    (∀ p, (pathState p d).lockedUntil = none) ∧ d.sec = s.dev.sec ∧ d.holdup = s.dev.holdup ∧ d.domains = s.dev.domains) ∧
  (∀ s : State, s.dev.ctl.mode ≠ .m0 → s.dev.ctl.mode ≠ .m1 → Does (.vsysResetFall false) s fun d =>
    d.ctl.mode = .m1 ∧ d.ctl.prev = s.dev.ctl.mode ∧ d.ctl.vsysUp = false ∧ d.media.pen = [] ∧
    (∀ p, p < 4 → (port p d).linkUp = false ∧ (port p d).wakeMs = none) ∧ d.sec = s.dev.sec ∧ d.settings = s.dev.settings) ∧
  (∀ s : State, s.dev.ctl.mode ≠ .m0 → Does (.vsysResetFall true) s fun d =>
    d.ctl.mode = .m0 ∧ d.ctl.prev = s.dev.ctl.mode ∧ d.ctl.vsysUp = false ∧ d.media.pen = [] ∧ d.log = s.dev.log ∧
    (∀ p, p < 4 → (port p d).linkUp = false ∧ (port p d).wakeMs = none) ∧ d.sec = s.dev.sec ∧ d.settings = s.dev.settings) ∧
  (∀ (s : State) (nodeId : Nat) (fault : Fin 3), s.dev.ctl.porReleased = false → nodeId < 128 →
    Does (.powerOnResetRelease nodeId fault) s fun d =>
      d.ctl.porReleased = true ∧ d.ctl.mode = s.dev.ctl.mode ∧ getObj Obj.vidCode d = 0x78 ∧ getObj Obj.nodeIdStrap d = nodeId ∧
      (∀ o, o = committed Obj.nodeIdOverride s.dev → getObj Obj.nodeIdActive d = if 1 ≤ o ∧ o ≤ 127 then o else nodeId) ∧
      d.settings = s.dev.settings ∧ d.sec = s.dev.sec ∧ d.media = s.dev.media ∧ d.therm = s.dev.therm) ∧
  (∀ s : State, s.dev.ctl.mode ≠ .m0 → s.dev.ctl.mode ≠ .m1 → Does .powerOnResetAssert s fun d =>
    d.ctl.mode = .m1 ∧ d.ctl.prev = s.dev.ctl.mode ∧ d.ctl.porReleased = false ∧ d.media.pen = [] ∧
    (∀ p, p < 4 → (port p d).linkUp = false ∧ (port p d).wakeMs = none) ∧ d.sec = s.dev.sec ∧ d.settings = s.dev.settings)

/-- R609, R37, R32: with RECOV_N low and no latched thermal limit a release from M1 enters M2, with M1 as the mode before it, every command
that waited gone, every ledger but the transmit one free in full; in any other mode PERST_N high is only noted. -/
def Obligations.ResetReleaseLeavesHeld : Prop :=
  (∀ (s : State) (x : BootInputs), s.dev.ctl.mode = .m1 → s.dev.ctl.vsysUp = true → s.dev.ctl.porReleased = true → x.recovLow = true →
    s.dev.ctl.haltLatch = false → Does (.resetRelease x) s fun d =>
      d.ctl.mode = .m2 ∧ d.ctl.prev = .m1 ∧ d.ctl.perstLow = false ∧ d.held = [] ∧ d.delayed = [] ∧ d.media.flight = [] ∧
      d.log.frames = s.dev.log.frames ∧ ∀ l, l ≠ 7 → (ledger l d).held = [] ∧ (ledger l d).free = (ledger l d).total) ∧
  (∀ (s : State) (x : BootInputs), s.dev.ctl.mode ≠ .m1 → Does (.resetRelease x) s fun d =>
    d = { s.dev with ctl := { s.dev.ctl with perstLow := false }
                     media := { s.dev.media with rc := { s.dev.media.rc with wakeMs := d.media.rc.wakeMs } } })

/-- R54, R42: PERST# enters M8 where a data mode holds buffered data or pending passes, with the reset waiting for the flush; it enters M1
where nothing is to be carried and no flush runs; in M0, M1 and M11 the mode stays. The links go down at once. -/
def Obligations.PerstResets : Prop :=
  (∀ s : State, dataMode s.dev.ctl.mode = true → s.dev.ctl.mode ≠ .m8 → flushNeeded s.dev = true → Does .perstAssert s fun d =>
    d.ctl.mode = .m8 ∧ d.ctl.flushFrom = s.dev.ctl.mode ∧ d.ctl.flushing = true ∧ d.ctl.dueM1 = true ∧ d.ctl.perstLow = true ∧
    (∀ p, p < 4 → (port p d).linkUp = false) ∧ d.sec = s.dev.sec ∧ d.domains = s.dev.domains) ∧
  (∀ s : State, s.dev.ctl.flushing = false →
    s.dev.ctl.mode ∈ [Mode.m2, .m3, .m10] ∨ dataMode s.dev.ctl.mode = true ∧ s.dev.ctl.mode ≠ .m8 ∧ flushNeeded s.dev = false →
    Does .perstAssert s fun d =>
      d.ctl.mode = .m1 ∧ d.ctl.prev = s.dev.ctl.mode ∧ d.ctl.perstLow = true ∧ d.media.pen = [] ∧
      (∀ p, p < 4 → (port p d).linkUp = false) ∧ d.sec = s.dev.sec ∧ d.domains = s.dev.domains) ∧
  (∀ s : State, s.dev.ctl.mode ∈ [Mode.m0, .m1, .m11] → Does .perstAssert s fun d =>
    d = { s.dev with ctl := { s.dev.ctl with perstLow := true } })

/-- R463, R464, R42: the warning enters M8 from M5, M6, M7 and M9 and holds staging in M4; the recovery comparator starts the qualification
in M8; 20 ms above the level return from M8 once the flush has ended; the end of a flush carries out the reset that waits for it. -/
def Obligations.SupplyWarningsAndRecovery : Prop :=
  (∀ s : State, s.dev.ctl.mode ∈ [Mode.m5, .m6, .m7, .m9] → Does .supplyWarning s fun d =>
    d.ctl.mode = .m8 ∧ d.ctl.flushFrom = s.dev.ctl.mode ∧ d.ctl.flushing = true ∧ d.ctl.warned = true ∧ d.ctl.huChgEn = false ∧
    d.holdup.testing = false ∧ d.settings = s.dev.settings ∧ d.sec = s.dev.sec ∧ d.domains = s.dev.domains) ∧
  (∀ s : State, s.dev.ctl.mode = .m4 → Does .supplyWarning s fun d =>
    d.ctl.mode = .m4 ∧ d.ctl.supplyHold = true ∧ d.ctl.warned = true ∧ d.ctl.huChgEn = false ∧ d.holdup.testing = false ∧
    bitOf d.ctl.causes.toNat 7 = true ∧
    d = { s.dev with objs := d.objs, ctl := d.ctl, holdup := d.holdup } ∧ OnlyObjs [Obj.supplyWarnings, Obj.holdUpState] s.dev d) ∧
  (∀ s : State, s.dev.ctl.mode ≠ .m0 → s.dev.ctl.warned = true → Does .recoveryComparatorTrip s fun d =>
    d.ctl.warned = false ∧ d.ctl.mode = s.dev.ctl.mode ∧ (s.dev.ctl.mode = .m8 ∨ s.dev.ctl.supplyHold = true → d.ctl.qualifying = true) ∧
    d = { s.dev with ctl := d.ctl, holdup := d.holdup }) ∧
  (∀ s : State, s.dev.ctl.mode = .m8 → s.dev.ctl.qualifying = true → s.dev.ctl.flushing = true → Does .sagRecoveryQualified s fun d =>
    d = { s.dev with ctl := { s.dev.ctl with qualifying := false, supplyHold := false, qualified := true } }) ∧
  (∀ s : State, s.dev.ctl.mode = .m8 → s.dev.ctl.qualifying = true → s.dev.ctl.flushing = false → s.dev.ctl.dueM1 = false →
    s.dev.ctl.flushFrom ∈ [Mode.m5, .m6, .m7, .m9] → s.dev.held = [] → notificationWaits s.dev = false →
    (∀ b, (carrier b s.dev).deferred = false) → Does .sagRecoveryQualified s fun d =>
      d.ctl.mode = s.dev.ctl.flushFrom ∧ d.ctl.prev = .m8 ∧ d.ctl.bufferHold = true ∧ d.ctl.recharging = true ∧
      d.media = s.dev.media ∧ d.settings = s.dev.settings ∧ d.sec = s.dev.sec) ∧
  (∀ s : State, s.dev.ctl.mode = .m8 → s.dev.ctl.flushing = true → flushNeeded s.dev = false →
    s.dev.ctl.dueM10 = false → s.dev.ctl.dueM11 = false → Does .holdUpFlushComplete s fun d =>
      d.ctl.flushing = false ∧ (s.dev.ctl.dueM1 = true → d.ctl.mode = .m1 ∧ d.ctl.prev = .m8 ∧ d.media.pen = []) ∧
      (s.dev.ctl.dueM1 = false → s.dev.ctl.qualified = false → d.ctl.mode = .m8) ∧ d.sec = s.dev.sec ∧ d.domains = s.dev.domains)

/-! ### Housekeeping, throttling and the core voltage (spec/15, spec/21) -/

/-- R474, R476, R481, R461, R460, R612: what the round, the level rise, the pace measurement, the voltage step and CS_WP_N do. -/
def Obligations.HousekeepingActs : Prop :=
  (∀ (s : State) (r : Round), s.dev.ctl.mode ≠ .m0 → s.dev.ctl.porReleased = true → Does (.housekeepingRound r) s fun d =>
    d.therm.last = some r ∧ (d.therm.dieMax, d.therm.dieMin) = dieRange r.sensors ∧ d.therm.hottest = tempByte d.therm.dieMax ∧
    d.settings = s.dev.settings ∧ d.sec = s.dev.sec ∧ d.domains = s.dev.domains ∧ d.delayed = s.dev.delayed) ∧
  (∀ s : State, s.dev.therm.dieThrottle = true → s.dev.therm.levelStartMs + 5000 ≤ nowMs s.dev →
    s.dev.therm.levelStartMax - 2 < s.dev.therm.dieMax → getObj Obj.throttleLevel s.dev < 3 → s.dev.res.resizeTo = none →
    WriterOpen s.dev → Does .throttleLevelRise s fun d =>
      getObj Obj.throttleLevel d = getObj Obj.throttleLevel s.dev + 1 ∧ d.therm.levelStartMax = s.dev.therm.dieMax ∧
      d.therm.levelStartMs = nowMs s.dev ∧ Recorded Code.throttleStart [0x01, 0xFF, tempByte s.dev.therm.dieMax] s.dev d ∧
      OnlyObjs (Obj.throttleLevel :: asideObjs) s.dev d ∧ OnlyLedgers [1, 7] s.dev d ∧
      Aside { s.dev with objs := d.objs, therm := { s.dev.therm with levelStartMax := d.therm.levelStartMax
                                                                     levelStartMs := d.therm.levelStartMs }
                         ledgers := d.ledgers, res := d.res } d) ∧
  (∀ (s : State) (count : Nat) (work : Bool), s.dev.ctl.mode ≠ .m0 → s.dev.ctl.porReleased = true → Does (.paceMeasure count work) s fun d =>
    getObj Obj.pace d = min 0xFFFF (count / 1000) ∧ d.ctl.workQueued = work ∧ sourceLoaded .ring d = true ∧
    (serviceMode s.dev.ctl.mode = true → d.ctl.vidTarget ≤ vidCap s.dev ∧
      (getObj Obj.vidFloorCode s.dev ≤ vidCap s.dev → getObj Obj.vidFloorCode s.dev ≤ d.ctl.vidTarget)) ∧
    (serviceMode s.dev.ctl.mode = false → d.ctl.vidTarget = vidOutside s.dev) ∧
    d = { s.dev with objs := d.objs, ctl := { s.dev.ctl with workQueued := work, vidTarget := d.ctl.vidTarget }
                     settings := { s.dev.settings with loaded := d.settings.loaded } } ∧ OnlyObjs [Obj.pace] s.dev d) ∧
  (∀ s : State, s.dev.ctl.mode ∉ [Mode.m0, .m1, .m2, .m11] → Does .vidStep s fun d =>
    (getObj Obj.vidCode s.dev < d.ctl.vidTarget → getObj Obj.vidCode d = getObj Obj.vidCode s.dev + 1) ∧
    (d.ctl.vidTarget < getObj Obj.vidCode s.dev → getObj Obj.vidCode d = getObj Obj.vidCode s.dev - 1) ∧
    (getObj Obj.vidCode s.dev = d.ctl.vidTarget → getObj Obj.vidCode d = getObj Obj.vidCode s.dev) ∧
    d.ctl.vidTarget = (if serviceMode s.dev.ctl.mode = true then vidBounded s.dev.ctl.vidTarget s.dev else vidOutside s.dev) ∧
    d = { s.dev with objs := d.objs, ctl := { s.dev.ctl with vidTarget := d.ctl.vidTarget } } ∧ OnlyObjs [Obj.vidCode] s.dev d) ∧
  (∀ (s : State) (low : Bool), s.dev.cs.jobs.all (fun j => !(j.started && j.code == 5)) = true → Does (.csWpNChange low) s fun d =>
    d = { s.dev with ctl := { s.dev.ctl with csWpLow := low } })

/-- R467 to R471: the charge timeout fails the store; a due test starts in its modes with HU_CHG_EN low; the baseline starts the discharge; a
sample at 60 ms or near the floor stops it; the end counts the test and reports 0x02 or, with a cause, 0x03; a request makes a test due. -/
def Obligations.HoldUpStoreIsTested : Prop :=
  (∀ s : State, s.dev.ctl.huChgEn = true → s.dev.holdup.reached = false → s.dev.holdup.timedOut = false →
    s.dev.holdup.chargeMs + 120000 ≤ nowMs s.dev → Does .holdupChargeTimeout s fun d =>
      getObj Obj.holdUpState d = 0x03 ∧ getObj Obj.holdUpFailCause d = 0x07 ∧ d.holdup.timedOut = true ∧
      getObj Obj.holdUpVerifiedMj d = 0 ∧
      d.settings = s.dev.settings ∧ d.ctl = s.dev.ctl ∧ d.sec = s.dev.sec) ∧
  (∀ s : State, s.dev.ctl.mode ∈ [Mode.m4, .m5, .m6, .m7, .m9] → s.dev.holdup.due = true → s.dev.holdup.testing = false →
    s.dev.ctl.warned = false → Does .holdupTestDue s fun d =>
      d.ctl.huChgEn = false ∧ d.holdup.testing = true ∧ d.holdup.due = false ∧ d.holdup.v0 = none ∧ d.holdup.samples = [] ∧
      d.holdup.before = getObj Obj.holdUpState s.dev ∧ getObj Obj.holdUpState d = 0x04 ∧
      getObj Obj.holdUpVerifiedMj d = 0 ∧ d.holdup.settings = none ∧ d.ctl = { s.dev.ctl with huChgEn := false } ∧
      d.settings = s.dev.settings ∧ d.sec = s.dev.sec ∧ d.domains = s.dev.domains ∧ d.cpx = s.dev.cpx ∧ d.cs.oa = s.dev.cs.oa) ∧
  (∀ (s : State) (v0 : Nat), s.dev.holdup.testing = true → s.dev.holdup.v0 = none → Does (.holdupTestBaseline v0) s fun d =>
    d = { s.dev with holdup := { s.dev.holdup with v0 := some v0 }, ctl := { s.dev.ctl with huTest := true } }) ∧
  (∀ (s : State) (mv : Nat), s.dev.holdup.testing = true → s.dev.ctl.huTest = true → s.dev.holdup.stopped = false →
    Does (.holdupTestSample mv) s fun d =>
      d.holdup.samples = s.dev.holdup.samples ++ [mv] ∧
      (d.ctl.huTest = false ↔ 59 ≤ s.dev.holdup.samples.length ∨ mv ≤ (holdUpInForce s.dev).floorMv + 100) ∧
      d = { s.dev with holdup := { s.dev.holdup with samples := d.holdup.samples, stopped := !d.ctl.huTest }
                       ctl := { s.dev.ctl with huTest := d.ctl.huTest } }) ∧
  (∀ s : State, s.dev.holdup.testing = true → s.dev.holdup.stopped = true → Does .holdupTestEnd s fun d =>
    d.holdup.testing = false ∧ d.holdup.lastTestHours = some (hours s.dev) ∧
    ((testResult s.dev).2.2.2 = 0 → getObj Obj.holdUpState d = 0x02 ∧ getObj Obj.holdUpFailCause d = 0 ∧
      d.holdup.rawMj = (testResult s.dev).2.2.1) ∧
    ((testResult s.dev).2.2.2 ≠ 0 → getObj Obj.holdUpState d = 0x03 ∧ getObj Obj.holdUpFailCause d = (testResult s.dev).2.2.2 ∧
      getObj Obj.holdUpVerifiedMj d = 0) ∧
    (s.dev.ctl.mode ∈ [Mode.m3, .m4, .m5, .m6, .m7, .m9] → s.dev.ctl.warned = false → d.ctl.huChgEn = true) ∧
    d.settings = s.dev.settings ∧ d.sec = s.dev.sec) ∧
  (∀ (s : State) (path : Nat), 1 ≤ path → path ≤ 5 → s.dev.ctl.mode ∈ [Mode.m3, .m4, .m5, .m6, .m7, .m9] →
    Does (.holdupTestRequest path 1) s fun d =>
      d.holdup = { s.dev.holdup with due := true } ∧ (pathState path d).abort = none ∧
      d = { s.dev with objs := d.objs, holdup := d.holdup, settings := d.settings } ∧ OnlyObjs [Obj.dictionaryRequests] s.dev d)

/-! ### Management complexes (spec/17) -/

/-- R511, R512, Table 17.3, Table 17.2: each of the four causes closes the failing complex's gate where the other one follows, and keeps
the cause; with equal checksums the other gate opens and that complex is in control. In M2 the cause starts the recovery anew. -/
def Obligations.TakeoverMovesControl : Prop :=
  (∀ (s : State) (c : Instr) (cause : Nat),
    (c, cause) ∈ [(.governorMismatch, 1), (.nonCodeReport, 3), (.missedEpoch, 4), (.coreMemoryUncorrectable, 5)] →
    takeoverMode s.dev = true → getObj Obj.complexInControl s.dev = 1 → getObj Obj.standbyState s.dev = 1 → s.dev.cpx.takeover = none →
    Does c s fun d =>
      d.cpx = { s.dev.cpx with takeover := some { cause := cause, failing := 1 }, gateP := false } ∧
      getObj Obj.lastTakeoverCause d = cause ∧ getObj Obj.primaryState d = 0x02 ∧ d = { s.dev with objs := d.objs, cpx := d.cpx } ∧
      OnlyObjs [Obj.lastTakeoverCause, Obj.primaryState] s.dev d) ∧
  (∀ (s : State) (c : Instr) (cause : Nat),
    (c, cause) ∈ [(.governorMismatch, 1), (.nonCodeReport, 3), (.missedEpoch, 4), (.coreMemoryUncorrectable, 5)] →
    s.dev.ctl.mode = .m2 → WriterOpen s.dev → Does c s fun d =>
      d.ctl = s.dev.ctl ∧ getObj Obj.lastTakeoverCause d = cause ∧ d.cs.recPath = 0 ∧ d.cs.recPieces = [] ∧ d.cs.recHeld = 0 ∧
      Recorded Code.failoverTakeover [cause, 0, getObj Obj.lastTakeoverMicros s.dev] s.dev d ∧
      OnlyObjs (Obj.lastTakeoverCause :: asideObjs) s.dev d ∧ OnlyLedgers [7] s.dev d ∧ d.cpx = s.dev.cpx ∧ d.media = s.dev.media) ∧
  (∀ (s : State) (t : Takeover) (micros : Nat), s.dev.cpx.takeover = some t → t.opened = false → t.failing = 1 →
    Does (.takeoverOutputsReached true micros) s fun d =>
      getObj Obj.complexInControl d = 0x02 ∧ d.cpx.gateS = true ∧ d.cpx.gateP = false ∧
      d.cpx.takeover = some { t with opened := true, micros := micros } ∧ getObj Obj.standbyState d = 0x00 ∧
      getObj Obj.takeovers d = (getObj Obj.takeovers s.dev + 1) % objModulus Obj.takeovers ∧
      d = { s.dev with objs := d.objs, cpx := d.cpx } ∧
      OnlyObjs [Obj.complexInControl, Obj.standbyState, Obj.takeovers, Obj.lastTakeoverMicros, Obj.domainState 4] s.dev d)

/-- R513, R514: a takeover that misses its bound, and an inconsistency of the switchover machine, hold both complexes and lead to M10; where
buffered data or passes are pending the flush comes first (R52). Every ledger but the tokens, the fabric credits (R498) and the
transmit slots keeps its counts (R31). -/
def Obligations.FailedTakeoverLocksDown : Prop :=
  ∀ (s : State) (c : Instr), takeoverMode s.dev = true → s.dev.ctl.flushing = false →
    (c = .takeoverStepTimeout ∧ (∃ t, s.dev.cpx.takeover = some t ∧ t.opened = false) ∨ ∃ code, c = .switchoverInconsistent code) →
    Does c s fun d =>
      getObj Obj.complexInControl d = 0 ∧ d.cpx.gateP = false ∧ d.cpx.gateS = false ∧ d.cpx.takeover = none ∧ d.ctl.fetchStopped = true ∧
      (flushNeeded s.dev = false ∨ s.dev.ctl.mode = .m3 → d.ctl.mode = .m10 ∧ d.ctl.prev = s.dev.ctl.mode ∧
        ∀ p, p < 4 → (port p d).cfs = true) ∧
      (flushNeeded s.dev = true → s.dev.ctl.mode ≠ .m3 → d.ctl.mode = s.dev.ctl.mode ∧ d.ctl.flushing = true ∧ d.ctl.dueM10 = true) ∧
      OnlyLedgers [1, 6, 7] s.dev d ∧ d.media = s.dev.media ∧ d.settings = s.dev.settings ∧ d.sec = s.dev.sec ∧ d.domains.kept = s.dev.domains.kept

/-- R509, R516, R517, R520, R521: the injection test that reports a mismatch counts and moves to the next bit; the reset hold of the failed
primary ends in its self-test, and a passed test starts its return unless three returns lie within 24 hours; the standby's self-test gives it
its copy; the standby sleeps while idle and wakes for an input. -/
def Obligations.ComplexesTestReturnAndSleep : Prop :=
  (∀ s : State, takeoverMode s.dev = true → getObj Obj.complexInControl s.dev ≠ 0 → s.dev.cpx.takeover = none →
    Does (.governorInjectionTest 2) s fun d =>
      getObj Obj.governorInjections d = (getObj Obj.governorInjections s.dev + 1) % objModulus Obj.governorInjections ∧
      d.cpx = { s.dev.cpx with injectionBit := (s.dev.cpx.injectionBit + 1) % 80 } ∧
      d = { s.dev with objs := d.objs, cpx := d.cpx } ∧ OnlyObjs [Obj.governorInjections] s.dev d) ∧
  (∀ s : State, s.dev.cpx.returnStep = 1 → Does .primaryResetHoldExpiry s fun d =>
    d = { s.dev with cpx := { s.dev.cpx with returnStep := 2 } }) ∧
  (∀ (s : State) (ms : Nat), s.dev.cpx.returnStep = 2 → (recentReturns s.dev).length < 3 → Does (.primarySelfTestDone true ms) s fun d =>
    d.cpx = { s.dev.cpx with returnStep := 3 } ∧ getObj Obj.primaryState d = 0x03 ∧ getObj Obj.lastSelfTestMs d = ms ∧
    d = { s.dev with objs := d.objs, cpx := d.cpx } ∧ OnlyObjs [Obj.primaryState, Obj.lastSelfTestMs] s.dev d) ∧
  (∀ (s : State) (ms : Nat), s.dev.cpx.returnStep = 2 → WriterOpen s.dev → Does (.primarySelfTestDone false ms) s fun d =>
    d.cpx.returnStep = 0 ∧ getObj Obj.primaryState d = 0x04 ∧ getObj (Obj.domainState 3) d = 0x00 ∧
    Recorded Code.primaryRetired [0x02] s.dev d ∧ Aside { s.dev with objs := d.objs, cpx := d.cpx } d ∧
    OnlyObjs ([Obj.primaryState, Obj.lastSelfTestMs, Obj.domainState 3] ++ asideObjs) s.dev d) ∧
  (∀ (s : State) (ms : Nat), getObj Obj.standbyState s.dev = 0x02 → s.dev.cpx.copyDue = false → takeoverMode s.dev = true →
    Does (.standbySelfTestDone true ms) s fun d =>
      d.cpx = { s.dev.cpx with copyDue := true } ∧ getObj Obj.lastSelfTestMs d = ms ∧ d = { s.dev with objs := d.objs, cpx := d.cpx } ∧
      OnlyObjs [Obj.lastSelfTestMs] s.dev d) ∧
  (∀ (s : State) (ms : Nat), getObj Obj.standbyState s.dev = 0x02 → s.dev.cpx.copyDue = false → takeoverMode s.dev = true → WriterOpen s.dev →
    Does (.standbySelfTestDone false ms) s fun d =>
      getObj Obj.standbyState d = 0x04 ∧ getObj (Obj.domainState 4) d = 0x00 ∧ Recorded Code.standbySelftestFailed [ms] s.dev d ∧
      Aside { s.dev with objs := d.objs } d) ∧
  (∀ s : State, serviceMode s.dev.ctl.mode = true → getObj Obj.standbyState s.dev = 0x01 → getObj Obj.complexInControl s.dev = 0x01 →
    getObj Obj.standbyRetentionIdleMs s.dev ≠ 0 → s.dev.cpx.copiedSinceInput = true → getObj (Obj.domainState 4) s.dev = 0x01 →
    Does .standbyRetentionIdle s fun d =>
      getObj Obj.standbyState d = 0x03 ∧ getObj (Obj.domainState 4) d = 0x02 ∧
      smGet 0 d.domains.kept 4 = getObj (Obj.retainBanks 4) s.dev ∧ d = { s.dev with objs := d.objs, domains := d.domains } ∧
      OnlyObjs [Obj.standbyState, Obj.domainState 4, Obj.entryRequests 4] s.dev d) ∧
  (∀ s : State, getObj Obj.standbyState s.dev = 0x03 → Does (.standbyWakeInput true) s fun d =>
    getObj Obj.standbyState d = 0x01 ∧ getObj (Obj.domainState 4) d = 0x01 ∧ d.cpx = { s.dev.cpx with copiedSinceInput := false } ∧
    d = { s.dev with objs := d.objs, cpx := d.cpx, domains := d.domains } ∧ OnlyObjs [Obj.standbyState, Obj.domainState 4] s.dev d)

/-! ### Power domains (spec/15) -/

/-- R456 to R459: a granted request starts an entry and a refusal is counted with its refuser; the commit takes the domain to retention or
off, keeps the banks that RetainBanks names and returns every credit of its links (R498); an abort returns it to on; a wake brings it on. -/
def Obligations.DomainsEnterAndWake : Prop :=
  (∀ (s : State) (dd : Nat) (retention : Bool), domainCode dd = true → dd < 0x10 → getObj (Obj.domainState dd) s.dev = 0x01 →
    inFloor dd s.dev = false → (retention = true → dd = 3 ∨ dd = 4) → (∀ t, smGet none s.dev.domains.refusedMs dd = some t → t + 1 ≤ nowMs s.dev) →
    (∀ code, refuses dd code s.dev = false) → Does (.domainEntryRequest dd retention 0) s fun d =>
      getObj (Obj.domainState dd) d = 0x03 ∧ smGet none d.domains.entering dd = some { toRetention := retention, granted := true } ∧
      d = { s.dev with objs := d.objs, domains := { s.dev.domains with entering := d.domains.entering } } ∧
      OnlyObjs [Obj.domainState dd, Obj.entryRequests dd] s.dev d) ∧
  (∀ (s : State) (dd : Nat) (retention : Bool) (brought refuser : Nat), domainCode dd = true → getObj (Obj.domainState dd) s.dev = 0x01 →
    inFloor dd s.dev = false → (retention = true → dd = 3 ∨ dd = 4) → (∀ t, smGet none s.dev.domains.refusedMs dd = some t → t + 1 ≤ nowMs s.dev) →
    1 ≤ refuser → refuser ≤ 9 → (brought = refuser ∨ refuses dd refuser s.dev = true) →
    (∀ code, 1 ≤ code → code < refuser → brought ≠ code ∧ refuses dd code s.dev = false) → Does (.domainEntryRequest dd retention brought) s fun d =>
      getObj (Obj.domainState dd) d = 0x01 ∧ getObj (Obj.lastRefuser dd) d = refuser ∧
      getObj (Obj.entryRefusals dd) d = (getObj (Obj.entryRefusals dd) s.dev + 1) % objModulus (Obj.entryRefusals dd) ∧
      d = { s.dev with objs := d.objs, domains := { s.dev.domains with refusedMs := d.domains.refusedMs } } ∧
      OnlyObjs [Obj.entryRequests dd, Obj.entryRefusals dd, Obj.lastRefuser dd] s.dev d) ∧
  (∀ (s : State) (dd : Nat) (e : DomainEntry), smGet none s.dev.domains.entering dd = some e → inFloor dd s.dev = false →
    Does (.domainEntryCommit dd) s fun d =>
    getObj (Obj.domainState dd) d = (if e.toRetention = true then 0x02 else 0x00) ∧ smGet none d.domains.entering dd = none ∧
    smGet 0 d.domains.kept dd = (if e.toRetention = true then getObj (Obj.retainBanks dd) s.dev else 0) ∧ dd ∈ d.domains.lossWindow ∧
    (∀ l, l ∈ linksOf dd → heldBy 6 l d = 0 ∧ smGet 0 d.res.linkWaits l = 0) ∧ (∀ l, l ∉ linksOf dd → heldBy 6 l d = heldBy 6 l s.dev) ∧
    d = { s.dev with objs := d.objs, domains := d.domains, ledgers := d.ledgers, res := { s.dev.res with linkWaits := d.res.linkWaits } } ∧
    OnlyObjs [Obj.domainState dd, Obj.standbyState] s.dev d ∧ OnlyLedgers [6] s.dev d) ∧
  (∀ (s : State) (dd : Nat) (e : DomainEntry), smGet none s.dev.domains.entering dd = some e → Does (.domainEntryAbort dd) s fun d =>
    getObj (Obj.domainState dd) d = 0x01 ∧ smGet none d.domains.entering dd = none ∧
    getObj (Obj.entryAborts dd) d = (getObj (Obj.entryAborts dd) s.dev + 1) % objModulus (Obj.entryAborts dd) ∧
    d = { s.dev with objs := d.objs, domains := { s.dev.domains with entering := d.domains.entering } } ∧
    OnlyObjs [Obj.domainState dd, Obj.entryAborts dd] s.dev d) ∧
  (∀ (s : State) (dd : Nat), dd ∈ [5, 6, 7] → getObj (Obj.domainState dd) s.dev = 0x00 ∨ getObj (Obj.domainState dd) s.dev = 0x02 →
    mustBeOff dd s.dev = false → Does (.domainWake dd false) s fun d =>
      getObj (Obj.domainState dd) d = 0x01 ∧ smGet 0 d.domains.kept dd = 0 ∧ d = { s.dev with objs := d.objs, domains := d.domains } ∧
      OnlyObjs [Obj.domainState dd, Obj.wakesDuringEntry dd] s.dev d)

/-- R508, R29, R30, R279: an epoch counts one millisecond. From M3 to M9 it checks every ledger, and one that does not balance leads to M10,
at once where no data is left to carry; in the other modes it leaves everything but the count, the wall clock and the wake-loss window. -/
def Obligations.EpochCountsAndChecks : Prop :=
  (∀ (s : State) (x : EpochInputs), s.dev.ctl.mode ∈ [Mode.m1, .m2, .m11] → Does (.controlEpoch x) s fun d =>
    d = { s.dev with ctl := { s.dev.ctl with ms := s.dev.ctl.ms + 1 }, objs := d.objs } ∧ OnlyObjs [Obj.wallClockMs] s.dev d) ∧
  (∀ (s : State) (x : EpochInputs), s.dev.ctl.mode = .m10 → Does (.controlEpoch x) s fun d =>
    d = { s.dev with ctl := { s.dev.ctl with ms := s.dev.ctl.ms + 1 }, objs := d.objs, domains := { s.dev.domains with lossWindow := [] } } ∧
    OnlyObjs [Obj.wallClockMs] s.dev d) ∧
  (∀ (s : State) (x : EpochInputs), s.dev.ctl.mode ∈ [Mode.m3, .m4, .m5, .m6, .m7, .m8, .m9] →
    (∃ l ∈ [1, 2, 3, 4, 5, 6, 7, 8], ledgerOk (ledger l s.dev) = false) → s.dev.ctl.flushing = false → flushNeeded s.dev = false →
    Does (.controlEpoch x) s fun d =>
      d.ctl.mode = .m10 ∧ d.ctl.prev = s.dev.ctl.mode ∧ d.ctl.fetchStopped = true ∧ d.ctl.ms = s.dev.ctl.ms + 1 ∧ d.media = s.dev.media ∧
      d.settings = s.dev.settings ∧ d.sec = s.dev.sec ∧ d.held = s.dev.held)

/-! ### Power tokens, pools and fabric credits (spec/16) -/

/-- R485, R486, R489, R490: a request that fits, with nothing in front of it, moves its tokens from free to its bank in one update, and
otherwise waits as the last one; the arbiter's grant does the same for the request that is next; a return that the bank's holding covers takes
it back; ten milliseconds of waiting engage the guard; the power-up charge returns as a whole. -/
def Obligations.TokensAreGrantedAndReturned : Prop :=
  (∀ (s : State) (bank : Bank) (amount : Nat) (flush : Bool),
    flush = true ∨ bankOldest bank.val s.dev = none ∧ guardedRequest s.dev = none ∧ flushWaits s.dev = false →
    tokenFits bank.val amount s.dev = true → Does (.tokenRequest bank amount flush) s fun d =>
      heldBy 1 (bank.val + 1) d = heldBy 1 (bank.val + 1) s.dev + amount ∧ (ledger 1 d).free + amount = (ledger 1 s.dev).free ∧
      (∀ o, o ≠ bank.val + 1 → heldBy 1 o d = heldBy 1 o s.dev) ∧ (ledger 1 d).total = (ledger 1 s.dev).total ∧
      d = { s.dev with ledgers := d.ledgers, res := { s.dev.res with nextReq := s.dev.res.nextReq + 1, lastBank := bank.val } } ∧
      OnlyLedgers [1] s.dev d) ∧
  (∀ (s : State) (bank : Bank) (amount : Nat) (flush : Bool),
    tokenFits bank.val amount s.dev = false ∨ flush = false ∧ ((bankOldest bank.val s.dev).isSome = true ∨
      (guardedRequest s.dev).isSome = true ∨ flushWaits s.dev = true) → Does (.tokenRequest bank amount flush) s fun d =>
      d.res = { s.dev.res with nextReq := s.dev.res.nextReq + 1, waiting := s.dev.res.waiting ++
        [{ id := s.dev.res.nextReq, bank := bank.val, amount := amount, sinceMs := nowMs s.dev, flush := flush }] } ∧
      ledger 1 d = { ledger 1 s.dev with refused := ((ledger 1 s.dev).refused + 1) % 2 ^ 64 } ∧
      d = { s.dev with ledgers := d.ledgers, res := d.res } ∧ OnlyLedgers [1] s.dev d) ∧
  (∀ (s : State) (r : TokenReq), nextRequest s.dev = some r → r.bank < 16 → Does .tokenGrant s fun d =>
    heldBy 1 (r.bank + 1) d = heldBy 1 (r.bank + 1) s.dev + r.amount ∧ d.res.waiting = s.dev.res.waiting.erase r ∧ d.res.lastBank = r.bank ∧
    (∀ b, b < 16 → b ≠ r.bank → heldBy 1 (b + 1) d = heldBy 1 (b + 1) s.dev) ∧ OnlyLedgers [1, 7] s.dev d ∧
    Aside { s.dev with ledgers := d.ledgers, res := d.res } d) ∧
  (∀ (s : State) (bank : Bank) (amount : Nat), amount ≤ heldBy 1 (bank.val + 1) s.dev → Does (.tokenReturn bank amount) s fun d =>
    heldBy 1 (bank.val + 1) d + amount = heldBy 1 (bank.val + 1) s.dev ∧
    (∀ b, b < 16 → b ≠ bank.val → heldBy 1 (b + 1) d = heldBy 1 (b + 1) s.dev) ∧ d.res.waiting = s.dev.res.waiting ∧
    OnlyLedgers [1, 7] s.dev d ∧ Aside { s.dev with ledgers := d.ledgers, res := d.res } d) ∧
  (∀ (s : State) (bank : Bank) (r : TokenReq), bankOldest bank.val s.dev = some r → r.guard = false → r.sinceMs + 10 ≤ nowMs s.dev →
    Does (.tokenGuardEngage bank) s fun d =>
      d.res = { s.dev.res with waiting := s.dev.res.waiting.map fun q => if q.id = r.id then { q with guard := true } else q } ∧
      getObj Obj.tokenGuardEngagements d = (getObj Obj.tokenGuardEngagements s.dev + 1) % 2 ^ 32 ∧
      d = { s.dev with objs := d.objs, res := d.res } ∧ OnlyObjs [Obj.tokenGuardEngagements] s.dev d) ∧
  (∀ (s : State) (bank : Bank), (carrier bank.val s.dev).powerUpHeld ≠ 0 →
    (carrier bank.val s.dev).powerUpHeld ≤ heldBy 1 (bank.val + 1) s.dev →
    (carrier bank.val s.dev).penMs + (carrier bank.val s.dev).powerUpMs ≤ nowMs s.dev → Does (.powerUpTokensReturn bank) s fun d =>
      heldBy 1 (bank.val + 1) d + (carrier bank.val s.dev).powerUpHeld = heldBy 1 (bank.val + 1) s.dev ∧
      carrier bank.val d = { carrier bank.val s.dev with powerUpHeld := 0 } ∧ OnlyLedgers [1, 7] s.dev d ∧
      Aside { s.dev with ledgers := d.ledgers, res := d.res, media := { s.dev.media with carriers := d.media.carriers } } d)

/-- R492: a request goes to the one pool for its size; granted, it takes the lowest free buffer (the model's choice of buffer:
notes/assumptions/6.md) and one unit of the pool's ledger; the answer pool empty changes no holding and is counted against the owner. A buffer
that its owner returns is free again; a wait of the controller's own operation ends when its retry finds a buffer. A credit that is held on a
link returns (R498), to the transfer that waits for it where there is one. -/
def Obligations.BuffersAndCreditsMove : Prop :=
  (∀ (s : State) (owner size pool : Nat) (standing : Bool), poolOf size = some pool → owner ∈ poolOwners → poolsActive s.dev = true →
    (smGet {} s.dev.res.waits (owner * 8 + pool)).waitUs = 0 → grantOk pool owner 1 s.dev = true →
    Does (.poolRequest owner size standing) s fun d =>
      heldBy pool owner d = heldBy pool owner s.dev + 1 ∧ (ledger pool d).free + 1 = (ledger pool s.dev).free ∧
      (∃ i, buffer pool i s.dev = none ∧ (∀ j, j < i → buffer pool j s.dev ≠ none) ∧
        buffer pool i d = some { owner := owner, grantMs := nowMs s.dev, standing := standing }) ∧
      d = { s.dev with ledgers := d.ledgers, res := { s.dev.res with buffers := d.res.buffers, waits := d.res.waits } } ∧
      OnlyLedgers [pool] s.dev d) ∧
  (∀ (s : State) (owner size pool : Nat) (standing : Bool), poolOf size = some pool → owner ∈ poolOwners → poolsActive s.dev = true →
    (smGet {} s.dev.res.waits (owner * 8 + pool)).waitUs = 0 → grantOk pool owner 1 s.dev = false →
    Does (.poolRequest owner size standing) s fun d =>
      (∀ o, heldBy pool o d = heldBy pool o s.dev) ∧ (ledger pool d).free = (ledger pool s.dev).free ∧
      (ledger pool d).refused = ((ledger pool s.dev).refused + 1) % 2 ^ 64 ∧
      smGet 0 d.res.poolEmpty owner = min (smGet 0 s.dev.res.poolEmpty owner + 1) (2 ^ 32 - 1) ∧
      getObj Obj.mapLoadPoolEmpty d =
        (if owner = 0x40 ∧ pool = 3 then (getObj Obj.mapLoadPoolEmpty s.dev + 1) % 2 ^ 64 else getObj Obj.mapLoadPoolEmpty s.dev) ∧
      d = { s.dev with objs := d.objs, ledgers := d.ledgers
                       res := { s.dev.res with poolEmpty := d.res.poolEmpty, waits := d.res.waits } } ∧
      OnlyObjs [Obj.mapLoadPoolEmpty] s.dev d ∧ OnlyLedgers [pool] s.dev d) ∧
  (∀ (s : State) (owner pool : Nat), (smGet {} s.dev.res.waits (owner * 8 + pool)).waitUs ≠ 0 →
    (smGet {} s.dev.res.waits (owner * 8 + pool)).own = false → poolsActive s.dev = true → grantOk pool owner 1 s.dev = true → pool ∈ [2, 3, 4, 5] → Does (.poolRetry owner pool) s fun d =>
      heldBy pool owner d = heldBy pool owner s.dev + 1 ∧ (ledger pool d).free + 1 = (ledger pool s.dev).free ∧
      d = { s.dev with objs := d.objs, ledgers := d.ledgers, res := { s.dev.res with buffers := d.res.buffers, waits := d.res.waits } } ∧
      OnlyObjs [Obj.hoistPoolEmptyRetries] s.dev d ∧ OnlyLedgers [pool] s.dev d) ∧
  (∀ (s : State) (owner pool : Nat), (smGet {} s.dev.res.waits (owner * 8 + pool)).waitUs ≠ 0 →
    (smGet {} s.dev.res.waits (owner * 8 + pool)).own = true → poolsActive s.dev = true → grantOk pool owner 1 s.dev = true →
    Does (.poolRetry owner pool) s fun d =>
      d = { s.dev with objs := d.objs, res := { s.dev.res with waits := smErase (owner * 8 + pool) s.dev.res.waits } } ∧
      OnlyObjs [Obj.hoistPoolEmptyRetries] s.dev d) ∧
  (∀ (s : State) (owner pool index : Nat) (b : Buffer), pool ∈ [2, 3, 4, 5] → poolsActive s.dev = true →
    buffer pool index s.dev = some b → b.owner = owner → 1 ≤ heldBy pool owner s.dev → Does (.bufferReturn owner pool index) s fun d =>
      buffer pool index d = none ∧ (∀ j, j ≠ pool * 65536 + index → smGet {} d.res.buffers j = smGet {} s.dev.res.buffers j) ∧
      heldBy pool owner d + 1 = heldBy pool owner s.dev ∧ (ledger pool d).free = (ledger pool s.dev).free + 1 ∧
      d = { s.dev with ledgers := d.ledgers, res := { s.dev.res with buffers := d.res.buffers } } ∧ OnlyLedgers [pool] s.dev d) ∧
  (∀ (s : State) (owner key t : Nat), oldestBuffer owner s.dev = some (key, t) → t + 30000 < nowMs s.dev → owner ∉ s.dev.res.longHeld →
    WriterOpen s.dev → Does (.bufferHeldLong owner) s fun d =>
      Recorded Code.bufferHeldLong [owner, key / 65536, key % 65536, (nowMs s.dev - t) / 100] s.dev d ∧
      d.res = { s.dev.res with longHeld := owner :: s.dev.res.longHeld } ∧ Aside { s.dev with res := d.res } d) ∧
  (∀ (s : State) (link : Nat), link ∈ fabricLinks → 1 ≤ heldBy 6 link s.dev → smGet 0 s.dev.res.linkWaits link ≠ 0 →
    grantOk 6 link 1 (ledgerReturn 6 link 1 s.dev) = true → Does (.fabricCreditReturn link) s fun d =>
      (∀ o, heldBy 6 o d = heldBy 6 o s.dev) ∧ (ledger 6 d).free = (ledger 6 s.dev).free ∧
      smGet 0 d.res.linkWaits link + 1 = smGet 0 s.dev.res.linkWaits link ∧
      d = { s.dev with ledgers := d.ledgers, res := { s.dev.res with linkWaits := d.res.linkWaits } } ∧ OnlyLedgers [6] s.dev d) ∧
  (∀ (s : State) (link : Nat), link ∈ fabricLinks → 1 ≤ heldBy 6 link s.dev → smGet 0 s.dev.res.linkWaits link = 0 → Does (.fabricCreditReturn link) s fun d =>
    heldBy 6 link d + 1 = heldBy 6 link s.dev ∧ (ledger 6 d).free = (ledger 6 s.dev).free + 1 ∧
    (∀ o, o ≠ link → heldBy 6 o d = heldBy 6 o s.dev) ∧ d = { s.dev with ledgers := d.ledgers } ∧ OnlyLedgers [6] s.dev d)

/-- R493: an owner that receives pool empty waits 8 + (owner ID mod 16) µs with the same request, each later failure doubles the wait up to
1,024 µs, a grant resets it, and while it waits a further request of that pool changes nothing. -/
def Obligations.PoolBackOff : Prop :=
  ∀ (s : State) (owner size pool : Nat) (standing : Bool), poolOf size = some pool → owner ∈ poolOwners → poolsActive s.dev = true →
    ((smGet {} s.dev.res.waits (owner * 8 + pool)).waitUs = 0 → grantOk pool owner 1 s.dev = false →
      Does (.poolRequest owner size standing) s fun d =>
        smGet {} d.res.waits (owner * 8 + pool) = { size := size, waitUs := 8 + owner % 16 }) ∧
    ((smGet {} s.dev.res.waits (owner * 8 + pool)).waitUs ≠ 0 → grantOk pool owner 1 s.dev = false → Does (.poolRetry owner pool) s fun d =>
      smGet {} d.res.waits (owner * 8 + pool) =
        { size := (smGet {} s.dev.res.waits (owner * 8 + pool)).size
          waitUs := min 1024 (2 * (smGet {} s.dev.res.waits (owner * 8 + pool)).waitUs)
          own := (smGet {} s.dev.res.waits (owner * 8 + pool)).own } ∧ d.res.buffers = s.dev.res.buffers) ∧
    ((smGet {} s.dev.res.waits (owner * 8 + pool)).waitUs = 0 → grantOk pool owner 1 s.dev = true →
      Does (.poolRequest owner size standing) s fun d => (smGet {} d.res.waits (owner * 8 + pool)).waitUs = 0) ∧
    ((smGet {} s.dev.res.waits (owner * 8 + pool)).waitUs ≠ 0 → grantOk pool owner 1 s.dev = true → Does (.poolRetry owner pool) s fun d =>
      (smGet {} d.res.waits (owner * 8 + pool)).waitUs = 0) ∧
    ((smGet {} s.dev.res.waits (owner * 8 + pool)).waitUs ≠ 0 → Idle (.poolRequest owner size standing) s)

/-- R487, R30: a return of more tokens than the bank holds, of a buffer that is free or another owner's, and of a credit that is not held
breaks the ledger: no part is applied, and from M3 to M9, with nothing to flush, the device goes to M10. -/
def Obligations.BrokenReturnsLockDown : Prop :=
  ∀ (s : State) (c : Instr) (l o : Nat), s.dev.ctl.mode ∈ [Mode.m3, .m4, .m5, .m6, .m7, .m8, .m9] → s.dev.ctl.flushing = false →
    flushNeeded s.dev = false →
    ((∃ (bank : Bank) (amount : Nat), c = .tokenReturn bank amount ∧ l = 1 ∧ o = bank.val + 1 ∧ heldBy 1 o s.dev < amount) ∨
      (∃ index, c = .bufferReturn o l index ∧ l ∈ [2, 3, 4, 5] ∧ ∀ b, buffer l index s.dev = some b → b.owner ≠ o) ∨
      c = .fabricCreditReturn o ∧ l = 6 ∧ o ∈ fabricLinks ∧ heldBy 6 o s.dev = 0) →
    Does c s fun d =>
      d.ctl.mode = .m10 ∧ d.ctl.prev = s.dev.ctl.mode ∧ d.ctl.fetchStopped = true ∧ heldBy l o d = heldBy l o s.dev ∧
      (∀ p, p < 4 → (port p d).cfs = true) ∧ OnlyLedgers [1, 6, 7] s.dev d ∧ d.res.buffers = s.dev.res.buffers ∧ d.media = s.dev.media ∧
      d.settings = s.dev.settings ∧ d.sec = s.dev.sec

/-! ### Carriers (spec/10) -/

/-- R313, R314: an insertion is brought up in M4 and, where AutoPowerOnInsert is set, in M5, M6 and M7: CarrierState 0x02, with a request for
the tokens of its charges; it waits as 0x01 where that object is 0, and is held, as 0x01, in every other mode and in
M4 while SupplyHold pauses staging (R43). R321: a removal leaves 0x00. -/
def Obligations.CarriersComeAndGo : Prop :=
  (∀ (s : State) (bank : Bank), (carrier bank.val s.dev).present = false → s.dev.ctl.mode = .m4 ∧ s.dev.ctl.supplyHold = false ∨
    s.dev.ctl.mode ∈ [Mode.m5, .m6, .m7] ∧ getObj Obj.autoPowerOnInsert s.dev = 1 → Does (.carrierInsertion bank) s fun d =>
      carrierState bank.val d = 0x02 ∧ (carrier bank.val d).present = true ∧ (carrier bank.val d).deferred = false ∧
      (carrier bank.val d).awaitTokens = some s.dev.res.nextReq ∧ d.res.nextReq = s.dev.res.nextReq + 1 ∧
      (∀ b, b ≠ bank.val → carrier b d = carrier b s.dev) ∧ OnlyObjs (Obj.carrierState bank.val :: asideObjs) s.dev d ∧
      OnlyLedgers [1, 7] s.dev d ∧
      Aside { s.dev with objs := d.objs, ledgers := d.ledgers, res := d.res, media := d.media, ports := d.ports } d) ∧
  (∀ (s : State) (bank : Bank), (carrier bank.val s.dev).present = false → s.dev.ctl.mode ≠ .m0 →
    (s.dev.ctl.mode = .m4 → s.dev.ctl.supplyHold = true) → (s.dev.ctl.mode ∈ [Mode.m5, .m6, .m7] → getObj Obj.autoPowerOnInsert s.dev ≠ 1) → Does (.carrierInsertion bank) s fun d =>
      carrierState bank.val d = 0x01 ∧ (carrier bank.val d).present = true ∧
      ((carrier bank.val d).deferred = true ↔ s.dev.ctl.mode ∉ [Mode.m5, .m6, .m7]) ∧
      (∀ b, b ≠ bank.val → carrier b d = carrier b s.dev) ∧ OnlyObjs (Obj.carrierState bank.val :: asideObjs) s.dev d ∧
      OnlyLedgers [7] s.dev d ∧ Aside { s.dev with objs := d.objs, ledgers := d.ledgers, media := d.media, ports := d.ports } d) ∧
  (∀ (s : State) (bank : Bank), (carrier bank.val s.dev).present = true → s.dev.ctl.mode ≠ .m0 → Does (.carrierRemoval bank) s fun d =>
    carrierState bank.val d = 0x00 ∧ (carrier bank.val d).present = false ∧ penHigh bank.val d = false ∧
    (∀ b, b ≠ bank.val → carrier b d = carrier b s.dev) ∧
    Aside { s.dev with objs := d.objs, ledgers := d.ledgers, res := d.res, media := d.media
                       domains := { s.dev.domains with entering := d.domains.entering } } d)

/-- R309, R68, R81: PGOOD that falls, or is not up 20 ms after PEN, ends in 0x08, and the third time within an hour in 0x09. PEN is low, the fault
is counted, and the bank holds no token of the power pool any more. -/
def Obligations.PowerFaultsTakeCarriersDown : Prop :=
  ∀ (s : State) (bank : Bank) (c : Instr), penHigh bank.val s.dev = true →
    (c = .powerGoodLost bank ∧ (carrier bank.val s.dev).pgood = true ∨
      c = .pgoodTimeout bank ∧ (carrier bank.val s.dev).bringUp = 1 ∧ (carrier bank.val s.dev).penMs + 20 ≤ nowMs s.dev) →
    Does c s fun d =>
      carrierState bank.val d = (if 2 ≤ ((carrier bank.val s.dev).faultHours.filter fun h => hours s.dev < h + 16).length then 0x09 else 0x08) ∧
      getObj (Obj.carrierFaultCount bank.val) d = min 255 (getObj (Obj.carrierFaultCount bank.val) s.dev + 1) ∧
      penHigh bank.val d = false ∧ (carrier bank.val d).powerUpHeld = 0 ∧ heldBy 1 (bank.val + 1) d = 0 ∧
      (∀ b, b ≠ bank.val → carrier b d = carrier b s.dev) ∧
      Aside { s.dev with objs := d.objs, ledgers := d.ledgers, res := d.res, media := d.media
                         domains := { s.dev.domains with entering := d.domains.entering } } d

/-- R318, R313, R319: the attention button opens the abort window of a carrier in service, cancels a removal in its window or while it runs, and
retries a power fault where carriers are brought up; on a carrier that is latched, foreign or mismatched it is recorded and changes no state.
The window that ends with the conditions of R318 met starts the evacuation; with fewer than 15 banks the removal is refused. -/
def Obligations.ButtonAndAbortWindow : Prop :=
  (∀ (s : State) (bank : Bank) (a b : Nat), (carrier bank.val s.dev).present = true → s.dev.ctl.mode ≠ .m0 → carrierState bank.val s.dev = a →
    ((a, b) ∈ [(0x04, 0x05), (0x05, 0x04), (0x06, 0x04)] ∨ (a, b) = (0x08, 0x02) ∧ carrierMode s.dev = true ∨
      (a, b) = (0x01, 0x02) ∧ carrierMode s.dev = true ∧ (carrier bank.val s.dev).deferred = false) →
    Does (.attentionButtonPress bank) s fun d =>
      carrierState bank.val d = b ∧ (carrier bank.val d).button = true ∧ (b = 0x05 → (carrier bank.val d).windowMs = nowMs s.dev) ∧
      (a = 0x06 → d.media.evac = none) ∧ (∀ k, k ≠ bank.val → carrier k d = carrier k s.dev) ∧
      OnlyObjs (Obj.carrierState bank.val :: asideObjs) s.dev d ∧ OnlyLedgers [1, 7] s.dev d ∧
      Aside { s.dev with objs := d.objs, ledgers := d.ledgers, res := d.res, media := d.media, ports := d.ports } d) ∧
  (∀ (s : State) (bank : Bank), (carrier bank.val s.dev).present = true → s.dev.ctl.mode ≠ .m0 →
    carrierState bank.val s.dev ∈ [0x09, 0x0A, 0x0B] → WriterOpen s.dev → Does (.attentionButtonPress bank) s fun d =>
      Recorded Code.carrierButtonIgnored [bank.val, carrierState bank.val s.dev] s.dev d ∧ carrierState bank.val d = carrierState bank.val s.dev ∧
      Aside { s.dev with ports := d.ports, media := { s.dev.media with carriers := d.media.carriers, rc := d.media.rc } } d) ∧
  (∀ (s : State) (bank : Bank), carrierState bank.val s.dev = 0x05 → (carrier bank.val s.dev).windowMs + 5000 ≤ nowMs s.dev →
    s.dev.media.evac = none → s.dev.ctl.mode ∈ [Mode.m5, .m6] → 15 ≤ banksOpen s.dev → removalRefused bank.val s.dev = false →
    s.dev.media.stripes = [] → s.dev.ctl.flushing = false → higherDue s.dev = false → Does (.abortWindowExpiry bank) s fun d =>
      carrierState bank.val d = 0x06 ∧ d.media.evac = some { bank := bank.val } ∧ (carrier bank.val d).waiting = false ∧
      (∀ k, k ≠ bank.val → carrier k d = carrier k s.dev) ∧ d.settings = s.dev.settings ∧ d.sec = s.dev.sec ∧
      d.domains = { s.dev.domains with entering := d.domains.entering }) ∧
  (∀ (s : State) (bank : Bank), carrierState bank.val s.dev = 0x05 → (carrier bank.val s.dev).windowMs + 5000 ≤ nowMs s.dev →
    s.dev.media.evac = none → s.dev.ctl.mode ∈ [Mode.m5, .m6] → higherDue s.dev = false → banksOpen s.dev < 15 → Does (.abortWindowExpiry bank) s fun d =>
      carrierState bank.val d = 0x04 ∧ (carrier bank.val d).refusedUntil = nowMs s.dev + 3000 ∧ (carrier bank.val d).waiting = false ∧
      (∀ k, k ≠ bank.val → carrier k d = carrier k s.dev) ∧ OnlyObjs (Obj.carrierState bank.val :: asideObjs) s.dev d ∧
      Aside { s.dev with objs := d.objs, media := { s.dev.media with carriers := d.media.carriers, rc := d.media.rc } } d) ∧
  (∀ (s : State) (failed : List Nat) (e : Evacuation), s.dev.media.evac = some e → programsHeld s.dev = false → carrierState e.bank s.dev = 0x06 → drained e.bank s.dev = true → e.bank < 16 →
    Does (.evacuationComplete failed) s fun d =>
      carrierState e.bank d = 0x07 ∧ d.media.evac = none ∧ e.bank ∉ d.media.expected ∧ penHigh e.bank d = false ∧ heldBy 1 (e.bank + 1) d = 0 ∧
      bitOf d.media.sb.banks e.bank = false ∧ d.settings = s.dev.settings ∧ d.sec = s.dev.sec ∧
      d.domains = { s.dev.domains with entering := d.domains.entering })

/-- Table 10.9: each CarrierCommand that is granted takes the carrier from the state in which it is valid to the one the table gives; the grant
is used and the request answered. -/
def Obligations.CarrierCommandsAct : Prop :=
  ∀ (s : State) (path : Nat) (bank : Bank) (c : Instr) (a b : Nat), Granted path (Obj.carrierCommand bank.val) s.dev →
    carrierState bank.val s.dev = a →
    (c = .carrierRequestRemoval path bank ∧ (a, b) = (0x04, 0x05) ∨
      c = .carrierCancelRemoval path bank ∧ (a, b) ∈ [(0x05, 0x04), (0x06, 0x04)] ∨
      c = .carrierPowerOn path bank ∧ (a, b) = (0x01, 0x02) ∧ carrierMode s.dev = true ∧ (carrier bank.val s.dev).deferred = false ∨
      c = .carrierAdopt path bank ∧ (a, b) = (0x0A, 0x03) ∨
      c = .carrierRetryPowerFault path bank ∧ (a, b) = (0x08, 0x02) ∧ carrierMode s.dev = true) →
    Does c s fun d =>
      carrierState bank.val d = b ∧ Answered path s.dev d ∧ (pathState path d).grant = none ∧ (a = 0x06 → d.media.evac = none) ∧
      (∀ k, k ≠ bank.val → carrier k d = carrier k s.dev) ∧
      OnlyObjs ([Obj.dictionaryRequests, Obj.carrierState bank.val] ++ asideObjs) s.dev d ∧ OnlyLedgers [1, 7] s.dev d ∧
      Aside { s.dev with objs := d.objs, ledgers := d.ledgers, res := d.res, media := d.media, settings := d.settings } d

/-- Table 3.3, R67, R86, R87, R315: the steps of a bring-up in their order: PEN rises once the tokens are granted, PGOOD, the power-on time, the
identification that matches an entry, and the training of every channel, after which the carrier is classified. A carrier in 0x03 joins. -/
def Obligations.CarriersAreBroughtUp : Prop :=
  (∀ (s : State) (bank : Bank) (id : Nat), carrierState bank.val s.dev = 0x02 → (carrier bank.val s.dev).awaitTokens = some id →
    (∀ r, r ∈ s.dev.res.waiting → r.id ≠ id) → s.dev.ctl.supplyHold = false →
    smGet none s.dev.domains.entering (0x10 + bank.val) = none → Does (.channelBringUp bank) s fun d =>
      penHigh bank.val d = true ∧ (carrier bank.val d).awaitTokens = none ∧ (carrier bank.val d).bringUp = 1 ∧
      (carrier bank.val d).penMs = nowMs s.dev ∧ (∀ c, c < 8 → getObj (Obj.channelState (bank.val * 8 + c)) d = 0x01) ∧
      d = { s.dev with objs := d.objs, media := { s.dev.media with pen := d.media.pen, carriers := d.media.carriers } } ∧
      OnlyObjs (Obj.domainState (0x10 + bank.val) :: (List.range 8).map fun c => Obj.channelState (bank.val * 8 + c)) s.dev d ∧
      ∀ b, b ≠ bank.val → carrier b d = carrier b s.dev ∧ penHigh b d = penHigh b s.dev) ∧
  (∀ (s : State) (bank : Bank) (c : Instr) (k : Nat), carrierState bank.val s.dev = 0x02 → (carrier bank.val s.dev).bringUp = k →
    (c, k) ∈ [(.pgoodRise bank, 1), (.diePowerOnElapsed bank, 2)] → Does c s fun d =>
      carrier bank.val d = { carrier bank.val s.dev with bringUp := k + 1, pgood := k == 1 || (carrier bank.val s.dev).pgood } ∧
      (k = 1 → d.media.channels = s.dev.media.channels) ∧
      (k = 2 → ∀ c, c < 8 → smGet {} d.media.channels (bank.val * 8 + c) = { driven := true }) ∧
      d = { s.dev with media := { s.dev.media with carriers := d.media.carriers, channels := d.media.channels } } ∧
      ∀ b, b ≠ bank.val → carrier b d = carrier b s.dev) ∧
  (∀ (s : State) (bank : Bank) (present : List Nat) (r : LunReport) (e : Nat), carrierState bank.val s.dev = 0x02 →
    (carrier bank.val s.dev).bringUp = 3 → (∀ c, c < 8 → present[c]? = some 0xFF) → matchLun r s.dev = some e →
    Does (.targetResetReady bank present [r]) s fun d =>
      (carrier bank.val d).bringUp = 5 ∧ (∀ c, c < 8 → getObj (Obj.channelTargetsPresent (bank.val * 8 + c)) d = 0xFF ∧
        getObj (Obj.channelProfileEntry (bank.val * 8 + c)) d = e % 256) ∧
      d = { s.dev with objs := d.objs, media := { s.dev.media with carriers := d.media.carriers } } ∧
      ∀ b, b ≠ bank.val → carrier b d = carrier b s.dev) ∧
  (∀ (s : State) (channel : Channel) (r : Nat) (anchor : Option (Nat × Nat)), carrierState (channel.val / 8) s.dev = 0x02 →
    (carrier (channel.val / 8) s.dev).bringUp = 5 → getObj (Obj.channelState channel.val) s.dev = 0x01 →
    (∃ c, c < 8 ∧ channel.val / 8 * 8 + c ≠ channel.val ∧ getObj (Obj.channelState (channel.val / 8 * 8 + c)) s.dev = 0x01) →
    chargeFits (channel.val / 8) 5 s.dev = true → Does (.channelTrainingDone channel (some r) anchor) s fun d =>
      getObj (Obj.channelState channel.val) d = 0x02 ∧
      getObj (Obj.channelRateActual channel.val) d =
        min r (min (getObj (Obj.channelRateCode channel.val) s.dev) (profileOf (channel.val * 32) s.dev).maxRateCode) % 256 ∧
      (smGet {} d.media.channels channel.val).wpHigh = true ∧ (smGet {} d.media.channels channel.val).lpddr4 = true ∧
      (∀ c, c ≠ channel.val → getObj (Obj.channelState c) d = getObj (Obj.channelState c) s.dev) ∧ MediumOnly s.dev d) ∧
  (∀ (s : State) (channel : Channel) (r : Nat), carrierState (channel.val / 8) s.dev = 0x02 →
    (carrier (channel.val / 8) s.dev).bringUp = 5 → getObj (Obj.channelState channel.val) s.dev = 0x01 →
    (∀ c, c < 8 → channel.val / 8 * 8 + c ≠ channel.val → getObj (Obj.channelState (channel.val / 8 * 8 + c)) s.dev ≠ 0x01) →
    chargeFits (channel.val / 8) 5 s.dev = true → Does (.channelTrainingDone channel (some r) none) s fun d =>
      carrierState (channel.val / 8) d = (if getObj Obj.autoJoinBlank s.dev = 1 then 0x03 else 0x0A) ∧
      (carrier (channel.val / 8) d).cls = 2 ∧ (carrier (channel.val / 8) d).bringUp = 0 ∧ MediumOnly s.dev d) ∧
  (∀ (s : State) (bank : Bank) (refOffsets : List (List Int)) (failed : List Nat), carrierState bank.val s.dev = 0x03 →
    Does (.carrierJoined bank refOffsets failed) s fun d =>
      carrierState bank.val d = 0x04 ∧ bank.val ∈ d.media.expected ∧ (carrier bank.val d).lost = false ∧
      (∀ b, b ≠ bank.val → carrier b d = carrier b s.dev) ∧
      d.ctl = s.dev.ctl ∧ d.res = s.dev.res ∧ d.settings = s.dev.settings ∧ d.sec = s.dev.sec ∧ d.domains = s.dev.domains ∧
      d.media.stripes = s.dev.media.stripes ∧ d.media.pen = s.dev.media.pen ∧ OnlyLedgers [7] s.dev d)

/-! ### Channels and dies (spec/03) -/

/-- R63 to R67, R70: a LUN that is found ready has not timed out; a busy one within 110 % of its maximum time goes on; beyond it, and where a suspension
takes too long, the timeout is counted and the erase or the pass has failed on its four planes; a read suspends an operation where the entry
permits and waits for it otherwise; a short calibration, once a second, is made while its five tokens are free, and waits for them otherwise. -/
def Obligations.DieStatusIsFollowed : Prop :=
  (∀ (s : State) (channel : Channel) (busy : List Nat), Does (.readyBusyRise channel busy) s fun d =>
    (∀ n, die n d = if channelOfDie n = channel.val ∧ opRuns n s.dev = true ∧ (die n s.dev).op.suspended = false ∧ n ∉ busy
      then { die n s.dev with timeouts := 0 } else die n s.dev) ∧
    d = { s.dev with media := { s.dev.media with dies := d.media.dies } }) ∧
  (∀ (s : State) (n : Die) (slot : Fin 2) (op us : Nat), getObj (Obj.channelState (channelOfDie n.val)) s.dev = 0x02 →
    opOutstanding n.val slot.val op s.dev = true → (die n.val s.dev).op.suspended = false → Does (.statusPoll n slot op us false) s fun d =>
      die n.val d = { die n.val s.dev with timeouts := 0 } ∧ (∀ k, k ≠ n.val → die k d = die k s.dev) ∧
      d = { s.dev with media := { s.dev.media with dies := d.media.dies } }) ∧
  (∀ (s : State) (n : Die) (slot : Fin 2) (op us : Nat), 10 * us < 11 * opMax n.val op s.dev → Does (.statusPoll n slot op us true) s fun d =>
    d = s.dev) ∧
  (∀ (s : State) (n : Die) (slot : Fin 2) (c : Instr) (op us : Nat),
    (c = .statusPoll n slot op us true ∧ 11 * opMax n.val op s.dev ≤ 10 * us ∧ (die n.val s.dev).op.suspended = false ∨
      c = .suspendTimeout n slot op ∧ (die n.val s.dev).op.suspended = true) →
    getObj (Obj.channelState (channelOfDie n.val)) s.dev = 0x02 → opOutstanding n.val slot.val op s.dev = true →
    (op = 4 ∧ (group n.val slot.val s.dev).erasing = true ∨ op ∈ [2, 3] ∧ (nextPass (group n.val slot.val s.dev)).isSome = true) →
    (die n.val s.dev).timeouts = 0 → ChargeHeld n.val s.dev → s.dev.media.flight = [] → Does c s fun d =>
      getObj (Obj.channelOpTimeouts (channelOfDie n.val)) d =
        (getObj (Obj.channelOpTimeouts (channelOfDie n.val)) s.dev + 1) % objModulus (Obj.channelOpTimeouts (channelOfDie n.val)) ∧
      (op ≠ 4 → getObj Obj.programFailCount d = (getObj Obj.programFailCount s.dev + 4) % objModulus Obj.programFailCount) ∧
      (op = 4 → getObj Obj.eraseFailCount d = (getObj Obj.eraseFailCount s.dev + 4) % objModulus Obj.eraseFailCount) ∧ MediumOnly s.dev d) ∧
  (∀ (s : State) (n : Die) (op : Nat), opRuns n.val s.dev = true → (die n.val s.dev).op.kind = op → dieInService n.val s.dev = true →
    (die n.val s.dev).op.suspended = false → Does (.readSuspend n op) s fun d =>
      (die n.val d).op = (if bitOf (profileOf n.val s.dev).flags (if op = 4 then 1 else 2) = true ∧
          (die n.val s.dev).op.suspends < (profileOf n.val s.dev).suspendLimit
        then { (die n.val s.dev).op with suspends := (die n.val s.dev).op.suspends + 1, suspended := true }
        else { (die n.val s.dev).op with readsWaiting := (die n.val s.dev).op.readsWaiting + 1 }) ∧
      die n.val d = { die n.val s.dev with op := (die n.val d).op } ∧
      (∀ k, k ≠ n.val → die k d = die k s.dev) ∧ d = { s.dev with media := { s.dev.media with dies := d.media.dies } }) ∧
  (∀ (s : State) (channel : Channel), getObj (Obj.channelState channel.val) s.dev = 0x02 →
    (smGet {} s.dev.media.channels channel.val).zqMs + 1000 ≤ nowMs s.dev → chargeFits (channel.val / 8) 5 s.dev = true →
    Does (.zqCalibrationShort channel) s fun d =>
      smGet {} d.media.channels channel.val = { smGet {} s.dev.media.channels channel.val with zqMs := nowMs s.dev } ∧
      (∀ c, c ≠ channel.val → smGet {} d.media.channels c = smGet {} s.dev.media.channels c) ∧
      d = { s.dev with media := { s.dev.media with channels := d.media.channels } }) ∧
  (∀ (s : State) (channel : Channel), getObj (Obj.channelState channel.val) s.dev = 0x02 →
    (smGet {} s.dev.media.channels channel.val).zqMs + 1000 ≤ nowMs s.dev → chargeFits (channel.val / 8) 5 s.dev = false →
    Does (.zqCalibrationShort channel) s fun d =>
      ledger 1 d = { ledger 1 s.dev with refused := ((ledger 1 s.dev).refused + 1) % 2 ^ 64 } ∧
      d = { s.dev with ledgers := d.ledgers } ∧ OnlyLedgers [1] s.dev d)

/-- R57, R71, R75 to R79: a plane group is formed of one free block of each plane and its erase is due; the end of the erase makes it ready for its first
coarse pass; coarse and fine passes advance it; sixty seconds without a pass erase it again. A plane whose erase fails loses its block. The die
then asks for the tokens of its next operation. -/
def Obligations.PlaneGroupsAreErasedAndProgrammed : Prop :=
  (∀ (s : State) (n : Die) (slot : Fin 2), (group n.val slot.val s.dev).used = true → (group n.val slot.val s.dev).blocks = [] →
    (∀ p, p < 4 → ∃ b, bestFree n.val p s.dev = some b ∧
      (memberRole n.val (group n.val slot.val s.dev).stripe s.dev = 0 → (chooseStep (capacityEstimate b s.dev) s.dev).isSome = true)) →
    Does (.formPlaneGroup n slot) s fun d =>
      (group n.val slot.val d).blocks.map some = (List.range 4).map (fun p => bestFree n.val p s.dev) ∧
      group n.val slot.val d = { group n.val slot.val s.dev with blocks := (group n.val slot.val d).blocks, erasing := true } ∧
      (∀ b ∈ (group n.val slot.val d).blocks, (smGet {} d.media.blocks b).state = 1 ∧ (smGet {} d.media.blocks b).next = 1) ∧
      (∀ b, b ∉ (group n.val slot.val d).blocks →
        smGet {} d.media.blocks b = { smGet {} s.dev.media.blocks b with next := (smGet {} d.media.blocks b).next }) ∧
      (∀ f, d.media.groupLog.getLast? = some f → f.records.map (·.blocks) = [(group n.val slot.val d).blocks]) ∧
      (∀ k, k ≠ n.val → die k d = die k s.dev) ∧ OnlyLedgers [1] s.dev d ∧
      d = { s.dev with ledgers := d.ledgers, free := d.free
                       res := { s.dev.res with nextReq := d.res.nextReq, waiting := d.res.waiting, lastBank := d.res.lastBank }
                       media := { s.dev.media with blocks := d.media.blocks, groups := d.media.groups, stored := d.media.stored
                                                   dies := d.media.dies, stripes := d.media.stripes, groupLog := d.media.groupLog
                                                   wp := { s.dev.media.wp with openSeq := s.dev.media.wp.openSeq + 1 } } }) ∧
  (∀ (s : State) (n : Die) (slot : Fin 2), eraseRuns n.val slot.val s.dev = true → ChargeHeld n.val s.dev →
    Does (.eraseComplete n slot []) s fun d =>
      (group n.val slot.val d).erasing = false ∧ (group n.val slot.val d).erasedMs = some (nowMs s.dev) ∧
      (group n.val slot.val d).blocks = (group n.val slot.val s.dev).blocks ∧ (die n.val d).timeouts = 0 ∧
      (∀ k, k ≠ n.val → die k d = die k s.dev) ∧ MediumOnly s.dev d) ∧
  (∀ (s : State) (n : Die) (slot : Fin 2) (p : Nat), eraseRuns n.val slot.val s.dev = true → ChargeHeld n.val s.dev → p < 4 →
    ∀ b, (group n.val slot.val s.dev).blocks[p]? = some b → (∀ q, q ≠ p → (group n.val slot.val s.dev).blocks[q]? ≠ some b) →
    Does (.eraseComplete n slot [p]) s fun d =>
      (smGet {} d.media.blocks b).state = 5 ∧ (smGet {} d.media.blocks b).retireCause = 2 ∧
      getObj Obj.eraseFailCount d = (getObj Obj.eraseFailCount s.dev + 1) % objModulus Obj.eraseFailCount ∧ MediumOnly s.dev d) ∧
  (∀ (s : State) (n : Die) (slot : Fin 2) (t : Nat), (group n.val slot.val s.dev).erasedMs = some t → (group n.val slot.val s.dev).coarse = 0 →
    t + 60000 < nowMs s.dev → (group n.val slot.val s.dev).blocks.Nodup → Does (.groupEraseStale n slot) s fun d =>
      group n.val slot.val d = { group n.val slot.val s.dev with erasing := true, erasedMs := none } ∧
      (∀ b ∈ (group n.val slot.val s.dev).blocks, smGet {} d.media.blocks b = { smGet {} s.dev.media.blocks b with
        erases := min 524287 ((smGet {} s.dev.media.blocks b).erases + 1), freshLag := min 255 ((smGet {} s.dev.media.blocks b).freshLag + 1) }) ∧
      (∀ b, b ∉ (group n.val slot.val s.dev).blocks → smGet {} d.media.blocks b = smGet {} s.dev.media.blocks b) ∧
      (∀ k, k ≠ n.val → die k d = die k s.dev) ∧ OnlyLedgers [1] s.dev d ∧
      d = { s.dev with ledgers := d.ledgers
                       res := { s.dev.res with nextReq := d.res.nextReq, waiting := d.res.waiting, lastBank := d.res.lastBank }
                       media := { s.dev.media with blocks := d.media.blocks, groups := d.media.groups, dies := d.media.dies } }) ∧
  (∀ (s : State) (n : Die) (slot : Fin 2) (fine : Bool) (w : Nat), nextPass (group n.val slot.val s.dev) = some (fine, w) →
    (group n.val slot.val s.dev).rowBase + w < 511 → passRuns n.val slot.val s.dev = true → ChargeHeld n.val s.dev →
    BuffersHeld (group n.val slot.val s.dev).stripe s.dev → s.dev.media.flight = [] → Does (.programPassComplete n slot []) s fun d =>
      (group n.val slot.val d).fine = (group n.val slot.val s.dev).fine + b2n fine ∧
      (group n.val slot.val d).coarse = (group n.val slot.val s.dev).coarse + b2n (!fine) ∧
      (group n.val slot.val d).blocks = (group n.val slot.val s.dev).blocks ∧ (die n.val d).timeouts = 0 ∧ MediumOnly s.dev d)

/-- R236 to R238: codewords of a grain that decode at L1 take the grain to decompression and clear the die's timeouts; codewords of a die that cannot
be read, of which no peer can be read either, end the read of the grain as unrecovered. -/
def Obligations.ArrayReadsClimbTheLadder : Prop :=
  (∀ (s : State) (id grain : Nat) (a : ArrayRead) (g : ReadGrain), readGrain id grain s.dev = some g → g.stage = .codewords →
    blockUnreadable (blockOf g.pointer) s.dev = false → carrierStaging (bankOfDie (dieOfBlock (blockOf g.pointer))) s.dev = false →
    readRuns g.pointer (smGet {} s.dev.media.stored g.pointer).frames s.dev = true →
    hostReadAhead (dieOfBlock (blockOf g.pointer)) g.arrival s.dev = false → a.timedOut = false →
    (∀ i, i < (grainCodewords (block (blockOf g.pointer) s.dev).step (frameOf g.pointer) (smGet {} s.dev.media.stored g.pointer).frames).length →
      ∃ r, (a.codewords[i]?).map (·.1.first) = some r ∧ (((decodeHard (block (blockOf g.pointer) s.dev).step r).word r).isSome = true)) →
    Does (.arrayReadComplete id grain a) s fun d =>
      readGrain id grain d = some { g with stage := .inflate, step := 1 } ∧
      (die (dieOfBlock (blockOf g.pointer)) d).timeouts = 0 ∧ (die (dieOfBlock (blockOf g.pointer)) d).op.suspended = false ∧ MediumOnly s.dev d) ∧
  (∀ (s : State) (id grain : Nat) (a : ArrayRead) (g : ReadGrain), readGrain id grain s.dev = some g → g.stage = .codewords →
    blockUnreadable (blockOf g.pointer) s.dev = true → carrierStaging (bankOfDie (dieOfBlock (blockOf g.pointer))) s.dev = false →
    bitOf (getObj (Obj.carrierThermalState (bankOfDie (dieOfBlock (blockOf g.pointer)))) s.dev) 1 = false →
    (∀ c ∈ a.codewords, c.2 = []) → (∃ k, k ≠ grain ∧ ∃ h, readGrain id k s.dev = some h ∧ h.stage ≠ .ended) →
    Does (.arrayReadComplete id grain a) s fun d =>
      readGrain id grain d = some { g with stage := .ended, failed := some (0x2, 0x81, false, 0) } ∧
      getObj Obj.grainsUnrecovered d = (getObj Obj.grainsUnrecovered s.dev + 1) % objModulus Obj.grainsUnrecovered ∧ MediumOnly s.dev d)


/-! ### Cell coding (spec/04) -/

/-- R116, R118, R111: a fresh read of a sample wordline makes the class that its tracking run leads to the die's fresh class, and after the last
sample wordline records C of the counts, or 0 where fewer than four halves were usable. Ten codewords that decode at once take ten hard
attempts, no soft one and no further run. A read that the bank's tokens do not allow waits. R119: the slope of a die is recomputed once its hour
is over, from the records of the die. R125: a query block belongs to its path. R126: the figures are those of the blocks counted now. -/
def Obligations.FreshReadsAndReports : Prop :=
  (∀ (s : State) (b w : Nat) (r : SampleReads) (capacity : List (List Nat)), freshReadable b w s.dev = true →
    dieFree (dieOfBlock b) s.dev = true → chargeFits (bankOfDie (dieOfBlock b)) (opTokens (profileOf (dieOfBlock b) s.dev) 1) s.dev = true →
    (die (dieOfBlock b) s.dev).freshFails.length + 1 < getObj Obj.dieFreshFailLimit s.dev →
    Does (.freshRead b w r capacity) s fun d =>
      let reads := (List.range 10).map fun k => (r.codewords[k]?).getD {}
      let cs := (climbAll b (10 * w) reads [] s.dev).1
      let halves := usableHalves cs
      (die (dieOfBlock b) d).freshClass = (smGet {} d.media.blocks b).cls ∧
      (die (dieOfBlock b) d).op = { (die (dieOfBlock b) s.dev).op with suspended := false } ∧
      (smGet {} d.media.blocks b).sampled = w :: (block b s.dev).sampled ∧
      (smGet {} d.media.blocks b).halves = min 8 ((block b s.dev).halves + halves.length) ∧
      (w = 448 → (smGet {} d.media.blocks b).freshLag = 0 ∧ (smGet {} d.media.blocks b).freshC =
        if min 8 ((block b s.dev).halves + halves.length) < 4 then 0
        else capacityOf (smGet [] (addFresh b (jointCounts (pagesOfReads reads) capacity halves) s.dev).media.fresh b)) ∧
      ((∀ k, k < 10 → ((decodeHard (block b s.dev).step ((r.codewords[k]?).getD {}).first).word
          ((r.codewords[k]?).getD {}).first).isSome = true) →
        getObj Obj.hardDecodes d = (getObj Obj.hardDecodes s.dev + 10) % 2 ^ 64 ∧
        getObj Obj.softDecodes d = getObj Obj.softDecodes s.dev ∧
        getObj Obj.trackingRuns d = (getObj Obj.trackingRuns s.dev + 1) % 2 ^ 64) ∧
      (∀ k, k ≠ b → smGet {} d.media.blocks k = smGet {} s.dev.media.blocks k) ∧
      (∀ k, k ≠ dieOfBlock b → die k d = die k s.dev) ∧ OnlyLedgers [7] s.dev d ∧ MediumOnly s.dev d) ∧
  (∀ (s : State) (b w : Nat) (r : SampleReads) (capacity : List (List Nat)), freshReadable b w s.dev = true →
    dieFree (dieOfBlock b) s.dev = true → chargeFits (bankOfDie (dieOfBlock b)) (opTokens (profileOf (dieOfBlock b) s.dev) 1) s.dev = false →
    Does (.freshRead b w r capacity) s fun d =>
      (ledger 1 d).refused = ((ledger 1 s.dev).refused + 1) % 2 ^ 64 ∧ OnlyLedgers [1] s.dev d ∧ d = { s.dev with ledgers := d.ledgers }) ∧
  (∀ (s : State) (n : Nat) (x : DieState), (n, x) ∈ s.dev.media.dies → (∀ y, (n, y) ∈ s.dev.media.dies → y = x) →
    (∀ e ∈ s.dev.media.dies, e.1 < 4096) → x.slopeHours + 16 ≤ hours s.dev → Does .wearSlopeRecompute s fun d =>
      wearSlope n d = slopeOf x ∧ (die n d).slopeHours = hours s.dev ∧
      (x.falls.length < 64 → wearSlope n d = 100) ∧ wearSlope n d ≤ 400 ∧
      d = { s.dev with objs := d.objs, media := { s.dev.media with dies := d.media.dies } }) ∧
  (∀ (s : State) (path value : Nat), Admitted path s.dev → value < 2 ^ 26 → Does (.etaQueryBlock path value) s fun d =>
    queryBlock path d = value ∧ Answered path s.dev d ∧ (∀ p, p ≠ path → pathState p d = pathState p s.dev) ∧
    d = { s.dev with objs := d.objs, settings := { s.dev.settings with paths := d.settings.paths } } ∧
    OnlyObjs [Obj.dictionaryRequests] s.dev d) ∧
  (∀ s : State, Does .etaReportUpdate s fun d =>
    getObj Obj.deviceCapacityMedian d = median ((countedBlocks s.dev).map (·.2.cap)) ∧
    getObj Obj.deviceEtaMedian d = median ((countedBlocks s.dev).map fun e => etaOf e.2.step e.2.cap) ∧
    (∀ k, k < 8 → getObj (Obj.blocksAtStep (k + 1)) d = ((countedBlocks s.dev).filter (·.2.step = k)).length) ∧
    (∀ k, k / 65536 ≠ 0x43 → k / 65536 ≠ 0x83 → getObj k d = getObj k s.dev) ∧
    d = { s.dev with objs := d.objs, media := { s.dev.media with rc := { s.dev.media.rc with etaHours := hours s.dev } } })

/-! ### The map (spec/05) -/

/-- R146, Table 5.7: Place and Unmap write an entry whatever it held, and Relocate and Mark lost only one that equals the pointer they expect:
otherwise nothing changes but ConditionalDiscards. Each that takes effect appends its record and leaves every other entry; Region reset unmaps
every entry of its slot and leaves its pages not resident. R150: the old pointer and the kind of the update are reported. R148, R169, R173: an
Unmap, a Mark lost and a Region reset that cannot be applied yet wait in order, and change no entry. -/
def Obligations.MapUpdatesTakeEffect : Prop :=
  (∀ (s : State) (id : Nat) (g : FlightGrain) (p : Placement), flightGrain id s.dev = some g → g.placed = some p → g.zero = false →
    g.seq = none → unmapWaits g s.dev = false → updateReady g.stored.slot g.stored.grain s.dev = true →
    (lastRowOf p s.dev < (stripe p.stripe s.dev).done ∨ (stripe p.stripe s.dev).isOpen = false) → g.cmd ≠ 0 →
    Does (.place id) s fun d =>
      mapEntry g.stored.slot g.stored.grain d = pointerOf p.block p.frame ∧
      d.media.map.openFrame = s.dev.media.map.openFrame ++ [.entrySet g.stored.slot g.stored.grain (pointerOf p.block p.frame)] ∧
      d.media.rc.report = some (.place, mapEntry g.stored.slot g.stored.grain s.dev) ∧
      getObj Obj.journalSequence d = (getObj Obj.journalSequence s.dev + 1) % 2 ^ 64 ∧
      (mapPage g.stored.slot (pageOf g.stored.grain) d).dirty = true ∧
      (∀ k, k ≠ mapKey g.stored.slot g.stored.grain → smGet 0 d.media.map.entries k = smGet 0 s.dev.media.map.entries k) ∧
      d = { s.dev with objs := d.objs
                       media := { s.dev.media with map := d.media.map, blocks := d.media.blocks, flight := d.media.flight
                                                   rc := { s.dev.media.rc with released := d.media.rc.released, report := d.media.rc.report } } }) ∧
  (∀ (s : State) (id : Nat) (g : FlightGrain) (p : Placement), flightGrain id s.dev = some g → g.placed = some p →
    g.seq = none → updateReady g.stored.slot g.stored.grain s.dev = true →
    (lastRowOf p s.dev < (stripe p.stripe s.dev).done ∨ (stripe p.stripe s.dev).isOpen = false) → g.cmd = 0 → ∀ o, g.old = some o →
    Does (.relocate id) s fun d =>
      (mapEntry g.stored.slot g.stored.grain s.dev = o →
        mapEntry g.stored.slot g.stored.grain d = pointerOf p.block p.frame ∧ d.media.rc.report = some (.relocate, o) ∧ d.media.map.openFrame =
          s.dev.media.map.openFrame ++ [.entrySet g.stored.slot g.stored.grain (pointerOf p.block p.frame)]) ∧
      (mapEntry g.stored.slot g.stored.grain s.dev ≠ o → d.media.map = s.dev.media.map ∧
        getObj Obj.conditionalDiscards d = (getObj Obj.conditionalDiscards s.dev + 1) % objModulus Obj.conditionalDiscards) ∧
      (∀ k, k ≠ mapKey g.stored.slot g.stored.grain → smGet 0 d.media.map.entries k = smGet 0 s.dev.media.map.entries k) ∧
      d = { s.dev with objs := d.objs
                       media := { s.dev.media with map := d.media.map, blocks := d.media.blocks, flight := d.media.flight
                                                   rc := { s.dev.media.rc with released := d.media.rc.released, report := d.media.rc.report } } }) ∧
  (∀ (s : State) (slot first count : Nat), 1 ≤ count → rangeReady slot first count s.dev = true → Does (.unmap slot first count) s fun d =>
      (∀ i, i < count → mapEntry slot (first + i) d = 0) ∧
      d.media.map.openFrame = s.dev.media.map.openFrame ++
        [if count = 1 then .entrySet slot first 0 else .rangeSet slot first count 0] ∧
      (∀ k, k < mapKey slot first ∨ mapKey slot (first + count) ≤ k →
        smGet 0 d.media.map.entries k = smGet 0 s.dev.media.map.entries k) ∧
      d = { s.dev with objs := d.objs
                       media := { s.dev.media with map := d.media.map, blocks := d.media.blocks
                                                   rc := { s.dev.media.rc with released := d.media.rc.released, report := d.media.rc.report } } }) ∧
  (∀ (s : State) (slot grain pointer : Nat), updateReady slot grain s.dev = true → pointer ≠ 0 →
    Does (.markLost slot grain pointer) s fun d =>
      (mapEntry slot grain s.dev = pointer → mapEntry slot grain d = lostEntry ∧
        d.media.map.openFrame = s.dev.media.map.openFrame ++ [.entrySet slot grain lostEntry] ∧ d.media.rc.report = some (.markLost, pointer) ∧
        getObj Obj.grainsMarkedLost d = (getObj Obj.grainsMarkedLost s.dev + 1) % objModulus Obj.grainsMarkedLost) ∧
      (mapEntry slot grain s.dev ≠ pointer → d.media = s.dev.media ∧
        getObj Obj.conditionalDiscards d = (getObj Obj.conditionalDiscards s.dev + 1) % objModulus Obj.conditionalDiscards) ∧
      (∀ k, k ≠ mapKey slot grain → smGet 0 d.media.map.entries k = smGet 0 s.dev.media.map.entries k) ∧
      d = { s.dev with objs := d.objs, media := { s.dev.media with map := d.media.map, blocks := d.media.blocks, rc := d.media.rc } }) ∧
  (∀ (s : State) (slot : Nat), journalFull s.dev = false → Does (.regionReset slot) s fun d =>
    (∀ k, smGet 0 d.media.map.entries k = if k / 2 ^ 40 = slot then 0 else smGet 0 s.dev.media.map.entries k) ∧
    (∀ k, smGet {} d.media.map.pages k = if k / 2 ^ 32 = slot then {} else smGet {} s.dev.media.map.pages k) ∧
    d.media.map.openFrame = s.dev.media.map.openFrame ++
      [.regionReset slot (if (namespace_ slot s.dev).active then pagesOf (namespace_ slot s.dev).nsze else 0)] ∧
    d = { s.dev with objs := d.objs
                     media := { s.dev.media with map := d.media.map, blocks := d.media.blocks
                                                 rc := { s.dev.media.rc with released := d.media.rc.released, report := d.media.rc.report } } }) ∧
  (∀ (s : State) (slot first count : Nat), 1 ≤ count → rangeReady slot first count s.dev = false →
    Does (.unmap slot first count) s (UpdateWaits (.unmap slot first count) s.dev)) ∧
  (∀ (s : State) (slot grain pointer : Nat), updateReady slot grain s.dev = false →
    Does (.markLost slot grain pointer) s (UpdateWaits (.markLost slot grain pointer) s.dev)) ∧
  (∀ (s : State) (slot : Nat), journalFull s.dev = true → Does (.regionReset slot) s (UpdateWaits
    (.regionReset slot (if (namespace_ slot s.dev).active then pagesOf (namespace_ slot s.dev).nsze else 0)) s.dev))

/-- R152, R140: with the cache on, a lookup of a resident page finds its line in the set and brings it to the front, as a hit, or fills it; no
entry changes. A page that is not resident is asked for. R156, Table 5.8: Enable, Disable and Invalidate from each state that grants them, and
the states that reject them. R173, R175, R176: a page that loads becomes resident, its replay records applied; one whose image is unreadable
loses its entries; the background loader goes on to the next page and ends when there is none; a line that fails its CRC is rebuilt, or its
twelve entries become lost. -/
def Obligations.MapPagesAndCache : Prop :=
  (∀ (s : State) (stream slot grain : Nat), lookupReady slot grain s.dev = true → s.dev.media.wp.reads = [] →
    takeDamage 6 (pageKey slot (pageOf grain)) s.dev = (none, s.dev) → Does (.mapLookup stream slot grain) s fun d =>
      d.media.map.entries = s.dev.media.map.entries ∧
      (getObj Obj.mapCacheState s.dev ≠ 0x02 → d.objs = s.dev.objs ∧ d.media.map = { s.dev.media.map with strides := d.media.map.strides }) ∧
      (getObj Obj.mapCacheState s.dev = 0x02 →
        ((smGet [] d.media.map.cache (cacheSet slot (lineOf grain))).head?.map (·.1)) = some (lineKey slot (lineOf grain)) ∧
        ((cached (lineKey slot (lineOf grain)) s.dev).isSome = true →
          getObj Obj.mapCacheHits d = (getObj Obj.mapCacheHits s.dev + 1) % objModulus Obj.mapCacheHits) ∧
        ((cached (lineKey slot (lineOf grain)) s.dev).isSome = false → getObj Obj.mapCacheHits d = getObj Obj.mapCacheHits s.dev)) ∧
      ((s.dev.media.map.strides.any (·.key == stream)) = false → ∀ k, k ≠ cacheSet slot (lineOf grain) →
        smGet [] d.media.map.cache k = smGet [] s.dev.media.map.cache k) ∧
      d = { s.dev with objs := d.objs, media := { s.dev.media with map := { s.dev.media.map with
        cache := d.media.map.cache, evict := d.media.map.evict, badLines := d.media.map.badLines, asked := d.media.map.asked
        prefetched := d.media.map.prefetched, strides := d.media.map.strides } } }) ∧
  (∀ (s : State) (stream slot grain : Nat), (mapPage slot (pageOf grain) s.dev).resident = false → s.dev.media.wp.reads = [] →
    takeDamage 6 (pageKey slot (pageOf grain)) s.dev = (none, s.dev) → Does (.mapLookup stream slot grain) s fun d =>
      smGet 0 d.media.map.asked (pageKey slot (pageOf grain)) = 1 ∧
      d = { s.dev with media := { s.dev.media with map := { s.dev.media.map with asked := d.media.map.asked } } }) ∧
  (∀ (s : State) (path : Nat), Granted path Obj.mapCacheControl s.dev → getObj Obj.mapCacheState s.dev ∈ [0x01, 0x02] →
    Does (.mapCacheEnable path) s fun d =>
      getObj Obj.mapCacheState d = 0x02 ∧ Answered path s.dev d ∧ (pathState path d).grant = none ∧
      d = { s.dev with objs := d.objs, settings := { s.dev.settings with paths := d.settings.paths } } ∧
      OnlyObjs [Obj.dictionaryRequests, Obj.mapCacheState] s.dev d) ∧
  (∀ (s : State) (path : Nat), Granted path Obj.mapCacheControl s.dev → getObj Obj.mapCacheState s.dev ∈ [0x00, 0x01, 0x02] →
    Does (.mapCacheDisable path) s fun d =>
      getObj Obj.mapCacheState d = (if getObj Obj.mapCacheState s.dev = 0x02 then 0x00 else getObj Obj.mapCacheState s.dev) ∧
      (getObj Obj.mapCacheState s.dev = 0x02 → d.media.map.evict = [] ∧ ∀ k w, w ∈ smGet [] d.media.map.cache k → w.2 = false) ∧
      (getObj Obj.mapCacheState s.dev ≠ 0x02 → d.media = s.dev.media) ∧
      Answered path s.dev d ∧ (pathState path d).grant = none ∧
      d = { s.dev with objs := d.objs, settings := { s.dev.settings with paths := d.settings.paths }
                       media := { s.dev.media with map := { s.dev.media.map with
                         cache := d.media.map.cache, evict := d.media.map.evict, badLines := d.media.map.badLines } } } ∧
      OnlyObjs [Obj.dictionaryRequests, Obj.mapCacheState] s.dev d) ∧
  (∀ (s : State) (path : Nat), Granted path Obj.mapCacheControl s.dev → getObj Obj.mapCacheState s.dev ∈ [0x00, 0x01, 0x02] →
    Does (.mapCacheInvalidate path) s fun d =>
      getObj Obj.mapCacheState d = (if getObj Obj.mapCacheState s.dev = 0x00 then 0x01 else getObj Obj.mapCacheState s.dev) ∧
      (getObj Obj.mapCacheState s.dev ≠ 0x01 → d.media.map.cache = []) ∧
      (getObj Obj.mapCacheState s.dev = 0x02 → d.media.map.evict = []) ∧ (getObj Obj.mapCacheState s.dev = 0x01 → d.media = s.dev.media) ∧
      Answered path s.dev d ∧ (pathState path d).grant = none ∧
      d = { s.dev with objs := d.objs, settings := { s.dev.settings with paths := d.settings.paths }
                       media := { s.dev.media with map := { s.dev.media.map with
                         cache := d.media.map.cache, evict := d.media.map.evict, badLines := d.media.map.badLines } } } ∧
      OnlyObjs [Obj.dictionaryRequests, Obj.mapCacheState] s.dev d) ∧
  (∀ (s : State) (slot page : Nat) (readable : Bool) (bad : List Nat), loadable slot page s.dev = true → loadTurn slot page s.dev = true →
    loadBuffer s.dev = true → (smGet 0 s.dev.media.map.asked (pageKey slot page) = 2 → imageDieBusy slot page s.dev = false) →
    s.dev.media.map.waits = [] → Does (.mapPageLoad slot page readable bad) s fun d =>
      (mapPage slot page d).resident = true ∧ (mapPage slot page d).replay = [] ∧ (mapPage slot page d).lost = false ∧
      smGet 0 d.media.map.asked (pageKey slot page) = 0 ∧
      ((mapPage slot page s.dev).lost = false → readable = true ∨ (mapPage slot page s.dev).image = 0 →
        d.media.map.entries = s.dev.media.map.entries) ∧
      ((mapPage slot page s.dev).lost = false → readable = true → (mapPage slot page s.dev).image ≠ 0 → ∀ i, i ∈ bad → i < 64 →
        lineKey slot (64 * page + i) ∈ d.media.map.badLines) ∧
      ((mapPage slot page s.dev).lost = true ∨ readable = false ∧ (mapPage slot page s.dev).image ≠ 0 →
        ((mapPage slot page s.dev).replay = [] → ∀ i, i < 768 → 768 * page + i < grainsOf (namespace_ slot s.dev).nsze →
          mapEntry slot (768 * page + i) d = lostEntry) ∧
        getObj Obj.mapPagesLost d = (getObj Obj.mapPagesLost s.dev + 1) % objModulus Obj.mapPagesLost) ∧
      OnlyObjs ([Obj.mapPagesLost, Obj.mapResidentComplete] ++ asideObjs) s.dev d ∧ OnlyLedgers [6, 7] s.dev d ∧
      Aside { s.dev with objs := d.objs, ledgers := d.ledgers, res := { s.dev.res with linkWaits := d.res.linkWaits }
                         media := { s.dev.media with map := d.media.map, rc := d.media.rc } } d) ∧
  (∀ (s : State) (slot page : Nat) (readable : Bool) (bad : List Nat), nextBackground s.dev = some (slot, page) →
    (mapPage slot page s.dev).image = 0 → (mapPage slot page s.dev).lost = false → s.dev.ctl.dirResident = true →
    s.dev.media.map.waits = [] → Does (.backgroundLoad readable bad) s fun d =>
      (mapPage slot page d).resident = true ∧ d.media.map.entries = s.dev.media.map.entries ∧
      d = { s.dev with objs := d.objs, media := { s.dev.media with map := { s.dev.media.map with
        pages := d.media.map.pages, asked := d.media.map.asked } } } ∧ OnlyObjs [Obj.mapResidentComplete] s.dev d) ∧
  (∀ (s : State) (slot page : Nat) (bad : List Nat), nextBackground s.dev = some (slot, page) → (mapPage slot page s.dev).image ≠ 0 →
    (mapPage slot page s.dev).lost = false → s.dev.ctl.dirResident = true → imageDieBusy slot page s.dev = false → loadBuffer s.dev = true →
    s.dev.media.map.waits = [] → Does (.backgroundLoad true bad) s fun d =>
      (mapPage slot page d).resident = true ∧ d.media.map.entries = s.dev.media.map.entries ∧ OnlyLedgers [6] s.dev d ∧
      d = { s.dev with objs := d.objs, ledgers := d.ledgers, res := { s.dev.res with linkWaits := d.res.linkWaits }
                       media := { s.dev.media with map := { s.dev.media.map with
                         pages := d.media.map.pages, asked := d.media.map.asked, badLines := d.media.map.badLines } } } ∧
      OnlyObjs [Obj.mapResidentComplete] s.dev d) ∧
  (∀ (s : State) (readable : Bool) (bad : List Nat), nextBackground s.dev = none → s.dev.ctl.dirResident = true →
    Does (.backgroundLoad readable bad) s fun d =>
      getObj Obj.mapResidentComplete d = 1 ∧ d = { s.dev with objs := d.objs } ∧ OnlyObjs [Obj.mapResidentComplete] s.dev d) ∧
  (∀ (s : State) (slot line : Nat) (good : Bool), (mapPage slot (line / 64) s.dev).resident = true → WriterOpen s.dev →
    s.dev.media.map.waits = [] → Does (.mapLineReloaded slot line good) s fun d =>
      let rebuilt := good && !reloadBroken slot line s.dev
      Recorded (if rebuilt = true then Code.mapLineReloaded else Code.mapLineLost) [slot, line] s.dev d ∧ lineBad slot line d = false ∧
      (rebuilt = true → getObj Obj.mapLinesReloaded d = (getObj Obj.mapLinesReloaded s.dev + 1) % objModulus Obj.mapLinesReloaded ∧
        d.media.map.entries = s.dev.media.map.entries) ∧
      (rebuilt = false → getObj Obj.mapLinesLost d = (getObj Obj.mapLinesLost s.dev + 1) % objModulus Obj.mapLinesLost ∧
        ∀ i, i < 12 → 12 * line + i < grainsOf (namespace_ slot s.dev).nsze → mapEntry slot (12 * line + i) d = lostEntry) ∧
      OnlyObjs ([Obj.mapLinesReloaded, Obj.mapLinesLost] ++ asideObjs) s.dev d ∧
      Aside { s.dev with objs := d.objs, media := { s.dev.media with map := d.media.map, rc := d.media.rc } } d)

/-- R161, R162: a frame is sealed when it is full or waited on, or 10 ms after its first record; with a good copy, and every earlier frame's, its
records are persistent; where a copy fails a checkpoint follows. R167, R168: a checkpoint starts at the next journal sequence, and its superblock
ends it: CheckpointSequence is S, the superblock's generation has risen, and the directory names an image of every page captured. R91: a
superblock that is due is written. -/
def Obligations.JournalAndCheckpoints : Prop :=
  (∀ (s : State) (c : Instr) (copy1 copy2 : Bool), s.dev.media.map.openFrame ≠ [] → programsHeld s.dev = false →
    (c = .journalFrameSeal copy1 copy2 ∧ (252 ≤ s.dev.media.map.openFrame.length ∨ sealWaited s.dev = true) ∨
      c = .journalSealTimeout copy1 copy2 ∧ s.dev.media.map.openMs + 10 ≤ nowMs s.dev) → Does c s fun d =>
      d.media.map.openFrame = s.dev.media.map.openFrame.drop 252 ∧
      getObj Obj.journalFrames d = s.dev.media.map.journal.length + 1 ∧
      d.media.map.journal.length = s.dev.media.map.journal.length + 1 ∧ d.media.map.journal.dropLast = s.dev.media.map.journal ∧
      (∀ f, d.media.map.journal.getLast? = some f → f.good1 = copy1 ∧ f.good2 = copy2 ∧ f.records = s.dev.media.map.openFrame.take 252 ∧
        f.first = getObj Obj.journalSequence s.dev - s.dev.media.map.openFrame.length) ∧
      (journalBroken s.dev = false → copy1 = true ∨ copy2 = true → getObj Obj.journalSequence s.dev - s.dev.media.map.openFrame.length
        + min 252 s.dev.media.map.openFrame.length ≤ d.media.map.persistent) ∧
      (copy1 = false → copy2 = false → journalBroken d = true ∧
        d.media.map.persistent = max s.dev.media.map.persistent
          (nextSequence s.dev.media.map.record.seq (validFrames [] s.dev.media.map.journal))) ∧
      (copy1 = false ∨ copy2 = false → d.media.map.checkpointDue = true) ∧ d.media.map.entries = s.dev.media.map.entries ∧
      (s.dev.media.wp.writes = [] → s.dev.media.wp.flushes = [] → s.dev.media.flight = [] →
        OnlyObjs (Obj.journalFrames :: asideObjs) s.dev d ∧ MediumOnly s.dev d)) ∧
  (∀ (s : State) (c : Instr), s.dev.media.map.checkpoint = none → mapRuns s.dev = true →
    (c = .checkpointStart ∧ checkpointDue s.dev = true ∨ c = .checkpointInterval ∧ s.dev.media.map.recordsSince = true ∧
      s.dev.media.map.record.hours + 16 * getObj Obj.checkpointIntervalHours s.dev ≤ hours s.dev) → Does c s fun d =>
      d = { s.dev with media := { s.dev.media with map := { s.dev.media.map with
        checkpoint := some (getObj Obj.journalSequence s.dev), startHours := hours s.dev
        startCycle := getObj Obj.powerCycleCount s.dev, checkpointDue := false } } }) ∧
  (∀ (s : State) (n : Nat), s.dev.media.map.checkpoint = some n → mapRuns s.dev = true → captureReady n s.dev = true →
    programsHeld s.dev = false → s.dev.media.map.waits = [] → s.dev.media.map.checkpointDue = false →
    Does (.checkpointSuperblock []) s fun d =>
      (d.media.map.checkpoint = none ∨
        d.media.map.checkpoint = some (getObj Obj.journalSequence d) ∧ d.media.map.startHours = hours s.dev) ∧
      getObj Obj.checkpointSequence d = n ∧ d.media.map.record.seq = n ∧
      d.media.map.record.hours = s.dev.media.map.startHours ∧
      getObj Obj.checkpointCount d = (getObj Obj.checkpointCount s.dev + 1) % objModulus Obj.checkpointCount ∧
      d.media.sb.generation = s.dev.media.sb.generation + 1 ∧ d.media.sbDue = false ∧
      (∀ f ∈ d.media.map.journal, n < f.first + f.records.length) ∧ d.media.map.openFrame = [] ∧
      (∀ key ∈ duePages n s.dev, (smGet {} d.media.map.pages key).dirty = false ∧
        (key, (smGet {} d.media.map.pages key).image) ∈ d.media.map.snapshot ∧
        (smGet {} d.media.map.images (smGet {} d.media.map.pages key).image).entries = pageEntries key s.dev) ∧
      d.media.map.entries = s.dev.media.map.entries ∧
      d.settings = { s.dev.settings with journalLimit := getObj Obj.journalLimitFrames s.dev } ∧ d.ctl = s.dev.ctl ∧ d.sec = s.dev.sec) ∧
  (∀ s : State, s.dev.media.sbDue = true → programsHeld s.dev = false → Does (.superblockWrite []) s fun d =>
    d.media.sb.generation = s.dev.media.sb.generation + 1 ∧ d.media.sbDue = false ∧
    (∀ b, (sideFull s.dev = false ∧ b ∈ carrying s.dev.media.sb.side s.dev ∨
        sideFull s.dev = true ∧ b ∈ carrying (1 - s.dev.media.sb.side) s.dev) →
      getObj (Obj.carrierLastGeneration b) d = s.dev.media.sb.generation + 1 ∧ (anchor (2 * b + d.media.sb.side) d).last = some d.media.sb) ∧
    d = { s.dev with objs := d.objs, media := { s.dev.media with sb := d.media.sb, sbDue := false, anchors := d.media.anchors
                                                                 blocks := d.media.blocks, dies := d.media.dies } }) ∧
  (∀ (s : State) (k : Nat), s.dev.media.sbDue = true → programsHeld s.dev = false → k < 32 → sideFull s.dev = false →
    k % 2 = s.dev.media.sb.side → k / 2 ∈ carrying (k % 2) s.dev → WriterOpen s.dev →
    Does (.superblockWrite [k]) s fun d =>
      bitOf d.media.sb.lostSides k = true ∧ Recorded Code.anchorLost [k / 2, k % 2] s.dev d ∧
      d.media.sb.generation = s.dev.media.sb.generation + 2 ∧ MediumOnly s.dev d) ∧
  (∀ (s : State) (failed : List Nat), s.dev.media.sbDue = true → programsHeld s.dev = true → Does (.superblockWrite failed) s fun d => d = s.dev)

/-! ### The write path (spec/06, spec/07) -/

/-- R179, R181, R501, R503: data that has landed is held in DRAM, one grain in flight for each grain the command touches, with the host's blocks in
it; a transfer that fails ends the command with nothing stored (R180). R214, Table 7.2: the engine that has a grain in work gives it its stored
form and frames, and the counts of Table 7.7 take it. -/
def Obligations.DataLandsAndIsCompressed : Prop :=
  (∀ (s : State) (id : Nat) (w : WriteCmd) (r : Landing), writeCmd id s.dev = some w → w.kind = 0 → w.landed = false → w.unmaps = [] →
    mustWait w s.dev = false → channelTurn w.channel w.id s.dev = true → portSends w.port s.dev = true → landingFault w r s.dev = none →
    partialGrains (namespace_ w.slot s.dev).nsze w.slba w.nlb = [] → WriteHolds w s.dev →
    (landingNeed w ≠ 0 → CanTake (0x10 + w.channel) 4 (landingNeed w) s.dev) → (∀ x ∈ s.dev.media.wp.reads, x.channel ≠ w.channel) →
    Does (.dataLanded id r) s fun d =>
      writeCmd id d = some { w with landed := true, landing := [] } ∧
      d.media.flight.length = s.dev.media.flight.length + (grainsTouched w.slba w.nlb).2 ∧
      (∀ g, g ∈ heldGrains w s.dev → ∃ x, x ∈ d.media.flight ∧ x.cmd = id ∧ x.stored.slot = w.slot ∧ x.stored.grain = g ∧
        ∀ j, j < 16 → w.slba ≤ 16 * g + j → 16 * g + j < w.slba + w.nlb →
          x.stored.blocks[j]? = some ((r.data[16 * g + j - w.slba]?).getD 0)) ∧
      d.sub = { s.dev.sub with dataWritten := s.dev.sub.dataWritten + 8 * w.nlb, written := true } ∧
      getObj Obj.hoistCommandsMoved d = (getObj Obj.hoistCommandsMoved s.dev + 1) % objModulus Obj.hoistCommandsMoved ∧
      MediumOnly { s.dev with sub := d.sub } d) ∧
  (∀ (s : State) (id : Nat) (w : WriteCmd) (r : Landing), writeCmd id s.dev = some w → w.kind = 0 → w.landed = false →
    mustWait w s.dev = false → channelTurn w.channel w.id s.dev = true → portSends w.port s.dev = true → RoomFor w.host s.dev → w.port < 4 →
    partialGrains (namespace_ w.slot s.dev).nsze w.slba w.nlb = [] → WriteHolds w s.dev →
    (landingNeed w ≠ 0 → CanTake (0x10 + w.channel) 4 (landingNeed w) s.dev) → (∀ x ∈ s.dev.media.wp.reads, x.channel ≠ w.channel) →
    s.dev.media.wp.writes.filter (·.id == id) = [w] → ∀ f, landingFault w r s.dev = some f → Does (.dataLanded id r) s fun d =>
      writeCmd id d = none ∧ d.media.flight = s.dev.media.flight ∧ d.media.map = s.dev.media.map ∧
      Completes w.host (fun e => (e.sct, e.sc) = f) s.dev d ∧ d.sub = s.dev.sub ∧ d.ctl = s.dev.ctl ∧ d.settings = s.dev.settings) ∧
  (∀ (s : State) (id : Nat) (engine : Fin 8) (disagrees : Bool) (g : FlightGrain), flightGrain id s.dev = some g → needsEngine g = true →
    FlightsHold s.dev → ∀ x, endJobAt engine.val id 0 s.dev = some x → (x.1.raw = false → CanTake (0x20 + engine.val) 4 1 s.dev) →
    Does (.grainCompressed id engine disagrees) s fun d =>
      let f := formOf x.1 disagrees g.stored
      let length := (compressGrain x.1.effort g.stored).stream.length
      (∃ y, flightGrain id d = some y ∧ y.stored.frames = storedFrames f length ∧
        y.stored.compressed = (f == .compressed) ∧ y.stored.blocks = g.stored.blocks) ∧
      getObj Obj.storedFrames d = (getObj Obj.storedFrames s.dev + storedFrames f length) % objModulus Obj.storedFrames ∧
      (f = .compressed →
        getObj Obj.grainsCompressed d = (getObj Obj.grainsCompressed s.dev + 1) % objModulus Obj.grainsCompressed ∧
        getObj Obj.grainsStoredRaw d = getObj Obj.grainsStoredRaw s.dev) ∧
      (f ≠ .compressed →
        getObj Obj.grainsStoredRaw d = (getObj Obj.grainsStoredRaw s.dev + 1) % objModulus Obj.grainsStoredRaw) ∧
      d.media.map = s.dev.media.map ∧ MediumOnly s.dev d)

/-- R188, R193: a gathered row moves the stripe to the next one, and rows that have waited for their time are closed. R183 to R186: a stripe is
opened on one eligible die of every open bank, with the next number, where a parity mode lacks one, and holds a placement buffer for each of its
data members. -/
def Obligations.RowsAndStripesOpenAndClose : Prop :=
  (∀ (s : State) (n : Nat), (stripe n s.dev).isOpen = true → (stripe n s.dev).members ≠ [] → (stripe n s.dev).gathered < 512 →
    (∀ x ∈ liveDies n s.dev, (group x (groupSlot (stripe n s.dev).kind) s.dev).stripe = n) →
    rowFull n (stripe n s.dev).gathered s.dev = true → s.dev.media.flight = [] → Does (.rowGathered n) s fun d =>
      (stripe n d).gathered = (stripe n s.dev).gathered + 1 ∧ (∀ k, k ≠ n → stripe k d = stripe k s.dev) ∧
      d = { s.dev with objs := d.objs, ledgers := d.ledgers, res := d.res, media := { s.dev.media with
        stripes := d.media.stripes, groups := d.media.groups, blocks := d.media.blocks } } ∧
      OnlyObjs [Obj.fillerFrames] s.dev d ∧ OnlyLedgers [5] s.dev d) ∧
  (∀ (s : State) (n : Nat), (stripe n s.dev).isOpen = true → (stripe n s.dev).members ≠ [] → timedOutRows n s.dev ≠ [] →
    (∀ x ∈ liveDies n s.dev, (group x (groupSlot (stripe n s.dev).kind) s.dev).stripe = n) →
    (∀ r ∈ timedOutRows n s.dev, r < 512) → s.dev.media.flight = [] → Does (.rowCloseTimeout n) s fun d =>
      (∀ r ∈ timedOutRows n s.dev, r < (stripe n d).gathered) ∧ (∀ k, k ≠ n → stripe k d = stripe k s.dev) ∧
      d = { s.dev with objs := d.objs, ledgers := d.ledgers, res := d.res, media := { s.dev.media with
        stripes := d.media.stripes, groups := d.media.groups, blocks := d.media.blocks } } ∧
      OnlyObjs [Obj.fillerFrames, Obj.shortRows, Obj.paddingRows] s.dev d ∧ OnlyLedgers [5] s.dev d) ∧
  (∀ (s : State) (k : Fin 3) (par : Nat), [1, 2].find? (fun p => openCount (k.val + 1) p s.dev < openTarget (k.val + 1) p s.dev) = some par →
    15 ≤ ((List.range 16).filter (bankOpen · s.dev)).length → (∀ b, b < 16 → bankOpen b s.dev = true → (pickDie (k.val + 1) b s.dev).isSome = true) →
    CanTake 0x41 5 (((List.range 16).filter (bankOpen · s.dev)).length - par) s.dev → Does (.stripeOpen k) s fun d =>
      (stripe s.dev.media.wp.nextStripe d).standing.length = ((List.range 16).filter (bankOpen · s.dev)).length - par ∧
      { stripe s.dev.media.wp.nextStripe d with standing := [] } = {
        exists_ := true, isOpen := true, kind := k.val + 1, parity := par
        members := ((List.range 16).filter (bankOpen · s.dev)).map fun b => (b, (pickDie (k.val + 1) b s.dev).getD 0) } ∧
      d.media.wp.nextStripe = s.dev.media.wp.nextStripe + 1 ∧
      getObj Obj.stripesOpen d = (getObj Obj.stripesOpen s.dev + 1) % objModulus Obj.stripesOpen ∧
      (∀ b, b < 16 → bankOpen b s.dev = true →
        group ((pickDie (k.val + 1) b s.dev).getD 0) (groupSlot (k.val + 1)) d =
          { used := true, stripe := s.dev.media.wp.nextStripe, kind := k.val + 1 }) ∧
      (∀ j, j ≠ s.dev.media.wp.nextStripe → stripe j d = stripe j s.dev) ∧
      heldBy 5 0x41 d = heldBy 5 0x41 s.dev + (((List.range 16).filter (bankOpen · s.dev)).length - par) ∧
      d = { s.dev with objs := d.objs, ledgers := d.ledgers, res := { s.dev.res with buffers := d.res.buffers, waits := d.res.waits }
                       media := { s.dev.media with stripes := d.media.stripes, groups := d.media.groups, wp := d.media.wp } } ∧
      OnlyObjs [Obj.stripesOpen] s.dev d ∧ OnlyLedgers [5] s.dev d)

/-- R196: a landed write completes at once under the buffered rule, and otherwise once it is durable. R219, R247: a grain whose engine run
succeeds delivers its blocks, and the last grain of a read completes it with the blocks the host asked for. R372: TLER past its time sends a
read's codewords to L5, and past it again ends the read as unrecovered. -/
def Obligations.WritesAndReadsComplete : Prop :=
  (∀ (s : State) (id : Nat) (w : WriteCmd), writeCmd id s.dev = some w → w.landed = true → w.completed = false → w.unmaps = [] → w.landing = [] →
    (∀ g ∈ s.dev.media.flight, g.cmd = id → g.zero = false) → w.buffered = true ∨ durable w s.dev = true → w.dropped = false → w.port < 4 →
    (∀ x ∈ s.dev.media.wp.writes, x.id ≠ id → x.completed = false) → s.dev.media.wp.writes.filter (·.id == id) = [w] →
    RoomFor w.host s.dev → s.dev.media.wp.flushes = [] → WriteHolds w s.dev → FlightsHold s.dev → Does (.writeCompletion id) s fun d =>
      Succeeds w.host 0 s.dev d ∧ (∀ x, writeCmd id d = some x → x.completed = true) ∧
      d.sub = { s.dev.sub with writeCmds := s.dev.sub.writeCmds + 1 } ∧
      getObj (if w.buffered = true then Obj.writesBuffered else Obj.writesDurable) d =
        (getObj (if w.buffered = true then Obj.writesBuffered else Obj.writesDurable) s.dev + 1)
          % objModulus (if w.buffered = true then Obj.writesBuffered else Obj.writesDurable) ∧
      d.media.map = s.dev.media.map ∧ OnlyObjs ([Obj.writesBuffered, Obj.writesDurable] ++ asideObjs) s.dev d ∧
      OnlyLedgers [2, 4, 7] s.dev d ∧
      Aside { s.dev with objs := d.objs, sub := d.sub, ledgers := d.ledgers, res := { s.dev.res with buffers := d.res.buffers }
                         media := { s.dev.media with flight := d.media.flight
                                                     wp := { s.dev.media.wp with writes := d.media.wp.writes } } } d) ∧
  (∀ (s : State) (id grain : Nat) (engine : Fin 16) (x : Inflated) (r : ReadCmd) (g : ReadGrain), readCmd id s.dev = some r →
    readGrain id grain s.dev = some g → g.stage = .inflate → (endJobAt (engine.val + 8) id grain s.dev).isSome = true → x.fault = none →
    (r.verify = false → CanTake (0x10 + r.channel) 4 1 s.dev) → (∀ y ∈ s.dev.media.wp.reads, y.channel = r.channel → y.id = id) →
    (∃ k, k ≠ grain ∧ ∃ h, readGrain id k s.dev = some h ∧ h.stage ≠ .ended) →
    ∀ v, engineRun r grain g.pointer x.bytes x.slip s.dev = .ok v → Does (.grainDecompress id grain engine x) s fun d =>
      (readGrain id grain d).map (fun y => { y with buffer := g.buffer }) = some { g with stage := .ended, blocks := v.1, metas := v.2 } ∧
      OnlyLedgers [4, 6] s.dev d ∧ d = { s.dev with ledgers := d.ledgers, res := d.res, media := { s.dev.media with
        wp := { s.dev.media.wp with reads := d.media.wp.reads, engines := d.media.wp.engines } } }) ∧
  (∀ (s : State) (id grain : Nat) (engine : Fin 16) (x : Inflated) (r : ReadCmd) (g : ReadGrain), readCmd id s.dev = some r →
    r.grains = [g] → g.grain = grain → g.stage = .inflate → (endJobAt (engine.val + 8) id grain s.dev).isSome = true → x.fault = none →
    r.verify = false → r.port < 4 → g.failed = none → g.buffer = none → s.dev.ctl.mode ≠ .m10 → s.dev.ctl.mode ≠ .m11 →
    RoomFor r.host s.dev → CanTake (0x10 + r.channel) 4 1 s.dev → channelTurn r.channel id s.dev = true → ReadHolds r s.dev →
    s.dev.media.wp.reads.filter (fun y => y.id == id || y.channel == r.channel) = [r] →
    ∀ v, engineRun r grain g.pointer x.bytes x.slip s.dev = .ok v → Does (.grainDecompress id grain engine x) s fun d =>
      Completes r.host (fun e => e.sct = 0 ∧ e.sc = 0 ∧ e.blocks = blocksOf r { g with blocks := v.1, metas := v.2 }) s.dev d ∧
      readCmd id d = none ∧ d.sub.readCmds = s.dev.sub.readCmds + 1 ∧
      OnlyObjs ([Obj.hoistBytesToHost, Obj.hoistCommandsMoved] ++ asideObjs) s.dev d ∧ OnlyLedgers [2, 4, 6, 7] s.dev d ∧
      Aside { s.dev with objs := d.objs, sub := d.sub, ledgers := d.ledgers, res := d.res, media := { s.dev.media with
        wp := { s.dev.media.wp with reads := d.media.wp.reads, engines := d.media.wp.engines } } } d) ∧
  (∀ (s : State) (id : Nat) (r : ReadCmd), readCmd id s.dev = some r → r.verify = false → (namespace_ r.slot s.dev).tler ≠ 0 → r.tlerMs = none →
    r.fetchMs + 100 * (namespace_ r.slot s.dev).tler < nowMs s.dev → Does (.tlerExpiry id) s fun d =>
      readCmd id d = some { r with tlerMs := some (nowMs s.dev) } ∧
      d = { s.dev with media := { s.dev.media with wp := { s.dev.media.wp with reads := d.media.wp.reads } } }) ∧
  (∀ (s : State) (id t : Nat) (r : ReadCmd), readCmd id s.dev = some r → r.verify = false → (namespace_ r.slot s.dev).tler ≠ 0 →
    r.tlerMs = some t → t + 100 * (namespace_ r.slot s.dev).tler ≤ nowMs s.dev → RoomFor r.host s.dev → r.port < 4 → ReadHolds r s.dev →
    s.dev.media.wp.reads.filter (fun y => y.id == id || y.channel == r.channel) = [r] → Does (.tlerExpiry id) s fun d =>
      readCmd id d = none ∧ Completes r.host (fun e => e.sct = 0x2 ∧ e.sc = 0x81) s.dev d ∧ d.sub.readCmds = s.dev.sub.readCmds + 1 ∧
      d.media.flight = s.dev.media.flight ∧ d.ctl = s.dev.ctl ∧ d.settings = s.dev.settings)

/-! ### Reclaim and the calendar (spec/09) -/

/-- R263, R261, R262: the next stripe of Table 9.2 becomes the victim and leaves its queues; its next live grain is read and moved, a grain that is
unrecovered pins the stripe, a read that cannot be made yet waits, and a victim with nothing left is done; pinned grains that can be read again
are moved after 24 hours. -/
def Obligations.VictimsAreSelectedAndRelocated : Prop :=
  (∀ (s : State) (n : Nat) (footers : List (Nat × List Byte)), bolterMode s.dev = true → s.dev.media.rc.victim = none →
    s.dev.media.rc.released = [] → nextVictim s.dev = some n → Does (.victimSelect footers) s fun d =>
      d.media.rc.victim = some n ∧ (d.media.rc.victimLive, d.media.rc.victimCap) = stripeLoad n s.dev ∧
      d.media.rc.q1 = s.dev.media.rc.q1.erase n ∧ d.media.rc.q2 = s.dev.media.rc.q2.erase n ∧ d.media.rc.q3 = s.dev.media.rc.q3.erase n ∧
      d.media.rc.q4 = s.dev.media.rc.q4.erase n ∧
      (∀ b, smGet {} d.media.blocks b = { smGet {} s.dev.media.blocks b with noFooter := (smGet {} d.media.blocks b).noFooter }) ∧
      OnlyObjs (Obj.physicallyFull :: asideObjs) s.dev d ∧
      Aside { s.dev with objs := d.objs, media := { s.dev.media with blocks := d.media.blocks, rc := d.media.rc } } d) ∧
  (∀ (s : State) (n : Nat) (a : ArrayRead), bolterMode s.dev = true → s.dev.media.rc.victim = some n → InTime a → FlightsHold s.dev → ∀ x,
    ((liveGrains n s.dev).filter fun e => !(stripe n s.dev).pinned.contains (e.2.slot, e.2.grain)).find?
      (fun e => !relocating e.1 s.dev) = some x → (relocationRead x.1 x.2 a s.dev).1 = some false → bolterMoves x.2.frames s.dev = true →
    Does (.grainRelocate a) s fun d =>
      (∃ y, y ∈ d.media.flight ∧ y.cmd = 0 ∧ y.old = some x.1 ∧ y.stored = x.2) ∧
      getObj Obj.framesRelocated d = (getObj Obj.framesRelocated s.dev + x.2.frames) % objModulus Obj.framesRelocated ∧
      getObj Obj.grainsPassedThrough d = (getObj Obj.grainsPassedThrough s.dev + 1) % objModulus Obj.grainsPassedThrough ∧
      d.media.map = s.dev.media.map ∧ d.media.rc.victim = some n ∧ MediumOnly s.dev d) ∧
  (∀ (s : State) (n : Nat) (a : ArrayRead), bolterMode s.dev = true → s.dev.media.rc.victim = some n → InTime a → ∀ x,
    ((liveGrains n s.dev).filter fun e => !(stripe n s.dev).pinned.contains (e.2.slot, e.2.grain)).find?
      (fun e => !relocating e.1 s.dev) = some x → (relocationRead x.1 x.2 a s.dev).1 = some true → bolterMoves x.2.frames s.dev = true →
    Does (.grainRelocate a) s fun d =>
      (stripe n d).pinned = (stripe n s.dev).pinned ++ [(x.2.slot, x.2.grain)] ∧ (smGet {} d.media.blocks (blockOf x.1)).pinned = true ∧
      getObj Obj.grainsUnrecovered d = (getObj Obj.grainsUnrecovered s.dev + 1) % objModulus Obj.grainsUnrecovered ∧
      d.media.map = s.dev.media.map ∧ d.media.flight = s.dev.media.flight ∧ (∀ k, k ≠ n → stripe k d = stripe k s.dev) ∧
      MediumOnly s.dev d) ∧
  (∀ (s : State) (n : Nat) (a : ArrayRead), bolterMode s.dev = true → s.dev.media.rc.victim = some n → ∀ x,
    ((liveGrains n s.dev).filter fun e => !(stripe n s.dev).pinned.contains (e.2.slot, e.2.grain)).find?
      (fun e => !relocating e.1 s.dev) = some x → readRuns x.1 x.2.frames s.dev = false → Idle (.grainRelocate a) s) ∧
  (∀ (s : State) (n : Nat) (a : ArrayRead), bolterMode s.dev = true → s.dev.media.rc.victim = some n →
    ((liveGrains n s.dev).all fun e => (stripe n s.dev).pinned.contains (e.2.slot, e.2.grain)) = true → Does (.grainRelocate a) s fun d =>
      d.media.rc = { s.dev.media.rc with victim := none } ∧
      d = { s.dev with media := { s.dev.media with blocks := d.media.blocks, rc := d.media.rc } }) ∧
  (∀ (s : State) (n : Nat) (reads : List (Nat × Nat × ArrayRead)), bolterMode s.dev = true → (stripe n s.dev).pinned ≠ [] →
    (stripe n s.dev).pinHours + 384 ≤ hours s.dev → (∀ x ∈ reads, InTime x.2.2) → FlightsHold s.dev → Does (.pinnedRetry n reads) s fun d =>
      (stripe n d).pinHours = hours s.dev ∧
      (∀ e a, (liveGrains n s.dev).filter (fun e => (stripe n s.dev).pinned.contains (e.2.slot, e.2.grain)) = [e] →
        reads.find? (fun x => x.1 = e.2.slot && x.2.1 = e.2.grain) = some a → relocating e.1 s.dev = false →
        (relocationRead e.1 e.2 a.2.2 (updStripe n (fun t => { t with pinHours := hours s.dev }) s.dev)).1 = some false →
        ∃ x, x ∈ d.media.flight ∧ x.cmd = 0 ∧ x.old = some e.1) ∧
      d.media.map = s.dev.media.map ∧ MediumOnly s.dev d)

/-- R259, R260, R134: a block with 64 released grains is reconciled, and its footer read: one that is not valid is recorded and makes the block closed
without a footer. A closed stripe without a pin whose blocks are ready is released: it is gone, its blocks are free, and retired where they were
failing. R270: a die whose spread is beyond the limit has the stripe of its least erased block queued. R256: a table write that is due keeps
the block table and the level classes, ends the group log and makes a superblock due. -/
def Obligations.StripesAreReleasedAndTablesWritten : Prop :=
  (∀ (s : State) (b : Nat) (footer : Option (List Byte)), 64 ≤ (s.dev.media.rc.released.filter (·.1 == b)).length →
    Does (.releaseReconcile b footer) s fun d =>
      d.media.rc = { s.dev.media.rc with released := s.dev.media.rc.released.filter (·.1 != b) } ∧
      smGet {} d.media.blocks b = { smGet {} s.dev.media.blocks b with
        noFooter := (smGet {} d.media.blocks b).noFooter
        valid := (smGet {} s.dev.media.blocks b).valid -
          ((s.dev.media.rc.released.filter (·.1 == b)).map fun e => (smGet {} s.dev.media.stored (pointerOf b e.2)).frames).sum } ∧
      (footer = none → (smGet {} d.media.blocks b).noFooter = (smGet {} s.dev.media.blocks b).noFooter) ∧
      (∀ k, k ≠ b → smGet {} d.media.blocks k = smGet {} s.dev.media.blocks k) ∧ OnlyObjs asideObjs s.dev d ∧
      Aside { s.dev with objs := d.objs, media := { s.dev.media with blocks := d.media.blocks, rc := d.media.rc } } d) ∧
  (∀ (s : State) (b : Nat) (bytes : List Byte), 64 ≤ (s.dev.media.rc.released.filter (·.1 == b)).length → (block b s.dev).state = 2 →
    (block b s.dev).role = 0 → (block b s.dev).noFooter = false → footerFields b bytes s.dev = false → WriterOpen s.dev →
    Does (.releaseReconcile b (some bytes)) s fun d =>
      (smGet {} d.media.blocks b).noFooter = true ∧ Recorded Code.footerUnreadable [b] s.dev d ∧ d.media.map = s.dev.media.map) ∧
  (∀ (s : State) (n : Nat), (stripe n s.dev).exists_ = true → (stripe n s.dev).isOpen = false → (stripe n s.dev).pinned = [] →
    (∀ r ∈ s.dev.media.restripe, r.stripe ≠ n) →
    (∀ b ∈ stripeBlocks n s.dev, (block b s.dev).role ≠ 0 ∨
      (if (stripe n s.dev).kind = 3 then b ∉ systemLive s.dev else blockReleasable n b s.dev = true)) →
    (∀ b ∈ stripeBlocks n s.dev, GaugeNamed (dieOfBlock b) s.dev ∧ b ∉ gaugeBlocks (dieOfBlock b) s.dev) → Does (.stripeRelease n) s fun d =>
      stripe n d = {} ∧ (∀ k, k ≠ n → stripe k d = stripe k s.dev) ∧
      (∀ b ∈ stripeBlocks n s.dev, (smGet {} d.media.blocks b).stripe = 0 ∧ (smGet {} d.media.blocks b).state =
        if (smGet {} s.dev.media.blocks b).state = 4 ∨ (smGet {} s.dev.media.blocks b).state = 5 then 5 else 0) ∧
      (∀ b, b ∉ stripeBlocks n s.dev → smGet {} d.media.blocks b = smGet {} s.dev.media.blocks b) ∧
      getObj Obj.stripesReleased d = (getObj Obj.stripesReleased s.dev + 1) % objModulus Obj.stripesReleased ∧
      d = { s.dev with objs := d.objs, media := { s.dev.media with
        blocks := d.media.blocks, stripes := d.media.stripes, stored := d.media.stored, rc := d.media.rc } } ∧
      OnlyObjs [Obj.stripesReleased, Obj.blocksRetired] s.dev d) ∧
  (∀ (s : State) (n : Die), dieInService n.val s.dev = true → smGet 0 s.dev.media.rc.wearHours n.val + 16 ≤ hours s.dev →
    Does (.wearLevellingCheck n) s fun d =>
      smGet 0 d.media.rc.wearHours n.val = hours s.dev ∧
      (∀ b e c f, closedData n.val s.dev = [(b, e), (c, f)] → eraseCount b e s.dev + getObj Obj.wearSpreadLimit s.dev < eraseCount c f s.dev →
        e.wearQ = false → (∀ r ∈ s.dev.media.restripe, r.stripe ≠ e.stripe) →
        e.stripe ∈ d.media.rc.q4 ∧ getObj Obj.wearMovesQueued d = (getObj Obj.wearMovesQueued s.dev + 1) % objModulus Obj.wearMovesQueued) ∧
      d = { s.dev with objs := d.objs, media := { s.dev.media with blocks := d.media.blocks, rc := d.media.rc } } ∧
      OnlyObjs [Obj.wearMovesQueued] s.dev d) ∧
  (∀ s : State, bolterMode s.dev = true ∨ s.dev.ctl.mode = .m9 → s.dev.sub.shutdownRunning = true ∨
    60 * s.dev.media.rc.tableHours + 16 * getObj Obj.blockTableIntervalMin s.dev ≤ 60 * hours s.dev → Does .blockTableWrite s fun d =>
      d.media.sbDue = true ∧ d.media.savedBlocks = d.media.blocks ∧ d.media.groupLog = [] ∧
      d.media.dies = s.dev.media.dies.map (fun e => (e.1, { e.2 with savedClasses := e.2.classes })) ∧
      d = { s.dev with free := d.free, media := { s.dev.media with
        sbDue := true, sb := d.media.sb, savedBlocks := d.media.savedBlocks, groupLog := [], tableIndex := d.media.tableIndex, dies := d.media.dies
        blocks := d.media.blocks, stripes := d.media.stripes, rc := { s.dev.media.rc with tableHours := hours s.dev } } })

/-- R273, R274, R277: a scan of a gauge, at a wake, at its interval or before a refresh, keeps the mean vector found and the age that the drift
gives; a refresh takes the age over into AgeBase and erases the weir marks, whose fresh reads follow; a mark that fails in it is retired. R282: a
scrub whose five pages read clean doubles the block's interval up to the limit, and one with a codeword that fails queues the block's stripe
for refresh. R285, R349: the next wake is computed and reported, and its time signals wake event 4. -/
def Obligations.GaugesScrubsAndWakes : Prop :=
  (∀ (s : State) (n : Die) (runs : List (List WordlineReads)), s.dev.ctl.mode = .m4 → 1 ∈ s.dev.settings.loaded →
    n.val ∈ poweredDies s.dev → gaugeUnavailable n.val s.dev = false →
    chargeFits (bankOfDie n.val) (opTokens (profileOf n.val s.dev) 1) s.dev = true → Does (.gaugeScan n runs) s fun d =>
      let found := gaugeVectors (die n.val s.dev).refOffsets runs
      (die n.val d).scanned = true ∧ (die n.val d).found = meanVector found ∧ (die n.val d).scanHours = hours s.dev ∧
      (die n.val d).gaugeAge = gaugeAgeOf (die n.val s.dev).refOffsets found (profileOf n.val s.dev).readOffsetStepMv s.dev ∧
      d.media.map = s.dev.media.map ∧ d.settings = s.dev.settings ∧ d.sec = s.dev.sec ∧
      d.ctl = { s.dev.ctl with gaugesScanned := d.ctl.gaugesScanned }) ∧
  (∀ (s : State) (n : Nat) (runs : List (List WordlineReads)), bolterMode s.dev = true → s.dev.sub.shutdownRunning = true ∨
    s.dev.media.rc.scanHours + 16 * getObj Obj.gaugeScanIntervalHours s.dev ≤ hours s.dev → dieInService n s.dev = true →
    gaugeUnavailable n s.dev = false → Does (.gaugeScanInterval [(n, runs)]) s fun d =>
      let found := gaugeVectors (die n s.dev).refOffsets runs
      d.media.rc.scanHours = hours s.dev ∧ (die n d).found = meanVector found ∧
      (die n d).gaugeAge = gaugeAgeOf (die n s.dev).refOffsets found (profileOf n s.dev).readOffsetStepMv s.dev ∧
      (∀ k, k ≠ n → die k d = die k s.dev) ∧ OnlyObjs [Obj.refreshesQueued] s.dev d ∧
      d = { s.dev with objs := d.objs, free := d.free, media := { s.dev.media with
        dies := d.media.dies, blocks := d.media.blocks, stripes := d.media.stripes, rc := d.media.rc, sb := d.media.sb, sbDue := true } }) ∧
  (∀ (s : State) (n : Die) (runs : List (List WordlineReads)) (erase program : List Nat), s.dev.ctl.mode ≠ .m4 →
    dieInService n.val s.dev = true → (group n.val 1 s.dev).used = false → (die n.val s.dev).op.kind = 0 →
    bankInhibited (bankOfDie n.val) s.dev = false → refreshDueOf n.val s.dev = true → gaugeUnavailable n.val s.dev = false →
    GaugeNamed n.val s.dev → chargeFits (bankOfDie n.val)
      (max (opTokens (profileOf n.val s.dev) 4) (opTokens (profileOf n.val s.dev) 3)) s.dev = true →
    Does (.gaugeRefresh n runs erase program) s fun d =>
      let age := gaugeAgeOf (die n.val s.dev).refOffsets (gaugeVectors (die n.val s.dev).refOffsets runs)
        (profileOf n.val s.dev).readOffsetStepMv s.dev
      (die n.val d).gaugeAge = 0 ∧ (die n.val d).found = [] ∧ (die n.val d).ageBase = (die n.val s.dev).ageBase + age ∧
      (die n.val d).gaugeState = 0 ∧
      (∀ b ∈ gaugeBlocks n.val s.dev, (smGet {} d.media.blocks b).sampled = [] ∧
        (planeOfBlock b ∈ erase ++ program → (smGet {} d.media.blocks b).state = 5)) ∧
      (erase = [] → program = [] → WriterOpen s.dev → Recorded Code.gaugeRefreshed [n.val, age] s.dev d) ∧
      (∀ k, k ≠ n.val → die k d = die k s.dev) ∧
      OnlyObjs ([Obj.blocksRetired, Obj.eraseFailCount, Obj.programFailCount] ++ asideObjs) s.dev d ∧
      Aside { s.dev with objs := d.objs, media := { s.dev.media with
        dies := d.media.dies, blocks := d.media.blocks, stripes := d.media.stripes, sb := d.media.sb, sbDue := d.media.sbDue } } d) ∧
  (∀ (s : State) (b : Nat) (first : WordlineReads) (again : List Nat), bolterMode s.dev = true → scrubIsDue b s.dev = true →
    scrubFirst b s.dev = true → dieFree (dieOfBlock b) s.dev = true →
    chargeFits (bankOfDie (dieOfBlock b)) (opTokens (profileOf (dieOfBlock b) s.dev) 1) s.dev = true → 0 < getObj Obj.refreshRatio s.dev →
    Does (.scrub b first again) s fun d =>
      let failed := (scrubResult (block b s.dev).step again).1
      getObj Obj.scrubsRun d = (getObj Obj.scrubsRun s.dev + 1) % objModulus Obj.scrubsRun ∧ (smGet {} d.media.blocks b).overdue = false ∧
      getObj Obj.trackingRuns d = (getObj Obj.trackingRuns s.dev + 1) % objModulus Obj.trackingRuns ∧
      (smGet {} d.media.blocks b).scrubDue = thermalAge (dieOfBlock b) s.dev + (smGet {} d.media.blocks b).scrubInterval ∧
      (failed = true → (smGet {} d.media.blocks b).lastRatio = 100 ∧
        (smGet {} d.media.blocks b).scrubInterval = (smGet {} s.dev.media.blocks b).scrubInterval ∧ (block b s.dev).stripe ∈ d.media.rc.q1 ∧
        getObj Obj.refreshesQueued d = (getObj Obj.refreshesQueued s.dev + 1) % objModulus Obj.refreshesQueued) ∧
      (scrubResult (block b s.dev).step again = (false, 0) → (smGet {} d.media.blocks b).lastRatio = 0 ∧ d.media.rc = s.dev.media.rc ∧
        (smGet {} d.media.blocks b).scrubInterval =
          min (2 * (smGet {} s.dev.media.blocks b).scrubInterval) (getObj Obj.scrubIntervalMax s.dev)) ∧
      d.media.map = s.dev.media.map ∧ MediumOnly s.dev d) ∧
  (∀ s : State, bolterMode s.dev = true → Does .nextWakeCompute s fun d =>
    getObj Obj.nextWakeDueHours d = nextWakeHours s.dev ∧
    getObj Obj.nextWakeDue d = (if getObj Obj.wallClockSource s.dev = 0 then 0
      else getObj Obj.wallClockMs s.dev + nextWakeHours s.dev * 3600000) ∧
    d = { s.dev with objs := d.objs } ∧ OnlyObjs [Obj.nextWakeDueHours, Obj.nextWakeDue] s.dev d) ∧
  (∀ s : State, getObj Obj.nextWakeDue s.dev ≠ 0 → getObj Obj.wallClockSource s.dev ≠ 0 →
    getObj Obj.nextWakeDue s.dev ≤ getObj Obj.wallClockMs s.dev → s.dev.ctl.mode ∉ [Mode.m0, .m11] → Does .nextWakeDueReached s fun d =>
      (∀ p, p < 4 → (port p s.dev).pmeEn = true → (port p s.dev).linkUp = false →
        (port p d).pmeStatus = true ∧ (port p d).wakeMs = some (nowMs s.dev) ∧
        getObj (Obj.portWakeSignals p) d = (getObj (Obj.portWakeSignals p) s.dev + 1) % objModulus (Obj.portWakeSignals p)) ∧
      (∀ p, (port p s.dev).pmeEn = false → (port p d).pmeStatus = (port p s.dev).pmeStatus ∧ (port p d).wakeMs = (port p s.dev).wakeMs) ∧
      OnlyObjs ((List.range 4).map Obj.portWakeSignals ++ asideObjs) s.dev d ∧ Aside { s.dev with objs := d.objs, ports := d.ports } d)

/-! ### Restripe and lost data (spec/10) -/

/-- R297, R302: the restripe moves the next live grain of the stripe that R298 puts first, and notes one that it cannot read. R303: a map sweep
marks every grain lost that still points into a stripe that awaits it, and counts the stripe lost once none is left. R305, R306: the entries of
an event whose records are persistent go into the lost-range log. -/
def Obligations.RestripeSavesOrMarksLost : Prop :=
  (∀ (s : State) (a : ArrayRead) (known : Bool), restripeRuns s.dev = true → InTime a → FlightsHold s.dev →
    getObj Obj.reclaimStopPermille s.dev < getObj Obj.freePermille s.dev → ∀ r, restripeNext (refreshAside s.dev) = some r → ∀ x,
    ((liveGrains r.stripe s.dev).filter fun e => !(r.unread.any fun u => u.1 = e.2.slot && u.2.1 = e.2.grain)).find?
      (fun e => !relocating e.1 s.dev) = some x → (relocationRead x.1 x.2 a (refreshAside s.dev)).1 = some false →
    restripeMoves x.2.frames s.dev = true → Does (.restripe a known) s fun d =>
      (∃ y, y ∈ d.media.flight ∧ y.cmd = 0 ∧ y.old = some x.1 ∧ y.stored = x.2) ∧
      getObj Obj.grainsPassedThrough d = (getObj Obj.grainsPassedThrough s.dev + 1) % objModulus Obj.grainsPassedThrough ∧
      d.media.map = s.dev.media.map ∧ d.media.rc.victim = s.dev.media.rc.victim ∧ MediumOnly s.dev d) ∧
  (∀ (s : State) (a : ArrayRead) (known : Bool), restripeRuns s.dev = true → InTime a →
    ∀ r, restripeNext (refreshAside s.dev) = some r → ∀ x,
    ((liveGrains r.stripe s.dev).filter fun e => !(r.unread.any fun u => u.1 = e.2.slot && u.2.1 = e.2.grain)).find?
      (fun e => !relocating e.1 s.dev) = some x → (relocationRead x.1 x.2 a (refreshAside s.dev)).1 = some true →
    Does (.restripe a known) s fun d =>
      (∃ t, t ∈ d.media.restripe ∧ t.stripe = r.stripe ∧ (x.2.slot, x.2.grain, known) ∈ t.unread) ∧
      getObj Obj.grainsUnrecovered d = (getObj Obj.grainsUnrecovered s.dev + 1) % objModulus Obj.grainsUnrecovered ∧
      d.media.map = s.dev.media.map ∧ d.media.flight = s.dev.media.flight ∧ MediumOnly s.dev d) ∧
  (∀ (s : State) (n : Nat), bolterMode s.dev = true → getObj Obj.mapResidentComplete s.dev ≠ 0 → s.dev.media.rc.sweeping = [] →
    s.dev.media.rc.sweeps = [n] → s.dev.media.map.badLines = [] → (∀ e ∈ liveGrains n s.dev, updateReady e.2.slot e.2.grain s.dev = true) → Does .mapSweep s fun d =>
      (∀ e ∈ liveGrains n s.dev, mapEntry e.2.slot e.2.grain d = lostEntry) ∧ d.media.rc.sweeps = [] ∧
      (liveGrains n s.dev = [] → (∃ r, r ∈ s.dev.media.restripe ∧ r.stripe = n) → d.media.rc.sweeping = [] ∧
        getObj Obj.stripesLost d = (getObj Obj.stripesLost s.dev + 1) % objModulus Obj.stripesLost ∧
        ∀ r, r ∈ d.media.restripe → r.stripe = n → r.settled = true) ∧ MediumOnly s.dev d) ∧
  (∀ (s : State) (slot grain cause st : Nat), s.dev.media.rc.toAppend = [(slot, grain, cause, st)] →
    eventReady (slot, grain, cause, st) s.dev = true → s.dev.media.rc.lostFrames.sum < 262144 → Does .lostRangeAppend s fun d =>
      d.media.rc = { s.dev.media.rc with
        toAppend := []
        lostLog := s.dev.media.rc.lostLog ++ [{ slot := slot, cause := cause, first := grain, count := 1, stripe := st, hours := hours s.dev
                                                cycle := getObj Obj.powerCycleCount s.dev % 2 ^ 24 }]
        lostFrames := s.dev.media.rc.lostFrames ++ [1]
        lostPlaces := s.dev.media.rc.lostPlaces ++ [d.media.sb.roots.lostRange] } ∧ d.media.sbDue = true ∧
      d.media.sb = { s.dev.media.sb with roots := { s.dev.media.sb.roots with lostRange := d.media.sb.roots.lostRange } } ∧
      Aside { s.dev with media := { s.dev.media with
        rc := d.media.rc, sb := d.media.sb, sbDue := true, blocks := d.media.blocks, stripes := d.media.stripes } } d)

/-! ### The management link (spec/14) -/

/-- R433, R435 to R440, Tables 14.3 to 14.7: a read answers with the value, in one response or in segments of 60 bytes; a write answers when
its value is in force; a segmented write is opened, gathers its segments in order, and ends on one out of order, on a gap of more than a
second, or on an abort; an absent object answers with the abort code; what Table 14.6 refuses is refused with its reason. -/
def Obligations.CanRequestsAreServed : Prop :=
  (∀ (s : State) (r : CanRequest) (v : List Byte), CanAnswers s.dev → s.dev.can.trans = none → r.short = false → r.reserved = false →
    s.dev.damaged = [] → r.index / 256 ≠ 0x62 → readObject canPath r.index r.sub (actedOn s.dev) = .ok v → v.length ≤ 4096 → Does (.canRead r) s fun d =>
      let key := objKey r.index r.sub
      (pathState canPath d).value = v ∧ Answered canPath s.dev d ∧ RequestOnly s.dev d ∧
      (v.length ≤ 56 → Responds r 0x00 (typeOf key) (accessByte key) v.length v s.dev d ∧ d.can.trans = none) ∧
      (56 < v.length → Responds r 0x02 (typeOf key) (accessByte key) 0xFF (leBytes 2 v.length) s.dev d ∧
        d.can.trans = some { tag := r.tag, idx := r.index, sub := r.sub, sending := true } ∧
        ((d.can.queue ++ d.can.backlog).filter fun f => f.func = 8).length =
          ((s.dev.can.queue ++ s.dev.can.backlog).filter fun f => f.func = 8).length + (v.length + 59) / 60)) ∧
  (∀ (s : State) (r : CanRequest) (e : Nat), CanAnswers s.dev → s.dev.can.trans = none → r.short = false → r.reserved = false →
    s.dev.damaged = [] → readObject canPath r.index r.sub (actedOn s.dev) = .error e → Does (.canRead r) s fun d =>
      Responds r 0x01 0 0 0 (leBytes 4 (e + 256 * r.sub) ++ leBytes 4 0) s.dev d ∧ (pathState canPath d).abort = some (e + 256 * r.sub) ∧
      d.can.trans = none ∧ RequestOnly s.dev d) ∧
  (∀ (s : State) (r : CanRequest) (value : List Byte) (out : StoreOutcome) (q : Nat), CanAnswers s.dev → s.dev.can.trans = none →
    r.short = false → r.reserved = false → Admitted canPath s.dev → objKey r.index r.sub = Obj.etaQueryBlock → r.length = 4 →
    value.take 4 = leBytes 4 q → q < 2 ^ 26 → Does (.canWrite r value out) s fun d =>
      queryBlock canPath d = q ∧ Responds r 0x00 (typeOf Obj.etaQueryBlock) (accessByte Obj.etaQueryBlock) 0 [] s.dev d ∧
      d.can.trans = none ∧ Answered canPath s.dev d ∧ RequestOnly s.dev d) ∧
  (∀ (s : State) (r : CanRequest) (value : List Byte) (out : StoreOutcome) (e : Nat), CanAnswers s.dev → s.dev.can.trans = none →
    r.short = false → r.reserved = false → r.length ≤ 56 → absent r.index r.sub = some e → Does (.canWrite r value out) s fun d =>
      Responds r 0x01 0 0 0 (leBytes 4 (e + 256 * r.sub) ++ leBytes 4 0) s.dev d ∧ (pathState canPath d).abort = some (e + 256 * r.sub) ∧
      d.can.trans = none ∧ RequestOnly s.dev d) ∧
  (∀ (s : State) (r : CanRequest) (total : Nat), CanAnswers s.dev → s.dev.can.trans = none → r.short = false → r.reserved = false →
    57 ≤ total → total ≤ 4096 → Does (.canSegmentedWrite r total) s fun d =>
      Responds r 0x03 0 0 0 [] s.dev d ∧
      d.can.trans = some { tag := r.tag, idx := r.index, sub := r.sub, total := some total, lastMs := nowMs s.dev } ∧
      RequestOnly s.dev d ∧ pathState canPath d = pathState canPath s.dev) ∧
  (∀ (s : State) (t : CanTransaction) (total : Nat) (data : List Byte) (out : StoreOutcome), s.dev.can.silent = false →
    s.dev.ctl.mode ≠ .m0 → s.dev.ctl.mode ≠ .m1 → s.dev.can.trans = some t → t.total = some total → 60 * (t.nextSeg + 1) < total →
    nowMs s.dev ≤ t.lastMs + 1000 → Does (.canSegment t.tag t.nextSeg false false data out) s fun d =>
      d.can = { s.dev.can with trans := some { t with received := t.received ++ data.take 60, nextSeg := t.nextSeg + 1
                                                      lastMs := nowMs s.dev } } ∧
      RequestOnly s.dev d ∧ pathState canPath d = pathState canPath s.dev) ∧
  (∀ (s : State) (t : CanTransaction) (tag seg : Nat) (last : Bool) (data : List Byte) (out : StoreOutcome), CanAnswers s.dev →
    s.dev.can.trans = some t → t.total.isSome = true → tag ≠ t.tag ∨ seg ≠ t.nextSeg → Does (.canSegment tag seg last false data out) s fun d =>
      Refuses t.request 4 s.dev d ∧ d.can.trans = none) ∧
  (∀ (s : State) (t : CanTransaction), CanAnswers s.dev → s.dev.can.trans = some t → t.total.isSome = true →
    t.lastMs + 1000 < nowMs s.dev → Does .segmentTimeout s fun d =>
      Refuses t.request 5 s.dev d ∧ d.can.trans = none) ∧
  (∀ (s : State) (r : CanRequest) (t : CanTransaction), CanAnswers s.dev → r.short = false → r.reserved = false →
    s.dev.can.trans = some t → t.tag = r.tag → t.total.isSome = true → t.sending = false → Does (.canAbortTransfer r) s fun d =>
      Refuses t.request 6 s.dev d ∧ d.can.trans = none) ∧
  (∀ (s : State) (r : CanRequest), CanAnswers s.dev → r.short = false → r.reserved = false →
    (∀ t, s.dev.can.trans = some t → t.tag ≠ r.tag) → Does (.canAbortTransfer r) s fun d =>
      Refuses r 8 s.dev d ∧ d.can.trans = s.dev.can.trans) ∧
  (∀ (s : State) (r : CanRequest), CanAnswers s.dev → Does (.canUnknownCommand r) s fun d =>
    Refuses r 1 s.dev d ∧ d.can.trans = s.dev.can.trans) ∧
  (∀ (s : State) (r : CanRequest) (value : List Byte) (out : StoreOutcome) (total a b n : Nat) (x : List Byte) (reason : Byte), CanAnswers s.dev →
    r.length ≤ 56 → 57 ≤ total → total ≤ 4096 →
    (r.short = true ∧ reason = 2 ∨ r.short = false ∧ s.dev.can.trans.isSome = true ∧ reason = 3 ∨
      r.short = false ∧ s.dev.can.trans = none ∧ r.reserved = true ∧ reason = 7) →
    ∀ c ∈ ([.canRead r, .canWrite r value out, .canSegmentedWrite r total, .canAuthoriseChallenge r a b n,
            .canAuthoriseRespond r a b n n x] : List Instr), Does c s fun d =>
      Refuses r reason s.dev d ∧ d.can.trans = s.dev.can.trans ∧ (∀ p, pathState p d = pathState p s.dev))

/-- R441 to R449, R425 to R431: the heartbeat is queued; the time sync sets the wall clock; a wake frame acts once, and a repeated one does not
act; a lost frame is counted; a node number in conflict is recorded once; bus-off counts, stops the bus and is recovered from; the frame that
ends on the bus leaves its slot, or stays for another try; a notice withdrawn leaves its slot; receive errors may turn the node passive. -/
def Obligations.LinkFramesAndErrors : Prop :=
  (∀ s : State, frameMode s.dev.ctl.mode = true → s.dev.can.silent = false → grantOk 7 1 1 s.dev = true → Does .heartbeat s fun d =>
    d.can.queue.length = s.dev.can.queue.length + 1 ∧ d.can.queue.dropLast = s.dev.can.queue ∧
    (∀ f, d.can.queue.getLast? = some f → f.data.length = 16 ∧ f.data.take 1 = leBytes 1 (modeNum s.dev.ctl.mode) ∧
      f = { func := 7, owner := 1, queuedMs := nowMs s.dev, data := f.data }) ∧
    d.can = { s.dev.can with queue := d.can.queue, bootSent := true, busOffSince := false
                             hbSeq := if s.dev.can.bootSent then (s.dev.can.hbSeq + 1) % 256 else 0 } ∧
    heldBy 7 1 d = heldBy 7 1 s.dev + 1 ∧ (∀ o, o ≠ 1 → heldBy 7 o d = heldBy 7 o s.dev) ∧ OnlyLedgers [7] s.dev d ∧
    d = { s.dev with can := d.can, ledgers := d.ledgers }) ∧
  (∀ (s : State) (ms elapsed : Nat), s.dev.ctl.mode ≠ .m0 → s.dev.ctl.porReleased = true → s.dev.ctl.vsysUp = true → ms ≠ 0 →
    Does (.timeSync ms elapsed) s fun d =>
      getObj Obj.wallClockMs d = ms + elapsed ∧ getObj Obj.wallClockSource d = 0x02 ∧
      getObj Obj.timeSyncReceived d = (getObj Obj.timeSyncReceived s.dev + 1) % 2 ^ 32 ∧
      OnlyObjs ([Obj.wallClockMs, Obj.wallClockSource, Obj.timeSyncReceived, Obj.canFramesActedOn, Obj.observedDarkFactor] ++ asideObjs)
        s.dev d ∧
      Aside { s.dev with objs := d.objs, media := { s.dev.media with rc := { s.dev.media.rc with clockSet := d.media.rc.clockSet
                                                                                                 observed := d.media.rc.observed } } } d) ∧
  (∀ (s : State) (elapsed : Nat), Idle (.timeSync 0 elapsed) s) ∧
  (∀ (s : State) (flags seq : Nat), seq ≠ 0 → s.dev.ctl.mode ∉ [Mode.m0, .m10, .m11] → s.dev.can.silent = false →
    s.dev.ctl.porReleased = true → s.dev.ctl.vsysUp = true → s.dev.domains.lossWindow = [] →
    ¬ (s.dev.can.lastWakeSeq = seq ∧ nowMs s.dev ≤ s.dev.can.lastWakeMs + 1000) → Does (.wakeFrame flags seq) s fun d =>
      d.can.lastWakeSeq = seq ∧ d.can.lastWakeMs = nowMs s.dev ∧
      getObj Obj.canWakesActed d = (getObj Obj.canWakesActed s.dev + 1) % 2 ^ 32 ∧
      (bitOf flags 0 = true → ∀ p, p < 4 → (port p s.dev).pmeEn = true → (port p s.dev).linkUp = false →
        (port p d).pmeStatus = true ∧ (port p d).wakeMs = some (nowMs s.dev)) ∧
      (bitOf flags 1 = true → s.dev.ctl.mode ≠ .m1 → ∀ dd ∈ [3, 4, 5, 6, 7], getObj (Obj.domainState dd) s.dev ∈ [0x00, 0x02] →
        mustBeOff dd s.dev = false → getObj (Obj.domainState dd) d = 0x04) ∧
      (bitOf flags 1 = false → ∀ dd ∈ [3, 4, 5, 6, 7], getObj (Obj.domainState dd) d = getObj (Obj.domainState dd) s.dev) ∧
      OnlyLedgers [7] s.dev d ∧ d.ctl = s.dev.ctl ∧ d.media = s.dev.media ∧ d.sub.namespaces = s.dev.sub.namespaces ∧ d.sec = s.dev.sec ∧
      d.settings = s.dev.settings) ∧
  (∀ (s : State) (flags seq : Nat), seq ≠ 0 → s.dev.ctl.mode ∉ [Mode.m0, .m10, .m11] → s.dev.can.silent = false →
    s.dev.ctl.porReleased = true → s.dev.ctl.vsysUp = true → s.dev.domains.lossWindow = [] →
    s.dev.can.lastWakeSeq = seq → nowMs s.dev ≤ s.dev.can.lastWakeMs + 1000 → Does (.wakeFrame flags seq) s fun d =>
      getObj Obj.canWakesRepeated d = (getObj Obj.canWakesRepeated s.dev + 1) % 2 ^ 32 ∧
      d = { s.dev with objs := d.objs, can := d.can, ledgers := d.ledgers } ∧ d.can.lastWakeMs = s.dev.can.lastWakeMs ∧
      OnlyObjs ([Obj.canWakesRepeated] ++ asideObjs) s.dev d ∧ OnlyLedgers [7] s.dev d) ∧
  (∀ s : State, Does .canFrameIgnored s fun d =>
    getObj Obj.canFramesIgnored d = (getObj Obj.canFramesIgnored s.dev + 1) % 2 ^ 32 ∧ OnlyObjs [Obj.canFramesIgnored] s.dev d ∧
    d = { s.dev with objs := d.objs }) ∧
  (∀ (s : State) (func : Nat), func ∈ [0x1, 0x6, 0x7, 0x8, 0xE] → s.dev.can.nodeConflict = false → s.dev.can.silent = false →
    frameMode s.dev.ctl.mode = true → WriterOpen s.dev → Does (.canNodeIdConflict func) s fun d =>
    Recorded Code.canNodeIdConflict [getObj Obj.nodeIdActive s.dev, func] s.dev d ∧ d.can.nodeConflict = true ∧
    Aside { s.dev with can := { s.dev.can with nodeConflict := true } } d) ∧
  (∀ (s : State) (func : Nat), s.dev.can.nodeConflict = true → Idle (.canNodeIdConflict func) s) ∧
  (∀ s : State, s.dev.can.silent = false → getObj Obj.canBusState s.dev ≠ 0x02 → (s.dev.can.queue.filter (·.onBus)).length ≤ 1 →
    (∀ f ∈ s.dev.can.queue, f.withdrawn = false) → Does .canBusOff s fun d =>
    getObj Obj.canBusState d = 0x02 ∧ getObj Obj.canBusOffCount d = (getObj Obj.canBusOffCount s.dev + 1) % 2 ^ 32 ∧
    d.can = { s.dev.can with busOffSince := true, queue := s.dev.can.queue.map fun f => { f with onBus := false } } ∧
    OnlyObjs [Obj.canBusState, Obj.canBusOffCount] s.dev d ∧ d = { s.dev with objs := d.objs, can := d.can }) ∧
  (∀ s : State, getObj Obj.canBusState s.dev = 0x02 → WriterOpen s.dev → Does .canBusOffRecovery s fun d =>
    getObj Obj.canBusState d = 0 ∧ getObj Obj.canTxErrorCount d = 0 ∧ getObj Obj.canRxErrorCount d = 0 ∧
    Recorded Code.canBusOff [getObj Obj.canBusOffCount s.dev, (ledger 7 s.dev).free] s.dev d ∧
    OnlyObjs ([Obj.canBusState, Obj.canTxErrorCount, Obj.canRxErrorCount] ++ asideObjs) s.dev d ∧ Aside { s.dev with objs := d.objs } d) ∧
  (∀ (s : State) (f : CanFrame), s.dev.can.silent = false → getObj Obj.canBusState s.dev ≠ 0x02 → s.dev.can.backlog = [] →
    s.dev.can.queue = [f] → 1 ≤ heldBy 7 f.owner s.dev → Does (.canFrameTransmitted false false) s fun d =>
      d.can.queue = [] ∧ heldBy 7 f.owner d + 1 = heldBy 7 f.owner s.dev ∧
      getObj Obj.canFramesSent d = (getObj Obj.canFramesSent s.dev + 1) % 2 ^ 32 ∧
      getObj Obj.canTxErrorCount d = getObj Obj.canTxErrorCount s.dev - 1 ∧ OnlyLedgers [7] s.dev d ∧
      d = { s.dev with objs := d.objs, ledgers := d.ledgers, can := { s.dev.can with queue := [], trans := d.can.trans } } ∧
      OnlyObjs [Obj.canFramesSent, Obj.canTxErrorCount, Obj.canTxAlreadySent, Obj.logbookNoticesSent, Obj.canBusState] s.dev d) ∧
  (∀ (s : State) (f g : CanFrame), s.dev.can.silent = false → getObj Obj.canBusState s.dev ≠ 0x02 → s.dev.can.backlog = [] →
    s.dev.can.queue = [f, g] → f.onBus = false → g.onBus = false → g.func < f.func → Does (.canFrameTransmitted false false) s fun d =>
      d.can.queue = [f] ∧ OnlyLedgers [7] s.dev d ∧
      d = { s.dev with objs := d.objs, ledgers := d.ledgers, can := { s.dev.can with queue := [f], trans := d.can.trans } }) ∧
  (∀ (s : State) (f g : CanFrame), s.dev.can.silent = false → getObj Obj.canBusState s.dev ≠ 0x02 → s.dev.can.backlog = [] →
    s.dev.can.queue = [f, g] → f.onBus = false → g.onBus = false → f.func ≤ g.func → Does (.canFrameTransmitted false true) s fun d =>
      d.can.queue = [{ g with onBus := true }] ∧ OnlyLedgers [7] s.dev d ∧
      d = { s.dev with objs := d.objs, ledgers := d.ledgers
                       can := { s.dev.can with queue := [{ g with onBus := true }], trans := d.can.trans } }) ∧
  (∀ (s : State) (f : CanFrame), s.dev.can.silent = false → getObj Obj.canBusState s.dev ≠ 0x02 → s.dev.can.queue = [f] →
    f.withdrawn = false → Does (.canFrameTransmitted true false) s fun d =>
      d.can = { s.dev.can with queue := [{ f with onBus := false }] } ∧
      getObj Obj.canTxErrorCount d = min 255 (getObj Obj.canTxErrorCount s.dev + 8) ∧
      OnlyObjs [Obj.canTxErrorCount, Obj.canBusState] s.dev d ∧ d = { s.dev with objs := d.objs, can := d.can }) ∧
  (∀ (s : State) (f : CanFrame), s.dev.can.silent = false → s.dev.can.queue = [f] → f.owner = 4 → f.withdrawn = false → f.onBus = false →
    f.queuedMs + 2000 ≤ nowMs s.dev → s.dev.can.backlog = [] → 1 ≤ heldBy 7 4 s.dev → Does .noticeWithdrawal s fun d =>
      d.can = { s.dev.can with queue := [] } ∧ heldBy 7 4 d + 1 = heldBy 7 4 s.dev ∧
      getObj Obj.canTxCancelled d = (getObj Obj.canTxCancelled s.dev + 1) % 2 ^ 32 ∧ OnlyObjs [Obj.canTxCancelled] s.dev d ∧
      OnlyLedgers [7] s.dev d ∧ d = { s.dev with objs := d.objs, can := d.can, ledgers := d.ledgers }) ∧
  (∀ (s : State) (n : Nat), s.dev.can.silent = false → Does (.canReceiveError n) s fun d =>
    getObj Obj.canRxErrorCount d = min 255 (getObj Obj.canRxErrorCount s.dev + n) ∧
    (getObj Obj.canBusState s.dev ≠ 0x02 → getObj Obj.canBusState d =
      if 128 ≤ getObj Obj.canTxErrorCount s.dev ∨ 128 ≤ getObj Obj.canRxErrorCount d then 1 else 0) ∧
    OnlyObjs [Obj.canRxErrorCount, Obj.canBusState] s.dev d ∧ d = { s.dev with objs := d.objs })

/-! ### Authorisation (spec/18) -/

/-- R538 to R543, Tables 18.3 and 18.5: a challenge on a path, over CAN or from a host, is answered with a fresh nonce and outstanding; the
matching response uses it up and gives the grant; a wrong one is counted, and the fifth within ten minutes locks the path for fifteen. -/
def Obligations.ChallengesAreAnswered : Prop :=
  (∀ (s : State) (path slot op arg : Nat) (c : Instr) (cmd : HostCmd) (r : CanRequest), slot ≤ 7 → argumentForm op arg = true →
    pathLocked path s.dev = false → authSlotSet slot s.dev = true →
    (∃ b, neededRight op arg = some b ∧ bitOf (authRightsOf slot s.dev) b = true) → 1 ≤ (ledger 8 s.dev).free →
    (c = .canAuthoriseChallenge r slot op arg ∧ path = canPath ∧ op = 1 ∧ CanAnswers s.dev ∧ s.dev.can.trans = none ∧ r.short = false ∧
        r.reserved = false ∨
      c = .authoriseChallenge cmd slot op arg ∧ path = cmd.port.val + 1 ∧ AdminReady cmd s.dev ∧
        s.dev.ctl.mode ∉ [Mode.m2, .m9]) →
    Does c s fun d =>
      (∃ n, 1 ≤ n ∧ (pathState path d).challenges =
          (if 8 ≤ (pathState path s.dev).challenges.length then (pathState path s.dev).challenges.drop 1
            else (pathState path s.dev).challenges) ++
          [{ nonce := n, slot := slot, op := op, arg := arg, issuedMs := nowMs s.dev }] ∧
        (path = canPath → Responds r 0x00 0 0 0 (leBytes 8 n) s.dev d) ∧
        (path ≠ canPath → Completes cmd (fun e => e.sct = 0 ∧ e.sc = 0 ∧ e.dw0 = n % 2 ^ 32 ∧ e.dw1 = n / 2 ^ 32) s.dev d)) ∧
      heldBy 8 path d = (if 8 ≤ (pathState path s.dev).challenges.length then heldBy 8 path s.dev else heldBy 8 path s.dev + 1) ∧
      (∀ p, p ≠ path → pathState p d = pathState p s.dev) ∧ (pathState path d).grant = (pathState path s.dev).grant ∧
      OnlyLedgers [7, 8] s.dev d ∧ d.ctl = s.dev.ctl ∧ d.media = s.dev.media ∧ d.sec = s.dev.sec ∧ d.cs = s.dev.cs ∧
      OnlyPorts (if path = canPath then [] else [cmd.port.val]) s.dev d) ∧
  (∀ (s : State) (path slot op arg nonce : Nat) (response : List Byte) (c : Instr) (cmd : HostCmd) (r : CanRequest) (ch : Challenge), slot ≤ 7 →
    argumentForm op arg = true → pathLocked path s.dev = false →
    (∀ q ∈ [1, 2, 3, 4, 5], q ≠ path → ∀ x ∈ (pathState q s.dev).challenges, x.nonce ≠ nonce) →
    (pathState path s.dev).challenges.find? (·.nonce == nonce) = some ch → ch.slot = slot → ch.op = op → ch.arg = arg →
    (c = .canAuthoriseRespond r slot op arg nonce response ∧ path = canPath ∧ CanAnswers s.dev ∧ s.dev.can.trans = none ∧ r.short = false ∧
        r.reserved = false ∨
      c = .authoriseRespond cmd slot op arg nonce response ∧ path = cmd.port.val + 1 ∧
        AdminReady cmd s.dev ∧ s.dev.ctl.mode ∉ [Mode.m2, .m9]) →
    Does c s fun d =>
      (response = rightResponse path ch s.dev → (pathState path d).grant = some { op := op, arg := arg, givenMs := nowMs s.dev } ∧
        (pathState path d).failures = (pathState path s.dev).failures ∧
        (path = canPath → Responds r 0x00 0 0 0 [] s.dev d) ∧ (path ≠ canPath → Succeeds cmd 0 s.dev d)) ∧
      (response ≠ rightResponse path ch s.dev → (pathState path d).failures = nowMs s.dev ::
          (pathState path s.dev).failures.filter (fun t => decide (nowMs s.dev < t + 600000)) ∧
        (path = canPath → Responds r 0x05 0 0 0 (leBytes 8 0x01) s.dev d) ∧
        (path ≠ canPath → Completes cmd (fun e => e.sct = 1 ∧ e.sc = 0xC2) s.dev d) ∧
        (if failureCount path s.dev < 4 then (pathState path d).grant = (pathState path s.dev).grant ∧
            (pathState path d).lockedUntil = (pathState path s.dev).lockedUntil
          else (pathState path d).lockedUntil = some (nowMs s.dev + 900000) ∧ (pathState path d).grant = none ∧
            (pathState path d).challenges = [])) ∧
      (∀ x ∈ (pathState path d).challenges, x.nonce ≠ nonce) ∧ (∀ p, p ≠ path → pathState p d = pathState p s.dev) ∧
      OnlyLedgers [7, 8] s.dev d ∧ d.ctl = s.dev.ctl ∧ d.media = s.dev.media ∧ d.sec = s.dev.sec)

/-- R539, R542, R543: challenges end after 60 s and their units return, grants after 10 s, locks after 15 minutes, the unlocked path's failures
forgotten; what is younger stays. -/
def Obligations.AuthorisationsExpire : Prop :=
  (∀ s : State, (∀ p ∈ [1, 2, 3, 4, 5], (pathState p s.dev).challenges.length ≤ heldBy 8 p s.dev) → Does .challengeExpiry s fun d =>
    (∀ p ∈ [1, 2, 3, 4, 5],
      pathState p d = { pathState p s.dev with
        challenges := (pathState p s.dev).challenges.filter fun c => decide (nowMs s.dev < c.issuedMs + 60000) } ∧
      heldBy 8 p d + (pathState p s.dev).challenges.length = heldBy 8 p s.dev + (pathState p d).challenges.length) ∧
    d = { s.dev with ledgers := d.ledgers, settings := { s.dev.settings with paths := d.settings.paths } } ∧ OnlyLedgers [8] s.dev d) ∧
  (∀ s : State, Does .grantExpiry s fun d =>
    (∀ p ∈ [1, 2, 3, 4, 5], (∀ g, (pathState p s.dev).grant = some g → g.givenMs + 10000 ≤ nowMs s.dev →
        pathState p d = { pathState p s.dev with grant := none }) ∧
      (∀ g, (pathState p s.dev).grant = some g → nowMs s.dev < g.givenMs + 10000 → pathState p d = pathState p s.dev)) ∧
    d = { s.dev with settings := { s.dev.settings with paths := d.settings.paths } }) ∧
  (∀ s : State, Does .pathUnlocked s fun d =>
    (∀ p ∈ [1, 2, 3, 4, 5], (∀ t, (pathState p s.dev).lockedUntil = some t → t ≤ nowMs s.dev →
        pathState p d = { pathState p s.dev with lockedUntil := none, failures := [] }) ∧
      (∀ t, (pathState p s.dev).lockedUntil = some t → nowMs s.dev < t → pathState p d = pathState p s.dev)) ∧
    Aside { s.dev with settings := { s.dev.settings with paths := d.settings.paths } } d) ∧
  (∀ (s : State) (p t : Nat), p ∈ [1, 2, 3, 4, 5] → (pathState p s.dev).lockedUntil = some t → t ≤ nowMs s.dev →
    (∀ q ∈ [1, 2, 3, 4, 5], q ≠ p → (pathState q s.dev).lockedUntil = none) → WriterOpen s.dev → Does .pathUnlocked s fun d =>
      Recorded Code.pathUnlocked [p] s.dev d)

/-! ### The object dictionary (spec/13) -/

/-- R402, R406, R408: an accepted write of a plain stored object takes effect and is stored in both settings copies of one version; a request
that R402 turns away is answered with its abort code and changes nothing else; M8 holds a write that would store (R403). -/
def Obligations.WritesAreStoredOrAborted : Prop :=
  (∀ (s : State) (path key v : Nat) (out : StoreOutcome), Admitted path s.dev → s.dev.ctl.mode ≠ .m8 → PlainSetting key →
    v < 256 ^ objSize key → inRange [(key, leBytes (objSize key) v)] s.dev key (leBytes (objSize key) v) = true →
    RoomToStore (recordSize [(key, some v)]) s.dev → out.active = 0 → out.other = 0 →
    Does (.objectWrite path (key / 256) (key % 256) (leBytes (objSize key) v) out) s fun d =>
      getObj key d = writtenBits key v ∧ Stored [(key, some (writtenBits key v))] s.dev d ∧ Answered path s.dev d ∧
      PathOnly path [key, Obj.settingsWrites] s.dev d) ∧
  (∀ (s : State) (path key v : Nat) (out : StoreOutcome), Admitted path s.dev → PlainSetting key → v < 256 ^ objSize key →
    s.dev.ctl.mode ≠ .m8 → inRange [(key, leBytes (objSize key) v)] s.dev key (leBytes (objSize key) v) = false →
    Does (.objectWrite path (key / 256) (key % 256) (leBytes (objSize key) v) out) s fun d =>
      (pathState path d).abort = some (Abort.valueOutOfRange + 256 * (key % 256)) ∧ PathOnly path [] s.dev d ∧
      d.settings.copyA = s.dev.settings.copyA ∧ d.settings.copyB = s.dev.settings.copyB) ∧
  (∀ (s : State) (path key v : Nat) (out : StoreOutcome), Admitted path s.dev → PlainSetting key → v < 256 ^ objSize key →
    s.dev.ctl.mode = .m8 → Does (.objectWrite path (key / 256) (key % 256) (leBytes (objSize key) v) out) s fun d =>
      d = { s.dev with held := s.dev.held ++ [.objectWrite path (key / 256) (key % 256) (leBytes (objSize key) v) out] }) ∧
  (∀ (s : State) (path index sub e : Nat) (value : List Byte) (out : StoreOutcome), 1 ≤ path → path ≤ 5 → absent index sub = some e →
    Does (.objectWrite path index sub value out) s fun d =>
      (pathState path d).abort = some (e + 256 * sub) ∧ PathOnly path [] s.dev d ∧ d.settings.copyA = s.dev.settings.copyA ∧
      d.settings.copyB = s.dev.settings.copyB ∧
      getObj Obj.dictionaryAborts d = (getObj Obj.dictionaryAborts s.dev + 1) % objModulus Obj.dictionaryAborts) ∧
  (∀ (s : State) (path key : Nat) (value : List Byte) (out : StoreOutcome), 1 ≤ path → path ≤ 5 → PlainSetting key →
    value.length = objSize key → s.dev.ctl.mode ∈ [Mode.m0, .m1, .m2, .m10, .m11] →
    Does (.objectWrite path (key / 256) (key % 256) value out) s fun d =>
      (pathState path d).abort = some (Abort.modeNotAdmitted + 256 * (key % 256)) ∧ PathOnly path [] s.dev d ∧
      d.settings.copyA = s.dev.settings.copyA ∧ d.settings.copyB = s.dev.settings.copyB) ∧
  (∀ (s : State) (path key : Nat) (value : List Byte) (out : StoreOutcome), Admitted path s.dev → absent (key / 256) (key % 256) = none →
    accessOf key = .grd → value.length = objSize key → objSize key ≠ 0 → storedObject key = false ∨ s.dev.ctl.mode ≠ .m8 →
    key ≠ Obj.settingsRestoreDefaults →
    Does (.objectWrite path (key / 256) (key % 256) value out) s fun d =>
      (pathLocked path s.dev = true → (pathState path d).abort = some (Abort.pathLockedOut + 256 * (key % 256)) ∧ PathOnly path [] s.dev d ∧
        (pathState path d).grant = (pathState path s.dev).grant) ∧
      (pathLocked path s.dev = false → grantFor path 1 (key / 256 + 65536 * (key % 256)) s.dev = false →
        (pathState path d).abort = some (Abort.authorisationRequired + 256 * (key % 256)) ∧ PathOnly path [] s.dev d ∧
        (pathState path d).grant = (pathState path s.dev).grant) ∧
      (pathLocked path s.dev = false → grantFor path 1 (key / 256 + 65536 * (key % 256)) s.dev = true →
        (pathState path d).grant = none))

/-- R412 to R414: a write of a member sets the path's shadow and nothing takes effect; a commit whose members agree puts every shadow of the
group into force and stores all its members in one record; one whose members do not agree names the member and changes nothing; a discard drops them. -/
def Obligations.GroupsCommitAsOne : Prop :=
  (∀ (s : State) (path index sub v : Nat), Admitted path s.dev → objKey index sub ∈ groupMembers index →
    v < 256 ^ objSize (objKey index sub) →
    inRange [(objKey index sub, leBytes (objSize (objKey index sub)) v)] s.dev (objKey index sub)
      (leBytes (objSize (objKey index sub)) v) = true →
    Does (.groupMemberWrite path index sub v) s fun d =>
      memberCandidate path (objKey index sub) d = v ∧
      (∀ k, k ≠ objKey index sub → memberCandidate path k d = memberCandidate path k s.dev) ∧ Answered path s.dev d ∧
      PathOnly path [] s.dev d ∧ d.settings.copyA = s.dev.settings.copyA ∧ d.settings.copyB = s.dev.settings.copyB) ∧
  (∀ (s : State) (path index : Nat) (out : StoreOutcome), Admitted path s.dev → s.dev.ctl.mode ≠ .m8 → index ∈ [0x1011, 0x3400] →
    groupShadows path index s.dev ≠ [] → ((groupShadows path index s.dev).map (·.1)).Nodup → disagreement path index s.dev = none →
    RoomToStore (recordSize ((groupMembers index).map fun k => (k, some (memberCandidate path k s.dev)))) s.dev →
    out.active = 0 → out.other = 0 → Does (.groupCommit path index out) s fun d =>
      (∀ e ∈ groupShadows path index s.dev, getObj e.1 d = e.2) ∧
      (∀ k ∈ groupMembers index, getObj k d = memberCandidate path k s.dev) ∧ groupShadows path index d = [] ∧
      smGet none (pathState path d).failed (objKey index 0x0F) = none ∧
      getObj (objKey index 0x0F) d = (getObj (objKey index 0x0F) s.dev + 1) % 65536 ∧
      Stored ((groupMembers index).map fun k => (k, some (memberCandidate path k s.dev))) s.dev d ∧ Answered path s.dev d ∧
      PathOnly path (objKey index 0x0F :: Obj.settingsWrites :: (groupShadows path index s.dev).map (·.1)) s.dev d) ∧
  (∀ (s : State) (path index sub : Nat) (out : StoreOutcome), Admitted path s.dev → index ∈ [0x1011, 0x3400] →
    groupShadows path index s.dev ≠ [] → disagreement path index s.dev = some sub → Does (.groupCommit path index out) s fun d =>
      (pathState path d).abort = some (Abort.valueOutOfRange + 256 * sub) ∧ groupShadows path index d = groupShadows path index s.dev ∧
      smGet none (pathState path d).failed (objKey index 0x0F) = some sub ∧ PathOnly path [] s.dev d ∧
      d.settings.copyA = s.dev.settings.copyA ∧ d.settings.copyB = s.dev.settings.copyB) ∧
  (∀ (s : State) (path index : Nat), Admitted path s.dev → index ∈ [0x1011, 0x3400] → Does (.groupDiscard path index) s fun d =>
    groupShadows path index d = [] ∧ (∀ k, k ∉ groupMembers index → memberCandidate path k d = memberCandidate path k s.dev) ∧
    smGet none (pathState path d).failed (objKey index 0x0F) = (smGet none (pathState path s.dev).failed (objKey index 0x0F)).map (fun _ => 0) ∧
    Answered path s.dev d ∧ PathOnly path [] s.dev d ∧ d.settings.copyA = s.dev.settings.copyA ∧ d.settings.copyB = s.dev.settings.copyB)

/-- R462, R488, R573, R594, R423, R29, R388: what a write of TokenPoolSize and SupplyWarningMv does, an acknowledgement, a return to defaults,
a clear of the logbook; reads of the ledgers' counts; a host's Dictionary Read and Dictionary Write. -/
def Obligations.DictionaryObjectsAct : Prop :=
  (∀ (s : State) (path v : Nat) (out : StoreOutcome), Admitted path s.dev → s.dev.ctl.mode ≠ .m8 →
    inRange [(Obj.tokenPoolSize, leBytes 2 v)] s.dev Obj.tokenPoolSize (leBytes 2 v) = true → v < 65536 →
    RoomToStore (recordSize [(Obj.tokenPoolSize, some v)]) s.dev → out.active = 0 → out.other = 0 → heldBy 1 0x22 s.dev = 0 →
    v ≠ (ledger 1 s.dev).total → (ledger 1 s.dev).total ≤ v + (ledger 1 s.dev).free → WriterOpen s.dev →
    Does (.tokenPoolSizeWrite path v out) s fun d =>
      getObj Obj.tokenPoolSize d = v ∧ (ledger 1 d).total = v ∧
      (ledger 1 d).free + (ledger 1 s.dev).total = (ledger 1 s.dev).free + v ∧ (∀ o, heldBy 1 o d = heldBy 1 o s.dev) ∧
      Recorded Code.tokenPoolResized [(ledger 1 s.dev).total, v] s.dev d ∧ Stored [(Obj.tokenPoolSize, some v)] s.dev d ∧
      Answered path s.dev d ∧ OnlyLedgers [1, 7] s.dev d ∧
      OnlyObjs ([Obj.tokenPoolSize, Obj.settingsWrites, Obj.dictionaryRequests] ++ asideObjs) s.dev d ∧
      Aside { s.dev with objs := d.objs, ledgers := d.ledgers, res := d.res, settings := d.settings } d) ∧
  (∀ (s : State) (path v : Nat) (out : StoreOutcome), Admitted path s.dev → s.dev.ctl.mode ≠ .m8 → 10500 ≤ v → v ≤ 11600 →
    v ≤ getObj Obj.vsysMv s.dev → RoomToStore (recordSize [(Obj.supplyWarningMv, some v)]) s.dev → out.active = 0 → out.other = 0 →
    Does (.supplyWarningLevelWrite path v out) s fun d =>
      getObj Obj.supplyWarningMv d = v ∧ Stored [(Obj.supplyWarningMv, some v)] s.dev d ∧ Answered path s.dev d ∧
      PathOnly path [Obj.supplyWarningMv, Obj.settingsWrites] s.dev d) ∧
  (∀ (s : State) (path : Nat), Granted path Obj.settingsAcknowledge s.dev → s.dev.settings.lost = true → WriterOpen s.dev →
    Does (.settingsAcknowledge path 1) s fun d =>
      d.settings.lost = false ∧ d.cs.lostPending = false ∧ bitOf d.ctl.causes.toNat 8 = false ∧
      Recorded Code.settingsAcknowledged [path] s.dev d ∧ Answered path s.dev d ∧ (pathState path d).grant = none ∧
      d.ctl = { s.dev.ctl with causes := d.ctl.causes } ∧ OnlyLedgers [7] s.dev d ∧ d.media = s.dev.media ∧ d.sec = s.dev.sec ∧
      OnlyObjs ([Obj.dictionaryRequests] ++ asideObjs) s.dev d) ∧
  (∀ (s : State) (path : Nat) (out : StoreOutcome) (keys : List Nat), Granted path Obj.settingsRestoreDefaults s.dev →
    s.dev.ctl.mode ≠ .m8 → out.active = 0 → out.other = 0 → WriterOpen s.dev →
    keys = (copyKeys (settingsCopy s.dev.cs.activeB s.dev)).filter (fun k => (copyValue (settingsCopy s.dev.cs.activeB s.dev) k).isSome) →
    keys ≠ [] → (∀ k ∈ keys, PlainSetting k ∨ k ∈ groupMembers (k / 256)) → RoomToStore (recordSize (keys.map fun k => (k, none))) s.dev →
    Does (.settingsRestoreDefaults path 1 out) s fun d =>
      (∀ k ∈ keys, getObj k d = objDefault k) ∧ Stored (keys.map fun k => (k, none)) s.dev d ∧
      Recorded Code.settingsDefaultsRestored [path] s.dev d ∧ Answered path s.dev d ∧ (pathState path d).grant = none ∧
      PathOnly path (Obj.settingsWrites :: keys) s.dev d) ∧
  (∀ (s : State) (path : Nat), Granted path Obj.logbookClear s.dev → s.dev.ctl.mode ≠ .m8 → s.dev.log.indexComplete = true →
    WriterOpen s.dev → (∀ e ∈ s.dev.log.ring, serialLater e.entry.seq (headSequence s.dev) = false) →
    serialLater s.dev.log.nextSeq (headSequence s.dev) = true → Does (.logbookClear path 1) s fun d =>
      (∀ r ∈ heldRecords d, r.code = Code.logbookCleared) ∧
      Recorded Code.logbookCleared [path, headSequence s.dev] s.dev d ∧ Answered path s.dev d ∧ (pathState path d).grant = none ∧
      OnlyObjs ([Obj.dictionaryRequests] ++ frameObjs ++ (List.range 16).map Obj.carrierLastGeneration ++ asideObjs) s.dev d ∧
      OnlyLedgers [5, 7] s.dev d ∧ FramesOnly s.dev d ∧
      d.sec = s.dev.sec ∧ d.ctl = s.dev.ctl) ∧
  (∀ (s : State) (path l : Nat), 1 ≤ path → path ≤ 5 → s.dev.ctl.mode ∉ [Mode.m0, .m1, .m2, .m11] → l ∈ [1, 2, 3, 4, 5, 6, 7, 8] →
    s.dev.damaged = [] → pairMatches (ledger l s.dev).total (ledger l s.dev).inverse = true → ledgerOk (ledger l s.dev) = true → Does (.ledgerFreeRead path l) s fun d =>
      (pathState path d).value = leBytes 4 (ledger l s.dev).free ∧ Answered path s.dev d ∧ PathOnly path [Obj.ledgerChecks] s.dev d ∧
      getObj Obj.ledgerChecks d = (getObj Obj.ledgerChecks s.dev + 1) % objModulus Obj.ledgerChecks ∧ d.ledgers = s.dev.ledgers) ∧
  (∀ (s : State) (path l o : Nat), 1 ≤ path → path ≤ 5 → s.dev.ctl.mode ∉ [Mode.m0, .m1, .m2, .m11] → l ∈ [1, 2, 3, 4, 5, 6, 7, 8] →
    s.dev.damaged = [] → pairMatches (ledger l s.dev).total (ledger l s.dev).inverse = true → ledgerOk (ledger l s.dev) = true → 1 ≤ o → o ≤ 255 → Does (.ledgerOwnerHeldRead path l) s fun d =>
      ((pathState path d).value.drop (4 * (o - 1))).take 4 = leBytes 4 (heldBy l o s.dev) ∧ Answered path s.dev d ∧
      PathOnly path [Obj.ledgerChecks] s.dev d ∧ d.ledgers = s.dev.ledgers) ∧
  (∀ (s : State) (cmd : HostCmd) (index sub bytes : Nat) (v : List Byte), AdminReady cmd s.dev →
    1 ≤ bytes → bytes ≤ 4096 → index / 256 ≠ 0x62 → s.dev.damaged = [] →
    readObject (cmd.port.val + 1) index sub (takeEntry cmd.port.val 0 s.dev) = .ok v →
    Does (.dictionaryRead cmd index sub bytes) s fun d =>
      Completes cmd (fun e => e.sct = 0 ∧ e.sc = 0 ∧ e.data = v.take bytes ∧ e.dw0 = v.length + 65536 * typeOf (objKey index sub)
        + 16777216 * accessByte (objKey index sub)) s.dev d ∧
      Answered (cmd.port.val + 1) s.dev d ∧ PathOnly (cmd.port.val + 1) [Obj.commandsFetched cmd.port.val] { s.dev with ports := d.ports } d ∧
      OnlyPorts [cmd.port.val] s.dev d) ∧
  (∀ (s : State) (cmd : HostCmd) (q : Nat) (out : StoreOutcome), AdminReady cmd s.dev →
    Admitted (cmd.port.val + 1) s.dev → s.dev.ctl.mode ≠ .m9 → q < 2 ^ 26 →
    Does (.dictionaryWrite cmd (Obj.etaQueryBlock / 256) (Obj.etaQueryBlock % 256) (leBytes 4 q) out) s fun d =>
      queryBlock (cmd.port.val + 1) d = q ∧ Succeeds cmd 0 s.dev d ∧ Answered (cmd.port.val + 1) s.dev d ∧
      PathOnly (cmd.port.val + 1) [Obj.commandsFetched cmd.port.val] { s.dev with ports := d.ports } d ∧ OnlyPorts [cmd.port.val] s.dev d)

/-- R546, R596, R597: an authorised write of AuthKey sets or empties a slot's key and one of AuthRights its rights, and the challenges naming the
slot end; in M2 a chunk is taken at RecoveryOffset, and a commit puts the component received into the target slot, or boots. -/
def Obligations.KeysAndRecoveryAreWritten : Prop :=
  (∀ (s : State) (path slot : Nat) (key : List Byte), slot < 8 → Granted path (0x441001 + slot) s.dev →
    key.length = 32 ∨ key = [] ∧ slot ≠ 0 → s.dev.sec.used < 1364 → WriterOpen s.dev → Does (.authKeyWrite path slot key) s fun d =>
      (smGet {} d.sec.auth slot).key = (if key = [] then none else some key) ∧
      (∀ n, n ≠ slot → smGet {} d.sec.auth n = smGet {} s.dev.sec.auth n) ∧
      (∀ p ∈ [1, 2, 3, 4, 5], ∀ c ∈ (pathState p d).challenges, c.slot ≠ slot) ∧ Recorded Code.authKeyChanged [slot, path] s.dev d ∧
      Answered path s.dev d ∧ (pathState path d).grant = none ∧ d.sec.keys = s.dev.sec.keys ∧ OnlyLedgers [7, 8] s.dev d ∧
      OnlyObjs ([Obj.dictionaryRequests] ++ asideObjs) s.dev d ∧ d.media = s.dev.media ∧ d.ctl = s.dev.ctl) ∧
  (∀ (s : State) (path slot rights : Nat), slot < 8 → Granted path (0x441101 + slot) s.dev → rights < 16 → slot = 0 → rights = 15 →
    s.dev.sec.used < 1364 → Does (.authRightsWrite path slot rights) s fun d =>
      authRightsOf slot d = 15 ∧ Answered path s.dev d) ∧
  (∀ (s : State) (path slot rights : Nat), slot < 8 → slot ≠ 0 → Granted path (0x441101 + slot) s.dev → rights < 16 →
    s.dev.sec.used < 1364 → WriterOpen s.dev → Does (.authRightsWrite path slot rights) s fun d =>
      authRightsOf slot d = rights ∧ (∀ n, n ≠ slot → authRightsOf n d = authRightsOf n s.dev) ∧
      (∀ n, (smGet {} d.sec.auth n).key = (smGet {} s.dev.sec.auth n).key) ∧ Recorded Code.authKeyChanged [slot, path] s.dev d ∧
      Answered path s.dev d ∧ (pathState path d).grant = none ∧ d.sec.keys = s.dev.sec.keys ∧ OnlyLedgers [7, 8] s.dev d ∧
      OnlyObjs ([Obj.dictionaryRequests] ++ asideObjs) s.dev d ∧ d.media = s.dev.media ∧ d.ctl = s.dev.ctl) ∧
  (∀ (s : State) (path : Nat) (chunk : List Byte) (out : StoreOutcome), 1 ≤ path → path ≤ 5 → s.dev.ctl.mode = .m2 →
    1 ≤ chunk.length → chunk.length ≤ 4096 → s.dev.cs.recHeld - out.drained + chunk.length ≤ 65536 → out.failures = [] →
    (getObj Obj.recoveryOffset s.dev = 0 ∧ s.dev.cs.recPath = 0 ∨ getObj Obj.recoveryOffset s.dev ≠ 0 ∧ s.dev.cs.recPath = path ∧
      ∀ p ∈ s.dev.cs.recPieces, piecesMeet { offset := getObj Obj.recoveryOffset s.dev, bytes := chunk.length } p = false) →
    Does (.recoveryChunk path chunk out) s fun d =>
      d.cs.recPath = path ∧ d.cs.recHeld = s.dev.cs.recHeld - out.drained + chunk.length ∧
      d.cs.recPieces.head? = some { offset := getObj Obj.recoveryOffset s.dev, bytes := chunk.length } ∧
      (getObj Obj.recoveryOffset s.dev ≠ 0 → d.cs.recPieces.tail = s.dev.cs.recPieces) ∧
      (∀ code x, out.header = some (code, x) → getObj Obj.recoveryOffset s.dev = 0 → d.cs.recCode = code ∧ d.cs.recComp = x ∧
        (1 ≤ code → code ≤ 4 → smGet {} (fwSlot (getObj Obj.recoveryTargetSlot s.dev) d).comps code = {})) ∧
      getObj Obj.recoveryOffset d = (getObj Obj.recoveryOffset s.dev + 4096) % 2 ^ 32 ∧ Answered path s.dev d ∧
      OnlyObjs [Obj.recoveryOffset, Obj.recoveryBytesWritten, Obj.dictionaryRequests] s.dev d ∧ OnlyLedgers [] s.dev d ∧
      d.ctl = s.dev.ctl ∧ d.media = s.dev.media ∧ d.sec = s.dev.sec) ∧
  (∀ (s : State) (path : Nat), 1 ≤ path → path ≤ 5 → s.dev.ctl.mode = .m2 → (recoveryComplete path s.dev).2 = true → s.dev.cs.recCode ≠ 5 →
    getObj Obj.recoveryTargetSlot s.dev ∈ [1, 2] → WriterOpen s.dev → Does (.recoveryCommitReplace path) s fun d =>
      smGet {} (fwSlot (getObj Obj.recoveryTargetSlot s.dev) d).comps s.dev.cs.recCode = { s.dev.cs.recComp with present := true } ∧
      Recorded Code.firmwareCommitted [getObj Obj.recoveryTargetSlot s.dev, s.dev.cs.recCode, s.dev.cs.recComp.version] s.dev d ∧
      d.cs.recPath = 0 ∧ d.cs.recPieces = [] ∧ d.cs.nextSlot = s.dev.cs.nextSlot ∧ d.ctl = s.dev.ctl ∧ Answered path s.dev d ∧
      OnlyObjs ([Obj.dictionaryRequests] ++ asideObjs) s.dev d ∧ d.media = s.dev.media ∧ d.sec = s.dev.sec) ∧
  (∀ (s : State) (path : Nat), 1 ≤ path → path ≤ 5 → s.dev.ctl.mode = .m2 → (recoveryComplete path s.dev).2 = true →
    Does (.recoveryCommitActivate path) s fun d => d.ctl.mode = .m1 ∧ d.cs.nextSlot = getObj Obj.recoveryTargetSlot s.dev ∧
      d.cs.attempts = 0 ∧ (pathState path d).abort = none) ∧
  (∀ (s : State) (path : Nat), 1 ≤ path → path ≤ 5 → s.dev.ctl.mode = .m2 →
    (fwSlot (getObj Obj.recoveryTargetSlot s.dev) s.dev).holds = true →
    Does (.recoveryCommitSelect path) s fun d => d.ctl.mode = .m1 ∧ d.cs.nextSlot = getObj Obj.recoveryTargetSlot s.dev ∧
      d.cs.attempts = 0 ∧ d.cs.slot1 = s.dev.cs.slot1 ∧ d.cs.slot2 = s.dev.cs.slot2 ∧ (pathState path d).abort = none)

/-! ### The logbook (spec/19) -/

/-- R557, R564 to R568, R580: a flush that is due brings every ring record onto the medium, in order, and waits where it finds no buffers; the verified ceiling entry is in force and
lets the waiting record in; each step of 1/16 hour is counted in the counter images. -/
def Obligations.LogbookFlushesAndCounts : Prop :=
  (∀ s : State, s.dev.log.flushDue = true → logFlushPossible s.dev = true →
    (poolsActive s.dev = true → poolWaits 0x09 3 s.dev = false ∧ grantOk 3 0x09 (flushBuffers s.dev) s.dev = true) →
    s.dev.log.lostCount = 0 → s.dev.log.ring.length ≤ 4096 →
    s.dev.log.frames.length ≤ 32000 → (flashRecords s.dev).length + 4096 ≤ 1048576 → Does .logbookFlush s fun d =>
      (∀ e ∈ d.log.ring, e.persisted = true) ∧ ringRecords d = ringRecords s.dev ∧
      flashRecords d = flashRecords s.dev ++ (s.dev.log.ring.filter fun e => !e.persisted).map (·.entry) ∧
      (∀ f ∈ d.log.frames.drop s.dev.log.frames.length, f.records.length ≤ 63) ∧ d.log.flushDue = false ∧
      getObj Obj.logbookFlushes d = (getObj Obj.logbookFlushes s.dev + 1) % objModulus Obj.logbookFlushes ∧
      OnlyObjs (Obj.logbookFlushes :: frameObjs) s.dev d ∧ OnlyLedgers [5] s.dev d ∧ FramesOnly s.dev d ∧
      d = { s.dev with objs := d.objs, media := d.media, free := d.free, ledgers := d.ledgers, res := d.res,
                       log := { s.dev.log with ring := d.log.ring, frames := d.log.frames, newest := d.log.newest, flushDue := false } }) ∧
  (∀ s : State, s.dev.log.flushDue = false ∨ logFlushPossible s.dev = false ∨ poolsActive s.dev = true ∧ poolWaits 0x09 3 s.dev = true →
    Idle .logbookFlush s) ∧
  (∀ s : State, s.dev.log.flushDue = true → logFlushPossible s.dev = true → poolsActive s.dev = true → poolWaits 0x09 3 s.dev = false →
    grantOk 3 0x09 (flushBuffers s.dev) s.dev = false → Does .logbookFlush s fun d =>
      poolWaits 0x09 3 d = true ∧ (ledger 3 d).refused = ((ledger 3 s.dev).refused + 1) % 2 ^ 64 ∧ OnlyLedgers [3] s.dev d ∧
      ledger 3 d = { ledger 3 s.dev with refused := (ledger 3 d).refused } ∧
      d = { s.dev with ledgers := d.ledgers, res := { s.dev.res with poolEmpty := d.res.poolEmpty, waits := d.res.waits } }) ∧
  (∀ (s : State) (c : Nat), s.dev.log.raising = some c → s.dev.log.waiting = [] → Does .ceilingEntryVerified s fun d =>
    d = { s.dev with log := { s.dev.log with ceiling := c, raising := none } }) ∧
  (∀ (s : State) (c code : Nat) (snaps : List Nat), s.dev.log.raising = some c → s.dev.log.waiting = [(code, snaps)] →
    s.dev.log.nextSeq ≠ c → Does .ceilingEntryVerified s fun d =>
      d.log.ceiling = c ∧ d.log.waiting = [] ∧ Recorded code snaps s.dev d ∧
      Aside { s.dev with log := { s.dev.log with ceiling := c, raising := none, waiting := [] } } d) ∧
  (∀ s : State, s.dev.ctl.mode ≠ .m0 → s.dev.ctl.porReleased = true → s.dev.log.runStarted = true → Does .operatingHourTick s fun d =>
    hours d = (hours s.dev + 1) % 2 ^ 32 ∧
    d.cs.counters = { hours := hours d, cycles := getObj Obj.powerCycleCount s.dev, ceiling := s.dev.cs.counters.ceiling } ∧
    OnlyObjs [Obj.operatingHours] s.dev d ∧
    d = { s.dev with objs := d.objs, cs := { s.dev.cs with counters := d.cs.counters, logs := d.cs.logs, eraseCounts := d.cs.eraseCounts } })

/-! ### The expansion-bus endpoint (spec/11) -/

/-- R325, R339, R344 to R350: a link comes up at its rate and width; a link down, a hot reset and a Function Level Reset reset the port's
controller, drop its commands and are recorded; the power states, PME_Turn_Off, WAKE_N, ASPM L1 and Bus Master Enable act on their port alone. -/
def Obligations.LinksChangeState : Prop :=
  (∀ (s : State) (p : Port) (rate width : Nat), (port p.val s.dev).linkUp = false → linkMode s.dev.ctl.mode = true → p.val < portCount s.dev →
    1 ≤ rate → rate ≤ (if s.dev.ctl.mode = .m2 then 3 else getObj Obj.maxLinkSpeedCode s.dev) → 1 ≤ width →
    width ≤ (if s.dev.ctl.mode = .m2 then 8 else configuredWidth s.dev) → Does (.linkUp p rate width) s fun d =>
      (port p.val d).linkUp = true ∧ (port p.val d).wakeMs = none ∧ getObj (Obj.portLinkSpeed p.val) d = rate ∧
      getObj (Obj.portLinkWidth p.val) d = width ∧ getObj (Obj.portPowerState p.val) d = 0x00 ∧
      getObj (Obj.portLinkState p.val) d =
        (if getObj Obj.maxLinkSpeedCode s.dev = 0x05 ∧ (rate < 5 ∨ width < configuredWidth s.dev) then 0x03 else 0x02) ∧
      OnlyObjs ([Obj.portLinkSpeed p.val, Obj.portLinkWidth p.val, Obj.portPowerState p.val] ++ asideObjs) s.dev d ∧
      Aside (updPort p.val (fun t => { t with linkUp := true, wakeMs := none }) { s.dev with objs := d.objs }) d) ∧
  (∀ (s : State) (p : Port) (found : Bool), (port p.val s.dev).linkUp = false → linkMode s.dev.ctl.mode = true → p.val < portCount s.dev →
    Does (.linkDetectRetry p found) s fun d =>
      getObj (Obj.portLinkState p.val) d = (if found = true then 0x01 else 0x00) ∧
      port p.val d = { port p.val s.dev with wakeMs := if found = true then none else (port p.val s.dev).wakeMs } ∧
      OnlyPorts [p.val] s.dev d ∧ OnlyObjs [Obj.portLinkState p.val] s.dev d ∧ d = { s.dev with objs := d.objs, ports := d.ports }) ∧
  (∀ (s : State) (p : Port) (c : Instr) (code count : Nat), (port p.val s.dev).linkUp = true → WriterOpen s.dev → PoolsHold s.dev →
    (c = .linkDown p ∧ code = Code.pcieLinkDown ∧ count = Obj.portLinkDownCount p.val ∨
      c = .hotReset p ∧ code = Code.pcieHotReset ∧ count = Obj.portHotResets p.val) → Does c s fun d =>
      (port p.val d).linkUp = false ∧ (port p.val d).bme = false ∧ (port p.val d).rdy = false ∧ (port p.val d).sqs = [] ∧
      (port p.val d).cqs = [] ∧ (port p.val d).cc = 0 ∧ getObj (Obj.portLinkState p.val) d = 0x00 ∧
      getObj (Obj.portLinkSpeed p.val) d = 0 ∧ getObj (Obj.portLinkWidth p.val) d = 0 ∧ getObj (Obj.portPowerState p.val) d = 0xFF ∧
      getObj count d = (getObj count s.dev + 1) % objModulus count ∧
      Recorded code [p.val, droppedCommands p.val s.dev, carriedWrites p.val s.dev] s.dev d ∧
      (∀ r ∈ d.media.wp.reads, r.port ≠ p.val) ∧ (∀ w ∈ d.media.wp.writes, w.port = p.val → w.landed = true ∧ w.dropped = true) ∧
      (∀ i ∈ d.held ++ d.delayed, ofPort p.val i = false) ∧ (pathState (p.val + 1) d).challenges = [] ∧ (pathState (p.val + 1) d).grant = none ∧
      (∀ q, q ≠ p.val → (port q d).linkUp = (port q s.dev).linkUp ∧ (port q d).rdy = (port q s.dev).rdy ∧ (port q d).sqs = (port q s.dev).sqs) ∧
      d.ctl = s.dev.ctl ∧ d.sec = s.dev.sec ∧ d.media.map = s.dev.media.map ∧ d.media.stored = s.dev.media.stored) ∧
  (∀ (s : State) (p : Port), configReady p.val s.dev = true → WriterOpen s.dev → PoolsHold s.dev →
    Does (.functionLevelReset p) s fun d =>
      (port p.val d).linkUp = true ∧ (port p.val d).bme = false ∧ (port p.val d).rdy = false ∧ (port p.val d).sqs = [] ∧
      (port p.val d).cqs = [] ∧ (port p.val d).flrMs = some (nowMs s.dev) ∧ getObj (Obj.portPowerState p.val) d = 0x00 ∧
      getObj (Obj.portFlrs p.val) d = (getObj (Obj.portFlrs p.val) s.dev + 1) % objModulus (Obj.portFlrs p.val) ∧
      Recorded Code.pcieFlr [p.val, droppedCommands p.val s.dev, carriedWrites p.val s.dev] s.dev d ∧
      (∀ r ∈ d.media.wp.reads, r.port ≠ p.val) ∧
      (∀ q, q ≠ p.val → (port q d).linkUp = (port q s.dev).linkUp ∧ (port q d).rdy = (port q s.dev).rdy ∧ (port q d).sqs = (port q s.dev).sqs) ∧
      d.ctl = s.dev.ctl ∧ d.sec = s.dev.sec ∧ d.media.map = s.dev.media.map ∧ d.media.stored = s.dev.media.stored) ∧
  (∀ (s : State) (p : Port) (value : Nat), configReady p.val s.dev = true → value % 4 = 0 ∨ value % 4 = 3 →
    (port p.val s.dev).held = [] ∨ value % 4 = 3 → Does (.powerStateWrite p value) s fun d =>
      getObj (Obj.portPowerState p.val) d = (if value % 4 = 3 then 0x03 else 0x00) ∧
      port p.val d = { port p.val s.dev with pmeEn := bitOf value 8
                                             pmeStatus := (port p.val s.dev).pmeStatus && !bitOf value 15 } ∧
      OnlyPorts [p.val] s.dev d ∧ OnlyObjs [Obj.portPowerState p.val, Obj.portLinkState p.val] s.dev d ∧
      d = { s.dev with objs := d.objs, ports := d.ports }) ∧
  (∀ (s : State) (p : Port), (port p.val s.dev).linkUp = true → Does (.pmeTurnOff p) s fun d =>
    getObj (Obj.portLinkState p.val) d = 0x05 ∧ OnlyObjs [Obj.portLinkState p.val] s.dev d ∧ d = { s.dev with objs := d.objs }) ∧
  (∀ (s : State) (p : Port) (t : Nat), (port p.val s.dev).wakeMs = some t → t + 10000 ≤ nowMs s.dev → Does (.wakeNRelease p) s fun d =>
    port p.val d = { port p.val s.dev with wakeMs := none } ∧ OnlyPorts [p.val] s.dev d ∧ d = { s.dev with ports := d.ports }) ∧
  (∀ (s : State) (p : Port) (idle : Nat), (port p.val s.dev).cfg.aspmL1 = true → getObj Obj.aspmIdleUs s.dev ≤ idle →
    getObj (Obj.portLinkState p.val) s.dev ∈ [0x02, 0x03] → Does (.aspmL1Entry p idle) s fun d =>
      getObj (Obj.portLinkState p.val) d = 0x04 ∧ OnlyObjs [Obj.portLinkState p.val] s.dev d ∧ d = { s.dev with objs := d.objs }) ∧
  (∀ (s : State) (p : Port) (bme : Bool) (cfg : PortConfig) (clearU clearC : Nat), configReady p.val s.dev = true →
    bme = false ∨ (port p.val s.dev).held = [] → Does (.busMasterEnable p bme cfg clearU clearC) s fun d =>
      (port p.val d).bme = bme ∧ (port p.val d).cfg = cfg ∧
      (∀ k, k < 32 → bitOf (port p.val d).aerUncorrectable k =
        (bitOf ((port p.val s.dev).aerUncorrectable % 2 ^ 32) k && !bitOf (clearU % 2 ^ 32) k)) ∧
      (port p.val d).sqs = (port p.val s.dev).sqs ∧ (port p.val d).cqs = (port p.val s.dev).cqs ∧ (port p.val d).held = (port p.val s.dev).held ∧
      OnlyPorts [p.val] s.dev d ∧ OnlyObjs [Obj.portLinkState p.val] s.dev d ∧ d = { s.dev with objs := d.objs, ports := d.ports })

/-- R331, R333 to R335, R339 to R341, R370: an unmasked vector is signalled where a queue of it holds entries; an error is counted and logged in
the port's status bits, and a named host memory read that fails ends its command; vital product data is read four bytes at a time and never
written; the coalescing time signals what is posted. The status bits of R341 are those the model takes from the PCI Express base specification
(notes/assumptions/43.md). -/
def Obligations.ErrorsAndInterruptsAreSignalled : Prop :=
  (∀ (s : State) (p : Port) (v : Nat), configReady p.val s.dev = true → (port p.val s.dev).msixEnable = true →
    (port p.val s.dev).functionMask = false → v ∈ (port p.val s.dev).pendingVec →
    ((port p.val s.dev).cqs.any fun q => queueDue q.2 && q.2.vector = v) = true → Does (.msixUnmask p (some v)) s fun d =>
      port p.val d = { port p.val s.dev with
        masked := (port p.val s.dev).masked.filter (· != v), pendingVec := (port p.val s.dev).pendingVec.erase v
        messages := v :: (port p.val s.dev).messages } ∧
      OnlyPorts [p.val] s.dev d ∧ OnlyObjs [Obj.portLinkState p.val] s.dev d ∧ d = { s.dev with objs := d.objs, ports := d.ports }) ∧
  (∀ (s : State) (p : Port), configReady p.val s.dev = true → (port p.val s.dev).msixEnable = true → Does (.msixUnmask p none) s fun d =>
    (port p.val d).functionMask = false ∧ (port p.val d).masked = (port p.val s.dev).masked ∧
    (∀ v ∈ (port p.val d).pendingVec, v ∈ (port p.val s.dev).pendingVec) ∧
    ((port p.val s.dev).pendingVec.Nodup → ∀ v ∈ (port p.val s.dev).pendingVec, v ∉ (port p.val s.dev).masked →
      v ∉ (port p.val d).pendingVec ∧
      (((port p.val s.dev).cqs.any fun q => queueDue q.2 && q.2.vector = v) = true → v ∈ (port p.val d).messages)) ∧
    OnlyPorts [p.val] s.dev d ∧ OnlyObjs [Obj.portLinkState p.val] s.dev d ∧ d = { s.dev with objs := d.objs, ports := d.ports }) ∧
  (∀ (s : State) (p : Port) (msix functionMask msi : Bool) (multiple : Nat) (masked : List Nat), configReady p.val s.dev = true →
    Does (.msiEnable p msix functionMask msi multiple masked) s fun d =>
      (port p.val d).msixEnable = msix ∧ (port p.val d).functionMask = functionMask ∧ (port p.val d).msiEnable = msi ∧
      (port p.val d).msiVectors = 2 ^ min 5 multiple ∧ (port p.val d).masked = masked ∧
      ((port p.val s.dev).msixEnable = true ∨ (port p.val s.dev).msiEnable = true ∨ msix = false ∧ msi = false →
        (port p.val d).messages = (port p.val s.dev).messages ∧ (port p.val d).pendingVec = (port p.val s.dev).pendingVec) ∧
      ((port p.val s.dev).msixEnable = false → (port p.val s.dev).msiEnable = false → msix = true → functionMask = false →
        ∀ q ∈ (port p.val s.dev).cqs, queueDue q.2 = true → q.2.vector ∉ masked → q.2.vector ∈ (port p.val d).messages) ∧
      (port p.val d).sqs = (port p.val s.dev).sqs ∧ (port p.val d).cqs = (port p.val s.dev).cqs ∧
      OnlyPorts [p.val] s.dev d ∧ OnlyObjs [Obj.portLinkState p.val] s.dev d ∧ d = { s.dev with objs := d.objs, ports := d.ports }) ∧
  (∀ (s : State) (p : Port) (e : PcieError) (header b : Nat) (cmd : Option (Nat × Nat)), (port p.val s.dev).linkUp = true →
    errorBit e = some (true, b) → Does (.tlpError p e header cmd) s fun d =>
      getObj (Obj.portCorrectableErrors p.val) d =
        (getObj (Obj.portCorrectableErrors p.val) s.dev + 1) % objModulus (Obj.portCorrectableErrors p.val) ∧
      port p.val d = { port p.val s.dev with aerCorrectable := setBit (port p.val s.dev).aerCorrectable b true } ∧
      OnlyPorts [p.val] s.dev d ∧ OnlyObjs [Obj.portCorrectableErrors p.val] s.dev d ∧ d = { s.dev with objs := d.objs, ports := d.ports }) ∧
  (∀ (s : State) (p : Port) (e : PcieError) (header b : Nat) (c : Instr) (elapsed : Nat), (port p.val s.dev).linkUp = true →
    (errorBit e = some (false, b) ∧ c = .tlpError p e header none ∨
      b = 14 ∧ (port p.val s.dev).cfg.timeoutDisable = false ∧
        completionTimeoutUs (port p.val s.dev).cfg.completionTimeout ≤ elapsed ∧ c = .completionTimeout p elapsed header none) →
    Does c s fun d =>
      getObj (Obj.portUncorrectableErrors p.val) d =
        (getObj (Obj.portUncorrectableErrors p.val) s.dev + 1) % objModulus (Obj.portUncorrectableErrors p.val) ∧
      (port p.val d).aerUncorrectable = setBit (port p.val s.dev).aerUncorrectable b true ∧
      ((port p.val s.dev).aerFirst = none → bitOf (port p.val s.dev).cfg.uncorrectableMask b = false →
        (port p.val d).aerFirst = some b ∧ (port p.val d).aerHeader = header) ∧
      ((port p.val s.dev).aerFirst ≠ none → (port p.val d).aerFirst = (port p.val s.dev).aerFirst ∧
        (port p.val d).aerHeader = (port p.val s.dev).aerHeader) ∧
      (WriterOpen s.dev → (∀ m, (port p.val s.dev).uncorrMs = some m → m + 1000 ≤ nowMs s.dev) →
        Recorded Code.pcieUncorrectable [p.val, (port p.val d).aerUncorrectable, header] s.dev d) ∧
      OnlyObjs ([Obj.portUncorrectableErrors p.val] ++ asideObjs) s.dev d ∧
      Aside { s.dev with objs := d.objs, ports := d.ports } d ∧ (port p.val d).sqs = (port p.val s.dev).sqs) ∧
  (∀ (s : State) (p : Port) (r : ReadCmd) (header : Nat), (port p.val s.dev).linkUp = true → r ∈ s.dev.media.wp.reads → r.port = p.val →
    (∀ x ∈ s.dev.media.wp.reads, x.port = r.port → x.sqid = r.sqid → x.cid = r.cid → x = r) → r.verify = false →
    (∀ w ∈ s.dev.media.wp.writes, ¬ (w.port = r.port ∧ w.sqid = r.sqid ∧ w.cid = r.cid)) → RoomFor r.host s.dev → PoolsHold s.dev →
    Does (.tlpError p .completionRefused header (some (r.sqid, r.cid))) s fun d =>
      Completes r.host (fun e => e.sct = 0 ∧ e.sc = 0x04) s.dev d ∧ (∀ x ∈ d.media.wp.reads, x.id ≠ r.id) ∧
      d.media.wp.writes = s.dev.media.wp.writes ∧ d.media.flight = s.dev.media.flight ∧
      OnlyObjs ([Obj.hoistDescriptorsFailed, Obj.portHostMemoryFaults p.val, Obj.hoistCommandsMoved, Obj.hoistBytesToHost]
        ++ (List.range 4).map Obj.commandsFailed ++ asideObjs) s.dev d ∧ d.ctl = s.dev.ctl) ∧
  (∀ (s : State) (p : Port) (r : ReadCmd), (port p.val s.dev).linkUp = true → (port p.val s.dev).bme = false → r ∈ s.dev.media.wp.reads →
    r.port = p.val → (∀ x ∈ s.dev.media.wp.reads, x.port = r.port → x.sqid = r.sqid → x.cid = r.cid → x = r) → r.verify = false →
    (∀ w ∈ s.dev.media.wp.writes, ¬ (w.port = r.port ∧ w.sqid = r.sqid ∧ w.cid = r.cid)) → PoolsHold s.dev →
    Does (.busMasterHoldTimeout p r.sqid r.cid) s fun d =>
      (∃ e ∈ (port p.val d).held.drop (port p.val s.dev).held.length, e.sqid = r.sqid ∧ e.cid = r.cid ∧ e.sct = 0 ∧ e.sc = 0x04) ∧
      (∀ x ∈ d.media.wp.reads, x.id ≠ r.id) ∧ d.media.wp.writes = s.dev.media.wp.writes ∧
      OnlyObjs ([Obj.hoistDescriptorsFailed, Obj.portHostMemoryFaults p.val, Obj.hoistCommandsMoved, Obj.hoistBytesToHost]
        ++ (List.range 4).map Obj.commandsFailed ++ asideObjs) s.dev d ∧
      (∀ q, q ≠ p.val → (port q d).linkUp = (port q s.dev).linkUp ∧ (port q d).sqs = (port q s.dev).sqs ∧ (port q d).bme = (port q s.dev).bme)) ∧
  (∀ (s : State) (p : Port) (address : Nat), configReady p.val s.dev = true → Does (.vpdRead p address) s fun d =>
    port p.val d = { port p.val s.dev with
      vpdAddr := address, vpdFlag := true, vpdData := ofLe ((s.dev.cs.oa.inUse.vpd.drop address).take 4) } ∧
    OnlyPorts [p.val] s.dev d ∧ OnlyObjs [Obj.portLinkState p.val] s.dev d ∧ d = { s.dev with objs := d.objs, ports := d.ports }) ∧
  (∀ (s : State) (p : Port) (address : Nat), configReady p.val s.dev = true → Does (.vpdWrite p address) s fun d =>
    port p.val d = { port p.val s.dev with vpdAddr := address, vpdFlag := false } ∧
    OnlyPorts [p.val] s.dev d ∧ OnlyObjs [Obj.portLinkState p.val] s.dev d ∧ d = { s.dev with objs := d.objs, ports := d.ports }) ∧
  (∀ (s : State) (p : Port) (cq : Nat), queueDue (smGet {} (port p.val s.dev).cqs cq) = true →
    (smGet {} (port p.val s.dev).cqs cq).coalesced ≠ 0 → coalesces (port p.val s.dev) (smGet {} (port p.val s.dev).cqs cq).vector = true →
    (port p.val s.dev).msixEnable = true → Does (.interruptCoalescingTime p cq) s fun d =>
      smGet {} (port p.val d).cqs cq = { smGet {} (port p.val s.dev).cqs cq with coalesced := 0 } ∧
      (∀ k, k ≠ cq → smGet {} (port p.val d).cqs k = smGet {} (port p.val s.dev).cqs k) ∧
      (if (port p.val s.dev).functionMask = true ∨ (smGet {} (port p.val s.dev).cqs cq).vector ∈ (port p.val s.dev).masked
        then (smGet {} (port p.val s.dev).cqs cq).vector ∈ (port p.val d).pendingVec ∧ (port p.val d).messages = (port p.val s.dev).messages
        else (port p.val d).messages = (smGet {} (port p.val s.dev).cqs cq).vector :: (port p.val s.dev).messages) ∧
      OnlyPorts [p.val] s.dev d ∧ d = { s.dev with ports := d.ports })

/-! ### The NVMe controllers (spec/12, spec/02) -/

/-- R48, R49, R357, R358, R361, R365: enabling an accepted configuration creates the admin queues, a disable resets the controller; a shutdown
notification starts its processing and the end of the processing is reported; a doorbell write moves a tail or a head, and an invalid one has
no other effect than its event; an expired Keep Alive Timer is fatal to the controller. -/
def Obligations.ControllersStartAndStop : Prop :=
  (∀ (s : State) (p : Port) (cc aqa : Nat), memoryReady p.val s.dev = true → enabled (port p.val s.dev) = false → ccAccepted cc aqa = true →
    Does (.controllerEnable p cc aqa) s fun d =>
      enabled (port p.val d) = true ∧ (port p.val d).rdy = readyMode s.dev ∧
      smGet {} (port p.val d).sqs 0 = { live := true, size := aqa % 4096 + 1 } ∧
      smGet {} (port p.val d).cqs 0 = { live := true, size := aqa / 65536 % 4096 + 1 } ∧
      (∀ k, k ≠ 0 → smGet {} (port p.val d).sqs k = smGet {} (port p.val s.dev).sqs k ∧
        smGet {} (port p.val d).cqs k = smGet {} (port p.val s.dev).cqs k) ∧
      OnlyPorts [p.val] s.dev d ∧ OnlyObjs [Obj.portLinkState p.val] s.dev d ∧ d = { s.dev with objs := d.objs, ports := d.ports }) ∧
  (∀ (s : State) (p : Port) (cc aqa : Nat), memoryReady p.val s.dev = true → enabled (port p.val s.dev) = false → ccAccepted cc aqa = false →
    WriterOpen s.dev → Does (.controllerEnable p cc aqa) s fun d =>
      (port p.val d).rdy = (port p.val s.dev).rdy ∧ (port p.val d).sqs = (port p.val s.dev).sqs ∧ (port p.val d).ccBad = true ∧
      Recorded Code.nvmeCcInvalid [p.val, setBit cc 0 true % 2 ^ 32] s.dev d ∧ OnlyObjs asideObjs s.dev d ∧ d.media = s.dev.media ∧
      d.sec = s.dev.sec ∧ d.ctl = s.dev.ctl) ∧
  (∀ (s : State) (p : Port), memoryReady p.val s.dev = true → enabled (port p.val s.dev) = true → PoolsHold s.dev →
    Does (.controllerDisable p) s fun d =>
      (port p.val d).rdy = false ∧ enabled (port p.val d) = false ∧ (port p.val d).sqs = [] ∧ (port p.val d).cqs = [] ∧
      (port p.val d).aers = [] ∧ (port p.val d).notified = false ∧ (port p.val d).linkUp = true ∧
      (port p.val d).bme = (port p.val s.dev).bme ∧ (port p.val d).cfg = (port p.val s.dev).cfg ∧
      (∀ r ∈ d.media.wp.reads, r.port ≠ p.val) ∧ (∀ w ∈ d.media.wp.writes, w.port = p.val → w.landed = true ∧ w.dropped = true) ∧
      (∀ i ∈ d.held ++ d.delayed, ofPort p.val i = false) ∧ 
      (∀ q, q ≠ p.val → (port q d).sqs = (port q s.dev).sqs ∧ (port q d).rdy = (port q s.dev).rdy ∧ (port q d).bme = (port q s.dev).bme) ∧
      OnlyObjs ([Obj.hoistCommandsMoved, Obj.hoistBytesToHost] ++ (List.range 4).map Obj.commandsFailed
        ++ (List.range 4).map Obj.portLinkState) s.dev d ∧
      OnlyLedgers [2, 4, 8] s.dev d ∧ d.log = s.dev.log ∧ d.ctl = s.dev.ctl ∧ d.sec = s.dev.sec ∧ d.media.map = s.dev.media.map) ∧
  (∀ (s : State) (p : Port), memoryReady p.val s.dev = true → s.dev.ctl.mode ∈ [Mode.m5, .m6] → higherDue s.dev = false →
    Does (.shutdownNotification p) s fun d =>
    d.ctl.mode = .m7 ∧ (port p.val d).shst = 1 ∧
    ((port p.val s.dev).notified = false → (port p.val d).before = queued (port p.val s.dev)) ∧ (port p.val d).notified = true ∧ d.sub.shutdownRunning = true ∧
    d.media.map.checkpoint.isSome = true ∧ d.media.stored = s.dev.media.stored ∧ d.media.map.entries = s.dev.media.map.entries ∧
    d.sec = s.dev.sec ∧ d.cs = { s.dev.cs with counters := d.cs.counters, logs := d.cs.logs, eraseCounts := d.cs.eraseCounts }) ∧
  (∀ (s : State) (p : Port), memoryReady p.val s.dev = true → s.dev.ctl.mode ∈ [Mode.m3, .m10] → Does (.shutdownNotification p) s fun d =>
    port p.val d = { port p.val s.dev with
      notified := true, shst := 2, before := if (port p.val s.dev).notified = true then (port p.val s.dev).before else queued (port p.val s.dev) } ∧
    OnlyPorts [p.val] s.dev d ∧
    OnlyObjs [Obj.portLinkState p.val] s.dev d ∧ d = { s.dev with objs := d.objs, ports := d.ports }) ∧
  (∀ (s : State) (p : Port), memoryReady p.val s.dev = true → s.dev.ctl.mode ∈ [Mode.m4, .m8] → Does (.shutdownNotification p) s fun d =>
    port p.val d = { port p.val s.dev with
      notified := true, shst := 1, shutWaiting := true
      before := if (port p.val s.dev).notified = true then (port p.val s.dev).before else queued (port p.val s.dev) } ∧ OnlyPorts [p.val] s.dev d ∧
    OnlyObjs [Obj.portLinkState p.val] s.dev d ∧ d = { s.dev with objs := d.objs, ports := d.ports }) ∧
  (∀ s : State, s.dev.ctl.mode = .m7 → s.dev.sub.shutdownRunning = true → shutdownDone s.dev = true → s.dev.media.evac = none →
    Does .shutdownProcessingComplete s fun d =>
      d.ctl.mode ∈ [Mode.m5, .m6] ∧ d.sub.shutdownRunning = false ∧
      (∀ p, p < 4 → (port p d).shst = (if (port p s.dev).shst = 1 then 2 else (port p s.dev).shst)) ∧
      (∀ p, p < 4 → (port p d).sqs = (port p s.dev).sqs ∧ (port p d).notified = (port p s.dev).notified) ∧
      d.media.stored = s.dev.media.stored ∧ d.media.map = s.dev.media.map ∧ d.sec = s.dev.sec) ∧
  (∀ (s : State) (p : Port) (sq tail : Nat), memoryReady p.val s.dev = true → enabled (port p.val s.dev) = true →
    (smGet {} (port p.val s.dev).sqs sq).live = true → tail < (smGet {} (port p.val s.dev).sqs sq).size →
    Does (.sqTailDoorbell p sq tail) s fun d =>
      smGet {} (port p.val d).sqs sq = { smGet {} (port p.val s.dev).sqs sq with tail := tail } ∧
      (∀ k, k ≠ sq → smGet {} (port p.val d).sqs k = smGet {} (port p.val s.dev).sqs k) ∧
      port p.val d = { port p.val s.dev with sqs := (port p.val d).sqs } ∧
      OnlyPorts [p.val] s.dev d ∧ OnlyObjs [Obj.portLinkState p.val] s.dev d ∧ d = { s.dev with objs := d.objs, ports := d.ports }) ∧
  (∀ (s : State) (p : Port) (cq head : Nat), memoryReady p.val s.dev = true → enabled (port p.val s.dev) = true →
    ∀ q, q = smGet {} (port p.val s.dev).cqs cq → q.live = true → head < q.size → q.waiting = [] →
    ∀ n, n = (head + q.size - q.head) % q.size → n ≤ q.posted.length → Does (.cqHeadDoorbell p cq head) s fun d =>
      smGet {} (port p.val d).cqs cq = { q with head := head, posted := q.posted.drop n } ∧
      (∀ k, k ≠ cq → smGet {} (port p.val d).cqs k = smGet {} (port p.val s.dev).cqs k) ∧
      port p.val d = { port p.val s.dev with cqs := (port p.val d).cqs } ∧
      OnlyPorts [p.val] s.dev d ∧ OnlyObjs [Obj.portLinkState p.val] s.dev d ∧ d = { s.dev with objs := d.objs, ports := d.ports }) ∧
  (∀ (s : State) (p : Port) (c : Instr) (q v : Nat), memoryReady p.val s.dev = true → enabled (port p.val s.dev) = true →
    (c = .sqTailDoorbell p q v ∧ ((smGet {} (port p.val s.dev).sqs q).live = false ∨ (smGet {} (port p.val s.dev).sqs q).size ≤ v) ∨
      c = .cqHeadDoorbell p q v ∧ ((smGet {} (port p.val s.dev).cqs q).live = false ∨ (smGet {} (port p.val s.dev).cqs q).size ≤ v ∨
        (smGet {} (port p.val s.dev).cqs q).posted.length <
          (v + (smGet {} (port p.val s.dev).cqs q).size - (smGet {} (port p.val s.dev).cqs q).head) % (smGet {} (port p.val s.dev).cqs q).size)) →
    Does c s fun d => Aside s.dev d ∧ d.log = s.dev.log ∧ d.can = s.dev.can ∧ OnlyPorts [p.val] s.dev d ∧
      ((port p.val s.dev).aers = [] → (port p.val d).cqs = (port p.val s.dev).cqs) ∧
      ((port p.val s.dev).aers = [] → (port p.val s.dev).eventsMasked = [] →
        ({ typ := 0, info := 0x01, page := 0x01 } : AsyncEvent) ∈ (port p.val d).events)) ∧
  (∀ (s : State) (p : Port) (kato : Nat), (port p.val s.dev).rdy = true → (port p.val s.dev).cfs = false →
    smGet none (port p.val s.dev).features 0x0F = some kato → kato ≠ 0 → (port p.val s.dev).lastAdminMs + kato ≤ nowMs s.dev →
    PoolsHold s.dev → WriterOpen s.dev → Does (.keepAliveExpired p) s fun d =>
      (port p.val d).cfs = true ∧ Recorded Code.nvmeKeepAliveExpired [p.val, kato] s.dev d ∧
      getObj (Obj.keepAliveExpiries p.val) d = (getObj (Obj.keepAliveExpiries p.val) s.dev + 1) % objModulus (Obj.keepAliveExpiries p.val) ∧
      (∀ r ∈ d.media.wp.reads, r.port ≠ p.val) ∧ (∀ i ∈ d.held ++ d.delayed, ofPort p.val i = false) ∧
      OnlyObjs ([Obj.keepAliveExpiries p.val, Obj.hoistCommandsMoved, Obj.hoistBytesToHost] ++ (List.range 4).map Obj.commandsFailed
        ++ asideObjs) s.dev d ∧ d.ctl = s.dev.ctl ∧ d.sec = s.dev.sec ∧
      d.media.map = s.dev.media.map)

/-- R359, R362, R364, R365, R368, R370, R383, R387: queues are created and deleted, features set and read, pages and data structures returned,
commands that wait aborted, event requests kept for an event, and an unknown opcode refused. -/
def Obligations.AdminCommandsComplete : Prop :=
  (∀ (s : State) (cmd : HostCmd) (qid size cqid : Nat), AdminReady cmd s.dev → s.dev.ctl.mode ∉ [Mode.m2, .m9] →
    (port cmd.port.val s.dev).entrySizeBad = false → 1 ≤ qid → qid ≤ 255 → (smGet {} (port cmd.port.val s.dev).sqs qid).live = false →
    1 ≤ size → size ≤ 4095 → cqid ≠ 0 → (smGet {} (port cmd.port.val s.dev).cqs cqid).live = true →
    Does (.createIoSq cmd qid size cqid true) s fun d =>
      Succeeds cmd 0 s.dev d ∧ smGet {} (port cmd.port.val d).sqs qid = { live := true, size := size + 1, cqid := cqid } ∧
      (∀ k, k ≠ qid → smGet {} (port cmd.port.val d).sqs k = smGet {} (port cmd.port.val (takeEntry cmd.port.val 0 s.dev)).sqs k) ∧
      FetchedOnly cmd (updPort cmd.port.val (fun t => { t with sqs := smSet {} qid { live := true, size := size + 1, cqid := cqid } t.sqs })
        s.dev) d ∧ OnlyPorts [cmd.port.val] s.dev d) ∧
  (∀ (s : State) (cmd : HostCmd) (qid size vector : Nat) (ien : Bool), AdminReady cmd s.dev → s.dev.ctl.mode ∉ [Mode.m2, .m9] →
    (port cmd.port.val s.dev).entrySizeBad = false → 1 ≤ qid → qid ≤ 255 → (smGet {} (port cmd.port.val s.dev).cqs qid).live = false →
    1 ≤ size → size ≤ 4095 → vector ≤ 256 → Does (.createIoCq cmd qid size vector true ien) s fun d =>
      Succeeds cmd 0 s.dev d ∧ smGet {} (port cmd.port.val d).cqs qid = { live := true, size := size + 1, vector := vector, ien := ien } ∧
      (∀ k, k ≠ qid → k ≠ 0 → smGet {} (port cmd.port.val d).cqs k = smGet {} (port cmd.port.val s.dev).cqs k) ∧
      FetchedOnly cmd s.dev d ∧ OnlyPorts [cmd.port.val] s.dev d) ∧
  (∀ (s : State) (cmd : HostCmd) (qid : Nat), AdminReady cmd s.dev → s.dev.ctl.mode ∉ [Mode.m2, .m9] → qid ≠ 0 →
    (smGet {} (port cmd.port.val s.dev).sqs qid).live = true → Does (.deleteIoSq cmd qid) s fun d =>
      Succeeds cmd 0 s.dev d ∧ (smGet {} (port cmd.port.val d).sqs qid).live = false ∧
      (smGet {} (port cmd.port.val d).sqs qid).cqid = (smGet {} (port cmd.port.val s.dev).sqs qid).cqid ∧
      (∀ k, k ≠ qid → smGet {} (port cmd.port.val d).sqs k = smGet {} (port cmd.port.val (takeEntry cmd.port.val 0 s.dev)).sqs k) ∧
      OnlyPorts [cmd.port.val] s.dev d ∧ d.media = s.dev.media) ∧
  (∀ (s : State) (cmd : HostCmd) (qid : Nat), AdminReady cmd s.dev → s.dev.ctl.mode ∉ [Mode.m2, .m9] → qid ≠ 0 →
    (smGet {} (port cmd.port.val s.dev).cqs qid).live = true →
    (∀ q ∈ (port cmd.port.val s.dev).sqs, q.2.live = true → q.2.cqid ≠ qid) → Does (.deleteIoCq cmd qid) s fun d =>
      Succeeds cmd 0 s.dev d ∧ smGet {} (port cmd.port.val d).cqs qid = {} ∧ FetchedOnly cmd s.dev d ∧ OnlyPorts [cmd.port.val] s.dev d) ∧
  (∀ (s : State) (cmd : HostCmd) (fid value data : Nat), AdminReady cmd s.dev → s.dev.ctl.mode ∉ [Mode.m2, .m9] →
    fid ∈ [0x01, 0x06, 0x08, 0x0A, 0x0B] → Does (.setFeatures cmd fid false value data) s fun d =>
      Succeeds cmd 0 s.dev d ∧ smGet none (port cmd.port.val d).features fid = some value ∧
      (∀ k, k ≠ fid → smGet none (port cmd.port.val d).features k = smGet none (port cmd.port.val s.dev).features k) ∧
      FetchedOnly cmd (updPort cmd.port.val (fun t => { t with features := smSet none fid (some value) t.features }) s.dev) d ∧
      OnlyPorts [cmd.port.val] s.dev d) ∧
  (∀ (s : State) (cmd : HostCmd) (value data : Nat), AdminReady cmd s.dev → s.dev.ctl.mode ∉ [Mode.m2, .m9] →
    (port cmd.port.val s.dev).queuesSet = false → Does (.setFeatures cmd 0x07 false value data) s fun d =>
      Succeeds cmd (254 + 65536 * 254) s.dev d ∧ (port cmd.port.val d).queuesSet = true ∧ OnlyPorts [cmd.port.val] s.dev d ∧
      d.media = s.dev.media ∧ d.sub = s.dev.sub) ∧
  (∀ (s : State) (cmd : HostCmd) (value data : Nat), AdminReady cmd s.dev → s.dev.ctl.mode ∉ [Mode.m2, .m9] →
    nsidValid cmd s.dev = true → bitOf value 16 = false → Does (.setFeatures cmd 0x05 false value data) s fun d =>
      Succeeds cmd 0 s.dev d ∧ (namespace_ (slotOf cmd) d).tler = value % 65536 ∧
      (∀ k, k ≠ slotOf cmd → namespace_ k d = namespace_ k s.dev) ∧ OnlyPorts [cmd.port.val] s.dev d ∧ d.media = s.dev.media) ∧
  (∀ (s : State) (cmd : HostCmd) (fid value data : Nat), AdminReady cmd s.dev → s.dev.ctl.mode ∉ [Mode.m2, .m9] →
    fid ∈ [0x01, 0x06, 0x07, 0x08, 0x0A, 0x0B, 0x0E, 0x0F] → Does (.setFeatures cmd fid true value data) s fun d =>
      Completes cmd (fun e => e.sct = 1 ∧ e.sc = 0x0D) s.dev d ∧ (port cmd.port.val d).features = (port cmd.port.val s.dev).features ∧
      OnlyPorts [cmd.port.val] s.dev d ∧ d.media = s.dev.media ∧ d.sub = s.dev.sub) ∧
  (∀ (s : State) (cmd : HostCmd) (fid value v : Nat), AdminReady cmd s.dev → s.dev.ctl.mode ≠ .m2 →
    fid ∈ [0x01, 0x06, 0x08, 0x0A, 0x0B, 0x0F] → smGet none (port cmd.port.val s.dev).features fid = some v →
    Does (.getFeatures cmd fid 0 value) s fun d => Succeeds cmd v s.dev d ∧ FetchedOnly cmd s.dev d ∧ OnlyPorts [cmd.port.val] s.dev d) ∧
  (∀ (s : State) (cmd : HostCmd) (sqid cid : Nat), AdminReady cmd s.dev → s.dev.ctl.mode ≠ .m2 →
    (∀ i ∈ s.dev.held ++ s.dev.delayed, abortTarget cmd.port.val sqid cid i = false) → Does (.abort cmd sqid cid) s fun d =>
      Succeeds cmd 1 s.dev d ∧ FetchedOnly cmd s.dev d ∧ OnlyPorts [cmd.port.val] s.dev d) ∧
  (∀ (s : State) (cmd x : HostCmd) (i : Instr), AdminReady cmd s.dev → s.dev.ctl.mode ≠ .m2 → i ∈ s.dev.held ++ s.dev.delayed →
    hostOf i = some x → x.port = cmd.port → (∀ j ∈ s.dev.held ++ s.dev.delayed, abortTarget x.port.val x.sqid x.cid j = true → j = i) →
    cqOf x s.dev ≠ 0 → RoomFor x s.dev → Does (.abort cmd x.sqid x.cid) s fun d =>
      Succeeds cmd 0 s.dev d ∧ Completes x (fun e => e.sct = 0 ∧ e.sc = 0x07) s.dev d ∧ i ∉ d.held ∧ i ∉ d.delayed ∧
      (∀ j, j ≠ i → (j ∈ d.held ↔ j ∈ s.dev.held) ∧ (j ∈ d.delayed ↔ j ∈ s.dev.delayed)) ∧ OnlyPorts [cmd.port.val] s.dev d ∧
      d.media = s.dev.media) ∧
  (∀ (s : State) (cmd : HostCmd), AdminReady cmd s.dev → s.dev.ctl.mode ≠ .m2 → (port cmd.port.val s.dev).aers.length < 8 →
    (port cmd.port.val s.dev).events = [] → Does (.asyncEventRequest cmd) s fun d =>
      (port cmd.port.val d).aers = (port cmd.port.val s.dev).aers ++ [cmd.cid] ∧
      d = updPort cmd.port.val (fun t => { t with aers := t.aers ++ [cmd.cid] }) (takeEntry cmd.port.val 0 s.dev)) ∧
  (∀ (s : State) (cmd : HostCmd) (e : AsyncEvent), AdminReady cmd s.dev → s.dev.ctl.mode ≠ .m2 → (port cmd.port.val s.dev).aers = [] →
    (port cmd.port.val s.dev).events = [e] → (port cmd.port.val s.dev).eventsMasked = [] → eventEnabled cmd.port.val e s.dev = true →
    Does (.asyncEventRequest cmd) s fun d =>
      Succeeds cmd (e.typ + 256 * e.info + 65536 * e.page) s.dev d ∧ (port cmd.port.val d).aers = [] ∧ (port cmd.port.val d).events = [] ∧
      FetchedOnly cmd s.dev d ∧ OnlyPorts [cmd.port.val] s.dev d) ∧
  (∀ (s : State) (cmd : HostCmd), AdminReady cmd s.dev → Does (.keepAlive cmd) s fun d =>
    Succeeds cmd 0 s.dev d ∧ (port cmd.port.val d).lastAdminMs = nowMs s.dev ∧ FetchedOnly cmd s.dev d ∧ OnlyPorts [cmd.port.val] s.dev d) ∧
  (∀ (s : State) (cmd : HostCmd), AdminReady cmd s.dev ∧ s.dev.ctl.mode ≠ .m9 ∨ IoReady cmd s.dev ∧ ContextFree cmd s.dev → Does (.invalidCommandOpcode cmd) s fun d =>
    Completes cmd (fun e => e.sct = 0 ∧ e.sc = 0x01) s.dev d ∧
    (port cmd.port.val d).errors.head?.map (fun e => (e.sct, e.sc, e.sqid, e.cid)) = some (0, 0x01, cmd.sqid, cmd.cid) ∧
    OnlyObjs ([Obj.commandsFetched cmd.port.val, Obj.commandsFailed cmd.port.val] ++ asideObjs) s.dev d ∧ OnlyPorts [cmd.port.val] s.dev d ∧
    d = { s.dev with objs := d.objs, ports := d.ports }) ∧
  (∀ (s : State) (cmd : HostCmd) (cns cntid csi : Nat) (bs : List Byte), AdminReady cmd s.dev →
    identifyPage cmd cns cntid csi (takeEntry cmd.port.val 0 s.dev) = .ok bs → Does (.identify cmd cns cntid csi) s fun d =>
      Completes cmd (fun e => e.sct = 0 ∧ e.sc = 0 ∧ e.data = bs ∧
        (cns = 0x01 → e.data.take 2 = leBytes 2 0x1E6B ∧ (e.data.drop 78).take 2 = leBytes 2 (cmd.port.val + 1))) s.dev d ∧
      FetchedOnly cmd s.dev d ∧ OnlyPorts [cmd.port.val] s.dev d) ∧
  (∀ (s : State) (cmd : HostCmd) (lid offset bytes : Nat) (retain create : Bool), AdminReady cmd s.dev → lid ≠ 0x02 ∨ cmd.nsid = 0 →
    lid ≠ 0xC0 → offset % 4 = 0 → ∀ x, logPage cmd lid (beforePage cmd lid offset create (takeEntry cmd.port.val 0 s.dev)) = some x →
    offset ≤ x.1 → Does (.getLogPage cmd lid offset bytes retain create) s fun d =>
      Completes cmd (fun e => e.sct = 0 ∧ e.sc = 0 ∧ e.data.length = bytes ∧
        (∀ i, i < bytes → e.data[i]? = some (if offset + i < x.1 then x.2 (offset + i) else 0))) s.dev d ∧
      (retain = false → (port cmd.port.val s.dev).aers = [] → ∀ m ∈ (port cmd.port.val d).eventsMasked, m / 256 ≠ lid) ∧
      (lid = 0x04 → (port cmd.port.val d).changedNs = []) ∧
      (lid = 0x80 → (port cmd.port.val d).resNotices = (port cmd.port.val s.dev).resNotices.drop 1) ∧
      (lid ≠ 0x80 → (port cmd.port.val d).resNotices = (port cmd.port.val s.dev).resNotices) ∧
      OnlyObjs ([Obj.commandsFetched cmd.port.val] ++ asideObjs) s.dev d ∧ OnlyPorts [cmd.port.val] s.dev d ∧ d.ctl = s.dev.ctl ∧
      d.media = s.dev.media ∧ d.sec = s.dev.sec ∧ d.settings = s.dev.settings)

/-- R373 to R376, R145, R534, R544: a namespace is created in the lowest free slot with a new key; attached and detached; a deletion makes it
inactive at once and a Format marks it as formatting, and both wait for their Region resets. -/
def Obligations.NamespacesLiveAndDie : Prop :=
  (∀ (s : State) (cmd : HostCmd) (slot nsze flbas dps nmic parity : Nat), AdminReady cmd s.dev → s.dev.ctl.mode ∉ [Mode.m2, .m8, .m9] →
    s.dev.settings.lost = false → nsze ≠ 0 → parity ≤ 2 → flbas % 16 ≤ 2 → flbas < 32 → protectionOk flbas dps = true →
    slot < 1024 → slot ∉ slotsInUse s.dev → (∀ k, k < slot → k ∈ slotsInUse s.dev) → roomFor nsze s.dev = true → s.dev.sec.used < 1364 →
    s.dev.media.map.waits = [] → journalFull s.dev = false → WriterOpen s.dev → Does (.namespaceCreate cmd nsze nsze flbas dps nmic parity) s fun d =>
      Succeeds cmd (slot + 1) s.dev d ∧
      namespace_ slot d = { active := true, flbas := flbas, dps := dps, nmic := nmic % 2, parity := parityOf parity s.dev, nsze := nsze
                            creation := s.dev.sub.creations + 1, keySlot := (namespace_ slot d).keySlot } ∧
      (∀ k, k ≠ slot → namespace_ k d = namespace_ k s.dev) ∧ (smGet {} d.sec.keys (namespace_ slot d).keySlot).live = true ∧
      (∀ k, k ≠ (namespace_ slot d).keySlot → smGet {} d.sec.keys k = smGet {} s.dev.sec.keys k) ∧
      (∀ e ∈ d.media.map.entries, e.1 / 2 ^ 40 ≠ slot) ∧ Recorded Code.namespaceCreated [slot + 1, nsze, parityOf parity s.dev] s.dev d ∧
      OnlyLedgers [7] s.dev d ∧ d.ctl = s.dev.ctl ∧ d.settings = s.dev.settings ∧ d.media.stored = s.dev.media.stored) ∧
  (∀ (s : State) (cmd : HostCmd), AdminReady cmd s.dev → s.dev.ctl.mode ∉ [Mode.m2, .m8, .m9] → s.dev.settings.lost = false →
    nsActive cmd s.dev = true → Does (.namespaceDelete cmd) s fun d =>
      (namespace_ (slotOf cmd) d).active = false ∧ (∀ k, k ≠ slotOf cmd → namespace_ k d = namespace_ k s.dev) ∧
      d.sub.nsJobs = s.dev.sub.nsJobs ++ [{ cmd := cmd, delete := true, slots := [slotOf cmd] }] ∧
      (∀ p, p < 4 → bitOf (namespace_ (slotOf cmd) s.dev).attached p = true → cmd.nsid ∈ (port p d).changedNs) ∧
      FramesOnly s.dev d ∧ d.sec = s.dev.sec ∧ d.ctl = s.dev.ctl) ∧
  (∀ (s : State) (cmd : HostCmd) (ids : List Nat), AdminReady cmd s.dev → s.dev.ctl.mode ∉ [Mode.m2, .m9] → nsActive cmd s.dev = true →
    attachFault cmd true ids s.dev = none → Does (.namespaceAttach cmd ids) s fun d =>
      Succeeds cmd 0 s.dev d ∧
      (∀ p, p < 4 → bitOf (namespace_ (slotOf cmd) d).attached p =
        (bitOf (namespace_ (slotOf cmd) s.dev).attached p || ids.contains (p + 1))) ∧
      namespace_ (slotOf cmd) d = { namespace_ (slotOf cmd) s.dev with attached := (namespace_ (slotOf cmd) d).attached } ∧
      (∀ k, k ≠ slotOf cmd → namespace_ k d = namespace_ k s.dev) ∧ OnlyPorts [cmd.port.val] s.dev d ∧ FramesOnly s.dev d) ∧
  (∀ (s : State) (cmd : HostCmd) (ids : List Nat), AdminReady cmd s.dev → s.dev.ctl.mode ∉ [Mode.m2, .m9] → nsActive cmd s.dev = true →
    attachFault cmd false ids s.dev = none → Does (.namespaceDetach cmd ids) s fun d =>
      Succeeds cmd 0 s.dev d ∧
      (∀ p, p < 4 → bitOf (namespace_ (slotOf cmd) d).attached p =
        (bitOf (namespace_ (slotOf cmd) s.dev).attached p && !ids.contains (p + 1))) ∧
      (∀ p, p < 4 → bitOf (namespace_ (slotOf cmd) s.dev).attached p = true → cmd.nsid ∈ (port p d).changedNs) ∧
      namespace_ (slotOf cmd) d = { namespace_ (slotOf cmd) s.dev with attached := (namespace_ (slotOf cmd) d).attached } ∧
      (∀ k, k ≠ slotOf cmd → namespace_ k d = namespace_ k s.dev) ∧ FramesOnly s.dev d) ∧
  (∀ (s : State) (cmd : HostCmd) (flbas dps ses : Nat), AdminReady cmd s.dev → s.dev.ctl.mode ∉ [Mode.m2, .m8, .m9] →
    nsActive cmd s.dev = true → (namespace_ (slotOf cmd) s.dev).formatting = false → s.dev.settings.lost = false → flbas % 16 ≤ 2 →
    protectionOk flbas dps = true → ses ≤ 2 →
    ses = 0 ∨ getObj Obj.destructiveNeedsAuth s.dev ≠ 1 ∨ grantFor (cmd.port.val + 1) 2 0x80 s.dev = true →
    Does (.formatNvm cmd flbas dps ses) s fun d =>
      namespace_ (slotOf cmd) d = { namespace_ (slotOf cmd) s.dev with formatting := true } ∧
      (∀ k, k ≠ slotOf cmd → namespace_ k d = namespace_ k s.dev) ∧
      d.sub.nsJobs = s.dev.sub.nsJobs ++ [{ cmd := cmd, slots := [slotOf cmd], flbas := flbas, dps := dps, ses := ses }] ∧
      (ses ≠ 0 → grantFor (cmd.port.val + 1) 2 0x80 s.dev = true → (pathState (cmd.port.val + 1) d).grant = none) ∧
      (ses = 0 → d.settings = s.dev.settings) ∧ OnlyPorts [cmd.port.val] s.dev d ∧ FramesOnly s.dev d ∧ d.sec = s.dev.sec) ∧
  (∀ (s : State) (cmd : HostCmd) (flbas dps ses : Nat), AdminReady cmd s.dev → s.dev.ctl.mode ∉ [Mode.m2, .m8, .m9] →
    nsActive cmd s.dev = true → (namespace_ (slotOf cmd) s.dev).formatting = false → s.dev.settings.lost = false → ses ∈ [1, 2] →
    getObj Obj.destructiveNeedsAuth s.dev = 1 → grantFor (cmd.port.val + 1) 2 0x80 s.dev = false →
    Does (.formatNvm cmd flbas dps ses) s fun d =>
      Completes cmd (fun e => e.sct = 1 ∧ e.sc = 0xC1) s.dev d ∧ d.sub = s.dev.sub ∧ d.media = s.dev.media ∧ d.sec = s.dev.sec)

/-- R366, R587, R589, Table 20.8: pieces are staged; a commit of a staged image clears the slot and programs it, and its end puts the component
into the slot, activates it where asked, and completes; a select names the next slot; an immediate activation is prohibited. -/
def Obligations.FirmwareIsStagedAndCommitted : Prop :=
  (∀ (s : State) (cmd : HostCmd) (offset bytes : Nat) (header : Option (Nat × Component)), AdminReady cmd s.dev →
    s.dev.ctl.mode ∉ [Mode.m2, .m9] → offset % 4096 = 0 → bytes % 4096 = 0 → offset + bytes ≤ 25165824 →
    Does (.firmwareImageDownload cmd offset bytes header []) s fun d =>
      ((port cmd.port.val s.dev).staged.any (piecesMeet { offset := offset, bytes := bytes }) = true →
        Completes cmd (fun e => e.sct = 1 ∧ e.sc = 0x14) s.dev d ∧ (port cmd.port.val d).staged = (port cmd.port.val s.dev).staged ∧
        (port cmd.port.val d).stagedComp = (port cmd.port.val s.dev).stagedComp) ∧
      ((port cmd.port.val s.dev).staged.any (piecesMeet { offset := offset, bytes := bytes }) = false →
        Succeeds cmd 0 s.dev d ∧ (port cmd.port.val d).staged = { offset := offset, bytes := bytes } :: (port cmd.port.val s.dev).staged ∧
        (port cmd.port.val d).stagedComp = (if offset = 0 then header else (port cmd.port.val s.dev).stagedComp)) ∧
      OnlyPorts [cmd.port.val] s.dev d ∧ d.cs = s.dev.cs ∧ d.media = s.dev.media) ∧
  (∀ (s : State) (cmd : HostCmd) (c : Instr) (action slot named code : Nat) (x : Component), AdminReady cmd s.dev →
    s.dev.ctl.mode ∉ [Mode.m2, .m8, .m9] →
    (c = .firmwareCommitReplace cmd slot ∧ action = 0 ∨ c = .firmwareCommitActivate cmd slot ∧ action = 1) → s.dev.cs.jobs = [] → slot ≤ 2 →
    named = (if slot = 0 then otherSlot s.dev else slot) → named ≠ s.dev.cs.running → stagedImage cmd.port.val s.dev = some (code, x) →
    code ≠ 5 → slotWorn named s.dev = false → Does c s fun d =>
      d.cs.jobs = [{ cmd := cmd, action := action, slot := slot, started := true, code := code, comp := x, target := named }] ∧
      (fwSlot named d).holds = false ∧ (fwSlot named d).completedWake = false ∧ smGet {} (fwSlot named d).comps code = {} ∧
      (∀ k, k ∈ [1, 2] → k ≠ named → fwSlot k d = fwSlot k s.dev) ∧ d.cs.nextSlot = s.dev.cs.nextSlot ∧ d.cs.running = s.dev.cs.running ∧
      d.cs.oa = s.dev.cs.oa ∧ OnlyPorts [cmd.port.val] s.dev d ∧ d.media = s.dev.media ∧ d.ctl = s.dev.ctl) ∧
  (∀ (s : State) (j : CommitJob), s.dev.cs.jobs = [j] → j.started = true → j.dropped = false → j.code ∈ [1, 2, 3, 4] → j.target ∈ [1, 2] →
    RoomFor j.cmd s.dev → WriterOpen s.dev → Does (.firmwareCommitDone []) s fun d =>
      Succeeds j.cmd 0 s.dev d ∧ smGet {} (fwSlot j.target d).comps j.code = { j.comp with present := true } ∧
      (fwSlot j.target d).holds = true ∧ (fwSlot j.target d).settingsIncompatible = false ∧
      d.cs.nextSlot = (if j.action = 1 then j.target else s.dev.cs.nextSlot) ∧ (j.action = 1 → d.cs.attempts = 0) ∧ d.cs.jobs = [] ∧
      Recorded Code.firmwareCommitted [j.target, j.code, j.comp.version] s.dev d ∧ (port j.cmd.port.val d).staged = [] ∧
      (∀ k, k ∈ [1, 2] → k ≠ j.target → fwSlot k d = fwSlot k s.dev) ∧ d.cs.running = s.dev.cs.running ∧ d.media = s.dev.media ∧
      d.ctl = s.dev.ctl) ∧
  (∀ (s : State) (j : CommitJob) (f : StoreFailure), s.dev.cs.jobs = [j] → j.started = true → j.dropped = false → f.recovered = false →
    RoomFor j.cmd s.dev → Does (.firmwareCommitDone [f]) s fun d =>
      Completes j.cmd (fun e => e.sct = 0 ∧ e.sc = 0x06) s.dev d ∧ d.cs.jobs = [] ∧ d.cs.slot1 = s.dev.cs.slot1 ∧ d.cs.slot2 = s.dev.cs.slot2 ∧
      d.cs.nextSlot = s.dev.cs.nextSlot ∧ getObj Obj.verifyFailures d = (getObj Obj.verifyFailures s.dev + 1) % objModulus Obj.verifyFailures ∧
      (port j.cmd.port.val d).staged = [] ∧ d.media = s.dev.media) ∧
  (∀ (s : State) (cmd : HostCmd) (slot named : Nat), AdminReady cmd s.dev → s.dev.ctl.mode ∉ [Mode.m2, .m8, .m9] → s.dev.cs.jobs = [] →
    slot ≤ 2 → named = (if slot = 0 then otherSlot s.dev else slot) → named = s.dev.cs.running ∨ (fwSlot named s.dev).holds = true →
    Does (.firmwareCommitSelect cmd slot) s fun d =>
      Succeeds cmd 0 s.dev d ∧ d.cs.nextSlot = (if named = s.dev.cs.running then 0 else named) ∧ d.cs.attempts = 0 ∧
      d.cs.slot1 = s.dev.cs.slot1 ∧ d.cs.slot2 = s.dev.cs.slot2 ∧ d.cs.running = s.dev.cs.running ∧ d.cs.jobs = [] ∧
      OnlyPorts [cmd.port.val] s.dev d ∧ d.media = s.dev.media) ∧
  (∀ (s : State) (cmd : HostCmd) (slot : Nat), AdminReady cmd s.dev → s.dev.ctl.mode ∉ [Mode.m8, .m9] → s.dev.cs.jobs = [] →
    Does (.firmwareCommitImmediate cmd slot) s fun d =>
      Completes cmd (fun e => e.sct = 1 ∧ e.sc = 0x0B) s.dev d ∧ d.cs.nextSlot = s.dev.cs.nextSlot ∧ d.cs.slot1 = s.dev.cs.slot1 ∧
      d.cs.slot2 = s.dev.cs.slot2 ∧ d.cs.running = s.dev.cs.running ∧ OnlyPorts [cmd.port.val] s.dev d ∧ d.media = s.dev.media)

/-- R51, R367, R544, R547 to R550, Table 18.6: an accepted Sanitize puts the device in M9 with its record at step 1; its end leaves M9 with the
record complete, or failed; exit failure mode ends a failed one; an overwrite is no field value of this device, where the
command is decided at all. -/
def Obligations.SanitizeRunsInM9 : Prop :=
  (∀ (s : State) (cmd : HostCmd) (c : Instr) (action : Nat) (ause : Bool), AdminReady cmd s.dev → s.dev.ctl.mode ∈ [Mode.m5, .m6] →
    higherDue s.dev = false → PoolsHold s.dev →
    (c = .sanitizeBlockErase cmd ause ∧ action = 2 ∨ c = .sanitizeCryptoErase cmd ause ∧ action = 4) → s.dev.settings.lost = false →
    getObj Obj.destructiveNeedsAuth s.dev ≠ 1 ∨ grantFor (cmd.port.val + 1) 2 0x84 s.dev = true →
    (∀ w ∈ s.dev.media.wp.writes, cqOf w.host s.dev ≠ 0) →
    (∀ f ∈ s.dev.media.wp.flushes, f.sqid ≠ 0 ∧ (smGet {} (port f.port s.dev).sqs f.sqid).cqid ≠ 0) → Does c s fun d =>
      Succeeds cmd 0 s.dev d ∧ d.ctl.mode = .m9 ∧ d.sec.san.action = action ∧ d.sec.san.step = 1 ∧ d.sec.san.ause = ause ∧
      d.sec.san.failed = false ∧ d.sec.san.complete = false ∧ d.media.wp.writes = [] ∧ d.media.wp.flushes = [] ∧
      d.media.wp.reads = s.dev.media.wp.reads ∧ d.sec.keys = s.dev.sec.keys ∧ d.media.map = s.dev.media.map ∧
      d.media.stored = s.dev.media.stored ∧ d.sub.namespaces = s.dev.sub.namespaces) ∧
  (∀ (s : State) (cmd : HostCmd) (c : Instr) (ause : Bool), AdminReady cmd s.dev → s.dev.ctl.mode ∈ [Mode.m5, .m6] →
    c ∈ ([.sanitizeBlockErase cmd ause, .sanitizeCryptoErase cmd ause, .sanitizeExitFailure cmd] : List Instr) → s.dev.settings.lost = false →
    getObj Obj.destructiveNeedsAuth s.dev = 1 → grantFor (cmd.port.val + 1) 2 0x84 s.dev = false → Does c s fun d =>
      Completes cmd (fun e => e.sct = 1 ∧ e.sc = 0xC1) s.dev d ∧ d.ctl = s.dev.ctl ∧ d.sec = s.dev.sec ∧ d.media = s.dev.media) ∧
  (∀ (s : State) (cmd : HostCmd), AdminReady cmd s.dev → s.dev.ctl.mode ∈ [Mode.m5, .m6] → higherDue s.dev = false →
    s.dev.settings.lost = false →
    getObj Obj.destructiveNeedsAuth s.dev ≠ 1 ∨ grantFor (cmd.port.val + 1) 2 0x84 s.dev = true → Does (.sanitizeExitFailure cmd) s fun d =>
      (s.dev.sec.san.failed = true → s.dev.sec.san.ause = true → Succeeds cmd 0 s.dev d ∧ d.sec.san = {} ∧
        d.sec = { s.dev.sec with san := {} }) ∧
      (s.dev.sec.san.failed = false ∨ s.dev.sec.san.ause = false →
        Completes cmd (fun e => e.sct = 0 ∧ e.sc = 0x0C) s.dev d ∧ d.sec = s.dev.sec) ∧
      d.ctl = s.dev.ctl ∧ d.media = s.dev.media ∧ OnlyPorts [cmd.port.val] s.dev d) ∧
  (∀ (s : State) (cmd : HostCmd), AdminReady cmd s.dev → s.dev.ctl.mode ∉ [Mode.m2, .m8, .m9] → Does (.sanitizeOverwrite cmd) s fun d =>
    (s.dev.settings.lost = true → dataMode s.dev.ctl.mode = true → Completes cmd (fun e => e.sct = 0 ∧ e.sc = 0x20) s.dev d) ∧
    (s.dev.settings.lost = false → s.dev.ctl.mode ∈ [Mode.m5, .m6] → higherDue s.dev = false →
      Completes cmd (fun e => e.sct = 0 ∧ e.sc = 0x02) s.dev d) ∧
    (s.dev.settings.lost = false → s.dev.ctl.mode ∉ [Mode.m5, .m6] → Completes cmd (fun e => e.sct = 0 ∧ e.sc = 0x0C) s.dev d) ∧ d.ctl = s.dev.ctl ∧ d.sec = s.dev.sec ∧ d.media = s.dev.media ∧
    OnlyPorts [cmd.port.val] s.dev d) ∧
  (∀ s : State, s.dev.ctl.mode = .m9 → s.dev.sec.san.action ≠ 0 → s.dev.sec.san.failed = false → s.dev.sec.san.complete = false →
    s.dev.sec.san.step = 4 → s.dev.sub.shutdownRunning = false → Does (.sanitizeComplete false []) s fun d =>
      d.ctl.mode ∈ [Mode.m5, .m6] ∧ d.sec.san = { s.dev.sec.san with step := 6, complete := true } ∧ d.media.rc.lostLog = [] ∧
      (s.dev.sec.san.action = 2 → ∀ g ∈ d.media.stored, dieInService (dieOfBlock (blockOf g.1)) s.dev = false) ∧
      (s.dev.sec.san.action ≠ 2 → d.media.stored = s.dev.media.stored ∧ d.media.blocks = s.dev.media.blocks) ∧
      d.sec.keys = s.dev.sec.keys ∧ d.media.map = s.dev.media.map ∧ d.sub.namespaces = s.dev.sub.namespaces ∧ d.settings = s.dev.settings) ∧
  (∀ s : State, s.dev.ctl.mode = .m9 → s.dev.sec.san.action ≠ 0 → s.dev.sec.san.failed = false → s.dev.sec.san.complete = false →
    s.dev.sub.shutdownRunning = false → Does (.sanitizeComplete true []) s fun d =>
      d.ctl.mode ∈ [Mode.m5, .m6] ∧ d.sec.san = { s.dev.sec.san with failed := true } ∧ d.sec.keys = s.dev.sec.keys ∧
      d.media.map = s.dev.media.map ∧ d.media.stored = s.dev.media.stored ∧ d.settings = s.dev.settings)

/-- R50, R51, R179, R182, R198, R228, R363, R550: a write is admitted with its number and its blocks; Write Zeroes and a deallocation unmap the
grains they cover; a Flush completes when nothing waits; a Read of blocks that no grain maps returns zeroes, one of stored grains starts their
reads; out of range, unattached, held in M8 and refused in M9 or after a failed Sanitize are answered as the rules say. -/
def Obligations.IoCommandsAreServed : Prop :=
  (∀ (s : State) (cmd : HostCmd) (slba nlb : Nat) (fua : Bool), IoReady cmd s.dev → BlocksOk cmd slba nlb .writes s.dev →
    WriteOk cmd s.dev → nlb ≤ 512 → nlb * (4096 + 16) ≤ 2097152 → Does (.write cmd slba nlb fua) s fun d =>
      (∃ b x, (fua = true → b = false) ∧ d.media.wp.writes = s.dev.media.wp.writes ++
        [{ id := s.dev.media.wp.nextId, port := cmd.port.val, sqid := cmd.sqid, cid := cmd.cid, slot := slotOf cmd, slba := slba,
           nlb := nlb, fua := fua, buffered := b, channel := pickChannel s.dev, context := some x }] ∧
        (smGet {} d.res.buffers (2 * 65536 + x)).owner = cmd.port.val + 1) ∧
      heldBy 2 (cmd.port.val + 1) d = heldBy 2 (cmd.port.val + 1) s.dev + 1 ∧ OnlyLedgers [2] s.dev d ∧
      d.media.wp = { s.dev.media.wp with writes := d.media.wp.writes, nextId := s.dev.media.wp.nextId + 1 } ∧
      d = { takeEntry cmd.port.val cmd.sqid s.dev with
        media := { s.dev.media with wp := d.media.wp }, ledgers := d.ledgers, res := { s.dev.res with buffers := d.res.buffers, waits := d.res.waits } }) ∧
  (∀ (s : State) (cmd : HostCmd) (c : Instr) (g n : Nat) (fua : Bool), IoReady cmd s.dev → BlocksOk cmd (16 * g) (16 * n) .writes s.dev →
    WriteOk cmd s.dev → n ≠ 0 → journalFull s.dev = false → s.dev.media.wp.writes = [] → s.dev.media.map.waits = [] →
    (∀ i, i < n → (mapPage (slotOf cmd) (pageOf (g + i)) s.dev).resident = true) →
    (c = .writeZeroes cmd (16 * g) (16 * n) fua [] ∨ c = .datasetManagement cmd [(16 * g, 16 * n)] true) → Does c s fun d =>
      (∀ i, i < n → mapEntry (slotOf cmd) (g + i) d = 0) ∧
      (∀ k, k < mapKey (slotOf cmd) g ∨ mapKey (slotOf cmd) (g + n) ≤ k → smGet 0 d.media.map.entries k = smGet 0 s.dev.media.map.entries k) ∧
      (∃ w ∈ d.media.wp.writes, d.media.wp.writes = [w] ∧ w.id = s.dev.media.wp.nextId ∧ w.port = cmd.port.val ∧ w.sqid = cmd.sqid ∧ w.cid = cmd.cid ∧
        w.slot = slotOf cmd ∧ w.landed = true ∧ w.completed = false ∧
        w.unmaps = [(g, n, some (getObj Obj.journalSequence s.dev))]) ∧
      d.ctl = s.dev.ctl ∧ d.settings = s.dev.settings ∧ d.sec = s.dev.sec ∧ d.media.stored = s.dev.media.stored ∧
      OnlyPorts [cmd.port.val] s.dev d) ∧
  (∀ (s : State) (cmd : HostCmd) (ranges : List (Nat × Nat)), IoReady cmd s.dev → ranges.length ≤ 256 →
    BlocksOk cmd 0 (ranges.foldl (fun m r => max m (r.1 + r.2)) 0) .writes s.dev → Does (.datasetManagement cmd ranges false) s fun d =>
      Succeeds cmd 0 s.dev d ∧ d.sub.writeCmds = s.dev.sub.writeCmds + 1 ∧ d.media = s.dev.media ∧ OnlyPorts [cmd.port.val] s.dev d) ∧
  (∀ (s : State) (cmd : HostCmd), IoReady cmd s.dev → CanTake (cmd.port.val + 1) 2 1 s.dev → PoolsHold s.dev →
    cmd.nsid = 0xFFFFFFFF ∨ BlocksOk cmd 0 0 .writes s.dev →
    s.dev.media.wp.flushes = [] → (∀ w ∈ s.dev.media.wp.writes, w.completed = false) → Does (.flush cmd) s fun d =>
      Succeeds cmd 0 s.dev d ∧ d.media.wp = s.dev.media.wp ∧ d.media.map = s.dev.media.map ∧ OnlyPorts [cmd.port.val] s.dev d) ∧
  (∀ (s : State) (cmd : HostCmd) (w : WriteCmd), IoReady cmd s.dev → CanTake (cmd.port.val + 1) 2 1 s.dev → PoolsHold s.dev → cmd.nsid = 0xFFFFFFFF ∨ BlocksOk cmd 0 0 .writes s.dev →
    s.dev.media.wp.flushes = [] → w ∈ s.dev.media.wp.writes → w.completed = true → durable w s.dev = false →
    cmd.nsid = 0xFFFFFFFF ∨ w.slot = slotOf cmd → (∀ x ∈ s.dev.media.wp.writes, x.id = w.id → x = w) → Does (.flush cmd) s fun d =>
      (∃ f ∈ d.media.wp.flushes, f.port = cmd.port.val ∧ f.sqid = cmd.sqid ∧ f.cid = cmd.cid ∧ w.id ∈ f.waits) ∧
      (smGet {} (port cmd.port.val d).cqs (cqOf cmd s.dev)).posted = (smGet {} (port cmd.port.val s.dev).cqs (cqOf cmd s.dev)).posted ∧
      d.media.map = s.dev.media.map ∧ OnlyPorts [cmd.port.val] s.dev d) ∧
  (∀ (s : State) (cmd : HostCmd) (c : Instr) (slba nlb : Nat) (fua limited verify : Bool) (x : DataPointers), IoReady cmd s.dev →
    BlocksOk cmd slba nlb .reads s.dev → nlb ≠ 0 → nlb ≤ 512 → nlb * (4096 + 16) ≤ 2097152 → CanTake (cmd.port.val + 1) 2 1 s.dev →
    s.dev.media.wp.writes = [] → s.dev.media.flight = [] → channelLoad (pickChannel s.dev) s.dev = 0 →
    (∀ r ∈ s.dev.media.wp.reads, r.id ≠ s.dev.media.wp.nextId) → s.dev.ctl.mode ∉ [Mode.m10, .m11] →
    (∀ g, 16 * g < slba + nlb → slba < 16 * (g + 1) → mapEntry (slotOf cmd) g s.dev = 0 ∧ lookupReady (slotOf cmd) g s.dev = true) →
    (c = .read cmd slba nlb fua limited x ∧ pointerFault cmd.port.val (transferBytes (slotOf cmd) nlb s.dev) x s.dev = none ∧ verify = false ∨ c = .verify cmd slba nlb limited ∧ verify = true) → Does c s fun d =>
      Completes cmd (fun e => e.sct = 0 ∧ e.sc = 0 ∧
        e.blocks = if verify = true then [] else (List.range nlb).map fun i => (slba + i, 0, 0)) s.dev d ∧
      d.sub.readCmds = s.dev.sub.readCmds + 1 ∧ d.media.wp.reads = s.dev.media.wp.reads ∧ d.media.map.entries = s.dev.media.map.entries ∧
      d.media.stored = s.dev.media.stored ∧ d.ctl = s.dev.ctl ∧ OnlyPorts [cmd.port.val] s.dev d) ∧
  (∀ (s : State) (cmd : HostCmd) (c : Instr) (slba nlb : Nat) (limited verify : Bool) (x : DataPointers), IoReady cmd s.dev →
    BlocksOk cmd slba nlb .reads s.dev → nlb ≠ 0 → slba / 16 = (slba + nlb - 1) / 16 → CanTake (cmd.port.val + 1) 2 1 s.dev →
    s.dev.media.wp.writes = [] → s.dev.media.flight = [] →
    (∀ r ∈ s.dev.media.wp.reads, r.id ≠ s.dev.media.wp.nextId) → lookupReady (slotOf cmd) (slba / 16) s.dev = true →
    classify (mapEntry (slotOf cmd) (slba / 16) s.dev) s.dev = .pointer →
    frameRangeBad (mapEntry (slotOf cmd) (slba / 16) s.dev) s.dev = false →
    (c = .read cmd slba nlb false limited x ∧ pointerFault cmd.port.val (transferBytes (slotOf cmd) nlb s.dev) x s.dev = none ∧ verify = false ∨ c = .verify cmd slba nlb limited ∧ verify = true) → Does c s fun d =>
      (∃ r ∈ d.media.wp.reads, d.media.wp.reads = s.dev.media.wp.reads ++ [r] ∧ r.id = s.dev.media.wp.nextId ∧ r.port = cmd.port.val ∧ r.sqid = cmd.sqid ∧
        r.cid = cmd.cid ∧ r.slba = slba ∧ r.nlb = nlb ∧ r.verify = verify ∧
        r.grains = [{ grain := slba / 16, stage := .codewords, pointer := mapEntry (slotOf cmd) (slba / 16) s.dev
                      arrival := s.dev.media.wp.nextId + 1 }] ∧ r.context.isSome = true ∧ r.channel = pickChannel s.dev) ∧
      heldBy 2 (cmd.port.val + 1) d = heldBy 2 (cmd.port.val + 1) s.dev + 1 ∧
      d.media.map.entries = s.dev.media.map.entries ∧ d.media.stored = s.dev.media.stored ∧ d.ctl = s.dev.ctl ∧
      OnlyPorts [cmd.port.val] s.dev d) ∧
  (∀ (s : State) (cmd : HostCmd) (slba nlb : Nat) (fua limited : Bool) (x : DataPointers), cmd.sqid ≠ 0 → Fetchable cmd s.dev → ContextFree cmd s.dev →
    ∀ c ∈ ([.write cmd slba nlb fua, .read cmd slba nlb fua limited x, .writeZeroes cmd slba nlb fua [], .verify cmd slba nlb limited,
            .datasetManagement cmd [(slba, nlb)] true, .flush cmd] : List Instr),
      (s.dev.ctl.mode = .m8 → Does c s fun d =>
        d = { takeEntry cmd.port.val cmd.sqid s.dev with held := s.dev.held ++ [c] }) ∧
      (s.dev.ctl.mode = .m9 → Does c s fun d => Completes cmd (fun e => e.sct = 0 ∧ e.sc = 0x1D) s.dev d ∧ d.media = s.dev.media ∧
        OnlyPorts [cmd.port.val] s.dev d) ∧
      (s.dev.ctl.mode ∉ [Mode.m8, .m9] → s.dev.sec.san.failed = true → Does c s fun d =>
        Completes cmd (fun e => e.sct = 0 ∧ e.sc = 0x1C) s.dev d ∧ d.media = s.dev.media ∧ OnlyPorts [cmd.port.val] s.dev d) ∧
      (s.dev.ctl.mode ∉ [Mode.m8, .m9] → s.dev.sec.san.failed = false → nsidValid cmd s.dev = false → cmd.nsid ≠ 0xFFFFFFFF →
        Does c s fun d => Completes cmd (fun e => e.sct = 0 ∧ e.sc = 0x0B) s.dev d ∧ d.media = s.dev.media ∧
          OnlyPorts [cmd.port.val] s.dev d)) ∧
  (∀ (s : State) (cmd : HostCmd) (slba nlb : Nat) (fua limited : Bool) (x : DataPointers), IoReady cmd s.dev → nsidValid cmd s.dev = true → nlb ≤ 512 →
    nlb * (4096 + 16) ≤ 2097152 → (namespace_ (slotOf cmd) s.dev).nsze < slba + nlb →
    ∀ c ∈ ([.write cmd slba nlb fua, .read cmd slba nlb fua limited x, .writeZeroes cmd slba nlb fua [], .verify cmd slba nlb limited,
            .datasetManagement cmd [(slba, nlb)] true] : List Instr), Does c s fun d =>
      Completes cmd (fun e => e.sct = 0 ∧ e.sc = 0x80) s.dev d ∧ d.media = s.dev.media ∧ OnlyPorts [cmd.port.val] s.dev d)

/-- R377, R378 and the base specification's rules as the model reads them (notes/assumptions/23.md, notes/assumptions/46.md): a host registers,
takes the reservation, releases it, and preempts another; commands it prevents fail with Reservation Conflict. -/
def Obligations.ReservationsAreKept : Prop :=
  (∀ (s : State) (cmd : HostCmd) (new : Nat) (n : Namespace) (h : BitVec 128), IoReady cmd s.dev → ContextFree cmd s.dev → nsidValid cmd s.dev = true →
    n = namespace_ (slotOf cmd) s.dev → h = (port cmd.port.val s.dev).hostId → n.formatting = false → h ≠ 0 → keyOf n h = none →
    n.registrants.length < 8 → Does (.reservationRegister cmd 0 false 0 0 new) s fun d =>
      Succeeds cmd 0 s.dev d ∧
      namespace_ (slotOf cmd) d = { n with prgen := (n.prgen + 1) % 2 ^ 32, registrants := (namespace_ (slotOf cmd) d).registrants } ∧
      (namespace_ (slotOf cmd) d).registrants = n.registrants ++ [{ hostId := h, key := new, ctrl := cmd.port.val + 1 }] ∧
      (∀ k, k ≠ slotOf cmd → namespace_ k d = namespace_ k s.dev) ∧ OnlyPorts [cmd.port.val] s.dev d ∧ FramesOnly s.dev d) ∧
  (∀ (s : State) (cmd : HostCmd) (current : Nat) (n : Namespace) (h : BitVec 128), IoReady cmd s.dev → ContextFree cmd s.dev → nsidValid cmd s.dev = true →
    n = namespace_ (slotOf cmd) s.dev → h = (port cmd.port.val s.dev).hostId → n.formatting = false → h ≠ 0 → keyOf n h = some current →
    Does (.reservationRegister cmd 1 false 0 current 0) s fun d =>
      keyOf (namespace_ (slotOf cmd) d) h = none ∧
      (∀ r ∈ n.registrants, r.hostId ≠ h → r ∈ (namespace_ (slotOf cmd) d).registrants) ∧
      (n.holder = some h → n.resType ∉ [5, 6] → (namespace_ (slotOf cmd) d).resType = 0) ∧
      (∀ k, k ≠ slotOf cmd → namespace_ k d = namespace_ k s.dev) ∧ FramesOnly s.dev d ∧ d.sec = s.dev.sec) ∧
  (∀ (s : State) (cmd : HostCmd) (rtype current : Nat) (n : Namespace) (h : BitVec 128), IoReady cmd s.dev → ContextFree cmd s.dev → nsidValid cmd s.dev = true →
    n = namespace_ (slotOf cmd) s.dev → h = (port cmd.port.val s.dev).hostId → n.formatting = false → h ≠ 0 → keyOf n h = some current →
    1 ≤ rtype → rtype ≤ 6 → Does (.reservationAcquire cmd 0 false rtype current 0) s fun d =>
      (n.resType = 0 → Succeeds cmd 0 s.dev d ∧ namespace_ (slotOf cmd) d = { n with resType := rtype, holder := some h }) ∧
      (n.resType ≠ 0 → holdsReservation n h = false → Completes cmd (fun e => e.sct = 0 ∧ e.sc = 0x83) s.dev d ∧
        namespace_ (slotOf cmd) d = n) ∧
      (∀ k, k ≠ slotOf cmd → namespace_ k d = namespace_ k s.dev) ∧ OnlyPorts [cmd.port.val] s.dev d ∧ FramesOnly s.dev d) ∧
  (∀ (s : State) (cmd : HostCmd) (rtype current victim : Nat) (v : Registrant) (n : Namespace) (h : BitVec 128), IoReady cmd s.dev → ContextFree cmd s.dev →
    nsidValid cmd s.dev = true → n = namespace_ (slotOf cmd) s.dev → h = (port cmd.port.val s.dev).hostId → n.formatting = false → h ≠ 0 →
    keyOf n h = some current → 1 ≤ rtype → rtype ≤ 6 → n.resType ∉ [0, 5, 6] → victim ≠ 0 → v ∈ n.registrants → n.holder = some v.hostId →
    v.key = victim → v.hostId ≠ h → (∀ r ∈ n.registrants, r.hostId = v.hostId → r = v) →
    Does (.reservationAcquire cmd 1 false rtype current victim) s fun d =>
      (namespace_ (slotOf cmd) d).holder = some h ∧ (namespace_ (slotOf cmd) d).resType = rtype ∧ keyOf (namespace_ (slotOf cmd) d) v.hostId = none ∧
      keyOf (namespace_ (slotOf cmd) d) h = some current ∧ (∀ k, k ≠ slotOf cmd → namespace_ k d = namespace_ k s.dev) ∧
      FramesOnly s.dev d) ∧
  (∀ (s : State) (cmd : HostCmd) (rtype current : Nat) (n : Namespace) (h : BitVec 128), IoReady cmd s.dev → ContextFree cmd s.dev → nsidValid cmd s.dev = true →
    n = namespace_ (slotOf cmd) s.dev → h = (port cmd.port.val s.dev).hostId → n.formatting = false → h ≠ 0 → keyOf n h = some current →
    holdsReservation n h = true → rtype = n.resType → Does (.reservationRelease cmd 0 false rtype current) s fun d =>
      namespace_ (slotOf cmd) d = { n with resType := 0, holder := none } ∧ (∀ k, k ≠ slotOf cmd → namespace_ k d = namespace_ k s.dev) ∧
      (rtype < 3 → Succeeds cmd 0 s.dev d ∧ OnlyPorts [cmd.port.val] s.dev d) ∧ FramesOnly s.dev d) ∧
  (∀ (s : State) (cmd : HostCmd) (bytes : Nat) (n : Namespace), IoReady cmd s.dev → ContextFree cmd s.dev → nsidValid cmd s.dev = true →
    n = namespace_ (slotOf cmd) s.dev → (port cmd.port.val s.dev).hostId ≠ 0 → n.formatting = false → 64 ≤ bytes →
    Does (.reservationReport cmd true bytes) s fun d =>
      Completes cmd (fun e => e.sct = 0 ∧ e.sc = 0 ∧ e.data.length = bytes ∧ e.data.take 5 = leBytes 4 n.prgen ++ leBytes 1 n.resType ∧
        (e.data.drop 5).take 2 = leBytes 2 n.registrants.length) s.dev d ∧
      FetchedOnly cmd s.dev d ∧ OnlyPorts [cmd.port.val] s.dev d) ∧
  (∀ (s : State) (cmd : HostCmd) (slba nlb : Nat) (fua : Bool), IoReady cmd s.dev → nsidValid cmd s.dev = true →
    slba + nlb ≤ (namespace_ (slotOf cmd) s.dev).nsze → nlb ≤ 512 → nlb * (4096 + 16) ≤ 2097152 →
    (namespace_ (slotOf cmd) s.dev).formatting = false → (namespace_ (slotOf cmd) s.dev).resType ∈ [1, 2] →
    isHolder cmd.port.val (slotOf cmd) s.dev = false → Does (.write cmd slba nlb fua) s fun d =>
      Completes cmd (fun e => e.sct = 0 ∧ e.sc = 0x83) s.dev d ∧ d.media = s.dev.media ∧ OnlyPorts [cmd.port.val] s.dev d)
end

