-- ==== Sys2Proof/Laws/Maps.lean ====
section
/-! SUPPORT. Sparse maps: reading after writing, the canonical form, and the sum of the values. -/
namespace Sys2Proof.Machine

variable {α : Type}

@[simp] theorem smGet_nil (d : α) (k : Nat) : smGet d [] k = d := rfl

theorem smGet_cons (d : α) (j : Nat) (v : α) (m : SMap α) (k : Nat) :
    smGet d ((j, v) :: m) k = if j = k then v else smGet d m k := rfl

theorem smGet_smPut_self (d : α) (k : Nat) (v : α) (m : SMap α) : smGet d (smPut k v m) k = v := by
  induction m with
  | nil => simp [smPut, smGet]
  | cons e m ih =>
    obtain ⟨j, w⟩ := e
    unfold smPut
    split
    · simp [smGet]
    · split
      · simp [smGet]
      · have : j ≠ k := fun h => by omega
        simp [smGet, this, ih]

theorem smGet_smPut_ne (d : α) {j k : Nat} (h : j ≠ k) (v : α) (m : SMap α) : smGet d (smPut k v m) j = smGet d m j := by
  induction m with
  | nil => simp [smPut, smGet, Ne.symm h]
  | cons e m ih =>
    obtain ⟨i, w⟩ := e
    unfold smPut
    split
    · simp [smGet, Ne.symm h]
    · split
      · next hk => subst hk; simp [smGet, Ne.symm h]
      · simp [smGet, ih]

theorem smGet_smErase_self (d : α) (k : Nat) (m : SMap α) : smGet d (smErase k m) k = d := by
  induction m with
  | nil => rfl
  | cons e m ih =>
    obtain ⟨j, w⟩ := e
    by_cases h : j = k <;> simp_all [smErase, smGet]

theorem smGet_smErase_ne (d : α) {j k : Nat} (h : j ≠ k) (m : SMap α) : smGet d (smErase k m) j = smGet d m j := by
  induction m with
  | nil => rfl
  | cons e m ih =>
    obtain ⟨i, w⟩ := e
    by_cases hi : i = k
    · have : i ≠ j := fun h' => h (h' ▸ hi)
      simp_all [smErase, smGet]
    · simp_all [smErase, smGet]

section
variable [DecidableEq α]

/-- A key reads what was last written to it; every other key reads as before. -/
theorem smGet_smSet (d : α) (j k : Nat) (v : α) (m : SMap α) : smGet d (smSet d k v m) j = if j = k then v else smGet d m j := by
  unfold smSet
  split <;> split <;> simp_all [smGet_smPut_self, smGet_smPut_ne, smGet_smErase_self, smGet_smErase_ne]

@[simp] theorem smGet_smSet_self (d : α) (k : Nat) (v : α) (m : SMap α) : smGet d (smSet d k v m) k = v := by
  simp [smGet_smSet]

/-- A key that is not written reads as before, whatever an unlisted key reads as. -/
theorem smGet_smSet_ne (d e : α) {j k : Nat} (h : j ≠ k) (v : α) (m : SMap α) : smGet e (smSet d k v m) j = smGet e m j := by
  unfold smSet
  split
  · exact smGet_smErase_ne e h m
  · exact smGet_smPut_ne e h v m

theorem smGet_smUpd (d : α) (j k : Nat) (f : α → α) (m : SMap α) :
    smGet d (smUpd d k f m) j = if j = k then f (smGet d m k) else smGet d m j := smGet_smSet d j k _ m

@[simp] theorem smGet_smUpd_self (d : α) (k : Nat) (f : α → α) (m : SMap α) : smGet d (smUpd d k f m) k = f (smGet d m k) := by
  simp [smGet_smUpd]

/-! ### The canonical form -/

theorem smWf_cons (d : α) (j : Nat) (v : α) (m : SMap α) :
    smWf d ((j, v) :: m) = true ↔ (∀ e ∈ m, j < e.1) ∧ v ≠ d ∧ smWf d m = true := by
  simp [smWf, and_assoc, List.all_eq_true]

omit [DecidableEq α] in
theorem mem_smPut {k : Nat} {v : α} {m : SMap α} {e : Nat × α} (h : e ∈ smPut k v m) : e = (k, v) ∨ e ∈ m := by
  induction m with
  | nil => simpa [smPut] using h
  | cons x m ih =>
    obtain ⟨j, w⟩ := x
    unfold smPut at h
    split at h
    · simpa using h
    · split at h
      · rcases List.mem_cons.mp h with h | h
        · exact .inl h
        · exact .inr (List.mem_cons_of_mem _ h)
      · rcases List.mem_cons.mp h with h | h
        · exact .inr (h ▸ List.mem_cons_self)
        · rcases ih h with h | h
          · exact .inl h
          · exact .inr (List.mem_cons_of_mem _ h)

theorem smWf_smPut {d : α} {k : Nat} {v : α} {m : SMap α} (hv : v ≠ d) (h : smWf d m = true) : smWf d (smPut k v m) = true := by
  induction m with
  | nil => simp [smPut, smWf, hv]
  | cons e m ih =>
    obtain ⟨j, w⟩ := e
    rw [smWf_cons] at h
    unfold smPut
    split
    · next hk =>
      rw [smWf_cons]
      refine ⟨fun e he => ?_, hv, by rw [smWf_cons]; exact h⟩
      rcases List.mem_cons.mp he with rfl | he
      · exact hk
      · exact Nat.lt_trans hk (h.1 e he)
    · split
      · next hk => subst hk; rw [smWf_cons]; exact ⟨h.1, hv, h.2.2⟩
      · next h1 h2 =>
        rw [smWf_cons]
        refine ⟨fun e he => ?_, h.2.1, ih h.2.2⟩
        rcases mem_smPut he with rfl | he
        · show j < k; omega
        · exact h.1 e he

theorem smWf_smErase {d : α} {k : Nat} {m : SMap α} (h : smWf d m = true) : smWf d (smErase k m) = true := by
  induction m with
  | nil => rfl
  | cons e m ih =>
    obtain ⟨j, w⟩ := e
    rw [smWf_cons] at h
    unfold smErase
    rw [List.filter_cons]
    split
    · rw [smWf_cons]
      exact ⟨fun e he => h.1 e ((List.mem_filter.mp he).1), h.2.1, ih h.2.2⟩
    · exact ih h.2.2

/-- Every write keeps the canonical form. -/
theorem smWf_smSet {d : α} {k : Nat} {v : α} {m : SMap α} (h : smWf d m = true) : smWf d (smSet d k v m) = true := by
  unfold smSet
  split
  · exact smWf_smErase h
  · next hv => exact smWf_smPut hv h

theorem smWf_smUpd {d : α} {k : Nat} {f : α → α} {m : SMap α} (h : smWf d m = true) : smWf d (smUpd d k f m) = true := smWf_smSet h

end

/-! ### Sums -/

@[simp] theorem smSum_nil : smSum [] = 0 := rfl

@[simp] theorem smSum_cons (j v : Nat) (m : SMap Nat) : smSum ((j, v) :: m) = v + smSum m := by simp [smSum]

theorem smGet_eq_zero {k : Nat} {m : SMap Nat} (h : ∀ e ∈ m, k < e.1) : smGet 0 m k = 0 := by
  induction m with
  | nil => rfl
  | cons e m ih =>
    have : e.1 ≠ k := by have := h e List.mem_cons_self; omega
    simp [smGet, this]
    exact ih fun x hx => h x (List.mem_cons_of_mem _ hx)

theorem smErase_eq_self {k : Nat} {m : SMap α} (h : ∀ e ∈ m, k < e.1) : smErase k m = m :=
  List.filter_eq_self.mpr fun e he => by have := h e he; simp; omega

/-- The sum of the values after a write: the new value stands in the old one's place. -/
theorem smSum_smSet {k v : Nat} {m : SMap Nat} (h : smWf 0 m = true) : smSum (smSet 0 k v m) + smGet 0 m k = smSum m + v := by
  induction m with
  | nil => by_cases hv : v = 0 <;> simp [smSet, hv, smPut, smErase]
  | cons e m ih =>
    obtain ⟨j, w⟩ := e
    rw [smWf_cons] at h
    have hlt := h.1
    have ih := ih h.2.2
    rcases Nat.lt_trichotomy k j with hk | hk | hk
    · have hm : ∀ e ∈ m, k < e.1 := fun e he => Nat.lt_trans hk (hlt e he)
      have h0 : smGet 0 m k = 0 := smGet_eq_zero hm
      have hj : j ≠ k := by omega
      by_cases hv : v = 0
      · have he : smErase k ((j, w) :: m) = (j, w) :: m :=
          smErase_eq_self fun e he => by rcases List.mem_cons.mp he with rfl | he; exacts [hk, hm e he]
        simp [smSet, hv, he, smGet, hj, h0]
      · simp [smSet, hv, smPut, hk, smGet, hj, h0]; omega
    · subst hk
      have h0 : smErase k m = m := smErase_eq_self hlt
      have he : smErase k ((k, w) :: m) = m := by unfold smErase at *; simp [h0]
      by_cases hv : v = 0
      · simp [smSet, hv, he, smGet]; omega
      · simp [smSet, hv, smPut, smGet]; omega
    · have hj : j ≠ k := by omega
      by_cases hv : v = 0
      · have he : smErase k ((j, w) :: m) = (j, w) :: smErase k m := by simp [smErase, hj]
        simp [smSet, hv, smGet, hj] at ih ⊢
        rw [he]; simp; omega
      · have hn : ¬ k < j := by omega
        have hn' : k ≠ j := by omega
        simp [smSet, hv, smPut, hn, hn', smGet, hj] at ih ⊢
        omega

theorem smSum_smUpd {k : Nat} {f : Nat → Nat} {m : SMap Nat} (h : smWf 0 m = true) :
    smSum (smUpd 0 k f m) + smGet 0 m k = smSum m + f (smGet 0 m k) := smSum_smSet h

/-- No key holds more than the sum. -/
theorem smGet_le_smSum (k : Nat) (m : SMap Nat) : smGet 0 m k ≤ smSum m := by
  induction m with
  | nil => simp
  | cons e m ih =>
    obtain ⟨j, w⟩ := e
    rw [smSum_cons, smGet_cons]
    split <;> omega

end Sys2Proof.Machine
end

