-- ==== Sys2Proof/Laws/State.lean ====
section
/-! SUPPORT. Reading after writing: one lemma per update of the state and of the device, true by unfolding, and what the parts of the device
keep under folds and choices. -/
namespace Sys2Proof.Machine

/-! ### The queue and the device -/

@[simp] theorem runDev_eq (f : Device → Device) (s : State) : runDev f s = .next { s with dev := f s.dev } := rfl

theorem step_cons {s : State} {c : Instr} {cs : List Instr} (h : s.pending = c :: cs) : step s = exec c { s with pending := cs } := by
  unfold step; rw [h]

theorem step_nil {s : State} (h : s.pending = []) : step s = .next s := by
  unfold step; rw [h]

/-! ### Objects -/

/-- An object reads what was last written to it; every other object reads as before. -/
theorem getObj_setObj (j k v : Nat) (d : Device) : getObj j (setObj k v d) = if j = k then v else getObj j d := by
  unfold getObj setObj
  dsimp only
  by_cases h : j = k
  · subst h; simp
  · simp [smGet_smSet_ne _ _ h, h]

@[simp] theorem getObj_setObj_self (k v : Nat) (d : Device) : getObj k (setObj k v d) = v := by simp [getObj_setObj]

theorem getObj_setObj_ne {j k : Nat} (h : j ≠ k) (v : Nat) (d : Device) : getObj j (setObj k v d) = getObj j d := by
  simp [getObj_setObj, h]

@[simp] theorem getObj_addObj_self (k n : Nat) (d : Device) : getObj k (addObj k n d) = (getObj k d + n) % objModulus k := by
  simp [addObj]

@[simp] theorem getObj_incObj_self (k : Nat) (d : Device) : getObj k (incObj k d) = (getObj k d + 1) % objModulus k := by
  simp [incObj]

theorem getObj_incObj_ne {j k : Nat} (h : j ≠ k) (d : Device) : getObj j (incObj k d) = getObj j d :=
  getObj_setObj_ne h _ d

/-- An object depends on the object map alone. -/
theorem getObj_congr {k : Nat} {d e : Device} (h : e.objs = d.objs) : getObj k e = getObj k d := by unfold getObj; rw [h]

/-! ### Ports -/

@[simp] theorem port_updPort_self (p : Nat) (f : PortState → PortState) (d : Device) : port p (updPort p f d) = f (port p d) := by
  simp [port, updPort]

theorem port_updPort_ne {p q : Nat} (h : q ≠ p) (f : PortState → PortState) (d : Device) : port q (updPort p f d) = port q d := by
  simp [port, updPort, smGet_smUpd, h]

/-! ### Choices and folds -/

/-- What no step of a fold changes, the fold leaves alone. -/
theorem foldl_part {β γ : Type} (part : Device → γ) (g : Device → β → Device) (h : ∀ d b, part (g d b) = part d) (xs : List β) (d : Device) :
    part (xs.foldl g d) = part d := by
  induction xs generalizing d with
  | nil => rfl
  | cons x xs ih => exact (ih _).trans (h d x)

@[simp] theorem foldl_objs {β : Type} (g : Device → β → Device) (h : ∀ d b, (g d b).objs = d.objs) (xs : List β) (d : Device) :
    (xs.foldl g d).objs = d.objs := foldl_part _ g h xs d

@[simp] theorem ite_objs (c : Prop) [Decidable c] (a b : Device) : (if c then a else b).objs = if c then a.objs else b.objs :=
  apply_ite Device.objs c a b

@[simp] theorem foldl_ctl {β : Type} (g : Device → β → Device) (h : ∀ d b, (g d b).ctl = d.ctl) (xs : List β) (d : Device) :
    (xs.foldl g d).ctl = d.ctl := foldl_part _ g h xs d

@[simp] theorem ite_ctl (c : Prop) [Decidable c] (a b : Device) : (if c then a else b).ctl = if c then a.ctl else b.ctl :=
  apply_ite Device.ctl c a b

@[simp] theorem foldl_therm {β : Type} (g : Device → β → Device) (h : ∀ d b, (g d b).therm = d.therm) (xs : List β) (d : Device) :
    (xs.foldl g d).therm = d.therm := foldl_part _ g h xs d

@[simp] theorem ite_therm (c : Prop) [Decidable c] (a b : Device) : (if c then a else b).therm = if c then a.therm else b.therm :=
  apply_ite Device.therm c a b

@[simp] theorem foldl_holdup {β : Type} (g : Device → β → Device) (h : ∀ d b, (g d b).holdup = d.holdup) (xs : List β) (d : Device) :
    (xs.foldl g d).holdup = d.holdup := foldl_part _ g h xs d

@[simp] theorem ite_holdup (c : Prop) [Decidable c] (a b : Device) : (if c then a else b).holdup = if c then a.holdup else b.holdup :=
  apply_ite Device.holdup c a b

@[simp] theorem foldl_domains {β : Type} (g : Device → β → Device) (h : ∀ d b, (g d b).domains = d.domains) (xs : List β) (d : Device) :
    (xs.foldl g d).domains = d.domains := foldl_part _ g h xs d

@[simp] theorem ite_domains (c : Prop) [Decidable c] (a b : Device) : (if c then a else b).domains = if c then a.domains else b.domains :=
  apply_ite Device.domains c a b

@[simp] theorem foldl_cpx {β : Type} (g : Device → β → Device) (h : ∀ d b, (g d b).cpx = d.cpx) (xs : List β) (d : Device) :
    (xs.foldl g d).cpx = d.cpx := foldl_part _ g h xs d

@[simp] theorem ite_cpx (c : Prop) [Decidable c] (a b : Device) : (if c then a else b).cpx = if c then a.cpx else b.cpx :=
  apply_ite Device.cpx c a b

@[simp] theorem foldl_ledgers {β : Type} (g : Device → β → Device) (h : ∀ d b, (g d b).ledgers = d.ledgers) (xs : List β) (d : Device) :
    (xs.foldl g d).ledgers = d.ledgers := foldl_part _ g h xs d

@[simp] theorem ite_ledgers (c : Prop) [Decidable c] (a b : Device) : (if c then a else b).ledgers = if c then a.ledgers else b.ledgers :=
  apply_ite Device.ledgers c a b

@[simp] theorem foldl_res {β : Type} (g : Device → β → Device) (h : ∀ d b, (g d b).res = d.res) (xs : List β) (d : Device) :
    (xs.foldl g d).res = d.res := foldl_part _ g h xs d

@[simp] theorem ite_res (c : Prop) [Decidable c] (a b : Device) : (if c then a else b).res = if c then a.res else b.res :=
  apply_ite Device.res c a b

@[simp] theorem foldl_log {β : Type} (g : Device → β → Device) (h : ∀ d b, (g d b).log = d.log) (xs : List β) (d : Device) :
    (xs.foldl g d).log = d.log := foldl_part _ g h xs d

@[simp] theorem ite_log (c : Prop) [Decidable c] (a b : Device) : (if c then a else b).log = if c then a.log else b.log :=
  apply_ite Device.log c a b

@[simp] theorem foldl_settings {β : Type} (g : Device → β → Device) (h : ∀ d b, (g d b).settings = d.settings) (xs : List β) (d : Device) :
    (xs.foldl g d).settings = d.settings := foldl_part _ g h xs d

@[simp] theorem ite_settings (c : Prop) [Decidable c] (a b : Device) : (if c then a else b).settings = if c then a.settings else b.settings :=
  apply_ite Device.settings c a b

@[simp] theorem foldl_can {β : Type} (g : Device → β → Device) (h : ∀ d b, (g d b).can = d.can) (xs : List β) (d : Device) :
    (xs.foldl g d).can = d.can := foldl_part _ g h xs d

@[simp] theorem ite_can (c : Prop) [Decidable c] (a b : Device) : (if c then a else b).can = if c then a.can else b.can :=
  apply_ite Device.can c a b

@[simp] theorem foldl_sec {β : Type} (g : Device → β → Device) (h : ∀ d b, (g d b).sec = d.sec) (xs : List β) (d : Device) :
    (xs.foldl g d).sec = d.sec := foldl_part _ g h xs d

@[simp] theorem ite_sec (c : Prop) [Decidable c] (a b : Device) : (if c then a else b).sec = if c then a.sec else b.sec :=
  apply_ite Device.sec c a b

@[simp] theorem foldl_cs {β : Type} (g : Device → β → Device) (h : ∀ d b, (g d b).cs = d.cs) (xs : List β) (d : Device) :
    (xs.foldl g d).cs = d.cs := foldl_part _ g h xs d

@[simp] theorem ite_cs (c : Prop) [Decidable c] (a b : Device) : (if c then a else b).cs = if c then a.cs else b.cs :=
  apply_ite Device.cs c a b

@[simp] theorem foldl_ports {β : Type} (g : Device → β → Device) (h : ∀ d b, (g d b).ports = d.ports) (xs : List β) (d : Device) :
    (xs.foldl g d).ports = d.ports := foldl_part _ g h xs d

@[simp] theorem ite_ports (c : Prop) [Decidable c] (a b : Device) : (if c then a else b).ports = if c then a.ports else b.ports :=
  apply_ite Device.ports c a b

@[simp] theorem foldl_sub {β : Type} (g : Device → β → Device) (h : ∀ d b, (g d b).sub = d.sub) (xs : List β) (d : Device) :
    (xs.foldl g d).sub = d.sub := foldl_part _ g h xs d

@[simp] theorem ite_sub (c : Prop) [Decidable c] (a b : Device) : (if c then a else b).sub = if c then a.sub else b.sub :=
  apply_ite Device.sub c a b

@[simp] theorem foldl_media {β : Type} (g : Device → β → Device) (h : ∀ d b, (g d b).media = d.media) (xs : List β) (d : Device) :
    (xs.foldl g d).media = d.media := foldl_part _ g h xs d

@[simp] theorem ite_media (c : Prop) [Decidable c] (a b : Device) : (if c then a else b).media = if c then a.media else b.media :=
  apply_ite Device.media c a b

@[simp] theorem foldl_held {β : Type} (g : Device → β → Device) (h : ∀ d b, (g d b).held = d.held) (xs : List β) (d : Device) :
    (xs.foldl g d).held = d.held := foldl_part _ g h xs d

@[simp] theorem ite_held (c : Prop) [Decidable c] (a b : Device) : (if c then a else b).held = if c then a.held else b.held :=
  apply_ite Device.held c a b

@[simp] theorem foldl_delayed {β : Type} (g : Device → β → Device) (h : ∀ d b, (g d b).delayed = d.delayed) (xs : List β) (d : Device) :
    (xs.foldl g d).delayed = d.delayed := foldl_part _ g h xs d

@[simp] theorem ite_delayed (c : Prop) [Decidable c] (a b : Device) : (if c then a else b).delayed = if c then a.delayed else b.delayed :=
  apply_ite Device.delayed c a b

@[simp] theorem foldl_damaged {β : Type} (g : Device → β → Device) (h : ∀ d b, (g d b).damaged = d.damaged) (xs : List β) (d : Device) :
    (xs.foldl g d).damaged = d.damaged := foldl_part _ g h xs d

@[simp] theorem ite_damaged (c : Prop) [Decidable c] (a b : Device) : (if c then a else b).damaged = if c then a.damaged else b.damaged :=
  apply_ite Device.damaged c a b

@[simp] theorem foldl_free {β : Type} (g : Device → β → Device) (h : ∀ d b, (g d b).free = d.free) (xs : List β) (d : Device) :
    (xs.foldl g d).free = d.free := foldl_part _ g h xs d

@[simp] theorem ite_free (c : Prop) [Decidable c] (a b : Device) : (if c then a else b).free = if c then a.free else b.free :=
  apply_ite Device.free c a b

/-! ### The operations of Ops -/

@[simp] theorem setObj_frame (key v : Nat) (d : Device) :
    (setObj key v d).ctl = d.ctl ∧ (setObj key v d).therm = d.therm ∧ (setObj key v d).holdup = d.holdup ∧
      (setObj key v d).domains = d.domains ∧ (setObj key v d).cpx = d.cpx ∧ (setObj key v d).ledgers = d.ledgers ∧
      (setObj key v d).res = d.res ∧ (setObj key v d).log = d.log ∧ (setObj key v d).settings = d.settings ∧ (setObj key v d).can = d.can ∧
      (setObj key v d).sec = d.sec ∧ (setObj key v d).cs = d.cs ∧ (setObj key v d).ports = d.ports ∧ (setObj key v d).sub = d.sub ∧
      (setObj key v d).media = d.media ∧ (setObj key v d).held = d.held ∧ (setObj key v d).delayed = d.delayed ∧
      (setObj key v d).damaged = d.damaged ∧ (setObj key v d).free = d.free := by
  simp [setObj]

@[simp] theorem addObj_frame (key n : Nat) (d : Device) :
    (addObj key n d).ctl = d.ctl ∧ (addObj key n d).therm = d.therm ∧ (addObj key n d).holdup = d.holdup ∧
      (addObj key n d).domains = d.domains ∧ (addObj key n d).cpx = d.cpx ∧ (addObj key n d).ledgers = d.ledgers ∧
      (addObj key n d).res = d.res ∧ (addObj key n d).log = d.log ∧ (addObj key n d).settings = d.settings ∧ (addObj key n d).can = d.can ∧
      (addObj key n d).sec = d.sec ∧ (addObj key n d).cs = d.cs ∧ (addObj key n d).ports = d.ports ∧ (addObj key n d).sub = d.sub ∧
      (addObj key n d).media = d.media ∧ (addObj key n d).held = d.held ∧ (addObj key n d).delayed = d.delayed ∧
      (addObj key n d).damaged = d.damaged ∧ (addObj key n d).free = d.free := by
  simp [addObj]

@[simp] theorem incObj_frame (key : Nat) (d : Device) :
    (incObj key d).ctl = d.ctl ∧ (incObj key d).therm = d.therm ∧ (incObj key d).holdup = d.holdup ∧ (incObj key d).domains = d.domains ∧
      (incObj key d).cpx = d.cpx ∧ (incObj key d).ledgers = d.ledgers ∧ (incObj key d).res = d.res ∧ (incObj key d).log = d.log ∧
      (incObj key d).settings = d.settings ∧ (incObj key d).can = d.can ∧ (incObj key d).sec = d.sec ∧ (incObj key d).cs = d.cs ∧
      (incObj key d).ports = d.ports ∧ (incObj key d).sub = d.sub ∧ (incObj key d).media = d.media ∧ (incObj key d).held = d.held ∧
      (incObj key d).delayed = d.delayed ∧ (incObj key d).damaged = d.damaged ∧ (incObj key d).free = d.free := by
  simp [incObj]

@[simp] theorem freshNat_frame (d : Device) :
    (freshNat d).2.objs = d.objs ∧ (freshNat d).2.ctl = d.ctl ∧ (freshNat d).2.therm = d.therm ∧ (freshNat d).2.holdup = d.holdup ∧
      (freshNat d).2.domains = d.domains ∧ (freshNat d).2.cpx = d.cpx ∧ (freshNat d).2.ledgers = d.ledgers ∧ (freshNat d).2.res = d.res ∧
      (freshNat d).2.log = d.log ∧ (freshNat d).2.settings = d.settings ∧ (freshNat d).2.can = d.can ∧ (freshNat d).2.sec = d.sec ∧
      (freshNat d).2.cs = d.cs ∧ (freshNat d).2.ports = d.ports ∧ (freshNat d).2.sub = d.sub ∧ (freshNat d).2.media = d.media ∧
      (freshNat d).2.held = d.held ∧ (freshNat d).2.delayed = d.delayed ∧ (freshNat d).2.damaged = d.damaged := by
  simp [freshNat]

@[simp] theorem updLedger_frame (l : Nat) (f : Ledger → Ledger) (d : Device) :
    (updLedger l f d).objs = d.objs ∧ (updLedger l f d).ctl = d.ctl ∧ (updLedger l f d).therm = d.therm ∧
      (updLedger l f d).holdup = d.holdup ∧ (updLedger l f d).domains = d.domains ∧ (updLedger l f d).cpx = d.cpx ∧
      (updLedger l f d).res = d.res ∧ (updLedger l f d).log = d.log ∧ (updLedger l f d).settings = d.settings ∧
      (updLedger l f d).can = d.can ∧ (updLedger l f d).sec = d.sec ∧ (updLedger l f d).cs = d.cs ∧ (updLedger l f d).ports = d.ports ∧
      (updLedger l f d).sub = d.sub ∧ (updLedger l f d).media = d.media ∧ (updLedger l f d).held = d.held ∧
      (updLedger l f d).delayed = d.delayed ∧ (updLedger l f d).damaged = d.damaged ∧ (updLedger l f d).free = d.free := by
  simp [updLedger]

@[simp] theorem ledgerTake_frame (l o n : Nat) (d : Device) :
    (ledgerTake l o n d).objs = d.objs ∧ (ledgerTake l o n d).ctl = d.ctl ∧ (ledgerTake l o n d).therm = d.therm ∧
      (ledgerTake l o n d).holdup = d.holdup ∧ (ledgerTake l o n d).domains = d.domains ∧ (ledgerTake l o n d).cpx = d.cpx ∧
      (ledgerTake l o n d).res = d.res ∧ (ledgerTake l o n d).log = d.log ∧ (ledgerTake l o n d).settings = d.settings ∧
      (ledgerTake l o n d).can = d.can ∧ (ledgerTake l o n d).sec = d.sec ∧ (ledgerTake l o n d).cs = d.cs ∧
      (ledgerTake l o n d).ports = d.ports ∧ (ledgerTake l o n d).sub = d.sub ∧ (ledgerTake l o n d).media = d.media ∧
      (ledgerTake l o n d).held = d.held ∧ (ledgerTake l o n d).delayed = d.delayed ∧ (ledgerTake l o n d).damaged = d.damaged ∧
      (ledgerTake l o n d).free = d.free := by
  simp [ledgerTake]

@[simp] theorem ledgerGive_frame (l o n : Nat) (d : Device) :
    (ledgerGive l o n d).objs = d.objs ∧ (ledgerGive l o n d).ctl = d.ctl ∧ (ledgerGive l o n d).therm = d.therm ∧
      (ledgerGive l o n d).holdup = d.holdup ∧ (ledgerGive l o n d).domains = d.domains ∧ (ledgerGive l o n d).cpx = d.cpx ∧
      (ledgerGive l o n d).res = d.res ∧ (ledgerGive l o n d).log = d.log ∧ (ledgerGive l o n d).settings = d.settings ∧
      (ledgerGive l o n d).can = d.can ∧ (ledgerGive l o n d).sec = d.sec ∧ (ledgerGive l o n d).cs = d.cs ∧
      (ledgerGive l o n d).ports = d.ports ∧ (ledgerGive l o n d).sub = d.sub ∧ (ledgerGive l o n d).media = d.media ∧
      (ledgerGive l o n d).held = d.held ∧ (ledgerGive l o n d).delayed = d.delayed ∧ (ledgerGive l o n d).damaged = d.damaged ∧
      (ledgerGive l o n d).free = d.free := by
  simp [ledgerGive]

@[simp] theorem countRefused_frame (l : Nat) (d : Device) :
    (countRefused l d).objs = d.objs ∧ (countRefused l d).ctl = d.ctl ∧ (countRefused l d).therm = d.therm ∧
      (countRefused l d).holdup = d.holdup ∧ (countRefused l d).domains = d.domains ∧ (countRefused l d).cpx = d.cpx ∧
      (countRefused l d).res = d.res ∧ (countRefused l d).log = d.log ∧ (countRefused l d).settings = d.settings ∧
      (countRefused l d).can = d.can ∧ (countRefused l d).sec = d.sec ∧ (countRefused l d).cs = d.cs ∧ (countRefused l d).ports = d.ports ∧
      (countRefused l d).sub = d.sub ∧ (countRefused l d).media = d.media ∧ (countRefused l d).held = d.held ∧
      (countRefused l d).delayed = d.delayed ∧ (countRefused l d).damaged = d.damaged ∧ (countRefused l d).free = d.free := by
  simp [countRefused]

@[simp] theorem takeDamage_frame (row location : Nat) (d : Device) :
    (takeDamage row location d).2.objs = d.objs ∧ (takeDamage row location d).2.ctl = d.ctl ∧
      (takeDamage row location d).2.therm = d.therm ∧ (takeDamage row location d).2.holdup = d.holdup ∧
      (takeDamage row location d).2.domains = d.domains ∧ (takeDamage row location d).2.cpx = d.cpx ∧
      (takeDamage row location d).2.ledgers = d.ledgers ∧ (takeDamage row location d).2.res = d.res ∧
      (takeDamage row location d).2.log = d.log ∧ (takeDamage row location d).2.settings = d.settings ∧
      (takeDamage row location d).2.can = d.can ∧ (takeDamage row location d).2.sec = d.sec ∧ (takeDamage row location d).2.cs = d.cs ∧
      (takeDamage row location d).2.ports = d.ports ∧ (takeDamage row location d).2.sub = d.sub ∧
      (takeDamage row location d).2.media = d.media ∧ (takeDamage row location d).2.held = d.held ∧
      (takeDamage row location d).2.delayed = d.delayed ∧ (takeDamage row location d).2.free = d.free := by
  and_intros <;> (unfold takeDamage; try dsimp only) <;> (repeat' split) <;> simp

@[simp] theorem updCs_frame (f : CodeStore → CodeStore) (d : Device) :
    (updCs f d).objs = d.objs ∧ (updCs f d).ctl = d.ctl ∧ (updCs f d).therm = d.therm ∧ (updCs f d).holdup = d.holdup ∧
      (updCs f d).domains = d.domains ∧ (updCs f d).cpx = d.cpx ∧ (updCs f d).ledgers = d.ledgers ∧ (updCs f d).res = d.res ∧
      (updCs f d).log = d.log ∧ (updCs f d).settings = d.settings ∧ (updCs f d).can = d.can ∧ (updCs f d).sec = d.sec ∧
      (updCs f d).ports = d.ports ∧ (updCs f d).sub = d.sub ∧ (updCs f d).media = d.media ∧ (updCs f d).held = d.held ∧
      (updCs f d).delayed = d.delayed ∧ (updCs f d).damaged = d.damaged ∧ (updCs f d).free = d.free := by
  simp [updCs]

@[simp] theorem markLoaded_frame (n : Nat) (d : Device) :
    (markLoaded n d).objs = d.objs ∧ (markLoaded n d).ctl = d.ctl ∧ (markLoaded n d).therm = d.therm ∧ (markLoaded n d).holdup = d.holdup ∧
      (markLoaded n d).domains = d.domains ∧ (markLoaded n d).cpx = d.cpx ∧ (markLoaded n d).ledgers = d.ledgers ∧
      (markLoaded n d).res = d.res ∧ (markLoaded n d).log = d.log ∧ (markLoaded n d).can = d.can ∧ (markLoaded n d).sec = d.sec ∧
      (markLoaded n d).cs = d.cs ∧ (markLoaded n d).ports = d.ports ∧ (markLoaded n d).sub = d.sub ∧ (markLoaded n d).media = d.media ∧
      (markLoaded n d).held = d.held ∧ (markLoaded n d).delayed = d.delayed ∧ (markLoaded n d).damaged = d.damaged ∧
      (markLoaded n d).free = d.free := by
  simp [markLoaded]

@[simp] theorem updPort_frame (p : Nat) (f : PortState → PortState) (d : Device) :
    (updPort p f d).objs = d.objs ∧ (updPort p f d).ctl = d.ctl ∧ (updPort p f d).therm = d.therm ∧ (updPort p f d).holdup = d.holdup ∧
      (updPort p f d).domains = d.domains ∧ (updPort p f d).cpx = d.cpx ∧ (updPort p f d).ledgers = d.ledgers ∧
      (updPort p f d).res = d.res ∧ (updPort p f d).log = d.log ∧ (updPort p f d).settings = d.settings ∧ (updPort p f d).can = d.can ∧
      (updPort p f d).sec = d.sec ∧ (updPort p f d).cs = d.cs ∧ (updPort p f d).sub = d.sub ∧ (updPort p f d).media = d.media ∧
      (updPort p f d).held = d.held ∧ (updPort p f d).delayed = d.delayed ∧ (updPort p f d).damaged = d.damaged ∧
      (updPort p f d).free = d.free := by
  simp [updPort]

end Sys2Proof.Machine
end

