-- ==== Sys2Proof/Laws/Frames.lean ====
section
/-! SUPPORT. The parts of the device that the shared operations leave alone: completions and events, CAN frames, the logbook writer, the
token arbiter, and the changes of mode. One lemma per operation. -/
namespace Sys2Proof.Machine

@[simp] theorem leaveL1_frame (p : Nat) (d : Device) :
    (leaveL1 p d).ctl = d.ctl ∧ (leaveL1 p d).therm = d.therm ∧ (leaveL1 p d).holdup = d.holdup ∧ (leaveL1 p d).domains = d.domains ∧
      (leaveL1 p d).cpx = d.cpx ∧ (leaveL1 p d).ledgers = d.ledgers ∧ (leaveL1 p d).res = d.res ∧ (leaveL1 p d).log = d.log ∧
      (leaveL1 p d).settings = d.settings ∧ (leaveL1 p d).can = d.can ∧ (leaveL1 p d).sec = d.sec ∧ (leaveL1 p d).cs = d.cs ∧
      (leaveL1 p d).ports = d.ports ∧ (leaveL1 p d).sub = d.sub ∧ (leaveL1 p d).media = d.media ∧ (leaveL1 p d).held = d.held ∧
      (leaveL1 p d).delayed = d.delayed ∧ (leaveL1 p d).damaged = d.damaged ∧ (leaveL1 p d).free = d.free := by
  simp [leaveL1]

@[simp] theorem postCompletion_frame (p : Nat) (c : Completion) (d : Device) :
    (postCompletion p c d).ctl = d.ctl ∧ (postCompletion p c d).therm = d.therm ∧ (postCompletion p c d).holdup = d.holdup ∧
      (postCompletion p c d).domains = d.domains ∧ (postCompletion p c d).cpx = d.cpx ∧ (postCompletion p c d).ledgers = d.ledgers ∧
      (postCompletion p c d).res = d.res ∧ (postCompletion p c d).log = d.log ∧ (postCompletion p c d).settings = d.settings ∧
      (postCompletion p c d).can = d.can ∧ (postCompletion p c d).sec = d.sec ∧ (postCompletion p c d).cs = d.cs ∧
      (postCompletion p c d).sub = d.sub ∧ (postCompletion p c d).media = d.media ∧ (postCompletion p c d).held = d.held ∧
      (postCompletion p c d).delayed = d.delayed ∧ (postCompletion p c d).damaged = d.damaged ∧ (postCompletion p c d).free = d.free := by
  simp [postCompletion]

@[simp] theorem raiseEvent_frame (p : Nat) (e : AsyncEvent) (d : Device) :
    (raiseEvent p e d).ctl = d.ctl ∧ (raiseEvent p e d).therm = d.therm ∧ (raiseEvent p e d).holdup = d.holdup ∧
      (raiseEvent p e d).domains = d.domains ∧ (raiseEvent p e d).cpx = d.cpx ∧ (raiseEvent p e d).ledgers = d.ledgers ∧
      (raiseEvent p e d).res = d.res ∧ (raiseEvent p e d).log = d.log ∧ (raiseEvent p e d).settings = d.settings ∧
      (raiseEvent p e d).can = d.can ∧ (raiseEvent p e d).sec = d.sec ∧ (raiseEvent p e d).cs = d.cs ∧ (raiseEvent p e d).sub = d.sub ∧
      (raiseEvent p e d).media = d.media ∧ (raiseEvent p e d).held = d.held ∧ (raiseEvent p e d).delayed = d.delayed ∧
      (raiseEvent p e d).damaged = d.damaged ∧ (raiseEvent p e d).free = d.free := by
  and_intros <;> (unfold raiseEvent; try dsimp only) <;> (repeat' split) <;> simp

@[simp] theorem raiseOnAll_frame (e : AsyncEvent) (d : Device) :
    (raiseOnAll e d).ctl = d.ctl ∧ (raiseOnAll e d).therm = d.therm ∧ (raiseOnAll e d).holdup = d.holdup ∧
      (raiseOnAll e d).domains = d.domains ∧ (raiseOnAll e d).cpx = d.cpx ∧ (raiseOnAll e d).ledgers = d.ledgers ∧
      (raiseOnAll e d).res = d.res ∧ (raiseOnAll e d).log = d.log ∧ (raiseOnAll e d).settings = d.settings ∧ (raiseOnAll e d).can = d.can ∧
      (raiseOnAll e d).sec = d.sec ∧ (raiseOnAll e d).cs = d.cs ∧ (raiseOnAll e d).sub = d.sub ∧ (raiseOnAll e d).media = d.media ∧
      (raiseOnAll e d).held = d.held ∧ (raiseOnAll e d).delayed = d.delayed ∧ (raiseOnAll e d).damaged = d.damaged ∧
      (raiseOnAll e d).free = d.free := by
  simp [raiseOnAll]

@[simp] theorem serveBacklog_frame (fuel : Nat) (d : Device) :
    (serveBacklog fuel d).objs = d.objs ∧ (serveBacklog fuel d).ctl = d.ctl ∧ (serveBacklog fuel d).therm = d.therm ∧
      (serveBacklog fuel d).holdup = d.holdup ∧ (serveBacklog fuel d).domains = d.domains ∧ (serveBacklog fuel d).cpx = d.cpx ∧
      (serveBacklog fuel d).res = d.res ∧ (serveBacklog fuel d).log = d.log ∧ (serveBacklog fuel d).settings = d.settings ∧
      (serveBacklog fuel d).sec = d.sec ∧ (serveBacklog fuel d).cs = d.cs ∧ (serveBacklog fuel d).ports = d.ports ∧
      (serveBacklog fuel d).sub = d.sub ∧ (serveBacklog fuel d).media = d.media ∧ (serveBacklog fuel d).held = d.held ∧
      (serveBacklog fuel d).delayed = d.delayed ∧ (serveBacklog fuel d).damaged = d.damaged ∧ (serveBacklog fuel d).free = d.free := by
  induction fuel generalizing d with
  | zero => simp [serveBacklog]
  | succ k ih =>
    unfold serveBacklog
    split
    · simp
    · split <;> simp [ih]

@[simp] theorem serveWaitingFrames_frame (d : Device) :
    (serveWaitingFrames d).objs = d.objs ∧ (serveWaitingFrames d).ctl = d.ctl ∧ (serveWaitingFrames d).therm = d.therm ∧
      (serveWaitingFrames d).holdup = d.holdup ∧ (serveWaitingFrames d).domains = d.domains ∧ (serveWaitingFrames d).cpx = d.cpx ∧
      (serveWaitingFrames d).res = d.res ∧ (serveWaitingFrames d).log = d.log ∧ (serveWaitingFrames d).settings = d.settings ∧
      (serveWaitingFrames d).sec = d.sec ∧ (serveWaitingFrames d).cs = d.cs ∧ (serveWaitingFrames d).ports = d.ports ∧
      (serveWaitingFrames d).sub = d.sub ∧ (serveWaitingFrames d).media = d.media ∧ (serveWaitingFrames d).held = d.held ∧
      (serveWaitingFrames d).delayed = d.delayed ∧ (serveWaitingFrames d).damaged = d.damaged ∧ (serveWaitingFrames d).free = d.free := by
  simp [serveWaitingFrames]

@[simp] theorem replaceHeartbeat_frame (f : CanFrame) (d : Device) :
    (replaceHeartbeat f d).ctl = d.ctl ∧ (replaceHeartbeat f d).therm = d.therm ∧ (replaceHeartbeat f d).holdup = d.holdup ∧
      (replaceHeartbeat f d).domains = d.domains ∧ (replaceHeartbeat f d).cpx = d.cpx ∧ (replaceHeartbeat f d).ledgers = d.ledgers ∧
      (replaceHeartbeat f d).res = d.res ∧ (replaceHeartbeat f d).log = d.log ∧ (replaceHeartbeat f d).settings = d.settings ∧
      (replaceHeartbeat f d).sec = d.sec ∧ (replaceHeartbeat f d).cs = d.cs ∧ (replaceHeartbeat f d).ports = d.ports ∧
      (replaceHeartbeat f d).sub = d.sub ∧ (replaceHeartbeat f d).media = d.media ∧ (replaceHeartbeat f d).held = d.held ∧
      (replaceHeartbeat f d).delayed = d.delayed ∧ (replaceHeartbeat f d).damaged = d.damaged ∧ (replaceHeartbeat f d).free = d.free := by
  and_intros <;> (unfold replaceHeartbeat; try dsimp only) <;> (repeat' split) <;> simp

@[simp] theorem queueFrame_frame (f : CanFrame) (d : Device) :
    (queueFrame f d).ctl = d.ctl ∧ (queueFrame f d).therm = d.therm ∧ (queueFrame f d).holdup = d.holdup ∧
      (queueFrame f d).domains = d.domains ∧ (queueFrame f d).cpx = d.cpx ∧ (queueFrame f d).res = d.res ∧ (queueFrame f d).log = d.log ∧
      (queueFrame f d).settings = d.settings ∧ (queueFrame f d).sec = d.sec ∧ (queueFrame f d).cs = d.cs ∧
      (queueFrame f d).ports = d.ports ∧ (queueFrame f d).sub = d.sub ∧ (queueFrame f d).media = d.media ∧ (queueFrame f d).held = d.held ∧
      (queueFrame f d).delayed = d.delayed ∧ (queueFrame f d).damaged = d.damaged ∧ (queueFrame f d).free = d.free := by
  simp [queueFrame]

@[simp] theorem sendEmergency_frame (r : LogRecord) (d : Device) :
    (sendEmergency r d).ctl = d.ctl ∧ (sendEmergency r d).therm = d.therm ∧ (sendEmergency r d).holdup = d.holdup ∧
      (sendEmergency r d).domains = d.domains ∧ (sendEmergency r d).cpx = d.cpx ∧ (sendEmergency r d).res = d.res ∧
      (sendEmergency r d).log = d.log ∧ (sendEmergency r d).settings = d.settings ∧ (sendEmergency r d).sec = d.sec ∧
      (sendEmergency r d).cs = d.cs ∧ (sendEmergency r d).ports = d.ports ∧ (sendEmergency r d).sub = d.sub ∧
      (sendEmergency r d).media = d.media ∧ (sendEmergency r d).held = d.held ∧ (sendEmergency r d).delayed = d.delayed ∧
      (sendEmergency r d).damaged = d.damaged ∧ (sendEmergency r d).free = d.free := by
  and_intros <;> (unfold sendEmergency; try dsimp only) <;> (repeat' split) <;> simp

@[simp] theorem sendNotice_frame (r : LogRecord) (d : Device) :
    (sendNotice r d).ctl = d.ctl ∧ (sendNotice r d).therm = d.therm ∧ (sendNotice r d).holdup = d.holdup ∧
      (sendNotice r d).domains = d.domains ∧ (sendNotice r d).cpx = d.cpx ∧ (sendNotice r d).res = d.res ∧ (sendNotice r d).log = d.log ∧
      (sendNotice r d).settings = d.settings ∧ (sendNotice r d).sec = d.sec ∧ (sendNotice r d).cs = d.cs ∧
      (sendNotice r d).ports = d.ports ∧ (sendNotice r d).sub = d.sub ∧ (sendNotice r d).media = d.media ∧ (sendNotice r d).held = d.held ∧
      (sendNotice r d).delayed = d.delayed ∧ (sendNotice r d).damaged = d.damaged ∧ (sendNotice r d).free = d.free := by
  simp [sendNotice]

@[simp] theorem captureTelemetry_frame (d : Device) :
    (captureTelemetry d).ctl = d.ctl ∧ (captureTelemetry d).therm = d.therm ∧ (captureTelemetry d).holdup = d.holdup ∧
      (captureTelemetry d).domains = d.domains ∧ (captureTelemetry d).cpx = d.cpx ∧ (captureTelemetry d).ledgers = d.ledgers ∧
      (captureTelemetry d).res = d.res ∧ (captureTelemetry d).log = d.log ∧ (captureTelemetry d).settings = d.settings ∧
      (captureTelemetry d).can = d.can ∧ (captureTelemetry d).sec = d.sec ∧ (captureTelemetry d).cs = d.cs ∧
      (captureTelemetry d).media = d.media ∧ (captureTelemetry d).held = d.held ∧ (captureTelemetry d).delayed = d.delayed ∧
      (captureTelemetry d).damaged = d.damaged := by
  simp [captureTelemetry]

@[simp] theorem ringAppend_frame (r : LogRecord) (d : Device) :
    (ringAppend r d).ctl = d.ctl ∧ (ringAppend r d).therm = d.therm ∧ (ringAppend r d).holdup = d.holdup ∧
      (ringAppend r d).domains = d.domains ∧ (ringAppend r d).cpx = d.cpx ∧ (ringAppend r d).ledgers = d.ledgers ∧
      (ringAppend r d).res = d.res ∧ (ringAppend r d).settings = d.settings ∧ (ringAppend r d).can = d.can ∧ (ringAppend r d).sec = d.sec ∧
      (ringAppend r d).cs = d.cs ∧ (ringAppend r d).ports = d.ports ∧ (ringAppend r d).sub = d.sub ∧ (ringAppend r d).media = d.media ∧
      (ringAppend r d).held = d.held ∧ (ringAppend r d).delayed = d.delayed ∧ (ringAppend r d).damaged = d.damaged ∧
      (ringAppend r d).free = d.free := by
  and_intros <;> (unfold ringAppend; try dsimp only) <;> (repeat' split) <;> simp

@[simp] theorem appendCounterEntry_frame (e : CounterEntry) (d : Device) :
    (appendCounterEntry e d).objs = d.objs ∧ (appendCounterEntry e d).ctl = d.ctl ∧ (appendCounterEntry e d).therm = d.therm ∧
      (appendCounterEntry e d).holdup = d.holdup ∧ (appendCounterEntry e d).domains = d.domains ∧ (appendCounterEntry e d).cpx = d.cpx ∧
      (appendCounterEntry e d).ledgers = d.ledgers ∧ (appendCounterEntry e d).res = d.res ∧ (appendCounterEntry e d).log = d.log ∧
      (appendCounterEntry e d).settings = d.settings ∧ (appendCounterEntry e d).can = d.can ∧ (appendCounterEntry e d).sec = d.sec ∧
      (appendCounterEntry e d).ports = d.ports ∧ (appendCounterEntry e d).sub = d.sub ∧ (appendCounterEntry e d).media = d.media ∧
      (appendCounterEntry e d).held = d.held ∧ (appendCounterEntry e d).delayed = d.delayed ∧ (appendCounterEntry e d).damaged = d.damaged ∧
      (appendCounterEntry e d).free = d.free := by
  simp [appendCounterEntry]

@[simp] theorem raiseCeiling_frame (d : Device) :
    (raiseCeiling d).objs = d.objs ∧ (raiseCeiling d).ctl = d.ctl ∧ (raiseCeiling d).therm = d.therm ∧ (raiseCeiling d).holdup = d.holdup ∧
      (raiseCeiling d).domains = d.domains ∧ (raiseCeiling d).cpx = d.cpx ∧ (raiseCeiling d).ledgers = d.ledgers ∧
      (raiseCeiling d).res = d.res ∧ (raiseCeiling d).settings = d.settings ∧ (raiseCeiling d).can = d.can ∧ (raiseCeiling d).sec = d.sec ∧
      (raiseCeiling d).ports = d.ports ∧ (raiseCeiling d).sub = d.sub ∧ (raiseCeiling d).media = d.media ∧ (raiseCeiling d).held = d.held ∧
      (raiseCeiling d).delayed = d.delayed ∧ (raiseCeiling d).damaged = d.damaged ∧ (raiseCeiling d).free = d.free := by
  simp [raiseCeiling]

@[simp] theorem acceptRecord_frame (code : Nat) (snaps : List Nat) (d : Device) :
    (acceptRecord code snaps d).ctl = d.ctl ∧ (acceptRecord code snaps d).therm = d.therm ∧ (acceptRecord code snaps d).holdup = d.holdup ∧
      (acceptRecord code snaps d).domains = d.domains ∧ (acceptRecord code snaps d).cpx = d.cpx ∧ (acceptRecord code snaps d).res = d.res ∧
      (acceptRecord code snaps d).settings = d.settings ∧ (acceptRecord code snaps d).sec = d.sec ∧
      (acceptRecord code snaps d).media = d.media ∧ (acceptRecord code snaps d).held = d.held ∧
      (acceptRecord code snaps d).delayed = d.delayed ∧ (acceptRecord code snaps d).damaged = d.damaged := by
  simp [acceptRecord]

@[simp] theorem logRec_frame (code : Nat) (snaps : List Nat) (d : Device) :
    (logRec code snaps d).ctl = d.ctl ∧ (logRec code snaps d).therm = d.therm ∧ (logRec code snaps d).holdup = d.holdup ∧
      (logRec code snaps d).domains = d.domains ∧ (logRec code snaps d).cpx = d.cpx ∧ (logRec code snaps d).res = d.res ∧
      (logRec code snaps d).settings = d.settings ∧ (logRec code snaps d).sec = d.sec ∧ (logRec code snaps d).media = d.media ∧
      (logRec code snaps d).held = d.held ∧ (logRec code snaps d).delayed = d.delayed ∧ (logRec code snaps d).damaged = d.damaged := by
  simp [logRec]

@[simp] theorem acceptWaiting_frame (fuel : Nat) (d : Device) :
    (acceptWaiting fuel d).ctl = d.ctl ∧ (acceptWaiting fuel d).therm = d.therm ∧ (acceptWaiting fuel d).holdup = d.holdup ∧
      (acceptWaiting fuel d).domains = d.domains ∧ (acceptWaiting fuel d).cpx = d.cpx ∧ (acceptWaiting fuel d).res = d.res ∧
      (acceptWaiting fuel d).settings = d.settings ∧ (acceptWaiting fuel d).sec = d.sec ∧ (acceptWaiting fuel d).media = d.media ∧
      (acceptWaiting fuel d).held = d.held ∧ (acceptWaiting fuel d).delayed = d.delayed ∧ (acceptWaiting fuel d).damaged = d.damaged := by
  induction fuel generalizing d with
  | zero => simp [acceptWaiting]
  | succ k ih =>
    unfold acceptWaiting
    split
    · simp
    · split <;> simp [ih]

@[simp] theorem uncorrectableError_frame (p bit header : Nat) (d : Device) :
    (uncorrectableError p bit header d).ctl = d.ctl ∧ (uncorrectableError p bit header d).therm = d.therm ∧
      (uncorrectableError p bit header d).holdup = d.holdup ∧ (uncorrectableError p bit header d).domains = d.domains ∧
      (uncorrectableError p bit header d).cpx = d.cpx ∧ (uncorrectableError p bit header d).res = d.res ∧
      (uncorrectableError p bit header d).settings = d.settings ∧ (uncorrectableError p bit header d).sec = d.sec ∧
      (uncorrectableError p bit header d).media = d.media ∧ (uncorrectableError p bit header d).held = d.held ∧
      (uncorrectableError p bit header d).delayed = d.delayed ∧ (uncorrectableError p bit header d).damaged = d.damaged := by
  simp [uncorrectableError]

@[simp] theorem withholdOne_frame (d : Device) (o : Nat) :
    (withholdOne d o).objs = d.objs ∧ (withholdOne d o).ctl = d.ctl ∧ (withholdOne d o).therm = d.therm ∧
      (withholdOne d o).holdup = d.holdup ∧ (withholdOne d o).domains = d.domains ∧ (withholdOne d o).cpx = d.cpx ∧
      (withholdOne d o).res = d.res ∧ (withholdOne d o).log = d.log ∧ (withholdOne d o).settings = d.settings ∧
      (withholdOne d o).can = d.can ∧ (withholdOne d o).sec = d.sec ∧ (withholdOne d o).cs = d.cs ∧ (withholdOne d o).ports = d.ports ∧
      (withholdOne d o).sub = d.sub ∧ (withholdOne d o).media = d.media ∧ (withholdOne d o).held = d.held ∧
      (withholdOne d o).delayed = d.delayed ∧ (withholdOne d o).damaged = d.damaged ∧ (withholdOne d o).free = d.free := by
  simp [withholdOne]

@[simp] theorem finishResize_frame (d : Device) :
    (finishResize d).ctl = d.ctl ∧ (finishResize d).therm = d.therm ∧ (finishResize d).holdup = d.holdup ∧
      (finishResize d).domains = d.domains ∧ (finishResize d).cpx = d.cpx ∧ (finishResize d).settings = d.settings ∧
      (finishResize d).sec = d.sec ∧ (finishResize d).media = d.media ∧ (finishResize d).held = d.held ∧
      (finishResize d).delayed = d.delayed ∧ (finishResize d).damaged = d.damaged := by
  and_intros <;> (unfold finishResize; try dsimp only) <;> (repeat' split) <;> simp

@[simp] theorem withhold_frame (d : Device) :
    (withhold d).ctl = d.ctl ∧ (withhold d).therm = d.therm ∧ (withhold d).holdup = d.holdup ∧ (withhold d).domains = d.domains ∧
      (withhold d).cpx = d.cpx ∧ (withhold d).settings = d.settings ∧ (withhold d).sec = d.sec ∧ (withhold d).media = d.media ∧
      (withhold d).held = d.held ∧ (withhold d).delayed = d.delayed ∧ (withhold d).damaged = d.damaged := by
  simp [withhold]

@[simp] theorem grantRequest_frame (r : TokenReq) (d : Device) :
    (grantRequest r d).objs = d.objs ∧ (grantRequest r d).ctl = d.ctl ∧ (grantRequest r d).therm = d.therm ∧
      (grantRequest r d).holdup = d.holdup ∧ (grantRequest r d).domains = d.domains ∧ (grantRequest r d).cpx = d.cpx ∧
      (grantRequest r d).log = d.log ∧ (grantRequest r d).settings = d.settings ∧ (grantRequest r d).can = d.can ∧
      (grantRequest r d).sec = d.sec ∧ (grantRequest r d).cs = d.cs ∧ (grantRequest r d).ports = d.ports ∧ (grantRequest r d).sub = d.sub ∧
      (grantRequest r d).media = d.media ∧ (grantRequest r d).held = d.held ∧ (grantRequest r d).delayed = d.delayed ∧
      (grantRequest r d).damaged = d.damaged ∧ (grantRequest r d).free = d.free := by
  simp [grantRequest]

@[simp] theorem requestTokens_frame (bank amount : Nat) (flush : Bool) (d : Device) :
    (requestTokens bank amount flush d).objs = d.objs ∧ (requestTokens bank amount flush d).ctl = d.ctl ∧
      (requestTokens bank amount flush d).therm = d.therm ∧ (requestTokens bank amount flush d).holdup = d.holdup ∧
      (requestTokens bank amount flush d).domains = d.domains ∧ (requestTokens bank amount flush d).cpx = d.cpx ∧
      (requestTokens bank amount flush d).log = d.log ∧ (requestTokens bank amount flush d).settings = d.settings ∧
      (requestTokens bank amount flush d).can = d.can ∧ (requestTokens bank amount flush d).sec = d.sec ∧
      (requestTokens bank amount flush d).cs = d.cs ∧ (requestTokens bank amount flush d).ports = d.ports ∧
      (requestTokens bank amount flush d).sub = d.sub ∧ (requestTokens bank amount flush d).media = d.media ∧
      (requestTokens bank amount flush d).held = d.held ∧ (requestTokens bank amount flush d).delayed = d.delayed ∧
      (requestTokens bank amount flush d).damaged = d.damaged ∧ (requestTokens bank amount flush d).free = d.free := by
  simp [requestTokens]

@[simp] theorem returnTokens_frame (bank amount : Nat) (d : Device) :
    (returnTokens bank amount d).ctl = d.ctl ∧ (returnTokens bank amount d).therm = d.therm ∧
      (returnTokens bank amount d).holdup = d.holdup ∧ (returnTokens bank amount d).domains = d.domains ∧
      (returnTokens bank amount d).cpx = d.cpx ∧ (returnTokens bank amount d).settings = d.settings ∧
      (returnTokens bank amount d).sec = d.sec ∧ (returnTokens bank amount d).media = d.media ∧ (returnTokens bank amount d).held = d.held ∧
      (returnTokens bank amount d).delayed = d.delayed ∧ (returnTokens bank amount d).damaged = d.damaged := by
  simp [returnTokens]

@[simp] theorem returnAllTokens_frame (bank : Nat) (d : Device) :
    (returnAllTokens bank d).ctl = d.ctl ∧ (returnAllTokens bank d).therm = d.therm ∧ (returnAllTokens bank d).holdup = d.holdup ∧
      (returnAllTokens bank d).domains = d.domains ∧ (returnAllTokens bank d).cpx = d.cpx ∧ (returnAllTokens bank d).settings = d.settings ∧
      (returnAllTokens bank d).sec = d.sec ∧ (returnAllTokens bank d).media = d.media ∧ (returnAllTokens bank d).held = d.held ∧
      (returnAllTokens bank d).delayed = d.delayed ∧ (returnAllTokens bank d).damaged = d.damaged := by
  simp [returnAllTokens]

@[simp] theorem sendOnLink_frame (link : Nat) (d : Device) :
    (sendOnLink link d).objs = d.objs ∧ (sendOnLink link d).ctl = d.ctl ∧ (sendOnLink link d).therm = d.therm ∧
      (sendOnLink link d).holdup = d.holdup ∧ (sendOnLink link d).domains = d.domains ∧ (sendOnLink link d).cpx = d.cpx ∧
      (sendOnLink link d).log = d.log ∧ (sendOnLink link d).settings = d.settings ∧ (sendOnLink link d).can = d.can ∧
      (sendOnLink link d).sec = d.sec ∧ (sendOnLink link d).cs = d.cs ∧ (sendOnLink link d).ports = d.ports ∧
      (sendOnLink link d).sub = d.sub ∧ (sendOnLink link d).media = d.media ∧ (sendOnLink link d).held = d.held ∧
      (sendOnLink link d).delayed = d.delayed ∧ (sendOnLink link d).damaged = d.damaged ∧ (sendOnLink link d).free = d.free := by
  simp [sendOnLink]

@[simp] theorem clearLink_frame (d : Device) (link : Nat) :
    (clearLink d link).objs = d.objs ∧ (clearLink d link).ctl = d.ctl ∧ (clearLink d link).therm = d.therm ∧
      (clearLink d link).holdup = d.holdup ∧ (clearLink d link).domains = d.domains ∧ (clearLink d link).cpx = d.cpx ∧
      (clearLink d link).log = d.log ∧ (clearLink d link).settings = d.settings ∧ (clearLink d link).can = d.can ∧
      (clearLink d link).sec = d.sec ∧ (clearLink d link).cs = d.cs ∧ (clearLink d link).ports = d.ports ∧ (clearLink d link).sub = d.sub ∧
      (clearLink d link).media = d.media ∧ (clearLink d link).held = d.held ∧ (clearLink d link).delayed = d.delayed ∧
      (clearLink d link).damaged = d.damaged ∧ (clearLink d link).free = d.free := by
  simp [clearLink]

@[simp] theorem returnCredits_frame (dd : Nat) (d : Device) :
    (returnCredits dd d).objs = d.objs ∧ (returnCredits dd d).ctl = d.ctl ∧ (returnCredits dd d).therm = d.therm ∧
      (returnCredits dd d).holdup = d.holdup ∧ (returnCredits dd d).domains = d.domains ∧ (returnCredits dd d).cpx = d.cpx ∧
      (returnCredits dd d).log = d.log ∧ (returnCredits dd d).settings = d.settings ∧ (returnCredits dd d).can = d.can ∧
      (returnCredits dd d).sec = d.sec ∧ (returnCredits dd d).cs = d.cs ∧ (returnCredits dd d).ports = d.ports ∧
      (returnCredits dd d).sub = d.sub ∧ (returnCredits dd d).media = d.media ∧ (returnCredits dd d).held = d.held ∧
      (returnCredits dd d).delayed = d.delayed ∧ (returnCredits dd d).damaged = d.damaged ∧ (returnCredits dd d).free = d.free := by
  simp [returnCredits]

@[simp] theorem resizePool_frame (new : Nat) (d : Device) :
    (resizePool new d).ctl = d.ctl ∧ (resizePool new d).therm = d.therm ∧ (resizePool new d).holdup = d.holdup ∧
      (resizePool new d).domains = d.domains ∧ (resizePool new d).cpx = d.cpx ∧ (resizePool new d).settings = d.settings ∧
      (resizePool new d).sec = d.sec ∧ (resizePool new d).media = d.media ∧ (resizePool new d).held = d.held ∧
      (resizePool new d).delayed = d.delayed ∧ (resizePool new d).damaged = d.damaged := by
  simp [resizePool]

@[simp] theorem updateCauses_frame (d : Device) :
    (updateCauses d).objs = d.objs ∧ (updateCauses d).therm = d.therm ∧ (updateCauses d).holdup = d.holdup ∧
      (updateCauses d).domains = d.domains ∧ (updateCauses d).cpx = d.cpx ∧ (updateCauses d).ledgers = d.ledgers ∧
      (updateCauses d).res = d.res ∧ (updateCauses d).log = d.log ∧ (updateCauses d).settings = d.settings ∧ (updateCauses d).can = d.can ∧
      (updateCauses d).sec = d.sec ∧ (updateCauses d).cs = d.cs ∧ (updateCauses d).ports = d.ports ∧ (updateCauses d).sub = d.sub ∧
      (updateCauses d).media = d.media ∧ (updateCauses d).held = d.held ∧ (updateCauses d).delayed = d.delayed ∧
      (updateCauses d).damaged = d.damaged ∧ (updateCauses d).free = d.free := by
  simp [updateCauses]

@[simp] theorem queueHeartbeat_frame (ack : Option Nat) (d : Device) :
    (queueHeartbeat ack d).ctl = d.ctl ∧ (queueHeartbeat ack d).therm = d.therm ∧ (queueHeartbeat ack d).holdup = d.holdup ∧
      (queueHeartbeat ack d).domains = d.domains ∧ (queueHeartbeat ack d).cpx = d.cpx ∧ (queueHeartbeat ack d).res = d.res ∧
      (queueHeartbeat ack d).log = d.log ∧ (queueHeartbeat ack d).settings = d.settings ∧ (queueHeartbeat ack d).sec = d.sec ∧
      (queueHeartbeat ack d).cs = d.cs ∧ (queueHeartbeat ack d).ports = d.ports ∧ (queueHeartbeat ack d).sub = d.sub ∧
      (queueHeartbeat ack d).media = d.media ∧ (queueHeartbeat ack d).held = d.held ∧ (queueHeartbeat ack d).delayed = d.delayed ∧
      (queueHeartbeat ack d).damaged = d.damaged ∧ (queueHeartbeat ack d).free = d.free := by
  simp [queueHeartbeat]

@[simp] theorem setThermalBit_frame (bank k : Nat) (b : Bool) (d : Device) :
    (setThermalBit bank k b d).ctl = d.ctl ∧ (setThermalBit bank k b d).therm = d.therm ∧ (setThermalBit bank k b d).holdup = d.holdup ∧
      (setThermalBit bank k b d).domains = d.domains ∧ (setThermalBit bank k b d).cpx = d.cpx ∧
      (setThermalBit bank k b d).ledgers = d.ledgers ∧ (setThermalBit bank k b d).res = d.res ∧ (setThermalBit bank k b d).log = d.log ∧
      (setThermalBit bank k b d).settings = d.settings ∧ (setThermalBit bank k b d).can = d.can ∧ (setThermalBit bank k b d).sec = d.sec ∧
      (setThermalBit bank k b d).cs = d.cs ∧ (setThermalBit bank k b d).ports = d.ports ∧ (setThermalBit bank k b d).sub = d.sub ∧
      (setThermalBit bank k b d).media = d.media ∧ (setThermalBit bank k b d).held = d.held ∧
      (setThermalBit bank k b d).delayed = d.delayed ∧ (setThermalBit bank k b d).damaged = d.damaged ∧
      (setThermalBit bank k b d).free = d.free := by
  simp [setThermalBit]

@[simp] theorem startDieThrottle_frame (d : Device) :
    (startDieThrottle d).ctl = d.ctl ∧ (startDieThrottle d).holdup = d.holdup ∧ (startDieThrottle d).domains = d.domains ∧
      (startDieThrottle d).cpx = d.cpx ∧ (startDieThrottle d).settings = d.settings ∧ (startDieThrottle d).sec = d.sec ∧
      (startDieThrottle d).media = d.media ∧ (startDieThrottle d).held = d.held ∧ (startDieThrottle d).delayed = d.delayed ∧
      (startDieThrottle d).damaged = d.damaged := by
  simp [startDieThrottle]

@[simp] theorem endDieThrottle_frame (d : Device) :
    (endDieThrottle d).ctl = d.ctl ∧ (endDieThrottle d).holdup = d.holdup ∧ (endDieThrottle d).domains = d.domains ∧
      (endDieThrottle d).cpx = d.cpx ∧ (endDieThrottle d).settings = d.settings ∧ (endDieThrottle d).sec = d.sec ∧
      (endDieThrottle d).media = d.media ∧ (endDieThrottle d).held = d.held ∧ (endDieThrottle d).delayed = d.delayed ∧
      (endDieThrottle d).damaged = d.damaged := by
  simp [endDieThrottle]

@[simp] theorem startCarrierThrottle_frame (bank : Nat) (d : Device) :
    (startCarrierThrottle bank d).ctl = d.ctl ∧ (startCarrierThrottle bank d).therm = d.therm ∧
      (startCarrierThrottle bank d).holdup = d.holdup ∧ (startCarrierThrottle bank d).domains = d.domains ∧
      (startCarrierThrottle bank d).cpx = d.cpx ∧ (startCarrierThrottle bank d).settings = d.settings ∧
      (startCarrierThrottle bank d).sec = d.sec ∧ (startCarrierThrottle bank d).media = d.media ∧
      (startCarrierThrottle bank d).held = d.held ∧ (startCarrierThrottle bank d).delayed = d.delayed ∧
      (startCarrierThrottle bank d).damaged = d.damaged := by
  simp [startCarrierThrottle]

@[simp] theorem endCarrierThrottle_frame (bank : Nat) (d : Device) :
    (endCarrierThrottle bank d).ctl = d.ctl ∧ (endCarrierThrottle bank d).therm = d.therm ∧ (endCarrierThrottle bank d).holdup = d.holdup ∧
      (endCarrierThrottle bank d).domains = d.domains ∧ (endCarrierThrottle bank d).cpx = d.cpx ∧
      (endCarrierThrottle bank d).settings = d.settings ∧ (endCarrierThrottle bank d).sec = d.sec ∧
      (endCarrierThrottle bank d).media = d.media ∧ (endCarrierThrottle bank d).held = d.held ∧
      (endCarrierThrottle bank d).delayed = d.delayed ∧ (endCarrierThrottle bank d).damaged = d.damaged := by
  simp [endCarrierThrottle]

@[simp] theorem updateThrottling_frame (d : Device) :
    (updateThrottling d).ctl = d.ctl ∧ (updateThrottling d).holdup = d.holdup ∧ (updateThrottling d).domains = d.domains ∧
      (updateThrottling d).cpx = d.cpx ∧ (updateThrottling d).settings = d.settings ∧ (updateThrottling d).sec = d.sec ∧
      (updateThrottling d).media = d.media ∧ (updateThrottling d).held = d.held ∧ (updateThrottling d).delayed = d.delayed ∧
      (updateThrottling d).damaged = d.damaged := by
  simp [updateThrottling]

@[simp] theorem enterThrottling_frame (d : Device) :
    (enterThrottling d).objs = d.objs ∧ (enterThrottling d).ctl = d.ctl ∧ (enterThrottling d).holdup = d.holdup ∧
      (enterThrottling d).domains = d.domains ∧ (enterThrottling d).cpx = d.cpx ∧ (enterThrottling d).ledgers = d.ledgers ∧
      (enterThrottling d).res = d.res ∧ (enterThrottling d).log = d.log ∧ (enterThrottling d).settings = d.settings ∧
      (enterThrottling d).can = d.can ∧ (enterThrottling d).sec = d.sec ∧ (enterThrottling d).cs = d.cs ∧
      (enterThrottling d).ports = d.ports ∧ (enterThrottling d).sub = d.sub ∧ (enterThrottling d).media = d.media ∧
      (enterThrottling d).held = d.held ∧ (enterThrottling d).delayed = d.delayed ∧ (enterThrottling d).damaged = d.damaged ∧
      (enterThrottling d).free = d.free := by
  simp [enterThrottling]

@[simp] theorem cutEntry_frame (dd : Nat) (d : Device) :
    (cutEntry dd d).ctl = d.ctl ∧ (cutEntry dd d).therm = d.therm ∧ (cutEntry dd d).holdup = d.holdup ∧ (cutEntry dd d).cpx = d.cpx ∧
      (cutEntry dd d).ledgers = d.ledgers ∧ (cutEntry dd d).res = d.res ∧ (cutEntry dd d).log = d.log ∧
      (cutEntry dd d).settings = d.settings ∧ (cutEntry dd d).can = d.can ∧ (cutEntry dd d).sec = d.sec ∧ (cutEntry dd d).cs = d.cs ∧
      (cutEntry dd d).ports = d.ports ∧ (cutEntry dd d).sub = d.sub ∧ (cutEntry dd d).media = d.media ∧ (cutEntry dd d).held = d.held ∧
      (cutEntry dd d).delayed = d.delayed ∧ (cutEntry dd d).damaged = d.damaged ∧ (cutEntry dd d).free = d.free := by
  and_intros <;> (unfold cutEntry; try dsimp only) <;> (repeat' split) <;> simp

@[simp] theorem setDomains_frame (dds : List Nat) (st : Nat) (d : Device) :
    (setDomains dds st d).ctl = d.ctl ∧ (setDomains dds st d).therm = d.therm ∧ (setDomains dds st d).holdup = d.holdup ∧
      (setDomains dds st d).cpx = d.cpx ∧ (setDomains dds st d).log = d.log ∧ (setDomains dds st d).settings = d.settings ∧
      (setDomains dds st d).can = d.can ∧ (setDomains dds st d).sec = d.sec ∧ (setDomains dds st d).cs = d.cs ∧
      (setDomains dds st d).ports = d.ports ∧ (setDomains dds st d).sub = d.sub ∧ (setDomains dds st d).media = d.media ∧
      (setDomains dds st d).held = d.held ∧ (setDomains dds st d).delayed = d.delayed ∧ (setDomains dds st d).damaged = d.damaged ∧
      (setDomains dds st d).free = d.free := by
  simp [setDomains]

@[simp] theorem domainFloor_frame (d : Device) :
    (domainFloor d).ctl = d.ctl ∧ (domainFloor d).therm = d.therm ∧ (domainFloor d).holdup = d.holdup ∧ (domainFloor d).cpx = d.cpx ∧
      (domainFloor d).log = d.log ∧ (domainFloor d).settings = d.settings ∧ (domainFloor d).can = d.can ∧ (domainFloor d).sec = d.sec ∧
      (domainFloor d).cs = d.cs ∧ (domainFloor d).ports = d.ports ∧ (domainFloor d).sub = d.sub ∧ (domainFloor d).media = d.media ∧
      (domainFloor d).held = d.held ∧ (domainFloor d).delayed = d.delayed ∧ (domainFloor d).damaged = d.damaged ∧
      (domainFloor d).free = d.free := by
  and_intros <;> (unfold domainFloor; try dsimp only) <;> (repeat' split) <;> simp

@[simp] theorem holdComplexes_frame (d : Device) :
    (holdComplexes d).ctl = d.ctl ∧ (holdComplexes d).therm = d.therm ∧ (holdComplexes d).holdup = d.holdup ∧
      (holdComplexes d).domains = d.domains ∧ (holdComplexes d).ledgers = d.ledgers ∧ (holdComplexes d).res = d.res ∧
      (holdComplexes d).log = d.log ∧ (holdComplexes d).settings = d.settings ∧ (holdComplexes d).can = d.can ∧
      (holdComplexes d).sec = d.sec ∧ (holdComplexes d).cs = d.cs ∧ (holdComplexes d).ports = d.ports ∧ (holdComplexes d).sub = d.sub ∧
      (holdComplexes d).media = d.media ∧ (holdComplexes d).held = d.held ∧ (holdComplexes d).delayed = d.delayed ∧
      (holdComplexes d).damaged = d.damaged ∧ (holdComplexes d).free = d.free := by
  simp [holdComplexes]

@[simp] theorem holdInWake_frame (m : Mode) (d : Device) :
    (holdInWake m d).objs = d.objs ∧ (holdInWake m d).therm = d.therm ∧ (holdInWake m d).holdup = d.holdup ∧
      (holdInWake m d).domains = d.domains ∧ (holdInWake m d).cpx = d.cpx ∧ (holdInWake m d).ledgers = d.ledgers ∧
      (holdInWake m d).res = d.res ∧ (holdInWake m d).log = d.log ∧ (holdInWake m d).settings = d.settings ∧ (holdInWake m d).can = d.can ∧
      (holdInWake m d).sec = d.sec ∧ (holdInWake m d).cs = d.cs ∧ (holdInWake m d).ports = d.ports ∧ (holdInWake m d).sub = d.sub ∧
      (holdInWake m d).media = d.media ∧ (holdInWake m d).held = d.held ∧ (holdInWake m d).delayed = d.delayed ∧
      (holdInWake m d).damaged = d.damaged ∧ (holdInWake m d).free = d.free := by
  simp [holdInWake]

@[simp] theorem changeMode_frame (m : Mode) (d : Device) :
    (changeMode m d).holdup = d.holdup ∧ (changeMode m d).settings = d.settings ∧ (changeMode m d).sec = d.sec ∧
      (changeMode m d).media = d.media ∧ (changeMode m d).held = d.held ∧ (changeMode m d).delayed = d.delayed ∧
      (changeMode m d).damaged = d.damaged := by
  simp [changeMode]

@[simp] theorem abandonTest_frame (d : Device) :
    (abandonTest d).therm = d.therm ∧ (abandonTest d).domains = d.domains ∧ (abandonTest d).cpx = d.cpx ∧
      (abandonTest d).ledgers = d.ledgers ∧ (abandonTest d).res = d.res ∧ (abandonTest d).log = d.log ∧
      (abandonTest d).settings = d.settings ∧ (abandonTest d).can = d.can ∧ (abandonTest d).sec = d.sec ∧ (abandonTest d).cs = d.cs ∧
      (abandonTest d).ports = d.ports ∧ (abandonTest d).sub = d.sub ∧ (abandonTest d).media = d.media ∧ (abandonTest d).held = d.held ∧
      (abandonTest d).delayed = d.delayed ∧ (abandonTest d).damaged = d.damaged ∧ (abandonTest d).free = d.free := by
  simp [abandonTest]

@[simp] theorem flushRequests_frame (d : Device) :
    (flushRequests d).objs = d.objs ∧ (flushRequests d).ctl = d.ctl ∧ (flushRequests d).therm = d.therm ∧
      (flushRequests d).holdup = d.holdup ∧ (flushRequests d).domains = d.domains ∧ (flushRequests d).cpx = d.cpx ∧
      (flushRequests d).ledgers = d.ledgers ∧ (flushRequests d).log = d.log ∧ (flushRequests d).settings = d.settings ∧
      (flushRequests d).can = d.can ∧ (flushRequests d).sec = d.sec ∧ (flushRequests d).cs = d.cs ∧ (flushRequests d).ports = d.ports ∧
      (flushRequests d).sub = d.sub ∧ (flushRequests d).media = d.media ∧ (flushRequests d).held = d.held ∧
      (flushRequests d).delayed = d.delayed ∧ (flushRequests d).damaged = d.damaged ∧ (flushRequests d).free = d.free := by
  simp [flushRequests]

@[simp] theorem startFlush_frame (d : Device) :
    (startFlush d).objs = d.objs ∧ (startFlush d).therm = d.therm ∧ (startFlush d).holdup = d.holdup ∧ (startFlush d).domains = d.domains ∧
      (startFlush d).cpx = d.cpx ∧ (startFlush d).ledgers = d.ledgers ∧ (startFlush d).settings = d.settings ∧ (startFlush d).can = d.can ∧
      (startFlush d).sec = d.sec ∧ (startFlush d).cs = d.cs ∧ (startFlush d).ports = d.ports ∧ (startFlush d).sub = d.sub ∧
      (startFlush d).media = d.media ∧ (startFlush d).held = d.held ∧ (startFlush d).delayed = d.delayed ∧
      (startFlush d).damaged = d.damaged ∧ (startFlush d).free = d.free := by
  simp [startFlush]

@[simp] theorem enterFlush_frame (d : Device) :
    (enterFlush d).settings = d.settings ∧ (enterFlush d).sec = d.sec ∧ (enterFlush d).media = d.media ∧ (enterFlush d).held = d.held ∧
      (enterFlush d).delayed = d.delayed ∧ (enterFlush d).damaged = d.damaged := by
  simp [enterFlush]

@[simp] theorem setShst_frame (p v : Nat) (d : Device) :
    (setShst p v d).objs = d.objs ∧ (setShst p v d).ctl = d.ctl ∧ (setShst p v d).therm = d.therm ∧ (setShst p v d).holdup = d.holdup ∧
      (setShst p v d).domains = d.domains ∧ (setShst p v d).cpx = d.cpx ∧ (setShst p v d).ledgers = d.ledgers ∧
      (setShst p v d).res = d.res ∧ (setShst p v d).log = d.log ∧ (setShst p v d).settings = d.settings ∧ (setShst p v d).can = d.can ∧
      (setShst p v d).sec = d.sec ∧ (setShst p v d).cs = d.cs ∧ (setShst p v d).sub = d.sub ∧ (setShst p v d).media = d.media ∧
      (setShst p v d).held = d.held ∧ (setShst p v d).delayed = d.delayed ∧ (setShst p v d).damaged = d.damaged ∧
      (setShst p v d).free = d.free := by
  simp [setShst]

@[simp] theorem shutdownReported_frame (d : Device) :
    (shutdownReported d).objs = d.objs ∧ (shutdownReported d).ctl = d.ctl ∧ (shutdownReported d).therm = d.therm ∧
      (shutdownReported d).holdup = d.holdup ∧ (shutdownReported d).domains = d.domains ∧ (shutdownReported d).cpx = d.cpx ∧
      (shutdownReported d).ledgers = d.ledgers ∧ (shutdownReported d).res = d.res ∧ (shutdownReported d).log = d.log ∧
      (shutdownReported d).settings = d.settings ∧ (shutdownReported d).can = d.can ∧ (shutdownReported d).sec = d.sec ∧
      (shutdownReported d).cs = d.cs ∧ (shutdownReported d).sub = d.sub ∧ (shutdownReported d).media = d.media ∧
      (shutdownReported d).held = d.held ∧ (shutdownReported d).delayed = d.delayed ∧ (shutdownReported d).damaged = d.damaged ∧
      (shutdownReported d).free = d.free := by
  simp [shutdownReported]

@[simp] theorem setCfs_frame (d : Device) :
    (setCfs d).objs = d.objs ∧ (setCfs d).ctl = d.ctl ∧ (setCfs d).therm = d.therm ∧ (setCfs d).holdup = d.holdup ∧
      (setCfs d).domains = d.domains ∧ (setCfs d).cpx = d.cpx ∧ (setCfs d).ledgers = d.ledgers ∧ (setCfs d).res = d.res ∧
      (setCfs d).log = d.log ∧ (setCfs d).settings = d.settings ∧ (setCfs d).can = d.can ∧ (setCfs d).sec = d.sec ∧ (setCfs d).cs = d.cs ∧
      (setCfs d).sub = d.sub ∧ (setCfs d).media = d.media ∧ (setCfs d).held = d.held ∧ (setCfs d).delayed = d.delayed ∧
      (setCfs d).damaged = d.damaged ∧ (setCfs d).free = d.free := by
  simp [setCfs]

@[simp] theorem enterLockdown_frame (d : Device) :
    (enterLockdown d).settings = d.settings ∧ (enterLockdown d).sec = d.sec ∧ (enterLockdown d).held = d.held ∧
      (enterLockdown d).delayed = d.delayed ∧ (enterLockdown d).damaged = d.damaged := by
  simp [enterLockdown]

@[simp] theorem toLockdown_frame (d : Device) :
    (toLockdown d).settings = d.settings ∧ (toLockdown d).sec = d.sec ∧ (toLockdown d).held = d.held ∧ (toLockdown d).delayed = d.delayed ∧
      (toLockdown d).damaged = d.damaged := by
  simp [toLockdown]

@[simp] theorem clearAllPens_frame (d : Device) :
    (clearAllPens d).ctl = d.ctl ∧ (clearAllPens d).therm = d.therm ∧ (clearAllPens d).holdup = d.holdup ∧
      (clearAllPens d).domains = d.domains ∧ (clearAllPens d).cpx = d.cpx ∧ (clearAllPens d).settings = d.settings ∧
      (clearAllPens d).sec = d.sec ∧ (clearAllPens d).held = d.held ∧ (clearAllPens d).delayed = d.delayed ∧
      (clearAllPens d).damaged = d.damaged := by
  simp [clearAllPens]

@[simp] theorem domainsOff_frame (d : Device) :
    (domainsOff d).ctl = d.ctl ∧ (domainsOff d).therm = d.therm ∧ (domainsOff d).holdup = d.holdup ∧ (domainsOff d).cpx = d.cpx ∧
      (domainsOff d).log = d.log ∧ (domainsOff d).settings = d.settings ∧ (domainsOff d).can = d.can ∧ (domainsOff d).sec = d.sec ∧
      (domainsOff d).cs = d.cs ∧ (domainsOff d).ports = d.ports ∧ (domainsOff d).sub = d.sub ∧ (domainsOff d).media = d.media ∧
      (domainsOff d).held = d.held ∧ (domainsOff d).delayed = d.delayed ∧ (domainsOff d).damaged = d.damaged ∧
      (domainsOff d).free = d.free := by
  simp [domainsOff]

@[simp] theorem linksDown_frame (d : Device) :
    (linksDown d).ctl = d.ctl ∧ (linksDown d).therm = d.therm ∧ (linksDown d).holdup = d.holdup ∧ (linksDown d).domains = d.domains ∧
      (linksDown d).cpx = d.cpx ∧ (linksDown d).ledgers = d.ledgers ∧ (linksDown d).res = d.res ∧ (linksDown d).log = d.log ∧
      (linksDown d).settings = d.settings ∧ (linksDown d).can = d.can ∧ (linksDown d).sec = d.sec ∧ (linksDown d).cs = d.cs ∧
      (linksDown d).sub = d.sub ∧ (linksDown d).held = d.held ∧ (linksDown d).delayed = d.delayed ∧ (linksDown d).damaged = d.damaged ∧
      (linksDown d).free = d.free := by
  simp [linksDown]

@[simp] theorem enterHalt_frame (d : Device) :
    (enterHalt d).settings = d.settings ∧ (enterHalt d).sec = d.sec ∧ (enterHalt d).held = d.held ∧ (enterHalt d).delayed = d.delayed ∧
      (enterHalt d).damaged = d.damaged := by
  simp [enterHalt]

@[simp] theorem toHalt_frame (sensor : Nat) (d : Device) :
    (toHalt sensor d).settings = d.settings ∧ (toHalt sensor d).sec = d.sec ∧ (toHalt sensor d).held = d.held ∧
      (toHalt sensor d).delayed = d.delayed ∧ (toHalt sensor d).damaged = d.damaged := by
  simp [toHalt]

@[simp] theorem heldOutputs_frame (d : Device) :
    (heldOutputs d).therm = d.therm ∧ (heldOutputs d).holdup = d.holdup ∧ (heldOutputs d).domains = d.domains ∧
      (heldOutputs d).cpx = d.cpx ∧ (heldOutputs d).ledgers = d.ledgers ∧ (heldOutputs d).res = d.res ∧ (heldOutputs d).log = d.log ∧
      (heldOutputs d).settings = d.settings ∧ (heldOutputs d).can = d.can ∧ (heldOutputs d).sec = d.sec ∧ (heldOutputs d).cs = d.cs ∧
      (heldOutputs d).sub = d.sub ∧ (heldOutputs d).held = d.held ∧ (heldOutputs d).delayed = d.delayed ∧
      (heldOutputs d).damaged = d.damaged ∧ (heldOutputs d).free = d.free := by
  simp [heldOutputs]

@[simp] theorem enterHeld_frame (d : Device) :
    (enterHeld d).settings = d.settings ∧ (enterHeld d).sec = d.sec ∧ (enterHeld d).held = d.held ∧ (enterHeld d).delayed = d.delayed ∧
      (enterHeld d).damaged = d.damaged := by
  simp [enterHeld]

@[simp] theorem ledgerBroken_frame (l o : Nat) (d : Device) :
    (ledgerBroken l o d).settings = d.settings ∧ (ledgerBroken l o d).sec = d.sec ∧ (ledgerBroken l o d).held = d.held ∧
      (ledgerBroken l o d).delayed = d.delayed ∧ (ledgerBroken l o d).damaged = d.damaged := by
  simp [ledgerBroken]

@[simp] theorem ledgerReturn_frame (l o n : Nat) (d : Device) :
    (ledgerReturn l o n d).settings = d.settings ∧ (ledgerReturn l o n d).sec = d.sec ∧ (ledgerReturn l o n d).held = d.held ∧
      (ledgerReturn l o n d).delayed = d.delayed ∧ (ledgerReturn l o n d).damaged = d.damaged := by
  simp [ledgerReturn]

@[simp] theorem totalMismatch_frame (l : Nat) (both : Bool) (d : Device) :
    (totalMismatch l both d).settings = d.settings ∧ (totalMismatch l both d).sec = d.sec ∧ (totalMismatch l both d).held = d.held ∧
      (totalMismatch l both d).delayed = d.delayed ∧ (totalMismatch l both d).damaged = d.damaged := by
  simp [totalMismatch]

@[simp] theorem readTotal_frame (l : Nat) (d : Device) :
    (readTotal l d).settings = d.settings ∧ (readTotal l d).sec = d.sec ∧ (readTotal l d).held = d.held ∧ (readTotal l d).delayed = d.delayed := by
  have h := takeDamage_frame 3 (totalLocation l) d
  unfold readTotal
  generalize takeDamage 3 (totalLocation l) d = r at h ⊢
  obtain ⟨_ | x, e⟩ := r
  all_goals
    dsimp only at h ⊢
    and_intros <;> (repeat' split) <;> simp [h]

@[simp] theorem checkLedger_frame (l : Nat) (d : Device) :
    (checkLedger l d).settings = d.settings ∧ (checkLedger l d).sec = d.sec ∧ (checkLedger l d).held = d.held ∧
      (checkLedger l d).delayed = d.delayed := by
  simp [checkLedger]

@[simp] theorem startShutdown_frame (d : Device) :
    (startShutdown d).objs = d.objs ∧ (startShutdown d).ctl = d.ctl ∧ (startShutdown d).therm = d.therm ∧
      (startShutdown d).holdup = d.holdup ∧ (startShutdown d).domains = d.domains ∧ (startShutdown d).cpx = d.cpx ∧
      (startShutdown d).ledgers = d.ledgers ∧ (startShutdown d).res = d.res ∧ (startShutdown d).log = d.log ∧
      (startShutdown d).settings = d.settings ∧ (startShutdown d).can = d.can ∧ (startShutdown d).sec = d.sec ∧
      (startShutdown d).cs = d.cs ∧ (startShutdown d).held = d.held ∧ (startShutdown d).delayed = d.delayed ∧
      (startShutdown d).damaged = d.damaged ∧ (startShutdown d).free = d.free := by
  simp [startShutdown]

@[simp] theorem dueTransitions_frame (d : Device) :
    (dueTransitions d).holdup = d.holdup ∧ (dueTransitions d).settings = d.settings ∧ (dueTransitions d).sec = d.sec ∧
      (dueTransitions d).held = d.held ∧ (dueTransitions d).delayed = d.delayed ∧ (dueTransitions d).damaged = d.damaged := by
  and_intros <;> (unfold dueTransitions; try dsimp only) <;> (repeat' split) <;> simp

end Sys2Proof.Machine
end

