-- ==== Sys2Proof/Laws/Aside.lean ====
section
/-! SUPPORT. What taking a record, queueing a frame, raising an event and posting a completion leave alone, and what a record adds. -/
namespace Sys2Proof.Machine

theorem Aside.refl (d : Device) : Aside d d := by constructor <;> intros <;> rfl

theorem Aside.trans {a b c : Device} (h : Aside a b) (g : Aside b c) : Aside a c where
  ctl := g.ctl.trans h.ctl
  therm := g.therm.trans h.therm
  holdup := g.holdup.trans h.holdup
  domains := g.domains.trans h.domains
  cpx := g.cpx.trans h.cpx
  res := g.res.trans h.res
  settings := g.settings.trans h.settings
  sec := g.sec.trans h.sec
  media := g.media.trans h.media
  held := g.held.trans h.held
  delayed := g.delayed.trans h.delayed
  damaged := g.damaged.trans h.damaged
  objs k hk := (g.objs k hk).trans (h.objs k hk)
  ledgers l hl := (g.ledgers l hl).trans (h.ledgers l hl)
  log := by rw [g.log, h.log]
  can := by rw [g.can, h.can]
  cs := by rw [g.cs, h.cs]
  sub := by rw [g.sub, h.sub]
  port p := by rw [g.port p, h.port p]

theorem Aside.ite (c : Prop) [Decidable c] {d a b : Device} (ha : Aside d a) (hb : Aside d b) : Aside d (if c then a else b) := by
  split <;> assumption

theorem Aside.foldl {β : Type} (g : Device → β → Device) (xs : List β) (h : ∀ d b, b ∈ xs → Aside d (g d b)) (d : Device) :
    Aside d (xs.foldl g d) := by
  induction xs generalizing d with
  | nil => exact Aside.refl d
  | cons x xs ih => exact (h d x (by simp)).trans (ih (fun e b hb => h e b (List.mem_cons_of_mem _ hb)) _)

/-! ### Objects, ledgers and ports -/

theorem setObj_aside {k : Nat} (hk : k ∈ asideObjs) (v : Nat) (d : Device) : Aside d (setObj k v d) := by
  constructor <;> try (intros; rfl)
  intro j hj
  exact getObj_setObj_ne (fun h => hj (by rw [h]; exact hk)) v d

theorem incObj_aside {k : Nat} (hk : k ∈ asideObjs) (d : Device) : Aside d (incObj k d) := setObj_aside hk _ d

theorem portLinkState_aside {p : Nat} (hp : p < 4) : Obj.portLinkState p ∈ asideObjs :=
  List.mem_append_right _ (List.mem_map_of_mem (List.mem_range.mpr hp))

theorem updLedger_aside (f : Ledger → Ledger) (d : Device) : Aside d (updLedger 7 f d) := by
  constructor <;> try (intros; rfl)
  intro l hl
  simp [ledger, updLedger, smGet_smUpd, hl]

theorem ledgerTake_aside (o n : Nat) (d : Device) : Aside d (ledgerTake 7 o n d) := updLedger_aside _ d

theorem countRefused_aside (d : Device) : Aside d (countRefused 7 d) := updLedger_aside _ d

/-- A change of a port that keeps to its completion queues, its pending events and its messages. -/
theorem updPort_aside (p : Nat) (f : PortState → PortState) (d : Device)
    (h : ∀ t, f t = { t with cqs := (f t).cqs, messages := (f t).messages, pendingVec := (f t).pendingVec, aers := (f t).aers
                             events := (f t).events, eventsMasked := (f t).eventsMasked, held := (f t).held }) :
    Aside d (updPort p f d) := by
  constructor <;> try (intros; rfl)
  intro q
  by_cases hq : q = p
  · subst hq
    rw [port_updPort_self]
    exact h _
  · rw [port_updPort_ne hq]

theorem signalVector_port (v : Nat) (t : PortState) :
    signalVector v t = { t with messages := (signalVector v t).messages, pendingVec := (signalVector v t).pendingVec } := by
  unfold signalVector
  dsimp only
  split
  · split <;> rfl
  · split
    · split <;> rfl
    · rfl

theorem cqDue_port (cq : Nat) (t : PortState) :
    cqDue cq t = { t with cqs := (cqDue cq t).cqs, messages := (cqDue cq t).messages, pendingVec := (cqDue cq t).pendingVec } := by
  unfold cqDue
  dsimp only
  split
  · rfl
  · split
    · rfl
    · rw [signalVector_port]

theorem enqueueCompletion_port (c : Completion) (t : PortState) :
    enqueueCompletion c t = { t with cqs := (enqueueCompletion c t).cqs, messages := (enqueueCompletion c t).messages
                                     pendingVec := (enqueueCompletion c t).pendingVec } := by
  unfold enqueueCompletion
  dsimp only
  generalize (if c.sqid = 0 then 0 else (smGet {} t.sqs c.sqid).cqid) = cq
  split
  · rfl
  · split
    · rfl
    · rw [cqDue_port]

/-! ### Completions, events and frames -/

theorem leaveL1_aside {p : Nat} (hp : p < 4) (d : Device) : Aside d (leaveL1 p d) :=
  Aside.ite _ (setObj_aside (portLinkState_aside hp) _ d) (Aside.refl d)

theorem postCompletion_aside {p : Nat} (hp : p < 4) (c : Completion) (d : Device) : Aside d (postCompletion p c d) := by
  unfold postCompletion
  split
  · refine (leaveL1_aside hp d).trans (updPort_aside p _ _ fun t => ?_)
    rw [enqueueCompletion_port]
  · exact updPort_aside p _ _ fun t => rfl

theorem raiseEvent_aside {p : Nat} (hp : p < 4) (e : AsyncEvent) (d : Device) : Aside d (raiseEvent p e d) := by
  unfold raiseEvent
  dsimp only
  split
  · exact Aside.refl d
  · split
    · exact (updPort_aside p _ d fun t => rfl).trans (postCompletion_aside hp _ _)
    · exact updPort_aside p _ d fun t => rfl

theorem raiseOnAll_aside (e : AsyncEvent) (d : Device) : Aside d (raiseOnAll e d) :=
  Aside.foldl _ _ (fun d _ hp => Aside.ite _ (raiseEvent_aside (List.mem_range.mp hp) e d) (Aside.refl d)) d

theorem can_aside (d : Device) (c : CanLink)
    (h : c = { d.can with queue := c.queue, backlog := c.backlog, noticeMs := c.noticeMs, hbSeq := c.hbSeq, bootSent := c.bootSent
                          busOffSince := c.busOffSince }) : Aside d { d with can := c } := by
  constructor <;> first | exact h | (intros; rfl)

theorem log_aside (d : Device) (g : Logbook)
    (h : g = { d.log with nextSeq := g.nextSeq, raising := g.raising, waiting := g.waiting, ring := g.ring, lostFirst := g.lostFirst
                          lostCount := g.lostCount, flushDue := g.flushDue }) : Aside d { d with log := g } := by
  constructor <;> first | exact h | (intros; rfl)

theorem canTxCancelled_mem : Obj.canTxCancelled ∈ asideObjs := by decide
theorem overwritten_mem : Obj.logbookRecordsOverwritten ∈ asideObjs := by decide

theorem noticesDropped_aside (d : Device) : Aside d (incObj Obj.logbookNoticesDropped d) := incObj_aside (by decide) d

theorem replaceHeartbeat_aside (f : CanFrame) (d : Device) : Aside d (replaceHeartbeat f d) := by
  unfold replaceHeartbeat
  split
  · exact can_aside d _ rfl
  · split
    · exact Aside.refl d
    · split
      · exact can_aside d _ rfl
      · refine Aside.trans ?_ (incObj_aside canTxCancelled_mem _); exact can_aside d _ rfl

theorem queueFrame_aside (f : CanFrame) (d : Device) : Aside d (queueFrame f d) := by
  unfold queueFrame
  split
  · exact Aside.refl d
  · split
    · refine Aside.trans ?_ (ledgerTake_aside _ _ _); exact can_aside d _ rfl
    · split
      · exact replaceHeartbeat_aside f d
      · split
        · exact noticesDropped_aside d
        · refine Aside.trans ?_ (countRefused_aside _); exact can_aside d _ rfl

/-! ### Records -/

theorem sendEmergency_aside (r : LogRecord) (d : Device) : Aside d (sendEmergency r d) := by
  unfold sendEmergency
  split
  · exact Aside.ite _ (queueFrame_aside _ d) (Aside.refl d)
  · exact Aside.refl d

theorem sendNotice_aside (r : LogRecord) (d : Device) : Aside d (sendNotice r d) := by
  unfold sendNotice
  dsimp only
  split
  · exact Aside.refl d
  · split
    · exact noticesDropped_aside d
    · refine Aside.trans ?_ (queueFrame_aside _ _); exact can_aside d _ rfl

theorem captureTelemetry_aside (d : Device) : Aside d (captureTelemetry d) := by
  unfold captureTelemetry
  refine Aside.trans ?_ (raiseOnAll_aside _ _)
  constructor <;> intros <;> rfl

theorem ringAppend_aside (r : LogRecord) (d : Device) : Aside d (ringAppend r d) := by
  unfold ringAppend
  dsimp only
  split
  · exact log_aside d _ rfl
  · split
    · exact log_aside d _ rfl
    · refine Aside.trans ?_ (incObj_aside overwritten_mem _); exact log_aside d _ rfl

theorem eraseBlock_counts (b : Nat) (c : CodeStore) :
    eraseBlock b c = { c with logs := (eraseBlock b c).logs, eraseCounts := (eraseBlock b c).eraseCounts } := by
  unfold eraseBlock
  split
  rfl

theorem logAppend_counts (first : Nat) (c : CodeStore) :
    logAppend first c = { c with logs := (logAppend first c).logs, eraseCounts := (logAppend first c).eraseCounts } := by
  unfold logAppend
  dsimp only
  split
  · rw [eraseBlock_counts]
  · rfl

theorem appendCounterEntry_aside (e : CounterEntry) (d : Device) : Aside d (appendCounterEntry e d) := by
  constructor <;> try (intros; rfl)
  have h : ∀ x y z : CodeStore, y = { x with logs := y.logs, eraseCounts := y.eraseCounts } →
      z = { y with logs := z.logs, eraseCounts := z.eraseCounts } → z = { x with logs := z.logs, eraseCounts := z.eraseCounts } := by
    intro x y z hy hz
    rw [hz, hy]
  have h1 := h { d.cs with counters := e } _ _ (logAppend_counts 4 _) (logAppend_counts 6 _)
  have h2 : (appendCounterEntry e d).cs = logAppend 6 (logAppend 4 { d.cs with counters := e }) := rfl
  rw [h2]
  generalize logAppend 6 (logAppend 4 { d.cs with counters := e }) = z at h1
  rw [h1]

theorem raiseCeiling_aside (d : Device) : Aside d (raiseCeiling d) := by
  unfold raiseCeiling
  split
  · refine Aside.trans ?_ (appendCounterEntry_aside _ _); exact log_aside d _ rfl
  · exact Aside.refl d

theorem acceptRecord_aside (code : Nat) (snaps : List Nat) (d : Device) : Aside d (acceptRecord code snaps d) := by
  unfold acceptRecord
  dsimp only
  refine Aside.trans ?_ (sendNotice_aside _ _)
  refine Aside.trans ?_ (sendEmergency_aside _ _)
  have h : ∀ d : Device, Aside d (if codeClass code = 1 then captureTelemetry d else d) := fun d =>
    Aside.ite _ (captureTelemetry_aside d) (Aside.refl d)
  refine Aside.trans ?_ (h _)
  have h2 : ∀ (c : Prop) [Decidable c] (d : Device), Aside d (if c then { d with log := { d.log with flushDue := true } } else d) :=
    fun c _ d => Aside.ite _ (log_aside d _ rfl) (Aside.refl d)
  refine Aside.trans ?_ (h2 _ _)
  refine Aside.trans ?_ (raiseCeiling_aside _)
  refine Aside.trans ?_ (ringAppend_aside _ _); exact log_aside d _ rfl

theorem logRec_aside (code : Nat) (snaps : List Nat) (d : Device) : Aside d (logRec code snaps d) := by
  unfold logRec
  split
  · exact log_aside d _ rfl
  · exact acceptRecord_aside code snaps d

theorem acceptWaiting_aside (fuel : Nat) (d : Device) : Aside d (acceptWaiting fuel d) := by
  induction fuel generalizing d with
  | zero => exact Aside.refl d
  | succ k ih =>
    unfold acceptWaiting
    split
    · exact Aside.refl d
    · next code snaps rest hw =>
      split
      · exact Aside.refl d
      · exact ((log_aside d { d.log with waiting := rest } rfl).trans (acceptRecord_aside code snaps _)).trans (ih _)

theorem queueHeartbeat_aside (ack : Option Nat) (d : Device) : Aside d (queueHeartbeat ack d) := by
  unfold queueHeartbeat
  dsimp only
  split
  · exact Aside.refl d
  · refine Aside.trans ?_ (queueFrame_aside _ _); exact can_aside d _ rfl

/-! ### What a record adds -/

/-- What `newest` reads: the last slot of the ring. -/
theorem ringAppend_newest (r : LogRecord) (d : Device) : newest (ringAppend r d) = some r := by
  unfold ringAppend newest
  dsimp only
  split
  · simp
  · split
    · simp
    · show (_ : List RingSlot).getLast?.map _ = _
      simp [incObj, addObj, setObj]

theorem newest_congr {d e : Device} (h : e.log.ring = d.log.ring) : newest e = newest d := by unfold newest; rw [h]

@[simp] theorem raiseCeiling_ring (d : Device) : (raiseCeiling d).log.ring = d.log.ring := by
  unfold raiseCeiling
  split <;> rfl

/-- An open writer takes the record as its newest one, under the next number. -/
theorem acceptRecord_newest (code : Nat) (snaps : List Nat) (d : Device) :
    ∃ r, newest (acceptRecord code snaps d) = some r ∧ r.code = code ∧ r.seq = d.log.nextSeq ∧ r.cls = codeClass code ∧
      (snaps.map (· % 2 ^ 40)).take 8 <+: r.snaps := by
  unfold acceptRecord
  dsimp only
  generalize hr : ({ seq := d.log.nextSeq, hours := _, cycle := _, cls := _, code := code, snaps := _ } : LogRecord) = r
  refine ⟨r, ?_, ?_, ?_, ?_, ?_⟩
  · rw [newest_congr (d := ringAppend r { d with log := { d.log with nextSeq := seqAfter d.log.nextSeq } })]
    · exact ringAppend_newest r _
    · simp only [sendNotice_frame, sendEmergency_frame]
      split <;> split <;> simp
  all_goals rw [← hr]
  dsimp only
  rw [List.take_append]
  exact List.prefix_append _ _

/-- An open writer records at once. -/
theorem logRec_recorded (code : Nat) (snaps : List Nat) (d : Device) (h : WriterOpen d) : Recorded code snaps d (logRec code snaps d) := by
  obtain ⟨h1, h2, h3⟩ := h
  have e : logRec code snaps d = acceptRecord code snaps d := by simp [logRec, h1, h2, h3]
  rw [e]
  obtain ⟨r, h4, h5, h6, -, h7⟩ := acceptRecord_newest code snaps d
  exact ⟨r, h4, h5, h6, h7⟩

/-- What a record says depends on the ring and the next number alone. -/
theorem Recorded.congr {code : Nat} {snaps : List Nat} {a b c d : Device} (h : Recorded code snaps a b) (hb : c.log.nextSeq = a.log.nextSeq)
    (hd : d.log.ring = b.log.ring) : Recorded code snaps c d := by
  obtain ⟨r, h1, h2, h3, h4⟩ := h
  exact ⟨r, (newest_congr hd).trans h1, h2, h3.trans hb.symm, h4⟩

end Sys2Proof.Machine
end

