-- ==== Sys2Proof/Laws/Ledgers.lean ====
section
/-! SUPPORT. What the ledger operations do, and that each of them keeps every ledger conserved (R29, R486). -/
namespace Sys2Proof.Machine


@[simp] theorem ledger_updLedger_self (l : Nat) (f : Ledger → Ledger) (d : Device) : ledger l (updLedger l f d) = f (ledger l d) := by
  simp [ledger, updLedger]

theorem ledger_updLedger (j l : Nat) (f : Ledger → Ledger) (d : Device) :
    ledger j (updLedger l f d) = if j = l then f (ledger l d) else ledger j d := by
  simp [ledger, updLedger, smGet_smUpd]

/-- An update that keeps one ledger conserved keeps them all. -/
theorem cons_updLedger {l : Nat} {f : Ledger → Ledger} {d : Device} (h : LedgersConserved d.ledgers)
    (hf : LedgerConserved (ledger l d) → LedgerConserved (f (ledger l d))) : LedgersConserved (updLedger l f d).ledgers := by
  intro j
  have := ledger_updLedger j l f d
  unfold ledger at this
  rw [this]
  split
  · exact hf (h l)
  · exact h j

/-- A grant moves `n` units from free to the owner where that many are free (R486). -/
theorem ledger_ledgerTake {l o n : Nat} {d : Device} (h : n ≤ (ledger l d).free) :
    ledger l (ledgerTake l o n d) =
      { ledger l d with free := (ledger l d).free - n, held := smUpd 0 o (· + n) (ledger l d).held } := by
  simp [ledgerTake, h]

/-- A return moves `n` units from the owner to free where it holds that many (R486). -/
theorem ledger_ledgerGive {l o n : Nat} {d : Device} (h : n ≤ heldBy l o d) :
    ledger l (ledgerGive l o n d) =
      { ledger l d with free := (ledger l d).free + n, held := smUpd 0 o (· - n) (ledger l d).held } := by
  simp [ledgerGive, heldBy] at *; simp [h]

/-- Owner `o` holds `n` units more, free is `n` lower, after a grant; another ledger is as it was. -/
theorem heldBy_ledgerTake {l o n : Nat} {d : Device} (h : n ≤ (ledger l d).free) :
    heldBy l o (ledgerTake l o n d) = heldBy l o d + n ∧ (ledger l (ledgerTake l o n d)).free = (ledger l d).free - n := by
  simp [heldBy, ledger_ledgerTake h]

theorem heldBy_ledgerGive {l o n : Nat} {d : Device} (h : n ≤ heldBy l o d) :
    heldBy l o (ledgerGive l o n d) = heldBy l o d - n ∧ (ledger l (ledgerGive l o n d)).free = (ledger l d).free + n := by
  have h' := ledger_ledgerGive h
  exact ⟨by simp [heldBy, h'], by simp [h']⟩

@[simp] theorem ledgerTake_conserves {d : Device} (l o n : Nat) (h : LedgersConserved d.ledgers) :
    LedgersConserved (ledgerTake l o n d).ledgers := by
  refine cons_updLedger h fun hg => ?_
  split
  · refine ⟨(smWf_smUpd hg.1 : smWf 0 (smUpd 0 o (· + n) (ledger l d).held) = true), ?_⟩
    have := smSum_smUpd (k := o) (f := (· + n)) hg.1
    have := hg.2
    dsimp only at *
    omega
  · exact hg

@[simp] theorem ledgerGive_conserves {d : Device} (l o n : Nat) (h : LedgersConserved d.ledgers) :
    LedgersConserved (ledgerGive l o n d).ledgers := by
  refine cons_updLedger h fun hg => ?_
  split
  · next hn =>
    refine ⟨(smWf_smUpd hg.1 : smWf 0 (smUpd 0 o (· - n) (ledger l d).held) = true), ?_⟩
    have := smSum_smUpd (k := o) (f := (· - n)) hg.1
    have := hg.2
    dsimp only at *
    omega
  · exact hg

@[simp] theorem countRefused_conserves {d : Device} (l : Nat) (h : LedgersConserved d.ledgers) :
    LedgersConserved (countRefused l d).ledgers := cons_updLedger h id

theorem rebuildLedger_conserves (t : Nat) : LedgerConserved (rebuildLedger t) := ⟨rfl, rfl⟩

@[simp] theorem ite_conserves (c : Prop) [Decidable c] (a b : SMap Ledger) :
    LedgersConserved (if c then a else b) ↔ if c then LedgersConserved a else LedgersConserved b := by split <;> rfl

@[simp] theorem foldl_conserves {β : Type} (g : Device → β → Device)
    (hg : ∀ d b, LedgersConserved d.ledgers → LedgersConserved (g d b).ledgers) (xs : List β) (d : Device)
    (h : LedgersConserved d.ledgers) : LedgersConserved (xs.foldl g d).ledgers := by
  induction xs generalizing d with
  | nil => exact h
  | cons x xs ih => exact ih _ (hg d x h)

theorem foldl_snd_conserves {β γ : Type} (g : γ × Device → β → γ × Device)
    (hg : ∀ a b, LedgersConserved a.2.ledgers → LedgersConserved (g a b).2.ledgers) (xs : List β) (a : γ × Device)
    (h : LedgersConserved a.2.ledgers) : LedgersConserved (xs.foldl g a).2.ledgers := by
  induction xs generalizing a with
  | nil => exact h
  | cons x xs ih => exact ih _ (hg a x h)

end Sys2Proof.Machine
end

