-- ==== Sys2Proof/Laws/Records.lean ====
section
/-! SUPPORT. What the logbook writer does with one record, and that its numbering and its ring stay in bounds (R556, R557, R563). -/
namespace Sys2Proof.Machine

/-! ### Numbers -/

theorem inSeq_seqAfter {n : Nat} (h : InSeq n) : InSeq (seqAfter n) := by
  obtain ⟨h1, h2⟩ := h
  unfold seqAfter InSeq
  split <;> omega

theorem inSeq_seqAdd {n k : Nat} (h : InSeq n) (hk : k < 2 ^ 32) : InSeq (seqAdd n k) := by
  obtain ⟨h1, h2⟩ := h
  unfold seqAdd InSeq
  split <;> omega

/-! ### The counter images -/

@[simp] theorem eraseBlock_counters (b : Nat) (c : CodeStore) : (eraseBlock b c).counters = c.counters := by
  unfold eraseBlock
  split
  rfl

@[simp] theorem logAppend_counters (first : Nat) (c : CodeStore) : (logAppend first c).counters = c.counters := by
  unfold logAppend
  dsimp only
  split
  · rw [eraseBlock_counters]
  · rfl

@[simp] theorem appendCounterEntry_counters (e : CounterEntry) (d : Device) : (appendCounterEntry e d).cs.counters = e := by
  simp [appendCounterEntry, updCs]

@[simp] theorem appendCounterEntry_log (e : CounterEntry) (d : Device) : (appendCounterEntry e d).log = d.log := rfl

/-! ### The bounds -/

/-- A change of the code store that leaves the newest counter entry keeps the bounds. -/
theorem updCs_logOk (f : CodeStore → CodeStore) (d : Device) (hf : (f d.cs).counters = d.cs.counters) (h : LogOk d.log d.cs.counters) :
    LogOk (updCs f d).log (updCs f d).cs.counters := by
  show LogOk d.log (f d.cs).counters
  rwa [hf]

theorem appendCounterEntry_logOk (e : CounterEntry) (d : Device) (he : InSeq e.ceiling) (h : LogOk d.log d.cs.counters) :
    LogOk (appendCounterEntry e d).log (appendCounterEntry e d).cs.counters := by
  rw [appendCounterEntry_log, appendCounterEntry_counters]
  exact ⟨h.1, h.2.1, h.2.2.1, h.2.2.2.1, he⟩

theorem ringAppend_logOk (r : LogRecord) (d : Device) (h : LogOk d.log d.cs.counters) :
    LogOk (ringAppend r d).log (ringAppend r d).cs.counters := by
  obtain ⟨h1, h2⟩ := h
  unfold ringAppend
  dsimp only
  split
  · exact ⟨by simp; omega, h2⟩
  · split
    · next i hi =>
      have hlt := (List.findIdx?_eq_some_iff_findIdx_eq.mp hi).1
      refine ⟨?_, h2⟩
      simp [List.length_eraseIdx, hlt]
      omega
    · refine ⟨?_, h2⟩
      show (d.log.ring.drop 1 ++ [({ entry := r } : RingSlot)]).length ≤ 4096
      simp
      omega

theorem raiseCeiling_logOk (d : Device) (h : LogOk d.log d.cs.counters) : LogOk (raiseCeiling d).log (raiseCeiling d).cs.counters := by
  unfold raiseCeiling
  split
  · have hc : InSeq (seqAdd d.log.ceiling 65536) := inSeq_seqAdd h.2.2.1 (by norm_num)
    dsimp only
    generalize seqAdd d.log.ceiling 65536 = c at hc
    have hr : ∀ n, some c = some n → InSeq n := fun n hn => (Option.some.inj hn) ▸ hc
    exact appendCounterEntry_logOk _ _ hc ⟨h.1, h.2.1, h.2.2.1, hr, h.2.2.2.2⟩
  · exact h

theorem ite_logOk (c : Prop) [Decidable c] (a b : Device) (ha : LogOk a.log a.cs.counters) (hb : LogOk b.log b.cs.counters) :
    LogOk (if c then a else b).log (if c then a else b).cs.counters := by split <;> assumption

@[simp] theorem foldl_logOk {β : Type} (g : Device → β → Device)
    (hg : ∀ d b, LogOk d.log d.cs.counters → LogOk (g d b).log (g d b).cs.counters) (xs : List β) (d : Device)
    (h : LogOk d.log d.cs.counters) : LogOk (xs.foldl g d).log (xs.foldl g d).cs.counters := by
  induction xs generalizing d with
  | nil => exact h
  | cons x xs ih => exact ih _ (hg d x h)

theorem foldl_snd_logOk {β γ : Type} (g : γ × Device → β → γ × Device)
    (hg : ∀ a b, LogOk a.2.log a.2.cs.counters → LogOk (g a b).2.log (g a b).2.cs.counters) (xs : List β) (a : γ × Device)
    (h : LogOk a.2.log a.2.cs.counters) : LogOk (xs.foldl g a).2.log (xs.foldl g a).2.cs.counters := by
  induction xs generalizing a with
  | nil => exact h
  | cons x xs ih => exact ih _ (hg a x h)

end Sys2Proof.Machine
end

