-- ==== Sys2Proof/Laws/Keeps.lean ====
section
/-! SUPPORT. What every operation on the device keeps, said once per operation in the order of the operations' files: the ledgers sound (R25,
R29, R486) and the logbook within its bounds (R556, R557, R563). -/
namespace Sys2Proof.Machine
section
set_option Elab.async false
set_option linter.unusedTactic false
set_option linter.unusedSimpArgs false
set_option linter.unreachableTactic false
set_option linter.unusedVariables false
variable {A L : Prop}

/-- The part of the device that both rest on: under `A` the ledgers are sound, under `L` the logbook keeps its bounds. -/
def KeepsParts (A L : Prop) (m : SMap Ledger) (xs : List Mismatch) (slots next ceiling : Nat) (raising : Option Nat) (c : CounterEntry) : Prop :=
  (A → (∀ l, LedgerSound (smGet {} m l)) ∧ ∀ x ∈ xs, x.row ≠ 3) ∧
  (L → slots ≤ 4096 ∧ InSeq next ∧ InSeq ceiling ∧ (∀ n, raising = some n → InSeq n) ∧ InSeq c.ceiling)

/-- Under `A` the ledgers of `d` are sound, under `L` its logbook keeps its bounds. -/
@[reducible] def Keeps (A L : Prop) (d : Device) : Prop :=
  KeepsParts A L d.ledgers d.damaged d.log.ring.length d.log.nextSeq d.log.ceiling d.log.raising d.cs.counters

/-- The same of an operation that may answer no device. -/
def KeepsOpt (A L : Prop) : Option Device → Prop
  | some d => Keeps A L d
  | none => True

/-- The same of an operation that may answer an error. -/
def KeepsExc (A L : Prop) {ε : Type} : Except ε Device → Prop
  | .ok d => Keeps A L d
  | .error _ => True

theorem keeps_iff {d : Device} : Keeps A L d ↔ (A → LedgersSound d) ∧ (L → LogOk d.log d.cs.counters) := Iff.rfl

theorem keepsOpt_some {d : Device} (h : Keeps A L d) : KeepsOpt A L (some d) := h

theorem keepsOpt_none : KeepsOpt A L none := trivial

theorem keepsExc_ok {ε : Type} {d : Device} (h : Keeps A L d) : KeepsExc A L (.ok d : Except ε Device) := h

theorem keepsExc_error {ε : Type} {x : ε} : KeepsExc A L (.error x) := trivial

theorem keeps_some_of {r : Option Device} {e : Device} (he : r = some e) (h : KeepsOpt A L r) : Keeps A L e := by subst he; exact h

theorem keeps_ok_of {ε : Type} {r : Except ε Device} {e : Device} (he : r = .ok e) (h : KeepsExc A L r) : Keeps A L e := by
  subst he; exact h

theorem keeps_fst_of {α : Type} {r : Device × α} {y : α} {e : Device} (he : r = (e, y)) (h : Keeps A L r.1) : Keeps A L e := by
  subst he; exact h

theorem keeps_snd_of {α : Type} {r : α × Device} {y : α} {e : Device} (he : r = (y, e)) (h : Keeps A L r.2) : Keeps A L e := by
  subst he; exact h

theorem keeps_third_of {α β : Type} {r : α × β × Device} {y : α} {z : β} {e : Device} (he : r = (y, z, e)) (h : Keeps A L r.2.2) :
    Keeps A L e := by
  subst he; exact h

theorem foldl_keeps {β : Type} (g : Device → β → Device) (xs : List β) {d : Device}
    (hg : ∀ d b, Keeps A L d → Keeps A L (g d b)) (h : Keeps A L d) : Keeps A L (xs.foldl g d) := by
  induction xs generalizing d with
  | nil => exact h
  | cons x xs ih => exact ih (hg d x h)

theorem foldl_snd_keeps {β γ : Type} (g : γ × Device → β → γ × Device) (xs : List β) {a : γ × Device}
    (hg : ∀ a b, Keeps A L a.2 → Keeps A L (g a b).2) (h : Keeps A L a.2) : Keeps A L (xs.foldl g a).2 := by
  induction xs generalizing a with
  | nil => exact h
  | cons x xs ih => exact ih (hg a x h)

theorem foldl_third_keeps {β γ δ : Type} (g : γ × δ × Device → β → γ × δ × Device) (xs : List β) {a : γ × δ × Device}
    (hg : ∀ a b, Keeps A L a.2.2 → Keeps A L (g a b).2.2) (h : Keeps A L a.2.2) : Keeps A L (xs.foldl g a).2.2 := by
  induction xs generalizing a with
  | nil => exact h
  | cons x xs ih => exact ih (hg a x h)

/-- More mismatches wait for their readers, none of a total register. -/
theorem keeps_damaged {d : Device} {xs : List Mismatch} (hx : A → ∀ x ∈ xs, x.row ≠ 3) (h : Keeps A L d) :
    Keeps A L { d with damaged := d.damaged ++ xs } :=
  ⟨fun ha => ⟨(h.1 ha).1, fun x hm => (List.mem_append.mp hm).elim ((h.1 ha).2 x) (hx ha x)⟩, h.2⟩

theorem foldl_eraseBlock_counters {β : Type} (g : β → Nat) (xs : List β) (c : CodeStore) :
    (xs.foldl (fun c i => eraseBlock (g i) c) c).counters = c.counters := by
  induction xs generalizing c with
  | nil => rfl
  | cons x xs ih => exact (ih _).trans (eraseBlock_counters _ _)

theorem onlyIf_keeps (c : Bool) (f : Device → Device) (d : Device) (hk : ∀ e, Keeps A L e → Keeps A L (f e)) (h : Keeps A L d) :
    Keeps A L (onlyIf c f d) := by
  unfold onlyIf
  repeat' (first | with_reducible assumption | with_reducible apply hk | (with_reducible intro) | split | dsimp only | dsimp only [Keeps])

theorem setObj_keeps (key v : Nat) (d : Device) (h : Keeps A L d) :
    Keeps A L (setObj key v d) := by
  unfold setObj
  repeat' (first | with_reducible assumption | (with_reducible intro) | split | dsimp only | dsimp only [Keeps])

theorem addObj_keeps (key n : Nat) (d : Device) (h : Keeps A L d) :
    Keeps A L (addObj key n d) := by
  unfold addObj
  repeat' (first | with_reducible assumption | with_reducible apply setObj_keeps | (with_reducible intro) | split | dsimp only | dsimp only [Keeps])

theorem incObj_keeps (key : Nat) (d : Device) (h : Keeps A L d) :
    Keeps A L (incObj key d) := by
  unfold incObj
  repeat' (first | with_reducible assumption | with_reducible apply addObj_keeps | (with_reducible intro) | split | dsimp only | dsimp only [Keeps])

theorem freshNat_keeps (d : Device) (h : Keeps A L d) :
    Keeps A L (freshNat d).2 := by
  unfold freshNat
  repeat' (first | with_reducible assumption | (with_reducible intro) | split | dsimp only | dsimp only [Keeps])

theorem updLedger_keeps (l : Nat) (f : Ledger → Ledger) (d : Device) (hf : A → LedgerSound (ledger l d) → LedgerSound (f (ledger l d)))
    (h : Keeps A L d) : Keeps A L (updLedger l f d) := by
  refine ⟨fun ha => ⟨fun j => ?_, (h.1 ha).2⟩, h.2⟩
  have := ledger_updLedger j l f d
  unfold ledger at this
  rw [this]
  split
  · exact hf ha ((h.1 ha).1 l)
  · exact (h.1 ha).1 j

theorem ledgerTake_keeps (l o n : Nat) (d : Device) (h : Keeps A L d) : Keeps A L (ledgerTake l o n d) := by
  refine updLedger_keeps _ _ _ (fun _ hg => ?_) h
  split
  · refine ⟨⟨(smWf_smUpd hg.1.1 : smWf 0 (smUpd 0 o (· + n) (ledger l d).held) = true), ?_⟩, hg.2⟩
    have := smSum_smUpd (k := o) (f := (· + n)) hg.1.1
    have := hg.1.2
    dsimp only at *
    omega
  · exact hg

theorem ledgerGive_keeps (l o n : Nat) (d : Device) (h : Keeps A L d) : Keeps A L (ledgerGive l o n d) := by
  refine updLedger_keeps _ _ _ (fun _ hg => ?_) h
  split
  · refine ⟨⟨(smWf_smUpd hg.1.1 : smWf 0 (smUpd 0 o (· - n) (ledger l d).held) = true), ?_⟩, hg.2⟩
    have := smSum_smUpd (k := o) (f := (· - n)) hg.1.1
    have := hg.1.2
    dsimp only at *
    omega
  · exact hg

theorem countRefused_keeps (l : Nat) (d : Device) (h : Keeps A L d) : Keeps A L (countRefused l d) :=
  updLedger_keeps _ _ _ (fun _ hg => hg) h

theorem takeDamage_keeps (row location : Nat) (d : Device) (h : Keeps A L d) : Keeps A L (takeDamage row location d).2 := by
  unfold takeDamage
  split
  · exact ⟨fun ha => ⟨(h.1 ha).1, fun x hx => (h.1 ha).2 x (List.mem_of_mem_erase hx)⟩, h.2⟩
  · exact h

/-- Under `A` no mismatch of a total register waits for its reader. -/
theorem takeDamage_total {location : Nat} {d e : Device} {x : Mismatch} (he : takeDamage 3 location d = (some x, e)) (h : Keeps A L d) : ¬A := by
  intro ha
  unfold takeDamage at he
  split at he
  · next y hy =>
    have := (h.1 ha).2 y (List.mem_of_find?_eq_some hy)
    have := List.find?_some hy
    simp_all
  · cases he

theorem updCs_keeps (f : CodeStore → CodeStore) (d : Device) (hf : (f d.cs).counters = d.cs.counters) (h : Keeps A L d) :
    Keeps A L (updCs f d) := by
  show KeepsParts A L d.ledgers d.damaged d.log.ring.length d.log.nextSeq d.log.ceiling d.log.raising (f d.cs).counters
  rwa [hf]

theorem markLoaded_keeps (n : Nat) (d : Device) (h : Keeps A L d) :
    Keeps A L (markLoaded n d) := by
  unfold markLoaded
  repeat' (first | with_reducible assumption | (with_reducible intro) | split | dsimp only | dsimp only [Keeps])

theorem updPort_keeps (p : Nat) (f : PortState → PortState) (d : Device) (h : Keeps A L d) :
    Keeps A L (updPort p f d) := by
  unfold updPort
  repeat' (first | with_reducible assumption | (with_reducible intro) | split | dsimp only | dsimp only [Keeps])

theorem leaveL1_keeps (p : Nat) (d : Device) (h : Keeps A L d) :
    Keeps A L (leaveL1 p d) := by
  unfold leaveL1
  repeat' (first | with_reducible assumption | with_reducible apply setObj_keeps | (with_reducible intro) | split | dsimp only | dsimp only [Keeps])

theorem postCompletion_keeps (p : Nat) (c : Completion) (d : Device) (h : Keeps A L d) :
    Keeps A L (postCompletion p c d) := by
  unfold postCompletion
  repeat' (first | with_reducible assumption | with_reducible apply leaveL1_keeps | with_reducible apply updPort_keeps | (with_reducible intro) | split | dsimp only | dsimp only [Keeps])

theorem raiseEvent_keeps (p : Nat) (e : AsyncEvent) (d : Device) (h : Keeps A L d) :
    Keeps A L (raiseEvent p e d) := by
  unfold raiseEvent
  repeat' (first | with_reducible assumption | with_reducible apply postCompletion_keeps | with_reducible apply updPort_keeps | (with_reducible intro) | split | dsimp only | dsimp only [Keeps])

theorem raiseOnAll_keeps (e : AsyncEvent) (d : Device) (h : Keeps A L d) :
    Keeps A L (raiseOnAll e d) := by
  unfold raiseOnAll
  repeat' (first | with_reducible assumption | with_reducible apply raiseEvent_keeps | with_reducible apply foldl_keeps | (with_reducible intro) | split | dsimp only | dsimp only [Keeps])

theorem serveBacklog_keeps (fuel : Nat) (d : Device) (h : Keeps A L d) :
    Keeps A L (serveBacklog fuel d) := by
  induction fuel generalizing d with
  | zero => exact h
  | succ k ih =>
    unfold serveBacklog
    repeat' (first | with_reducible assumption | with_reducible apply ledgerTake_keeps | with_reducible apply ih | (with_reducible intro) | split | dsimp only | dsimp only [Keeps])

theorem serveWaitingFrames_keeps (d : Device) (h : Keeps A L d) :
    Keeps A L (serveWaitingFrames d) := by
  unfold serveWaitingFrames
  repeat' (first | with_reducible assumption | with_reducible apply serveBacklog_keeps | (with_reducible intro) | split | dsimp only | dsimp only [Keeps])

theorem replaceHeartbeat_keeps (f : CanFrame) (d : Device) (h : Keeps A L d) :
    Keeps A L (replaceHeartbeat f d) := by
  unfold replaceHeartbeat
  repeat' (first | with_reducible assumption | with_reducible apply incObj_keeps | (with_reducible intro) | split | dsimp only | dsimp only [Keeps])

theorem queueFrame_keeps (f : CanFrame) (d : Device) (h : Keeps A L d) :
    Keeps A L (queueFrame f d) := by
  unfold queueFrame
  repeat' (first | with_reducible assumption | with_reducible apply countRefused_keeps | with_reducible apply incObj_keeps | with_reducible apply ledgerTake_keeps | with_reducible apply replaceHeartbeat_keeps | (with_reducible intro) | split | dsimp only | dsimp only [Keeps])

theorem sendEmergency_keeps (r : LogRecord) (d : Device) (h : Keeps A L d) :
    Keeps A L (sendEmergency r d) := by
  unfold sendEmergency
  repeat' (first | with_reducible assumption | with_reducible apply queueFrame_keeps | (with_reducible intro) | split | dsimp only | dsimp only [Keeps])

theorem sendNotice_keeps (r : LogRecord) (d : Device) (h : Keeps A L d) :
    Keeps A L (sendNotice r d) := by
  unfold sendNotice
  repeat' (first | with_reducible assumption | with_reducible apply incObj_keeps | with_reducible apply queueFrame_keeps | (with_reducible intro) | split | dsimp only | dsimp only [Keeps])

theorem captureTelemetry_keeps (d : Device) (h : Keeps A L d) :
    Keeps A L (captureTelemetry d) := by
  unfold captureTelemetry
  repeat' (first | with_reducible assumption | with_reducible apply raiseOnAll_keeps | (with_reducible intro) | split | dsimp only | dsimp only [Keeps])

theorem ringAppend_keeps (r : LogRecord) (d : Device) (h : Keeps A L d) : Keeps A L (ringAppend r d) := by
  unfold ringAppend
  dsimp only
  split
  · exact ⟨h.1, fun hl => ⟨by simp; omega, (h.2 hl).2⟩⟩
  · split
    · next i hi =>
      have hlt := (List.findIdx?_eq_some_iff_findIdx_eq.mp hi).1
      refine ⟨h.1, fun hl => ⟨?_, (h.2 hl).2⟩⟩
      have := (h.2 hl).1
      simp [List.length_eraseIdx, hlt]
      omega
    · refine ⟨h.1, fun hl => ⟨?_, (h.2 hl).2⟩⟩
      have := (h.2 hl).1
      show (d.log.ring.drop 1 ++ [({ entry := r } : RingSlot)]).length ≤ 4096
      simp
      omega

theorem appendCounterEntry_keeps (e : CounterEntry) (d : Device) (he : L → InSeq e.ceiling) (h : Keeps A L d) :
    Keeps A L (appendCounterEntry e d) := by
  refine ⟨h.1, fun hl => ?_⟩
  rw [appendCounterEntry_counters]
  obtain ⟨h1, h2, h3, h4, _⟩ := h.2 hl
  exact ⟨h1, h2, h3, h4, he hl⟩

theorem raiseCeiling_keeps (d : Device) (h : Keeps A L d) : Keeps A L (raiseCeiling d) := by
  unfold raiseCeiling
  split
  · have hc (hl : L) : InSeq (seqAdd d.log.ceiling 65536) := inSeq_seqAdd (h.2 hl).2.2.1 (by norm_num)
    dsimp only
    generalize seqAdd d.log.ceiling 65536 = c at hc
    refine appendCounterEntry_keeps _ _ hc ⟨h.1, fun hl => ?_⟩
    obtain ⟨h1, h2, h3, _, h5⟩ := h.2 hl
    exact ⟨h1, h2, h3, fun n hn => Option.some.inj hn ▸ hc hl, h5⟩
  · exact h

theorem acceptRecord_keeps (code : Nat) (snaps : List Nat) (d : Device) (h : Keeps A L d) : Keeps A L (acceptRecord code snaps d) := by
  have h₀ : Keeps A L { d with log := { d.log with nextSeq := seqAfter d.log.nextSeq } } :=
    ⟨h.1, fun hl => ⟨(h.2 hl).1, inSeq_seqAfter (h.2 hl).2.1, (h.2 hl).2.2⟩⟩
  unfold acceptRecord
  repeat' (first | with_reducible assumption | with_reducible apply sendNotice_keeps | with_reducible apply sendEmergency_keeps | with_reducible apply captureTelemetry_keeps | with_reducible apply raiseCeiling_keeps | with_reducible apply ringAppend_keeps | split | dsimp only)

theorem logRec_keeps (code : Nat) (snaps : List Nat) (d : Device) (h : Keeps A L d) :
    Keeps A L (logRec code snaps d) := by
  unfold logRec
  repeat' (first | with_reducible assumption | with_reducible apply acceptRecord_keeps | (with_reducible intro) | split | dsimp only | dsimp only [Keeps])

theorem acceptWaiting_keeps (fuel : Nat) (d : Device) (h : Keeps A L d) :
    Keeps A L (acceptWaiting fuel d) := by
  induction fuel generalizing d with
  | zero => exact h
  | succ k ih =>
    unfold acceptWaiting
    repeat' (first | with_reducible assumption | with_reducible apply acceptRecord_keeps | with_reducible apply ih | (with_reducible intro) | split | dsimp only | dsimp only [Keeps])

theorem uncorrectableError_keeps (p bit header : Nat) (d : Device) (h : Keeps A L d) :
    Keeps A L (uncorrectableError p bit header d) := by
  unfold uncorrectableError
  repeat' (first | with_reducible assumption | with_reducible apply incObj_keeps | with_reducible apply logRec_keeps | with_reducible apply updPort_keeps | (with_reducible intro) | split | dsimp only | dsimp only [Keeps])

theorem withholdOne_keeps (d : Device) (o : Nat) (h : Keeps A L d) :
    Keeps A L (withholdOne d o) := by
  unfold withholdOne
  repeat' (first | with_reducible assumption | with_reducible apply ledgerGive_keeps | with_reducible apply ledgerTake_keeps | (with_reducible intro) | split | dsimp only | dsimp only [Keeps])

theorem finishResize_keeps (d : Device) (h : Keeps A L d) : Keeps A L (finishResize d) := by
  unfold finishResize
  split
  · exact h
  · next t ht =>
    dsimp only
    split
    · next hle =>
      have h₁ : Keeps A L (updLedger 1 (fun g => setTotal t { g with held := smUpd 0 0x22 (· - (g.total - t)) g.held }) d) := by
        refine updLedger_keeps _ _ _ (fun _ hg => ?_) h
        refine ⟨⟨(smWf_smUpd hg.1.1 : smWf 0 (smUpd 0 0x22 (· - ((ledger 1 d).total - t)) (ledger 1 d).held) = true), ?_⟩, by
          simp [setTotal, pairMatches]⟩
        have := smSum_smUpd (k := 0x22) (f := (· - ((ledger 1 d).total - t))) hg.1.1
        have := hg.1.2
        dsimp only [setTotal] at *
        omega
      generalize updLedger 1 _ d = e at h₁
      exact logRec_keeps _ _ _ h₁
    · exact h

theorem withhold_keeps (d : Device) (h : Keeps A L d) :
    Keeps A L (withhold d) := by
  unfold withhold
  repeat' (first | with_reducible assumption | with_reducible apply finishResize_keeps | with_reducible apply withholdOne_keeps | with_reducible apply foldl_keeps | (with_reducible intro) | split | dsimp only | dsimp only [Keeps])

theorem grantRequest_keeps (r : TokenReq) (d : Device) (h : Keeps A L d) :
    Keeps A L (grantRequest r d) := by
  unfold grantRequest
  repeat' (first | with_reducible assumption | with_reducible apply ledgerTake_keeps | (with_reducible intro) | split | dsimp only | dsimp only [Keeps])

theorem requestTokens_keeps (bank amount : Nat) (flush : Bool) (d : Device) (h : Keeps A L d) :
    Keeps A L (requestTokens bank amount flush d) := by
  unfold requestTokens
  repeat' (first | with_reducible assumption | with_reducible apply countRefused_keeps | with_reducible apply ledgerTake_keeps | (with_reducible intro) | split | dsimp only | dsimp only [Keeps])

theorem returnTokens_keeps (bank amount : Nat) (d : Device) (h : Keeps A L d) :
    Keeps A L (returnTokens bank amount d) := by
  unfold returnTokens
  repeat' (first | with_reducible assumption | with_reducible apply ledgerGive_keeps | with_reducible apply withhold_keeps | (with_reducible intro) | split | dsimp only | dsimp only [Keeps])

theorem returnAllTokens_keeps (bank : Nat) (d : Device) (h : Keeps A L d) :
    Keeps A L (returnAllTokens bank d) := by
  unfold returnAllTokens
  repeat' (first | with_reducible assumption | with_reducible apply ledgerGive_keeps | with_reducible apply withhold_keeps | (with_reducible intro) | split | dsimp only | dsimp only [Keeps])

theorem sendOnLink_keeps (link : Nat) (d : Device) (h : Keeps A L d) :
    Keeps A L (sendOnLink link d) := by
  unfold sendOnLink
  repeat' (first | with_reducible assumption | with_reducible apply ledgerTake_keeps | (with_reducible intro) | split | dsimp only | dsimp only [Keeps])

theorem clearLink_keeps (d : Device) (link : Nat) (h : Keeps A L d) :
    Keeps A L (clearLink d link) := by
  unfold clearLink
  repeat' (first | with_reducible assumption | with_reducible apply ledgerGive_keeps | (with_reducible intro) | split | dsimp only | dsimp only [Keeps])

theorem returnCredits_keeps (dd : Nat) (d : Device) (h : Keeps A L d) :
    Keeps A L (returnCredits dd d) := by
  unfold returnCredits
  repeat' (first | with_reducible assumption | with_reducible apply clearLink_keeps | with_reducible apply foldl_keeps | (with_reducible intro) | split | dsimp only | dsimp only [Keeps])

theorem resizePool_keeps (new : Nat) (d : Device) (h : Keeps A L d) : Keeps A L (resizePool new d) := by
  have pair (g : Ledger) : pairMatches (setTotal new g).total (setTotal new g).inverse = true := by simp [setTotal, pairMatches]
  unfold resizePool
  dsimp only
  have h₁ := ledgerGive_keeps (d := { d with res := { d.res with resizeTo := none } }) 1 0x22 (heldBy 1 0x22 d) h
  generalize ledgerGive 1 0x22 (heldBy 1 0x22 d) { d with res := { d.res with resizeTo := none } } = e at h₁
  have hs : ledger 1 { e with res := { e.res with resizeFrom := (ledger 1 e).total } } = ledger 1 e := rfl
  split
  · exact h₁
  · split
    · refine logRec_keeps _ _ _ (updLedger_keeps _ _ _ (fun _ hg => ⟨⟨hg.1.1, ?_⟩, pair _⟩) h₁)
      have := hg.1.2
      show (ledger 1 e).free + (new - (ledger 1 e).total) + smSum (ledger 1 e).held = new
      rw [hs] at this
      omega
    · split
      · refine logRec_keeps _ _ _ (updLedger_keeps _ _ _ (fun _ hg => ⟨⟨hg.1.1, ?_⟩, pair _⟩) h₁)
        have := hg.1.2
        show (ledger 1 e).free - ((ledger 1 e).total - new) + smSum (ledger 1 e).held = new
        rw [hs] at this
        omega
      · exact withhold_keeps _ h₁

theorem updateCauses_keeps (d : Device) (h : Keeps A L d) :
    Keeps A L (updateCauses d) := by
  unfold updateCauses
  repeat' (first | with_reducible assumption | (with_reducible intro) | split | dsimp only | dsimp only [Keeps])

theorem queueHeartbeat_keeps (ack : Option Nat) (d : Device) (h : Keeps A L d) :
    Keeps A L (queueHeartbeat ack d) := by
  unfold queueHeartbeat
  repeat' (first | with_reducible assumption | with_reducible apply queueFrame_keeps | (with_reducible intro) | split | dsimp only | dsimp only [Keeps])

theorem setThermalBit_keeps (bank k : Nat) (b : Bool) (d : Device) (h : Keeps A L d) :
    Keeps A L (setThermalBit bank k b d) := by
  unfold setThermalBit
  repeat' (first | with_reducible assumption | with_reducible apply setObj_keeps | (with_reducible intro) | split | dsimp only | dsimp only [Keeps])

theorem startDieThrottle_keeps (d : Device) (h : Keeps A L d) :
    Keeps A L (startDieThrottle d) := by
  unfold startDieThrottle
  repeat' (first | with_reducible assumption | with_reducible apply logRec_keeps | with_reducible apply setObj_keeps | with_reducible apply withhold_keeps | (with_reducible intro) | split | dsimp only | dsimp only [Keeps])

theorem endDieThrottle_keeps (d : Device) (h : Keeps A L d) :
    Keeps A L (endDieThrottle d) := by
  unfold endDieThrottle
  repeat' (first | with_reducible assumption | with_reducible apply logRec_keeps | with_reducible apply setObj_keeps | with_reducible apply withhold_keeps | (with_reducible intro) | split | dsimp only | dsimp only [Keeps])

theorem startCarrierThrottle_keeps (bank : Nat) (d : Device) (h : Keeps A L d) :
    Keeps A L (startCarrierThrottle bank d) := by
  unfold startCarrierThrottle
  repeat' (first | with_reducible assumption | with_reducible apply logRec_keeps | with_reducible apply setThermalBit_keeps | with_reducible apply withhold_keeps | (with_reducible intro) | split | dsimp only | dsimp only [Keeps])

theorem endCarrierThrottle_keeps (bank : Nat) (d : Device) (h : Keeps A L d) :
    Keeps A L (endCarrierThrottle bank d) := by
  unfold endCarrierThrottle
  repeat' (first | with_reducible assumption | with_reducible apply logRec_keeps | with_reducible apply setThermalBit_keeps | with_reducible apply withhold_keeps | (with_reducible intro) | split | dsimp only | dsimp only [Keeps])

theorem updateThrottling_keeps (d : Device) (h : Keeps A L d) :
    Keeps A L (updateThrottling d) := by
  unfold updateThrottling
  repeat' (first | with_reducible assumption | with_reducible apply endCarrierThrottle_keeps | with_reducible apply endDieThrottle_keeps | with_reducible apply startCarrierThrottle_keeps | with_reducible apply startDieThrottle_keeps | with_reducible apply foldl_keeps | (with_reducible intro) | split | dsimp only | dsimp only [Keeps])

theorem enterThrottling_keeps (d : Device) (h : Keeps A L d) :
    Keeps A L (enterThrottling d) := by
  unfold enterThrottling
  repeat' (first | with_reducible assumption | with_reducible apply foldl_keeps | (with_reducible intro) | split | dsimp only | dsimp only [Keeps])

theorem cutEntry_keeps (dd : Nat) (d : Device) (h : Keeps A L d) :
    Keeps A L (cutEntry dd d) := by
  unfold cutEntry
  repeat' (first | with_reducible assumption | with_reducible apply incObj_keeps | (with_reducible intro) | split | dsimp only | dsimp only [Keeps])

theorem setDomains_keeps (dds : List Nat) (st : Nat) (d : Device) (h : Keeps A L d) :
    Keeps A L (setDomains dds st d) := by
  unfold setDomains
  repeat' (first | with_reducible assumption | with_reducible apply cutEntry_keeps | with_reducible apply returnCredits_keeps | with_reducible apply setObj_keeps | with_reducible apply foldl_keeps | (with_reducible intro) | split | dsimp only | dsimp only [Keeps])

theorem domainFloor_keeps (d : Device) (h : Keeps A L d) :
    Keeps A L (domainFloor d) := by
  unfold domainFloor
  repeat' (first | with_reducible assumption | with_reducible apply setDomains_keeps | (with_reducible intro) | split | dsimp only | dsimp only [Keeps])

theorem holdComplexes_keeps (d : Device) (h : Keeps A L d) :
    Keeps A L (holdComplexes d) := by
  unfold holdComplexes
  repeat' (first | with_reducible assumption | with_reducible apply setObj_keeps | (with_reducible intro) | split | dsimp only | dsimp only [Keeps])

theorem holdInWake_keeps (m : Mode) (d : Device) (h : Keeps A L d) :
    Keeps A L (holdInWake m d) := by
  unfold holdInWake
  repeat' (first | with_reducible assumption | (with_reducible intro) | split | dsimp only | dsimp only [Keeps])

theorem changeMode_keeps (m : Mode) (d : Device) (h : Keeps A L d) :
    Keeps A L (changeMode m d) := by
  unfold changeMode
  repeat' (first | with_reducible assumption | with_reducible apply domainFloor_keeps | with_reducible apply enterThrottling_keeps | with_reducible apply holdComplexes_keeps | with_reducible apply holdInWake_keeps | with_reducible apply incObj_keeps | with_reducible apply logRec_keeps | with_reducible apply queueHeartbeat_keeps | with_reducible apply setObj_keeps | with_reducible apply updateCauses_keeps | with_reducible apply updateThrottling_keeps | (with_reducible intro) | split | dsimp only | dsimp only [Keeps])

theorem abandonTest_keeps (d : Device) (h : Keeps A L d) :
    Keeps A L (abandonTest d) := by
  unfold abandonTest
  repeat' (first | with_reducible assumption | with_reducible apply setObj_keeps | (with_reducible intro) | split | dsimp only | dsimp only [Keeps])

theorem flushRequests_keeps (d : Device) (h : Keeps A L d) :
    Keeps A L (flushRequests d) := by
  unfold flushRequests
  repeat' (first | with_reducible assumption | (with_reducible intro) | split | dsimp only | dsimp only [Keeps])

theorem startFlush_keeps (d : Device) (h : Keeps A L d) :
    Keeps A L (startFlush d) := by
  unfold startFlush
  repeat' (first | with_reducible assumption | with_reducible apply flushRequests_keeps | (with_reducible intro) | split | dsimp only | dsimp only [Keeps])

theorem enterFlush_keeps (d : Device) (h : Keeps A L d) :
    Keeps A L (enterFlush d) := by
  unfold enterFlush
  repeat' (first | with_reducible assumption | with_reducible apply abandonTest_keeps | with_reducible apply changeMode_keeps | with_reducible apply startFlush_keeps | (with_reducible intro) | split | dsimp only | dsimp only [Keeps])

theorem setShst_keeps (p v : Nat) (d : Device) (h : Keeps A L d) :
    Keeps A L (setShst p v d) := by
  unfold setShst
  repeat' (first | with_reducible assumption | with_reducible apply updPort_keeps | (with_reducible intro) | split | dsimp only | dsimp only [Keeps])

theorem shutdownReported_keeps (d : Device) (h : Keeps A L d) :
    Keeps A L (shutdownReported d) := by
  unfold shutdownReported
  repeat' (first | with_reducible assumption | with_reducible apply setShst_keeps | with_reducible apply updPort_keeps | with_reducible apply foldl_keeps | (with_reducible intro) | split | dsimp only | dsimp only [Keeps])

theorem setCfs_keeps (d : Device) (h : Keeps A L d) :
    Keeps A L (setCfs d) := by
  unfold setCfs
  repeat' (first | with_reducible assumption | with_reducible apply updPort_keeps | with_reducible apply foldl_keeps | (with_reducible intro) | split | dsimp only | dsimp only [Keeps])

theorem enterLockdown_keeps (d : Device) (h : Keeps A L d) :
    Keeps A L (enterLockdown d) := by
  unfold enterLockdown
  repeat' (first | with_reducible assumption | with_reducible apply abandonTest_keeps | with_reducible apply changeMode_keeps | with_reducible apply setCfs_keeps | with_reducible apply shutdownReported_keeps | with_reducible apply uncorrectableError_keeps | with_reducible apply foldl_keeps | (with_reducible intro) | split | dsimp only | dsimp only [Keeps])

theorem toLockdown_keeps (d : Device) (h : Keeps A L d) :
    Keeps A L (toLockdown d) := by
  unfold toLockdown
  repeat' (first | with_reducible assumption | with_reducible apply enterLockdown_keeps | with_reducible apply startFlush_keeps | (with_reducible intro) | split | dsimp only | dsimp only [Keeps])

theorem clearAllPens_keeps (d : Device) (h : Keeps A L d) :
    Keeps A L (clearAllPens d) := by
  unfold clearAllPens
  repeat' (first | with_reducible assumption | with_reducible apply returnAllTokens_keeps | with_reducible apply foldl_keeps | (with_reducible intro) | split | dsimp only | dsimp only [Keeps])

theorem domainsOff_keeps (d : Device) (h : Keeps A L d) :
    Keeps A L (domainsOff d) := by
  unfold domainsOff
  repeat' (first | with_reducible assumption | with_reducible apply setDomains_keeps | (with_reducible intro) | split | dsimp only | dsimp only [Keeps])

theorem linksDown_keeps (d : Device) (h : Keeps A L d) :
    Keeps A L (linksDown d) := by
  unfold linksDown
  repeat' (first | with_reducible assumption | with_reducible apply setObj_keeps | with_reducible apply updPort_keeps | with_reducible apply foldl_keeps | (with_reducible intro) | split | dsimp only | dsimp only [Keeps])

theorem enterHalt_keeps (d : Device) (h : Keeps A L d) :
    Keeps A L (enterHalt d) := by
  unfold enterHalt
  repeat' (first | with_reducible assumption | with_reducible apply abandonTest_keeps | with_reducible apply changeMode_keeps | with_reducible apply clearAllPens_keeps | with_reducible apply domainsOff_keeps | with_reducible apply linksDown_keeps | with_reducible apply setObj_keeps | (with_reducible intro) | split | dsimp only | dsimp only [Keeps])

theorem toHalt_keeps (sensor : Nat) (d : Device) (h : Keeps A L d) :
    Keeps A L (toHalt sensor d) := by
  unfold toHalt
  repeat' (first | with_reducible assumption | with_reducible apply enterHalt_keeps | with_reducible apply logRec_keeps | with_reducible apply startFlush_keeps | (with_reducible intro) | split | dsimp only | dsimp only [Keeps])

theorem heldOutputs_keeps (d : Device) (h : Keeps A L d) :
    Keeps A L (heldOutputs d) := by
  unfold heldOutputs
  repeat' (first | with_reducible assumption | with_reducible apply linksDown_keeps | with_reducible apply setObj_keeps | (with_reducible intro) | split | dsimp only | dsimp only [Keeps])

theorem enterHeld_keeps (d : Device) (h : Keeps A L d) :
    Keeps A L (enterHeld d) := by
  unfold enterHeld
  repeat' (first | with_reducible assumption | with_reducible apply abandonTest_keeps | with_reducible apply changeMode_keeps | with_reducible apply heldOutputs_keeps | (with_reducible intro) | split | dsimp only | dsimp only [Keeps])

theorem ledgerBroken_keeps (l o : Nat) (d : Device) (h : Keeps A L d) :
    Keeps A L (ledgerBroken l o d) := by
  unfold ledgerBroken
  repeat' (first | with_reducible assumption | with_reducible apply logRec_keeps | with_reducible apply toLockdown_keeps | (with_reducible intro) | split | dsimp only | dsimp only [Keeps])

theorem ledgerReturn_keeps (l o n : Nat) (d : Device) (h : Keeps A L d) :
    Keeps A L (ledgerReturn l o n d) := by
  unfold ledgerReturn
  repeat' (first | with_reducible assumption | with_reducible apply ledgerBroken_keeps | with_reducible apply ledgerGive_keeps | (with_reducible intro) | split | dsimp only | dsimp only [Keeps])

/-- Only where `A` is false: a mismatch sets the total beside the counts. -/
theorem totalMismatch_keeps (l : Nat) (both : Bool) (d : Device) (hA : ¬A) (h : Keeps A L d) : Keeps A L (totalMismatch l both d) := by
  unfold totalMismatch
  split
  · exact ledgerBroken_keeps _ _ _ (logRec_keeps _ _ _ h)
  · exact updLedger_keeps _ _ _ (fun ha => (hA ha).elim) (logRec_keeps _ _ _ h)

theorem readTotal_keeps (l : Nat) (d : Device) (h : Keeps A L d) : Keeps A L (readTotal l d) := by
  unfold readTotal
  split
  · next he => exact totalMismatch_keeps _ _ _ (takeDamage_total he h) (keeps_snd_of he (takeDamage_keeps _ _ _ h))
  · next e he =>
    have h₁ := keeps_snd_of he (takeDamage_keeps _ _ _ h)
    split
    · exact h₁
    · next hp => exact totalMismatch_keeps _ _ _ (fun ha => hp ((h₁.1 ha).1 l).2) h₁

theorem checkLedger_keeps (l : Nat) (d : Device) (h : Keeps A L d) :
    Keeps A L (checkLedger l d) := by
  unfold checkLedger
  repeat' (first | with_reducible assumption | with_reducible apply incObj_keeps | with_reducible apply ledgerBroken_keeps | with_reducible apply readTotal_keeps | (with_reducible intro) | split | dsimp only | dsimp only [Keeps])

theorem startShutdown_keeps (d : Device) (h : Keeps A L d) :
    Keeps A L (startShutdown d) := by
  unfold startShutdown
  repeat' (first | with_reducible assumption | with_reducible apply updPort_keeps | with_reducible apply foldl_keeps | (with_reducible intro) | split | dsimp only | dsimp only [Keeps])

theorem dueTransitions_keeps (d : Device) (h : Keeps A L d) :
    Keeps A L (dueTransitions d) := by
  unfold dueTransitions
  repeat' (first | with_reducible assumption | with_reducible apply changeMode_keeps | with_reducible apply logRec_keeps | with_reducible apply startShutdown_keeps | (with_reducible intro) | split | dsimp only | dsimp only [Keeps])

theorem serveNext_keeps (d : Device) (h : Keeps A L d) :
    Keeps A L (serveNext d) := by
  unfold serveNext
  repeat' (first | with_reducible assumption | with_reducible apply grantRequest_keeps | with_reducible apply withhold_keeps | (with_reducible intro) | split | dsimp only | dsimp only [Keeps])

theorem tokensBack_keeps (bank amount : Nat) (d : Device) (h : Keeps A L d) :
    Keeps A L (tokensBack bank amount d) := by
  unfold tokensBack
  repeat' (first | with_reducible assumption | with_reducible apply ledgerBroken_keeps | with_reducible apply returnTokens_keeps | (with_reducible intro) | split | dsimp only | dsimp only [Keeps])

theorem whileCharged_keeps (bank amount : Nat) (k : Device → Device) (d : Device) (hk : ∀ e, Keeps A L e → Keeps A L (k e)) (h : Keeps A L d) :
    Keeps A L (whileCharged bank amount k d) := by
  unfold whileCharged
  repeat' (first | with_reducible assumption | with_reducible apply countRefused_keeps | with_reducible apply hk | (with_reducible intro) | split | dsimp only | dsimp only [Keeps])

theorem engageGuard_keeps (bank : Nat) (d : Device) (h : Keeps A L d) :
    Keeps A L (engageGuard bank d) := by
  unfold engageGuard
  repeat' (first | with_reducible assumption | with_reducible apply incObj_keeps | (with_reducible intro) | split | dsimp only | dsimp only [Keeps])

theorem updCarrier_keeps (bank : Nat) (f : Carrier → Carrier) (d : Device) (h : Keeps A L d) :
    Keeps A L (updCarrier bank f d) := by
  unfold updCarrier
  repeat' (first | with_reducible assumption | (with_reducible intro) | split | dsimp only | dsimp only [Keeps])

theorem powerUpBack_keeps (bank : Nat) (d : Device) (h : Keeps A L d) :
    Keeps A L (powerUpBack bank d) := by
  unfold powerUpBack
  repeat' (first | with_reducible assumption | with_reducible apply tokensBack_keeps | with_reducible apply updCarrier_keeps | (with_reducible intro) | split | dsimp only | dsimp only [Keeps])

theorem grantBuffer_keeps (owner pool : Nat) (standing : Bool) (d : Device) (h : Keeps A L d) :
    Keeps A L (grantBuffer owner pool standing d) := by
  unfold grantBuffer
  repeat' (first | with_reducible assumption | with_reducible apply ledgerTake_keeps | (with_reducible intro) | split | dsimp only | dsimp only [Keeps])

theorem countMapLoad_keeps (owner pool : Nat) (d : Device) (h : Keeps A L d) :
    Keeps A L (countMapLoad owner pool d) := by
  unfold countMapLoad
  repeat' (first | with_reducible assumption | with_reducible apply incObj_keeps | (with_reducible intro) | split | dsimp only | dsimp only [Keeps])

theorem poolEmptyResult_keeps (owner pool size : Nat) (own : Bool) (d : Device) (h : Keeps A L d) :
    Keeps A L (poolEmptyResult owner pool size own d) := by
  unfold poolEmptyResult
  repeat' (first | with_reducible assumption | with_reducible apply countMapLoad_keeps | with_reducible apply countRefused_keeps | (with_reducible intro) | split | dsimp only | dsimp only [Keeps])

theorem requestBuffer_keeps (owner size : Nat) (standing : Bool) (d : Device) (h : Keeps A L d) :
    Keeps A L (requestBuffer owner size standing d) := by
  unfold requestBuffer
  repeat' (first | with_reducible assumption | with_reducible apply grantBuffer_keeps | with_reducible apply poolEmptyResult_keeps | (with_reducible intro) | split | dsimp only | dsimp only [Keeps])

theorem takeBuffer_keeps (owner pool : Nat) (standing : Bool) (d : Device) (h : Keeps A L d) :
    Keeps A L (takeBuffer owner pool standing d).2 := by
  unfold takeBuffer
  repeat' (first | with_reducible assumption | with_reducible apply grantBuffer_keeps | with_reducible apply poolEmptyResult_keeps | (with_reducible intro) | split | dsimp only | dsimp only [Keeps])

theorem retryBuffer_keeps (owner pool : Nat) (d : Device) (h : Keeps A L d) :
    Keeps A L (retryBuffer owner pool d) := by
  unfold retryBuffer
  repeat' (first | with_reducible assumption | with_reducible apply grantBuffer_keeps | with_reducible apply incObj_keeps | with_reducible apply poolEmptyResult_keeps | (with_reducible intro) | split | dsimp only | dsimp only [Keeps])

theorem returnBuffer_keeps (owner pool index : Nat) (d : Device) (h : Keeps A L d) :
    Keeps A L (returnBuffer owner pool index d) := by
  unfold returnBuffer
  repeat' (first | with_reducible assumption | with_reducible apply ledgerBroken_keeps | with_reducible apply ledgerReturn_keeps | (with_reducible intro) | split | dsimp only | dsimp only [Keeps])

theorem giveBuffers_keeps (owner pool : Nat) (is : List Nat) (d : Device) (h : Keeps A L d) :
    Keeps A L (giveBuffers owner pool is d) := by
  unfold giveBuffers
  repeat' (first | with_reducible assumption | with_reducible apply returnBuffer_keeps | with_reducible apply foldl_keeps | (with_reducible intro) | split | dsimp only | dsimp only [Keeps])

theorem auditOwner_keeps (owner : Nat) (d : Device) (h : Keeps A L d) :
    Keeps A L (auditOwner owner d) := by
  unfold auditOwner
  repeat' (first | with_reducible assumption | with_reducible apply logRec_keeps | (with_reducible intro) | split | dsimp only | dsimp only [Keeps])

theorem creditBack_keeps (link : Nat) (d : Device) (h : Keeps A L d) :
    Keeps A L (creditBack link d) := by
  unfold creditBack
  repeat' (first | with_reducible assumption | with_reducible apply ledgerReturn_keeps | with_reducible apply ledgerTake_keeps | (with_reducible intro) | split | dsimp only | dsimp only [Keeps])

theorem actedOn_keeps (d : Device) (h : Keeps A L d) :
    Keeps A L (actedOn d) := by
  unfold actedOn
  repeat' (first | with_reducible assumption | with_reducible apply incObj_keeps | (with_reducible intro) | split | dsimp only | dsimp only [Keeps])

theorem signalWake_keeps (event : Nat) (p : Nat) (d : Device) (h : Keeps A L d) :
    Keeps A L (signalWake event p d) := by
  unfold signalWake
  repeat' (first | with_reducible assumption | with_reducible apply incObj_keeps | with_reducible apply logRec_keeps | with_reducible apply updPort_keeps | (with_reducible intro) | split | dsimp only | dsimp only [Keeps])

theorem signalWakeAll_keeps (event : Nat) (d : Device) (h : Keeps A L d) :
    Keeps A L (signalWakeAll event d) := by
  unfold signalWakeAll
  repeat' (first | with_reducible assumption | with_reducible apply signalWake_keeps | with_reducible apply foldl_keeps | (with_reducible intro) | split | dsimp only | dsimp only [Keeps])

theorem observeDark_keeps (d : Device) (h : Keeps A L d) :
    Keeps A L (observeDark d) := by
  unfold observeDark
  repeat' (first | with_reducible assumption | with_reducible apply setObj_keeps | (with_reducible intro) | split | dsimp only | dsimp only [Keeps])

theorem setWallClock_keeps (ms source : Nat) (d : Device) (h : Keeps A L d) :
    Keeps A L (setWallClock ms source d) := by
  unfold setWallClock
  repeat' (first | with_reducible assumption | with_reducible apply logRec_keeps | with_reducible apply observeDark_keeps | with_reducible apply setObj_keeps | (with_reducible intro) | split | dsimp only | dsimp only [Keeps])

theorem takeTimeSync_keeps (ms elapsed : Nat) (d : Device) (h : Keeps A L d) :
    Keeps A L (takeTimeSync ms elapsed d) := by
  unfold takeTimeSync
  repeat' (first | with_reducible assumption | with_reducible apply actedOn_keeps | with_reducible apply incObj_keeps | with_reducible apply setWallClock_keeps | (with_reducible intro) | split | dsimp only | dsimp only [Keeps])

theorem wakeDomains_keeps (d : Device) (h : Keeps A L d) :
    Keeps A L (wakeDomains d) := by
  unfold wakeDomains
  repeat' (first | with_reducible assumption | with_reducible apply setObj_keeps | with_reducible apply foldl_keeps | (with_reducible intro) | split | dsimp only | dsimp only [Keeps])

theorem takeWakeFrame_keeps (flags seq : Nat) (d : Device) (h : Keeps A L d) :
    Keeps A L (takeWakeFrame flags seq d) := by
  unfold takeWakeFrame
  repeat' (first | with_reducible assumption | with_reducible apply actedOn_keeps | with_reducible apply incObj_keeps | with_reducible apply queueHeartbeat_keeps | with_reducible apply signalWakeAll_keeps | with_reducible apply wakeDomains_keeps | (with_reducible intro) | split | dsimp only | dsimp only [Keeps])

theorem nodeConflict_keeps (func : Nat) (d : Device) (h : Keeps A L d) :
    Keeps A L (nodeConflict func d) := by
  unfold nodeConflict
  repeat' (first | with_reducible assumption | with_reducible apply logRec_keeps | (with_reducible intro) | split | dsimp only | dsimp only [Keeps])

theorem errorState_keeps (d : Device) (h : Keeps A L d) :
    Keeps A L (errorState d) := by
  unfold errorState
  repeat' (first | with_reducible assumption | with_reducible apply setObj_keeps | (with_reducible intro) | split | dsimp only | dsimp only [Keeps])

theorem recoverBus_keeps (d : Device) (h : Keeps A L d) :
    Keeps A L (recoverBus d) := by
  unfold recoverBus
  repeat' (first | with_reducible assumption | with_reducible apply logRec_keeps | with_reducible apply setObj_keeps | (with_reducible intro) | split | dsimp only | dsimp only [Keeps])

theorem slotBack_keeps (owner : Nat) (d : Device) (h : Keeps A L d) :
    Keeps A L (slotBack owner d) := by
  unfold slotBack
  repeat' (first | with_reducible assumption | with_reducible apply ledgerGive_keeps | with_reducible apply serveWaitingFrames_keeps | (with_reducible intro) | split | dsimp only | dsimp only [Keeps])

theorem frameFails_keeps (f : CanFrame) (i : Nat) (d : Device) (h : Keeps A L d) :
    Keeps A L (frameFails f i d) := by
  unfold frameFails
  repeat' (first | with_reducible assumption | with_reducible apply incObj_keeps | with_reducible apply slotBack_keeps | (with_reducible intro) | split | dsimp only | dsimp only [Keeps])

theorem enterBusOff_keeps (d : Device) (h : Keeps A L d) :
    Keeps A L (enterBusOff d) := by
  unfold enterBusOff
  repeat' (first | with_reducible assumption | with_reducible apply frameFails_keeps | with_reducible apply incObj_keeps | with_reducible apply setObj_keeps | (with_reducible intro) | split | dsimp only | dsimp only [Keeps])

theorem winBus_keeps (d : Device) (h : Keeps A L d) :
    Keeps A L (winBus d) := by
  unfold winBus
  repeat' (first | with_reducible assumption | (with_reducible intro) | split | dsimp only | dsimp only [Keeps])

theorem frameEnds_keeps (error : Bool) (d : Device) (h : Keeps A L d) :
    Keeps A L (frameEnds error d) := by
  unfold frameEnds
  repeat' (first | with_reducible assumption | with_reducible apply errorState_keeps | with_reducible apply frameFails_keeps | with_reducible apply incObj_keeps | with_reducible apply setObj_keeps | with_reducible apply slotBack_keeps | (with_reducible intro) | split | dsimp only | dsimp only [Keeps])

theorem withdrawWhere_keeps (pick : CanFrame → Bool) (fs : List CanFrame) (d : Device) (h : Keeps A L d) :
    Keeps A L (withdrawWhere pick fs d) := by
  induction fs generalizing d with
  | nil => exact h
  | cons x xs ih =>
    unfold withdrawWhere
    repeat' (first | with_reducible assumption | with_reducible apply incObj_keeps | with_reducible apply slotBack_keeps | with_reducible apply ih | (with_reducible intro) | split | dsimp only | dsimp only [Keeps])

theorem withdrawNotices_keeps (d : Device) (h : Keeps A L d) :
    Keeps A L (withdrawNotices d) := by
  unfold withdrawNotices
  repeat' (first | with_reducible assumption | with_reducible apply withdrawWhere_keeps | (with_reducible intro) | split | dsimp only | dsimp only [Keeps])

theorem reportOverwritten_keeps (d : Device) (h : Keeps A L d) :
    Keeps A L (reportOverwritten d) := by
  unfold reportOverwritten
  repeat' (first | with_reducible assumption | with_reducible apply logRec_keeps | (with_reducible intro) | split | dsimp only | dsimp only [Keeps])

theorem ceilingVerified_keeps (d : Device) (h : Keeps A L d) : Keeps A L (ceilingVerified d) := by
  unfold ceilingVerified
  split
  · next c hc =>
    refine acceptWaiting_keeps _ _ ⟨h.1, fun hl => ?_⟩
    obtain ⟨h1, h2, _, h4, h5⟩ := h.2 hl
    exact ⟨h1, h2, h4 c hc, fun n hn => (Option.some_ne_none n hn.symm).elim, h5⟩
  · exact h

theorem logbookRunStart_keeps (d : Device) (h : Keeps A L d) : Keeps A L (logbookRunStart d) := by
  unfold logbookRunStart
  have hc (hl : L) : InSeq (seqAdd d.cs.counters.ceiling 65536) := inSeq_seqAdd (h.2 hl).2.2.2.2 (by norm_num)
  dsimp only
  generalize seqAdd d.cs.counters.ceiling 65536 = n at hc
  refine foldl_keeps _ _ (fun d b h => logRec_keeps _ _ _ h) (logRec_keeps _ _ _ ⟨h.1, fun hl => ?_⟩)
  refine ⟨Nat.zero_le _, (h.2 hl).2.2.2.2, hc hl, fun n hn => (Option.some_ne_none n hn.symm).elim, ?_⟩
  rw [appendCounterEntry_counters]
  exact hc hl

theorem recordMismatch_keeps (seq level : Nat) (d : Device) (h : Keeps A L d) : Keeps A L (recordMismatch seq level d) := by
  unfold recordMismatch
  split
  · exact logRec_keeps _ _ _ h
  · refine logRec_keeps _ _ _ ⟨h.1, fun hl => ⟨?_, (h.2 hl).2⟩⟩
    simpa using (List.length_filter_le _ _).trans (h.2 hl).1

theorem readRecord_keeps (d : Device) (seq : Nat) (h : Keeps A L d) :
    Keeps A L (readRecord d seq) := by
  unfold readRecord
  repeat' (first | with_reducible assumption | (with_reducible refine keeps_snd_of (r := takeDamage _ _ _) ‹_› ?_) | with_reducible apply recordMismatch_keeps | with_reducible apply takeDamage_keeps | (with_reducible intro) | split | dsimp only | dsimp only [Keeps])

theorem updDie_keeps (n : Nat) (f : DieState → DieState) (d : Device) (h : Keeps A L d) :
    Keeps A L (updDie n f d) := by
  unfold updDie
  repeat' (first | with_reducible assumption | (with_reducible intro) | split | dsimp only | dsimp only [Keeps])

theorem updBlock_keeps (b : Nat) (f : Block → Block) (d : Device) (h : Keeps A L d) :
    Keeps A L (updBlock b f d) := by
  unfold updBlock
  repeat' (first | with_reducible assumption | (with_reducible intro) | split | dsimp only | dsimp only [Keeps])

theorem updStripe_keeps (n : Nat) (f : Stripe → Stripe) (d : Device) (h : Keeps A L d) :
    Keeps A L (updStripe n f d) := by
  unfold updStripe
  repeat' (first | with_reducible assumption | (with_reducible intro) | split | dsimp only | dsimp only [Keeps])

theorem updGroup_keeps (dieNo slot : Nat) (f : Group → Group) (d : Device) (h : Keeps A L d) :
    Keeps A L (updGroup dieNo slot f d) := by
  unfold updGroup
  repeat' (first | with_reducible assumption | (with_reducible intro) | split | dsimp only | dsimp only [Keeps])

theorem endOp_keeps (n : Nat) (d : Device) (h : Keeps A L d) :
    Keeps A L (endOp n d) := by
  unfold endOp
  repeat' (first | with_reducible assumption | with_reducible apply tokensBack_keeps | with_reducible apply updDie_keeps | (with_reducible intro) | split | dsimp only | dsimp only [Keeps])

theorem takeBlock_keeps (n plane fuel : Nat) (d : Device) (h : Keeps A L d) :
    Keeps A L (takeBlock n plane fuel d).2 := by
  induction fuel generalizing d with
  | zero => exact h
  | succ k ih =>
    unfold takeBlock
    repeat' (first | with_reducible assumption | with_reducible apply incObj_keeps | with_reducible apply logRec_keeps | with_reducible apply updBlock_keeps | (with_reducible refine keeps_snd_of (r := takeBlock _ _ _ _) ‹_› ?_) | with_reducible apply ih | (with_reducible intro) | split | dsimp only | dsimp only [Keeps])

theorem takeBlocks_keeps (n role : Nat) (d : Device) (h : Keeps A L d) : Keeps A L (takeBlocks n role d).2 := by
  unfold takeBlocks
  refine foldl_snd_keeps _ _ (fun a b ha => ?_) h
  dsimp only
  split
  · exact takeBlock_keeps _ _ _ _ ha
  · exact ha

theorem lookAgain_keeps (ptrs : List Nat) (d : Device) (h : Keeps A L d) :
    Keeps A L (lookAgain ptrs d) := by
  unfold lookAgain
  repeat' (first | with_reducible assumption | (with_reducible intro) | split | dsimp only | dsimp only [Keeps])

theorem unplaceWhere_keeps (pick : Placement → Bool) (d : Device) (h : Keeps A L d) :
    Keeps A L (unplaceWhere pick d) := by
  unfold unplaceWhere
  repeat' (first | with_reducible assumption | with_reducible apply lookAgain_keeps | (with_reducible intro) | split | dsimp only | dsimp only [Keeps])

theorem unplaceOn_keeps (lostDie : Nat → Bool) (d : Device) (h : Keeps A L d) :
    Keeps A L (unplaceOn lostDie d) := by
  unfold unplaceOn
  repeat' (first | with_reducible assumption | with_reducible apply unplaceWhere_keeps | (with_reducible intro) | split | dsimp only | dsimp only [Keeps])

theorem stopStripe_keeps (n : Nat) (d : Device) (h : Keeps A L d) :
    Keeps A L (stopStripe n d) := by
  unfold stopStripe
  repeat' (first | with_reducible assumption | with_reducible apply unplaceWhere_keeps | with_reducible apply updBlock_keeps | with_reducible apply updStripe_keeps | with_reducible apply foldl_keeps | with_reducible apply foldl_snd_keeps | with_reducible apply foldl_third_keeps | (with_reducible intro) | split | dsimp only | dsimp only [Keeps])

theorem joinRestripe_keeps (n : Nat) (lost : Bool) (d : Device) (h : Keeps A L d) :
    Keeps A L (joinRestripe n lost d) := by
  unfold joinRestripe
  repeat' (first | with_reducible assumption | (with_reducible intro) | split | dsimp only | dsimp only [Keeps])

theorem loseWhere_keeps (pick : Nat → Nat × Nat → Bool) (d : Device) (h : Keeps A L d) :
    Keeps A L (loseWhere pick d).2 := by
  unfold loseWhere
  repeat' (first | with_reducible assumption | with_reducible apply joinRestripe_keeps | with_reducible apply stopStripe_keeps | with_reducible apply updBlock_keeps | with_reducible apply updStripe_keeps | with_reducible apply foldl_keeps | with_reducible apply foldl_snd_keeps | with_reducible apply foldl_third_keeps | (with_reducible intro) | split | dsimp only | dsimp only [Keeps])

theorem loseMembers_keeps (pick : Nat × Nat → Bool) (d : Device) (h : Keeps A L d) :
    Keeps A L (loseMembers pick d).2 := by
  unfold loseMembers
  repeat' (first | with_reducible assumption | (with_reducible refine keeps_snd_of (r := loseWhere _ _) ‹_› ?_) | with_reducible apply loseWhere_keeps | (with_reducible intro) | split | dsimp only | dsimp only [Keeps])

theorem noteBanks_keeps (d : Device) (h : Keeps A L d) :
    Keeps A L (noteBanks d) := by
  unfold noteBanks
  repeat' (first | with_reducible assumption | with_reducible apply logRec_keeps | (with_reducible intro) | split | dsimp only | dsimp only [Keeps])

theorem setCarrierState_keeps (bank st : Nat) (d : Device) (h : Keeps A L d) :
    Keeps A L (setCarrierState bank st d) := by
  unfold setCarrierState
  repeat' (first | with_reducible assumption | with_reducible apply noteBanks_keeps | with_reducible apply raiseOnAll_keeps | with_reducible apply setObj_keeps | (with_reducible intro) | split | dsimp only | dsimp only [Keeps])

theorem clearPen_keeps (bank : Nat) (d : Device) (h : Keeps A L d) :
    Keeps A L (clearPen bank d) := by
  unfold clearPen
  repeat' (first | with_reducible assumption | with_reducible apply endCarrierThrottle_keeps | with_reducible apply returnAllTokens_keeps | with_reducible apply setDomains_keeps | with_reducible apply setObj_keeps | with_reducible apply updCarrier_keeps | with_reducible apply foldl_keeps | with_reducible apply foldl_snd_keeps | with_reducible apply foldl_third_keeps | (with_reducible intro) | split | dsimp only | dsimp only [Keeps])

theorem loseBank_keeps (bank : Nat) (d : Device) (h : Keeps A L d) :
    Keeps A L (loseBank bank d) := by
  unfold loseBank
  repeat' (first | with_reducible assumption | (with_reducible refine keeps_snd_of (r := loseMembers _ _) ‹_› ?_) | with_reducible apply logRec_keeps | with_reducible apply loseMembers_keeps | with_reducible apply unplaceOn_keeps | with_reducible apply updCarrier_keeps | (with_reducible intro) | split | dsimp only | dsimp only [Keeps])

theorem failDie_keeps (n cause : Nat) (d : Device) (h : Keeps A L d) :
    Keeps A L (failDie n cause d) := by
  unfold failDie
  repeat' (first | with_reducible assumption | (with_reducible refine keeps_snd_of (r := loseMembers _ _) ‹_› ?_) | with_reducible apply clearPen_keeps | with_reducible apply endOp_keeps | with_reducible apply logRec_keeps | with_reducible apply loseBank_keeps | with_reducible apply loseMembers_keeps | with_reducible apply setCarrierState_keeps | with_reducible apply unplaceOn_keeps | with_reducible apply updDie_keeps | (with_reducible intro) | split | dsimp only | dsimp only [Keeps])

theorem pickBlock_keeps (n frames fuel : Nat) (d : Device) (h : Keeps A L d) :
    Keeps A L (pickBlock n frames fuel d).2 := by
  induction fuel generalizing d with
  | zero => exact h
  | succ k ih =>
    unfold pickBlock
    repeat' (first | with_reducible assumption | with_reducible apply updBlock_keeps | (with_reducible refine keeps_snd_of (r := pickBlock _ _ _ _) ‹_› ?_) | with_reducible apply ih | (with_reducible intro) | split | dsimp only | dsimp only [Keeps])

theorem holdRows_keeps (p : Placement) (d : Device) (h : Keeps A L d) :
    Keeps A L (holdRows p d) := by
  unfold holdRows
  repeat' (first | with_reducible assumption | with_reducible apply updStripe_keeps | (with_reducible intro) | split | dsimp only | dsimp only [Keeps])

theorem systemRun_keeps (frames : Nat) (apart : Option Nat) (d : Device) (h : Keeps A L d) :
    Keeps A L (systemRun frames apart d).2 := by
  unfold systemRun
  repeat' (first | with_reducible assumption | (with_reducible refine keeps_snd_of (r := freshNat _) ‹_› ?_) | with_reducible apply freshNat_keeps | with_reducible apply holdRows_keeps | with_reducible apply updBlock_keeps | (with_reducible intro) | split | dsimp only | dsimp only [Keeps])

theorem systemPlace_keeps (apart : Option Nat) (d : Device) (h : Keeps A L d) :
    Keeps A L (systemPlace apart d).2 := by
  unfold systemPlace
  repeat' (first | with_reducible assumption | (with_reducible refine keeps_snd_of (r := systemRun _ _ _) ‹_› ?_) | with_reducible apply systemRun_keeps | (with_reducible intro) | split | dsimp only | dsimp only [Keeps])

theorem systemPair_keeps (d : Device) (h : Keeps A L d) :
    Keeps A L (systemPair d).2.2 := by
  unfold systemPair
  repeat' (first | with_reducible assumption | (with_reducible refine keeps_snd_of (r := systemPlace _ _) ‹_› ?_) | with_reducible apply systemPlace_keeps | (with_reducible intro) | split | dsimp only | dsimp only [Keeps])

theorem setRoot_keeps (f : Roots → Roots) (d : Device) (h : Keeps A L d) :
    Keeps A L (setRoot f d) := by
  unfold setRoot
  repeat' (first | with_reducible assumption | (with_reducible intro) | split | dsimp only | dsimp only [Keeps])

theorem moveRoot_keeps (f : Nat → Roots → Roots) (d : Device) (h : Keeps A L d) :
    Keeps A L (moveRoot f d) := by
  unfold moveRoot
  repeat' (first | with_reducible assumption | (with_reducible refine keeps_snd_of (r := systemPlace _ _) ‹_› ?_) | with_reducible apply setRoot_keeps | with_reducible apply systemPlace_keeps | (with_reducible intro) | split | dsimp only | dsimp only [Keeps])

theorem endExhausted_keeps (n : Nat) (d : Device) (h : Keeps A L d) :
    Keeps A L (endExhausted n d) := by
  unfold endExhausted
  repeat' (first | with_reducible assumption | with_reducible apply failDie_keeps | (with_reducible intro) | split | dsimp only | dsimp only [Keeps])

theorem exhaustDie_keeps (n slot plane : Nat) (d : Device) (h : Keeps A L d) :
    Keeps A L (exhaustDie n slot plane d) := by
  unfold exhaustDie
  repeat' (first | with_reducible assumption | (with_reducible refine keeps_snd_of (r := loseWhere _ _) ‹_› ?_) | with_reducible apply endExhausted_keeps | with_reducible apply logRec_keeps | with_reducible apply loseWhere_keeps | with_reducible apply unplaceWhere_keeps | with_reducible apply updDie_keeps | with_reducible apply updGroup_keeps | (with_reducible intro) | split | dsimp only | dsimp only [Keeps])

theorem logGroup_keeps (r : PlaneRecord) (d : Device) (h : Keeps A L d) :
    Keeps A L (logGroup r d) := by
  unfold logGroup
  repeat' (first | with_reducible assumption | (with_reducible refine keeps_third_of (r := systemPair _) ‹_› ?_) | with_reducible apply systemPair_keeps | (with_reducible intro) | split | dsimp only | dsimp only [Keeps])

theorem formGroup_keeps (n slot : Nat) (d : Device) (h : Keeps A L d) :
    Keeps A L (formGroup n slot d) := by
  unfold formGroup
  repeat' (first | with_reducible assumption | (with_reducible refine keeps_snd_of (r := takeBlocks _ _ _) ‹_› ?_) | with_reducible apply exhaustDie_keeps | with_reducible apply logGroup_keeps | with_reducible apply takeBlocks_keeps | with_reducible apply updBlock_keeps | with_reducible apply updGroup_keeps | with_reducible apply foldl_keeps | (with_reducible intro) | split | dsimp only | dsimp only [Keeps])

theorem fillRow_keeps (w : Nat) (d : Device) (b : Nat) (h : Keeps A L d) :
    Keeps A L (fillRow w d b) := by
  unfold fillRow
  repeat' (first | with_reducible assumption | with_reducible apply addObj_keeps | with_reducible apply updBlock_keeps | (with_reducible intro) | split | dsimp only | dsimp only [Keeps])

theorem padWordline_keeps (n slot w : Nat) (d : Device) (h : Keeps A L d) :
    Keeps A L (padWordline n slot w d) := by
  unfold padWordline
  repeat' (first | with_reducible assumption | with_reducible apply updBlock_keeps | with_reducible apply updGroup_keeps | with_reducible apply foldl_keeps | (with_reducible intro) | split | dsimp only | dsimp only [Keeps])

theorem padEnd_keeps (n slot : Nat) (d : Device) (h : Keeps A L d) :
    Keeps A L (padEnd n slot d) := by
  unfold padEnd
  repeat' (first | with_reducible assumption | with_reducible apply padWordline_keeps | (with_reducible intro) | split | dsimp only | dsimp only [Keeps])

theorem holdSums_keeps (n : Nat) (rows : List Nat) (d : Device) (h : Keeps A L d) :
    Keeps A L (holdSums n rows d) := by
  unfold holdSums
  repeat' (first | with_reducible assumption | (with_reducible refine keeps_snd_of (r := takeBuffer _ _ _ _) ‹_› ?_) | with_reducible apply takeBuffer_keeps | with_reducible apply updStripe_keeps | with_reducible apply foldl_keeps | (with_reducible intro) | split | dsimp only | dsimp only [Keeps])

theorem encodeGroup_keeps (n slot : Nat) (d : Device) (h : Keeps A L d) :
    Keeps A L (encodeGroup n slot d) := by
  unfold encodeGroup
  repeat' (first | with_reducible assumption | with_reducible apply fillRow_keeps | with_reducible apply holdSums_keeps | with_reducible apply padEnd_keeps | with_reducible apply poolEmptyResult_keeps | with_reducible apply updGroup_keeps | with_reducible apply foldl_keeps | (with_reducible intro) | split | dsimp only | dsimp only [Keeps])

theorem eraseEnds_keeps (n slot : Nat) (inTime : Bool) (failed : List Nat) (d : Device) (h : Keeps A L d) :
    Keeps A L (eraseEnds n slot inTime failed d) := by
  unfold eraseEnds
  repeat' (first | with_reducible assumption | with_reducible apply encodeGroup_keeps | with_reducible apply endOp_keeps | with_reducible apply formGroup_keeps | with_reducible apply incObj_keeps | with_reducible apply logRec_keeps | with_reducible apply updBlock_keeps | with_reducible apply updDie_keeps | with_reducible apply updGroup_keeps | with_reducible apply foldl_keeps | (with_reducible intro) | split | dsimp only | dsimp only [Keeps])

theorem eraseAgain_keeps (n slot : Nat) (d : Device) (h : Keeps A L d) :
    Keeps A L (eraseAgain n slot d) := by
  unfold eraseAgain
  repeat' (first | with_reducible assumption | with_reducible apply updBlock_keeps | with_reducible apply updGroup_keeps | with_reducible apply foldl_keeps | (with_reducible intro) | split | dsimp only | dsimp only [Keeps])

theorem closeBlocks_keeps (n : Nat) (blocks : List Nat) (d : Device) (h : Keeps A L d) :
    Keeps A L (closeBlocks n blocks d) := by
  unfold closeBlocks
  repeat' (first | with_reducible assumption | with_reducible apply updBlock_keeps | with_reducible apply foldl_keeps | (with_reducible intro) | split | dsimp only | dsimp only [Keeps])

theorem releaseSums_keeps (n : Nat) (d : Device) (h : Keeps A L d) :
    Keeps A L (releaseSums n d) := by
  unfold releaseSums
  repeat' (first | with_reducible assumption | with_reducible apply giveBuffers_keeps | with_reducible apply updStripe_keeps | (with_reducible intro) | split | dsimp only | dsimp only [Keeps])

theorem releaseBuffers_keeps (n : Nat) (d : Device) (h : Keeps A L d) :
    Keeps A L (releaseBuffers n d) := by
  unfold releaseBuffers
  repeat' (first | with_reducible assumption | with_reducible apply giveBuffers_keeps | with_reducible apply updStripe_keeps | (with_reducible intro) | split | dsimp only | dsimp only [Keeps])

theorem advanceStripe_keeps (fuel n : Nat) (d : Device) (h : Keeps A L d) :
    Keeps A L (advanceStripe fuel n d) := by
  induction fuel generalizing d with
  | zero => exact h
  | succ k ih =>
    unfold advanceStripe
    repeat' (first | with_reducible assumption | with_reducible apply incObj_keeps | with_reducible apply joinRestripe_keeps | with_reducible apply releaseBuffers_keeps | with_reducible apply setObj_keeps | with_reducible apply updStripe_keeps | with_reducible apply ih | (with_reducible intro) | split | dsimp only | dsimp only [Keeps])

theorem passFails_keeps (n slot : Nat) (fine : Bool) (w : Nat) (failed : List Nat) (d : Device) (h : Keeps A L d) :
    Keeps A L (passFails n slot fine w failed d) := by
  unfold passFails
  repeat' (first | with_reducible assumption | with_reducible apply closeBlocks_keeps | with_reducible apply failDie_keeps | with_reducible apply formGroup_keeps | with_reducible apply incObj_keeps | with_reducible apply logRec_keeps | with_reducible apply unplaceWhere_keeps | with_reducible apply updBlock_keeps | with_reducible apply updGroup_keeps | with_reducible apply foldl_keeps | with_reducible apply foldl_snd_keeps | with_reducible apply foldl_third_keeps | (with_reducible intro) | split | dsimp only | dsimp only [Keeps])

theorem startOp_keeps (n : Nat) (d : Device) (h : Keeps A L d) :
    Keeps A L (startOp n d) := by
  unfold startOp
  repeat' (first | with_reducible assumption | with_reducible apply requestTokens_keeps | with_reducible apply updDie_keeps | (with_reducible intro) | split | dsimp only | dsimp only [Keeps])

theorem startOps_keeps (d : Device) (h : Keeps A L d) :
    Keeps A L (startOps d) := by
  unfold startOps
  repeat' (first | with_reducible assumption | with_reducible apply startOp_keeps | with_reducible apply foldl_keeps | (with_reducible intro) | split | dsimp only | dsimp only [Keeps])

theorem withdrawOps_keeps (bank : Nat) (d : Device) (h : Keeps A L d) :
    Keeps A L (withdrawOps bank d) := by
  unfold withdrawOps
  repeat' (first | with_reducible assumption | with_reducible apply endOp_keeps | with_reducible apply foldl_keeps | (with_reducible intro) | split | dsimp only | dsimp only [Keeps])

theorem queueStripe_keeps (q n : Nat) (d : Device) (h : Keeps A L d) :
    Keeps A L (queueStripe q n d) := by
  unfold queueStripe
  repeat' (first | with_reducible assumption | (with_reducible intro) | split | dsimp only | dsimp only [Keeps])

theorem queueRefresh_keeps (b : Nat) (d : Device) (h : Keeps A L d) :
    Keeps A L (queueRefresh b d) := by
  unfold queueRefresh
  repeat' (first | with_reducible assumption | with_reducible apply incObj_keeps | with_reducible apply queueStripe_keeps | with_reducible apply updBlock_keeps | (with_reducible intro) | split | dsimp only | dsimp only [Keeps])

theorem passEnds_keeps (n slot : Nat) (inTime : Bool) (failed : List Nat) (d : Device) (h : Keeps A L d) :
    Keeps A L (passEnds n slot inTime failed d) := by
  unfold passEnds
  repeat' (first | with_reducible assumption | with_reducible apply advanceStripe_keeps | with_reducible apply closeBlocks_keeps | with_reducible apply encodeGroup_keeps | with_reducible apply endExhausted_keeps | with_reducible apply endOp_keeps | with_reducible apply passFails_keeps | with_reducible apply queueRefresh_keeps | with_reducible apply releaseSums_keeps | with_reducible apply sendOnLink_keeps | with_reducible apply updBlock_keeps | with_reducible apply updDie_keeps | with_reducible apply updGroup_keeps | with_reducible apply foldl_keeps | (with_reducible intro) | split | dsimp only | dsimp only [Keeps])

theorem nameGauge_keeps (n : Nat) (d : Device) (h : Keeps A L d) :
    Keeps A L (nameGauge n d) := by
  unfold nameGauge
  repeat' (first | with_reducible assumption | with_reducible apply logRec_keeps | with_reducible apply moveRoot_keeps | with_reducible apply updDie_keeps | with_reducible apply foldl_keeps | (with_reducible intro) | split | dsimp only | dsimp only [Keeps])

theorem updPage_keeps (slot page : Nat) (f : MapPage → MapPage) (d : Device) (h : Keeps A L d) :
    Keeps A L (updPage slot page f d) := by
  unfold updPage
  repeat' (first | with_reducible assumption | (with_reducible intro) | split | dsimp only | dsimp only [Keeps])

theorem updMap_keeps (f : MapState → MapState) (d : Device) (h : Keeps A L d) :
    Keeps A L (updMap f d) := by
  unfold updMap
  repeat' (first | with_reducible assumption | (with_reducible intro) | split | dsimp only | dsimp only [Keeps])

theorem noteJournalFull_keeps (d : Device) (h : Keeps A L d) :
    Keeps A L (noteJournalFull d) := by
  unfold noteJournalFull
  repeat' (first | with_reducible assumption | with_reducible apply logRec_keeps | with_reducible apply updMap_keeps | (with_reducible intro) | split | dsimp only | dsimp only [Keeps])

theorem askPage_keeps (priority slot page : Nat) (d : Device) (h : Keeps A L d) :
    Keeps A L (askPage priority slot page d) := by
  unfold askPage
  repeat' (first | with_reducible assumption | with_reducible apply updMap_keeps | (with_reducible intro) | split | dsimp only | dsimp only [Keeps])

theorem holdUpdate_keeps (slot grain : Nat) (d : Device) (h : Keeps A L d) :
    Keeps A L (holdUpdate slot grain d) := by
  unfold holdUpdate
  repeat' (first | with_reducible assumption | with_reducible apply askPage_keeps | with_reducible apply noteJournalFull_keeps | (with_reducible intro) | split | dsimp only | dsimp only [Keeps])

theorem journalAppend_keeps (r : JRecord) (d : Device) (h : Keeps A L d) :
    Keeps A L (journalAppend r d) := by
  unfold journalAppend
  repeat' (first | with_reducible assumption | with_reducible apply incObj_keeps | with_reducible apply updMap_keeps | (with_reducible intro) | split | dsimp only | dsimp only [Keeps])

theorem sealFrame_keeps (copy1 copy2 : Bool) (d : Device) (h : Keeps A L d) :
    Keeps A L (sealFrame copy1 copy2 d) := by
  unfold sealFrame
  repeat' (first | with_reducible assumption | (with_reducible refine keeps_third_of (r := systemPair _) ‹_› ?_) | with_reducible apply logRec_keeps | with_reducible apply setObj_keeps | with_reducible apply systemPair_keeps | with_reducible apply updMap_keeps | (with_reducible intro) | split | dsimp only | dsimp only [Keeps])

theorem sealAll_keeps (d : Device) (h : Keeps A L d) :
    Keeps A L (sealAll d) := by
  unfold sealAll
  repeat' (first | with_reducible assumption | with_reducible apply sealFrame_keeps | with_reducible apply foldl_keeps | (with_reducible intro) | split | dsimp only | dsimp only [Keeps])

theorem touchLine_keeps (slot line : Nat) (dirty : Bool) (d : Device) (h : Keeps A L d) :
    Keeps A L (touchLine slot line dirty d) := by
  unfold touchLine
  repeat' (first | with_reducible assumption | with_reducible apply incObj_keeps | with_reducible apply updMap_keeps | (with_reducible intro) | split | dsimp only | dsimp only [Keeps])

theorem writeBack_keeps (pick : Nat → Bool) (d : Device) (h : Keeps A L d) :
    Keeps A L (writeBack pick d) := by
  unfold writeBack
  repeat' (first | with_reducible assumption | with_reducible apply updMap_keeps | (with_reducible intro) | split | dsimp only | dsimp only [Keeps])

theorem writeBackCache_keeps (d : Device) (h : Keeps A L d) :
    Keeps A L (writeBackCache d) := by
  unfold writeBackCache
  repeat' (first | with_reducible assumption | with_reducible apply writeBack_keeps | (with_reducible intro) | split | dsimp only | dsimp only [Keeps])

theorem drainBuffer_keeps (d : Device) (h : Keeps A L d) :
    Keeps A L (drainBuffer d) := by
  unfold drainBuffer
  repeat' (first | with_reducible assumption | with_reducible apply updMap_keeps | (with_reducible intro) | split | dsimp only | dsimp only [Keeps])

theorem cacheControl_keeps (value : Nat) (d : Device) (h : Keeps A L d) :
    KeepsOpt A L (cacheControl value d) := by
  unfold cacheControl
  repeat' (first | with_reducible assumption | with_reducible apply setObj_keeps | with_reducible apply updMap_keeps | with_reducible apply writeBackCache_keeps | with_reducible apply keepsOpt_some | exact keepsOpt_none | (with_reducible intro) | split | dsimp only | dsimp only [Keeps])

theorem prefetchLine_keeps (slot : Nat) (d : Device) (line : Int) (h : Keeps A L d) :
    Keeps A L (prefetchLine slot d line) := by
  unfold prefetchLine
  repeat' (first | with_reducible assumption | with_reducible apply askPage_keeps | with_reducible apply incObj_keeps | with_reducible apply updMap_keeps | (with_reducible intro) | split | dsimp only | dsimp only [Keeps])

theorem strideLookup_keeps (stream slot line : Nat) (d : Device) (h : Keeps A L d) :
    Keeps A L (strideLookup stream slot line d) := by
  unfold strideLookup
  repeat' (first | with_reducible assumption | with_reducible apply prefetchLine_keeps | with_reducible apply updMap_keeps | with_reducible apply foldl_keeps | (with_reducible intro) | split | dsimp only | dsimp only [Keeps])

theorem lookupEntry_keeps (stream slot grain : Nat) (d : Device) (h : Keeps A L d) :
    Keeps A L (lookupEntry stream slot grain d) := by
  unfold lookupEntry
  repeat' (first | with_reducible assumption | with_reducible apply askPage_keeps | with_reducible apply strideLookup_keeps | with_reducible apply touchLine_keeps | (with_reducible intro) | split | dsimp only | dsimp only [Keeps])

theorem reportOld_keeps (kind : UpdateKind) (seq : Nat) (d : Device) (old : Nat) (h : Keeps A L d) :
    Keeps A L (reportOld kind seq d old) := by
  unfold reportOld
  repeat' (first | with_reducible assumption | with_reducible apply updBlock_keeps | (with_reducible intro) | split | dsimp only | dsimp only [Keeps])

theorem setEntry_keeps (kind : UpdateKind) (slot grain value : Nat) (d : Device) (h : Keeps A L d) :
    Keeps A L (setEntry kind slot grain value d) := by
  unfold setEntry
  repeat' (first | with_reducible assumption | with_reducible apply journalAppend_keeps | with_reducible apply reportOld_keeps | with_reducible apply touchLine_keeps | with_reducible apply updMap_keeps | with_reducible apply updPage_keeps | (with_reducible intro) | split | dsimp only | dsimp only [Keeps])

theorem conditionalSet_keeps (kind : UpdateKind) (slot grain expected value : Nat) (d : Device) (h : Keeps A L d) :
    Keeps A L (conditionalSet kind slot grain expected value d) := by
  unfold conditionalSet
  repeat' (first | with_reducible assumption | with_reducible apply holdUpdate_keeps | with_reducible apply incObj_keeps | with_reducible apply setEntry_keeps | (with_reducible intro) | split | dsimp only | dsimp only [Keeps])

theorem holdRange_keeps (slot first count : Nat) (d : Device) (h : Keeps A L d) :
    Keeps A L (holdRange slot first count d) := by
  unfold holdRange
  repeat' (first | with_reducible assumption | with_reducible apply askPage_keeps | with_reducible apply noteJournalFull_keeps | with_reducible apply foldl_keeps | (with_reducible intro) | split | dsimp only | dsimp only [Keeps])

theorem unmapRange_keeps (slot first count : Nat) (d : Device) (h : Keeps A L d) :
    Keeps A L (unmapRange slot first count d) := by
  unfold unmapRange
  repeat' (first | with_reducible assumption | with_reducible apply holdRange_keeps | with_reducible apply journalAppend_keeps | with_reducible apply reportOld_keeps | with_reducible apply touchLine_keeps | with_reducible apply updMap_keeps | with_reducible apply foldl_keeps | with_reducible apply foldl_snd_keeps | with_reducible apply foldl_third_keeps | (with_reducible intro) | split | dsimp only | dsimp only [Keeps])

theorem resetRegion_keeps (slot pages : Nat) (d : Device) (h : Keeps A L d) :
    Keeps A L (resetRegion slot pages d) := by
  unfold resetRegion
  repeat' (first | with_reducible assumption | with_reducible apply journalAppend_keeps | with_reducible apply reportOld_keeps | with_reducible apply updMap_keeps | with_reducible apply foldl_keeps | with_reducible apply foldl_snd_keeps | with_reducible apply foldl_third_keeps | (with_reducible intro) | split | dsimp only | dsimp only [Keeps])

theorem waitUpdate_keeps (u : MapUpdate) (d : Device) (h : Keeps A L d) :
    Keeps A L (waitUpdate u d) := by
  unfold waitUpdate
  repeat' (first | with_reducible assumption | with_reducible apply updMap_keeps | (with_reducible intro) | split | dsimp only | dsimp only [Keeps])

theorem markLost_keeps (slot grain pointer : Nat) (d : Device) (h : Keeps A L d) :
    Keeps A L (markLost slot grain pointer d) := by
  unfold markLost
  repeat' (first | with_reducible assumption | with_reducible apply conditionalSet_keeps | with_reducible apply incObj_keeps | with_reducible apply setEntry_keeps | (with_reducible intro) | split | dsimp only | dsimp only [Keeps])

theorem mapUpdate_keeps (u : MapUpdate) (d : Device) (h : Keeps A L d) :
    Keeps A L (mapUpdate u d) := by
  unfold mapUpdate
  repeat' (first | with_reducible assumption | with_reducible apply holdRange_keeps | with_reducible apply holdUpdate_keeps | with_reducible apply markLost_keeps | with_reducible apply noteJournalFull_keeps | with_reducible apply resetRegion_keeps | with_reducible apply unmapRange_keeps | with_reducible apply waitUpdate_keeps | (with_reducible intro) | split | dsimp only | dsimp only [Keeps])

theorem serveUpdates_keeps (d : Device) (h : Keeps A L d) :
    Keeps A L (serveUpdates d) := by
  unfold serveUpdates
  repeat' (first | with_reducible assumption | with_reducible apply mapUpdate_keeps | with_reducible apply updMap_keeps | with_reducible apply foldl_keeps | (with_reducible intro) | split | dsimp only | dsimp only [Keeps])

theorem regionReset_keeps (slot pages : Nat) (d : Device) (h : Keeps A L d) :
    Keeps A L (regionReset slot pages d) := by
  unfold regionReset
  repeat' (first | with_reducible assumption | with_reducible apply mapUpdate_keeps | (with_reducible intro) | split | dsimp only | dsimp only [Keeps])

theorem loseGrain_keeps (slot cause : Nat) (d : Device) (g : Nat) (h : Keeps A L d) :
    Keeps A L (loseGrain slot cause d g) := by
  unfold loseGrain
  repeat' (first | with_reducible assumption | with_reducible apply updMap_keeps | (with_reducible intro) | split | dsimp only | dsimp only [Keeps])

theorem losePage_keeps (slot page cause : Nat) (d : Device) (h : Keeps A L d) :
    Keeps A L (losePage slot page cause d) := by
  unfold losePage
  repeat' (first | with_reducible assumption | with_reducible apply loseGrain_keeps | with_reducible apply foldl_keeps | (with_reducible intro) | split | dsimp only | dsimp only [Keeps])

theorem takePage_keeps (slot page : Nat) (readable : Bool) (bad : List Nat) (d : Device) (h : Keeps A L d) :
    Keeps A L (takePage slot page readable bad d) := by
  unfold takePage
  repeat' (first | with_reducible assumption | with_reducible apply incObj_keeps | with_reducible apply logRec_keeps | with_reducible apply losePage_keeps | with_reducible apply setObj_keeps | with_reducible apply updMap_keeps | with_reducible apply updPage_keeps | (with_reducible intro) | split | dsimp only | dsimp only [Keeps])

theorem loadPage_keeps (slot page : Nat) (readable : Bool) (bad : List Nat) (d : Device) (h : Keeps A L d) :
    Keeps A L (loadPage slot page readable bad d) := by
  unfold loadPage
  repeat' (first | with_reducible assumption | with_reducible apply poolEmptyResult_keeps | with_reducible apply sendOnLink_keeps | with_reducible apply serveUpdates_keeps | with_reducible apply takePage_keeps | (with_reducible intro) | split | dsimp only | dsimp only [Keeps])

theorem backgroundPage_keeps (slot page : Nat) (readable : Bool) (bad : List Nat) (d : Device) (h : Keeps A L d) :
    Keeps A L (backgroundPage slot page readable bad d) := by
  unfold backgroundPage
  repeat' (first | with_reducible assumption | with_reducible apply loadPage_keeps | with_reducible apply serveUpdates_keeps | with_reducible apply takePage_keeps | (with_reducible intro) | split | dsimp only | dsimp only [Keeps])

theorem lineReloaded_keeps (slot line : Nat) (good : Bool) (d : Device) (h : Keeps A L d) :
    Keeps A L (lineReloaded slot line good d) := by
  unfold lineReloaded
  repeat' (first | with_reducible assumption | with_reducible apply incObj_keeps | with_reducible apply logRec_keeps | with_reducible apply loseGrain_keeps | with_reducible apply serveUpdates_keeps | with_reducible apply updMap_keeps | with_reducible apply updPage_keeps | with_reducible apply foldl_keeps | (with_reducible intro) | split | dsimp only | dsimp only [Keeps])

theorem lineError_keeps (d : Device) (x : Nat × Nat × Bool) (h : Keeps A L d) :
    Keeps A L (lineError d x) := by
  unfold lineError
  repeat' (first | with_reducible assumption | with_reducible apply incObj_keeps | with_reducible apply updMap_keeps | (with_reducible intro) | split | dsimp only | dsimp only [Keeps])

theorem updAnchor_keeps (k : Nat) (f : Anchor → Anchor) (d : Device) (h : Keeps A L d) :
    Keeps A L (updAnchor k f d) := by
  unfold updAnchor
  repeat' (first | with_reducible assumption | (with_reducible intro) | split | dsimp only | dsimp only [Keeps])

theorem eraseAnchor_keeps (k : Nat) (d : Device) (h : Keeps A L d) :
    Keeps A L (eraseAnchor k d) := by
  unfold eraseAnchor
  repeat' (first | with_reducible assumption | with_reducible apply updAnchor_keeps | with_reducible apply updBlock_keeps | with_reducible apply foldl_keeps | (with_reducible intro) | split | dsimp only | dsimp only [Keeps])

theorem programAnchors_keeps (broken : List Nat) (d : Device) (h : Keeps A L d) :
    Keeps A L (programAnchors broken d) := by
  unfold programAnchors
  repeat' (first | with_reducible assumption | with_reducible apply eraseAnchor_keeps | with_reducible apply setObj_keeps | with_reducible apply updAnchor_keeps | with_reducible apply foldl_keeps | (with_reducible intro) | split | dsimp only | dsimp only [Keeps])

theorem loseSide_keeps (d : Device) (k : Nat) (h : Keeps A L d) :
    Keeps A L (loseSide d k) := by
  unfold loseSide
  repeat' (first | with_reducible assumption | with_reducible apply logRec_keeps | (with_reducible intro) | split | dsimp only | dsimp only [Keeps])

theorem writeSuperblock_keeps (failed : List Nat) (d : Device) (h : Keeps A L d) :
    Keeps A L (writeSuperblock failed d) := by
  unfold writeSuperblock
  repeat' (first | with_reducible assumption | with_reducible apply loseSide_keeps | with_reducible apply programAnchors_keeps | with_reducible apply foldl_keeps | (with_reducible intro) | split | dsimp only | dsimp only [Keeps])

theorem startCheckpoint_keeps (d : Device) (h : Keeps A L d) :
    Keeps A L (startCheckpoint d) := by
  unfold startCheckpoint
  repeat' (first | with_reducible assumption | with_reducible apply updMap_keeps | (with_reducible intro) | split | dsimp only | dsimp only [Keeps])

theorem saveTables_keeps (d : Device) (h : Keeps A L d) :
    Keeps A L (saveTables d) := by
  unfold saveTables
  repeat' (first | with_reducible assumption | with_reducible apply moveRoot_keeps | (with_reducible intro) | split | dsimp only | dsimp only [Keeps])

theorem writePage_keeps (d : Device) (key : Nat) (h : Keeps A L d) :
    Keeps A L (writePage d key) := by
  unfold writePage
  repeat' (first | with_reducible assumption | (with_reducible refine keeps_snd_of (r := systemPlace _ _) ‹_› ?_) | with_reducible apply journalAppend_keeps | with_reducible apply systemPlace_keeps | with_reducible apply updMap_keeps | with_reducible apply writeBack_keeps | (with_reducible intro) | split | dsimp only | dsimp only [Keeps])

theorem directoryMismatch_keeps (key : Nat) (both : Bool) (d : Device) (h : Keeps A L d) :
    Keeps A L (directoryMismatch key both d) := by
  unfold directoryMismatch
  repeat' (first | with_reducible assumption | with_reducible apply logRec_keeps | with_reducible apply updMap_keeps | with_reducible apply writePage_keeps | (with_reducible intro) | split | dsimp only | dsimp only [Keeps])

theorem readDirectory_keeps (key : Nat) (d : Device) (h : Keeps A L d) :
    Keeps A L (readDirectory key d) := by
  unfold readDirectory
  repeat' (first | with_reducible assumption | (with_reducible refine keeps_snd_of (r := takeDamage _ _ _) ‹_› ?_) | with_reducible apply directoryMismatch_keeps | with_reducible apply takeDamage_keeps | (with_reducible intro) | split | dsimp only | dsimp only [Keeps])

theorem writeSnapshot_keeps (d : Device) (h : Keeps A L d) :
    Keeps A L (writeSnapshot d).2 := by
  unfold writeSnapshot
  repeat' (first | with_reducible assumption | (with_reducible refine keeps_snd_of (r := systemRun _ _ _) ‹_› ?_) | with_reducible apply systemRun_keeps | with_reducible apply foldl_keeps | with_reducible apply foldl_snd_keeps | with_reducible apply foldl_third_keeps | (with_reducible intro) | split | dsimp only | dsimp only [Keeps])

theorem writeDirectory_keeps (s : Nat) (d : Device) (h : Keeps A L d) :
    Keeps A L (writeDirectory s d) := by
  unfold writeDirectory
  repeat' (first | with_reducible assumption | (with_reducible refine keeps_snd_of (r := writeSnapshot _) ‹_› ?_) | with_reducible apply moveRoot_keeps | with_reducible apply setRoot_keeps | with_reducible apply updMap_keeps | with_reducible apply writeSnapshot_keeps | (with_reducible intro) | split | dsimp only | dsimp only [Keeps])

theorem releaseJournal_keeps (s : Nat) (d : Device) (h : Keeps A L d) :
    Keeps A L (releaseJournal s d) := by
  unfold releaseJournal
  repeat' (first | with_reducible assumption | with_reducible apply incObj_keeps | with_reducible apply setObj_keeps | with_reducible apply updMap_keeps | (with_reducible intro) | split | dsimp only | dsimp only [Keeps])

theorem finishCheckpoint_keeps (failed : List Nat) (d : Device) (h : Keeps A L d) :
    Keeps A L (finishCheckpoint failed d) := by
  unfold finishCheckpoint
  repeat' (first | with_reducible assumption | with_reducible apply releaseJournal_keeps | with_reducible apply saveTables_keeps | with_reducible apply sealAll_keeps | with_reducible apply serveUpdates_keeps | with_reducible apply startCheckpoint_keeps | with_reducible apply writeDirectory_keeps | with_reducible apply writePage_keeps | with_reducible apply writeSuperblock_keeps | with_reducible apply foldl_keeps | (with_reducible intro) | split | dsimp only | dsimp only [Keeps])

theorem superblockWritten_keeps (failed : List Nat) (d : Device) (h : Keeps A L d) :
    Keeps A L (superblockWritten failed d) := by
  unfold superblockWritten
  repeat' (first | with_reducible assumption | with_reducible apply writeSuperblock_keeps | (with_reducible intro) | split | dsimp only | dsimp only [Keeps])

theorem limitOffsets_keeps (n : Nat) (raw : List Int) (d : Device) (h : Keeps A L d) :
    Keeps A L (limitOffsets n raw d).2 := by
  unfold limitOffsets
  repeat' (first | with_reducible assumption | with_reducible apply logRec_keeps | with_reducible apply updDie_keeps | (with_reducible intro) | split | dsimp only | dsimp only [Keeps])

theorem loadOffsets_keeps (b : Nat) (shift : Int) (d : Device) (h : Keeps A L d) :
    Keeps A L (loadOffsets b shift d) := by
  unfold loadOffsets
  repeat' (first | with_reducible assumption | with_reducible apply updDie_keeps | (with_reducible intro) | split | dsimp only | dsimp only [Keeps])

theorem trackingRun_keeps (b : Nat) (r : WordlineReads) (d : Device) (h : Keeps A L d) :
    Keeps A L (trackingRun b r d) := by
  unfold trackingRun
  repeat' (first | with_reducible assumption | (with_reducible refine keeps_snd_of (r := limitOffsets _ _ _) ‹_› ?_) | with_reducible apply incObj_keeps | with_reducible apply limitOffsets_keeps | with_reducible apply loadOffsets_keeps | with_reducible apply updBlock_keeps | with_reducible apply updDie_keeps | (with_reducible intro) | split | dsimp only | dsimp only [Keeps])

theorem countAttempt_keeps (soft : Bool) (o : Outcome) (d : Device) (h : Keeps A L d) :
    Keeps A L (countAttempt soft o d) := by
  unfold countAttempt
  repeat' (first | with_reducible assumption | with_reducible apply addObj_keeps | with_reducible apply incObj_keeps | (with_reducible intro) | split | dsimp only | dsimp only [Keeps])

theorem tryHard_keeps (b step read : Nat) (ran : List Nat) (d : Device) (h : Keeps A L d) :
    Keeps A L (tryHard b step read ran d).dev := by
  unfold tryHard
  repeat' (first | with_reducible assumption | with_reducible apply countAttempt_keeps | (with_reducible intro) | split | dsimp only | dsimp only [Keeps])

theorem trySoft_keeps (b level : Nat) (reads : List Nat) (ran : List Nat) (d : Device) (h : Keeps A L d) :
    Keeps A L (trySoft b level reads ran d).dev := by
  unfold trySoft
  repeat' (first | with_reducible assumption | with_reducible apply countAttempt_keeps | with_reducible apply loadOffsets_keeps | (with_reducible intro) | split | dsimp only | dsimp only [Keeps])

theorem Climb.orElse_keeps (c : Climb) (next : List Nat → Device → Climb) (hk : ∀ ran e, Keeps A L e → Keeps A L (next ran e).dev)
    (h : Keeps A L c.dev) : Keeps A L (c.orElse next).dev := by
  unfold Climb.orElse
  split
  · exact h
  · exact hk _ _ h

theorem trackOnce_keeps (b wordline : Nat) (r : WordlineReads) (ran : List Nat) (d : Device) (h : Keeps A L d) :
    Keeps A L (trackOnce b wordline r ran d).2 := by
  unfold trackOnce
  repeat' (first | with_reducible assumption | with_reducible apply trackingRun_keeps | (with_reducible intro) | split | dsimp only | dsimp only [Keeps])

theorem climbOwn_keeps (b cw : Nat) (r : CodewordReads) (limited : Bool) (ran : List Nat) (d : Device) (h : Keeps A L d) :
    Keeps A L (climbOwn b cw r limited ran d).dev := by
  unfold climbOwn
  repeat' (first | with_reducible assumption | (with_reducible refine keeps_snd_of (r := trackOnce _ _ _ _ _) ‹_› ?_) | with_reducible apply Climb.orElse_keeps | with_reducible apply loadOffsets_keeps | with_reducible apply trackOnce_keeps | with_reducible apply tryHard_keeps | with_reducible apply trySoft_keeps | (with_reducible intro) | split | dsimp only | dsimp only [Keeps])

theorem climbAll_keeps (b cw : Nat) (rs : List CodewordReads) (ran : List Nat) (d : Device) (h : Keeps A L d) :
    Keeps A L (climbAll b cw rs ran d).2 := by
  induction rs generalizing cw ran d with
  | nil => exact h
  | cons x xs ih =>
    unfold climbAll
    repeat' (first | with_reducible assumption | with_reducible apply climbOwn_keeps | (with_reducible refine keeps_snd_of (r := climbAll _ _ _ _ _) ‹_› ?_) | with_reducible apply ih | (with_reducible intro) | split | dsimp only | dsimp only [Keeps])

theorem takeHeader_keeps (b : Nat) (found : Option (Nat × List Byte)) (d : Device) (h : Keeps A L d) :
    Keeps A L (takeHeader b found d) := by
  unfold takeHeader
  repeat' (first | with_reducible assumption | with_reducible apply incObj_keeps | with_reducible apply logRec_keeps | with_reducible apply nameGauge_keeps | with_reducible apply queueStripe_keeps | with_reducible apply updBlock_keeps | (with_reducible intro) | split | dsimp only | dsimp only [Keeps])

theorem rebuildEntry_keeps (b read : Nat) (d : Device) (h : Keeps A L d) :
    Keeps A L (rebuildEntry b read d) := by
  unfold rebuildEntry
  repeat' (first | with_reducible assumption | with_reducible apply incObj_keeps | with_reducible apply logRec_keeps | with_reducible apply takeHeader_keeps | (with_reducible intro) | split | dsimp only | dsimp only [Keeps])

theorem entryMismatch_keeps (b : Nat) (both : Bool) (read : Nat) (d : Device) (h : Keeps A L d) :
    Keeps A L (entryMismatch b both read d) := by
  unfold entryMismatch
  repeat' (first | with_reducible assumption | with_reducible apply logRec_keeps | with_reducible apply rebuildEntry_keeps | with_reducible apply updBlock_keeps | (with_reducible intro) | split | dsimp only | dsimp only [Keeps])

theorem footerRead_keeps (d : Device) (x : Nat × List Byte) (h : Keeps A L d) :
    Keeps A L (footerRead d x) := by
  unfold footerRead
  repeat' (first | with_reducible assumption | with_reducible apply logRec_keeps | with_reducible apply updBlock_keeps | (with_reducible intro) | split | dsimp only | dsimp only [Keeps])

theorem rateCheck_keeps (b c : Nat) (d : Device) (h : Keeps A L d) :
    Keeps A L (rateCheck b c d) := by
  unfold rateCheck
  repeat' (first | with_reducible assumption | with_reducible apply incObj_keeps | with_reducible apply logRec_keeps | with_reducible apply queueStripe_keeps | with_reducible apply updBlock_keeps | (with_reducible intro) | split | dsimp only | dsimp only [Keeps])

theorem recordFreshC_keeps (b c : Nat) (d : Device) (h : Keeps A L d) :
    Keeps A L (recordFreshC b c d) := by
  unfold recordFreshC
  repeat' (first | with_reducible assumption | with_reducible apply updBlock_keeps | with_reducible apply updDie_keeps | (with_reducible intro) | split | dsimp only | dsimp only [Keeps])

theorem updateGaugeC_keeps (n : Nat) (d : Device) (h : Keeps A L d) :
    Keeps A L (updateGaugeC n d) := by
  unfold updateGaugeC
  repeat' (first | with_reducible assumption | with_reducible apply updDie_keeps | (with_reducible intro) | split | dsimp only | dsimp only [Keeps])

theorem freshFailure_keeps (b w : Nat) (d : Device) (h : Keeps A L d) :
    Keeps A L (freshFailure b w d) := by
  unfold freshFailure
  repeat' (first | with_reducible assumption | with_reducible apply failDie_keeps | with_reducible apply updDie_keeps | (with_reducible intro) | split | dsimp only | dsimp only [Keeps])

theorem addFresh_keeps (b : Nat) (m : SMap Nat) (d : Device) (h : Keeps A L d) :
    Keeps A L (addFresh b m d) := by
  unfold addFresh
  repeat' (first | with_reducible assumption | with_reducible apply foldl_keeps | with_reducible apply foldl_snd_keeps | with_reducible apply foldl_third_keeps | (with_reducible intro) | split | dsimp only | dsimp only [Keeps])

theorem setReference_keeps (b : Nat) (d : Device) (h : Keeps A L d) :
    Keeps A L (setReference b d) := by
  unfold setReference
  repeat' (first | with_reducible assumption | with_reducible apply updDie_keeps | (with_reducible intro) | split | dsimp only | dsimp only [Keeps])

theorem freshReadDone_keeps (b w : Nat) (r : SampleReads) (capacity : List (List Nat)) (d : Device) (h : Keeps A L d) :
    Keeps A L (freshReadDone b w r capacity d) := by
  unfold freshReadDone
  repeat' (first | with_reducible assumption | (with_reducible refine keeps_snd_of (r := climbAll _ _ _ _ _) ‹_› ?_) | with_reducible apply addFresh_keeps | with_reducible apply climbAll_keeps | with_reducible apply freshFailure_keeps | with_reducible apply rateCheck_keeps | with_reducible apply recordFreshC_keeps | with_reducible apply setReference_keeps | with_reducible apply trackingRun_keeps | with_reducible apply updBlock_keeps | with_reducible apply updDie_keeps | with_reducible apply updateGaugeC_keeps | with_reducible apply whileCharged_keeps | (with_reducible intro) | split | dsimp only | dsimp only [Keeps])

theorem recomputeSlope_keeps (d : Device) (e : Nat × DieState) (h : Keeps A L d) :
    Keeps A L (recomputeSlope d e) := by
  unfold recomputeSlope
  repeat' (first | with_reducible assumption | with_reducible apply setObj_keeps | with_reducible apply updDie_keeps | (with_reducible intro) | split | dsimp only | dsimp only [Keeps])

theorem updateEta_keeps (d : Device) (h : Keeps A L d) :
    Keeps A L (updateEta d) := by
  unfold updateEta
  repeat' (first | with_reducible assumption | with_reducible apply setObj_keeps | with_reducible apply foldl_keeps | with_reducible apply foldl_snd_keeps | with_reducible apply foldl_third_keeps | (with_reducible intro) | split | dsimp only | dsimp only [Keeps])

theorem takeEntry_keeps (p sq : Nat) (d : Device) (h : Keeps A L d) :
    Keeps A L (takeEntry p sq d) := by
  unfold takeEntry
  repeat' (first | with_reducible assumption | with_reducible apply incObj_keeps | with_reducible apply updPort_keeps | (with_reducible intro) | split | dsimp only | dsimp only [Keeps])

theorem logError_keeps (p : Nat) (e : ErrEntry) (d : Device) (h : Keeps A L d) :
    Keeps A L (logError p e d) := by
  unfold logError
  repeat' (first | with_reducible assumption | with_reducible apply updPort_keeps | (with_reducible intro) | split | dsimp only | dsimp only [Keeps])

theorem failWith_keeps (c : HostCmd) (sct sc : Nat) (dnr : Bool) (crd lba pel dw0 : Nat) (d : Device) (h : Keeps A L d) :
    Keeps A L (failWith c sct sc dnr crd lba pel dw0 d) := by
  unfold failWith
  repeat' (first | with_reducible assumption | with_reducible apply incObj_keeps | with_reducible apply logError_keeps | with_reducible apply postCompletion_keeps | (with_reducible intro) | split | dsimp only | dsimp only [Keeps])

theorem failCmd_keeps (c : HostCmd) (sct sc : Nat) (d : Device) (h : Keeps A L d) :
    Keeps A L (failCmd c sct sc d) := by
  unfold failCmd
  repeat' (first | with_reducible assumption | with_reducible apply failWith_keeps | (with_reducible intro) | split | dsimp only | dsimp only [Keeps])

theorem failField_keeps (c : HostCmd) (sct sc byte : Nat) (d : Device) (h : Keeps A L d) :
    Keeps A L (failField c sct sc byte d) := by
  unfold failField
  repeat' (first | with_reducible assumption | with_reducible apply failWith_keeps | (with_reducible intro) | split | dsimp only | dsimp only [Keeps])

theorem succeed_keeps (c : HostCmd) (dw0 dw1 : Nat) (data : List Byte) (d : Device) (h : Keeps A L d) :
    Keeps A L (succeed c dw0 dw1 data d) := by
  unfold succeed
  repeat' (first | with_reducible assumption | with_reducible apply postCompletion_keeps | (with_reducible intro) | split | dsimp only | dsimp only [Keeps])

theorem invalidField_keeps (c : HostCmd) (d : Device) (h : Keeps A L d) :
    Keeps A L (invalidField c d) := by
  unfold invalidField
  repeat' (first | with_reducible assumption | with_reducible apply failCmd_keeps | (with_reducible intro) | split | dsimp only | dsimp only [Keeps])

theorem countMemoryFault_keeps (p sct sc : Nat) (d : Device) (h : Keeps A L d) :
    Keeps A L (countMemoryFault p sct sc d) := by
  unfold countMemoryFault
  repeat' (first | with_reducible assumption | with_reducible apply incObj_keeps | (with_reducible intro) | split | dsimp only | dsimp only [Keeps])

theorem modeRows_keeps (i : Instr) (c : HostCmd) (k : Device → Device) (d : Device) (hk : ∀ e, Keeps A L e → Keeps A L (k e)) (h : Keeps A L d) :
    Keeps A L (modeRows i c k d) := by
  unfold modeRows
  repeat' (first | with_reducible assumption | with_reducible apply failCmd_keeps | with_reducible apply hk | (with_reducible intro) | split | dsimp only | dsimp only [Keeps])

theorem fetched_keeps (c : HostCmd) (k : Device → Device) (d : Device) (hk : ∀ e, Keeps A L e → Keeps A L (k e)) (h : Keeps A L d) :
    Keeps A L (fetched c k d) := by
  unfold fetched
  repeat' (first | with_reducible assumption | with_reducible apply failCmd_keeps | with_reducible apply takeEntry_keeps | with_reducible apply hk | (with_reducible intro) | split | dsimp only | dsimp only [Keeps])

theorem withContext_keeps (c : HostCmd) (k : Device → Device) (d : Device) (hk : ∀ e, Keeps A L e → Keeps A L (k e)) (h : Keeps A L d) :
    Keeps A L (withContext c k d) := by
  unfold withContext
  repeat' (first | with_reducible assumption | with_reducible apply poolEmptyResult_keeps | with_reducible apply hk | (with_reducible intro) | split | dsimp only | dsimp only [Keeps])

theorem ioCommand_keeps (i : Instr) (c : HostCmd) (k : Device → Device) (d : Device) (hk : ∀ e, Keeps A L e → Keeps A L (k e)) (h : Keeps A L d) :
    Keeps A L (ioCommand i c k d) := by
  unfold ioCommand
  repeat' (first | with_reducible assumption | with_reducible apply fetched_keeps | with_reducible apply modeRows_keeps | with_reducible apply withContext_keeps | with_reducible apply hk | (with_reducible intro) | split | dsimp only | dsimp only [Keeps])

theorem adminCommand_keeps (i : Instr) (c : HostCmd) (a : AdminClass) (k : Device → Device) (d : Device) (hk : ∀ e, Keeps A L e → Keeps A L (k e)) (h : Keeps A L d) :
    Keeps A L (adminCommand i c a k d) := by
  unfold adminCommand
  repeat' (first | with_reducible assumption | with_reducible apply failCmd_keeps | with_reducible apply fetched_keeps | with_reducible apply withContext_keeps | with_reducible apply hk | (with_reducible intro) | split | dsimp only | dsimp only [Keeps])

theorem blockChecks_keeps (c : HostCmd) (slba nlb : Nat) (limit mdts : Bool) (k : IoClass) (ok : Device → Device) (d : Device) (hk : ∀ e, Keeps A L e → Keeps A L (ok e)) (h : Keeps A L d) :
    Keeps A L (blockChecks c slba nlb limit mdts k ok d) := by
  unfold blockChecks
  repeat' (first | with_reducible assumption | with_reducible apply failCmd_keeps | with_reducible apply failField_keeps | with_reducible apply invalidField_keeps | with_reducible apply hk | (with_reducible intro) | split | dsimp only | dsimp only [Keeps])

theorem holdContext_keeps (i : Instr) (c : HostCmd) (k : Nat → Device → Device) (d : Device) (hk : ∀ a e, Keeps A L e → Keeps A L (k a e)) (h : Keeps A L d) :
    Keeps A L (holdContext i c k d) := by
  unfold holdContext
  repeat' (first | with_reducible assumption | (with_reducible refine keeps_snd_of (r := takeBuffer _ _ _ _) ‹_› ?_) | with_reducible apply takeBuffer_keeps | with_reducible apply hk | (with_reducible intro) | split | dsimp only | dsimp only [Keeps])

theorem writeRows_keeps (i : Instr) (c : HostCmd) (deallocate : Bool) (ok : Nat → Device → Device) (d : Device) (hk : ∀ a e, Keeps A L e → Keeps A L (ok a e)) (h : Keeps A L d) :
    Keeps A L (writeRows i c deallocate ok d) := by
  unfold writeRows
  repeat' (first | with_reducible assumption | with_reducible apply failCmd_keeps | with_reducible apply failWith_keeps | with_reducible apply holdContext_keeps | with_reducible apply incObj_keeps | with_reducible apply hk | (with_reducible intro) | split | dsimp only | dsimp only [Keeps])

theorem updWp_keeps (f : WritePath → WritePath) (d : Device) (h : Keeps A L d) :
    Keeps A L (updWp f d) := by
  unfold updWp
  repeat' (first | with_reducible assumption | (with_reducible intro) | split | dsimp only | dsimp only [Keeps])

theorem updWrite_keeps (id : Nat) (f : WriteCmd → WriteCmd) (d : Device) (h : Keeps A L d) :
    Keeps A L (updWrite id f d) := by
  unfold updWrite
  repeat' (first | with_reducible assumption | with_reducible apply updWp_keeps | (with_reducible intro) | split | dsimp only | dsimp only [Keeps])

theorem freeContext_keeps (port : Nat) (i : Option Nat) (d : Device) (h : Keeps A L d) :
    Keeps A L (freeContext port i d) := by
  unfold freeContext
  repeat' (first | with_reducible assumption | with_reducible apply giveBuffers_keeps | (with_reducible intro) | split | dsimp only | dsimp only [Keeps])

theorem freeWrite_keeps (w : WriteCmd) (d : Device) (h : Keeps A L d) :
    Keeps A L (freeWrite w d) := by
  unfold freeWrite
  repeat' (first | with_reducible assumption | with_reducible apply freeContext_keeps | with_reducible apply giveBuffers_keeps | (with_reducible intro) | split | dsimp only | dsimp only [Keeps])

theorem freeFlight_keeps (g : FlightGrain) (d : Device) (h : Keeps A L d) :
    Keeps A L (freeFlight g d) := by
  unfold freeFlight
  repeat' (first | with_reducible assumption | with_reducible apply giveBuffers_keeps | with_reducible apply foldl_keeps | with_reducible apply foldl_snd_keeps | with_reducible apply foldl_third_keeps | (with_reducible intro) | split | dsimp only | dsimp only [Keeps])

theorem freeFlights_keeps (gs : List FlightGrain) (d : Device) (h : Keeps A L d) :
    Keeps A L (freeFlights gs d) := by
  unfold freeFlights
  repeat' (first | with_reducible assumption | with_reducible apply freeFlight_keeps | with_reducible apply foldl_keeps | (with_reducible intro) | split | dsimp only | dsimp only [Keeps])

theorem freeFlush_keeps (f : FlushCmd) (d : Device) (h : Keeps A L d) :
    Keeps A L (freeFlush f d) := by
  unfold freeFlush
  repeat' (first | with_reducible assumption | with_reducible apply freeContext_keeps | (with_reducible intro) | split | dsimp only | dsimp only [Keeps])

theorem dropWrite_keeps (id : Nat) (d : Device) (h : Keeps A L d) :
    Keeps A L (dropWrite id d) := by
  unfold dropWrite
  repeat' (first | with_reducible assumption | with_reducible apply freeWrite_keeps | with_reducible apply updWp_keeps | with_reducible apply foldl_keeps | (with_reducible intro) | split | dsimp only | dsimp only [Keeps])

theorem updFlight_keeps (id : Nat) (f : FlightGrain → FlightGrain) (d : Device) (h : Keeps A L d) :
    Keeps A L (updFlight id f d) := by
  unfold updFlight
  repeat' (first | with_reducible assumption | (with_reducible intro) | split | dsimp only | dsimp only [Keeps])

theorem newId_keeps (d : Device) (h : Keeps A L d) :
    Keeps A L (newId d).2 := by
  unfold newId
  repeat' (first | with_reducible assumption | with_reducible apply updWp_keeps | (with_reducible intro) | split | dsimp only | dsimp only [Keeps])

theorem admitWrite_keeps (c : HostCmd) (kind slba nlb : Nat) (fua : Bool) (unmaps : List (Nat × Nat)) (context : Nat) (d : Device) (h : Keeps A L d) :
    Keeps A L (admitWrite c kind slba nlb fua unmaps context d).2 := by
  unfold admitWrite
  repeat' (first | with_reducible assumption | (with_reducible refine keeps_snd_of (r := newId _) ‹_› ?_) | with_reducible apply newId_keeps | with_reducible apply updWp_keeps | (with_reducible intro) | split | dsimp only | dsimp only [Keeps])

theorem overtake_keeps (slot g id seq : Nat) (d : Device) (h : Keeps A L d) :
    Keeps A L (overtake slot g id seq d) := by
  unfold overtake
  repeat' (first | with_reducible assumption | (with_reducible intro) | split | dsimp only | dsimp only [Keeps])

theorem applyGrain_keeps (g : FlightGrain) (d : Device) (h : Keeps A L d) :
    Keeps A L (applyGrain g d) := by
  unfold applyGrain
  repeat' (first | with_reducible assumption | with_reducible apply holdUpdate_keeps | with_reducible apply overtake_keeps | with_reducible apply setEntry_keeps | with_reducible apply unmapRange_keeps | with_reducible apply updBlock_keeps | with_reducible apply updFlight_keeps | (with_reducible intro) | split | dsimp only | dsimp only [Keeps])

theorem applyUnmaps_keeps (id : Nat) (d : Device) (h : Keeps A L d) :
    Keeps A L (applyUnmaps id d) := by
  unfold applyUnmaps
  repeat' (first | with_reducible assumption | with_reducible apply unmapRange_keeps | with_reducible apply updWrite_keeps | with_reducible apply foldl_keeps | (with_reducible intro) | split | dsimp only | dsimp only [Keeps])

theorem updEngine_keeps (k : Nat) (f : List EngineJob → List EngineJob) (d : Device) (h : Keeps A L d) :
    Keeps A L (updEngine k f d) := by
  unfold updEngine
  repeat' (first | with_reducible assumption | with_reducible apply updWp_keeps | (with_reducible intro) | split | dsimp only | dsimp only [Keeps])

theorem dispatchJob_keeps (ks : List Nat) (d : Device) (j : EngineJob) (h : Keeps A L d) :
    Keeps A L (dispatchJob ks d j) := by
  unfold dispatchJob
  repeat' (first | with_reducible assumption | with_reducible apply updEngine_keeps | (with_reducible intro) | split | dsimp only | dsimp only [Keeps])

theorem dispatch_keeps (d : Device) (h : Keeps A L d) :
    Keeps A L (dispatch d) := by
  unfold dispatch
  repeat' (first | with_reducible assumption | with_reducible apply dispatchJob_keeps | with_reducible apply updWp_keeps | with_reducible apply foldl_keeps | with_reducible apply foldl_snd_keeps | with_reducible apply foldl_third_keeps | (with_reducible intro) | split | dsimp only | dsimp only [Keeps])

theorem retireEngine_keeps (k : Nat) (d : Device) (h : Keeps A L d) :
    Keeps A L (retireEngine k d) := by
  unfold retireEngine
  repeat' (first | with_reducible assumption | with_reducible apply dispatch_keeps | with_reducible apply updEngine_keeps | with_reducible apply updWp_keeps | (with_reducible intro) | split | dsimp only | dsimp only [Keeps])

theorem endJobAt_keeps {k id grain : Nat} {d e : Device} {j : EngineJob} (he : endJobAt k id grain d = some (j, e)) (h : Keeps A L d) :
    Keeps A L e := by
  unfold endJobAt at he
  split at he
  · cases he; exact h
  · split at he
    · split at he
      · cases he; exact updEngine_keeps _ _ _ h
      · cases he
    · cases he

theorem frameRangeFault_keeps (slot g e : Nat) (d : Device) (h : Keeps A L d) :
    Keeps A L (frameRangeFault slot g e d) := by
  unfold frameRangeFault
  repeat' (first | with_reducible assumption | with_reducible apply incObj_keeps | with_reducible apply logRec_keeps | (with_reducible intro) | split | dsimp only | dsimp only [Keeps])

theorem noteFrameRange_keeps (slot g : Nat) (d : Device) (h : Keeps A L d) :
    Keeps A L (noteFrameRange slot g d) := by
  unfold noteFrameRange
  repeat' (first | with_reducible assumption | with_reducible apply frameRangeFault_keeps | (with_reducible intro) | split | dsimp only | dsimp only [Keeps])

theorem failWrite_keeps (w : WriteCmd) (sct sc : Nat) (dnr : Bool) (lba : Nat) (d : Device) (h : Keeps A L d) :
    Keeps A L (failWrite w sct sc dnr lba d) := by
  unfold failWrite
  repeat' (first | with_reducible assumption | with_reducible apply dropWrite_keeps | with_reducible apply failWith_keeps | (with_reducible intro) | split | dsimp only | dsimp only [Keeps])

theorem holdGrain_keeps (w : WriteCmd) (g i : Nat) (content : List LBlock × List Nat) (d : Device) (h : Keeps A L d) :
    Keeps A L (holdGrain w g i content d) := by
  unfold holdGrain
  repeat' (first | with_reducible assumption | (with_reducible refine keeps_snd_of (r := newId _) ‹_› ?_) | with_reducible apply applyGrain_keeps | with_reducible apply freeFlight_keeps | with_reducible apply incObj_keeps | with_reducible apply newId_keeps | (with_reducible intro) | split | dsimp only | dsimp only [Keeps])

theorem takeLanding_keeps (id : Nat) (d : Device) (h : Keeps A L d) :
    Keeps A L (takeLanding id d) := by
  unfold takeLanding
  repeat' (first | with_reducible assumption | (with_reducible refine keeps_snd_of (r := takeBuffer _ _ _ _) ‹_› ?_) | with_reducible apply takeBuffer_keeps | with_reducible apply updWrite_keeps | with_reducible apply foldl_keeps | (with_reducible intro) | split | dsimp only | dsimp only [Keeps])

theorem landWrite_keeps (id : Nat) (r : Landing) (d : Device) (h : Keeps A L d) :
    Keeps A L (landWrite id r d) := by
  unfold landWrite
  repeat' (first | with_reducible assumption | with_reducible apply addObj_keeps | with_reducible apply applyUnmaps_keeps | with_reducible apply askPage_keeps | with_reducible apply countMemoryFault_keeps | with_reducible apply dispatch_keeps | with_reducible apply failWrite_keeps | with_reducible apply holdGrain_keeps | with_reducible apply incObj_keeps | with_reducible apply noteFrameRange_keeps | with_reducible apply updWrite_keeps | with_reducible apply foldl_keeps | with_reducible apply foldl_snd_keeps | with_reducible apply foldl_third_keeps | (with_reducible intro) | split | dsimp only | dsimp only [Keeps])

theorem engineFault_keeps (engine : Nat) (d : Device) (h : Keeps A L d) :
    Keeps A L (engineFault engine d).2 := by
  unfold engineFault
  repeat' (first | with_reducible assumption | with_reducible apply updWp_keeps | (with_reducible intro) | split | dsimp only | dsimp only [Keeps])

theorem compressMismatch_keeps (engine slot g : Nat) (d : Device) (h : Keeps A L d) :
    Keeps A L (compressMismatch engine slot g d) := by
  unfold compressMismatch
  repeat' (first | with_reducible assumption | (with_reducible refine keeps_snd_of (r := engineFault _ _) ‹_› ?_) | with_reducible apply engineFault_keeps | with_reducible apply logRec_keeps | with_reducible apply retireEngine_keeps | with_reducible apply setObj_keeps | (with_reducible intro) | split | dsimp only | dsimp only [Keeps])

theorem countStored_keeps (f : Form) (x : Deflated) (input parity : Nat) (d : Device) (h : Keeps A L d) :
    Keeps A L (countStored f x input parity d) := by
  unfold countStored
  repeat' (first | with_reducible assumption | with_reducible apply addObj_keeps | with_reducible apply incObj_keeps | with_reducible apply updWp_keeps | (with_reducible intro) | split | dsimp only | dsimp only [Keeps])

theorem encodeMembers_keeps (n : Nat) (d : Device) (h : Keeps A L d) :
    Keeps A L (encodeMembers n d) := by
  unfold encodeMembers
  repeat' (first | with_reducible assumption | with_reducible apply encodeGroup_keeps | with_reducible apply foldl_keeps | (with_reducible intro) | split | dsimp only | dsimp only [Keeps])

theorem setGathered_keeps (n r : Nat) (d : Device) (h : Keeps A L d) :
    Keeps A L (setGathered n r d) := by
  unfold setGathered
  repeat' (first | with_reducible assumption | with_reducible apply updStripe_keeps | (with_reducible intro) | split | dsimp only | dsimp only [Keeps])

theorem closeRow_keeps (n r : Nat) (d : Device) (h : Keeps A L d) :
    Keeps A L (closeRow n r d) := by
  unfold closeRow
  repeat' (first | with_reducible assumption | with_reducible apply fillRow_keeps | with_reducible apply incObj_keeps | with_reducible apply setGathered_keeps | with_reducible apply foldl_keeps | (with_reducible intro) | split | dsimp only | dsimp only [Keeps])

theorem padRow_keeps (n r : Nat) (d : Device) (h : Keeps A L d) :
    Keeps A L (padRow n r d) := by
  unfold padRow
  repeat' (first | with_reducible assumption | with_reducible apply incObj_keeps | with_reducible apply padWordline_keeps | with_reducible apply setGathered_keeps | with_reducible apply foldl_keeps | (with_reducible intro) | split | dsimp only | dsimp only [Keeps])

theorem closeRows_keeps (fuel n r : Nat) (d : Device) (h : Keeps A L d) :
    Keeps A L (closeRows fuel n r d) := by
  induction fuel generalizing d with
  | zero => exact h
  | succ k ih =>
    unfold closeRows
    repeat' (first | with_reducible assumption | with_reducible apply closeRow_keeps | with_reducible apply padRow_keeps | with_reducible apply ih | (with_reducible intro) | split | dsimp only | dsimp only [Keeps])

theorem forceClose_keeps (n r : Nat) (d : Device) (h : Keeps A L d) :
    Keeps A L (forceClose n r d) := by
  unfold forceClose
  repeat' (first | with_reducible assumption | with_reducible apply closeRows_keeps | with_reducible apply encodeMembers_keeps | (with_reducible intro) | split | dsimp only | dsimp only [Keeps])

theorem closeFor_keeps (pick : FlightGrain → Bool) (d : Device) (h : Keeps A L d) :
    Keeps A L (closeFor pick d) := by
  unfold closeFor
  repeat' (first | with_reducible assumption | with_reducible apply forceClose_keeps | with_reducible apply foldl_keeps | (with_reducible intro) | split | dsimp only | dsimp only [Keeps])

theorem closeAllRows_keeps (d : Device) (h : Keeps A L d) :
    Keeps A L (closeAllRows d) := by
  unfold closeAllRows
  repeat' (first | with_reducible assumption | with_reducible apply forceClose_keeps | with_reducible apply foldl_keeps | with_reducible apply foldl_snd_keeps | with_reducible apply foldl_third_keeps | (with_reducible intro) | split | dsimp only | dsimp only [Keeps])

theorem gatherRow_keeps (n : Nat) (d : Device) (h : Keeps A L d) :
    Keeps A L (gatherRow n d) := by
  unfold gatherRow
  repeat' (first | with_reducible assumption | with_reducible apply encodeMembers_keeps | with_reducible apply setGathered_keeps | (with_reducible intro) | split | dsimp only | dsimp only [Keeps])

theorem fuaClose_keeps (cmd : Nat) (d : Device) (h : Keeps A L d) :
    Keeps A L (fuaClose cmd d) := by
  unfold fuaClose
  repeat' (first | with_reducible assumption | with_reducible apply addObj_keeps | with_reducible apply closeFor_keeps | (with_reducible intro) | split | dsimp only | dsimp only [Keeps])

theorem pickPlace_keeps (g : FlightGrain) (kind parity fuel : Nat) (d : Device) (h : Keeps A L d) :
    Keeps A L (pickPlace g kind parity fuel d).2 := by
  induction fuel generalizing d with
  | zero => exact h
  | succ k ih =>
    unfold pickPlace
    repeat' (first | with_reducible assumption | (with_reducible refine keeps_snd_of (r := pickBlock _ _ _ _) ‹_› ?_) | with_reducible apply pickBlock_keeps | (with_reducible refine keeps_snd_of (r := pickPlace _ _ _ _ _) ‹_› ?_) | with_reducible apply ih | (with_reducible intro) | split | dsimp only | dsimp only [Keeps])

theorem placeGrain_keeps (g : FlightGrain) (d : Device) (h : Keeps A L d) :
    Keeps A L (placeGrain g d) := by
  unfold placeGrain
  repeat' (first | with_reducible assumption | (with_reducible refine keeps_snd_of (r := pickPlace _ _ _ _ _) ‹_› ?_) | with_reducible apply forceClose_keeps | with_reducible apply freeFlight_keeps | with_reducible apply fuaClose_keeps | with_reducible apply holdRows_keeps | with_reducible apply pickPlace_keeps | with_reducible apply updBlock_keeps | with_reducible apply updFlight_keeps | with_reducible apply updWp_keeps | (with_reducible intro) | split | dsimp only | dsimp only [Keeps])

theorem placeWaiting_keeps (d : Device) (h : Keeps A L d) :
    Keeps A L (placeWaiting d) := by
  unfold placeWaiting
  repeat' (first | with_reducible assumption | with_reducible apply placeGrain_keeps | with_reducible apply foldl_keeps | (with_reducible intro) | split | dsimp only | dsimp only [Keeps])

theorem secondBuffer_keeps (engine : Nat) (raw : Bool) (d e : Device) (hd : Keeps A L d) (he : Keeps A L e) :
    Keeps A L (secondBuffer engine raw d e).2 := by
  unfold secondBuffer
  split
  · exact he
  · split
    · next h => exact keeps_snd_of h (takeBuffer_keeps _ _ _ _ he)
    · exact takeBuffer_keeps _ _ _ _ hd

theorem compressed_keeps (id engine : Nat) (disagrees : Bool) (d : Device) (h : Keeps A L d) :
    Keeps A L (compressed id engine disagrees d) := by
  unfold compressed
  repeat' (first | with_reducible assumption | (with_reducible refine endJobAt_keeps ‹_› ?_) | (with_reducible refine keeps_snd_of (r := secondBuffer _ _ _ _) ‹_› ?_) | with_reducible apply compressMismatch_keeps | with_reducible apply countStored_keeps | with_reducible apply dispatch_keeps | with_reducible apply placeWaiting_keeps | with_reducible apply secondBuffer_keeps | with_reducible apply updFlight_keeps | (with_reducible intro) | split | dsimp only | dsimp only [Keeps])

theorem updateDivision_keeps (d : Device) (h : Keeps A L d) :
    Keeps A L (updateDivision d) := by
  unfold updateDivision
  repeat' (first | with_reducible assumption | with_reducible apply updWp_keeps | (with_reducible intro) | split | dsimp only | dsimp only [Keeps])

theorem holdStanding_keeps (n data : Nat) (d : Device) (h : Keeps A L d) :
    Keeps A L (holdStanding n data d) := by
  unfold holdStanding
  repeat' (first | with_reducible assumption | (with_reducible refine keeps_snd_of (r := takeBuffer _ _ _ _) ‹_› ?_) | with_reducible apply takeBuffer_keeps | with_reducible apply updStripe_keeps | with_reducible apply foldl_keeps | (with_reducible intro) | split | dsimp only | dsimp only [Keeps])

theorem openStripe_keeps (kind : Nat) (d : Device) (h : Keeps A L d) :
    Keeps A L (openStripe kind d) := by
  unfold openStripe
  repeat' (first | with_reducible assumption | with_reducible apply holdStanding_keeps | with_reducible apply incObj_keeps | with_reducible apply logRec_keeps | with_reducible apply poolEmptyResult_keeps | with_reducible apply updGroup_keeps | with_reducible apply updStripe_keeps | with_reducible apply updWp_keeps | with_reducible apply updateDivision_keeps | with_reducible apply foldl_keeps | with_reducible apply foldl_snd_keeps | with_reducible apply foldl_third_keeps | (with_reducible intro) | split | dsimp only | dsimp only [Keeps])

theorem serveFlushes_keeps (d : Device) (h : Keeps A L d) :
    Keeps A L (serveFlushes d) := by
  unfold serveFlushes
  repeat' (first | with_reducible assumption | with_reducible apply freeFlush_keeps | with_reducible apply postCompletion_keeps | with_reducible apply updWp_keeps | with_reducible apply foldl_keeps | (with_reducible intro) | split | dsimp only | dsimp only [Keeps])

theorem settle_keeps (d : Device) (h : Keeps A L d) :
    Keeps A L (settle d) := by
  unfold settle
  repeat' (first | with_reducible assumption | with_reducible apply dropWrite_keeps | with_reducible apply freeFlights_keeps | with_reducible apply serveFlushes_keeps | with_reducible apply foldl_keeps | (with_reducible intro) | split | dsimp only | dsimp only [Keeps])

theorem pushUpdates_keeps (id : Nat) (d : Device) (h : Keeps A L d) :
    Keeps A L (pushUpdates id d) := by
  unfold pushUpdates
  repeat' (first | with_reducible assumption | with_reducible apply applyGrain_keeps | with_reducible apply applyUnmaps_keeps | with_reducible apply foldl_keeps | (with_reducible intro) | split | dsimp only | dsimp only [Keeps])

theorem completeWrite_keeps (id : Nat) (d : Device) (h : Keeps A L d) :
    Keeps A L (completeWrite id d) := by
  unfold completeWrite
  repeat' (first | with_reducible assumption | with_reducible apply freeContext_keeps | with_reducible apply incObj_keeps | with_reducible apply pushUpdates_keeps | with_reducible apply settle_keeps | with_reducible apply succeed_keeps | with_reducible apply updWrite_keeps | (with_reducible intro) | split | dsimp only | dsimp only [Keeps])

theorem placeUpdate_keeps (id : Nat) (d : Device) (h : Keeps A L d) :
    Keeps A L (placeUpdate id d) := by
  unfold placeUpdate
  repeat' (first | with_reducible assumption | with_reducible apply applyGrain_keeps | (with_reducible intro) | split | dsimp only | dsimp only [Keeps])

theorem relocateUpdate_keeps (id : Nat) (d : Device) (h : Keeps A L d) :
    Keeps A L (relocateUpdate id d) := by
  unfold relocateUpdate
  repeat' (first | with_reducible assumption | with_reducible apply conditionalSet_keeps | with_reducible apply holdUpdate_keeps | with_reducible apply updBlock_keeps | with_reducible apply updFlight_keeps | (with_reducible intro) | split | dsimp only | dsimp only [Keeps])

theorem writeBody_keeps (i : Instr) (c : HostCmd) (slba nlb : Nat) (fua : Bool) (d : Device) (h : Keeps A L d) :
    Keeps A L (writeBody i c slba nlb fua d) := by
  unfold writeBody
  repeat' (first | with_reducible assumption | (with_reducible refine keeps_snd_of (r := admitWrite _ _ _ _ _ _ _ _) ‹_› ?_) | with_reducible apply admitWrite_keeps | with_reducible apply blockChecks_keeps | with_reducible apply writeRows_keeps | (with_reducible intro) | split | dsimp only | dsimp only [Keeps])

theorem writeZeroesBody_keeps (i : Instr) (c : HostCmd) (slba nlb : Nat) (fua : Bool) (unreadable : List Nat) (d : Device) (h : Keeps A L d) :
    Keeps A L (writeZeroesBody i c slba nlb fua unreadable d) := by
  unfold writeZeroesBody
  repeat' (first | with_reducible assumption | (with_reducible refine keeps_snd_of (r := admitWrite _ _ _ _ _ _ _ _) ‹_› ?_) | with_reducible apply admitWrite_keeps | with_reducible apply blockChecks_keeps | with_reducible apply landWrite_keeps | with_reducible apply writeRows_keeps | (with_reducible intro) | split | dsimp only | dsimp only [Keeps])

theorem datasetBody_keeps (i : Instr) (c : HostCmd) (ranges : List (Nat × Nat)) (deallocate : Bool) (d : Device) (h : Keeps A L d) :
    Keeps A L (datasetBody i c ranges deallocate d) := by
  unfold datasetBody
  repeat' (first | with_reducible assumption | (with_reducible refine keeps_snd_of (r := admitWrite _ _ _ _ _ _ _ _) ‹_› ?_) | with_reducible apply admitWrite_keeps | with_reducible apply blockChecks_keeps | with_reducible apply landWrite_keeps | with_reducible apply succeed_keeps | with_reducible apply writeRows_keeps | with_reducible apply foldl_keeps | with_reducible apply foldl_snd_keeps | with_reducible apply foldl_third_keeps | (with_reducible intro) | split | dsimp only | dsimp only [Keeps])

theorem flushBody_keeps (c : HostCmd) (d : Device) (h : Keeps A L d) :
    Keeps A L (flushBody c d) := by
  unfold flushBody
  repeat' (first | with_reducible assumption | (with_reducible refine keeps_snd_of (r := takeBuffer _ _ _ _) ‹_› ?_) | with_reducible apply closeFor_keeps | with_reducible apply failCmd_keeps | with_reducible apply failField_keeps | with_reducible apply invalidField_keeps | with_reducible apply settle_keeps | with_reducible apply takeBuffer_keeps | with_reducible apply updWp_keeps | (with_reducible intro) | split | dsimp only | dsimp only [Keeps])

theorem recomputeCeiling_keeps (d : Device) (h : Keeps A L d) :
    Keeps A L (recomputeCeiling d) := by
  unfold recomputeCeiling
  repeat' (first | with_reducible assumption | with_reducible apply closeFor_keeps | with_reducible apply logRec_keeps | with_reducible apply setObj_keeps | (with_reducible intro) | split | dsimp only | dsimp only [Keeps])

theorem closeRowAt_keeps (d : Device) (ptr : Nat) (h : Keeps A L d) :
    Keeps A L (closeRowAt d ptr) := by
  unfold closeRowAt
  repeat' (first | with_reducible assumption | with_reducible apply forceClose_keeps | (with_reducible intro) | split | dsimp only | dsimp only [Keeps])

theorem closeJournalRows_keeps (d : Device) (h : Keeps A L d) :
    Keeps A L (closeJournalRows d) := by
  unfold closeJournalRows
  repeat' (first | with_reducible assumption | with_reducible apply closeRowAt_keeps | with_reducible apply foldl_keeps | (with_reducible intro) | split | dsimp only | dsimp only [Keeps])

theorem sealAndClose_keeps (copy1 copy2 : Bool) (d : Device) (h : Keeps A L d) :
    Keeps A L (sealAndClose copy1 copy2 d) := by
  unfold sealAndClose
  repeat' (first | with_reducible assumption | with_reducible apply closeJournalRows_keeps | with_reducible apply sealFrame_keeps | with_reducible apply settle_keeps | (with_reducible intro) | split | dsimp only | dsimp only [Keeps])

theorem writeLogFrame_keeps (d : Device) (rs : List LogRecord) (h : Keeps A L d) :
    Keeps A L (writeLogFrame d rs) := by
  unfold writeLogFrame
  repeat' (first | with_reducible assumption | (with_reducible refine keeps_snd_of (r := systemPlace _ _) ‹_› ?_) | with_reducible apply closeRowAt_keeps | with_reducible apply systemPlace_keeps | (with_reducible intro) | split | dsimp only | dsimp only [Keeps])

theorem writeLogFrames_keeps (rs : List LogRecord) (d : Device) (h : Keeps A L d) :
    Keeps A L (writeLogFrames rs d) := by
  unfold writeLogFrames
  repeat' (first | with_reducible assumption | with_reducible apply writeLogFrame_keeps | with_reducible apply foldl_keeps | (with_reducible intro) | split | dsimp only | dsimp only [Keeps])

theorem persistRing_keeps (d : Device) (h : Keeps A L d) : Keeps A L (persistRing d) := by
  unfold persistRing
  dsimp only
  have h₁ := writeLogFrames_keeps ((d.log.ring.filter fun e => !e.persisted).map (·.entry)) d h
  generalize writeLogFrames _ d = e at h₁ ⊢
  exact ⟨h₁.1, fun hl => ⟨by simpa using (h₁.2 hl).1, (h₁.2 hl).2⟩⟩

theorem runLogFlush_keeps (d : Device) (h : Keeps A L d) :
    Keeps A L (runLogFlush d) := by
  unfold runLogFlush
  repeat' (first | with_reducible assumption | with_reducible apply incObj_keeps | with_reducible apply persistRing_keeps | with_reducible apply poolEmptyResult_keeps | with_reducible apply reportOverwritten_keeps | (with_reducible intro) | split | dsimp only | dsimp only [Keeps])

theorem clearLogbook_keeps (path : Nat) (d : Device) (h : Keeps A L d) : Keeps A L (clearLogbook path d) := by
  unfold clearLogbook
  dsimp only
  have h₁ (snaps : List Nat) : Keeps A L (logRec Code.logbookCleared snaps d) := logRec_keeps _ _ _ h
  refine writeLogFrames_keeps _ _ ⟨(h₁ _).1, fun hl => ⟨?_, ((h₁ _).2 hl).2⟩⟩
  simpa using (List.length_filter_le _ _).trans ((h₁ _).2 hl).1

theorem updRead_keeps (id : Nat) (f : ReadCmd → ReadCmd) (d : Device) (h : Keeps A L d) :
    Keeps A L (updRead id f d) := by
  unfold updRead
  repeat' (first | with_reducible assumption | with_reducible apply updWp_keeps | (with_reducible intro) | split | dsimp only | dsimp only [Keeps])

theorem updReadGrain_keeps (id grain : Nat) (f : ReadGrain → ReadGrain) (d : Device) (h : Keeps A L d) :
    Keeps A L (updReadGrain id grain f d) := by
  unfold updReadGrain
  repeat' (first | with_reducible assumption | with_reducible apply updRead_keeps | (with_reducible intro) | split | dsimp only | dsimp only [Keeps])

theorem freeRead_keeps (r : ReadCmd) (d : Device) (h : Keeps A L d) :
    Keeps A L (freeRead r d) := by
  unfold freeRead
  repeat' (first | with_reducible assumption | with_reducible apply freeContext_keeps | with_reducible apply giveBuffers_keeps | (with_reducible intro) | split | dsimp only | dsimp only [Keeps])

theorem dropRead_keeps (id : Nat) (d : Device) (h : Keeps A L d) :
    Keeps A L (dropRead id d) := by
  unfold dropRead
  repeat' (first | with_reducible assumption | with_reducible apply freeRead_keeps | with_reducible apply updWp_keeps | with_reducible apply foldl_keeps | (with_reducible intro) | split | dsimp only | dsimp only [Keeps])

theorem endRead_keeps (id : Nat) (d : Device) (h : Keeps A L d) :
    Keeps A L (endRead id d) := by
  unfold endRead
  repeat' (first | with_reducible assumption | with_reducible apply addObj_keeps | with_reducible apply dropRead_keeps | with_reducible apply incObj_keeps | with_reducible apply logError_keeps | with_reducible apply postCompletion_keeps | (with_reducible intro) | split | dsimp only | dsimp only [Keeps])

theorem advanceChannel_keeps (ch : Nat) (d : Device) (h : Keeps A L d) :
    Keeps A L (advanceChannel ch d) := by
  unfold advanceChannel
  repeat' (first | with_reducible assumption | with_reducible apply endRead_keeps | with_reducible apply foldl_keeps | (with_reducible intro) | split | dsimp only | dsimp only [Keeps])

theorem finishRead_keeps (id : Nat) (d : Device) (h : Keeps A L d) :
    Keeps A L (finishRead id d) := by
  unfold finishRead
  repeat' (first | with_reducible assumption | with_reducible apply advanceChannel_keeps | with_reducible apply endRead_keeps | (with_reducible intro) | split | dsimp only | dsimp only [Keeps])

theorem grainDelivered_keeps (id grain : Nat) (blocks : List LBlock) (metas : List Nat) (d : Device) (h : Keeps A L d) :
    Keeps A L (grainDelivered id grain blocks metas d) := by
  unfold grainDelivered
  repeat' (first | with_reducible assumption | with_reducible apply finishRead_keeps | with_reducible apply sendOnLink_keeps | with_reducible apply updReadGrain_keeps | (with_reducible intro) | split | dsimp only | dsimp only [Keeps])

theorem grainFailed_keeps (id grain sct sc : Nat) (dnr : Bool) (crd : Nat) (d : Device) (h : Keeps A L d) :
    Keeps A L (grainFailed id grain sct sc dnr crd d) := by
  unfold grainFailed
  repeat' (first | with_reducible assumption | with_reducible apply finishRead_keeps | with_reducible apply updReadGrain_keeps | (with_reducible intro) | split | dsimp only | dsimp only [Keeps])

theorem recordUnrecovered_keeps (slot grain block step error : Nat) (d : Device) (h : Keeps A L d) :
    Keeps A L (recordUnrecovered slot grain block step error d) := by
  unfold recordUnrecovered
  repeat' (first | with_reducible assumption | with_reducible apply incObj_keeps | with_reducible apply logRec_keeps | (with_reducible intro) | split | dsimp only | dsimp only [Keeps])

theorem grainUnrecovered_keeps (id grain step error : Nat) (d : Device) (h : Keeps A L d) :
    Keeps A L (grainUnrecovered id grain step error d) := by
  unfold grainUnrecovered
  repeat' (first | with_reducible assumption | with_reducible apply grainFailed_keeps | with_reducible apply incObj_keeps | with_reducible apply recordUnrecovered_keeps | (with_reducible intro) | split | dsimp only | dsimp only [Keeps])

theorem stageNext_keeps (bank : Nat) (d : Device) (h : Keeps A L d) :
    Keeps A L (stageNext bank d) := by
  unfold stageNext
  repeat' (first | with_reducible assumption | (with_reducible intro) | split | dsimp only | dsimp only [Keeps])

theorem awaitCodewords_keeps (id grain ptr : Nat) (d : Device) (h : Keeps A L d) :
    Keeps A L (awaitCodewords id grain ptr d) := by
  unfold awaitCodewords
  repeat' (first | with_reducible assumption | (with_reducible refine keeps_snd_of (r := newId _) ‹_› ?_) | with_reducible apply newId_keeps | with_reducible apply stageNext_keeps | with_reducible apply updReadGrain_keeps | (with_reducible intro) | split | dsimp only | dsimp only [Keeps])

theorem lookupFault_keeps (id slot grain e : Nat) (d : Device) (h : Keeps A L d) :
    Keeps A L (lookupFault id slot grain e d) := by
  unfold lookupFault
  repeat' (first | with_reducible assumption | with_reducible apply frameRangeFault_keeps | with_reducible apply grainFailed_keeps | with_reducible apply incObj_keeps | with_reducible apply lineReloaded_keeps | (with_reducible intro) | split | dsimp only | dsimp only [Keeps])

theorem serveBuffered_keeps (id grain : Nat) (x : FlightGrain) (d : Device) (h : Keeps A L d) :
    Keeps A L (serveBuffered id grain x d) := by
  unfold serveBuffered
  repeat' (first | with_reducible assumption | with_reducible apply dispatch_keeps | with_reducible apply grainDelivered_keeps | with_reducible apply incObj_keeps | with_reducible apply updReadGrain_keeps | (with_reducible intro) | split | dsimp only | dsimp only [Keeps])

theorem lookupReadGrain_keeps (id grain : Nat) (d : Device) (h : Keeps A L d) :
    Keeps A L (lookupReadGrain id grain d) := by
  unfold lookupReadGrain
  repeat' (first | with_reducible assumption | with_reducible apply askPage_keeps | with_reducible apply awaitCodewords_keeps | with_reducible apply grainDelivered_keeps | with_reducible apply grainFailed_keeps | with_reducible apply incObj_keeps | with_reducible apply lookupEntry_keeps | with_reducible apply lookupFault_keeps | with_reducible apply serveBuffered_keeps | (with_reducible intro) | split | dsimp only | dsimp only [Keeps])

theorem lookupAll_keeps (id : Nat) (d : Device) (h : Keeps A L d) :
    Keeps A L (lookupAll id d) := by
  unfold lookupAll
  repeat' (first | with_reducible assumption | with_reducible apply lookupReadGrain_keeps | with_reducible apply foldl_keeps | (with_reducible intro) | split | dsimp only | dsimp only [Keeps])

theorem lookupCommand_keeps (stream slot grain : Nat) (d : Device) (h : Keeps A L d) :
    Keeps A L (lookupCommand stream slot grain d) := by
  unfold lookupCommand
  repeat' (first | with_reducible assumption | with_reducible apply lookupEntry_keeps | with_reducible apply lookupReadGrain_keeps | with_reducible apply readDirectory_keeps | with_reducible apply foldl_keeps | (with_reducible intro) | split | dsimp only | dsimp only [Keeps])

theorem operationTimeout_keeps (n func : Nat) (d : Device) (h : Keeps A L d) :
    Keeps A L (operationTimeout n func d) := by
  unfold operationTimeout
  repeat' (first | with_reducible assumption | with_reducible apply failDie_keeps | with_reducible apply incObj_keeps | with_reducible apply logRec_keeps | with_reducible apply updDie_keeps | (with_reducible intro) | split | dsimp only | dsimp only [Keeps])

theorem peerImage_keeps (n r q k : Nat) (ps : List PeerReads) (m : Nat × Nat) (ran : List Nat) (d : Device) (h : Keeps A L d) :
    Keeps A L (peerImage n r q k ps m ran d).2.2 := by
  unfold peerImage
  repeat' (first | with_reducible assumption | with_reducible apply climbOwn_keeps | with_reducible apply loadOffsets_keeps | with_reducible apply operationTimeout_keeps | with_reducible apply queueRefresh_keeps | (with_reducible intro) | split | dsimp only | dsimp only [Keeps])

theorem peerImages_keeps (n r q k : Nat) (ps : List PeerReads) (ms : List (Nat × Nat)) (ran : List Nat) (d : Device) (h : Keeps A L d) :
    Keeps A L (peerImages n r q k ps ms ran d).2.2 := by
  induction ms generalizing ran d with
  | nil => exact h
  | cons x xs ih =>
    unfold peerImages
    repeat' (first | with_reducible assumption | (with_reducible refine keeps_third_of (r := peerImage _ _ _ _ _ _ _ _) ‹_› ?_) | with_reducible apply peerImage_keeps | (with_reducible refine keeps_third_of (r := peerImages _ _ _ _ _ _ _ _) ‹_› ?_) | with_reducible apply ih | (with_reducible intro) | split | dsimp only | dsimp only [Keeps])

theorem decodeImage_keeps (s : Nat) (soft1 : List Nat) (word : Nat) (d : Device) (h : Keeps A L d) :
    Keeps A L (decodeImage s soft1 word d).2 := by
  unfold decodeImage
  repeat' (first | with_reducible assumption | with_reducible apply countAttempt_keeps | (with_reducible intro) | split | dsimp only | dsimp only [Keeps])

theorem decodeImages_keeps (n r q : Nat) (soft1 : List Nat) (xs : List Image) (ws : List (Nat × Nat)) (d : Device) (h : Keeps A L d) :
    Keeps A L (decodeImages n r q soft1 xs ws d).2 := by
  induction ws generalizing d with
  | nil => exact h
  | cons x xs ih =>
    unfold decodeImages
    repeat' (first | with_reducible assumption | (with_reducible refine keeps_snd_of (r := decodeImage _ _ _ _) ‹_› ?_) | with_reducible apply decodeImage_keeps | (with_reducible refine keeps_snd_of (r := decodeImages _ _ _ _ _ _ _) ‹_› ?_) | with_reducible apply ih | (with_reducible intro) | split | dsimp only | dsimp only [Keeps])

theorem reconstruct_keeps (b cw : Nat) (ps : List PeerReads) (ran : List Nat) (d : Device) (h : Keeps A L d) :
    Keeps A L (reconstruct b cw ps ran d).2.2 := by
  unfold reconstruct
  repeat' (first | with_reducible assumption | (with_reducible refine keeps_snd_of (r := decodeImages _ _ _ _ _ _ _) ‹_› ?_) | (with_reducible refine keeps_third_of (r := peerImages _ _ _ _ _ _ _ _) ‹_› ?_) | with_reducible apply decodeImages_keeps | with_reducible apply peerImages_keeps | (with_reducible intro) | split | dsimp only | dsimp only [Keeps])

theorem countSteps_keeps (steps : List Nat) (d : Device) (h : Keeps A L d) :
    Keeps A L (countSteps steps d) := by
  unfold countSteps
  repeat' (first | with_reducible assumption | with_reducible apply addObj_keeps | (with_reducible intro) | split | dsimp only | dsimp only [Keeps])

theorem climbLadder_keeps (b cw : Nat) (r : CodewordReads × List PeerReads) (toL5 limited : Bool) (ran : List Nat) (d : Device) (h : Keeps A L d) :
    Keeps A L (climbLadder b cw r toL5 limited ran d).2.2 := by
  unfold climbLadder
  repeat' (first | with_reducible assumption | (with_reducible refine keeps_third_of (r := reconstruct _ _ _ _ _) ‹_› ?_) | with_reducible apply climbOwn_keeps | with_reducible apply reconstruct_keeps | (with_reducible intro) | split | dsimp only | dsimp only [Keeps])

theorem climbGrain_keeps (b : Nat) (toL5 limited : Bool) (cws : List Nat) (rs : List (CodewordReads × List PeerReads)) (ran : List Nat) (d : Device) (h : Keeps A L d) :
    Keeps A L (climbGrain b toL5 limited cws rs ran d).2 := by
  induction cws generalizing rs ran d with
  | nil => exact h
  | cons x xs ih =>
    unfold climbGrain
    repeat' (first | with_reducible assumption | (with_reducible refine keeps_third_of (r := climbLadder _ _ _ _ _ _ _) ‹_› ?_) | with_reducible apply climbLadder_keeps | (with_reducible refine keeps_snd_of (r := climbGrain _ _ _ _ _ _ _) ‹_› ?_) | with_reducible apply ih | (with_reducible intro) | split | dsimp only | dsimp only [Keeps])

theorem gatherGrain_keeps (ptr frames : Nat) (a : ArrayRead) (limited : Bool) (d : Device) (h : Keeps A L d) :
    Keeps A L (gatherGrain ptr frames a limited d).2 := by
  unfold gatherGrain
  repeat' (first | with_reducible assumption | (with_reducible refine keeps_snd_of (r := climbGrain _ _ _ _ _ _ _) ‹_› ?_) | with_reducible apply climbGrain_keeps | with_reducible apply countSteps_keeps | with_reducible apply operationTimeout_keeps | with_reducible apply queueRefresh_keeps | with_reducible apply updDie_keeps | with_reducible apply foldl_keeps | with_reducible apply foldl_snd_keeps | with_reducible apply foldl_third_keeps | (with_reducible intro) | split | dsimp only | dsimp only [Keeps])

theorem resumeOp_keeps (n : Nat) (d : Device) (h : Keeps A L d) :
    Keeps A L (resumeOp n d) := by
  unfold resumeOp
  repeat' (first | with_reducible assumption | with_reducible apply updDie_keeps | (with_reducible intro) | split | dsimp only | dsimp only [Keeps])

theorem ladder_keeps (id grain : Nat) (a : ArrayRead) (d : Device) (h : Keeps A L d) :
    Keeps A L (ladder id grain a d) := by
  unfold ladder
  repeat' (first | with_reducible assumption | (with_reducible refine keeps_snd_of (r := gatherGrain _ _ _ _ _) ‹_› ?_) | with_reducible apply dispatch_keeps | with_reducible apply gatherGrain_keeps | with_reducible apply grainFailed_keeps | with_reducible apply grainUnrecovered_keeps | with_reducible apply incObj_keeps | with_reducible apply resumeOp_keeps | with_reducible apply sendOnLink_keeps | with_reducible apply updReadGrain_keeps | (with_reducible intro) | split | dsimp only | dsimp only [Keeps])

theorem engineDisagrees_keeps (bad good error : Nat) (d : Device) (h : Keeps A L d) :
    Keeps A L (engineDisagrees bad good error d) := by
  unfold engineDisagrees
  repeat' (first | with_reducible assumption | (with_reducible refine keeps_snd_of (r := engineFault _ _) ‹_› ?_) | with_reducible apply engineFault_keeps | with_reducible apply incObj_keeps | with_reducible apply logRec_keeps | with_reducible apply retireEngine_keeps | with_reducible apply setObj_keeps | (with_reducible intro) | split | dsimp only | dsimp only [Keeps])

theorem deliver_keeps (id grain : Nat) (data : List LBlock × List Nat) (fault : Option (Nat × Nat)) (d : Device) (h : Keeps A L d) :
    Keeps A L (deliver id grain data fault d) := by
  unfold deliver
  repeat' (first | with_reducible assumption | with_reducible apply advanceChannel_keeps | with_reducible apply countMemoryFault_keeps | with_reducible apply dropRead_keeps | with_reducible apply failWith_keeps | with_reducible apply grainDelivered_keeps | with_reducible apply grainFailed_keeps | (with_reducible intro) | split | dsimp only | dsimp only [Keeps])

theorem decompressFails_keeps (r : ReadCmd) (grain pointer e : Nat) (x : Inflated) (d : Device) (h : Keeps A L d) :
    Keeps A L (decompressFails r grain pointer e x d) := by
  unfold decompressFails
  repeat' (first | with_reducible assumption | with_reducible apply deliver_keeps | with_reducible apply grainFailed_keeps | with_reducible apply grainUnrecovered_keeps | with_reducible apply incObj_keeps | (with_reducible intro) | split | dsimp only | dsimp only [Keeps])

theorem withReadOut_keeps (r : ReadCmd) (grain : Nat) (k : Device → Device) (d : Device) (hk : ∀ e, Keeps A L e → Keeps A L (k e)) (h : Keeps A L d) :
    Keeps A L (withReadOut r grain k d) := by
  unfold withReadOut
  repeat' (first | with_reducible assumption | (with_reducible refine keeps_snd_of (r := takeBuffer _ _ _ _) ‹_› ?_) | with_reducible apply takeBuffer_keeps | with_reducible apply updReadGrain_keeps | with_reducible apply hk | (with_reducible intro) | split | dsimp only | dsimp only [Keeps])

theorem decompress_keeps (id grain engine : Nat) (x : Inflated) (d : Device) (h : Keeps A L d) :
    Keeps A L (decompress id grain engine x d) := by
  unfold decompress
  repeat' (first | with_reducible assumption | (with_reducible refine endJobAt_keeps ‹_› ?_) | with_reducible apply decompressFails_keeps | with_reducible apply deliver_keeps | with_reducible apply dispatch_keeps | with_reducible apply engineDisagrees_keeps | with_reducible apply withReadOut_keeps | (with_reducible intro) | split | dsimp only | dsimp only [Keeps])

theorem startRead_keeps (c : HostCmd) (slba nlb : Nat) (verify fua limited : Bool) (context : Nat) (d : Device) (h : Keeps A L d) :
    Keeps A L (startRead c slba nlb verify fua limited context d) := by
  unfold startRead
  repeat' (first | with_reducible assumption | (with_reducible refine keeps_snd_of (r := newId _) ‹_› ?_) | with_reducible apply closeFor_keeps | with_reducible apply incObj_keeps | with_reducible apply lookupAll_keeps | with_reducible apply newId_keeps | with_reducible apply updWp_keeps | (with_reducible intro) | split | dsimp only | dsimp only [Keeps])

theorem readBody_keeps (i : Instr) (c : HostCmd) (slba nlb : Nat) (fua limited : Bool) (pointers : DataPointers) (d : Device) (h : Keeps A L d) :
    Keeps A L (readBody i c slba nlb fua limited pointers d) := by
  unfold readBody
  repeat' (first | with_reducible assumption | with_reducible apply blockChecks_keeps | with_reducible apply countMemoryFault_keeps | with_reducible apply failWith_keeps | with_reducible apply holdContext_keeps | with_reducible apply startRead_keeps | (with_reducible intro) | split | dsimp only | dsimp only [Keeps])

theorem verifyBody_keeps (i : Instr) (c : HostCmd) (slba nlb : Nat) (limited : Bool) (d : Device) (h : Keeps A L d) :
    Keeps A L (verifyBody i c slba nlb limited d) := by
  unfold verifyBody
  repeat' (first | with_reducible assumption | with_reducible apply blockChecks_keeps | with_reducible apply holdContext_keeps | with_reducible apply startRead_keeps | (with_reducible intro) | split | dsimp only | dsimp only [Keeps])

theorem tlerExpires_keeps (id : Nat) (d : Device) (h : Keeps A L d) :
    Keeps A L (tlerExpires id d) := by
  unfold tlerExpires
  repeat' (first | with_reducible assumption | with_reducible apply advanceChannel_keeps | with_reducible apply dropRead_keeps | with_reducible apply failWith_keeps | with_reducible apply updRead_keeps | (with_reducible intro) | split | dsimp only | dsimp only [Keeps])

theorem dataLanded_keeps (w : WriteCmd) (landing : Landing) (d : Device) (h : Keeps A L d) :
    Keeps A L (dataLanded w landing d) := by
  unfold dataLanded
  repeat' (first | with_reducible assumption | with_reducible apply advanceChannel_keeps | with_reducible apply landWrite_keeps | with_reducible apply sendOnLink_keeps | with_reducible apply takeLanding_keeps | (with_reducible intro) | split | dsimp only | dsimp only [Keeps])

theorem updRc_keeps (f : Reclaim → Reclaim) (d : Device) (h : Keeps A L d) :
    Keeps A L (updRc f d) := by
  unfold updRc
  repeat' (first | with_reducible assumption | (with_reducible intro) | split | dsimp only | dsimp only [Keeps])

theorem emptyBlocks_keeps (n : Nat) (d : Device) (h : Keeps A L d) :
    Keeps A L (emptyBlocks n d) := by
  unfold emptyBlocks
  repeat' (first | with_reducible assumption | with_reducible apply updBlock_keeps | with_reducible apply foldl_keeps | (with_reducible intro) | split | dsimp only | dsimp only [Keeps])

theorem startRelocation_keeps (restriping : Bool) (ptr : Nat) (g : StoredGrain) (d : Device) (h : Keeps A L d) :
    Keeps A L (startRelocation restriping ptr g d) := by
  unfold startRelocation
  repeat' (first | with_reducible assumption | (with_reducible refine keeps_snd_of (r := newId _) ‹_› ?_) | with_reducible apply addObj_keeps | with_reducible apply incObj_keeps | with_reducible apply newId_keeps | with_reducible apply placeWaiting_keeps | with_reducible apply updRc_keeps | with_reducible apply updWp_keeps | (with_reducible intro) | split | dsimp only | dsimp only [Keeps])

theorem relocationRead_keeps (ptr : Nat) (g : StoredGrain) (a : ArrayRead) (d : Device) (h : Keeps A L d) :
    Keeps A L (relocationRead ptr g a d).2 := by
  unfold relocationRead
  repeat' (first | with_reducible assumption | (with_reducible refine keeps_snd_of (r := gatherGrain _ _ _ _ _) ‹_› ?_) | with_reducible apply gatherGrain_keeps | (with_reducible intro) | split | dsimp only | dsimp only [Keeps])

theorem reconcile_keeps (b : Nat) (d : Device) (h : Keeps A L d) :
    Keeps A L (reconcile b d) := by
  unfold reconcile
  repeat' (first | with_reducible assumption | with_reducible apply updBlock_keeps | with_reducible apply updRc_keeps | (with_reducible intro) | split | dsimp only | dsimp only [Keeps])

theorem notePhysicallyFull_keeps (d : Device) (h : Keeps A L d) :
    Keeps A L (notePhysicallyFull d) := by
  unfold notePhysicallyFull
  repeat' (first | with_reducible assumption | with_reducible apply logRec_keeps | with_reducible apply setObj_keeps | with_reducible apply foldl_keeps | with_reducible apply foldl_snd_keeps | with_reducible apply foldl_third_keeps | (with_reducible intro) | split | dsimp only | dsimp only [Keeps])

theorem selectVictim_keeps (footers : List (Nat × List Byte)) (d : Device) (h : Keeps A L d) :
    Keeps A L (selectVictim footers d) := by
  unfold selectVictim
  repeat' (first | with_reducible assumption | with_reducible apply footerRead_keeps | with_reducible apply notePhysicallyFull_keeps | with_reducible apply reconcile_keeps | with_reducible apply updRc_keeps | with_reducible apply foldl_keeps | with_reducible apply foldl_snd_keeps | with_reducible apply foldl_third_keeps | (with_reducible intro) | split | dsimp only | dsimp only [Keeps])

theorem pinGrain_keeps (n ptr : Nat) (g : StoredGrain) (d : Device) (h : Keeps A L d) :
    Keeps A L (pinGrain n ptr g d) := by
  unfold pinGrain
  repeat' (first | with_reducible assumption | with_reducible apply incObj_keeps | with_reducible apply logRec_keeps | with_reducible apply recordUnrecovered_keeps | with_reducible apply updBlock_keeps | with_reducible apply updStripe_keeps | (with_reducible intro) | split | dsimp only | dsimp only [Keeps])

theorem refreshPins_keeps (n : Nat) (d : Device) (h : Keeps A L d) :
    Keeps A L (refreshPins n d) := by
  unfold refreshPins
  repeat' (first | with_reducible assumption | with_reducible apply emptyBlocks_keeps | with_reducible apply updBlock_keeps | with_reducible apply updStripe_keeps | with_reducible apply foldl_keeps | with_reducible apply foldl_snd_keeps | with_reducible apply foldl_third_keeps | (with_reducible intro) | split | dsimp only | dsimp only [Keeps])

theorem relocateNext_keeps (a : ArrayRead) (d : Device) (h : Keeps A L d) :
    Keeps A L (relocateNext a d) := by
  unfold relocateNext
  repeat' (first | with_reducible assumption | (with_reducible refine keeps_snd_of (r := relocationRead _ _ _ _) ‹_› ?_) | with_reducible apply emptyBlocks_keeps | with_reducible apply pinGrain_keeps | with_reducible apply relocationRead_keeps | with_reducible apply startRelocation_keeps | with_reducible apply updRc_keeps | (with_reducible intro) | split | dsimp only | dsimp only [Keeps])

theorem retryGrain_keeps (reads : List (Nat × Nat × ArrayRead)) (d : Device) (e : Nat × StoredGrain) (h : Keeps A L d) :
    Keeps A L (retryGrain reads d e) := by
  unfold retryGrain
  repeat' (first | with_reducible assumption | (with_reducible refine keeps_snd_of (r := relocationRead _ _ _ _) ‹_› ?_) | with_reducible apply relocationRead_keeps | with_reducible apply startRelocation_keeps | (with_reducible intro) | split | dsimp only | dsimp only [Keeps])

theorem retryPinned_keeps (n : Nat) (reads : List (Nat × Nat × ArrayRead)) (d : Device) (h : Keeps A L d) :
    Keeps A L (retryPinned n reads d) := by
  unfold retryPinned
  repeat' (first | with_reducible assumption | with_reducible apply refreshPins_keeps | with_reducible apply retryGrain_keeps | with_reducible apply updStripe_keeps | with_reducible apply foldl_keeps | with_reducible apply foldl_snd_keeps | with_reducible apply foldl_third_keeps | (with_reducible intro) | split | dsimp only | dsimp only [Keeps])

theorem dropLostBanks_keeps (d : Device) (h : Keeps A L d) :
    Keeps A L (dropLostBanks d) := by
  unfold dropLostBanks
  repeat' (first | with_reducible assumption | (with_reducible intro) | split | dsimp only | dsimp only [Keeps])

theorem leaveRestripe_keeps (n : Nat) (d : Device) (h : Keeps A L d) :
    Keeps A L (leaveRestripe n d) := by
  unfold leaveRestripe
  repeat' (first | with_reducible assumption | with_reducible apply dropLostBanks_keeps | with_reducible apply incObj_keeps | with_reducible apply logRec_keeps | (with_reducible intro) | split | dsimp only | dsimp only [Keeps])

theorem releaseStripe_keeps (n : Nat) (d : Device) (h : Keeps A L d) :
    Keeps A L (releaseStripe n d) := by
  unfold releaseStripe
  repeat' (first | with_reducible assumption | with_reducible apply emptyBlocks_keeps | with_reducible apply incObj_keeps | with_reducible apply leaveRestripe_keeps | with_reducible apply nameGauge_keeps | with_reducible apply refreshPins_keeps | with_reducible apply updBlock_keeps | with_reducible apply foldl_keeps | (with_reducible intro) | split | dsimp only | dsimp only [Keeps])

theorem checkWear_keeps (n : Nat) (d : Device) (h : Keeps A L d) :
    Keeps A L (checkWear n d) := by
  unfold checkWear
  repeat' (first | with_reducible assumption | with_reducible apply incObj_keeps | with_reducible apply queueStripe_keeps | with_reducible apply updBlock_keeps | with_reducible apply updRc_keeps | with_reducible apply foldl_keeps | with_reducible apply foldl_snd_keeps | with_reducible apply foldl_third_keeps | (with_reducible intro) | split | dsimp only | dsimp only [Keeps])

theorem writeTable_keeps (d : Device) (h : Keeps A L d) :
    Keeps A L (writeTable d) := by
  unfold writeTable
  repeat' (first | with_reducible assumption | with_reducible apply saveTables_keeps | (with_reducible intro) | split | dsimp only | dsimp only [Keeps])

theorem moveClasses_keeps (n : Nat) (before after : DieState) (dark : Nat) (d : Device) (h : Keeps A L d) :
    Keeps A L (moveClasses n before after dark d) := by
  unfold moveClasses
  repeat' (first | with_reducible assumption | (with_reducible refine keeps_snd_of (r := limitOffsets _ _ _) ‹_› ?_) | with_reducible apply limitOffsets_keeps | with_reducible apply updDie_keeps | with_reducible apply foldl_keeps | with_reducible apply foldl_snd_keeps | with_reducible apply foldl_third_keeps | (with_reducible intro) | split | dsimp only | dsimp only [Keeps])

theorem scanDie_keeps (n : Nat) (runs : List (List WordlineReads)) (d : Device) (h : Keeps A L d) :
    Keeps A L (scanDie n runs d) := by
  unfold scanDie
  repeat' (first | with_reducible assumption | with_reducible apply moveClasses_keeps | with_reducible apply updDie_keeps | with_reducible apply updRc_keeps | with_reducible apply foldl_keeps | with_reducible apply foldl_snd_keeps | with_reducible apply foldl_third_keeps | (with_reducible intro) | split | dsimp only | dsimp only [Keeps])

theorem queueAged_keeps (d : Device) (h : Keeps A L d) :
    Keeps A L (queueAged d) := by
  unfold queueAged
  repeat' (first | with_reducible assumption | with_reducible apply incObj_keeps | with_reducible apply queueStripe_keeps | with_reducible apply updBlock_keeps | with_reducible apply foldl_keeps | with_reducible apply foldl_snd_keeps | with_reducible apply foldl_third_keeps | (with_reducible intro) | split | dsimp only | dsimp only [Keeps])

theorem finishScans_keeps (d : Device) (h : Keeps A L d) :
    Keeps A L (finishScans d) := by
  unfold finishScans
  repeat' (first | with_reducible assumption | with_reducible apply logRec_keeps | with_reducible apply moveRoot_keeps | with_reducible apply observeDark_keeps | with_reducible apply setObj_keeps | with_reducible apply updBlock_keeps | with_reducible apply updDie_keeps | with_reducible apply updRc_keeps | with_reducible apply foldl_keeps | with_reducible apply foldl_snd_keeps | with_reducible apply foldl_third_keeps | (with_reducible intro) | split | dsimp only | dsimp only [Keeps])

theorem scanRound_keeps (scans : List (Nat × List (List WordlineReads))) (d : Device) (h : Keeps A L d) :
    Keeps A L (scanRound scans d) := by
  unfold scanRound
  repeat' (first | with_reducible assumption | with_reducible apply moveRoot_keeps | with_reducible apply queueAged_keeps | with_reducible apply scanDie_keeps | with_reducible apply updRc_keeps | with_reducible apply foldl_keeps | with_reducible apply foldl_snd_keeps | with_reducible apply foldl_third_keeps | (with_reducible intro) | split | dsimp only | dsimp only [Keeps])

theorem gaugeBlockFails_keeps (erase : Bool) (b : Nat) (d : Device) (h : Keeps A L d) :
    Keeps A L (gaugeBlockFails erase b d) := by
  unfold gaugeBlockFails
  repeat' (first | with_reducible assumption | with_reducible apply incObj_keeps | with_reducible apply logRec_keeps | with_reducible apply updBlock_keeps | (with_reducible intro) | split | dsimp only | dsimp only [Keeps])

theorem refreshGauge_keeps (n : Nat) (runs : List (List WordlineReads)) (eraseFailed programFailed : List Nat) (d : Device) (h : Keeps A L d) :
    Keeps A L (refreshGauge n runs eraseFailed programFailed d) := by
  unfold refreshGauge
  repeat' (first | with_reducible assumption | with_reducible apply gaugeBlockFails_keeps | with_reducible apply logRec_keeps | with_reducible apply moveRoot_keeps | with_reducible apply nameGauge_keeps | with_reducible apply scanDie_keeps | with_reducible apply updBlock_keeps | with_reducible apply updDie_keeps | with_reducible apply whileCharged_keeps | with_reducible apply foldl_keeps | (with_reducible intro) | split | dsimp only | dsimp only [Keeps])

theorem scrubBlock_keeps (b : Nat) (first : WordlineReads) (again : List Nat) (d : Device) (h : Keeps A L d) :
    Keeps A L (scrubBlock b first again d) := by
  unfold scrubBlock
  repeat' (first | with_reducible assumption | with_reducible apply addObj_keeps | with_reducible apply incObj_keeps | with_reducible apply loadOffsets_keeps | with_reducible apply queueStripe_keeps | with_reducible apply resumeOp_keeps | with_reducible apply trackingRun_keeps | with_reducible apply updBlock_keeps | with_reducible apply whileCharged_keeps | with_reducible apply foldl_keeps | (with_reducible intro) | split | dsimp only | dsimp only [Keeps])

theorem computeWake_keeps (d : Device) (h : Keeps A L d) :
    Keeps A L (computeWake d) := by
  unfold computeWake
  repeat' (first | with_reducible assumption | with_reducible apply setObj_keeps | (with_reducible intro) | split | dsimp only | dsimp only [Keeps])

theorem updRestripe_keeps (n : Nat) (f : RestripeEntry → RestripeEntry) (d : Device) (h : Keeps A L d) :
    Keeps A L (updRestripe n f d) := by
  unfold updRestripe
  repeat' (first | with_reducible assumption | (with_reducible intro) | split | dsimp only | dsimp only [Keeps])

theorem refreshAside_keeps (d : Device) (h : Keeps A L d) :
    Keeps A L (refreshAside d) := by
  unfold refreshAside
  repeat' (first | with_reducible assumption | (with_reducible intro) | split | dsimp only | dsimp only [Keeps])

theorem markGrains_keeps (n : Nat) (es : List (Nat × StoredGrain)) (d : Device) (h : Keeps A L d) :
    Keeps A L (markGrains n es d) := by
  unfold markGrains
  repeat' (first | with_reducible assumption | with_reducible apply markLost_keeps | with_reducible apply updRestripe_keeps | with_reducible apply foldl_keeps | with_reducible apply foldl_snd_keeps | with_reducible apply foldl_third_keeps | (with_reducible intro) | split | dsimp only | dsimp only [Keeps])

theorem stripeIsLost_keeps (n : Nat) (d : Device) (h : Keeps A L d) :
    Keeps A L (stripeIsLost n d) := by
  unfold stripeIsLost
  repeat' (first | with_reducible assumption | with_reducible apply emptyBlocks_keeps | with_reducible apply incObj_keeps | with_reducible apply logRec_keeps | with_reducible apply updRestripe_keeps | (with_reducible intro) | split | dsimp only | dsimp only [Keeps])

theorem declareLost_keeps (n : Nat) (d : Device) (h : Keeps A L d) :
    Keeps A L (declareLost n d) := by
  unfold declareLost
  repeat' (first | with_reducible assumption | with_reducible apply markGrains_keeps | with_reducible apply stripeIsLost_keeps | with_reducible apply updRc_keeps | with_reducible apply updRestripe_keeps | (with_reducible intro) | split | dsimp only | dsimp only [Keeps])

theorem restripeStep_keeps (a : ArrayRead) (known : Bool) (d : Device) (h : Keeps A L d) :
    Keeps A L (restripeStep a known d) := by
  unfold restripeStep
  repeat' (first | with_reducible assumption | (with_reducible refine keeps_snd_of (r := relocationRead _ _ _ _) ‹_› ?_) | with_reducible apply declareLost_keeps | with_reducible apply emptyBlocks_keeps | with_reducible apply incObj_keeps | with_reducible apply logRec_keeps | with_reducible apply recordUnrecovered_keeps | with_reducible apply refreshAside_keeps | with_reducible apply relocationRead_keeps | with_reducible apply startRelocation_keeps | with_reducible apply updRc_keeps | with_reducible apply updRestripe_keeps | with_reducible apply foldl_keeps | with_reducible apply foldl_snd_keeps | with_reducible apply foldl_third_keeps | (with_reducible intro) | split | dsimp only | dsimp only [Keeps])

theorem sweepMap_keeps (d : Device) (h : Keeps A L d) :
    Keeps A L (sweepMap d) := by
  unfold sweepMap
  repeat' (first | with_reducible assumption | with_reducible apply markGrains_keeps | with_reducible apply stripeIsLost_keeps | with_reducible apply updRc_keeps | with_reducible apply foldl_keeps | (with_reducible intro) | split | dsimp only | dsimp only [Keeps])

theorem appendLost_keeps (d : Device) (h : Keeps A L d) :
    Keeps A L (appendLost d) := by
  unfold appendLost
  repeat' (first | with_reducible assumption | (with_reducible refine keeps_snd_of (r := systemPlace _ _) ‹_› ?_) | with_reducible apply addObj_keeps | with_reducible apply logRec_keeps | with_reducible apply raiseOnAll_keeps | with_reducible apply setRoot_keeps | with_reducible apply systemPlace_keeps | with_reducible apply updRc_keeps | with_reducible apply foldl_keeps | with_reducible apply foldl_snd_keeps | with_reducible apply foldl_third_keeps | (with_reducible intro) | split | dsimp only | dsimp only [Keeps])

theorem startBringUp_keeps (bank : Nat) (d : Device) (h : Keeps A L d) :
    Keeps A L (startBringUp bank d) := by
  unfold startBringUp
  repeat' (first | with_reducible assumption | with_reducible apply requestTokens_keeps | with_reducible apply setCarrierState_keeps | with_reducible apply updCarrier_keeps | (with_reducible intro) | split | dsimp only | dsimp only [Keeps])

theorem raisePen_keeps (bank : Nat) (d : Device) (h : Keeps A L d) :
    Keeps A L (raisePen bank d) := by
  unfold raisePen
  repeat' (first | with_reducible assumption | with_reducible apply setDomains_keeps | with_reducible apply setObj_keeps | with_reducible apply updCarrier_keeps | with_reducible apply foldl_keeps | (with_reducible intro) | split | dsimp only | dsimp only [Keeps])

theorem nextStep_keeps (bank step : Nat) (f : Carrier → Carrier) (d : Device) (h : Keeps A L d) :
    Keeps A L (nextStep bank step f d) := by
  unfold nextStep
  repeat' (first | with_reducible assumption | with_reducible apply updCarrier_keeps | (with_reducible intro) | split | dsimp only | dsimp only [Keeps])

theorem updChannel_keeps (cc : Nat) (f : ChannelLink → ChannelLink) (d : Device) (h : Keeps A L d) :
    Keeps A L (updChannel cc f d) := by
  unfold updChannel
  repeat' (first | with_reducible assumption | (with_reducible intro) | split | dsimp only | dsimp only [Keeps])

theorem drivePins_keeps (bank : Nat) (d : Device) (h : Keeps A L d) :
    Keeps A L (drivePins bank d) := by
  unfold drivePins
  repeat' (first | with_reducible assumption | with_reducible apply nextStep_keeps | with_reducible apply updChannel_keeps | with_reducible apply foldl_keeps | (with_reducible intro) | split | dsimp only | dsimp only [Keeps])

theorem dropCarrier_keeps (bank : Nat) (d : Device) (h : Keeps A L d) :
    Keeps A L (dropCarrier bank d) := by
  unfold dropCarrier
  repeat' (first | with_reducible assumption | with_reducible apply clearPen_keeps | with_reducible apply loseBank_keeps | (with_reducible intro) | split | dsimp only | dsimp only [Keeps])

theorem powerFault_keeps (bank cause : Nat) (d : Device) (h : Keeps A L d) :
    Keeps A L (powerFault bank cause d) := by
  unfold powerFault
  repeat' (first | with_reducible assumption | with_reducible apply dropCarrier_keeps | with_reducible apply logRec_keeps | with_reducible apply setCarrierState_keeps | with_reducible apply setObj_keeps | with_reducible apply updCarrier_keeps | (with_reducible intro) | split | dsimp only | dsimp only [Keeps])

theorem removeCarrier_keeps (bank : Nat) (d : Device) (h : Keeps A L d) :
    Keeps A L (removeCarrier bank d) := by
  unfold removeCarrier
  repeat' (first | with_reducible assumption | with_reducible apply clearPen_keeps | with_reducible apply dropCarrier_keeps | with_reducible apply logRec_keeps | with_reducible apply setCarrierState_keeps | with_reducible apply updCarrier_keeps | (with_reducible intro) | split | dsimp only | dsimp only [Keeps])

theorem handleInsertion_keeps (bank : Nat) (d : Device) (h : Keeps A L d) :
    Keeps A L (handleInsertion bank d) := by
  unfold handleInsertion
  repeat' (first | with_reducible assumption | with_reducible apply setCarrierState_keeps | with_reducible apply startBringUp_keeps | with_reducible apply updCarrier_keeps | (with_reducible intro) | split | dsimp only | dsimp only [Keeps])

theorem handleWaitingCarriers_keeps (d : Device) (h : Keeps A L d) :
    Keeps A L (handleWaitingCarriers d) := by
  unfold handleWaitingCarriers
  repeat' (first | with_reducible assumption | with_reducible apply handleInsertion_keeps | with_reducible apply foldl_keeps | (with_reducible intro) | split | dsimp only | dsimp only [Keeps])

theorem identify_keeps (bank : Nat) (present : List Nat) (reports : List LunReport) (d : Device) (h : Keeps A L d) :
    Keeps A L (identify bank present reports d) := by
  unfold identify
  repeat' (first | with_reducible assumption | with_reducible apply dropCarrier_keeps | with_reducible apply failDie_keeps | with_reducible apply logRec_keeps | with_reducible apply setCarrierState_keeps | with_reducible apply setObj_keeps | with_reducible apply updCarrier_keeps | with_reducible apply foldl_keeps | (with_reducible intro) | split | dsimp only | dsimp only [Keeps])

theorem noteAnchors_keeps (bank : Nat) (found : Option (Nat × Nat)) (d : Device) (h : Keeps A L d) :
    Keeps A L (noteAnchors bank found d) := by
  unfold noteAnchors
  repeat' (first | with_reducible assumption | with_reducible apply updAnchor_keeps | (with_reducible intro) | split | dsimp only | dsimp only [Keeps])

theorem classifyCarrier_keeps (bank : Nat) (anchor : Option (Nat × Nat)) (d : Device) (h : Keeps A L d) :
    Keeps A L (classifyCarrier bank anchor d) := by
  unfold classifyCarrier
  repeat' (first | with_reducible assumption | with_reducible apply logRec_keeps | with_reducible apply noteAnchors_keeps | with_reducible apply setCarrierState_keeps | with_reducible apply updCarrier_keeps | (with_reducible intro) | split | dsimp only | dsimp only [Keeps])

theorem linkUp_keeps (cc : Nat) (d : Device) (h : Keeps A L d) :
    Keeps A L (linkUp cc d) := by
  unfold linkUp
  repeat' (first | with_reducible assumption | with_reducible apply updChannel_keeps | (with_reducible intro) | split | dsimp only | dsimp only [Keeps])

theorem trained_keeps (cc : Nat) (reached : Option Nat) (d : Device) (h : Keeps A L d) :
    Keeps A L (trained cc reached d) := by
  unfold trained
  repeat' (first | with_reducible assumption | with_reducible apply failDie_keeps | with_reducible apply linkUp_keeps | with_reducible apply logRec_keeps | with_reducible apply recomputeCeiling_keeps | with_reducible apply setObj_keeps | with_reducible apply foldl_keeps | (with_reducible intro) | split | dsimp only | dsimp only [Keeps])

theorem trainingDone_keeps (cc : Nat) (reached : Option Nat) (anchor : Option (Nat × Nat)) (d : Device) (h : Keeps A L d) :
    Keeps A L (trainingDone cc reached anchor d) := by
  unfold trainingDone
  repeat' (first | with_reducible assumption | with_reducible apply classifyCarrier_keeps | with_reducible apply trained_keeps | with_reducible apply whileCharged_keeps | (with_reducible intro) | split | dsimp only | dsimp only [Keeps])

theorem joinBlocks_keeps (bank : Nat) (d : Device) (h : Keeps A L d) :
    Keeps A L (joinBlocks bank d) := by
  unfold joinBlocks
  repeat' (first | with_reducible assumption | (with_reducible intro) | split | dsimp only | dsimp only [Keeps])

theorem saveJoined_keeps (bank : Nat) (d : Device) (h : Keeps A L d) :
    Keeps A L (saveJoined bank d) := by
  unfold saveJoined
  repeat' (first | with_reducible assumption | with_reducible apply foldl_keeps | with_reducible apply foldl_snd_keeps | with_reducible apply foldl_third_keeps | (with_reducible intro) | split | dsimp only | dsimp only [Keeps])

theorem joinDie_keeps (n : Nat) (offsets : List Int) (d : Device) (h : Keeps A L d) :
    Keeps A L (joinDie n offsets d) := by
  unfold joinDie
  repeat' (first | with_reducible assumption | with_reducible apply updDie_keeps | (with_reducible intro) | split | dsimp only | dsimp only [Keeps])

theorem expectBank_keeps (bank : Nat) (d : Device) (h : Keeps A L d) :
    Keeps A L (expectBank bank d) := by
  unfold expectBank
  repeat' (first | with_reducible assumption | with_reducible apply setCarrierState_keeps | (with_reducible intro) | split | dsimp only | dsimp only [Keeps])

theorem joinBank_keeps (bank : Nat) (refOffsets : List (List Int)) (failed : List Nat) (d : Device) (h : Keeps A L d) :
    Keeps A L (joinBank bank refOffsets failed d) := by
  unfold joinBank
  repeat' (first | with_reducible assumption | with_reducible apply eraseAnchor_keeps | with_reducible apply expectBank_keeps | with_reducible apply joinBlocks_keeps | with_reducible apply joinDie_keeps | with_reducible apply logRec_keeps | with_reducible apply moveRoot_keeps | with_reducible apply saveJoined_keeps | with_reducible apply setObj_keeps | with_reducible apply updCarrier_keeps | with_reducible apply writeSuperblock_keeps | with_reducible apply foldl_keeps | (with_reducible intro) | split | dsimp only | dsimp only [Keeps])

theorem openWindow_keeps (bank : Nat) (d : Device) (h : Keeps A L d) :
    Keeps A L (openWindow bank d) := by
  unfold openWindow
  repeat' (first | with_reducible assumption | with_reducible apply setCarrierState_keeps | with_reducible apply updCarrier_keeps | (with_reducible intro) | split | dsimp only | dsimp only [Keeps])

theorem cancelRemoval_keeps (bank : Nat) (d : Device) (h : Keeps A L d) :
    Keeps A L (cancelRemoval bank d) := by
  unfold cancelRemoval
  repeat' (first | with_reducible assumption | with_reducible apply logRec_keeps | with_reducible apply setCarrierState_keeps | with_reducible apply updCarrier_keeps | (with_reducible intro) | split | dsimp only | dsimp only [Keeps])

theorem refuseRemoval_keeps (bank reason : Nat) (d : Device) (h : Keeps A L d) :
    Keeps A L (refuseRemoval bank reason d) := by
  unfold refuseRemoval
  repeat' (first | with_reducible assumption | with_reducible apply logRec_keeps | with_reducible apply setCarrierState_keeps | with_reducible apply updCarrier_keeps | (with_reducible intro) | split | dsimp only | dsimp only [Keeps])

theorem acceptRemoval_keeps (bank : Nat) (d : Device) (h : Keeps A L d) :
    Keeps A L (acceptRemoval bank d) := by
  unfold acceptRemoval
  repeat' (first | with_reducible assumption | with_reducible apply changeMode_keeps | with_reducible apply joinRestripe_keeps | with_reducible apply setCarrierState_keeps | with_reducible apply stopStripe_keeps | with_reducible apply updCarrier_keeps | with_reducible apply foldl_keeps | with_reducible apply foldl_snd_keeps | with_reducible apply foldl_third_keeps | (with_reducible intro) | split | dsimp only | dsimp only [Keeps])

theorem windowEnds_keeps (bank : Nat) (d : Device) (h : Keeps A L d) :
    Keeps A L (windowEnds bank d) := by
  unfold windowEnds
  repeat' (first | with_reducible assumption | with_reducible apply acceptRemoval_keeps | with_reducible apply refuseRemoval_keeps | with_reducible apply updCarrier_keeps | (with_reducible intro) | split | dsimp only | dsimp only [Keeps])

theorem evacuated_keeps (failed : List Nat) (d : Device) (h : Keeps A L d) :
    Keeps A L (evacuated failed d) := by
  unfold evacuated
  repeat' (first | with_reducible assumption | with_reducible apply clearPen_keeps | with_reducible apply dueTransitions_keeps | with_reducible apply logRec_keeps | with_reducible apply setCarrierState_keeps | with_reducible apply updateCauses_keeps | with_reducible apply writeSuperblock_keeps | (with_reducible intro) | split | dsimp only | dsimp only [Keeps])

theorem buttonIgnored_keeps (bank : Nat) (d : Device) (h : Keeps A L d) :
    Keeps A L (buttonIgnored bank d) := by
  unfold buttonIgnored
  repeat' (first | with_reducible assumption | with_reducible apply logRec_keeps | (with_reducible intro) | split | dsimp only | dsimp only [Keeps])

theorem pressButton_keeps (bank : Nat) (d : Device) (h : Keeps A L d) :
    Keeps A L (pressButton bank d) := by
  unfold pressButton
  repeat' (first | with_reducible assumption | with_reducible apply buttonIgnored_keeps | with_reducible apply cancelRemoval_keeps | with_reducible apply openWindow_keeps | with_reducible apply startBringUp_keeps | (with_reducible intro) | split | dsimp only | dsimp only [Keeps])

theorem carrierCommand_keeps (bank value : Nat) (d : Device) (h : Keeps A L d) :
    KeepsOpt A L (carrierCommand bank value d) := by
  unfold carrierCommand
  repeat' (first | with_reducible assumption | with_reducible apply cancelRemoval_keeps | with_reducible apply openWindow_keeps | with_reducible apply setCarrierState_keeps | with_reducible apply startBringUp_keeps | with_reducible apply keepsOpt_some | exact keepsOpt_none | (with_reducible intro) | split | dsimp only | dsimp only [Keeps])

theorem opFails_keeps (n slot op func : Nat) (d : Device) (h : Keeps A L d) :
    Keeps A L (opFails n slot op func d) := by
  unfold opFails
  repeat' (first | with_reducible assumption | with_reducible apply eraseEnds_keeps | with_reducible apply operationTimeout_keeps | with_reducible apply passEnds_keeps | with_reducible apply placeWaiting_keeps | (with_reducible intro) | split | dsimp only | dsimp only [Keeps])

theorem foundReady_keeps (n : Nat) (d : Device) (h : Keeps A L d) :
    Keeps A L (foundReady n d) := by
  unfold foundReady
  repeat' (first | with_reducible assumption | with_reducible apply updDie_keeps | (with_reducible intro) | split | dsimp only | dsimp only [Keeps])

theorem poll_keeps (n slot op elapsedUs : Nat) (busy : Bool) (d : Device) (h : Keeps A L d) :
    Keeps A L (poll n slot op elapsedUs busy d) := by
  unfold poll
  repeat' (first | with_reducible assumption | with_reducible apply foundReady_keeps | with_reducible apply opFails_keeps | with_reducible apply startOp_keeps | (with_reducible intro) | split | dsimp only | dsimp only [Keeps])

theorem pollChannel_keeps (cc : Nat) (busy : List Nat) (d : Device) (h : Keeps A L d) :
    Keeps A L (pollChannel cc busy d) := by
  unfold pollChannel
  repeat' (first | with_reducible assumption | with_reducible apply foundReady_keeps | with_reducible apply foldl_keeps | (with_reducible intro) | split | dsimp only | dsimp only [Keeps])

theorem suspendFails_keeps (n slot op : Nat) (d : Device) (h : Keeps A L d) :
    Keeps A L (suspendFails n slot op d) := by
  unfold suspendFails
  repeat' (first | with_reducible assumption | with_reducible apply opFails_keeps | with_reducible apply startOp_keeps | (with_reducible intro) | split | dsimp only | dsimp only [Keeps])

theorem suspendFor_keeps (n op : Nat) (d : Device) (h : Keeps A L d) :
    Keeps A L (suspendFor n op d) := by
  unfold suspendFor
  repeat' (first | with_reducible assumption | with_reducible apply updDie_keeps | (with_reducible intro) | split | dsimp only | dsimp only [Keeps])

theorem zqShort_keeps (cc : Nat) (d : Device) (h : Keeps A L d) :
    Keeps A L (zqShort cc d) := by
  unfold zqShort
  repeat' (first | with_reducible assumption | with_reducible apply updChannel_keeps | with_reducible apply whileCharged_keeps | (with_reducible intro) | split | dsimp only | dsimp only [Keeps])

theorem driveCharge_keeps (d : Device) (h : Keeps A L d) :
    Keeps A L (driveCharge d) := by
  unfold driveCharge
  repeat' (first | with_reducible assumption | (with_reducible intro) | split | dsimp only | dsimp only [Keeps])

theorem keepHoldUp_keeps (d : Device) (h : Keeps A L d) :
    Keeps A L (keepHoldUp d) := by
  unfold keepHoldUp
  repeat' (first | with_reducible assumption | (with_reducible intro) | split | dsimp only | dsimp only [Keeps])

theorem energyAtEpoch_keeps (d : Device) (h : Keeps A L d) :
    Keeps A L (energyAtEpoch d) := by
  unfold energyAtEpoch
  repeat' (first | with_reducible assumption | with_reducible apply recomputeCeiling_keeps | with_reducible apply setObj_keeps | (with_reducible intro) | split | dsimp only | dsimp only [Keeps])

theorem storeFails_keeps (cause : Nat) (d : Device) (h : Keeps A L d) :
    Keeps A L (storeFails cause d) := by
  unfold storeFails
  repeat' (first | with_reducible assumption | with_reducible apply recomputeCeiling_keeps | with_reducible apply setObj_keeps | (with_reducible intro) | split | dsimp only | dsimp only [Keeps])

theorem supplyTrips_keeps (d : Device) (h : Keeps A L d) :
    Keeps A L (supplyTrips d) := by
  unfold supplyTrips
  repeat' (first | with_reducible assumption | with_reducible apply abandonTest_keeps | with_reducible apply closeAllRows_keeps | with_reducible apply enterFlush_keeps | with_reducible apply incObj_keeps | with_reducible apply logRec_keeps | with_reducible apply updateCauses_keeps | (with_reducible intro) | split | dsimp only | dsimp only [Keeps])

theorem supplyRecovers_keeps (d : Device) (h : Keeps A L d) :
    Keeps A L (supplyRecovers d) := by
  unfold supplyRecovers
  repeat' (first | with_reducible assumption | with_reducible apply driveCharge_keeps | (with_reducible intro) | split | dsimp only | dsimp only [Keeps])

theorem warningLevelChanged_keeps (d : Device) (h : Keeps A L d) :
    Keeps A L (warningLevelChanged d) := by
  unfold warningLevelChanged
  repeat' (first | with_reducible assumption | with_reducible apply supplyTrips_keeps | (with_reducible intro) | split | dsimp only | dsimp only [Keeps])

theorem startTest_keeps (d : Device) (h : Keeps A L d) :
    Keeps A L (startTest d) := by
  unfold startTest
  repeat' (first | with_reducible assumption | with_reducible apply recomputeCeiling_keeps | with_reducible apply setObj_keeps | (with_reducible intro) | split | dsimp only | dsimp only [Keeps])

theorem takeSample_keeps (mv : Nat) (d : Device) (h : Keeps A L d) :
    Keeps A L (takeSample mv d) := by
  unfold takeSample
  repeat' (first | with_reducible assumption | (with_reducible intro) | split | dsimp only | dsimp only [Keeps])

theorem endTest_keeps (d : Device) (h : Keeps A L d) :
    Keeps A L (endTest d) := by
  unfold endTest
  repeat' (first | with_reducible assumption | with_reducible apply driveCharge_keeps | with_reducible apply incObj_keeps | with_reducible apply logRec_keeps | with_reducible apply recomputeCeiling_keeps | with_reducible apply setObj_keeps | (with_reducible intro) | split | dsimp only | dsimp only [Keeps])

theorem requestTest_keeps (d : Device) (h : Keeps A L d) :
    KeepsOpt A L (requestTest d) := by
  unfold requestTest
  repeat' (first | with_reducible assumption | with_reducible apply keepsOpt_some | exact keepsOpt_none | (with_reducible intro) | split | dsimp only | dsimp only [Keeps])

theorem chargeTimeout_keeps (d : Device) (h : Keeps A L d) :
    Keeps A L (chargeTimeout d) := by
  unfold chargeTimeout
  repeat' (first | with_reducible assumption | with_reducible apply logRec_keeps | with_reducible apply storeFails_keeps | (with_reducible intro) | split | dsimp only | dsimp only [Keeps])

theorem roundStore_keeps (prev : Option Round) (r : Round) (d : Device) (h : Keeps A L d) :
    Keeps A L (roundStore prev r d) := by
  unfold roundStore
  repeat' (first | with_reducible assumption | with_reducible apply logRec_keeps | with_reducible apply setObj_keeps | with_reducible apply storeFails_keeps | (with_reducible intro) | split | dsimp only | dsimp only [Keeps])

theorem roundRail_keeps (prev : Option Round) (r : Round) (d : Device) (i : Nat) (h : Keeps A L d) :
    Keeps A L (roundRail prev r d i) := by
  unfold roundRail
  repeat' (first | with_reducible assumption | with_reducible apply logRec_keeps | with_reducible apply setObj_keeps | (with_reducible intro) | split | dsimp only | dsimp only [Keeps])

theorem roundDie_keeps (prev : Option Round) (r : Round) (d : Device) (h : Keeps A L d) :
    Keeps A L (roundDie prev r d) := by
  unfold roundDie
  repeat' (first | with_reducible assumption | with_reducible apply logRec_keeps | with_reducible apply setObj_keeps | with_reducible apply toHalt_keeps | with_reducible apply foldl_keeps | (with_reducible intro) | split | dsimp only | dsimp only [Keeps])

theorem updThermal_keeps (bank : Nat) (f : CarrierThermal → CarrierThermal) (d : Device) (h : Keeps A L d) :
    Keeps A L (updThermal bank f d) := by
  unfold updThermal
  repeat' (first | with_reducible assumption | (with_reducible intro) | split | dsimp only | dsimp only [Keeps])

theorem setInhibit_keeps (bank k : Nat) (on : Bool) (d : Device) (h : Keeps A L d) :
    Keeps A L (setInhibit bank k on d) := by
  unfold setInhibit
  repeat' (first | with_reducible assumption | with_reducible apply logRec_keeps | with_reducible apply setThermalBit_keeps | with_reducible apply updThermal_keeps | with_reducible apply withdrawOps_keeps | (with_reducible intro) | split | dsimp only | dsimp only [Keeps])

theorem carrierShutdown_keeps (bank : Nat) (d : Device) (h : Keeps A L d) :
    Keeps A L (carrierShutdown bank d) := by
  unfold carrierShutdown
  repeat' (first | with_reducible assumption | with_reducible apply dropCarrier_keeps | with_reducible apply logRec_keeps | with_reducible apply setCarrierState_keeps | with_reducible apply setThermalBit_keeps | with_reducible apply updThermal_keeps | (with_reducible intro) | split | dsimp only | dsimp only [Keeps])

theorem sensorFaultOf_keeps (bank count : Nat) (d : Device) (h : Keeps A L d) :
    Keeps A L (sensorFaultOf bank count d) := by
  unfold sensorFaultOf
  repeat' (first | with_reducible assumption | with_reducible apply logRec_keeps | with_reducible apply setInhibit_keeps | with_reducible apply setThermalBit_keeps | with_reducible apply updThermal_keeps | (with_reducible intro) | split | dsimp only | dsimp only [Keeps])

theorem carrierLimits_keeps (bank : Nat) (t0 t : Rat) (d : Device) (h : Keeps A L d) :
    Keeps A L (carrierLimits bank t0 t d) := by
  unfold carrierLimits
  repeat' (first | with_reducible assumption | with_reducible apply carrierShutdown_keeps | with_reducible apply logRec_keeps | with_reducible apply setInhibit_keeps | with_reducible apply setThermalBit_keeps | with_reducible apply updThermal_keeps | (with_reducible intro) | split | dsimp only | dsimp only [Keeps])

theorem roundCarrier_keeps (prev : Option Round) (r : Round) (d : Device) (bank : Nat) (h : Keeps A L d) :
    Keeps A L (roundCarrier prev r d bank) := by
  unfold roundCarrier
  repeat' (first | with_reducible assumption | with_reducible apply carrierLimits_keeps | with_reducible apply sensorFaultOf_keeps | with_reducible apply setObj_keeps | with_reducible apply setThermalBit_keeps | with_reducible apply updThermal_keeps | (with_reducible intro) | split | dsimp only | dsimp only [Keeps])

theorem housekeeping_keeps (r : Round) (d : Device) (h : Keeps A L d) :
    Keeps A L (housekeeping r d) := by
  unfold housekeeping
  repeat' (first | with_reducible assumption | with_reducible apply roundCarrier_keeps | with_reducible apply roundDie_keeps | with_reducible apply roundRail_keeps | with_reducible apply roundStore_keeps | with_reducible apply setObj_keeps | with_reducible apply updateThrottling_keeps | with_reducible apply foldl_keeps | (with_reducible intro) | split | dsimp only | dsimp only [Keeps])

theorem levelRise_keeps (d : Device) (h : Keeps A L d) :
    Keeps A L (levelRise d) := by
  unfold levelRise
  repeat' (first | with_reducible assumption | with_reducible apply logRec_keeps | with_reducible apply setObj_keeps | with_reducible apply withhold_keeps | (with_reducible intro) | split | dsimp only | dsimp only [Keeps])

theorem measurePace_keeps (count : Nat) (work : Bool) (d : Device) (h : Keeps A L d) :
    Keeps A L (measurePace count work d) := by
  unfold measurePace
  repeat' (first | with_reducible assumption | with_reducible apply markLoaded_keeps | with_reducible apply setObj_keeps | (with_reducible intro) | split | dsimp only | dsimp only [Keeps])

theorem stepVid_keeps (d : Device) (h : Keeps A L d) :
    Keeps A L (stepVid d) := by
  unfold stepVid
  repeat' (first | with_reducible assumption | with_reducible apply setObj_keeps | (with_reducible intro) | split | dsimp only | dsimp only [Keeps])

theorem updCpx_keeps (f : Complexes → Complexes) (d : Device) (h : Keeps A L d) :
    Keeps A L (updCpx f d) := by
  unfold updCpx
  repeat' (first | with_reducible assumption | (with_reducible intro) | split | dsimp only | dsimp only [Keeps])

theorem takeoverFails_keeps (condition cause : Nat) (d : Device) (h : Keeps A L d) :
    Keeps A L (takeoverFails condition cause d) := by
  unfold takeoverFails
  repeat' (first | with_reducible assumption | with_reducible apply holdComplexes_keeps | with_reducible apply logRec_keeps | with_reducible apply toLockdown_keeps | (with_reducible intro) | split | dsimp only | dsimp only [Keeps])

theorem restartRecovery_keeps (d : Device) (h : Keeps A L d) :
    Keeps A L (restartRecovery d) := by
  unfold restartRecovery
  repeat' (first | with_reducible assumption | (with_reducible intro) | split | dsimp only | dsimp only [Keeps])

theorem callStandby_keeps (d : Device) (h : Keeps A L d) :
    Keeps A L (callStandby d) := by
  unfold callStandby
  repeat' (first | with_reducible assumption | with_reducible apply incObj_keeps | with_reducible apply setDomains_keeps | with_reducible apply setObj_keeps | (with_reducible intro) | split | dsimp only | dsimp only [Keeps])

theorem startTakeover_keeps (cause : Nat) (d : Device) (h : Keeps A L d) :
    Keeps A L (startTakeover cause d) := by
  unfold startTakeover
  repeat' (first | with_reducible assumption | with_reducible apply callStandby_keeps | with_reducible apply setObj_keeps | with_reducible apply takeoverFails_keeps | with_reducible apply updCpx_keeps | (with_reducible intro) | split | dsimp only | dsimp only [Keeps])

theorem raiseCause_keeps (cause : Nat) (d : Device) (h : Keeps A L d) :
    Keeps A L (raiseCause cause d) := by
  unfold raiseCause
  repeat' (first | with_reducible assumption | with_reducible apply holdComplexes_keeps | with_reducible apply logRec_keeps | with_reducible apply restartRecovery_keeps | with_reducible apply setObj_keeps | with_reducible apply startTakeover_keeps | with_reducible apply takeoverFails_keeps | with_reducible apply toLockdown_keeps | (with_reducible intro) | split | dsimp only | dsimp only [Keeps])

theorem openGate_keeps (crcEqual : Bool) (micros : Nat) (d : Device) (h : Keeps A L d) :
    Keeps A L (openGate crcEqual micros d) := by
  unfold openGate
  repeat' (first | with_reducible assumption | with_reducible apply incObj_keeps | with_reducible apply setDomains_keeps | with_reducible apply setObj_keeps | with_reducible apply takeoverFails_keeps | with_reducible apply updCpx_keeps | (with_reducible intro) | split | dsimp only | dsimp only [Keeps])

theorem countReturn_keeps (d : Device) (h : Keeps A L d) :
    Keeps A L (countReturn d) := by
  unfold countReturn
  repeat' (first | with_reducible assumption | with_reducible apply incObj_keeps | with_reducible apply setObj_keeps | with_reducible apply updCpx_keeps | (with_reducible intro) | split | dsimp only | dsimp only [Keeps])

theorem retirePrimary_keeps (reason : Nat) (d : Device) (h : Keeps A L d) :
    Keeps A L (retirePrimary reason d) := by
  unfold retirePrimary
  repeat' (first | with_reducible assumption | with_reducible apply logRec_keeps | with_reducible apply setDomains_keeps | with_reducible apply setObj_keeps | with_reducible apply updCpx_keeps | (with_reducible intro) | split | dsimp only | dsimp only [Keeps])

theorem finishTakeover_keeps (t : Takeover) (d : Device) (h : Keeps A L d) :
    Keeps A L (finishTakeover t d) := by
  unfold finishTakeover
  repeat' (first | with_reducible assumption | with_reducible apply countReturn_keeps | with_reducible apply logRec_keeps | with_reducible apply retirePrimary_keeps | with_reducible apply setDomains_keeps | with_reducible apply updCpx_keeps | (with_reducible intro) | split | dsimp only | dsimp only [Keeps])

theorem injectionTest_keeps (report : Nat) (d : Device) (h : Keeps A L d) :
    Keeps A L (injectionTest report d) := by
  unfold injectionTest
  repeat' (first | with_reducible assumption | with_reducible apply finishTakeover_keeps | with_reducible apply incObj_keeps | with_reducible apply raiseCause_keeps | with_reducible apply takeoverFails_keeps | with_reducible apply updCpx_keeps | (with_reducible intro) | split | dsimp only | dsimp only [Keeps])

theorem primaryTested_keeps (pass : Bool) (ms : Nat) (d : Device) (h : Keeps A L d) :
    Keeps A L (primaryTested pass ms d) := by
  unfold primaryTested
  repeat' (first | with_reducible assumption | with_reducible apply retirePrimary_keeps | with_reducible apply setObj_keeps | with_reducible apply updCpx_keeps | (with_reducible intro) | split | dsimp only | dsimp only [Keeps])

theorem returnAtEpoch_keeps (crcEqual : Bool) (d : Device) (h : Keeps A L d) :
    Keeps A L (returnAtEpoch crcEqual d) := by
  unfold returnAtEpoch
  repeat' (first | with_reducible assumption | with_reducible apply countReturn_keeps | with_reducible apply logRec_keeps | with_reducible apply retirePrimary_keeps | with_reducible apply setObj_keeps | with_reducible apply updCpx_keeps | (with_reducible intro) | split | dsimp only | dsimp only [Keeps])

theorem standbyTested_keeps (pass : Bool) (ms : Nat) (d : Device) (h : Keeps A L d) :
    Keeps A L (standbyTested pass ms d) := by
  unfold standbyTested
  repeat' (first | with_reducible assumption | with_reducible apply logRec_keeps | with_reducible apply setDomains_keeps | with_reducible apply setObj_keeps | with_reducible apply updCpx_keeps | (with_reducible intro) | split | dsimp only | dsimp only [Keeps])

theorem standbySleeps_keeps (d : Device) (h : Keeps A L d) :
    Keeps A L (standbySleeps d) := by
  unfold standbySleeps
  repeat' (first | with_reducible assumption | with_reducible apply incObj_keeps | with_reducible apply setObj_keeps | (with_reducible intro) | split | dsimp only | dsimp only [Keeps])

theorem standbyWakes_keeps (memOk : Bool) (d : Device) (h : Keeps A L d) :
    Keeps A L (standbyWakes memOk d) := by
  unfold standbyWakes
  repeat' (first | with_reducible assumption | with_reducible apply logRec_keeps | with_reducible apply setObj_keeps | with_reducible apply updCpx_keeps | (with_reducible intro) | split | dsimp only | dsimp only [Keeps])

theorem requestEntry_keeps (dd : Nat) (retention : Bool) (refuser : Nat) (d : Device) (h : Keeps A L d) :
    Keeps A L (requestEntry dd retention refuser d) := by
  unfold requestEntry
  repeat' (first | with_reducible assumption | with_reducible apply incObj_keeps | with_reducible apply setObj_keeps | (with_reducible intro) | split | dsimp only | dsimp only [Keeps])

theorem abortEntry_keeps (dd : Nat) (d : Device) (h : Keeps A L d) :
    Keeps A L (abortEntry dd d) := by
  unfold abortEntry
  repeat' (first | with_reducible assumption | with_reducible apply setDomains_keeps | (with_reducible intro) | split | dsimp only | dsimp only [Keeps])

theorem commitEntry_keeps (dd : Nat) (d : Device) (h : Keeps A L d) :
    Keeps A L (commitEntry dd d) := by
  unfold commitEntry
  repeat' (first | with_reducible assumption | with_reducible apply abortEntry_keeps | with_reducible apply returnCredits_keeps | with_reducible apply setObj_keeps | (with_reducible intro) | split | dsimp only | dsimp only [Keeps])

theorem wakeDomain_keeps (dd : Nat) (error : Bool) (d : Device) (h : Keeps A L d) :
    Keeps A L (wakeDomain dd error d) := by
  unfold wakeDomain
  repeat' (first | with_reducible assumption | with_reducible apply abortEntry_keeps | with_reducible apply incObj_keeps | with_reducible apply logRec_keeps | with_reducible apply setObj_keeps | (with_reducible intro) | split | dsimp only | dsimp only [Keeps])

theorem updSlot_keeps (s : Nat) (f : FwSlot → FwSlot) (d : Device) (h : Keeps A L d) :
    Keeps A L (updSlot s f d) := by
  unfold updSlot
  repeat' (first | with_reducible assumption | with_reducible apply updCs_keeps | with_reducible rfl | exact congrArg CodeStore.counters (id_eq _) | (simp only [eraseBlock_counters, logAppend_counters, foldl_eraseBlock_counters]; done) | (with_reducible intro) | split | dsimp only | dsimp only [Keeps])

theorem eraseImage_keeps (s code length : Nat) (d : Device) (h : Keeps A L d) :
    Keeps A L (eraseImage s code length d) := by
  unfold eraseImage
  repeat' (first | with_reducible assumption | with_reducible apply updCs_keeps | with_reducible rfl | exact congrArg CodeStore.counters (id_eq _) | (simp only [eraseBlock_counters, logAppend_counters, foldl_eraseBlock_counters]; done) | with_reducible apply foldl_keeps | (with_reducible intro) | split | dsimp only | dsimp only [Keeps])

theorem bootWrite_keeps (f : CodeStore → CodeStore) (d : Device) (hf : (f d.cs).counters = d.cs.counters) (h : Keeps A L d) :
    Keeps A L (bootWrite f d) := by
  refine updCs_keeps _ _ ?_ h
  simp [hf]

theorem noteFailure_keeps (d : Device) (f : StoreFailure) (h : Keeps A L d) :
    Keeps A L (noteFailure d f) := by
  unfold noteFailure
  repeat' (first | with_reducible assumption | with_reducible apply incObj_keeps | with_reducible apply logRec_keeps | with_reducible apply updCs_keeps | with_reducible rfl | exact congrArg CodeStore.counters (id_eq _) | (simp only [eraseBlock_counters, logAppend_counters, foldl_eraseBlock_counters]; done) | (with_reducible intro) | split | dsimp only | dsimp only [Keeps])

theorem activateProfile_keeps (x : Component) (d : Device) (h : Keeps A L d) :
    Keeps A L (activateProfile x d) := by
  unfold activateProfile
  repeat' (first | with_reducible assumption | with_reducible apply logRec_keeps | with_reducible apply recomputeCeiling_keeps | with_reducible apply foldl_keeps | with_reducible apply foldl_snd_keeps | with_reducible apply foldl_third_keeps | (with_reducible intro) | split | dsimp only | dsimp only [Keeps])

theorem bootFrom_keeps (s : Nat) (d : Device) (h : Keeps A L d) :
    Keeps A L (bootFrom s d) := by
  unfold bootFrom
  repeat' (first | with_reducible assumption | with_reducible apply activateProfile_keeps | with_reducible apply updCs_keeps | with_reducible rfl | exact congrArg CodeStore.counters (id_eq _) | (simp only [eraseBlock_counters, logAppend_counters, foldl_eraseBlock_counters]; done) | (with_reducible intro) | split | dsimp only | dsimp only [Keeps])

theorem trySlots_keeps (fails ss : List Nat) (d : Device) (h : Keeps A L d) :
    Keeps A L (trySlots fails ss d) := by
  induction ss generalizing d with
  | nil => exact h
  | cons x xs ih =>
    unfold trySlots
    repeat' (first | with_reducible assumption | with_reducible apply bootFrom_keeps | with_reducible apply bootWrite_keeps | with_reducible apply logRec_keeps | with_reducible apply ih | with_reducible rfl | exact congrArg CodeStore.counters (id_eq _) | (simp only [eraseBlock_counters, logAppend_counters, foldl_eraseBlock_counters]; done) | (with_reducible intro) | split | dsimp only | dsimp only [Keeps])

theorem bootSelect_keeps (fails : List Nat) (d : Device) (h : Keeps A L d) :
    Keeps A L (bootSelect fails d).1 := by
  unfold bootSelect
  repeat' (first | with_reducible assumption | with_reducible apply bootFrom_keeps | with_reducible apply bootWrite_keeps | with_reducible apply trySlots_keeps | with_reducible apply updCs_keeps | with_reducible apply updSlot_keeps | with_reducible rfl | exact congrArg CodeStore.counters (id_eq _) | (simp only [eraseBlock_counters, logAppend_counters, foldl_eraseBlock_counters]; done) | (with_reducible intro) | split | dsimp only | dsimp only [Keeps])

theorem rebuildBootControl_keeps (d : Device) (h : Keeps A L d) :
    Keeps A L (rebuildBootControl d) := by
  unfold rebuildBootControl
  repeat' (first | with_reducible assumption | with_reducible apply bootWrite_keeps | with_reducible apply logRec_keeps | with_reducible rfl | exact congrArg CodeStore.counters (id_eq _) | (simp only [eraseBlock_counters, logAppend_counters, foldl_eraseBlock_counters]; done) | (with_reducible intro) | split | dsimp only | dsimp only [Keeps])

theorem redoErases_keeps (d : Device) (h : Keeps A L d) :
    Keeps A L (redoErases d) := by
  unfold redoErases
  repeat' (first | with_reducible assumption | with_reducible apply incObj_keeps | with_reducible apply logRec_keeps | with_reducible apply updCs_keeps | with_reducible rfl | exact congrArg CodeStore.counters (id_eq _) | (simp only [eraseBlock_counters, logAppend_counters, foldl_eraseBlock_counters]; done) | with_reducible apply foldl_keeps | (with_reducible intro) | split | dsimp only | dsimp only [Keeps])

theorem loadOptionArea_keeps (pairFault : Bool) (d : Device) (h : Keeps A L d) :
    Keeps A L (loadOptionArea pairFault d).1 := by
  unfold loadOptionArea
  repeat' (first | with_reducible assumption | with_reducible apply logRec_keeps | with_reducible apply updCs_keeps | with_reducible rfl | exact congrArg CodeStore.counters (id_eq _) | (simp only [eraseBlock_counters, logAppend_counters, foldl_eraseBlock_counters]; done) | (with_reducible intro) | split | dsimp only | dsimp only [Keeps])

theorem rewriteOptionArea_keeps (d : Device) (h : Keeps A L d) :
    Keeps A L (rewriteOptionArea d) := by
  unfold rewriteOptionArea
  repeat' (first | with_reducible assumption | with_reducible apply updCs_keeps | with_reducible rfl | exact congrArg CodeStore.counters (id_eq _) | (simp only [eraseBlock_counters, logAppend_counters, foldl_eraseBlock_counters]; done) | (with_reducible intro) | split | dsimp only | dsimp only [Keeps])

theorem setCopy_keeps (b : Bool) (c : SettingsCopy) (d : Device) (h : Keeps A L d) :
    Keeps A L (setCopy b c d) := by
  unfold setCopy
  repeat' (first | with_reducible assumption | (with_reducible intro) | split | dsimp only | dsimp only [Keeps])

theorem rewriteCopy_keeps (b : Bool) (version generation : Nat) (records : List GroupRecord) (d : Device) (h : Keeps A L d) :
    Keeps A L (rewriteCopy b version generation records d) := by
  unfold rewriteCopy
  repeat' (first | with_reducible assumption | with_reducible apply setCopy_keeps | with_reducible apply updCs_keeps | with_reducible rfl | exact congrArg CodeStore.counters (id_eq _) | (simp only [eraseBlock_counters, logAppend_counters, foldl_eraseBlock_counters]; done) | (with_reducible intro) | split | dsimp only | dsimp only [Keeps])

theorem useEmptyCopy_keeps (w : Nat) (first : Bool) (d : Device) (h : Keeps A L d) :
    Keeps A L (useEmptyCopy w first d) := by
  unfold useEmptyCopy
  repeat' (first | with_reducible assumption | with_reducible apply bootWrite_keeps | with_reducible apply logRec_keeps | with_reducible apply rewriteCopy_keeps | with_reducible rfl | exact congrArg CodeStore.counters (id_eq _) | (simp only [eraseBlock_counters, logAppend_counters, foldl_eraseBlock_counters]; done) | (with_reducible intro) | split | dsimp only | dsimp only [Keeps])

theorem selectSettings_keeps (first : Bool) (d : Device) (h : Keeps A L d) :
    Keeps A L (selectSettings first d).1 := by
  unfold selectSettings
  repeat' (first | with_reducible assumption | with_reducible apply bootWrite_keeps | with_reducible apply logRec_keeps | with_reducible apply rewriteCopy_keeps | with_reducible apply updSlot_keeps | with_reducible apply useEmptyCopy_keeps | with_reducible rfl | exact congrArg CodeStore.counters (id_eq _) | (simp only [eraseBlock_counters, logAppend_counters, foldl_eraseBlock_counters]; done) | (with_reducible intro) | split | dsimp only | dsimp only [Keeps])

theorem loadSettings_keeps (d : Device) (h : Keeps A L d) :
    Keeps A L (loadSettings d) := by
  unfold loadSettings
  repeat' (first | with_reducible assumption | with_reducible apply setObj_keeps | with_reducible apply foldl_keeps | (with_reducible intro) | split | dsimp only | dsimp only [Keeps])

theorem compactCopy_keeps (b : Bool) (d : Device) (h : Keeps A L d) :
    Keeps A L (compactCopy b d) := by
  unfold compactCopy
  repeat' (first | with_reducible assumption | with_reducible apply incObj_keeps | with_reducible apply logRec_keeps | with_reducible apply setCopy_keeps | with_reducible apply updCs_keeps | with_reducible rfl | exact congrArg CodeStore.counters (id_eq _) | (simp only [eraseBlock_counters, logAppend_counters, foldl_eraseBlock_counters]; done) | (with_reducible intro) | split | dsimp only | dsimp only [Keeps])

theorem appendToCopy_keeps (b : Bool) (r : GroupRecord) (outcome : Nat) (d : Device) (h : Keeps A L d) :
    Keeps A L (appendToCopy b r outcome d).1 := by
  unfold appendToCopy
  repeat' (first | with_reducible assumption | with_reducible apply compactCopy_keeps | with_reducible apply setCopy_keeps | (with_reducible intro) | split | dsimp only | dsimp only [Keeps])

theorem settingMismatch_keeps (key : Nat) (both : Bool) (d : Device) (h : Keeps A L d) :
    Keeps A L (settingMismatch key both d) := by
  unfold settingMismatch
  repeat' (first | with_reducible assumption | (with_reducible refine keeps_fst_of (r := appendToCopy _ _ _ _) ‹_› ?_) | with_reducible apply appendToCopy_keeps | with_reducible apply logRec_keeps | with_reducible apply setObj_keeps | (with_reducible intro) | split | dsimp only | dsimp only [Keeps])

theorem readSetting_keeps (key : Nat) (d : Device) (h : Keeps A L d) :
    Keeps A L (readSetting key d) := by
  unfold readSetting
  repeat' (first | with_reducible assumption | (with_reducible refine keeps_snd_of (r := takeDamage _ _ _) ‹_› ?_) | with_reducible apply settingMismatch_keeps | with_reducible apply takeDamage_keeps | (with_reducible intro) | split | dsimp only | dsimp only [Keeps])

theorem counterMismatch_keeps (location : Nat) (both : Bool) (d : Device) (h : Keeps A L d) :
    Keeps A L (counterMismatch location both d) := by
  unfold counterMismatch
  repeat' (first | with_reducible assumption | with_reducible apply logRec_keeps | with_reducible apply updCs_keeps | with_reducible rfl | exact congrArg CodeStore.counters (id_eq _) | (simp only [eraseBlock_counters, logAppend_counters, foldl_eraseBlock_counters]; done) | with_reducible apply foldl_keeps | (with_reducible intro) | split | dsimp only | dsimp only [Keeps])

theorem takeMismatch_keeps (d : Device) (x : Mismatch) (hx : A → x.row ≠ 3) (h : Keeps A L d) : Keeps A L (takeMismatch d x) := by
  unfold takeMismatch
  dsimp only
  split
  · exact settingMismatch_keeps _ _ _ h
  · next hr => exact totalMismatch_keeps _ _ _ (fun ha => hx ha hr) h
  · exact counterMismatch_keeps _ _ _ h
  · exact entryMismatch_keeps _ _ _ _ h
  · exact directoryMismatch_keeps _ _ _ h
  · exact recordMismatch_keeps _ _ _ h
  · exact h

theorem takeMismatches_keeps (xs : List Mismatch) (d : Device) (hx : A → ∀ x ∈ xs, x.row ≠ 3) (h : Keeps A L d) :
    Keeps A L (xs.foldl takeMismatch d) := by
  induction xs generalizing d with
  | nil => exact h
  | cons x xs ih =>
    exact ih _ (fun ha y hy => hx ha y (List.mem_cons_of_mem _ hy)) (takeMismatch_keeps _ _ (fun ha => hx ha x List.mem_cons_self) h)

theorem advanceMinimum_keeps (d : Device) (code : Nat) (h : Keeps A L d) :
    Keeps A L (advanceMinimum d code) := by
  unfold advanceMinimum
  repeat' (first | with_reducible assumption | with_reducible apply logRec_keeps | with_reducible apply updCs_keeps | with_reducible rfl | exact congrArg CodeStore.counters (id_eq _) | (simp only [eraseBlock_counters, logAppend_counters, foldl_eraseBlock_counters]; done) | (with_reducible intro) | split | dsimp only | dsimp only [Keeps])

theorem revokeKeys_keeps (d : Device) (code : Nat) (h : Keeps A L d) :
    Keeps A L (revokeKeys d code) := by
  unfold revokeKeys
  repeat' (first | with_reducible assumption | with_reducible apply logRec_keeps | with_reducible apply updCs_keeps | with_reducible rfl | exact congrArg CodeStore.counters (id_eq _) | (simp only [eraseBlock_counters, logAppend_counters, foldl_eraseBlock_counters]; done) | with_reducible apply foldl_keeps | (with_reducible intro) | split | dsimp only | dsimp only [Keeps])

theorem firstService_keeps (d : Device) (h : Keeps A L d) :
    Keeps A L (firstService d) := by
  unfold firstService
  repeat' (first | with_reducible assumption | with_reducible apply advanceMinimum_keeps | with_reducible apply bootWrite_keeps | with_reducible apply logRec_keeps | with_reducible apply revokeKeys_keeps | with_reducible apply updSlot_keeps | with_reducible rfl | exact congrArg CodeStore.counters (id_eq _) | (simp only [eraseBlock_counters, logAppend_counters, foldl_eraseBlock_counters]; done) | with_reducible apply foldl_keeps | (with_reducible intro) | split | dsimp only | dsimp only [Keeps])

theorem eraseForPiece_keeps (target code : Nat) (p : Piece) (earlier : List Piece) (d : Device) (h : Keeps A L d) :
    Keeps A L (eraseForPiece target code p earlier d) := by
  unfold eraseForPiece
  repeat' (first | with_reducible assumption | with_reducible apply updCs_keeps | with_reducible rfl | exact congrArg CodeStore.counters (id_eq _) | (simp only [eraseBlock_counters, logAppend_counters, foldl_eraseBlock_counters]; done) | with_reducible apply foldl_keeps | with_reducible apply foldl_snd_keeps | with_reducible apply foldl_third_keeps | (with_reducible intro) | split | dsimp only | dsimp only [Keeps])

theorem recoveryPiece_keeps (path : Nat) (p : Piece) (header : Option (Nat × Component)) (failures : List StoreFailure) (d : Device) (h : Keeps A L d) :
    KeepsOpt A L (recoveryPiece path p header failures d) := by
  unfold recoveryPiece
  repeat' (first | with_reducible assumption | with_reducible apply addObj_keeps | with_reducible apply eraseForPiece_keeps | with_reducible apply noteFailure_keeps | with_reducible apply setObj_keeps | with_reducible apply updCs_keeps | with_reducible apply updSlot_keeps | with_reducible rfl | exact congrArg CodeStore.counters (id_eq _) | (simp only [eraseBlock_counters, logAppend_counters, foldl_eraseBlock_counters]; done) | with_reducible apply foldl_keeps | with_reducible apply foldl_snd_keeps | with_reducible apply foldl_third_keeps | with_reducible apply keepsOpt_some | exact keepsOpt_none | (with_reducible intro) | split | dsimp only | dsimp only [Keeps])

theorem downloadBody_keeps (cmd : HostCmd) (offset bytes : Nat) (header : Option (Nat × Component)) (failures : List StoreFailure) (d : Device) (h : Keeps A L d) :
    Keeps A L (downloadBody cmd offset bytes header failures d) := by
  unfold downloadBody
  repeat' (first | with_reducible assumption | (with_reducible refine keeps_some_of (r := recoveryPiece _ _ _ _ _) ‹_› ?_) | with_reducible apply failCmd_keeps | with_reducible apply invalidField_keeps | with_reducible apply recoveryPiece_keeps | with_reducible apply succeed_keeps | with_reducible apply updPort_keeps | (with_reducible intro) | split | dsimp only | dsimp only [Keeps])

theorem endCommit_keeps (j : CommitJob) (status : Option (Nat × Nat)) (d : Device) (h : Keeps A L d) :
    Keeps A L (endCommit j status d) := by
  unfold endCommit
  repeat' (first | with_reducible assumption | with_reducible apply failCmd_keeps | with_reducible apply succeed_keeps | with_reducible apply updPort_keeps | (with_reducible intro) | split | dsimp only | dsimp only [Keeps])

theorem updOa_keeps (b : Bool) (f : OaCopy → OaCopy) (d : Device) (h : Keeps A L d) :
    Keeps A L (updOa b f d) := by
  unfold updOa
  repeat' (first | with_reducible assumption | with_reducible apply updCs_keeps | with_reducible rfl | exact congrArg CodeStore.counters (id_eq _) | (simp only [eraseBlock_counters, logAppend_counters, foldl_eraseBlock_counters]; done) | (with_reducible intro) | split | dsimp only | dsimp only [Keeps])

theorem cloneRunning_keeps (s code : Nat) (d : Device) (h : Keeps A L d) :
    Keeps A L (cloneRunning s code d) := by
  unfold cloneRunning
  repeat' (first | with_reducible assumption | with_reducible apply eraseImage_keeps | with_reducible apply updSlot_keeps | with_reducible apply foldl_keeps | (with_reducible intro) | split | dsimp only | dsimp only [Keeps])

theorem startCommit_keeps (j : CommitJob) (d : Device) (h : Keeps A L d) :
    Keeps A L (startCommit j d).1 := by
  unfold startCommit
  repeat' (first | with_reducible assumption | with_reducible apply bootWrite_keeps | with_reducible apply cloneRunning_keeps | with_reducible apply eraseImage_keeps | with_reducible apply updCs_keeps | with_reducible apply updOa_keeps | with_reducible apply updSlot_keeps | with_reducible rfl | exact congrArg CodeStore.counters (id_eq _) | (simp only [eraseBlock_counters, logAppend_counters, foldl_eraseBlock_counters]; done) | (with_reducible intro) | split | dsimp only | dsimp only [Keeps])

theorem serveCommits_keeps (fuel : Nat) (d : Device) (h : Keeps A L d) :
    Keeps A L (serveCommits fuel d) := by
  induction fuel generalizing d with
  | zero => exact h
  | succ k ih =>
    unfold serveCommits
    repeat' (first | with_reducible assumption | (with_reducible refine keeps_fst_of (r := startCommit _ _) ‹_› ?_) | with_reducible apply endCommit_keeps | with_reducible apply startCommit_keeps | with_reducible apply updCs_keeps | with_reducible apply ih | with_reducible rfl | exact congrArg CodeStore.counters (id_eq _) | (simp only [eraseBlock_counters, logAppend_counters, foldl_eraseBlock_counters]; done) | (with_reducible intro) | split | dsimp only | dsimp only [Keeps])

theorem serveAllCommits_keeps (d : Device) (h : Keeps A L d) :
    Keeps A L (serveAllCommits d) := by
  unfold serveAllCommits
  repeat' (first | with_reducible assumption | with_reducible apply serveCommits_keeps | (with_reducible intro) | split | dsimp only | dsimp only [Keeps])

theorem recoveryComplete_keeps (path : Nat) (d : Device) (h : Keeps A L d) :
    Keeps A L (recoveryComplete path d).1 := by
  unfold recoveryComplete
  repeat' (first | with_reducible assumption | with_reducible apply bootWrite_keeps | with_reducible apply logRec_keeps | with_reducible apply updCs_keeps | with_reducible apply updOa_keeps | with_reducible apply updSlot_keeps | with_reducible rfl | exact congrArg CodeStore.counters (id_eq _) | (simp only [eraseBlock_counters, logAppend_counters, foldl_eraseBlock_counters]; done) | (with_reducible intro) | split | dsimp only | dsimp only [Keeps])

theorem recoveryBoot_keeps (s : Nat) (d : Device) (h : Keeps A L d) :
    Keeps A L (recoveryBoot s d) := by
  unfold recoveryBoot
  repeat' (first | with_reducible assumption | with_reducible apply bootWrite_keeps | with_reducible apply enterHeld_keeps | with_reducible rfl | exact congrArg CodeStore.counters (id_eq _) | (simp only [eraseBlock_counters, logAppend_counters, foldl_eraseBlock_counters]; done) | (with_reducible intro) | split | dsimp only | dsimp only [Keeps])

theorem recoveryCommitPort_keeps (cmd : HostCmd) (action slot : Nat) (d : Device) (h : Keeps A L d) :
    Keeps A L (recoveryCommitPort cmd action slot d) := by
  unfold recoveryCommitPort
  repeat' (first | with_reducible assumption | (with_reducible refine keeps_fst_of (r := recoveryComplete _ _) ‹_› ?_) | with_reducible apply failCmd_keeps | with_reducible apply recoveryBoot_keeps | with_reducible apply recoveryComplete_keeps | with_reducible apply succeed_keeps | (with_reducible intro) | split | dsimp only | dsimp only [Keeps])

theorem commitBody_keeps (cmd : HostCmd) (action slot : Nat) (d : Device) (h : Keeps A L d) :
    Keeps A L (commitBody cmd action slot d) := by
  unfold commitBody
  repeat' (first | with_reducible assumption | with_reducible apply invalidField_keeps | with_reducible apply recoveryCommitPort_keeps | with_reducible apply serveAllCommits_keeps | with_reducible apply updCs_keeps | with_reducible rfl | exact congrArg CodeStore.counters (id_eq _) | (simp only [eraseBlock_counters, logAppend_counters, foldl_eraseBlock_counters]; done) | (with_reducible intro) | split | dsimp only | dsimp only [Keeps])

theorem commitDone_keeps (failures : List StoreFailure) (d : Device) (h : Keeps A L d) :
    Keeps A L (commitDone failures d) := by
  unfold commitDone
  repeat' (first | with_reducible assumption | with_reducible apply bootWrite_keeps | with_reducible apply endCommit_keeps | with_reducible apply logRec_keeps | with_reducible apply noteFailure_keeps | with_reducible apply serveAllCommits_keeps | with_reducible apply updCs_keeps | with_reducible apply updOa_keeps | with_reducible apply updSlot_keeps | with_reducible rfl | exact congrArg CodeStore.counters (id_eq _) | (simp only [eraseBlock_counters, logAppend_counters, foldl_eraseBlock_counters]; done) | with_reducible apply foldl_keeps | (with_reducible intro) | split | dsimp only | dsimp only [Keeps])

theorem csWpChanges_keeps (low : Bool) (d : Device) (h : Keeps A L d) :
    Keeps A L (csWpChanges low d) := by
  unfold csWpChanges
  repeat' (first | with_reducible assumption | with_reducible apply endCommit_keeps | with_reducible apply serveAllCommits_keeps | with_reducible apply updCs_keeps | with_reducible rfl | exact congrArg CodeStore.counters (id_eq _) | (simp only [eraseBlock_counters, logAppend_counters, foldl_eraseBlock_counters]; done) | (with_reducible intro) | split | dsimp only | dsimp only [Keeps])

theorem recoveryChunk_keeps (path bytes : Nat) (header : Option (Nat × Component)) (drained : Nat) (failures : List StoreFailure) (d : Device) (h : Keeps A L d) :
    KeepsOpt A L (recoveryChunk path bytes header drained failures d) := by
  unfold recoveryChunk
  repeat' (first | with_reducible assumption | (with_reducible refine keeps_some_of (r := recoveryPiece _ _ _ _ _) ‹_› ?_) | with_reducible apply addObj_keeps | with_reducible apply recoveryPiece_keeps | with_reducible apply updCs_keeps | with_reducible rfl | exact congrArg CodeStore.counters (id_eq _) | (simp only [eraseBlock_counters, logAppend_counters, foldl_eraseBlock_counters]; done) | with_reducible apply keepsOpt_some | exact keepsOpt_none | (with_reducible intro) | split | dsimp only | dsimp only [Keeps])

theorem recoveryCommit_keeps (path value : Nat) (d : Device) (h : Keeps A L d) :
    KeepsOpt A L (recoveryCommit path value d) := by
  unfold recoveryCommit
  repeat' (first | with_reducible assumption | (with_reducible refine keeps_fst_of (r := recoveryComplete _ _) ‹_› ?_) | with_reducible apply recoveryBoot_keeps | with_reducible apply recoveryComplete_keeps | with_reducible apply keepsOpt_some | exact keepsOpt_none | (with_reducible intro) | split | dsimp only | dsimp only [Keeps])

theorem updSec_keeps (f : Security → Security) (d : Device) (h : Keeps A L d) :
    Keeps A L (updSec f d) := by
  unfold updSec
  repeat' (first | with_reducible assumption | (with_reducible intro) | split | dsimp only | dsimp only [Keeps])

theorem updPath_keeps (p : Nat) (f : PathState → PathState) (d : Device) (h : Keeps A L d) :
    Keeps A L (updPath p f d) := by
  unfold updPath
  repeat' (first | with_reducible assumption | (with_reducible intro) | split | dsimp only | dsimp only [Keeps])

theorem compactKeys_keeps (d : Device) (h : Keeps A L d) :
    Keeps A L (compactKeys d) := by
  unfold compactKeys
  repeat' (first | with_reducible assumption | with_reducible apply logRec_keeps | with_reducible apply updCs_keeps | with_reducible apply updSec_keeps | with_reducible rfl | exact congrArg CodeStore.counters (id_eq _) | (simp only [eraseBlock_counters, logAppend_counters, foldl_eraseBlock_counters]; done) | with_reducible apply foldl_keeps | (with_reducible intro) | split | dsimp only | dsimp only [Keeps])

theorem appendKeyEntry_keeps (d : Device) (h : Keeps A L d) :
    Keeps A L (appendKeyEntry d) := by
  unfold appendKeyEntry
  repeat' (first | with_reducible assumption | with_reducible apply compactKeys_keeps | with_reducible apply updSec_keeps | (with_reducible intro) | split | dsimp only | dsimp only [Keeps])

theorem drawInto_keeps (k : Nat) (d : Device) (h : Keeps A L d) :
    Keeps A L (drawInto k d) := by
  unfold drawInto
  repeat' (first | with_reducible assumption | with_reducible apply appendKeyEntry_keeps | with_reducible apply updSec_keeps | (with_reducible intro) | split | dsimp only | dsimp only [Keeps])

theorem drawKey_keeps (d : Device) (h : Keeps A L d) :
    Keeps A L (drawKey d).2 := by
  unfold drawKey
  repeat' (first | with_reducible assumption | with_reducible apply drawInto_keeps | (with_reducible intro) | split | dsimp only | dsimp only [Keeps])

theorem setKeySlot_keeps (slot k : Nat) (d : Device) (h : Keeps A L d) :
    Keeps A L (setKeySlot slot k d) := by
  unfold setKeySlot
  repeat' (first | with_reducible assumption | with_reducible apply moveRoot_keeps | (with_reducible intro) | split | dsimp only | dsimp only [Keeps])

theorem destroyKey_keeps (k : Nat) (d : Device) (h : Keeps A L d) :
    Keeps A L (destroyKey k d) := by
  unfold destroyKey
  repeat' (first | with_reducible assumption | with_reducible apply updSec_keeps | (with_reducible intro) | split | dsimp only | dsimp only [Keeps])

theorem unwrapKeys_keeps (d : Device) (h : Keeps A L d) :
    Keeps A L (unwrapKeys d) := by
  unfold unwrapKeys
  repeat' (first | with_reducible assumption | with_reducible apply destroyKey_keeps | with_reducible apply logRec_keeps | with_reducible apply updSec_keeps | with_reducible apply foldl_keeps | with_reducible apply foldl_snd_keeps | with_reducible apply foldl_third_keeps | (with_reducible intro) | split | dsimp only | dsimp only [Keeps])

theorem replaceKey_keeps (slot : Nat) (d : Device) (h : Keeps A L d) :
    Keeps A L (replaceKey slot d) := by
  unfold replaceKey
  repeat' (first | with_reducible assumption | (with_reducible refine keeps_snd_of (r := drawKey _) ‹_› ?_) | with_reducible apply destroyKey_keeps | with_reducible apply drawKey_keeps | with_reducible apply logRec_keeps | with_reducible apply regionReset_keeps | with_reducible apply setKeySlot_keeps | with_reducible apply updSec_keeps | (with_reducible intro) | split | dsimp only | dsimp only [Keeps])

theorem withdrawChallenges_keeps (p : Nat) (pick : Challenge → Bool) (d : Device) (h : Keeps A L d) :
    Keeps A L (withdrawChallenges p pick d) := by
  unfold withdrawChallenges
  repeat' (first | with_reducible assumption | with_reducible apply ledgerGive_keeps | with_reducible apply updPath_keeps | (with_reducible intro) | split | dsimp only | dsimp only [Keeps])

theorem challenge_keeps (p slot op arg : Nat) (d : Device) (h : Keeps A L d) :
    Keeps A L (challenge p slot op arg d).2 := by
  unfold challenge
  repeat' (first | with_reducible assumption | with_reducible apply ledgerTake_keeps | with_reducible apply updPath_keeps | (with_reducible intro) | split | dsimp only | dsimp only [Keeps])

theorem countFailure_keeps (p slot : Nat) (d : Device) (h : Keeps A L d) :
    Keeps A L (countFailure p slot d) := by
  unfold countFailure
  repeat' (first | with_reducible assumption | with_reducible apply logRec_keeps | with_reducible apply updPath_keeps | with_reducible apply withdrawChallenges_keeps | (with_reducible intro) | split | dsimp only | dsimp only [Keeps])

theorem respond_keeps (p slot op arg nonce : Nat) (response : List Byte) (d : Device) (h : Keeps A L d) :
    Keeps A L (respond p slot op arg nonce response d).2 := by
  unfold respond
  repeat' (first | with_reducible assumption | with_reducible apply countFailure_keeps | with_reducible apply updPath_keeps | with_reducible apply withdrawChallenges_keeps | (with_reducible intro) | split | dsimp only | dsimp only [Keeps])

theorem useGrant_keeps (p : Nat) (d : Device) (h : Keeps A L d) :
    Keeps A L (useGrant p d) := by
  unfold useGrant
  repeat' (first | with_reducible assumption | with_reducible apply updPath_keeps | (with_reducible intro) | split | dsimp only | dsimp only [Keeps])

theorem expireChallenges_keeps (d : Device) (h : Keeps A L d) :
    Keeps A L (expireChallenges d) := by
  unfold expireChallenges
  repeat' (first | with_reducible assumption | with_reducible apply withdrawChallenges_keeps | with_reducible apply foldl_keeps | (with_reducible intro) | split | dsimp only | dsimp only [Keeps])

theorem expireGrants_keeps (d : Device) (h : Keeps A L d) :
    Keeps A L (expireGrants d) := by
  unfold expireGrants
  repeat' (first | with_reducible assumption | with_reducible apply useGrant_keeps | with_reducible apply foldl_keeps | (with_reducible intro) | split | dsimp only | dsimp only [Keeps])

theorem unlockPaths_keeps (d : Device) (h : Keeps A L d) :
    Keeps A L (unlockPaths d) := by
  unfold unlockPaths
  repeat' (first | with_reducible assumption | with_reducible apply logRec_keeps | with_reducible apply updPath_keeps | with_reducible apply foldl_keeps | (with_reducible intro) | split | dsimp only | dsimp only [Keeps])

theorem clearPath_keeps (p : Nat) (d : Device) (h : Keeps A L d) :
    Keeps A L (clearPath p d) := by
  unfold clearPath
  repeat' (first | with_reducible assumption | with_reducible apply useGrant_keeps | with_reducible apply withdrawChallenges_keeps | (with_reducible intro) | split | dsimp only | dsimp only [Keeps])

theorem writeAuthKey_keeps (p slot : Nat) (key : List Byte) (d : Device) (h : Keeps A L d) :
    Keeps A L (writeAuthKey p slot key d) := by
  unfold writeAuthKey
  repeat' (first | with_reducible assumption | with_reducible apply appendKeyEntry_keeps | with_reducible apply logRec_keeps | with_reducible apply updSec_keeps | with_reducible apply withdrawChallenges_keeps | with_reducible apply foldl_keeps | (with_reducible intro) | split | dsimp only | dsimp only [Keeps])

theorem writeAuthRights_keeps (p slot rights : Nat) (d : Device) (h : Keeps A L d) :
    Keeps A L (writeAuthRights p slot rights d) := by
  unfold writeAuthRights
  repeat' (first | with_reducible assumption | with_reducible apply appendKeyEntry_keeps | with_reducible apply logRec_keeps | with_reducible apply updSec_keeps | with_reducible apply withdrawChallenges_keeps | with_reducible apply foldl_keeps | (with_reducible intro) | split | dsimp only | dsimp only [Keeps])

theorem failLocked_keeps (c : HostCmd) (d : Device) (h : Keeps A L d) :
    Keeps A L (failLocked c d) := by
  unfold failLocked
  repeat' (first | with_reducible assumption | with_reducible apply failWith_keeps | (with_reducible intro) | split | dsimp only | dsimp only [Keeps])

theorem challengeBody_keeps (c : HostCmd) (slot op arg : Nat) (d : Device) (h : Keeps A L d) :
    Keeps A L (challengeBody c slot op arg d) := by
  unfold challengeBody
  repeat' (first | with_reducible assumption | (with_reducible refine keeps_snd_of (r := challenge _ _ _ _ _) ‹_› ?_) | with_reducible apply challenge_keeps | with_reducible apply failLocked_keeps | with_reducible apply failWith_keeps | with_reducible apply invalidField_keeps | with_reducible apply succeed_keeps | (with_reducible intro) | split | dsimp only | dsimp only [Keeps])

theorem respondBody_keeps (c : HostCmd) (slot op arg nonce : Nat) (response : List Byte) (d : Device) (h : Keeps A L d) :
    Keeps A L (respondBody c slot op arg nonce response d) := by
  unfold respondBody
  repeat' (first | with_reducible assumption | (with_reducible refine keeps_snd_of (r := respond _ _ _ _ _ _ _) ‹_› ?_) | with_reducible apply failCmd_keeps | with_reducible apply failLocked_keeps | with_reducible apply invalidField_keeps | with_reducible apply respond_keeps | with_reducible apply succeed_keeps | (with_reducible intro) | split | dsimp only | dsimp only [Keeps])

theorem destructive_keeps (c : HostCmd) (opcode : Nat) (ok : Device → Device) (d : Device) (hk : ∀ e, Keeps A L e → Keeps A L (ok e)) (h : Keeps A L d) :
    Keeps A L (destructive c opcode ok d) := by
  unfold destructive
  repeat' (first | with_reducible assumption | with_reducible apply failCmd_keeps | with_reducible apply useGrant_keeps | with_reducible apply hk | (with_reducible intro) | split | dsimp only | dsimp only [Keeps])

theorem abandonOpen_keeps (d : Device) (h : Keeps A L d) :
    Keeps A L (abandonOpen d) := by
  unfold abandonOpen
  repeat' (first | with_reducible assumption | with_reducible apply closeBlocks_keeps | with_reducible apply setObj_keeps | with_reducible apply updBlock_keeps | with_reducible apply foldl_keeps | with_reducible apply foldl_snd_keeps | with_reducible apply foldl_third_keeps | (with_reducible intro) | split | dsimp only | dsimp only [Keeps])

theorem recordStep_keeps (n : Nat) (d : Device) (h : Keeps A L d) :
    Keeps A L (recordStep n d) := by
  unfold recordStep
  repeat' (first | with_reducible assumption | with_reducible apply appendKeyEntry_keeps | with_reducible apply updSec_keeps | (with_reducible intro) | split | dsimp only | dsimp only [Keeps])

theorem startSanitize_keeps (action : Nat) (ause : Bool) (d : Device) (h : Keeps A L d) :
    Keeps A L (startSanitize action ause d) := by
  unfold startSanitize
  repeat' (first | with_reducible assumption | with_reducible apply freeFlush_keeps | with_reducible apply freeWrite_keeps | with_reducible apply postCompletion_keeps | with_reducible apply recordStep_keeps | with_reducible apply succeed_keeps | with_reducible apply updSec_keeps | with_reducible apply updWp_keeps | with_reducible apply foldl_keeps | (with_reducible intro) | split | dsimp only | dsimp only [Keeps])

theorem zeroBuffers_keeps (d : Device) (h : Keeps A L d) :
    Keeps A L (zeroBuffers d) := by
  unfold zeroBuffers
  repeat' (first | with_reducible assumption | with_reducible apply abandonOpen_keeps | with_reducible apply endOp_keeps | with_reducible apply freeFlights_keeps | with_reducible apply recordStep_keeps | with_reducible apply releaseBuffers_keeps | with_reducible apply foldl_keeps | with_reducible apply foldl_snd_keeps | with_reducible apply foldl_third_keeps | (with_reducible intro) | split | dsimp only | dsimp only [Keeps])

theorem rekeyAll_keeps (d : Device) (h : Keeps A L d) :
    Keeps A L (rekeyAll d) := by
  unfold rekeyAll
  repeat' (first | with_reducible assumption | with_reducible apply destroyKey_keeps | with_reducible apply drawInto_keeps | with_reducible apply recordStep_keeps | with_reducible apply setKeySlot_keeps | with_reducible apply updSec_keeps | with_reducible apply foldl_keeps | with_reducible apply foldl_snd_keeps | with_reducible apply foldl_third_keeps | (with_reducible intro) | split | dsimp only | dsimp only [Keeps])

theorem resetRegions_keeps (d : Device) (h : Keeps A L d) :
    Keeps A L (resetRegions d) := by
  unfold resetRegions
  repeat' (first | with_reducible assumption | with_reducible apply finishCheckpoint_keeps | with_reducible apply recordStep_keeps | with_reducible apply regionReset_keeps | with_reducible apply sealAll_keeps | with_reducible apply startCheckpoint_keeps | with_reducible apply foldl_keeps | with_reducible apply foldl_snd_keeps | with_reducible apply foldl_third_keeps | (with_reducible intro) | split | dsimp only | dsimp only [Keeps])

theorem eraseFails_keeps (d : Device) (b : Nat) (h : Keeps A L d) :
    Keeps A L (eraseFails d b) := by
  unfold eraseFails
  repeat' (first | with_reducible assumption | with_reducible apply incObj_keeps | with_reducible apply logRec_keeps | with_reducible apply updBlock_keeps | (with_reducible intro) | split | dsimp only | dsimp only [Keeps])

theorem eraseAll_keeps (failed : List Nat) (d : Device) (h : Keeps A L d) :
    Keeps A L (eraseAll failed d) := by
  unfold eraseAll
  repeat' (first | with_reducible assumption | with_reducible apply eraseFails_keeps | with_reducible apply recordStep_keeps | with_reducible apply updDie_keeps | with_reducible apply foldl_keeps | with_reducible apply foldl_snd_keeps | with_reducible apply foldl_third_keeps | (with_reducible intro) | split | dsimp only | dsimp only [Keeps])

theorem sanitizeStep_keeps (d : Device) (h : Keeps A L d) :
    Keeps A L (sanitizeStep d) := by
  unfold sanitizeStep
  repeat' (first | with_reducible assumption | with_reducible apply noteJournalFull_keeps | with_reducible apply rekeyAll_keeps | with_reducible apply resetRegions_keeps | with_reducible apply startCheckpoint_keeps | with_reducible apply zeroBuffers_keeps | (with_reducible intro) | split | dsimp only | dsimp only [Keeps])

theorem noticeAfterSanitize_keeps (d : Device) (h : Keeps A L d) :
    Keeps A L (noticeAfterSanitize d) := by
  unfold noticeAfterSanitize
  repeat' (first | with_reducible assumption | with_reducible apply saveTables_keeps | with_reducible apply shutdownReported_keeps | with_reducible apply updPort_keeps | with_reducible apply foldl_keeps | (with_reducible intro) | split | dsimp only | dsimp only [Keeps])

theorem leaveSanitize_keeps (d : Device) (h : Keeps A L d) :
    Keeps A L (leaveSanitize d) := by
  unfold leaveSanitize
  repeat' (first | with_reducible assumption | with_reducible apply changeMode_keeps | with_reducible apply noticeAfterSanitize_keeps | with_reducible apply raiseOnAll_keeps | (with_reducible intro) | split | dsimp only | dsimp only [Keeps])

theorem sanitizeEnds_keeps (failed : Bool) (eraseFailed : List Nat) (d : Device) (h : Keeps A L d) :
    Keeps A L (sanitizeEnds failed eraseFailed d) := by
  unfold sanitizeEnds
  repeat' (first | with_reducible assumption | with_reducible apply eraseAll_keeps | with_reducible apply leaveSanitize_keeps | with_reducible apply logRec_keeps | with_reducible apply setRoot_keeps | with_reducible apply updSec_keeps | (with_reducible intro) | split | dsimp only | dsimp only [Keeps])

theorem sanitizeMode_keeps (c : HostCmd) (ok : Device → Device) (d : Device) (hk : ∀ e, Keeps A L e → Keeps A L (ok e)) (h : Keeps A L d) :
    Keeps A L (sanitizeMode c ok d) := by
  unfold sanitizeMode
  repeat' (first | with_reducible assumption | with_reducible apply failCmd_keeps | with_reducible apply hk | (with_reducible intro) | split | dsimp only | dsimp only [Keeps])

theorem sanitizeAdmitted_keeps (c : HostCmd) (ok : Device → Device) (d : Device) (hk : ∀ e, Keeps A L e → Keeps A L (ok e)) (h : Keeps A L d) :
    Keeps A L (sanitizeAdmitted c ok d) := by
  unfold sanitizeAdmitted
  repeat' (first | with_reducible assumption | with_reducible apply failCmd_keeps | with_reducible apply invalidField_keeps | with_reducible apply hk | (with_reducible intro) | split | dsimp only | dsimp only [Keeps])

theorem sanitizeChecks_keeps (c : HostCmd) (ok : Device → Device) (d : Device) (hk : ∀ e, Keeps A L e → Keeps A L (ok e)) (h : Keeps A L d) :
    Keeps A L (sanitizeChecks c ok d) := by
  unfold sanitizeChecks
  repeat' (first | with_reducible assumption | with_reducible apply destructive_keeps | with_reducible apply sanitizeAdmitted_keeps | with_reducible apply sanitizeMode_keeps | with_reducible apply hk | (with_reducible intro) | split | dsimp only | dsimp only [Keeps])

theorem sanitizeBody_keeps (c : HostCmd) (action : Nat) (ause : Bool) (d : Device) (h : Keeps A L d) :
    Keeps A L (sanitizeBody c action ause d) := by
  unfold sanitizeBody
  repeat' (first | with_reducible assumption | with_reducible apply changeMode_keeps | with_reducible apply sanitizeChecks_keeps | with_reducible apply startSanitize_keeps | with_reducible apply succeed_keeps | (with_reducible intro) | split | dsimp only | dsimp only [Keeps])

theorem exitFailureBody_keeps (c : HostCmd) (d : Device) (h : Keeps A L d) :
    Keeps A L (exitFailureBody c d) := by
  unfold exitFailureBody
  repeat' (first | with_reducible assumption | with_reducible apply failCmd_keeps | with_reducible apply sanitizeChecks_keeps | with_reducible apply succeed_keeps | with_reducible apply updSec_keeps | (with_reducible intro) | split | dsimp only | dsimp only [Keeps])

theorem overwriteBody_keeps (c : HostCmd) (d : Device) (h : Keeps A L d) :
    Keeps A L (overwriteBody c d) := by
  unfold overwriteBody
  repeat' (first | with_reducible assumption | with_reducible apply invalidField_keeps | with_reducible apply sanitizeAdmitted_keeps | with_reducible apply sanitizeMode_keeps | (with_reducible intro) | split | dsimp only | dsimp only [Keeps])

theorem readEffect_keeps (index sub : Nat) (d : Device) (h : Keeps A L d) :
    Keeps A L (readEffect index sub d) := by
  unfold readEffect
  repeat' (first | with_reducible assumption | with_reducible apply checkLedger_keeps | (with_reducible intro) | split | dsimp only | dsimp only [Keeps])

theorem storeFailure_keeps (b : Bool) (r : GroupRecord) (out : StoreOutcome) (d : Device) (h : Keeps A L d) :
    Keeps A L (storeFailure b r out d) := by
  unfold storeFailure
  repeat' (first | with_reducible assumption | with_reducible apply logRec_keeps | (with_reducible intro) | split | dsimp only | dsimp only [Keeps])

theorem storeRecord_keeps (r : GroupRecord) (out : StoreOutcome) (d : Device) (h : Keeps A L d) :
    Keeps A L (storeRecord r out d).1 := by
  unfold storeRecord
  repeat' (first | with_reducible assumption | (with_reducible refine keeps_fst_of (r := appendToCopy _ _ _ _) ‹_› ?_) | with_reducible apply appendToCopy_keeps | with_reducible apply incObj_keeps | with_reducible apply setCopy_keeps | with_reducible apply storeFailure_keeps | (with_reducible intro) | split | dsimp only | dsimp only [Keeps])

theorem settingEffect_keeps (key v : Nat) (d : Device) (h : Keeps A L d) :
    Keeps A L (settingEffect key v d) := by
  unfold settingEffect
  repeat' (first | with_reducible assumption | with_reducible apply keepHoldUp_keeps | with_reducible apply recomputeCeiling_keeps | with_reducible apply resizePool_keeps | with_reducible apply setObj_keeps | with_reducible apply warningLevelChanged_keeps | with_reducible apply withhold_keeps | (with_reducible intro) | split | dsimp only | dsimp only [Keeps])

theorem acknowledgeSettings_keeps (path : Nat) (d : Device) (h : Keeps A L d) :
    Keeps A L (acknowledgeSettings path d) := by
  unfold acknowledgeSettings
  repeat' (first | with_reducible assumption | with_reducible apply bootWrite_keeps | with_reducible apply logRec_keeps | with_reducible apply updateCauses_keeps | with_reducible rfl | exact congrArg CodeStore.counters (id_eq _) | (simp only [eraseBlock_counters, logAppend_counters, foldl_eraseBlock_counters]; done) | (with_reducible intro) | split | dsimp only | dsimp only [Keeps])

theorem clearRequest_keeps (path : Nat) (d : Device) (h : Keeps A L d) :
    KeepsOpt A L (clearRequest path d) := by
  unfold clearRequest
  repeat' (first | with_reducible assumption | with_reducible apply clearLogbook_keeps | with_reducible apply writeSuperblock_keeps | with_reducible apply keepsOpt_some | exact keepsOpt_none | (with_reducible intro) | split | dsimp only | dsimp only [Keeps])

theorem writeEffect_keeps (path key : Nat) (bytes : List Byte) (out : StoreOutcome) (d : Device) (h : Keeps A L d) :
    KeepsOpt A L (writeEffect path key bytes out d) := by
  unfold writeEffect
  repeat' (first | with_reducible assumption | (with_reducible refine keeps_some_of (r := cacheControl _ _) ‹_› ?_) | (with_reducible refine keeps_some_of (r := carrierCommand _ _ _) ‹_› ?_) | (with_reducible refine keeps_some_of (r := clearRequest _ _) ‹_› ?_) | (with_reducible refine keeps_some_of (r := recoveryChunk _ _ _ _ _ _) ‹_› ?_) | (with_reducible refine keeps_some_of (r := recoveryCommit _ _ _) ‹_› ?_) | (with_reducible refine keeps_some_of (r := requestTest _) ‹_› ?_) | with_reducible apply acknowledgeSettings_keeps | with_reducible apply cacheControl_keeps | with_reducible apply carrierCommand_keeps | with_reducible apply clearRequest_keeps | with_reducible apply recoveryChunk_keeps | with_reducible apply recoveryCommit_keeps | with_reducible apply requestTest_keeps | with_reducible apply setObj_keeps | with_reducible apply settingEffect_keeps | with_reducible apply updPath_keeps | with_reducible apply writeAuthKey_keeps | with_reducible apply writeAuthRights_keeps | with_reducible apply keepsOpt_some | exact keepsOpt_none | (with_reducible intro) | split | dsimp only | dsimp only [Keeps])

theorem authorise_keeps (path key : Nat) (parts : List (Nat × List Byte)) (d : Device) (h : Keeps A L d) :
    KeepsExc A L (authorise path key parts d) := by
  unfold authorise
  repeat' (first | with_reducible assumption | with_reducible apply useGrant_keeps | with_reducible apply keepsExc_ok | exact keepsExc_error | (with_reducible intro) | split | dsimp only | dsimp only [Keeps])

theorem setShadow_keeps (path key v : Nat) (d : Device) (h : Keeps A L d) :
    Keeps A L (setShadow path key v d) := by
  unfold setShadow
  repeat' (first | with_reducible assumption | with_reducible apply updPath_keeps | (with_reducible intro) | split | dsimp only | dsimp only [Keeps])

theorem clearGroup_keeps (path index : Nat) (success : Bool) (d : Device) (h : Keeps A L d) :
    Keeps A L (clearGroup path index success d) := by
  unfold clearGroup
  repeat' (first | with_reducible assumption | with_reducible apply updPath_keeps | (with_reducible intro) | split | dsimp only | dsimp only [Keeps])

theorem commitGroup_keeps (path index value : Nat) (out : StoreOutcome) (d : Device) (h : Keeps A L d) :
    Keeps A L (commitGroup path index value out d).2 := by
  unfold commitGroup
  repeat' (first | with_reducible assumption | (with_reducible refine keeps_fst_of (r := storeRecord _ _ _) ‹_› ?_) | with_reducible apply clearGroup_keeps | with_reducible apply setObj_keeps | with_reducible apply settingEffect_keeps | with_reducible apply storeRecord_keeps | with_reducible apply updPath_keeps | with_reducible apply foldl_keeps | with_reducible apply foldl_snd_keeps | with_reducible apply foldl_third_keeps | (with_reducible intro) | split | dsimp only | dsimp only [Keeps])

theorem restoreDefaults_keeps (path : Nat) (out : StoreOutcome) (d : Device) (h : Keeps A L d) :
    Keeps A L (restoreDefaults path out d).2 := by
  unfold restoreDefaults
  repeat' (first | with_reducible assumption | (with_reducible refine keeps_fst_of (r := storeRecord _ _ _) ‹_› ?_) | with_reducible apply logRec_keeps | with_reducible apply settingEffect_keeps | with_reducible apply storeRecord_keeps | with_reducible apply foldl_keeps | with_reducible apply foldl_snd_keeps | with_reducible apply foldl_third_keeps | (with_reducible intro) | split | dsimp only | dsimp only [Keeps])

theorem applyParts_keeps (path : Nat) (out : StoreOutcome) (parts : List (Nat × List Byte)) (d : Device) (h : Keeps A L d) :
    KeepsExc A L (applyParts path out parts d) := by
  induction parts generalizing d with
  | nil => exact h
  | cons x rest ih =>
    unfold applyParts
    split
    · exact ih _ (setShadow_keeps _ _ _ _ h)
    · split
      · exact keepsExc_error
      · next hw => exact ih _ (keeps_some_of hw (writeEffect_keeps _ _ _ _ _ h))

theorem lateWrite_keeps (path key : Nat) (parts : List (Nat × List Byte)) (shapeAbort : Option (Nat × Nat)) (out : StoreOutcome) (d : Device) (h : Keeps A L d) :
    Keeps A L (lateWrite path key parts shapeAbort out d).2 := by
  unfold lateWrite
  repeat' (first | with_reducible assumption | (with_reducible refine keeps_ok_of (r := applyParts _ _ _ _) ‹_› ?_) | (with_reducible refine keeps_snd_of (r := commitGroup _ _ _ _ _) ‹_› ?_) | (with_reducible refine keeps_snd_of (r := restoreDefaults _ _ _) ‹_› ?_) | (with_reducible refine keeps_fst_of (r := storeRecord _ _ _) ‹_› ?_) | with_reducible apply applyParts_keeps | with_reducible apply commitGroup_keeps | with_reducible apply restoreDefaults_keeps | with_reducible apply storeRecord_keeps | (with_reducible intro) | split | dsimp only | dsimp only [Keeps])

theorem writeObject_keeps (path index sub : Nat) (bytes : List Byte) (out : StoreOutcome) (d : Device) (h : Keeps A L d) :
    Keeps A L (writeObject path index sub bytes out d).2 := by
  unfold writeObject
  repeat' (first | with_reducible assumption | (with_reducible refine keeps_ok_of (r := authorise _ _ _ _) ‹_› ?_) | (with_reducible refine keeps_snd_of (r := lateWrite _ _ _ _ _ _) ‹_› ?_) | with_reducible apply authorise_keeps | with_reducible apply lateWrite_keeps | (with_reducible intro) | split | dsimp only | dsimp only [Keeps])

theorem countRequest_keeps (aborted : Bool) (d : Device) (h : Keeps A L d) :
    Keeps A L (countRequest aborted d) := by
  unfold countRequest
  repeat' (first | with_reducible assumption | with_reducible apply incObj_keeps | (with_reducible intro) | split | dsimp only | dsimp only [Keeps])

theorem answerPath_keeps (path : Nat) (abort : Option Nat) (value : List Byte) (d : Device) (h : Keeps A L d) :
    Keeps A L (answerPath path abort value d) := by
  unfold answerPath
  repeat' (first | with_reducible assumption | with_reducible apply countRequest_keeps | with_reducible apply updPath_keeps | (with_reducible intro) | split | dsimp only | dsimp only [Keeps])

theorem writeRequest_keeps (i : Instr) (path index sub : Nat) (bytes : List Byte) (out : StoreOutcome) (d : Device) (h : Keeps A L d) :
    Keeps A L (writeRequest i path index sub bytes out d) := by
  unfold writeRequest
  repeat' (first | with_reducible assumption | (with_reducible refine keeps_snd_of (r := writeObject _ _ _ _ _ _) ‹_› ?_) | with_reducible apply answerPath_keeps | with_reducible apply writeObject_keeps | (with_reducible intro) | split | dsimp only | dsimp only [Keeps])

theorem meetPairs_keeps (key : Nat) (d : Device) (h : Keeps A L d) :
    Keeps A L (meetPairs key d) := by
  unfold meetPairs
  repeat' (first | with_reducible assumption | with_reducible apply readRecord_keeps | with_reducible apply readSetting_keeps | with_reducible apply foldl_keeps | (with_reducible intro) | split | dsimp only | dsimp only [Keeps])

theorem readRequest_keeps (path index sub : Nat) (d : Device) (h : Keeps A L d) :
    Keeps A L (readRequest path index sub d) := by
  unfold readRequest
  repeat' (first | with_reducible assumption | with_reducible apply answerPath_keeps | with_reducible apply meetPairs_keeps | with_reducible apply readEffect_keeps | (with_reducible intro) | split | dsimp only | dsimp only [Keeps])

theorem writeValue_keeps (i : Instr) (path key value : Nat) (out : StoreOutcome) (d : Device) (h : Keeps A L d) :
    Keeps A L (writeValue i path key value out d) := by
  unfold writeValue
  repeat' (first | with_reducible assumption | with_reducible apply writeRequest_keeps | (with_reducible intro) | split | dsimp only | dsimp only [Keeps])

theorem memberWrite_keeps (path index sub value : Nat) (d : Device) (h : Keeps A L d) :
    Keeps A L (memberWrite path index sub value d) := by
  unfold memberWrite
  repeat' (first | with_reducible assumption | with_reducible apply onlyIf_keeps | with_reducible apply writeValue_keeps | (with_reducible intro) | split | dsimp only | dsimp only [Keeps])

theorem groupRequest_keeps (i : Instr) (path index value : Nat) (out : StoreOutcome) (d : Device) (h : Keeps A L d) :
    Keeps A L (groupRequest i path index value out d) := by
  unfold groupRequest
  repeat' (first | with_reducible assumption | with_reducible apply onlyIf_keeps | with_reducible apply writeValue_keeps | (with_reducible intro) | split | dsimp only | dsimp only [Keeps])

theorem setTrans_keeps (t : Option CanTransaction) (d : Device) (h : Keeps A L d) :
    Keeps A L (setTrans t d) := by
  unfold setTrans
  repeat' (first | with_reducible assumption | (with_reducible intro) | split | dsimp only | dsimp only [Keeps])

theorem sendResponse_keeps (r : CanRequest) (status typ access length : Nat) (data : List Byte) (d : Device) (h : Keeps A L d) :
    Keeps A L (sendResponse r status typ access length data d) := by
  unfold sendResponse
  repeat' (first | with_reducible assumption | with_reducible apply queueFrame_keeps | (with_reducible intro) | split | dsimp only | dsimp only [Keeps])

theorem refuseCan_keeps (r : CanRequest) (reason : Nat) (d : Device) (h : Keeps A L d) :
    Keeps A L (refuseCan r reason d) := by
  unfold refuseCan
  repeat' (first | with_reducible assumption | with_reducible apply incObj_keeps | with_reducible apply sendResponse_keeps | (with_reducible intro) | split | dsimp only | dsimp only [Keeps])

theorem canRequest_keeps (r : CanRequest) (bad : Bool) (ok : Device → Device) (d : Device) (hk : ∀ e, Keeps A L e → Keeps A L (ok e)) (h : Keeps A L d) :
    Keeps A L (canRequest r bad ok d) := by
  unfold canRequest
  repeat' (first | with_reducible assumption | with_reducible apply actedOn_keeps | with_reducible apply refuseCan_keeps | with_reducible apply hk | (with_reducible intro) | split | dsimp only | dsimp only [Keeps])

theorem respondAbort_keeps (r : CanRequest) (reason sub : Nat) (d : Device) (h : Keeps A L d) :
    Keeps A L (respondAbort r reason sub d) := by
  unfold respondAbort
  repeat' (first | with_reducible assumption | with_reducible apply sendResponse_keeps | (with_reducible intro) | split | dsimp only | dsimp only [Keeps])

theorem queueSegments_keeps (tag fuel seg : Nat) (bytes : List Byte) (d : Device) (h : Keeps A L d) :
    Keeps A L (queueSegments tag fuel seg bytes d) := by
  induction fuel generalizing seg bytes d with
  | zero => exact h
  | succ k ih =>
    unfold queueSegments
    repeat' (first | with_reducible assumption | with_reducible apply queueFrame_keeps | with_reducible apply ih | (with_reducible intro) | split | dsimp only | dsimp only [Keeps])

theorem canReadBody_keeps (r : CanRequest) (d : Device) (h : Keeps A L d) :
    Keeps A L (canReadBody r d) := by
  unfold canReadBody
  repeat' (first | with_reducible assumption | with_reducible apply answerPath_keeps | with_reducible apply meetPairs_keeps | with_reducible apply queueSegments_keeps | with_reducible apply readEffect_keeps | with_reducible apply respondAbort_keeps | with_reducible apply sendResponse_keeps | with_reducible apply setTrans_keeps | (with_reducible intro) | split | dsimp only | dsimp only [Keeps])

theorem canServeWrite_keeps (i : Instr) (r : CanRequest) (value : List Byte) (out : StoreOutcome) (d : Device) (h : Keeps A L d) :
    Keeps A L (canServeWrite i r value out d) := by
  unfold canServeWrite
  repeat' (first | with_reducible assumption | (with_reducible refine keeps_snd_of (r := writeObject _ _ _ _ _ _) ‹_› ?_) | with_reducible apply answerPath_keeps | with_reducible apply respondAbort_keeps | with_reducible apply sendResponse_keeps | with_reducible apply setTrans_keeps | with_reducible apply writeObject_keeps | (with_reducible intro) | split | dsimp only | dsimp only [Keeps])

theorem openSegmented_keeps (r : CanRequest) (total : Nat) (d : Device) (h : Keeps A L d) :
    Keeps A L (openSegmented r total d) := by
  unfold openSegmented
  repeat' (first | with_reducible assumption | with_reducible apply sendResponse_keeps | with_reducible apply setTrans_keeps | (with_reducible intro) | split | dsimp only | dsimp only [Keeps])

theorem abortTransfer_keeps (r : CanRequest) (d : Device) (h : Keeps A L d) :
    Keeps A L (abortTransfer r d) := by
  unfold abortTransfer
  repeat' (first | with_reducible assumption | with_reducible apply actedOn_keeps | with_reducible apply refuseCan_keeps | with_reducible apply setTrans_keeps | with_reducible apply withdrawWhere_keeps | (with_reducible intro) | split | dsimp only | dsimp only [Keeps])

theorem takeSegment_keeps (i : List Byte → Instr) (tag segment : Nat) (last short : Bool) (data : List Byte) (out : StoreOutcome) (d : Device) (h : Keeps A L d) :
    Keeps A L (takeSegment i tag segment last short data out d) := by
  unfold takeSegment
  repeat' (first | with_reducible assumption | with_reducible apply actedOn_keeps | with_reducible apply canServeWrite_keeps | with_reducible apply incObj_keeps | with_reducible apply refuseCan_keeps | with_reducible apply setTrans_keeps | (with_reducible intro) | split | dsimp only | dsimp only [Keeps])

theorem segmentTimeout_keeps (d : Device) (h : Keeps A L d) :
    Keeps A L (segmentTimeout d) := by
  unfold segmentTimeout
  repeat' (first | with_reducible assumption | with_reducible apply refuseCan_keeps | with_reducible apply setTrans_keeps | (with_reducible intro) | split | dsimp only | dsimp only [Keeps])

theorem canChallenge_keeps (r : CanRequest) (slot op arg : Nat) (d : Device) (h : Keeps A L d) :
    Keeps A L (canChallenge r slot op arg d) := by
  unfold canChallenge
  repeat' (first | with_reducible assumption | (with_reducible refine keeps_snd_of (r := challenge _ _ _ _ _) ‹_› ?_) | with_reducible apply challenge_keeps | with_reducible apply refuseCan_keeps | with_reducible apply respondAbort_keeps | with_reducible apply sendResponse_keeps | (with_reducible intro) | split | dsimp only | dsimp only [Keeps])

theorem canRespond_keeps (r : CanRequest) (slot op arg nonce : Nat) (response : List Byte) (d : Device) (h : Keeps A L d) :
    Keeps A L (canRespond r slot op arg nonce response d) := by
  unfold canRespond
  repeat' (first | with_reducible assumption | (with_reducible refine keeps_snd_of (r := respond _ _ _ _ _ _ _) ‹_› ?_) | with_reducible apply refuseCan_keeps | with_reducible apply respond_keeps | with_reducible apply sendResponse_keeps | (with_reducible intro) | split | dsimp only | dsimp only [Keeps])

theorem dropCommands_keeps (p : Nat) (d : Device) (h : Keeps A L d) :
    Keeps A L (dropCommands p d) := by
  unfold dropCommands
  repeat' (first | with_reducible assumption | with_reducible apply advanceChannel_keeps | with_reducible apply dropRead_keeps | with_reducible apply dropWrite_keeps | with_reducible apply freeContext_keeps | with_reducible apply freeFlush_keeps | with_reducible apply settle_keeps | with_reducible apply updWp_keeps | with_reducible apply foldl_keeps | (with_reducible intro) | split | dsimp only | dsimp only [Keeps])

theorem resetPath_keeps (path : Nat) (d : Device) (h : Keeps A L d) :
    Keeps A L (resetPath path d) := by
  unfold resetPath
  repeat' (first | with_reducible assumption | with_reducible apply clearPath_keeps | with_reducible apply updPath_keeps | (with_reducible intro) | split | dsimp only | dsimp only [Keeps])

theorem controllerReset_keeps (p : Nat) (d : Device) (h : Keeps A L d) :
    Keeps A L (controllerReset p d) := by
  unfold controllerReset
  repeat' (first | with_reducible assumption | with_reducible apply dropCommands_keeps | with_reducible apply resetPath_keeps | with_reducible apply updPort_keeps | (with_reducible intro) | split | dsimp only | dsimp only [Keeps])

theorem dropLink_keeps (p : Nat) (d : Device) (h : Keeps A L d) :
    Keeps A L (dropLink p d) := by
  unfold dropLink
  repeat' (first | with_reducible assumption | with_reducible apply linkUp_keeps | with_reducible apply setObj_keeps | with_reducible apply updPort_keeps | (with_reducible intro) | split | dsimp only | dsimp only [Keeps])

theorem portReset_keeps (code p : Nat) (flr : Bool) (d : Device) (h : Keeps A L d) :
    Keeps A L (portReset code p flr d) := by
  unfold portReset
  repeat' (first | with_reducible assumption | with_reducible apply controllerReset_keeps | with_reducible apply dropLink_keeps | with_reducible apply logRec_keeps | with_reducible apply setObj_keeps | with_reducible apply updPort_keeps | (with_reducible intro) | split | dsimp only | dsimp only [Keeps])

theorem reachL0_keeps (p rate width : Nat) (d : Device) (h : Keeps A L d) :
    Keeps A L (reachL0 p rate width d) := by
  unfold reachL0
  repeat' (first | with_reducible assumption | with_reducible apply linkUp_keeps | with_reducible apply logRec_keeps | with_reducible apply setObj_keeps | with_reducible apply updPort_keeps | (with_reducible intro) | split | dsimp only | dsimp only [Keeps])

theorem detectRetry_keeps (p : Nat) (found : Bool) (d : Device) (h : Keeps A L d) :
    Keeps A L (detectRetry p found d) := by
  unfold detectRetry
  repeat' (first | with_reducible assumption | with_reducible apply linkUp_keeps | with_reducible apply setObj_keeps | with_reducible apply updPort_keeps | (with_reducible intro) | split | dsimp only | dsimp only [Keeps])

theorem postHeld_keeps (p : Nat) (d : Device) (h : Keeps A L d) :
    Keeps A L (postHeld p d) := by
  unfold postHeld
  repeat' (first | with_reducible assumption | with_reducible apply updPort_keeps | with_reducible apply foldl_keeps | (with_reducible intro) | split | dsimp only | dsimp only [Keeps])

theorem writePowerState_keeps (p value : Nat) (d : Device) (h : Keeps A L d) :
    Keeps A L (writePowerState p value d) := by
  unfold writePowerState
  repeat' (first | with_reducible assumption | with_reducible apply leaveL1_keeps | with_reducible apply postHeld_keeps | with_reducible apply setObj_keeps | with_reducible apply updPort_keeps | (with_reducible intro) | split | dsimp only | dsimp only [Keeps])

theorem writeBusMaster_keeps (p : Nat) (bme : Bool) (cfg : PortConfig) (clearU clearC : Nat) (d : Device) (h : Keeps A L d) :
    Keeps A L (writeBusMaster p bme cfg clearU clearC d) := by
  unfold writeBusMaster
  repeat' (first | with_reducible assumption | with_reducible apply leaveL1_keeps | with_reducible apply postHeld_keeps | with_reducible apply updPort_keeps | (with_reducible intro) | split | dsimp only | dsimp only [Keeps])

theorem unmask_keeps (p : Nat) (vector : Option Nat) (d : Device) (h : Keeps A L d) :
    Keeps A L (unmask p vector d) := by
  unfold unmask
  repeat' (first | with_reducible assumption | with_reducible apply leaveL1_keeps | with_reducible apply updPort_keeps | with_reducible apply foldl_keeps | (with_reducible intro) | split | dsimp only | dsimp only [Keeps])

theorem writeMsi_keeps (p : Nat) (msix functionMask msi : Bool) (multiple : Nat) (masked : List Nat) (d : Device) (h : Keeps A L d) :
    Keeps A L (writeMsi p msix functionMask msi multiple masked d) := by
  unfold writeMsi
  repeat' (first | with_reducible assumption | with_reducible apply leaveL1_keeps | with_reducible apply updPort_keeps | with_reducible apply foldl_keeps | with_reducible apply foldl_snd_keeps | with_reducible apply foldl_third_keeps | (with_reducible intro) | split | dsimp only | dsimp only [Keeps])

theorem failHostMemory_keeps (p sqid cid : Nat) (d : Device) (h : Keeps A L d) :
    Keeps A L (failHostMemory p sqid cid d) := by
  unfold failHostMemory
  repeat' (first | with_reducible assumption | with_reducible apply advanceChannel_keeps | with_reducible apply countMemoryFault_keeps | with_reducible apply dropRead_keeps | with_reducible apply failCmd_keeps | with_reducible apply failWrite_keeps | with_reducible apply settle_keeps | (with_reducible intro) | split | dsimp only | dsimp only [Keeps])

theorem failNamed_keeps (p : Nat) (cmd : Option (Nat × Nat)) (d : Device) (h : Keeps A L d) :
    Keeps A L (failNamed p cmd d) := by
  unfold failNamed
  repeat' (first | with_reducible assumption | with_reducible apply failHostMemory_keeps | (with_reducible intro) | split | dsimp only | dsimp only [Keeps])

theorem correctableError_keeps (p bit : Nat) (d : Device) (h : Keeps A L d) :
    Keeps A L (correctableError p bit d) := by
  unfold correctableError
  repeat' (first | with_reducible assumption | with_reducible apply incObj_keeps | with_reducible apply updPort_keeps | (with_reducible intro) | split | dsimp only | dsimp only [Keeps])

theorem tlpError_keeps (p : Nat) (e : PcieError) (header : Nat) (cmd : Option (Nat × Nat)) (d : Device) (h : Keeps A L d) :
    Keeps A L (tlpError p e header cmd d) := by
  unfold tlpError
  repeat' (first | with_reducible assumption | with_reducible apply correctableError_keeps | with_reducible apply failNamed_keeps | with_reducible apply linkUp_keeps | with_reducible apply uncorrectableError_keeps | (with_reducible intro) | split | dsimp only | dsimp only [Keeps])

theorem timeOut_keeps (p elapsedUs header : Nat) (cmd : Option (Nat × Nat)) (d : Device) (h : Keeps A L d) :
    Keeps A L (timeOut p elapsedUs header cmd d) := by
  unfold timeOut
  repeat' (first | with_reducible assumption | with_reducible apply failNamed_keeps | with_reducible apply uncorrectableError_keeps | (with_reducible intro) | split | dsimp only | dsimp only [Keeps])

theorem identifyBody_keeps (c : HostCmd) (cns cntid csi : Nat) (d : Device) (h : Keeps A L d) :
    Keeps A L (identifyBody c cns cntid csi d) := by
  unfold identifyBody
  repeat' (first | with_reducible assumption | with_reducible apply failCmd_keeps | with_reducible apply invalidField_keeps | with_reducible apply succeed_keeps | (with_reducible intro) | split | dsimp only | dsimp only [Keeps])

theorem captureHost_keeps (d : Device) (h : Keeps A L d) :
    Keeps A L (captureHost d) := by
  unfold captureHost
  repeat' (first | with_reducible assumption | (with_reducible intro) | split | dsimp only | dsimp only [Keeps])

theorem beforePage_keeps (c : HostCmd) (lid offset : Nat) (create : Bool) (d : Device) (h : Keeps A L d) :
    Keeps A L (beforePage c lid offset create d) := by
  unfold beforePage
  repeat' (first | with_reducible assumption | with_reducible apply captureHost_keeps | with_reducible apply updPort_keeps | (with_reducible intro) | split | dsimp only | dsimp only [Keeps])

theorem afterPage_keeps (p lid : Nat) (retain : Bool) (d : Device) (h : Keeps A L d) :
    Keeps A L (afterPage p lid retain d) := by
  unfold afterPage
  repeat' (first | with_reducible assumption | with_reducible apply updPort_keeps | (with_reducible intro) | split | dsimp only | dsimp only [Keeps])

theorem logPageBody_keeps (c : HostCmd) (lid offset bytes : Nat) (retain create : Bool) (d : Device) (h : Keeps A L d) :
    Keeps A L (logPageBody c lid offset bytes retain create d) := by
  unfold logPageBody
  repeat' (first | with_reducible assumption | with_reducible apply afterPage_keeps | with_reducible apply beforePage_keeps | with_reducible apply failCmd_keeps | with_reducible apply failField_keeps | with_reducible apply invalidField_keeps | with_reducible apply succeed_keeps | (with_reducible intro) | split | dsimp only | dsimp only [Keeps])

theorem enableController_keeps (p cc aqa : Nat) (d : Device) (h : Keeps A L d) :
    Keeps A L (enableController p cc aqa d) := by
  unfold enableController
  repeat' (first | with_reducible assumption | with_reducible apply leaveL1_keeps | with_reducible apply logRec_keeps | with_reducible apply updPort_keeps | (with_reducible intro) | split | dsimp only | dsimp only [Keeps])

theorem shutdownWork_keeps (d : Device) (h : Keeps A L d) :
    Keeps A L (shutdownWork d) := by
  unfold shutdownWork
  repeat' (first | with_reducible assumption | with_reducible apply closeAllRows_keeps | with_reducible apply startCheckpoint_keeps | with_reducible apply startShutdown_keeps | (with_reducible intro) | split | dsimp only | dsimp only [Keeps])

theorem notifyShutdown_keeps (p : Nat) (d : Device) (h : Keeps A L d) :
    Keeps A L (notifyShutdown p d) := by
  unfold notifyShutdown
  repeat' (first | with_reducible assumption | with_reducible apply changeMode_keeps | with_reducible apply leaveL1_keeps | with_reducible apply setShst_keeps | with_reducible apply shutdownWork_keeps | with_reducible apply startShutdown_keeps | with_reducible apply updPort_keeps | (with_reducible intro) | split | dsimp only | dsimp only [Keeps])

theorem completeShutdown_keeps (d : Device) (h : Keeps A L d) :
    Keeps A L (completeShutdown d) := by
  unfold completeShutdown
  repeat' (first | with_reducible assumption | with_reducible apply changeMode_keeps | with_reducible apply computeWake_keeps | with_reducible apply saveTables_keeps | with_reducible apply shutdownReported_keeps | (with_reducible intro) | split | dsimp only | dsimp only [Keeps])

theorem badDoorbell_keeps (p : Nat) (d : Device) (h : Keeps A L d) :
    Keeps A L (badDoorbell p d) := by
  unfold badDoorbell
  repeat' (first | with_reducible assumption | with_reducible apply raiseEvent_keeps | (with_reducible intro) | split | dsimp only | dsimp only [Keeps])

theorem ringTail_keeps (p sq tail : Nat) (d : Device) (h : Keeps A L d) :
    Keeps A L (ringTail p sq tail d) := by
  unfold ringTail
  repeat' (first | with_reducible assumption | with_reducible apply badDoorbell_keeps | with_reducible apply leaveL1_keeps | with_reducible apply updPort_keeps | (with_reducible intro) | split | dsimp only | dsimp only [Keeps])

theorem ringHead_keeps (p cq head : Nat) (d : Device) (h : Keeps A L d) :
    Keeps A L (ringHead p cq head d) := by
  unfold ringHead
  repeat' (first | with_reducible assumption | with_reducible apply badDoorbell_keeps | with_reducible apply leaveL1_keeps | with_reducible apply updPort_keeps | (with_reducible intro) | split | dsimp only | dsimp only [Keeps])

theorem coalescingEnds_keeps (p cq : Nat) (d : Device) (h : Keeps A L d) :
    Keeps A L (coalescingEnds p cq d) := by
  unfold coalescingEnds
  repeat' (first | with_reducible assumption | with_reducible apply updPort_keeps | (with_reducible intro) | split | dsimp only | dsimp only [Keeps])

theorem keepAliveExpires_keeps (p : Nat) (d : Device) (h : Keeps A L d) :
    Keeps A L (keepAliveExpires p d) := by
  unfold keepAliveExpires
  repeat' (first | with_reducible assumption | with_reducible apply dropCommands_keeps | with_reducible apply incObj_keeps | with_reducible apply logRec_keeps | with_reducible apply updPort_keeps | (with_reducible intro) | split | dsimp only | dsimp only [Keeps])

theorem keepAliveBody_keeps (c : HostCmd) (d : Device) (h : Keeps A L d) :
    Keeps A L (keepAliveBody c d) := by
  unfold keepAliveBody
  repeat' (first | with_reducible assumption | with_reducible apply invalidField_keeps | with_reducible apply succeed_keeps | (with_reducible intro) | split | dsimp only | dsimp only [Keeps])

theorem queueChecks_keeps (c : HostCmd) (qid size : Nat) (taken contiguous : Bool) (ok : Device → Device) (d : Device) (hk : ∀ e, Keeps A L e → Keeps A L (ok e)) (h : Keeps A L d) :
    Keeps A L (queueChecks c qid size taken contiguous ok d) := by
  unfold queueChecks
  repeat' (first | with_reducible assumption | with_reducible apply failField_keeps | with_reducible apply invalidField_keeps | with_reducible apply hk | (with_reducible intro) | split | dsimp only | dsimp only [Keeps])

theorem createSq_keeps (c : HostCmd) (qid size cqid : Nat) (contiguous : Bool) (d : Device) (h : Keeps A L d) :
    Keeps A L (createSq c qid size cqid contiguous d) := by
  unfold createSq
  repeat' (first | with_reducible assumption | with_reducible apply failField_keeps | with_reducible apply queueChecks_keeps | with_reducible apply succeed_keeps | with_reducible apply updPort_keeps | (with_reducible intro) | split | dsimp only | dsimp only [Keeps])

theorem createCq_keeps (c : HostCmd) (qid size vector : Nat) (contiguous interrupts : Bool) (d : Device) (h : Keeps A L d) :
    Keeps A L (createCq c qid size vector contiguous interrupts d) := by
  unfold createCq
  repeat' (first | with_reducible assumption | with_reducible apply failField_keeps | with_reducible apply queueChecks_keeps | with_reducible apply succeed_keeps | with_reducible apply updPort_keeps | (with_reducible intro) | split | dsimp only | dsimp only [Keeps])

theorem deleteSq_keeps (c : HostCmd) (qid : Nat) (d : Device) (h : Keeps A L d) :
    Keeps A L (deleteSq c qid d) := by
  unfold deleteSq
  repeat' (first | with_reducible assumption | with_reducible apply failField_keeps | with_reducible apply invalidField_keeps | with_reducible apply succeed_keeps | with_reducible apply updPort_keeps | (with_reducible intro) | split | dsimp only | dsimp only [Keeps])

theorem deleteCq_keeps (c : HostCmd) (qid : Nat) (d : Device) (h : Keeps A L d) :
    Keeps A L (deleteCq c qid d) := by
  unfold deleteCq
  repeat' (first | with_reducible assumption | with_reducible apply failField_keeps | with_reducible apply invalidField_keeps | with_reducible apply succeed_keeps | with_reducible apply updPort_keeps | (with_reducible intro) | split | dsimp only | dsimp only [Keeps])

theorem abortBody_keeps (c : HostCmd) (sqid cid : Nat) (d : Device) (h : Keeps A L d) :
    Keeps A L (abortBody c sqid cid d) := by
  unfold abortBody
  repeat' (first | with_reducible assumption | with_reducible apply failCmd_keeps | with_reducible apply invalidField_keeps | with_reducible apply succeed_keeps | (with_reducible intro) | split | dsimp only | dsimp only [Keeps])

theorem asyncBody_keeps (c : HostCmd) (d : Device) (h : Keeps A L d) :
    Keeps A L (asyncBody c d) := by
  unfold asyncBody
  repeat' (first | with_reducible assumption | with_reducible apply failCmd_keeps | with_reducible apply invalidField_keeps | with_reducible apply raiseEvent_keeps | with_reducible apply updPort_keeps | (with_reducible intro) | split | dsimp only | dsimp only [Keeps])

theorem invalidOpcode_keeps (c : HostCmd) (d : Device) (h : Keeps A L d) :
    Keeps A L (invalidOpcode c d) := by
  unfold invalidOpcode
  repeat' (first | with_reducible assumption | with_reducible apply adminCommand_keeps | with_reducible apply failCmd_keeps | with_reducible apply ioCommand_keeps | (with_reducible intro) | split | dsimp only | dsimp only [Keeps])

theorem updNs_keeps (slot : Nat) (f : Namespace → Namespace) (d : Device) (h : Keeps A L d) :
    Keeps A L (updNs slot f d) := by
  unfold updNs
  repeat' (first | with_reducible assumption | with_reducible apply moveRoot_keeps | (with_reducible intro) | split | dsimp only | dsimp only [Keeps])

theorem setFeature_keeps (p fid v : Nat) (d : Device) (h : Keeps A L d) :
    Keeps A L (setFeature p fid v d) := by
  unfold setFeature
  repeat' (first | with_reducible assumption | with_reducible apply updPort_keeps | (with_reducible intro) | split | dsimp only | dsimp only [Keeps])

theorem setFeatureValue_keeps {c : HostCmd} {fid value data : Nat} {d e : Device} {v : Nat}
    (he : setFeatureValue c fid value data d = .ok (e, v)) (h : Keeps A L d) : Keeps A L e := by
  unfold setFeatureValue at he
  dsimp only at he
  repeat' (first | (with_reducible assumption) | (simp only [Except.ok.injEq, Prod.mk.injEq] at he; obtain ⟨rfl, -⟩ := he) | with_reducible apply updPort_keeps | with_reducible apply setFeature_keeps | with_reducible apply setWallClock_keeps | with_reducible apply updNs_keeps | with_reducible apply foldl_keeps | (with_reducible intro) | split at he | (cases he; done) | split | dsimp only)

theorem setFeaturesBody_keeps (c : HostCmd) (fid : Nat) (save : Bool) (value data : Nat) (d : Device) (h : Keeps A L d) :
    Keeps A L (setFeaturesBody c fid save value data d) := by
  unfold setFeaturesBody
  repeat' (first | with_reducible assumption | (with_reducible refine setFeatureValue_keeps ‹_› ?_) | with_reducible apply failCmd_keeps | with_reducible apply failField_keeps | with_reducible apply invalidField_keeps | with_reducible apply succeed_keeps | (with_reducible intro) | split | dsimp only | dsimp only [Keeps])

theorem getFeaturesBody_keeps (c : HostCmd) (fid select value : Nat) (d : Device) (h : Keeps A L d) :
    Keeps A L (getFeaturesBody c fid select value d) := by
  unfold getFeaturesBody
  repeat' (first | with_reducible assumption | with_reducible apply failField_keeps | with_reducible apply invalidField_keeps | with_reducible apply succeed_keeps | (with_reducible intro) | split | dsimp only | dsimp only [Keeps])

theorem createRecord_keeps (slot nsze flbas dps nmic parity : Nat) (d : Device) (h : Keeps A L d) :
    Keeps A L (createRecord slot nsze flbas dps nmic parity d) := by
  unfold createRecord
  repeat' (first | with_reducible assumption | (with_reducible refine keeps_snd_of (r := drawKey _) ‹_› ?_) | with_reducible apply drawKey_keeps | with_reducible apply regionReset_keeps | with_reducible apply setKeySlot_keeps | with_reducible apply updNs_keeps | (with_reducible intro) | split | dsimp only | dsimp only [Keeps])

theorem createNamespace_keeps (c : HostCmd) (nsze ncap flbas dps nmic parity : Nat) (d : Device) (h : Keeps A L d) :
    Keeps A L (createNamespace c nsze ncap flbas dps nmic parity d) := by
  unfold createNamespace
  repeat' (first | with_reducible assumption | with_reducible apply createRecord_keeps | with_reducible apply failCmd_keeps | with_reducible apply failField_keeps | with_reducible apply invalidField_keeps | with_reducible apply logRec_keeps | with_reducible apply succeed_keeps | (with_reducible intro) | split | dsimp only | dsimp only [Keeps])

theorem noticeChanged_keeps (slot mask : Nat) (d : Device) (h : Keeps A L d) :
    Keeps A L (noticeChanged slot mask d) := by
  unfold noticeChanged
  repeat' (first | with_reducible assumption | with_reducible apply raiseEvent_keeps | with_reducible apply updPort_keeps | with_reducible apply foldl_keeps | (with_reducible intro) | split | dsimp only | dsimp only [Keeps])

theorem startDelete_keeps (c : HostCmd) (slots : List Nat) (d : Device) (h : Keeps A L d) :
    Keeps A L (startDelete c slots d) := by
  unfold startDelete
  repeat' (first | with_reducible assumption | with_reducible apply noticeChanged_keeps | with_reducible apply updNs_keeps | with_reducible apply foldl_keeps | (with_reducible intro) | split | dsimp only | dsimp only [Keeps])

theorem deleteNamespace_keeps (c : HostCmd) (d : Device) (h : Keeps A L d) :
    Keeps A L (deleteNamespace c d) := by
  unfold deleteNamespace
  repeat' (first | with_reducible assumption | with_reducible apply failCmd_keeps | with_reducible apply failField_keeps | with_reducible apply invalidField_keeps | with_reducible apply startDelete_keeps | (with_reducible intro) | split | dsimp only | dsimp only [Keeps])

theorem attachNamespace_keeps (c : HostCmd) (attach : Bool) (ids : List Nat) (d : Device) (h : Keeps A L d) :
    Keeps A L (attachNamespace c attach ids d) := by
  unfold attachNamespace
  repeat' (first | with_reducible assumption | with_reducible apply failField_keeps | with_reducible apply invalidField_keeps | with_reducible apply noticeChanged_keeps | with_reducible apply succeed_keeps | with_reducible apply updNs_keeps | with_reducible apply foldl_keeps | (with_reducible intro) | split | dsimp only | dsimp only [Keeps])

theorem formatBody_keeps (c : HostCmd) (flbas dps ses : Nat) (d : Device) (h : Keeps A L d) :
    Keeps A L (formatBody c flbas dps ses d) := by
  unfold formatBody
  repeat' (first | with_reducible assumption | with_reducible apply destructive_keeps | with_reducible apply failCmd_keeps | with_reducible apply failField_keeps | with_reducible apply invalidField_keeps | with_reducible apply updNs_keeps | with_reducible apply foldl_keeps | (with_reducible intro) | split | dsimp only | dsimp only [Keeps])

theorem resetJob_keeps (j : NsJob) (d : Device) (h : Keeps A L d) :
    Keeps A L (resetJob j d).1 := by
  unfold resetJob
  repeat' (first | with_reducible assumption | with_reducible apply regionReset_keeps | with_reducible apply replaceKey_keeps | with_reducible apply foldl_keeps | with_reducible apply foldl_snd_keeps | with_reducible apply foldl_third_keeps | (with_reducible intro) | split | dsimp only | dsimp only [Keeps])

theorem endJob_keeps (j : NsJob) (d : Device) (h : Keeps A L d) :
    Keeps A L (endJob j d) := by
  unfold endJob
  repeat' (first | with_reducible assumption | with_reducible apply destroyKey_keeps | with_reducible apply logRec_keeps | with_reducible apply noticeChanged_keeps | with_reducible apply succeed_keeps | with_reducible apply updNs_keeps | with_reducible apply foldl_keeps | (with_reducible intro) | split | dsimp only | dsimp only [Keeps])

theorem stepJobs_keeps (d : Device) (h : Keeps A L d) :
    Keeps A L (stepJobs d) := by
  unfold stepJobs
  repeat' (first | with_reducible assumption | (with_reducible refine keeps_fst_of (r := resetJob _ _) ‹_› ?_) | with_reducible apply endJob_keeps | with_reducible apply noteJournalFull_keeps | with_reducible apply resetJob_keeps | with_reducible apply foldl_keeps | (with_reducible intro) | split | dsimp only | dsimp only [Keeps])

theorem refusedRequest_keeps (c : HostCmd) (sub abort : Nat) (d : Device) (h : Keeps A L d) :
    Keeps A L (refusedRequest c sub abort d) := by
  unfold refusedRequest
  repeat' (first | with_reducible assumption | with_reducible apply failCmd_keeps | with_reducible apply failWith_keeps | (with_reducible intro) | split | dsimp only | dsimp only [Keeps])

theorem dictionaryWriteBody_keeps (i : Instr) (c : HostCmd) (index sub : Nat) (value : List Byte) (out : StoreOutcome) (d : Device) (h : Keeps A L d) :
    Keeps A L (dictionaryWriteBody i c index sub value out d) := by
  unfold dictionaryWriteBody
  repeat' (first | with_reducible assumption | (with_reducible refine keeps_snd_of (r := writeObject _ _ _ _ _ _) ‹_› ?_) | with_reducible apply answerPath_keeps | with_reducible apply invalidField_keeps | with_reducible apply refusedRequest_keeps | with_reducible apply succeed_keeps | with_reducible apply writeObject_keeps | (with_reducible intro) | split | dsimp only | dsimp only [Keeps])

theorem dictionaryReadBody_keeps (c : HostCmd) (index sub bytes : Nat) (d : Device) (h : Keeps A L d) :
    Keeps A L (dictionaryReadBody c index sub bytes d) := by
  unfold dictionaryReadBody
  repeat' (first | with_reducible assumption | with_reducible apply answerPath_keeps | with_reducible apply invalidField_keeps | with_reducible apply meetPairs_keeps | with_reducible apply readEffect_keeps | with_reducible apply refusedRequest_keeps | with_reducible apply succeed_keeps | (with_reducible intro) | split | dsimp only | dsimp only [Keeps])

theorem noticeHost_keeps (slot typ : Nat) (h : BitVec 128) (d : Device) (hd : Keeps A L d) :
    Keeps A L (noticeHost slot typ h d) := by
  unfold noticeHost
  repeat' (first | with_reducible assumption | with_reducible apply raiseEvent_keeps | with_reducible apply updPort_keeps | with_reducible apply foldl_keeps | (with_reducible intro) | split | dsimp only | dsimp only [Keeps])

theorem noticeHosts_keeps (slot typ : Nat) (hs : List (BitVec 128)) (d : Device) (h : Keeps A L d) :
    Keeps A L (noticeHosts slot typ hs d) := by
  unfold noticeHosts
  repeat' (first | with_reducible assumption | with_reducible apply noticeHost_keeps | with_reducible apply foldl_keeps | (with_reducible intro) | split | dsimp only | dsimp only [Keeps])

theorem reservationChecks_keeps (c : HostCmd) (ok : Namespace → BitVec 128 → Device → Device) (d : Device) (hk : ∀ a b e, Keeps A L e → Keeps A L (ok a b e)) (h : Keeps A L d) :
    Keeps A L (reservationChecks c ok d) := by
  unfold reservationChecks
  repeat' (first | with_reducible assumption | with_reducible apply failCmd_keeps | with_reducible apply failField_keeps | with_reducible apply invalidField_keeps | with_reducible apply hk | (with_reducible intro) | split | dsimp only | dsimp only [Keeps])

theorem registerBody_keeps (c : HostCmd) (action : Nat) (ignoreKey : Bool) (cptpl current new : Nat) (d : Device) (h : Keeps A L d) :
    Keeps A L (registerBody c action ignoreKey cptpl current new d) := by
  unfold registerBody
  repeat' (first | with_reducible assumption | with_reducible apply failCmd_keeps | with_reducible apply failWith_keeps | with_reducible apply invalidField_keeps | with_reducible apply noticeHosts_keeps | with_reducible apply reservationChecks_keeps | with_reducible apply succeed_keeps | with_reducible apply updNs_keeps | (with_reducible intro) | split | dsimp only | dsimp only [Keeps])

theorem reportBody_keeps (c : HostCmd) (extended : Bool) (bytes : Nat) (d : Device) (h : Keeps A L d) :
    Keeps A L (reportBody c extended bytes d) := by
  unfold reportBody
  repeat' (first | with_reducible assumption | with_reducible apply failCmd_keeps | with_reducible apply reservationChecks_keeps | with_reducible apply succeed_keeps | (with_reducible intro) | split | dsimp only | dsimp only [Keeps])

theorem acquireBody_keeps (c : HostCmd) (action : Nat) (ignoreKey : Bool) (rtype current preempt : Nat) (d : Device) (h : Keeps A L d) :
    Keeps A L (acquireBody c action ignoreKey rtype current preempt d) := by
  unfold acquireBody
  repeat' (first | with_reducible assumption | with_reducible apply failCmd_keeps | with_reducible apply invalidField_keeps | with_reducible apply noticeHosts_keeps | with_reducible apply reservationChecks_keeps | with_reducible apply succeed_keeps | with_reducible apply updNs_keeps | with_reducible apply foldl_keeps | (with_reducible intro) | split | dsimp only | dsimp only [Keeps])

theorem releaseBody_keeps (c : HostCmd) (action : Nat) (ignoreKey : Bool) (rtype current : Nat) (d : Device) (h : Keeps A L d) :
    Keeps A L (releaseBody c action ignoreKey rtype current d) := by
  unfold releaseBody
  repeat' (first | with_reducible assumption | with_reducible apply failCmd_keeps | with_reducible apply invalidField_keeps | with_reducible apply noticeHosts_keeps | with_reducible apply reservationChecks_keeps | with_reducible apply succeed_keeps | with_reducible apply updNs_keeps | (with_reducible intro) | split | dsimp only | dsimp only [Keeps])

theorem heldAdmin_keeps (i : Instr) (c : HostCmd) (k : Device → Device) (d : Device) (hk : ∀ e, Keeps A L e → Keeps A L (k e)) (h : Keeps A L d) :
    Keeps A L (heldAdmin i c k d) := by
  unfold heldAdmin
  repeat' (first | with_reducible assumption | with_reducible apply failCmd_keeps | with_reducible apply hk | (with_reducible intro) | split | dsimp only | dsimp only [Keeps])

theorem serve_keeps (i : Instr) (d : Device) (h : Keeps A L d) :
    Keeps A L (serve i d) := by
  unfold serve
  repeat' (first | with_reducible assumption | with_reducible apply acquireBody_keeps | with_reducible apply canServeWrite_keeps | with_reducible apply commitBody_keeps | with_reducible apply createNamespace_keeps | with_reducible apply datasetBody_keeps | with_reducible apply deleteNamespace_keeps | with_reducible apply dictionaryWriteBody_keeps | with_reducible apply exitFailureBody_keeps | with_reducible apply failCmd_keeps | with_reducible apply flushBody_keeps | with_reducible apply formatBody_keeps | with_reducible apply groupRequest_keeps | with_reducible apply heldAdmin_keeps | with_reducible apply modeRows_keeps | with_reducible apply overwriteBody_keeps | with_reducible apply readBody_keeps | with_reducible apply registerBody_keeps | with_reducible apply releaseBody_keeps | with_reducible apply reportBody_keeps | with_reducible apply sanitizeBody_keeps | with_reducible apply verifyBody_keeps | with_reducible apply writeBody_keeps | with_reducible apply writeRequest_keeps | with_reducible apply writeValue_keeps | with_reducible apply writeZeroesBody_keeps | (with_reducible intro) | split | dsimp only | dsimp only [Keeps])

theorem serveHeld_keeps (d : Device) (h : Keeps A L d) :
    Keeps A L (serveHeld d) := by
  unfold serveHeld
  repeat' (first | with_reducible assumption | with_reducible apply serve_keeps | with_reducible apply foldl_keeps | (with_reducible intro) | split | dsimp only | dsimp only [Keeps])

theorem rerunDelayed_keeps (p : Nat) (d : Device) (h : Keeps A L d) :
    Keeps A L (rerunDelayed p d) := by
  unfold rerunDelayed
  repeat' (first | with_reducible assumption | with_reducible apply serve_keeps | with_reducible apply foldl_keeps | (with_reducible intro) | split | dsimp only | dsimp only [Keeps])

theorem retryPool_keeps (owner pool : Nat) (d : Device) (h : Keeps A L d) :
    Keeps A L (retryPool owner pool d) := by
  unfold retryPool
  repeat' (first | with_reducible assumption | with_reducible apply rerunDelayed_keeps | with_reducible apply retryBuffer_keeps | (with_reducible intro) | split | dsimp only | dsimp only [Keeps])

theorem waitingNotices_keeps (d : Device) (h : Keeps A L d) :
    Keeps A L (waitingNotices d) := by
  unfold waitingNotices
  repeat' (first | with_reducible assumption | with_reducible apply changeMode_keeps | with_reducible apply shutdownWork_keeps | with_reducible apply startShutdown_keeps | with_reducible apply updPort_keeps | with_reducible apply foldl_keeps | (with_reducible intro) | split | dsimp only | dsimp only [Keeps])

theorem returnMode_keeps (d : Device) (h : Keeps A L d) :
    Keeps A L (returnMode d) := by
  unfold returnMode
  repeat' (first | with_reducible assumption | with_reducible apply changeMode_keeps | with_reducible apply driveCharge_keeps | with_reducible apply handleWaitingCarriers_keeps | with_reducible apply incObj_keeps | with_reducible apply logRec_keeps | with_reducible apply serveHeld_keeps | with_reducible apply waitingNotices_keeps | (with_reducible intro) | split | dsimp only | dsimp only [Keeps])

theorem finishFlush_keeps (d : Device) (h : Keeps A L d) :
    Keeps A L (finishFlush d) := by
  unfold finishFlush
  repeat' (first | with_reducible assumption | with_reducible apply enterHalt_keeps | with_reducible apply enterHeld_keeps | with_reducible apply enterLockdown_keeps | with_reducible apply finishCheckpoint_keeps | with_reducible apply returnMode_keeps | with_reducible apply runLogFlush_keeps | with_reducible apply sealAll_keeps | with_reducible apply settle_keeps | with_reducible apply startCheckpoint_keeps | (with_reducible intro) | split | dsimp only | dsimp only [Keeps])

theorem recoveryQualifies_keeps (d : Device) (h : Keeps A L d) :
    Keeps A L (recoveryQualifies d) := by
  unfold recoveryQualifies
  repeat' (first | with_reducible assumption | with_reducible apply handleWaitingCarriers_keeps | with_reducible apply returnMode_keeps | with_reducible apply updateCauses_keeps | (with_reducible intro) | split | dsimp only | dsimp only [Keeps])

theorem portsDown_keeps (d : Device) (h : Keeps A L d) :
    Keeps A L (portsDown d) := by
  unfold portsDown
  repeat' (first | with_reducible assumption | with_reducible apply controllerReset_keeps | with_reducible apply dropLink_keeps | with_reducible apply updPort_keeps | with_reducible apply foldl_keeps | (with_reducible intro) | split | dsimp only | dsimp only [Keeps])

theorem resetDue_keeps (d : Device) (h : Keeps A L d) :
    Keeps A L (resetDue d) := by
  unfold resetDue
  repeat' (first | with_reducible assumption | with_reducible apply closeAllRows_keeps | with_reducible apply portsDown_keeps | (with_reducible intro) | split | dsimp only | dsimp only [Keeps])

theorem heldUnlessFlushing_keeps (d : Device) (h : Keeps A L d) :
    Keeps A L (heldUnlessFlushing d) := by
  unfold heldUnlessFlushing
  repeat' (first | with_reducible assumption | with_reducible apply enterHeld_keeps | (with_reducible intro) | split | dsimp only | dsimp only [Keeps])

theorem assertPerst_keeps (d : Device) (h : Keeps A L d) :
    Keeps A L (assertPerst d) := by
  unfold assertPerst
  repeat' (first | with_reducible assumption | with_reducible apply enterFlush_keeps | with_reducible apply enterHeld_keeps | with_reducible apply heldUnlessFlushing_keeps | with_reducible apply portsDown_keeps | with_reducible apply resetDue_keeps | (with_reducible intro) | split | dsimp only | dsimp only [Keeps])

theorem releaseWake_keeps (d : Device) (h : Keeps A L d) :
    Keeps A L (releaseWake d) := by
  unfold releaseWake
  repeat' (first | with_reducible assumption | with_reducible apply updPort_keeps | with_reducible apply foldl_keeps | (with_reducible intro) | split | dsimp only | dsimp only [Keeps])

theorem enterOff_keeps (d : Device) (h : Keeps A L d) :
    Keeps A L (enterOff d) := by
  unfold enterOff
  repeat' (first | with_reducible assumption | with_reducible apply abandonTest_keeps | with_reducible apply domainFloor_keeps | with_reducible apply heldOutputs_keeps | (with_reducible intro) | split | dsimp only | dsimp only [Keeps])

theorem vsysFalls_keeps (absent : Bool) (d : Device) (h : Keeps A L d) :
    Keeps A L (vsysFalls absent d) := by
  unfold vsysFalls
  repeat' (first | with_reducible assumption | with_reducible apply enterHeld_keeps | with_reducible apply enterOff_keeps | with_reducible apply releaseWake_keeps | (with_reducible intro) | split | dsimp only | dsimp only [Keeps])

theorem powerCycle_keeps (d : Device) (h : Keeps A L d) :
    Keeps A L (powerCycle d) := by
  unfold powerCycle
  repeat' (first | with_reducible assumption | with_reducible apply setObj_keeps | with_reducible apply foldl_keeps | (with_reducible intro) | split | dsimp only | dsimp only [Keeps])

theorem loadCounters_keeps (fault : Nat) (d : Device) (h : Keeps A L d) : Keeps A L (loadCounters fault d) := by
  unfold loadCounters
  split
  · exact h
  · split
    · exact logRec_keeps _ _ _ h
    · have h₁ := logRec_keeps Code.complementDoubleFault [2, counterOffset d] d h
      refine ⟨h₁.1, fun hl => ?_⟩
      obtain ⟨a, b, c, e, _⟩ := h₁.2 hl
      exact ⟨a, b, c, e, Nat.le_add_left _ _, by dsimp only [updCs, freshNat]; omega⟩

theorem runStart_keeps (fault : Nat) (d : Device) (h : Keeps A L d) :
    Keeps A L (runStart fault d) := by
  unfold runStart
  repeat' (first | with_reducible assumption | with_reducible apply loadCounters_keeps | with_reducible apply logbookRunStart_keeps | (with_reducible intro) | split | dsimp only | dsimp only [Keeps])

theorem vsysRises_keeps (fault : Nat) (d : Device) (h : Keeps A L d) :
    Keeps A L (vsysRises fault d) := by
  unfold vsysRises
  repeat' (first | with_reducible assumption | with_reducible apply changeMode_keeps | with_reducible apply powerCycle_keeps | with_reducible apply runStart_keeps | (with_reducible intro) | split | dsimp only | dsimp only [Keeps])

theorem takeNodeId_keeps (d : Device) (h : Keeps A L d) :
    Keeps A L (takeNodeId d) := by
  unfold takeNodeId
  repeat' (first | with_reducible assumption | with_reducible apply logRec_keeps | with_reducible apply setObj_keeps | (with_reducible intro) | split | dsimp only | dsimp only [Keeps])

theorem porReleases_keeps (nodeId fault : Nat) (d : Device) (h : Keeps A L d) :
    Keeps A L (porReleases nodeId fault d) := by
  unfold porReleases
  repeat' (first | with_reducible assumption | with_reducible apply runStart_keeps | with_reducible apply setObj_keeps | with_reducible apply takeNodeId_keeps | (with_reducible intro) | split | dsimp only | dsimp only [Keeps])

theorem porAsserts_keeps (d : Device) (h : Keeps A L d) :
    Keeps A L (porAsserts d) := by
  unfold porAsserts
  repeat' (first | with_reducible assumption | with_reducible apply enterHeld_keeps | with_reducible apply releaseWake_keeps | (with_reducible intro) | split | dsimp only | dsimp only [Keeps])

theorem hourTick_keeps (d : Device) (h : Keeps A L d) : Keeps A L (hourTick d) := by
  unfold hourTick
  split
  · exact h
  · have h₁ := incObj_keeps Obj.operatingHours d h
    exact appendCounterEntry_keeps _ _ (fun hl => (h₁.2 hl).2.2.2.2) h₁

theorem resetObjects_keeps (d : Device) (h : Keeps A L d) :
    Keeps A L (resetObjects d) := by
  unfold resetObjects
  repeat' (first | with_reducible assumption | with_reducible apply setObj_keeps | with_reducible apply foldl_keeps | with_reducible apply foldl_snd_keeps | with_reducible apply foldl_third_keeps | (with_reducible intro) | split | dsimp only | dsimp only [Keeps])

theorem resetMap_keeps (d : Device) (h : Keeps A L d) :
    Keeps A L (resetMap d) := by
  unfold resetMap
  repeat' (first | with_reducible assumption | with_reducible apply setObj_keeps | (with_reducible intro) | split | dsimp only | dsimp only [Keeps])

theorem resetBlocks_keeps (d : Device) (h : Keeps A L d) :
    Keeps A L (resetBlocks d) := by
  unfold resetBlocks
  repeat' (first | with_reducible assumption | with_reducible apply abandonOpen_keeps | with_reducible apply joinRestripe_keeps | with_reducible apply foldl_keeps | with_reducible apply foldl_snd_keeps | with_reducible apply foldl_third_keeps | (with_reducible intro) | split | dsimp only | dsimp only [Keeps])

theorem resetMedia_keeps (d : Device) (h : Keeps A L d) :
    Keeps A L (resetMedia d) := by
  unfold resetMedia
  repeat' (first | with_reducible assumption | with_reducible apply resetBlocks_keeps | with_reducible apply resetMap_keeps | (with_reducible intro) | split | dsimp only | dsimp only [Keeps])

theorem resetStore_keeps (d : Device) (h : Keeps A L d) :
    Keeps A L (resetStore d) := by
  unfold resetStore
  repeat' (first | with_reducible assumption | with_reducible apply restartRecovery_keeps | with_reducible apply setObj_keeps | with_reducible apply updCs_keeps | with_reducible rfl | exact congrArg CodeStore.counters (id_eq _) | (simp only [eraseBlock_counters, logAppend_counters, foldl_eraseBlock_counters]; done) | (with_reducible intro) | split | dsimp only | dsimp only [Keeps])

theorem rebuildLedgers_keeps (d : Device) (h : Keeps A L d) : Keeps A L (rebuildLedgers d) := by
  have sound (t : Nat) : LedgerSound (rebuildLedger t) := ⟨⟨rfl, rfl⟩, by simp [rebuildLedger, setTotal, pairMatches]⟩
  have all : ∀ m : SMap Ledger, (∀ e ∈ m, LedgerSound e.2) → ∀ l, LedgerSound (smGet {} m l) := by
    intro m
    induction m with
    | nil => exact fun _ l => ⟨⟨rfl, rfl⟩, rfl⟩
    | cons x m ih =>
      intro hm l
      rw [show smGet {} (x :: m) l = if x.1 = l then x.2 else smGet {} m l from rfl]
      split
      · exact hm x List.mem_cons_self
      · exact ih (fun e he => hm e (List.mem_cons_of_mem _ he)) l
  refine ⟨fun ha => ⟨all _ fun e he => ?_, (h.1 ha).2⟩, h.2⟩
  rcases List.mem_cons.mp he with rfl | he
  · exact sound _
  · obtain ⟨i, _, rfl⟩ := List.mem_map.mp he
    exact sound _

theorem resetDevice_keeps (d : Device) (h : Keeps A L d) :
    Keeps A L (resetDevice d) := by
  unfold resetDevice
  repeat' (first | with_reducible assumption | with_reducible apply nodeConflict_keeps | with_reducible apply resetMedia_keeps | with_reducible apply resetObjects_keeps | with_reducible apply resetPath_keeps | with_reducible apply resetStore_keeps | with_reducible apply setThermalBit_keeps | with_reducible apply takeNodeId_keeps | with_reducible apply foldl_keeps | (with_reducible intro) | split | dsimp only | dsimp only [Keeps])

theorem releaseInto_keeps (m : Mode) (d : Device) (h : Keeps A L d) :
    Keeps A L (releaseInto m d) := by
  unfold releaseInto
  repeat' (first | with_reducible assumption | with_reducible apply domainFloor_keeps | with_reducible apply driveCharge_keeps | with_reducible apply setObj_keeps | (with_reducible intro) | split | dsimp only | dsimp only [Keeps])

theorem samplePortcfg_keeps (v : Nat) (d : Device) (h : Keeps A L d) :
    Keeps A L (samplePortcfg v d) := by
  unfold samplePortcfg
  repeat' (first | with_reducible assumption | with_reducible apply logRec_keeps | with_reducible apply setObj_keeps | (with_reducible intro) | split | dsimp only | dsimp only [Keeps])

theorem noteCopies_keeps (x : BootInputs) (d : Device) (h : Keeps A L d) :
    Keeps A L (noteCopies x d) := by
  unfold noteCopies
  repeat' (first | with_reducible assumption | with_reducible apply setCopy_keeps | with_reducible apply updCs_keeps | with_reducible rfl | exact congrArg CodeStore.counters (id_eq _) | (simp only [eraseBlock_counters, logAppend_counters, foldl_eraseBlock_counters]; done) | (with_reducible intro) | split | dsimp only | dsimp only [Keeps])

theorem dropTorn_keeps (d : Device) (t : Bool × Nat) (h : Keeps A L d) :
    Keeps A L (dropTorn d t) := by
  unfold dropTorn
  repeat' (first | with_reducible assumption | with_reducible apply logRec_keeps | with_reducible apply setCopy_keeps | (with_reducible intro) | split | dsimp only | dsimp only [Keeps])

theorem trainDram_keeps (x : BootInputs) (d : Device) (h : Keeps A L d) :
    Keeps A L (trainDram x d) := by
  unfold trainDram
  repeat' (first | with_reducible assumption | with_reducible apply logRec_keeps | with_reducible apply setObj_keeps | with_reducible apply toLockdown_keeps | (with_reducible intro) | split | dsimp only | dsimp only [Keeps])

theorem bootSlot_keeps (x : BootInputs) (d : Device) (hx : A → ∀ m ∈ x.mismatches, m.row ≠ 3) (h : Keeps A L d) :
    Keeps A L (bootSlot x d).1 := by
  unfold bootSlot
  repeat' (first | with_reducible assumption | (with_reducible refine keeps_fst_of (r := bootSelect _ _) ‹_› ?_) | (with_reducible refine keeps_fst_of (r := selectSettings _ _) ‹_› ?_) | with_reducible apply bootSelect_keeps | with_reducible apply changeMode_keeps | with_reducible apply dropTorn_keeps | with_reducible apply loadSettings_keeps | with_reducible apply logRec_keeps | with_reducible apply rebuildLedgers_keeps | with_reducible apply selectSettings_keeps | with_reducible refine takeMismatches_keeps _ _ hx ?_ | with_reducible apply trainDram_keeps | with_reducible apply updPort_keeps | with_reducible apply withhold_keeps | with_reducible apply foldl_keeps | with_reducible apply foldl_snd_keeps | with_reducible apply foldl_third_keeps | (with_reducible intro) | split | dsimp only | dsimp only [Keeps])

theorem releaseOnce_keeps (x : BootInputs) (d : Device) (hx : A → ∀ m ∈ x.mismatches, m.row ≠ 3) (h : Keeps A L d) :
    Keeps A L (releaseOnce x d).1 := by
  unfold releaseOnce
  repeat' (first | with_reducible assumption | (with_reducible refine keeps_fst_of (r := bootSlot _ _) ‹_› (bootSlot_keeps _ _ hx ?_)) | (with_reducible refine keeps_fst_of (r := loadOptionArea _ _) ‹_› ?_) | with_reducible refine bootSlot_keeps _ _ hx ?_ | with_reducible apply enterHalt_keeps | with_reducible apply loadOptionArea_keeps | with_reducible apply logRec_keeps | with_reducible apply noteCopies_keeps | with_reducible apply rebuildBootControl_keeps | with_reducible apply rebuildLedgers_keeps | with_reducible apply redoErases_keeps | with_reducible apply releaseInto_keeps | with_reducible apply resetDevice_keeps | with_reducible apply rewriteOptionArea_keeps | with_reducible apply samplePortcfg_keeps | (with_reducible intro) | split | dsimp only | dsimp only [Keeps])

theorem releaseReset_keeps (x : BootInputs) (d : Device) (hx : A → ∀ m ∈ x.mismatches, m.row ≠ 3) (h : Keeps A L d) :
    Keeps A L (releaseReset x d) := by
  unfold releaseReset
  repeat' (first | with_reducible assumption | (with_reducible refine keeps_fst_of (r := releaseOnce _ _) ‹_› (releaseOnce_keeps _ _ hx ?_)) | with_reducible apply enterHeld_keeps | with_reducible refine releaseOnce_keeps _ _ hx ?_ | (with_reducible intro) | split | dsimp only | dsimp only [Keeps])

theorem passMs_keeps (d : Device) (h : Keeps A L d) :
    Keeps A L (passMs d) := by
  unfold passMs
  repeat' (first | with_reducible assumption | with_reducible apply addObj_keeps | (with_reducible intro) | split | dsimp only | dsimp only [Keeps])

theorem epochCopy_keeps (lines : Nat) (good : Bool) (d : Device) (h : Keeps A L d) :
    Keeps A L (epochCopy lines good d) := by
  unfold epochCopy
  repeat' (first | with_reducible assumption | with_reducible apply addObj_keeps | with_reducible apply setObj_keeps | (with_reducible intro) | split | dsimp only | dsimp only [Keeps])

theorem complexesAtEpoch_keeps (crcEqual : Bool) (d : Device) (h : Keeps A L d) :
    Keeps A L (complexesAtEpoch crcEqual d) := by
  unfold complexesAtEpoch
  repeat' (first | with_reducible assumption | with_reducible apply returnAtEpoch_keeps | with_reducible apply setObj_keeps | with_reducible apply updCpx_keeps | (with_reducible intro) | split | dsimp only | dsimp only [Keeps])

theorem loadSuperblock_keeps (bad : List Nat) (faults : List (Nat × Bool)) (d : Device) (h : Keeps A L d) :
    Keeps A L (loadSuperblock bad faults d) := by
  unfold loadSuperblock
  repeat' (first | with_reducible assumption | with_reducible apply logRec_keeps | with_reducible apply markLoaded_keeps | with_reducible apply unwrapKeys_keeps | with_reducible apply updSec_keeps | with_reducible apply foldl_keeps | with_reducible apply foldl_snd_keeps | with_reducible apply foldl_third_keeps | (with_reducible intro) | split | dsimp only | dsimp only [Keeps])

theorem followJournal_keeps (bad : List (Nat × Bool)) (dirtyEnd : Bool) (d : Device) (h : Keeps A L d) :
    Keeps A L (followJournal bad dirtyEnd d) := by
  unfold followJournal
  repeat' (first | with_reducible assumption | with_reducible apply logRec_keeps | with_reducible apply setObj_keeps | with_reducible apply updMap_keeps | with_reducible apply foldl_keeps | with_reducible apply foldl_snd_keeps | with_reducible apply foldl_third_keeps | (with_reducible intro) | split | dsimp only | dsimp only [Keeps])

theorem rebuildStripes_keeps (d : Device) (h : Keeps A L d) :
    Keeps A L (rebuildStripes d) := by
  unfold rebuildStripes
  repeat' (first | with_reducible assumption | with_reducible apply foldl_keeps | with_reducible apply foldl_snd_keeps | with_reducible apply foldl_third_keeps | (with_reducible intro) | split | dsimp only | dsimp only [Keeps])

theorem replayTable_keeps (bad : List (Nat × Bool)) (d : Device) (h : Keeps A L d) :
    Keeps A L (replayTable bad d) := by
  unfold replayTable
  repeat' (first | with_reducible assumption | with_reducible apply closeBlocks_keeps | with_reducible apply rebuildStripes_keeps | with_reducible apply updBlock_keeps | with_reducible apply updRc_keeps | with_reducible apply foldl_keeps | with_reducible apply foldl_snd_keeps | with_reducible apply foldl_third_keeps | (with_reducible intro) | split | dsimp only | dsimp only [Keeps])

theorem loadDirectory_keeps (lost : List (Nat × Nat)) (d : Device) (h : Keeps A L d) :
    Keeps A L (loadDirectory lost d) := by
  unfold loadDirectory
  repeat' (first | with_reducible assumption | with_reducible apply directoryMismatch_keeps | with_reducible apply markLoaded_keeps | with_reducible apply updPort_keeps | with_reducible apply foldl_keeps | with_reducible apply foldl_snd_keeps | with_reducible apply foldl_third_keeps | (with_reducible intro) | split | dsimp only | dsimp only [Keeps])

theorem wakeInputs_keeps (x : EpochInputs) (d : Device) (h : Keeps A L d) :
    Keeps A L (wakeInputs x d) := by
  unfold wakeInputs
  repeat' (first | with_reducible assumption | with_reducible apply followJournal_keeps | with_reducible apply loadDirectory_keeps | with_reducible apply loadSuperblock_keeps | with_reducible apply logRec_keeps | with_reducible apply replayTable_keeps | with_reducible apply foldl_keeps | (with_reducible intro) | split | dsimp only | dsimp only [Keeps])

theorem indexLogbook_keeps (x : EpochInputs) (d : Device) (h : Keeps A L d) :
    Keeps A L (indexLogbook x d) := by
  unfold indexLogbook
  repeat' (first | with_reducible assumption | with_reducible apply logRec_keeps | (with_reducible intro) | split | dsimp only | dsimp only [Keeps])

theorem endStaging_keeps (d : Device) (h : Keeps A L d) :
    Keeps A L (endStaging d) := by
  unfold endStaging
  repeat' (first | with_reducible assumption | with_reducible apply loseBank_keeps | with_reducible apply noteBanks_keeps | with_reducible apply foldl_keeps | (with_reducible intro) | split | dsimp only | dsimp only [Keeps])

theorem bootInputs_keeps (x : EpochInputs) (d : Device) (h : Keeps A L d) :
    Keeps A L (bootInputs x d) := by
  unfold bootInputs
  repeat' (first | with_reducible assumption | with_reducible apply setObj_keeps | (with_reducible intro) | split | dsimp only | dsimp only [Keeps])

theorem reportFree_keeps (d : Device) (h : Keeps A L d) :
    Keeps A L (reportFree d) := by
  unfold reportFree
  repeat' (first | with_reducible assumption | with_reducible apply setObj_keeps | with_reducible apply foldl_keeps | (with_reducible intro) | split | dsimp only | dsimp only [Keeps])

theorem noteGrowth_keeps (d : Device) (h : Keeps A L d) :
    Keeps A L (noteGrowth d) := by
  unfold noteGrowth
  repeat' (first | with_reducible assumption | (with_reducible intro) | split | dsimp only | dsimp only [Keeps])

theorem countTimes_keeps (d : Device) (h : Keeps A L d) :
    Keeps A L (countTimes d) := by
  unfold countTimes
  repeat' (first | with_reducible assumption | (with_reducible intro) | split | dsimp only | dsimp only [Keeps])

theorem raiseWarnings_keeps (d : Device) (h : Keeps A L d) :
    Keeps A L (raiseWarnings d) := by
  unfold raiseWarnings
  repeat' (first | with_reducible assumption | with_reducible apply raiseEvent_keeps | with_reducible apply foldl_keeps | (with_reducible intro) | split | dsimp only | dsimp only [Keeps])

theorem dueAtEpoch_keeps (d : Device) (h : Keeps A L d) :
    Keeps A L (dueAtEpoch d) := by
  unfold dueAtEpoch
  repeat' (first | with_reducible assumption | with_reducible apply closeAllRows_keeps | with_reducible apply dueTransitions_keeps | with_reducible apply startCheckpoint_keeps | (with_reducible intro) | split | dsimp only | dsimp only [Keeps])

theorem carriersAtEpoch_keeps (d : Device) (h : Keeps A L d) :
    Keeps A L (carriersAtEpoch d) := by
  unfold carriersAtEpoch
  repeat' (first | with_reducible assumption | with_reducible apply handleWaitingCarriers_keeps | with_reducible apply updCarrier_keeps | with_reducible apply windowEnds_keeps | with_reducible apply foldl_keeps | (with_reducible intro) | split | dsimp only | dsimp only [Keeps])

theorem mediaAtEpoch_keeps (d : Device) (h : Keeps A L d) :
    Keeps A L (mediaAtEpoch d) := by
  unfold mediaAtEpoch
  repeat' (first | with_reducible assumption | with_reducible apply dropLostBanks_keeps | with_reducible apply endStaging_keeps | with_reducible apply finishScans_keeps | with_reducible apply noteGrowth_keeps | with_reducible apply queueAged_keeps | with_reducible apply refreshAside_keeps | with_reducible apply refreshPins_keeps | with_reducible apply startOps_keeps | with_reducible apply stepJobs_keeps | with_reducible apply updateDivision_keeps | with_reducible apply foldl_keeps | with_reducible apply foldl_snd_keeps | with_reducible apply foldl_third_keeps | (with_reducible intro) | split | dsimp only | dsimp only [Keeps])

theorem serviceEpoch_keeps (x : EpochInputs) (d : Device) (hx : A → ∀ m ∈ x.mismatches ++ x.damaged, m.row ≠ 3) (h : Keeps A L d) :
    Keeps A L (serviceEpoch x d) := by
  unfold serviceEpoch
  repeat' (first | with_reducible assumption | with_reducible apply bootInputs_keeps | with_reducible apply carriersAtEpoch_keeps | with_reducible apply complexesAtEpoch_keeps | with_reducible apply countTimes_keeps | with_reducible apply drainBuffer_keeps | with_reducible apply dueAtEpoch_keeps | with_reducible apply energyAtEpoch_keeps | with_reducible apply epochCopy_keeps | with_reducible apply firstService_keeps | with_reducible apply indexLogbook_keeps | with_reducible apply lineError_keeps | with_reducible apply mediaAtEpoch_keeps | with_reducible apply raiseWarnings_keeps | with_reducible apply reportFree_keeps | with_reducible apply rerunDelayed_keeps | with_reducible apply sanitizeStep_keeps | with_reducible refine takeMismatches_keeps _ _ (fun ha m hm => hx ha m (List.mem_append_left _ hm)) ?_ | with_reducible refine keeps_damaged (fun ha m hm => hx ha m (List.mem_append_right _ hm)) ?_ | with_reducible apply updateCauses_keeps | with_reducible apply wakeInputs_keeps | with_reducible apply foldl_keeps | (with_reducible intro) | split | dsimp only | dsimp only [Keeps])

theorem controlEpoch_keeps (x : EpochInputs) (d : Device) (hx : A → ∀ m ∈ x.mismatches ++ x.damaged, m.row ≠ 3) (h : Keeps A L d) :
    Keeps A L (controlEpoch x d) := by
  unfold controlEpoch
  repeat' (first | with_reducible assumption | with_reducible apply checkLedger_keeps | with_reducible apply passMs_keeps | with_reducible refine serviceEpoch_keeps _ _ hx ?_ | with_reducible apply foldl_keeps | (with_reducible intro) | split | dsimp only | dsimp only [Keeps])

end
end Sys2Proof.Machine
end

