-- ==== Sys2Proof/Laws/KeepsExec.lean ====
section
/-! SUPPORT. Every command keeps the ledgers sound and the logbook within its bounds: one lemma per meaning, in the files' order. -/
namespace Sys2Proof.Machine
section
set_option Elab.async false
set_option linter.unusedTactic false
set_option linter.unreachableTactic false
variable {A L : Prop}

/-- What `Keeps` says of a device, said of the next state of an outcome. -/
def KeepsNext (A L : Prop) : Host.Outcome State Fault Refusal → Prop
  | .next t => Keeps A L t.dev
  | _ => True

theorem runDev_keeps (f : Device → Device) (s : State) (h : Keeps A L (f s.dev)) : KeepsNext A L (runDev f s) := h

theorem execTokenRequest_keeps (bank : Bank) (amount : Nat) (flush : Bool) (s : State) (h : Keeps A L s.dev) :
    KeepsNext A L (execTokenRequest bank amount flush s) := by
  unfold execTokenRequest
  repeat' (first | with_reducible apply runDev_keeps | with_reducible assumption | with_reducible apply requestTokens_keeps | (with_reducible intro) | split | dsimp only)

theorem execTokenGrant_keeps (s : State) (h : Keeps A L s.dev) :
    KeepsNext A L (execTokenGrant s) := by
  unfold execTokenGrant
  repeat' (first | with_reducible apply runDev_keeps | with_reducible assumption | with_reducible apply serveNext_keeps | (with_reducible intro) | split | dsimp only)

theorem execTokenReturn_keeps (bank : Bank) (amount : Nat) (s : State) (h : Keeps A L s.dev) :
    KeepsNext A L (execTokenReturn bank amount s) := by
  unfold execTokenReturn
  repeat' (first | with_reducible apply runDev_keeps | with_reducible assumption | with_reducible apply tokensBack_keeps | (with_reducible intro) | split | dsimp only)

theorem execTokenGuardEngage_keeps (bank : Bank) (s : State) (h : Keeps A L s.dev) :
    KeepsNext A L (execTokenGuardEngage bank s) := by
  unfold execTokenGuardEngage
  repeat' (first | with_reducible apply runDev_keeps | with_reducible assumption | with_reducible apply engageGuard_keeps | (with_reducible intro) | split | dsimp only)

theorem execPowerUpTokensReturn_keeps (bank : Bank) (s : State) (h : Keeps A L s.dev) :
    KeepsNext A L (execPowerUpTokensReturn bank s) := by
  unfold execPowerUpTokensReturn
  repeat' (first | with_reducible apply runDev_keeps | with_reducible assumption | with_reducible apply powerUpBack_keeps | (with_reducible intro) | split | dsimp only)

theorem execPoolRequest_keeps (owner size : Nat) (standing : Bool) (s : State) (h : Keeps A L s.dev) :
    KeepsNext A L (execPoolRequest owner size standing s) := by
  unfold execPoolRequest
  repeat' (first | with_reducible apply runDev_keeps | with_reducible assumption | with_reducible apply requestBuffer_keeps | (with_reducible intro) | split | dsimp only)

theorem execBufferReturn_keeps (owner pool index : Nat) (s : State) (h : Keeps A L s.dev) :
    KeepsNext A L (execBufferReturn owner pool index s) := by
  unfold execBufferReturn
  repeat' (first | with_reducible apply runDev_keeps | with_reducible assumption | with_reducible apply returnBuffer_keeps | (with_reducible intro) | split | dsimp only)

theorem execBufferHeldLong_keeps (owner : Nat) (s : State) (h : Keeps A L s.dev) :
    KeepsNext A L (execBufferHeldLong owner s) := by
  unfold execBufferHeldLong
  repeat' (first | with_reducible apply runDev_keeps | with_reducible assumption | with_reducible apply auditOwner_keeps | (with_reducible intro) | split | dsimp only)

theorem execFabricCreditReturn_keeps (link : Nat) (s : State) (h : Keeps A L s.dev) :
    KeepsNext A L (execFabricCreditReturn link s) := by
  unfold execFabricCreditReturn
  repeat' (first | with_reducible apply runDev_keeps | with_reducible assumption | with_reducible apply creditBack_keeps | (with_reducible intro) | split | dsimp only)

theorem execHeartbeat_keeps (s : State) (h : Keeps A L s.dev) :
    KeepsNext A L (execHeartbeat s) := by
  unfold execHeartbeat
  repeat' (first | with_reducible apply runDev_keeps | with_reducible assumption | with_reducible apply queueHeartbeat_keeps | (with_reducible intro) | split | dsimp only)

theorem execTimeSync_keeps (ms elapsed : Nat) (s : State) (h : Keeps A L s.dev) :
    KeepsNext A L (execTimeSync ms elapsed s) := by
  unfold execTimeSync
  repeat' (first | with_reducible apply runDev_keeps | with_reducible assumption | with_reducible apply takeTimeSync_keeps | (with_reducible intro) | split | dsimp only)

theorem execWakeFrame_keeps (flags seq : Nat) (s : State) (h : Keeps A L s.dev) :
    KeepsNext A L (execWakeFrame flags seq s) := by
  unfold execWakeFrame
  repeat' (first | with_reducible apply runDev_keeps | with_reducible assumption | with_reducible apply takeWakeFrame_keeps | (with_reducible intro) | split | dsimp only)

theorem execCanFrameIgnored_keeps (s : State) (h : Keeps A L s.dev) :
    KeepsNext A L (execCanFrameIgnored s) := by
  unfold execCanFrameIgnored
  repeat' (first | with_reducible apply runDev_keeps | with_reducible assumption | with_reducible apply incObj_keeps | (with_reducible intro) | split | dsimp only)

theorem execCanNodeIdConflict_keeps (func : Nat) (s : State) (h : Keeps A L s.dev) :
    KeepsNext A L (execCanNodeIdConflict func s) := by
  unfold execCanNodeIdConflict
  repeat' (first | with_reducible apply runDev_keeps | with_reducible assumption | with_reducible apply nodeConflict_keeps | (with_reducible intro) | split | dsimp only)

theorem execCanBusOffRecovery_keeps (s : State) (h : Keeps A L s.dev) :
    KeepsNext A L (execCanBusOffRecovery s) := by
  unfold execCanBusOffRecovery
  repeat' (first | with_reducible apply runDev_keeps | with_reducible assumption | with_reducible apply recoverBus_keeps | (with_reducible intro) | split | dsimp only)

theorem execCanBusOff_keeps (s : State) (h : Keeps A L s.dev) :
    KeepsNext A L (execCanBusOff s) := by
  unfold execCanBusOff
  repeat' (first | with_reducible apply runDev_keeps | with_reducible assumption | with_reducible apply enterBusOff_keeps | (with_reducible intro) | split | dsimp only)

theorem execCanFrameTransmitted_keeps (error wins : Bool) (s : State) (h : Keeps A L s.dev) :
    KeepsNext A L (execCanFrameTransmitted error wins s) := by
  unfold execCanFrameTransmitted
  repeat' (first | with_reducible apply runDev_keeps | with_reducible assumption | with_reducible apply frameEnds_keeps | with_reducible apply onlyIf_keeps | with_reducible apply winBus_keeps | (with_reducible intro) | split | dsimp only)

theorem execNoticeWithdrawal_keeps (s : State) (h : Keeps A L s.dev) :
    KeepsNext A L (execNoticeWithdrawal s) := by
  unfold execNoticeWithdrawal
  repeat' (first | with_reducible apply runDev_keeps | with_reducible assumption | with_reducible apply withdrawNotices_keeps | (with_reducible intro) | split | dsimp only)

theorem execCanReceiveError_keeps (increment : Nat) (s : State) (h : Keeps A L s.dev) :
    KeepsNext A L (execCanReceiveError increment s) := by
  unfold execCanReceiveError
  repeat' (first | with_reducible apply runDev_keeps | with_reducible assumption | with_reducible apply errorState_keeps | with_reducible apply setObj_keeps | (with_reducible intro) | split | dsimp only)

theorem execCeilingEntryVerified_keeps (s : State) (h : Keeps A L s.dev) :
    KeepsNext A L (execCeilingEntryVerified s) := by
  unfold execCeilingEntryVerified
  repeat' (first | with_reducible apply runDev_keeps | with_reducible assumption | with_reducible apply ceilingVerified_keeps | (with_reducible intro) | split | dsimp only)

theorem execEraseComplete_keeps (die : Die) (slot : Fin 2) (failed : List Nat) (s : State) (h : Keeps A L s.dev) :
    KeepsNext A L (execEraseComplete die slot failed s) := by
  unfold execEraseComplete
  repeat' (first | with_reducible apply runDev_keeps | with_reducible assumption | with_reducible apply eraseEnds_keeps | with_reducible apply startOp_keeps | (with_reducible intro) | split | dsimp only)

theorem execGroupEraseStale_keeps (die : Die) (slot : Fin 2) (s : State) (h : Keeps A L s.dev) :
    KeepsNext A L (execGroupEraseStale die slot s) := by
  unfold execGroupEraseStale
  repeat' (first | with_reducible apply runDev_keeps | with_reducible assumption | with_reducible apply eraseAgain_keeps | with_reducible apply startOp_keeps | (with_reducible intro) | split | dsimp only)

theorem execFormPlaneGroup_keeps (die : Die) (slot : Fin 2) (s : State) (h : Keeps A L s.dev) :
    KeepsNext A L (execFormPlaneGroup die slot s) := by
  unfold execFormPlaneGroup
  repeat' (first | with_reducible apply runDev_keeps | with_reducible assumption | with_reducible apply formGroup_keeps | with_reducible apply startOp_keeps | (with_reducible intro) | split | dsimp only)

theorem execUnmap_keeps (slot first count : Nat) (s : State) (h : Keeps A L s.dev) :
    KeepsNext A L (execUnmap slot first count s) := by
  unfold execUnmap
  repeat' (first | with_reducible apply runDev_keeps | with_reducible assumption | with_reducible apply mapUpdate_keeps | (with_reducible intro) | split | dsimp only)

theorem execMarkLost_keeps (slot grain pointer : Nat) (s : State) (h : Keeps A L s.dev) :
    KeepsNext A L (execMarkLost slot grain pointer s) := by
  unfold execMarkLost
  repeat' (first | with_reducible apply runDev_keeps | with_reducible assumption | with_reducible apply mapUpdate_keeps | with_reducible apply markLost_keeps | (with_reducible intro) | split | dsimp only)

theorem execRegionReset_keeps (slot : Nat) (s : State) (h : Keeps A L s.dev) :
    KeepsNext A L (execRegionReset slot s) := by
  unfold execRegionReset
  repeat' (first | with_reducible apply runDev_keeps | with_reducible assumption | with_reducible apply regionReset_keeps | (with_reducible intro) | split | dsimp only)

theorem execMapPageLoad_keeps (slot page : Nat) (readable : Bool) (bad : List Nat) (s : State) (h : Keeps A L s.dev) :
    KeepsNext A L (execMapPageLoad slot page readable bad s) := by
  unfold execMapPageLoad
  repeat' (first | with_reducible apply runDev_keeps | with_reducible assumption | with_reducible apply loadPage_keeps | with_reducible apply onlyIf_keeps | (with_reducible intro) | split | dsimp only)

theorem execBackgroundLoad_keeps (readable : Bool) (bad : List Nat) (s : State) (h : Keeps A L s.dev) :
    KeepsNext A L (execBackgroundLoad readable bad s) := by
  unfold execBackgroundLoad
  repeat' (first | with_reducible apply runDev_keeps | with_reducible assumption | with_reducible apply backgroundPage_keeps | with_reducible apply onlyIf_keeps | with_reducible apply setObj_keeps | (with_reducible intro) | split | dsimp only)

theorem execMapLineReloaded_keeps (slot line : Nat) (good : Bool) (s : State) (h : Keeps A L s.dev) :
    KeepsNext A L (execMapLineReloaded slot line good s) := by
  unfold execMapLineReloaded
  repeat' (first | with_reducible apply runDev_keeps | with_reducible assumption | with_reducible apply lineReloaded_keeps | (with_reducible intro) | split | dsimp only)

theorem execCheckpointStart_keeps (s : State) (h : Keeps A L s.dev) :
    KeepsNext A L (execCheckpointStart s) := by
  unfold execCheckpointStart
  repeat' (first | with_reducible apply runDev_keeps | with_reducible assumption | with_reducible apply onlyIf_keeps | with_reducible apply startCheckpoint_keeps | (with_reducible intro) | split | dsimp only)

theorem execCheckpointInterval_keeps (s : State) (h : Keeps A L s.dev) :
    KeepsNext A L (execCheckpointInterval s) := by
  unfold execCheckpointInterval
  repeat' (first | with_reducible apply runDev_keeps | with_reducible assumption | with_reducible apply onlyIf_keeps | with_reducible apply startCheckpoint_keeps | (with_reducible intro) | split | dsimp only)

theorem execSuperblockWrite_keeps (failed : List Nat) (s : State) (h : Keeps A L s.dev) :
    KeepsNext A L (execSuperblockWrite failed s) := by
  unfold execSuperblockWrite
  repeat' (first | with_reducible apply runDev_keeps | with_reducible assumption | with_reducible apply superblockWritten_keeps | (with_reducible intro) | split | dsimp only)

theorem execFreshRead_keeps (block wordline : Nat) (reads : SampleReads) (capacity : List (List Nat)) (s : State) (h : Keeps A L s.dev) :
    KeepsNext A L (execFreshRead block wordline reads capacity s) := by
  unfold execFreshRead
  repeat' (first | with_reducible apply runDev_keeps | with_reducible assumption | with_reducible apply freshReadDone_keeps | (with_reducible intro) | split | dsimp only)

theorem execWearSlopeRecompute_keeps (s : State) (h : Keeps A L s.dev) :
    KeepsNext A L (execWearSlopeRecompute s) := by
  unfold execWearSlopeRecompute
  repeat' (first | with_reducible apply runDev_keeps | with_reducible assumption | with_reducible apply recomputeSlope_keeps | with_reducible apply foldl_keeps | (with_reducible intro) | split | dsimp only)

theorem execEtaReportUpdate_keeps (s : State) (h : Keeps A L s.dev) :
    KeepsNext A L (execEtaReportUpdate s) := by
  unfold execEtaReportUpdate
  repeat' (first | with_reducible apply runDev_keeps | with_reducible assumption | with_reducible apply updateEta_keeps | (with_reducible intro) | split | dsimp only)

theorem execGrainCompressed_keeps (id : Nat) (engine : Fin 8) (disagrees : Bool) (s : State) (h : Keeps A L s.dev) :
    KeepsNext A L (execGrainCompressed id engine disagrees s) := by
  unfold execGrainCompressed
  repeat' (first | with_reducible apply runDev_keeps | with_reducible assumption | with_reducible apply compressed_keeps | (with_reducible intro) | split | dsimp only)

theorem execRowGathered_keeps (stripe : Nat) (s : State) (h : Keeps A L s.dev) :
    KeepsNext A L (execRowGathered stripe s) := by
  unfold execRowGathered
  repeat' (first | with_reducible apply runDev_keeps | with_reducible assumption | with_reducible apply gatherRow_keeps | with_reducible apply placeWaiting_keeps | (with_reducible intro) | split | dsimp only)

theorem execRowCloseTimeout_keeps (stripe : Nat) (s : State) (h : Keeps A L s.dev) :
    KeepsNext A L (execRowCloseTimeout stripe s) := by
  unfold execRowCloseTimeout
  repeat' (first | with_reducible apply runDev_keeps | with_reducible assumption | with_reducible apply forceClose_keeps | with_reducible apply placeWaiting_keeps | with_reducible apply foldl_keeps | (with_reducible intro) | split | dsimp only)

theorem execStripeOpen_keeps (kind : Fin 3) (s : State) (h : Keeps A L s.dev) :
    KeepsNext A L (execStripeOpen kind s) := by
  unfold execStripeOpen
  repeat' (first | with_reducible apply runDev_keeps | with_reducible assumption | with_reducible apply openStripe_keeps | (with_reducible intro) | split | dsimp only)

theorem execProgramPassComplete_keeps (die : Die) (slot : Fin 2) (failed : List Nat) (s : State) (h : Keeps A L s.dev) :
    KeepsNext A L (execProgramPassComplete die slot failed s) := by
  unfold execProgramPassComplete
  repeat' (first | with_reducible apply runDev_keeps | with_reducible assumption | with_reducible apply passEnds_keeps | with_reducible apply placeWaiting_keeps | with_reducible apply startOp_keeps | (with_reducible intro) | split | dsimp only)

theorem execWriteCompletion_keeps (id : Nat) (s : State) (h : Keeps A L s.dev) :
    KeepsNext A L (execWriteCompletion id s) := by
  unfold execWriteCompletion
  repeat' (first | with_reducible apply runDev_keeps | with_reducible assumption | with_reducible apply completeWrite_keeps | (with_reducible intro) | split | dsimp only)

theorem execPlace_keeps (id : Nat) (s : State) (h : Keeps A L s.dev) :
    KeepsNext A L (execPlace id s) := by
  unfold execPlace
  repeat' (first | with_reducible apply runDev_keeps | with_reducible assumption | with_reducible apply placeUpdate_keeps | (with_reducible intro) | split | dsimp only)

theorem execRelocate_keeps (id : Nat) (s : State) (h : Keeps A L s.dev) :
    KeepsNext A L (execRelocate id s) := by
  unfold execRelocate
  repeat' (first | with_reducible apply runDev_keeps | with_reducible assumption | with_reducible apply relocateUpdate_keeps | (with_reducible intro) | split | dsimp only)

theorem execJournalFrameSeal_keeps (copy1 copy2 : Bool) (s : State) (h : Keeps A L s.dev) :
    KeepsNext A L (execJournalFrameSeal copy1 copy2 s) := by
  unfold execJournalFrameSeal
  repeat' (first | with_reducible apply runDev_keeps | with_reducible assumption | with_reducible apply onlyIf_keeps | with_reducible apply sealAndClose_keeps | (with_reducible intro) | split | dsimp only)

theorem execJournalSealTimeout_keeps (copy1 copy2 : Bool) (s : State) (h : Keeps A L s.dev) :
    KeepsNext A L (execJournalSealTimeout copy1 copy2 s) := by
  unfold execJournalSealTimeout
  repeat' (first | with_reducible apply runDev_keeps | with_reducible assumption | with_reducible apply onlyIf_keeps | with_reducible apply sealAndClose_keeps | (with_reducible intro) | split | dsimp only)

theorem execLogbookFlush_keeps (s : State) (h : Keeps A L s.dev) :
    KeepsNext A L (execLogbookFlush s) := by
  unfold execLogbookFlush
  repeat' (first | with_reducible apply runDev_keeps | with_reducible assumption | with_reducible apply runLogFlush_keeps | (with_reducible intro) | split | dsimp only)

theorem execCheckpointSuperblock_keeps (failed : List Nat) (s : State) (h : Keeps A L s.dev) :
    KeepsNext A L (execCheckpointSuperblock failed s) := by
  unfold execCheckpointSuperblock
  repeat' (first | with_reducible apply runDev_keeps | with_reducible assumption | with_reducible apply finishCheckpoint_keeps | with_reducible apply settle_keeps | (with_reducible intro) | split | dsimp only)

theorem execWrite_keeps (cmd : HostCmd) (slba nlb : Nat) (fua : Bool) (s : State) (h : Keeps A L s.dev) :
    KeepsNext A L (execWrite cmd slba nlb fua s) := by
  unfold execWrite
  repeat' (first | with_reducible apply runDev_keeps | with_reducible assumption | with_reducible apply ioCommand_keeps | with_reducible apply writeBody_keeps | (with_reducible intro) | split | dsimp only)

theorem execWriteZeroes_keeps (cmd : HostCmd) (slba nlb : Nat) (fua : Bool) (unreadable : List Nat) (s : State) (h : Keeps A L s.dev) :
    KeepsNext A L (execWriteZeroes cmd slba nlb fua unreadable s) := by
  unfold execWriteZeroes
  repeat' (first | with_reducible apply runDev_keeps | with_reducible assumption | with_reducible apply ioCommand_keeps | with_reducible apply writeZeroesBody_keeps | (with_reducible intro) | split | dsimp only)

theorem execDatasetManagement_keeps (cmd : HostCmd) (ranges : List (Nat × Nat)) (deallocate : Bool) (s : State) (h : Keeps A L s.dev) :
    KeepsNext A L (execDatasetManagement cmd ranges deallocate s) := by
  unfold execDatasetManagement
  repeat' (first | with_reducible apply runDev_keeps | with_reducible assumption | with_reducible apply datasetBody_keeps | with_reducible apply ioCommand_keeps | (with_reducible intro) | split | dsimp only)

theorem execFlush_keeps (cmd : HostCmd) (s : State) (h : Keeps A L s.dev) :
    KeepsNext A L (execFlush cmd s) := by
  unfold execFlush
  repeat' (first | with_reducible apply runDev_keeps | with_reducible assumption | with_reducible apply flushBody_keeps | with_reducible apply ioCommand_keeps | (with_reducible intro) | split | dsimp only)

theorem execDataLanded_keeps (id : Nat) (landing : Landing) (s : State) (h : Keeps A L s.dev) :
    KeepsNext A L (execDataLanded id landing s) := by
  unfold execDataLanded
  repeat' (first | with_reducible apply runDev_keeps | with_reducible assumption | with_reducible apply dataLanded_keeps | with_reducible apply onlyIf_keeps | (with_reducible intro) | split | dsimp only)

theorem execMapLookup_keeps (stream slot grain : Nat) (s : State) (h : Keeps A L s.dev) :
    KeepsNext A L (execMapLookup stream slot grain s) := by
  unfold execMapLookup
  repeat' (first | with_reducible apply runDev_keeps | with_reducible assumption | with_reducible apply lookupCommand_keeps | (with_reducible intro) | split | dsimp only)

theorem execArrayReadComplete_keeps (id grain : Nat) (result : ArrayRead) (s : State) (h : Keeps A L s.dev) :
    KeepsNext A L (execArrayReadComplete id grain result s) := by
  unfold execArrayReadComplete
  repeat' (first | with_reducible apply runDev_keeps | with_reducible assumption | with_reducible apply ladder_keeps | (with_reducible intro) | split | dsimp only)

theorem execGrainDecompress_keeps (id grain : Nat) (engine : Fin 16) (result : Inflated) (s : State) (h : Keeps A L s.dev) :
    KeepsNext A L (execGrainDecompress id grain engine result s) := by
  unfold execGrainDecompress
  repeat' (first | with_reducible apply runDev_keeps | with_reducible assumption | with_reducible apply decompress_keeps | (with_reducible intro) | split | dsimp only)

theorem execRead_keeps (cmd : HostCmd) (slba nlb : Nat) (fua limited : Bool) (pointers : DataPointers) (s : State) (h : Keeps A L s.dev) :
    KeepsNext A L (execRead cmd slba nlb fua limited pointers s) := by
  unfold execRead
  repeat' (first | with_reducible apply runDev_keeps | with_reducible assumption | with_reducible apply ioCommand_keeps | with_reducible apply readBody_keeps | (with_reducible intro) | split | dsimp only)

theorem execVerify_keeps (cmd : HostCmd) (slba nlb : Nat) (limited : Bool) (s : State) (h : Keeps A L s.dev) :
    KeepsNext A L (execVerify cmd slba nlb limited s) := by
  unfold execVerify
  repeat' (first | with_reducible apply runDev_keeps | with_reducible assumption | with_reducible apply ioCommand_keeps | with_reducible apply verifyBody_keeps | (with_reducible intro) | split | dsimp only)

theorem execTlerExpiry_keeps (id : Nat) (s : State) (h : Keeps A L s.dev) :
    KeepsNext A L (execTlerExpiry id s) := by
  unfold execTlerExpiry
  repeat' (first | with_reducible apply runDev_keeps | with_reducible assumption | with_reducible apply tlerExpires_keeps | (with_reducible intro) | split | dsimp only)

theorem execReleaseReconcile_keeps (block : Nat) (footer : Option (List Byte)) (s : State) (h : Keeps A L s.dev) :
    KeepsNext A L (execReleaseReconcile block footer s) := by
  unfold execReleaseReconcile
  repeat' (first | with_reducible apply runDev_keeps | with_reducible assumption | with_reducible apply footerRead_keeps | with_reducible apply onlyIf_keeps | with_reducible apply reconcile_keeps | (with_reducible intro) | split | dsimp only)

theorem execVictimSelect_keeps (footers : List (Nat × List Byte)) (s : State) (h : Keeps A L s.dev) :
    KeepsNext A L (execVictimSelect footers s) := by
  unfold execVictimSelect
  repeat' (first | with_reducible apply runDev_keeps | with_reducible assumption | with_reducible apply selectVictim_keeps | (with_reducible intro) | split | dsimp only)

theorem execGrainRelocate_keeps (read : ArrayRead) (s : State) (h : Keeps A L s.dev) :
    KeepsNext A L (execGrainRelocate read s) := by
  unfold execGrainRelocate
  repeat' (first | with_reducible apply runDev_keeps | with_reducible assumption | with_reducible apply relocateNext_keeps | (with_reducible intro) | split | dsimp only)

theorem execPinnedRetry_keeps (stripe : Nat) (reads : List (Nat × Nat × ArrayRead)) (s : State) (h : Keeps A L s.dev) :
    KeepsNext A L (execPinnedRetry stripe reads s) := by
  unfold execPinnedRetry
  repeat' (first | with_reducible apply runDev_keeps | with_reducible assumption | with_reducible apply retryPinned_keeps | (with_reducible intro) | split | dsimp only)

theorem execStripeRelease_keeps (stripe : Nat) (s : State) (h : Keeps A L s.dev) :
    KeepsNext A L (execStripeRelease stripe s) := by
  unfold execStripeRelease
  repeat' (first | with_reducible apply runDev_keeps | with_reducible assumption | with_reducible apply releaseStripe_keeps | (with_reducible intro) | split | dsimp only)

theorem execWearLevellingCheck_keeps (die : Die) (s : State) (h : Keeps A L s.dev) :
    KeepsNext A L (execWearLevellingCheck die s) := by
  unfold execWearLevellingCheck
  repeat' (first | with_reducible apply runDev_keeps | with_reducible assumption | with_reducible apply checkWear_keeps | (with_reducible intro) | split | dsimp only)

theorem execBlockTableWrite_keeps (s : State) (h : Keeps A L s.dev) :
    KeepsNext A L (execBlockTableWrite s) := by
  unfold execBlockTableWrite
  repeat' (first | with_reducible apply runDev_keeps | with_reducible assumption | with_reducible apply writeTable_keeps | (with_reducible intro) | split | dsimp only)

theorem execGaugeScan_keeps (die : Die) (runs : List (List WordlineReads)) (s : State) (h : Keeps A L s.dev) :
    KeepsNext A L (execGaugeScan die runs s) := by
  unfold execGaugeScan
  repeat' (first | with_reducible apply runDev_keeps | with_reducible assumption | with_reducible apply finishScans_keeps | with_reducible apply onlyIf_keeps | with_reducible apply scanDie_keeps | with_reducible apply whileCharged_keeps | (with_reducible intro) | split | dsimp only)

theorem execGaugeScanInterval_keeps (scans : List (Nat × List (List WordlineReads))) (s : State) (h : Keeps A L s.dev) :
    KeepsNext A L (execGaugeScanInterval scans s) := by
  unfold execGaugeScanInterval
  repeat' (first | with_reducible apply runDev_keeps | with_reducible assumption | with_reducible apply scanRound_keeps | (with_reducible intro) | split | dsimp only)

theorem execGaugeRefresh_keeps (die : Die) (runs : List (List WordlineReads)) (eraseFailed programFailed : List Nat) (s : State) (h : Keeps A L s.dev) :
    KeepsNext A L (execGaugeRefresh die runs eraseFailed programFailed s) := by
  unfold execGaugeRefresh
  repeat' (first | with_reducible apply runDev_keeps | with_reducible assumption | with_reducible apply refreshGauge_keeps | (with_reducible intro) | split | dsimp only)

theorem execScrub_keeps (block : Nat) (first : WordlineReads) (again : List Nat) (s : State) (h : Keeps A L s.dev) :
    KeepsNext A L (execScrub block first again s) := by
  unfold execScrub
  repeat' (first | with_reducible apply runDev_keeps | with_reducible assumption | with_reducible apply scrubBlock_keeps | (with_reducible intro) | split | dsimp only)

theorem execNextWakeCompute_keeps (s : State) (h : Keeps A L s.dev) :
    KeepsNext A L (execNextWakeCompute s) := by
  unfold execNextWakeCompute
  repeat' (first | with_reducible apply runDev_keeps | with_reducible assumption | with_reducible apply computeWake_keeps | with_reducible apply onlyIf_keeps | (with_reducible intro) | split | dsimp only)

theorem execNextWakeDueReached_keeps (s : State) (h : Keeps A L s.dev) :
    KeepsNext A L (execNextWakeDueReached s) := by
  unfold execNextWakeDueReached
  repeat' (first | with_reducible apply runDev_keeps | with_reducible assumption | with_reducible apply onlyIf_keeps | with_reducible apply signalWakeAll_keeps | (with_reducible intro) | split | dsimp only)

theorem execRestripe_keeps (read : ArrayRead) (known : Bool) (s : State) (h : Keeps A L s.dev) :
    KeepsNext A L (execRestripe read known s) := by
  unfold execRestripe
  repeat' (first | with_reducible apply runDev_keeps | with_reducible assumption | with_reducible apply restripeStep_keeps | (with_reducible intro) | split | dsimp only)

theorem execMapSweep_keeps (s : State) (h : Keeps A L s.dev) :
    KeepsNext A L (execMapSweep s) := by
  unfold execMapSweep
  repeat' (first | with_reducible apply runDev_keeps | with_reducible assumption | with_reducible apply sweepMap_keeps | (with_reducible intro) | split | dsimp only)

theorem execLostRangeAppend_keeps (s : State) (h : Keeps A L s.dev) :
    KeepsNext A L (execLostRangeAppend s) := by
  unfold execLostRangeAppend
  repeat' (first | with_reducible apply runDev_keeps | with_reducible assumption | with_reducible apply appendLost_keeps | (with_reducible intro) | split | dsimp only)

theorem execChannelBringUp_keeps (bank : Bank) (s : State) (h : Keeps A L s.dev) :
    KeepsNext A L (execChannelBringUp bank s) := by
  unfold execChannelBringUp
  repeat' (first | with_reducible apply runDev_keeps | with_reducible assumption | with_reducible apply raisePen_keeps | (with_reducible intro) | split | dsimp only)

theorem execPgoodRise_keeps (bank : Bank) (s : State) (h : Keeps A L s.dev) :
    KeepsNext A L (execPgoodRise bank s) := by
  unfold execPgoodRise
  repeat' (first | with_reducible apply runDev_keeps | with_reducible assumption | with_reducible apply nextStep_keeps | (with_reducible intro) | split | dsimp only)

theorem execDiePowerOnElapsed_keeps (bank : Bank) (s : State) (h : Keeps A L s.dev) :
    KeepsNext A L (execDiePowerOnElapsed bank s) := by
  unfold execDiePowerOnElapsed
  repeat' (first | with_reducible apply runDev_keeps | with_reducible assumption | with_reducible apply drivePins_keeps | (with_reducible intro) | split | dsimp only)

theorem execPowerGoodLost_keeps (bank : Bank) (s : State) (h : Keeps A L s.dev) :
    KeepsNext A L (execPowerGoodLost bank s) := by
  unfold execPowerGoodLost
  repeat' (first | with_reducible apply runDev_keeps | with_reducible assumption | with_reducible apply onlyIf_keeps | with_reducible apply powerFault_keeps | (with_reducible intro) | split | dsimp only)

theorem execPgoodTimeout_keeps (bank : Bank) (s : State) (h : Keeps A L s.dev) :
    KeepsNext A L (execPgoodTimeout bank s) := by
  unfold execPgoodTimeout
  repeat' (first | with_reducible apply runDev_keeps | with_reducible assumption | with_reducible apply onlyIf_keeps | with_reducible apply powerFault_keeps | (with_reducible intro) | split | dsimp only)

theorem execCarrierRemoval_keeps (bank : Bank) (s : State) (h : Keeps A L s.dev) :
    KeepsNext A L (execCarrierRemoval bank s) := by
  unfold execCarrierRemoval
  repeat' (first | with_reducible apply runDev_keeps | with_reducible assumption | with_reducible apply onlyIf_keeps | with_reducible apply removeCarrier_keeps | (with_reducible intro) | split | dsimp only)

theorem execCarrierInsertion_keeps (bank : Bank) (s : State) (h : Keeps A L s.dev) :
    KeepsNext A L (execCarrierInsertion bank s) := by
  unfold execCarrierInsertion
  repeat' (first | with_reducible apply runDev_keeps | with_reducible assumption | with_reducible apply handleInsertion_keeps | with_reducible apply onlyIf_keeps | with_reducible apply signalWakeAll_keeps | with_reducible apply updCarrier_keeps | (with_reducible intro) | split | dsimp only)

theorem execTargetResetReady_keeps (bank : Bank) (present : List Nat) (reports : List LunReport) (s : State) (h : Keeps A L s.dev) :
    KeepsNext A L (execTargetResetReady bank present reports s) := by
  unfold execTargetResetReady
  repeat' (first | with_reducible apply runDev_keeps | with_reducible assumption | with_reducible apply identify_keeps | (with_reducible intro) | split | dsimp only)

theorem execChannelTrainingDone_keeps (channel : Channel) (reached : Option Nat) (anchor : Option (Nat × Nat)) (s : State) (h : Keeps A L s.dev) :
    KeepsNext A L (execChannelTrainingDone channel reached anchor s) := by
  unfold execChannelTrainingDone
  repeat' (first | with_reducible apply runDev_keeps | with_reducible assumption | with_reducible apply trainingDone_keeps | (with_reducible intro) | split | dsimp only)

theorem execCarrierJoined_keeps (bank : Bank) (refOffsets : List (List Int)) (failed : List Nat) (s : State) (h : Keeps A L s.dev) :
    KeepsNext A L (execCarrierJoined bank refOffsets failed s) := by
  unfold execCarrierJoined
  repeat' (first | with_reducible apply runDev_keeps | with_reducible assumption | with_reducible apply joinBank_keeps | (with_reducible intro) | split | dsimp only)

theorem execAbortWindowExpiry_keeps (bank : Bank) (s : State) (h : Keeps A L s.dev) :
    KeepsNext A L (execAbortWindowExpiry bank s) := by
  unfold execAbortWindowExpiry
  repeat' (first | with_reducible apply runDev_keeps | with_reducible assumption | with_reducible apply windowEnds_keeps | (with_reducible intro) | split | dsimp only)

theorem execEvacuationComplete_keeps (failed : List Nat) (s : State) (h : Keeps A L s.dev) :
    KeepsNext A L (execEvacuationComplete failed s) := by
  unfold execEvacuationComplete
  repeat' (first | with_reducible apply runDev_keeps | with_reducible assumption | with_reducible apply evacuated_keeps | (with_reducible intro) | split | dsimp only)

theorem execAttentionButtonPress_keeps (bank : Bank) (s : State) (h : Keeps A L s.dev) :
    KeepsNext A L (execAttentionButtonPress bank s) := by
  unfold execAttentionButtonPress
  repeat' (first | with_reducible apply runDev_keeps | with_reducible assumption | with_reducible apply onlyIf_keeps | with_reducible apply pressButton_keeps | with_reducible apply signalWakeAll_keeps | with_reducible apply updCarrier_keeps | (with_reducible intro) | split | dsimp only)

theorem execStatusPoll_keeps (die : Die) (slot : Fin 2) (op elapsedUs : Nat) (busy : Bool) (s : State) (h : Keeps A L s.dev) :
    KeepsNext A L (execStatusPoll die slot op elapsedUs busy s) := by
  unfold execStatusPoll
  repeat' (first | with_reducible apply runDev_keeps | with_reducible assumption | with_reducible apply poll_keeps | (with_reducible intro) | split | dsimp only)

theorem execReadyBusyRise_keeps (channel : Channel) (busy : List Nat) (s : State) (h : Keeps A L s.dev) :
    KeepsNext A L (execReadyBusyRise channel busy s) := by
  unfold execReadyBusyRise
  repeat' (first | with_reducible apply runDev_keeps | with_reducible assumption | with_reducible apply pollChannel_keeps | (with_reducible intro) | split | dsimp only)

theorem execSuspendTimeout_keeps (die : Die) (slot : Fin 2) (op : Nat) (s : State) (h : Keeps A L s.dev) :
    KeepsNext A L (execSuspendTimeout die slot op s) := by
  unfold execSuspendTimeout
  repeat' (first | with_reducible apply runDev_keeps | with_reducible assumption | with_reducible apply suspendFails_keeps | (with_reducible intro) | split | dsimp only)

theorem execReadSuspend_keeps (die : Die) (op : Nat) (s : State) (h : Keeps A L s.dev) :
    KeepsNext A L (execReadSuspend die op s) := by
  unfold execReadSuspend
  repeat' (first | with_reducible apply runDev_keeps | with_reducible assumption | with_reducible apply suspendFor_keeps | (with_reducible intro) | split | dsimp only)

theorem execZqCalibrationShort_keeps (channel : Channel) (s : State) (h : Keeps A L s.dev) :
    KeepsNext A L (execZqCalibrationShort channel s) := by
  unfold execZqCalibrationShort
  repeat' (first | with_reducible apply runDev_keeps | with_reducible assumption | with_reducible apply zqShort_keeps | (with_reducible intro) | split | dsimp only)

theorem execSupplyWarning_keeps (s : State) (h : Keeps A L s.dev) :
    KeepsNext A L (execSupplyWarning s) := by
  unfold execSupplyWarning
  repeat' (first | with_reducible apply runDev_keeps | with_reducible assumption | with_reducible apply supplyTrips_keeps | (with_reducible intro) | split | dsimp only)

theorem execRecoveryComparatorTrip_keeps (s : State) (h : Keeps A L s.dev) :
    KeepsNext A L (execRecoveryComparatorTrip s) := by
  unfold execRecoveryComparatorTrip
  repeat' (first | with_reducible apply runDev_keeps | with_reducible assumption | with_reducible apply onlyIf_keeps | with_reducible apply supplyRecovers_keeps | (with_reducible intro) | split | dsimp only)

theorem execHoldupTestDue_keeps (s : State) (h : Keeps A L s.dev) :
    KeepsNext A L (execHoldupTestDue s) := by
  unfold execHoldupTestDue
  repeat' (first | with_reducible apply runDev_keeps | with_reducible assumption | with_reducible apply startTest_keeps | (with_reducible intro) | split | dsimp only)

theorem execHoldupTestBaseline_keeps (v0 : Nat) (s : State) (h : Keeps A L s.dev) :
    KeepsNext A L (execHoldupTestBaseline v0 s) := by
  unfold execHoldupTestBaseline
  repeat' (first | with_reducible apply runDev_keeps | with_reducible assumption | with_reducible apply onlyIf_keeps | (with_reducible intro) | split | dsimp only)

theorem execHoldupTestSample_keeps (mv : Nat) (s : State) (h : Keeps A L s.dev) :
    KeepsNext A L (execHoldupTestSample mv s) := by
  unfold execHoldupTestSample
  repeat' (first | with_reducible apply runDev_keeps | with_reducible assumption | with_reducible apply takeSample_keeps | (with_reducible intro) | split | dsimp only)

theorem execHoldupTestEnd_keeps (s : State) (h : Keeps A L s.dev) :
    KeepsNext A L (execHoldupTestEnd s) := by
  unfold execHoldupTestEnd
  repeat' (first | with_reducible apply runDev_keeps | with_reducible assumption | with_reducible apply endTest_keeps | (with_reducible intro) | split | dsimp only)

theorem execHoldupChargeTimeout_keeps (s : State) (h : Keeps A L s.dev) :
    KeepsNext A L (execHoldupChargeTimeout s) := by
  unfold execHoldupChargeTimeout
  repeat' (first | with_reducible apply runDev_keeps | with_reducible assumption | with_reducible apply chargeTimeout_keeps | (with_reducible intro) | split | dsimp only)

theorem execHousekeepingRound_keeps (round : Round) (s : State) (h : Keeps A L s.dev) :
    KeepsNext A L (execHousekeepingRound round s) := by
  unfold execHousekeepingRound
  repeat' (first | with_reducible apply runDev_keeps | with_reducible assumption | with_reducible apply housekeeping_keeps | (with_reducible intro) | split | dsimp only)

theorem execThrottleLevelRise_keeps (s : State) (h : Keeps A L s.dev) :
    KeepsNext A L (execThrottleLevelRise s) := by
  unfold execThrottleLevelRise
  repeat' (first | with_reducible apply runDev_keeps | with_reducible assumption | with_reducible apply levelRise_keeps | (with_reducible intro) | split | dsimp only)

theorem execPaceMeasure_keeps (count : Nat) (work : Bool) (s : State) (h : Keeps A L s.dev) :
    KeepsNext A L (execPaceMeasure count work s) := by
  unfold execPaceMeasure
  repeat' (first | with_reducible apply runDev_keeps | with_reducible assumption | with_reducible apply measurePace_keeps | (with_reducible intro) | split | dsimp only)

theorem execVidStep_keeps (s : State) (h : Keeps A L s.dev) :
    KeepsNext A L (execVidStep s) := by
  unfold execVidStep
  repeat' (first | with_reducible apply runDev_keeps | with_reducible assumption | with_reducible apply stepVid_keeps | (with_reducible intro) | split | dsimp only)

theorem execGovernorMismatch_keeps (s : State) (h : Keeps A L s.dev) :
    KeepsNext A L (execGovernorMismatch s) := by
  unfold execGovernorMismatch
  repeat' (first | with_reducible apply runDev_keeps | with_reducible assumption | with_reducible apply raiseCause_keeps | (with_reducible intro) | split | dsimp only)

theorem execNonCodeReport_keeps (s : State) (h : Keeps A L s.dev) :
    KeepsNext A L (execNonCodeReport s) := by
  unfold execNonCodeReport
  repeat' (first | with_reducible apply runDev_keeps | with_reducible assumption | with_reducible apply raiseCause_keeps | (with_reducible intro) | split | dsimp only)

theorem execMissedEpoch_keeps (s : State) (h : Keeps A L s.dev) :
    KeepsNext A L (execMissedEpoch s) := by
  unfold execMissedEpoch
  repeat' (first | with_reducible apply runDev_keeps | with_reducible assumption | with_reducible apply raiseCause_keeps | (with_reducible intro) | split | dsimp only)

theorem execCoreMemoryUncorrectable_keeps (s : State) (h : Keeps A L s.dev) :
    KeepsNext A L (execCoreMemoryUncorrectable s) := by
  unfold execCoreMemoryUncorrectable
  repeat' (first | with_reducible apply runDev_keeps | with_reducible assumption | with_reducible apply raiseCause_keeps | (with_reducible intro) | split | dsimp only)

theorem execTakeoverOutputsReached_keeps (crcEqual : Bool) (micros : Nat) (s : State) (h : Keeps A L s.dev) :
    KeepsNext A L (execTakeoverOutputsReached crcEqual micros s) := by
  unfold execTakeoverOutputsReached
  repeat' (first | with_reducible apply runDev_keeps | with_reducible assumption | with_reducible apply openGate_keeps | (with_reducible intro) | split | dsimp only)

theorem execTakeoverStepTimeout_keeps (s : State) (h : Keeps A L s.dev) :
    KeepsNext A L (execTakeoverStepTimeout s) := by
  unfold execTakeoverStepTimeout
  repeat' (first | with_reducible apply runDev_keeps | with_reducible assumption | with_reducible apply takeoverFails_keeps | (with_reducible intro) | split | dsimp only)

theorem execGovernorInjectionTest_keeps (report : Nat) (s : State) (h : Keeps A L s.dev) :
    KeepsNext A L (execGovernorInjectionTest report s) := by
  unfold execGovernorInjectionTest
  repeat' (first | with_reducible apply runDev_keeps | with_reducible assumption | with_reducible apply injectionTest_keeps | (with_reducible intro) | split | dsimp only)

theorem execSwitchoverInconsistent_keeps (code : Nat) (s : State) (h : Keeps A L s.dev) :
    KeepsNext A L (execSwitchoverInconsistent code s) := by
  unfold execSwitchoverInconsistent
  repeat' (first | with_reducible apply runDev_keeps | with_reducible assumption | with_reducible apply holdComplexes_keeps | with_reducible apply logRec_keeps | with_reducible apply onlyIf_keeps | with_reducible apply toLockdown_keeps | (with_reducible intro) | split | dsimp only)

theorem execPrimaryResetHoldExpiry_keeps (s : State) (h : Keeps A L s.dev) :
    KeepsNext A L (execPrimaryResetHoldExpiry s) := by
  unfold execPrimaryResetHoldExpiry
  repeat' (first | with_reducible apply runDev_keeps | with_reducible assumption | with_reducible apply onlyIf_keeps | with_reducible apply updCpx_keeps | (with_reducible intro) | split | dsimp only)

theorem execPrimarySelfTestDone_keeps (pass : Bool) (ms : Nat) (s : State) (h : Keeps A L s.dev) :
    KeepsNext A L (execPrimarySelfTestDone pass ms s) := by
  unfold execPrimarySelfTestDone
  repeat' (first | with_reducible apply runDev_keeps | with_reducible assumption | with_reducible apply primaryTested_keeps | (with_reducible intro) | split | dsimp only)

theorem execStandbySelfTestDone_keeps (pass : Bool) (ms : Nat) (s : State) (h : Keeps A L s.dev) :
    KeepsNext A L (execStandbySelfTestDone pass ms s) := by
  unfold execStandbySelfTestDone
  repeat' (first | with_reducible apply runDev_keeps | with_reducible assumption | with_reducible apply standbyTested_keeps | (with_reducible intro) | split | dsimp only)

theorem execStandbyRetentionIdle_keeps (s : State) (h : Keeps A L s.dev) :
    KeepsNext A L (execStandbyRetentionIdle s) := by
  unfold execStandbyRetentionIdle
  repeat' (first | with_reducible apply runDev_keeps | with_reducible assumption | with_reducible apply standbySleeps_keeps | (with_reducible intro) | split | dsimp only)

theorem execStandbyWakeInput_keeps (memOk : Bool) (s : State) (h : Keeps A L s.dev) :
    KeepsNext A L (execStandbyWakeInput memOk s) := by
  unfold execStandbyWakeInput
  repeat' (first | with_reducible apply runDev_keeps | with_reducible assumption | with_reducible apply standbyWakes_keeps | (with_reducible intro) | split | dsimp only)

theorem execDomainEntryRequest_keeps (dd : Nat) (retention : Bool) (refuser : Nat) (s : State) (h : Keeps A L s.dev) :
    KeepsNext A L (execDomainEntryRequest dd retention refuser s) := by
  unfold execDomainEntryRequest
  repeat' (first | with_reducible apply runDev_keeps | with_reducible assumption | with_reducible apply requestEntry_keeps | (with_reducible intro) | split | dsimp only)

theorem execDomainEntryCommit_keeps (dd : Nat) (s : State) (h : Keeps A L s.dev) :
    KeepsNext A L (execDomainEntryCommit dd s) := by
  unfold execDomainEntryCommit
  repeat' (first | with_reducible apply runDev_keeps | with_reducible assumption | with_reducible apply commitEntry_keeps | (with_reducible intro) | split | dsimp only)

theorem execDomainEntryAbort_keeps (dd : Nat) (s : State) (h : Keeps A L s.dev) :
    KeepsNext A L (execDomainEntryAbort dd s) := by
  unfold execDomainEntryAbort
  repeat' (first | with_reducible apply runDev_keeps | with_reducible assumption | with_reducible apply abortEntry_keeps | (with_reducible intro) | split | dsimp only)

theorem execDomainWake_keeps (dd : Nat) (error : Bool) (s : State) (h : Keeps A L s.dev) :
    KeepsNext A L (execDomainWake dd error s) := by
  unfold execDomainWake
  repeat' (first | with_reducible apply runDev_keeps | with_reducible assumption | with_reducible apply wakeDomain_keeps | (with_reducible intro) | split | dsimp only)

theorem execFirmwareImageDownload_keeps (cmd : HostCmd) (offset bytes : Nat) (header : Option (Nat × Component)) (failures : List StoreFailure) (s : State) (h : Keeps A L s.dev) :
    KeepsNext A L (execFirmwareImageDownload cmd offset bytes header failures s) := by
  unfold execFirmwareImageDownload
  repeat' (first | with_reducible apply runDev_keeps | with_reducible assumption | with_reducible apply adminCommand_keeps | with_reducible apply downloadBody_keeps | (with_reducible intro) | split | dsimp only)

theorem execFirmwareCommitReplace_keeps (cmd : HostCmd) (slot : Nat) (s : State) (h : Keeps A L s.dev) :
    KeepsNext A L (execFirmwareCommitReplace cmd slot s) := by
  unfold execFirmwareCommitReplace
  repeat' (first | with_reducible apply runDev_keeps | with_reducible assumption | with_reducible apply adminCommand_keeps | with_reducible apply commitBody_keeps | (with_reducible intro) | split | dsimp only)

theorem execFirmwareCommitActivate_keeps (cmd : HostCmd) (slot : Nat) (s : State) (h : Keeps A L s.dev) :
    KeepsNext A L (execFirmwareCommitActivate cmd slot s) := by
  unfold execFirmwareCommitActivate
  repeat' (first | with_reducible apply runDev_keeps | with_reducible assumption | with_reducible apply adminCommand_keeps | with_reducible apply commitBody_keeps | (with_reducible intro) | split | dsimp only)

theorem execFirmwareCommitSelect_keeps (cmd : HostCmd) (slot : Nat) (s : State) (h : Keeps A L s.dev) :
    KeepsNext A L (execFirmwareCommitSelect cmd slot s) := by
  unfold execFirmwareCommitSelect
  repeat' (first | with_reducible apply runDev_keeps | with_reducible assumption | with_reducible apply adminCommand_keeps | with_reducible apply commitBody_keeps | (with_reducible intro) | split | dsimp only)

theorem execFirmwareCommitImmediate_keeps (cmd : HostCmd) (slot : Nat) (s : State) (h : Keeps A L s.dev) :
    KeepsNext A L (execFirmwareCommitImmediate cmd slot s) := by
  unfold execFirmwareCommitImmediate
  repeat' (first | with_reducible apply runDev_keeps | with_reducible assumption | with_reducible apply adminCommand_keeps | with_reducible apply commitBody_keeps | (with_reducible intro) | split | dsimp only)

theorem execFirmwareCommitDone_keeps (failures : List StoreFailure) (s : State) (h : Keeps A L s.dev) :
    KeepsNext A L (execFirmwareCommitDone failures s) := by
  unfold execFirmwareCommitDone
  repeat' (first | with_reducible apply runDev_keeps | with_reducible assumption | with_reducible apply commitDone_keeps | (with_reducible intro) | split | dsimp only)

theorem execCsWpNChange_keeps (low : Bool) (s : State) (h : Keeps A L s.dev) :
    KeepsNext A L (execCsWpNChange low s) := by
  unfold execCsWpNChange
  repeat' (first | with_reducible apply runDev_keeps | with_reducible assumption | with_reducible apply csWpChanges_keeps | (with_reducible intro) | split | dsimp only)

theorem execChallengeExpiry_keeps (s : State) (h : Keeps A L s.dev) :
    KeepsNext A L (execChallengeExpiry s) := by
  unfold execChallengeExpiry
  repeat' (first | with_reducible apply runDev_keeps | with_reducible assumption | with_reducible apply expireChallenges_keeps | (with_reducible intro) | split | dsimp only)

theorem execGrantExpiry_keeps (s : State) (h : Keeps A L s.dev) :
    KeepsNext A L (execGrantExpiry s) := by
  unfold execGrantExpiry
  repeat' (first | with_reducible apply runDev_keeps | with_reducible assumption | with_reducible apply expireGrants_keeps | (with_reducible intro) | split | dsimp only)

theorem execPathUnlocked_keeps (s : State) (h : Keeps A L s.dev) :
    KeepsNext A L (execPathUnlocked s) := by
  unfold execPathUnlocked
  repeat' (first | with_reducible apply runDev_keeps | with_reducible assumption | with_reducible apply unlockPaths_keeps | (with_reducible intro) | split | dsimp only)

theorem execAuthoriseChallenge_keeps (cmd : HostCmd) (slot op arg : Nat) (s : State) (h : Keeps A L s.dev) :
    KeepsNext A L (execAuthoriseChallenge cmd slot op arg s) := by
  unfold execAuthoriseChallenge
  repeat' (first | with_reducible apply runDev_keeps | with_reducible assumption | with_reducible apply adminCommand_keeps | with_reducible apply challengeBody_keeps | (with_reducible intro) | split | dsimp only)

theorem execAuthoriseRespond_keeps (cmd : HostCmd) (slot op arg nonce : Nat) (response : List Byte) (s : State) (h : Keeps A L s.dev) :
    KeepsNext A L (execAuthoriseRespond cmd slot op arg nonce response s) := by
  unfold execAuthoriseRespond
  repeat' (first | with_reducible apply runDev_keeps | with_reducible assumption | with_reducible apply adminCommand_keeps | with_reducible apply respondBody_keeps | (with_reducible intro) | split | dsimp only)

theorem execSanitizeComplete_keeps (failed : Bool) (eraseFailed : List Nat) (s : State) (h : Keeps A L s.dev) :
    KeepsNext A L (execSanitizeComplete failed eraseFailed s) := by
  unfold execSanitizeComplete
  repeat' (first | with_reducible apply runDev_keeps | with_reducible assumption | with_reducible apply sanitizeEnds_keeps | (with_reducible intro) | split | dsimp only)

theorem execSanitizeBlockErase_keeps (cmd : HostCmd) (ause : Bool) (s : State) (h : Keeps A L s.dev) :
    KeepsNext A L (execSanitizeBlockErase cmd ause s) := by
  unfold execSanitizeBlockErase
  repeat' (first | with_reducible apply runDev_keeps | with_reducible assumption | with_reducible apply adminCommand_keeps | with_reducible apply sanitizeBody_keeps | (with_reducible intro) | split | dsimp only)

theorem execSanitizeCryptoErase_keeps (cmd : HostCmd) (ause : Bool) (s : State) (h : Keeps A L s.dev) :
    KeepsNext A L (execSanitizeCryptoErase cmd ause s) := by
  unfold execSanitizeCryptoErase
  repeat' (first | with_reducible apply runDev_keeps | with_reducible assumption | with_reducible apply adminCommand_keeps | with_reducible apply sanitizeBody_keeps | (with_reducible intro) | split | dsimp only)

theorem execSanitizeExitFailure_keeps (cmd : HostCmd) (s : State) (h : Keeps A L s.dev) :
    KeepsNext A L (execSanitizeExitFailure cmd s) := by
  unfold execSanitizeExitFailure
  repeat' (first | with_reducible apply runDev_keeps | with_reducible assumption | with_reducible apply adminCommand_keeps | with_reducible apply exitFailureBody_keeps | (with_reducible intro) | split | dsimp only)

theorem execSanitizeOverwrite_keeps (cmd : HostCmd) (s : State) (h : Keeps A L s.dev) :
    KeepsNext A L (execSanitizeOverwrite cmd s) := by
  unfold execSanitizeOverwrite
  repeat' (first | with_reducible apply runDev_keeps | with_reducible assumption | with_reducible apply adminCommand_keeps | with_reducible apply overwriteBody_keeps | (with_reducible intro) | split | dsimp only)

theorem execObjectWrite_keeps (path index sub : Nat) (value : List Byte) (out : StoreOutcome) (s : State) (h : Keeps A L s.dev) :
    KeepsNext A L (execObjectWrite path index sub value out s) := by
  unfold execObjectWrite
  repeat' (first | with_reducible apply runDev_keeps | with_reducible assumption | with_reducible apply writeRequest_keeps | (with_reducible intro) | split | dsimp only)

theorem execGroupMemberWrite_keeps (path index sub value : Nat) (s : State) (h : Keeps A L s.dev) :
    KeepsNext A L (execGroupMemberWrite path index sub value s) := by
  unfold execGroupMemberWrite
  repeat' (first | with_reducible apply runDev_keeps | with_reducible assumption | with_reducible apply memberWrite_keeps | (with_reducible intro) | split | dsimp only)

theorem execGroupCommit_keeps (path index : Nat) (out : StoreOutcome) (s : State) (h : Keeps A L s.dev) :
    KeepsNext A L (execGroupCommit path index out s) := by
  unfold execGroupCommit
  repeat' (first | with_reducible apply runDev_keeps | with_reducible assumption | with_reducible apply groupRequest_keeps | (with_reducible intro) | split | dsimp only)

theorem execGroupDiscard_keeps (path index : Nat) (s : State) (h : Keeps A L s.dev) :
    KeepsNext A L (execGroupDiscard path index s) := by
  unfold execGroupDiscard
  repeat' (first | with_reducible apply runDev_keeps | with_reducible assumption | with_reducible apply groupRequest_keeps | (with_reducible intro) | split | dsimp only)

theorem execTokenPoolSizeWrite_keeps (path value : Nat) (out : StoreOutcome) (s : State) (h : Keeps A L s.dev) :
    KeepsNext A L (execTokenPoolSizeWrite path value out s) := by
  unfold execTokenPoolSizeWrite
  repeat' (first | with_reducible apply runDev_keeps | with_reducible assumption | with_reducible apply writeValue_keeps | (with_reducible intro) | split | dsimp only)

theorem execSupplyWarningLevelWrite_keeps (path value : Nat) (out : StoreOutcome) (s : State) (h : Keeps A L s.dev) :
    KeepsNext A L (execSupplyWarningLevelWrite path value out s) := by
  unfold execSupplyWarningLevelWrite
  repeat' (first | with_reducible apply runDev_keeps | with_reducible assumption | with_reducible apply writeValue_keeps | (with_reducible intro) | split | dsimp only)

theorem execEtaQueryBlock_keeps (path value : Nat) (s : State) (h : Keeps A L s.dev) :
    KeepsNext A L (execEtaQueryBlock path value s) := by
  unfold execEtaQueryBlock
  repeat' (first | with_reducible apply runDev_keeps | with_reducible assumption | with_reducible apply writeValue_keeps | (with_reducible intro) | split | dsimp only)

theorem execMapCacheEnable_keeps (path : Nat) (s : State) (h : Keeps A L s.dev) :
    KeepsNext A L (execMapCacheEnable path s) := by
  unfold execMapCacheEnable
  repeat' (first | with_reducible apply runDev_keeps | with_reducible assumption | with_reducible apply writeValue_keeps | (with_reducible intro) | split | dsimp only)

theorem execMapCacheDisable_keeps (path : Nat) (s : State) (h : Keeps A L s.dev) :
    KeepsNext A L (execMapCacheDisable path s) := by
  unfold execMapCacheDisable
  repeat' (first | with_reducible apply runDev_keeps | with_reducible assumption | with_reducible apply writeValue_keeps | (with_reducible intro) | split | dsimp only)

theorem execMapCacheInvalidate_keeps (path : Nat) (s : State) (h : Keeps A L s.dev) :
    KeepsNext A L (execMapCacheInvalidate path s) := by
  unfold execMapCacheInvalidate
  repeat' (first | with_reducible apply runDev_keeps | with_reducible assumption | with_reducible apply writeValue_keeps | (with_reducible intro) | split | dsimp only)

theorem execHoldupTestRequest_keeps (path value : Nat) (s : State) (h : Keeps A L s.dev) :
    KeepsNext A L (execHoldupTestRequest path value s) := by
  unfold execHoldupTestRequest
  repeat' (first | with_reducible apply runDev_keeps | with_reducible assumption | with_reducible apply writeValue_keeps | (with_reducible intro) | split | dsimp only)

theorem execCarrierRequestRemoval_keeps (path : Nat) (bank : Bank) (s : State) (h : Keeps A L s.dev) :
    KeepsNext A L (execCarrierRequestRemoval path bank s) := by
  unfold execCarrierRequestRemoval
  repeat' (first | with_reducible apply runDev_keeps | with_reducible assumption | with_reducible apply writeValue_keeps | (with_reducible intro) | split | dsimp only)

theorem execCarrierCancelRemoval_keeps (path : Nat) (bank : Bank) (s : State) (h : Keeps A L s.dev) :
    KeepsNext A L (execCarrierCancelRemoval path bank s) := by
  unfold execCarrierCancelRemoval
  repeat' (first | with_reducible apply runDev_keeps | with_reducible assumption | with_reducible apply writeValue_keeps | (with_reducible intro) | split | dsimp only)

theorem execCarrierPowerOn_keeps (path : Nat) (bank : Bank) (s : State) (h : Keeps A L s.dev) :
    KeepsNext A L (execCarrierPowerOn path bank s) := by
  unfold execCarrierPowerOn
  repeat' (first | with_reducible apply runDev_keeps | with_reducible assumption | with_reducible apply writeValue_keeps | (with_reducible intro) | split | dsimp only)

theorem execCarrierAdopt_keeps (path : Nat) (bank : Bank) (s : State) (h : Keeps A L s.dev) :
    KeepsNext A L (execCarrierAdopt path bank s) := by
  unfold execCarrierAdopt
  repeat' (first | with_reducible apply runDev_keeps | with_reducible assumption | with_reducible apply writeValue_keeps | (with_reducible intro) | split | dsimp only)

theorem execCarrierRetryPowerFault_keeps (path : Nat) (bank : Bank) (s : State) (h : Keeps A L s.dev) :
    KeepsNext A L (execCarrierRetryPowerFault path bank s) := by
  unfold execCarrierRetryPowerFault
  repeat' (first | with_reducible apply runDev_keeps | with_reducible assumption | with_reducible apply writeValue_keeps | (with_reducible intro) | split | dsimp only)

theorem execSettingsAcknowledge_keeps (path value : Nat) (s : State) (h : Keeps A L s.dev) :
    KeepsNext A L (execSettingsAcknowledge path value s) := by
  unfold execSettingsAcknowledge
  repeat' (first | with_reducible apply runDev_keeps | with_reducible assumption | with_reducible apply writeValue_keeps | (with_reducible intro) | split | dsimp only)

theorem execSettingsRestoreDefaults_keeps (path value : Nat) (out : StoreOutcome) (s : State) (h : Keeps A L s.dev) :
    KeepsNext A L (execSettingsRestoreDefaults path value out s) := by
  unfold execSettingsRestoreDefaults
  repeat' (first | with_reducible apply runDev_keeps | with_reducible assumption | with_reducible apply writeValue_keeps | (with_reducible intro) | split | dsimp only)

theorem execLogbookClear_keeps (path value : Nat) (s : State) (h : Keeps A L s.dev) :
    KeepsNext A L (execLogbookClear path value s) := by
  unfold execLogbookClear
  repeat' (first | with_reducible apply runDev_keeps | with_reducible assumption | with_reducible apply writeValue_keeps | (with_reducible intro) | split | dsimp only)

theorem execLedgerFreeRead_keeps (path ledger : Nat) (s : State) (h : Keeps A L s.dev) :
    KeepsNext A L (execLedgerFreeRead path ledger s) := by
  unfold execLedgerFreeRead
  repeat' (first | with_reducible apply runDev_keeps | with_reducible assumption | with_reducible apply readRequest_keeps | (with_reducible intro) | split | dsimp only)

theorem execLedgerOwnerHeldRead_keeps (path ledger : Nat) (s : State) (h : Keeps A L s.dev) :
    KeepsNext A L (execLedgerOwnerHeldRead path ledger s) := by
  unfold execLedgerOwnerHeldRead
  repeat' (first | with_reducible apply runDev_keeps | with_reducible assumption | with_reducible apply readRequest_keeps | (with_reducible intro) | split | dsimp only)

theorem execAuthKeyWrite_keeps (path slot : Nat) (key : List Byte) (s : State) (h : Keeps A L s.dev) :
    KeepsNext A L (execAuthKeyWrite path slot key s) := by
  unfold execAuthKeyWrite
  repeat' (first | with_reducible apply runDev_keeps | with_reducible assumption | with_reducible apply writeRequest_keeps | (with_reducible intro) | split | dsimp only)

theorem execAuthRightsWrite_keeps (path slot rights : Nat) (s : State) (h : Keeps A L s.dev) :
    KeepsNext A L (execAuthRightsWrite path slot rights s) := by
  unfold execAuthRightsWrite
  repeat' (first | with_reducible apply runDev_keeps | with_reducible assumption | with_reducible apply writeRequest_keeps | (with_reducible intro) | split | dsimp only)

theorem execRecoveryChunk_keeps (path : Nat) (chunk : List Byte) (out : StoreOutcome) (s : State) (h : Keeps A L s.dev) :
    KeepsNext A L (execRecoveryChunk path chunk out s) := by
  unfold execRecoveryChunk
  repeat' (first | with_reducible apply runDev_keeps | with_reducible assumption | with_reducible apply recoveryChunk_keeps | with_reducible apply writeRequest_keeps | (with_reducible intro) | split | dsimp only)

theorem execRecoveryCommitReplace_keeps (path : Nat) (s : State) (h : Keeps A L s.dev) :
    KeepsNext A L (execRecoveryCommitReplace path s) := by
  unfold execRecoveryCommitReplace
  repeat' (first | with_reducible apply runDev_keeps | with_reducible assumption | with_reducible apply writeValue_keeps | (with_reducible intro) | split | dsimp only)

theorem execRecoveryCommitActivate_keeps (path : Nat) (s : State) (h : Keeps A L s.dev) :
    KeepsNext A L (execRecoveryCommitActivate path s) := by
  unfold execRecoveryCommitActivate
  repeat' (first | with_reducible apply runDev_keeps | with_reducible assumption | with_reducible apply writeValue_keeps | (with_reducible intro) | split | dsimp only)

theorem execRecoveryCommitSelect_keeps (path : Nat) (s : State) (h : Keeps A L s.dev) :
    KeepsNext A L (execRecoveryCommitSelect path s) := by
  unfold execRecoveryCommitSelect
  repeat' (first | with_reducible apply runDev_keeps | with_reducible assumption | with_reducible apply writeValue_keeps | (with_reducible intro) | split | dsimp only)

theorem execCanRead_keeps (req : CanRequest) (s : State) (h : Keeps A L s.dev) :
    KeepsNext A L (execCanRead req s) := by
  unfold execCanRead
  repeat' (first | with_reducible apply runDev_keeps | with_reducible assumption | with_reducible apply canReadBody_keeps | with_reducible apply canRequest_keeps | (with_reducible intro) | split | dsimp only)

theorem execCanWrite_keeps (req : CanRequest) (value : List Byte) (out : StoreOutcome) (s : State) (h : Keeps A L s.dev) :
    KeepsNext A L (execCanWrite req value out s) := by
  unfold execCanWrite
  repeat' (first | with_reducible apply runDev_keeps | with_reducible assumption | with_reducible apply canRequest_keeps | with_reducible apply canServeWrite_keeps | (with_reducible intro) | split | dsimp only)

theorem execCanSegmentedWrite_keeps (req : CanRequest) (total : Nat) (s : State) (h : Keeps A L s.dev) :
    KeepsNext A L (execCanSegmentedWrite req total s) := by
  unfold execCanSegmentedWrite
  repeat' (first | with_reducible apply runDev_keeps | with_reducible assumption | with_reducible apply canRequest_keeps | with_reducible apply openSegmented_keeps | (with_reducible intro) | split | dsimp only)

theorem execCanAbortTransfer_keeps (req : CanRequest) (s : State) (h : Keeps A L s.dev) :
    KeepsNext A L (execCanAbortTransfer req s) := by
  unfold execCanAbortTransfer
  repeat' (first | with_reducible apply runDev_keeps | with_reducible assumption | with_reducible apply abortTransfer_keeps | (with_reducible intro) | split | dsimp only)

theorem execCanSegment_keeps (tag segment : Nat) (last short : Bool) (data : List Byte) (out : StoreOutcome) (s : State) (h : Keeps A L s.dev) :
    KeepsNext A L (execCanSegment tag segment last short data out s) := by
  unfold execCanSegment
  repeat' (first | with_reducible apply runDev_keeps | with_reducible assumption | with_reducible apply takeSegment_keeps | (with_reducible intro) | split | dsimp only)

theorem execSegmentTimeout_keeps (s : State) (h : Keeps A L s.dev) :
    KeepsNext A L (execSegmentTimeout s) := by
  unfold execSegmentTimeout
  repeat' (first | with_reducible apply runDev_keeps | with_reducible assumption | with_reducible apply segmentTimeout_keeps | (with_reducible intro) | split | dsimp only)

theorem execCanUnknownCommand_keeps (req : CanRequest) (s : State) (h : Keeps A L s.dev) :
    KeepsNext A L (execCanUnknownCommand req s) := by
  unfold execCanUnknownCommand
  repeat' (first | with_reducible apply runDev_keeps | with_reducible assumption | with_reducible apply onlyIf_keeps | with_reducible apply refuseCan_keeps | (with_reducible intro) | split | dsimp only)

theorem execCanAuthoriseChallenge_keeps (req : CanRequest) (slot op arg : Nat) (s : State) (h : Keeps A L s.dev) :
    KeepsNext A L (execCanAuthoriseChallenge req slot op arg s) := by
  unfold execCanAuthoriseChallenge
  repeat' (first | with_reducible apply runDev_keeps | with_reducible assumption | with_reducible apply canChallenge_keeps | with_reducible apply canRequest_keeps | (with_reducible intro) | split | dsimp only)

theorem execCanAuthoriseRespond_keeps (req : CanRequest) (slot op arg nonce : Nat) (response : List Byte) (s : State) (h : Keeps A L s.dev) :
    KeepsNext A L (execCanAuthoriseRespond req slot op arg nonce response s) := by
  unfold execCanAuthoriseRespond
  repeat' (first | with_reducible apply runDev_keeps | with_reducible assumption | with_reducible apply canRequest_keeps | with_reducible apply canRespond_keeps | (with_reducible intro) | split | dsimp only)

theorem execLinkUp_keeps (port : Port) (rate width : Nat) (s : State) (h : Keeps A L s.dev) :
    KeepsNext A L (execLinkUp port rate width s) := by
  unfold execLinkUp
  repeat' (first | with_reducible apply runDev_keeps | with_reducible assumption | with_reducible apply reachL0_keeps | (with_reducible intro) | split | dsimp only)

theorem execLinkDown_keeps (p : Port) (s : State) (h : Keeps A L s.dev) :
    KeepsNext A L (execLinkDown p s) := by
  unfold execLinkDown
  repeat' (first | with_reducible apply runDev_keeps | with_reducible assumption | with_reducible apply incObj_keeps | with_reducible apply linkUp_keeps | with_reducible apply onlyIf_keeps | with_reducible apply portReset_keeps | (with_reducible intro) | split | dsimp only)

theorem execHotReset_keeps (p : Port) (s : State) (h : Keeps A L s.dev) :
    KeepsNext A L (execHotReset p s) := by
  unfold execHotReset
  repeat' (first | with_reducible apply runDev_keeps | with_reducible assumption | with_reducible apply incObj_keeps | with_reducible apply linkUp_keeps | with_reducible apply onlyIf_keeps | with_reducible apply portReset_keeps | (with_reducible intro) | split | dsimp only)

theorem execFunctionLevelReset_keeps (p : Port) (s : State) (h : Keeps A L s.dev) :
    KeepsNext A L (execFunctionLevelReset p s) := by
  unfold execFunctionLevelReset
  repeat' (first | with_reducible apply runDev_keeps | with_reducible assumption | with_reducible apply incObj_keeps | with_reducible apply onlyIf_keeps | with_reducible apply portReset_keeps | (with_reducible intro) | split | dsimp only)

theorem execLinkDetectRetry_keeps (port : Port) (found : Bool) (s : State) (h : Keeps A L s.dev) :
    KeepsNext A L (execLinkDetectRetry port found s) := by
  unfold execLinkDetectRetry
  repeat' (first | with_reducible apply runDev_keeps | with_reducible assumption | with_reducible apply detectRetry_keeps | (with_reducible intro) | split | dsimp only)

theorem execPowerStateWrite_keeps (port : Port) (value : Nat) (s : State) (h : Keeps A L s.dev) :
    KeepsNext A L (execPowerStateWrite port value s) := by
  unfold execPowerStateWrite
  repeat' (first | with_reducible apply runDev_keeps | with_reducible assumption | with_reducible apply writePowerState_keeps | (with_reducible intro) | split | dsimp only)

theorem execPmeTurnOff_keeps (p : Port) (s : State) (h : Keeps A L s.dev) :
    KeepsNext A L (execPmeTurnOff p s) := by
  unfold execPmeTurnOff
  repeat' (first | with_reducible apply runDev_keeps | with_reducible assumption | with_reducible apply linkUp_keeps | with_reducible apply onlyIf_keeps | with_reducible apply setObj_keeps | (with_reducible intro) | split | dsimp only)

theorem execWakeNRelease_keeps (p : Port) (s : State) (h : Keeps A L s.dev) :
    KeepsNext A L (execWakeNRelease p s) := by
  unfold execWakeNRelease
  repeat' (first | with_reducible apply runDev_keeps | with_reducible assumption | with_reducible apply onlyIf_keeps | with_reducible apply updPort_keeps | (with_reducible intro) | split | dsimp only)

theorem execAspmL1Entry_keeps (p : Port) (idleUs : Nat) (s : State) (h : Keeps A L s.dev) :
    KeepsNext A L (execAspmL1Entry p idleUs s) := by
  unfold execAspmL1Entry
  repeat' (first | with_reducible apply runDev_keeps | with_reducible assumption | with_reducible apply onlyIf_keeps | with_reducible apply setObj_keeps | (with_reducible intro) | split | dsimp only)

theorem execBusMasterEnable_keeps (port : Port) (bme : Bool) (cfg : PortConfig) (clearUncorrectable clearCorrectable : Nat) (s : State) (h : Keeps A L s.dev) :
    KeepsNext A L (execBusMasterEnable port bme cfg clearUncorrectable clearCorrectable s) := by
  unfold execBusMasterEnable
  repeat' (first | with_reducible apply runDev_keeps | with_reducible assumption | with_reducible apply writeBusMaster_keeps | (with_reducible intro) | split | dsimp only)

theorem execMsixUnmask_keeps (port : Port) (vector : Option Nat) (s : State) (h : Keeps A L s.dev) :
    KeepsNext A L (execMsixUnmask port vector s) := by
  unfold execMsixUnmask
  repeat' (first | with_reducible apply runDev_keeps | with_reducible assumption | with_reducible apply unmask_keeps | (with_reducible intro) | split | dsimp only)

theorem execMsiEnable_keeps (port : Port) (msix functionMask msi : Bool) (multiple : Nat) (masked : List Nat) (s : State) (h : Keeps A L s.dev) :
    KeepsNext A L (execMsiEnable port msix functionMask msi multiple masked s) := by
  unfold execMsiEnable
  repeat' (first | with_reducible apply runDev_keeps | with_reducible assumption | with_reducible apply writeMsi_keeps | (with_reducible intro) | split | dsimp only)

theorem execTlpError_keeps (port : Port) (error : PcieError) (header : Nat) (cmd : Option (Nat × Nat)) (s : State) (h : Keeps A L s.dev) :
    KeepsNext A L (execTlpError port error header cmd s) := by
  unfold execTlpError
  repeat' (first | with_reducible apply runDev_keeps | with_reducible assumption | with_reducible apply tlpError_keeps | (with_reducible intro) | split | dsimp only)

theorem execCompletionTimeout_keeps (port : Port) (elapsedUs header : Nat) (cmd : Option (Nat × Nat)) (s : State) (h : Keeps A L s.dev) :
    KeepsNext A L (execCompletionTimeout port elapsedUs header cmd s) := by
  unfold execCompletionTimeout
  repeat' (first | with_reducible apply runDev_keeps | with_reducible assumption | with_reducible apply timeOut_keeps | (with_reducible intro) | split | dsimp only)

theorem execBusMasterHoldTimeout_keeps (p : Port) (sqid cid : Nat) (s : State) (h : Keeps A L s.dev) :
    KeepsNext A L (execBusMasterHoldTimeout p sqid cid s) := by
  unfold execBusMasterHoldTimeout
  repeat' (first | with_reducible apply runDev_keeps | with_reducible assumption | with_reducible apply failHostMemory_keeps | with_reducible apply linkUp_keeps | with_reducible apply onlyIf_keeps | (with_reducible intro) | split | dsimp only)

theorem execVpdRead_keeps (p : Port) (address : Nat) (s : State) (h : Keeps A L s.dev) :
    KeepsNext A L (execVpdRead p address s) := by
  unfold execVpdRead
  repeat' (first | with_reducible apply runDev_keeps | with_reducible assumption | with_reducible apply leaveL1_keeps | with_reducible apply onlyIf_keeps | with_reducible apply updPort_keeps | (with_reducible intro) | split | dsimp only)

theorem execVpdWrite_keeps (p : Port) (address : Nat) (s : State) (h : Keeps A L s.dev) :
    KeepsNext A L (execVpdWrite p address s) := by
  unfold execVpdWrite
  repeat' (first | with_reducible apply runDev_keeps | with_reducible assumption | with_reducible apply leaveL1_keeps | with_reducible apply onlyIf_keeps | with_reducible apply updPort_keeps | (with_reducible intro) | split | dsimp only)

theorem execIdentify_keeps (cmd : HostCmd) (cns cntid csi : Nat) (s : State) (h : Keeps A L s.dev) :
    KeepsNext A L (execIdentify cmd cns cntid csi s) := by
  unfold execIdentify
  repeat' (first | with_reducible apply runDev_keeps | with_reducible assumption | with_reducible apply adminCommand_keeps | with_reducible apply identify_keeps | with_reducible apply identifyBody_keeps | (with_reducible intro) | split | dsimp only)

theorem execGetLogPage_keeps (cmd : HostCmd) (lid offset bytes : Nat) (retain create : Bool) (s : State) (h : Keeps A L s.dev) :
    KeepsNext A L (execGetLogPage cmd lid offset bytes retain create s) := by
  unfold execGetLogPage
  repeat' (first | with_reducible apply runDev_keeps | with_reducible assumption | with_reducible apply adminCommand_keeps | with_reducible apply logPageBody_keeps | (with_reducible intro) | split | dsimp only)

theorem execControllerEnable_keeps (port : Port) (cc aqa : Nat) (s : State) (h : Keeps A L s.dev) :
    KeepsNext A L (execControllerEnable port cc aqa s) := by
  unfold execControllerEnable
  repeat' (first | with_reducible apply runDev_keeps | with_reducible assumption | with_reducible apply enableController_keeps | (with_reducible intro) | split | dsimp only)

theorem execControllerDisable_keeps (p : Port) (s : State) (h : Keeps A L s.dev) :
    KeepsNext A L (execControllerDisable p s) := by
  unfold execControllerDisable
  repeat' (first | with_reducible apply runDev_keeps | with_reducible assumption | with_reducible apply controllerReset_keeps | with_reducible apply leaveL1_keeps | with_reducible apply onlyIf_keeps | (with_reducible intro) | split | dsimp only)

theorem execShutdownNotification_keeps (port : Port) (s : State) (h : Keeps A L s.dev) :
    KeepsNext A L (execShutdownNotification port s) := by
  unfold execShutdownNotification
  repeat' (first | with_reducible apply runDev_keeps | with_reducible assumption | with_reducible apply notifyShutdown_keeps | (with_reducible intro) | split | dsimp only)

theorem execShutdownProcessingComplete_keeps (s : State) (h : Keeps A L s.dev) :
    KeepsNext A L (execShutdownProcessingComplete s) := by
  unfold execShutdownProcessingComplete
  repeat' (first | with_reducible apply runDev_keeps | with_reducible assumption | with_reducible apply completeShutdown_keeps | (with_reducible intro) | split | dsimp only)

theorem execSqTailDoorbell_keeps (port : Port) (sqid tail : Nat) (s : State) (h : Keeps A L s.dev) :
    KeepsNext A L (execSqTailDoorbell port sqid tail s) := by
  unfold execSqTailDoorbell
  repeat' (first | with_reducible apply runDev_keeps | with_reducible assumption | with_reducible apply ringTail_keeps | (with_reducible intro) | split | dsimp only)

theorem execCqHeadDoorbell_keeps (port : Port) (cqid head : Nat) (s : State) (h : Keeps A L s.dev) :
    KeepsNext A L (execCqHeadDoorbell port cqid head s) := by
  unfold execCqHeadDoorbell
  repeat' (first | with_reducible apply runDev_keeps | with_reducible assumption | with_reducible apply ringHead_keeps | (with_reducible intro) | split | dsimp only)

theorem execInterruptCoalescingTime_keeps (port : Port) (cqid : Nat) (s : State) (h : Keeps A L s.dev) :
    KeepsNext A L (execInterruptCoalescingTime port cqid s) := by
  unfold execInterruptCoalescingTime
  repeat' (first | with_reducible apply runDev_keeps | with_reducible assumption | with_reducible apply coalescingEnds_keeps | (with_reducible intro) | split | dsimp only)

theorem execKeepAliveExpired_keeps (port : Port) (s : State) (h : Keeps A L s.dev) :
    KeepsNext A L (execKeepAliveExpired port s) := by
  unfold execKeepAliveExpired
  repeat' (first | with_reducible apply runDev_keeps | with_reducible assumption | with_reducible apply keepAliveExpires_keeps | (with_reducible intro) | split | dsimp only)

theorem execKeepAlive_keeps (cmd : HostCmd) (s : State) (h : Keeps A L s.dev) :
    KeepsNext A L (execKeepAlive cmd s) := by
  unfold execKeepAlive
  repeat' (first | with_reducible apply runDev_keeps | with_reducible assumption | with_reducible apply adminCommand_keeps | with_reducible apply keepAliveBody_keeps | (with_reducible intro) | split | dsimp only)

theorem execCreateIoSq_keeps (cmd : HostCmd) (qid size cqid : Nat) (contiguous : Bool) (s : State) (h : Keeps A L s.dev) :
    KeepsNext A L (execCreateIoSq cmd qid size cqid contiguous s) := by
  unfold execCreateIoSq
  repeat' (first | with_reducible apply runDev_keeps | with_reducible assumption | with_reducible apply adminCommand_keeps | with_reducible apply createSq_keeps | (with_reducible intro) | split | dsimp only)

theorem execCreateIoCq_keeps (cmd : HostCmd) (qid size vector : Nat) (contiguous interrupts : Bool) (s : State) (h : Keeps A L s.dev) :
    KeepsNext A L (execCreateIoCq cmd qid size vector contiguous interrupts s) := by
  unfold execCreateIoCq
  repeat' (first | with_reducible apply runDev_keeps | with_reducible assumption | with_reducible apply adminCommand_keeps | with_reducible apply createCq_keeps | (with_reducible intro) | split | dsimp only)

theorem execDeleteIoSq_keeps (cmd : HostCmd) (qid : Nat) (s : State) (h : Keeps A L s.dev) :
    KeepsNext A L (execDeleteIoSq cmd qid s) := by
  unfold execDeleteIoSq
  repeat' (first | with_reducible apply runDev_keeps | with_reducible assumption | with_reducible apply adminCommand_keeps | with_reducible apply deleteSq_keeps | (with_reducible intro) | split | dsimp only)

theorem execDeleteIoCq_keeps (cmd : HostCmd) (qid : Nat) (s : State) (h : Keeps A L s.dev) :
    KeepsNext A L (execDeleteIoCq cmd qid s) := by
  unfold execDeleteIoCq
  repeat' (first | with_reducible apply runDev_keeps | with_reducible assumption | with_reducible apply adminCommand_keeps | with_reducible apply deleteCq_keeps | (with_reducible intro) | split | dsimp only)

theorem execAbort_keeps (cmd : HostCmd) (sqid cid : Nat) (s : State) (h : Keeps A L s.dev) :
    KeepsNext A L (execAbort cmd sqid cid s) := by
  unfold execAbort
  repeat' (first | with_reducible apply runDev_keeps | with_reducible assumption | with_reducible apply abortBody_keeps | with_reducible apply adminCommand_keeps | (with_reducible intro) | split | dsimp only)

theorem execAsyncEventRequest_keeps (cmd : HostCmd) (s : State) (h : Keeps A L s.dev) :
    KeepsNext A L (execAsyncEventRequest cmd s) := by
  unfold execAsyncEventRequest
  repeat' (first | with_reducible apply runDev_keeps | with_reducible assumption | with_reducible apply adminCommand_keeps | with_reducible apply asyncBody_keeps | (with_reducible intro) | split | dsimp only)

theorem execInvalidCommandOpcode_keeps (cmd : HostCmd) (s : State) (h : Keeps A L s.dev) :
    KeepsNext A L (execInvalidCommandOpcode cmd s) := by
  unfold execInvalidCommandOpcode
  repeat' (first | with_reducible apply runDev_keeps | with_reducible assumption | with_reducible apply invalidOpcode_keeps | (with_reducible intro) | split | dsimp only)

theorem execSetFeatures_keeps (cmd : HostCmd) (fid : Nat) (save : Bool) (value data : Nat) (s : State) (h : Keeps A L s.dev) :
    KeepsNext A L (execSetFeatures cmd fid save value data s) := by
  unfold execSetFeatures
  repeat' (first | with_reducible apply runDev_keeps | with_reducible assumption | with_reducible apply adminCommand_keeps | with_reducible apply setFeaturesBody_keeps | (with_reducible intro) | split | dsimp only)

theorem execGetFeatures_keeps (cmd : HostCmd) (fid select value : Nat) (s : State) (h : Keeps A L s.dev) :
    KeepsNext A L (execGetFeatures cmd fid select value s) := by
  unfold execGetFeatures
  repeat' (first | with_reducible apply runDev_keeps | with_reducible assumption | with_reducible apply adminCommand_keeps | with_reducible apply getFeaturesBody_keeps | (with_reducible intro) | split | dsimp only)

theorem execNamespaceCreate_keeps (cmd : HostCmd) (nsze ncap flbas dps nmic parity : Nat) (s : State) (h : Keeps A L s.dev) :
    KeepsNext A L (execNamespaceCreate cmd nsze ncap flbas dps nmic parity s) := by
  unfold execNamespaceCreate
  repeat' (first | with_reducible apply runDev_keeps | with_reducible assumption | with_reducible apply adminCommand_keeps | with_reducible apply createNamespace_keeps | (with_reducible intro) | split | dsimp only)

theorem execNamespaceDelete_keeps (cmd : HostCmd) (s : State) (h : Keeps A L s.dev) :
    KeepsNext A L (execNamespaceDelete cmd s) := by
  unfold execNamespaceDelete
  repeat' (first | with_reducible apply runDev_keeps | with_reducible assumption | with_reducible apply adminCommand_keeps | with_reducible apply deleteNamespace_keeps | (with_reducible intro) | split | dsimp only)

theorem execNamespaceAttach_keeps (cmd : HostCmd) (controllers : List Nat) (s : State) (h : Keeps A L s.dev) :
    KeepsNext A L (execNamespaceAttach cmd controllers s) := by
  unfold execNamespaceAttach
  repeat' (first | with_reducible apply runDev_keeps | with_reducible assumption | with_reducible apply adminCommand_keeps | with_reducible apply attachNamespace_keeps | (with_reducible intro) | split | dsimp only)

theorem execNamespaceDetach_keeps (cmd : HostCmd) (controllers : List Nat) (s : State) (h : Keeps A L s.dev) :
    KeepsNext A L (execNamespaceDetach cmd controllers s) := by
  unfold execNamespaceDetach
  repeat' (first | with_reducible apply runDev_keeps | with_reducible assumption | with_reducible apply adminCommand_keeps | with_reducible apply attachNamespace_keeps | (with_reducible intro) | split | dsimp only)

theorem execFormatNvm_keeps (cmd : HostCmd) (flbas dps ses : Nat) (s : State) (h : Keeps A L s.dev) :
    KeepsNext A L (execFormatNvm cmd flbas dps ses s) := by
  unfold execFormatNvm
  repeat' (first | with_reducible apply runDev_keeps | with_reducible assumption | with_reducible apply adminCommand_keeps | with_reducible apply formatBody_keeps | (with_reducible intro) | split | dsimp only)

theorem execDictionaryWrite_keeps (cmd : HostCmd) (index sub : Nat) (value : List Byte) (out : StoreOutcome) (s : State) (h : Keeps A L s.dev) :
    KeepsNext A L (execDictionaryWrite cmd index sub value out s) := by
  unfold execDictionaryWrite
  repeat' (first | with_reducible apply runDev_keeps | with_reducible assumption | with_reducible apply adminCommand_keeps | with_reducible apply dictionaryWriteBody_keeps | (with_reducible intro) | split | dsimp only)

theorem execDictionaryRead_keeps (cmd : HostCmd) (index sub bytes : Nat) (s : State) (h : Keeps A L s.dev) :
    KeepsNext A L (execDictionaryRead cmd index sub bytes s) := by
  unfold execDictionaryRead
  repeat' (first | with_reducible apply runDev_keeps | with_reducible assumption | with_reducible apply adminCommand_keeps | with_reducible apply dictionaryReadBody_keeps | (with_reducible intro) | split | dsimp only)

theorem execReservationRegister_keeps (cmd : HostCmd) (action : Nat) (ignoreKey : Bool) (cptpl current new : Nat) (s : State) (h : Keeps A L s.dev) :
    KeepsNext A L (execReservationRegister cmd action ignoreKey cptpl current new s) := by
  unfold execReservationRegister
  repeat' (first | with_reducible apply runDev_keeps | with_reducible assumption | with_reducible apply ioCommand_keeps | with_reducible apply registerBody_keeps | (with_reducible intro) | split | dsimp only)

theorem execReservationReport_keeps (cmd : HostCmd) (extended : Bool) (bytes : Nat) (s : State) (h : Keeps A L s.dev) :
    KeepsNext A L (execReservationReport cmd extended bytes s) := by
  unfold execReservationReport
  repeat' (first | with_reducible apply runDev_keeps | with_reducible assumption | with_reducible apply ioCommand_keeps | with_reducible apply reportBody_keeps | (with_reducible intro) | split | dsimp only)

theorem execReservationAcquire_keeps (cmd : HostCmd) (action : Nat) (ignoreKey : Bool) (rtype current preempt : Nat) (s : State) (h : Keeps A L s.dev) :
    KeepsNext A L (execReservationAcquire cmd action ignoreKey rtype current preempt s) := by
  unfold execReservationAcquire
  repeat' (first | with_reducible apply runDev_keeps | with_reducible assumption | with_reducible apply acquireBody_keeps | with_reducible apply ioCommand_keeps | (with_reducible intro) | split | dsimp only)

theorem execReservationRelease_keeps (cmd : HostCmd) (action : Nat) (ignoreKey : Bool) (rtype current : Nat) (s : State) (h : Keeps A L s.dev) :
    KeepsNext A L (execReservationRelease cmd action ignoreKey rtype current s) := by
  unfold execReservationRelease
  repeat' (first | with_reducible apply runDev_keeps | with_reducible assumption | with_reducible apply ioCommand_keeps | with_reducible apply releaseBody_keeps | (with_reducible intro) | split | dsimp only)

theorem execPoolRetry_keeps (owner pool : Nat) (s : State) (h : Keeps A L s.dev) :
    KeepsNext A L (execPoolRetry owner pool s) := by
  unfold execPoolRetry
  repeat' (first | with_reducible apply runDev_keeps | with_reducible assumption | with_reducible apply retryPool_keeps | (with_reducible intro) | split | dsimp only)

theorem execHoldUpFlushComplete_keeps (s : State) (h : Keeps A L s.dev) :
    KeepsNext A L (execHoldUpFlushComplete s) := by
  unfold execHoldUpFlushComplete
  repeat' (first | with_reducible apply runDev_keeps | with_reducible assumption | with_reducible apply finishFlush_keeps | (with_reducible intro) | split | dsimp only)

theorem execSagRecoveryQualified_keeps (s : State) (h : Keeps A L s.dev) :
    KeepsNext A L (execSagRecoveryQualified s) := by
  unfold execSagRecoveryQualified
  repeat' (first | with_reducible apply runDev_keeps | with_reducible assumption | with_reducible apply recoveryQualifies_keeps | (with_reducible intro) | split | dsimp only)

theorem execPerstAssert_keeps (s : State) (h : Keeps A L s.dev) :
    KeepsNext A L (execPerstAssert s) := by
  unfold execPerstAssert
  repeat' (first | with_reducible apply runDev_keeps | with_reducible assumption | with_reducible apply assertPerst_keeps | (with_reducible intro) | split | dsimp only)

theorem execVsysResetFall_keeps (absent : Bool) (s : State) (h : Keeps A L s.dev) :
    KeepsNext A L (execVsysResetFall absent s) := by
  unfold execVsysResetFall
  repeat' (first | with_reducible apply runDev_keeps | with_reducible assumption | with_reducible apply vsysFalls_keeps | (with_reducible intro) | split | dsimp only)

theorem execVsysRise_keeps (fault : Fin 3) (s : State) (h : Keeps A L s.dev) :
    KeepsNext A L (execVsysRise fault s) := by
  unfold execVsysRise
  repeat' (first | with_reducible apply runDev_keeps | with_reducible assumption | with_reducible apply vsysRises_keeps | (with_reducible intro) | split | dsimp only)

theorem execPowerOnResetRelease_keeps (nodeId : Nat) (fault : Fin 3) (s : State) (h : Keeps A L s.dev) :
    KeepsNext A L (execPowerOnResetRelease nodeId fault s) := by
  unfold execPowerOnResetRelease
  repeat' (first | with_reducible apply runDev_keeps | with_reducible assumption | with_reducible apply porReleases_keeps | (with_reducible intro) | split | dsimp only)

theorem execPowerOnResetAssert_keeps (s : State) (h : Keeps A L s.dev) :
    KeepsNext A L (execPowerOnResetAssert s) := by
  unfold execPowerOnResetAssert
  repeat' (first | with_reducible apply runDev_keeps | with_reducible assumption | with_reducible apply porAsserts_keeps | (with_reducible intro) | split | dsimp only)

theorem execOperatingHourTick_keeps (s : State) (h : Keeps A L s.dev) :
    KeepsNext A L (execOperatingHourTick s) := by
  unfold execOperatingHourTick
  repeat' (first | with_reducible apply runDev_keeps | with_reducible assumption | with_reducible apply hourTick_keeps | (with_reducible intro) | split | dsimp only)

theorem execResetRelease_keeps (boot : BootInputs) (s : State) (hx : A → ∀ m ∈ boot.mismatches, m.row ≠ 3) (h : Keeps A L s.dev) :
    KeepsNext A L (execResetRelease boot s) := by
  unfold execResetRelease
  repeat' (first | with_reducible apply runDev_keeps | with_reducible assumption | with_reducible refine releaseReset_keeps _ _ hx ?_ | (with_reducible intro) | split | dsimp only)

theorem execControlEpoch_keeps (epoch : EpochInputs) (s : State) (hx : A → ∀ m ∈ epoch.mismatches ++ epoch.damaged, m.row ≠ 3) (h : Keeps A L s.dev) :
    KeepsNext A L (execControlEpoch epoch s) := by
  unfold execControlEpoch
  repeat' (first | with_reducible apply runDev_keeps | with_reducible assumption | with_reducible refine controlEpoch_keeps _ _ hx ?_ | (with_reducible intro) | split | dsimp only)

end
end Sys2Proof.Machine
end

