-- ==== Sys2Proof/Machine/Layouts.lean ====
section
/-! DEFINITION. The bytes of the structures that the controller keeps on the medium, in DRAM and in the code store, from the state that
holds their contents (spec/00 R10, spec/03 to spec/10, spec/12, spec/13, spec/18 to spec/20). No command returns these bytes to anyone.
A flash pointer is the place that the state holds for the frame; the extents of a table index frame are the caller's (notes/assumptions/139.md). -/
namespace Sys2Proof.Machine

/-! ### Pairs -/

/-- A complement-protected 40-bit value in ten bytes (R10). -/
def pairBytes (v : Nat) : List Byte := leBytes 5 v ++ leBytes 5 (2 ^ 40 - 1 - v % 2 ^ 40)

/-- The same pair as an 80-bit value (R10). -/
def pairWord (v : Nat) : Nat := v * 2 ^ 40 + (2 ^ 40 - 1 - v)

/-! ### Keys (spec/18) -/

/-- The message from which the key-encryption key is derived under the root key (R524). -/
def kekMessage (d : Device) : List Byte := ascii "TZ-KEK" ++ leBytes 8 d.media.sb.instance_

/-- The key-encryption key (R524): 32 bytes. -/
def kek (d : Device) : List Byte := hmac (leBytes 32 Config.rootKey.toNat) (kekMessage d)

/-- The wrapped form of a namespace key: 72 bytes (R525). -/
def wrappedKey (k : Nat) (d : Device) : List Byte := wrapKey (kek d) (xtsKey1 (slotKey k d) ++ xtsKey2 (slotKey k d))

/-! ### Blocks (spec/04, spec/09) -/

/-- The header frame of a data block `b` (R123, R130, Table 4.8). -/
def headerBytes (b : Nat) (d : Device) : List Byte :=
  let e := block b d
  let h := e.header
  let dieOf (k : Nat) : Nat := match h.members.find? fun m => m.1 == k with | some m => m.2 | none => 0xFFFF
  sealed 4096 [(0, ascii "TZBH"), (4, leBytes 2 1), (6, leBytes 1 e.step), (7, leBytes 1 h.kind), (8, leBytes 8 h.instance_),
    (16, leBytes 8 h.openSeq), (24, leBytes 4 b), (28, (h.group.map (leBytes 4)).flatten), (44, leBytes 2 e.cap), (46, leBytes 2 h.headroom),
    (48, leBytes 4 (eraseCount b e d)), (52, leBytes 4 h.openHours), (56, leBytes 3 h.openCycle), (59, leBytes 1 h.parity),
    (60, leBytes 8 e.stripe), (68, leBytes 1 (bankOfDie (dieOfBlock b))), (69, leBytes 1 h.members.length),
    (72, ((List.range 16).map fun k => leBytes 2 (dieOf k)).flatten), (104, leBytes 4 h.openAge)]

/-- A reverse entry: start frame, slot and grain (Table 4.9). -/
def reverseEntry (frame slot grain : Nat) : Nat := frame * 2 ^ 50 + slot * 2 ^ 40 + grain

/-- The footer of block `b` (Table 4.9), of a block closed with one (R129, R133), with the grains stored in it, in ascending start frame. -/
def footerBytes (b : Nat) (d : Device) : List Byte :=
  let e := block b d
  let gs := d.media.stored.filter fun x => x.1 / 16384 == b
  let f := footerFrames gs.length
  let last := gs.foldl (fun m x => max m (x.1 % 16384 + x.2.frames)) 1
  let bitmap := (List.range 64).map fun k =>
    BitVec.ofNat 8 (((List.range 8).map fun i => if e.header.padding.contains (8 * k + i) then 2 ^ i else 0).sum)
  sealed (4096 * f) [(0, ascii "TZBF"), (4, leBytes 2 1), (6, leBytes 2 f), (8, leBytes 8 e.header.openSeq), (16, leBytes 4 b),
    (20, leBytes 2 last), (24, leBytes 4 gs.length), (28, leBytes 4 e.closeHours), (32, leBytes 3 e.header.closeCycle), (36, bitmap),
    (128, (gs.map fun x => leBytes 8 (reverseEntry (x.1 % 16384) x.2.slot x.2.grain)).flatten), (4096 * f - 8, leBytes 2 f)]

/-- The six words of a block table entry (Table 9.1). -/
def tableWords (b : Nat) (d : Device) : List Nat :=
  let e := block b d
  [e.state * 2 ^ 36 + e.cls * 2 ^ 32 + e.step * 2 ^ 29 + b2n e.noFooter * 2 ^ 28 + e.lastFine * 2 ^ 19 + eraseCount b e d,
   e.valid * 2 ^ 26 + e.freshC * 2 ^ 13 + e.freshLag * 2 ^ 5 + b2n e.refreshQ * 16 + b2n e.readQ * 8 + b2n e.rateQ * 4 + b2n e.wearQ * 2
     + b2n e.pinned,
   e.closeHours * 256 + e.shortRows, e.closeAge * 256 + e.padRows, e.stripe % 2 ^ 40,
   e.contRow * 2 ^ 31 + b2n e.cont * 2 ^ 30 + e.role * 2 ^ 28 + e.retireCause * 2 ^ 24]

/-- A block table entry: six complement-protected words and four reserved bytes (R255). -/
def tableBytes (b : Nat) (d : Device) : List Byte := ((tableWords b d).map pairBytes).flatten ++ zeroBytes 4

/-- The row of a die in the gauge table (R97). -/
def gaugeRow (n : Nat) (d : Device) : List Byte :=
  ((List.range 4).map fun p =>
    match (goodGauge n d).find? fun b => planeOfBlock b == p with | some b => leBytes 2 (b % 16384) | none => leBytes 2 0xFFFF).flatten

/-- A signed byte. -/
def signedByte (x : Int) : Byte := BitVec.ofInt 8 x

/-- A calendar die record (R280, Table 9.4). -/
def calendarDie (n : Nat) (d : Device) : List Byte :=
  let x := die n d
  sealed 64 [(0, leBytes 4 x.ageBase), (4, leBytes 4 x.gaugeAge), (8, leBytes 4 x.darkAge), (12, leBytes 4 x.scanHours),
    (16, leBytes 3 x.scanCycle), (19, leBytes 1 x.gaugeState), (20, (x.refOffsets.take 31).map signedByte), (52, leBytes 8 x.scanWallMs)]

/-- A calendar block entry (Table 9.5). -/
def calendarBlock (b : Nat) (d : Device) : List Byte :=
  let e := block b d
  leBytes 4 e.scrubDue ++ leBytes 2 e.scrubInterval ++ leBytes 1 e.lastRatio
    ++ leBytes 1 (e.sample * 64 + b2n e.refreshDue * 32 + b2n e.overdue * 16)

/-- A group-log record (R257). -/
def groupRecordBytes (r : PlaneRecord) : List Byte :=
  layout 48 [(0, leBytes 8 r.openSeq), (8, leBytes 8 (r.stripe.getD (2 ^ 64 - 1))), (16, (r.blocks.map (leBytes 4)).flatten), (32, leBytes 2 r.die),
    (34, leBytes 1 r.kind), (36, leBytes 2 ((r.steps.zip [1, 8, 64, 512]).map fun x => x.1 * x.2).sum), (38, leBytes 2 (r.row.getD 0xFFFF))]

/-- A copy of a group-log frame (R257). -/
def groupFrameBytes (f : PlaneFrame) (second : Bool) : List Byte :=
  sealed 4096 [(0, ascii "TZGL"), (4, leBytes 2 1), (6, leBytes 2 f.records.length), (8, leBytes 8 (f.records.head?.getD {}).openSeq),
    (16, pairBytes f.next1), (26, pairBytes f.next2), (36, leBytes 1 (b2n second)), (48, (f.records.map groupRecordBytes).flatten)]

/-- A table index frame, of the block table or the calendar, with its extents of block, first frame and count (R256, Table 5.12). -/
def tableIndexFrame (calendar : Bool) (t : TableIndex) (hours cycle : Nat) (extents : List (Nat × Nat × Nat)) : List Byte :=
  sealed 4096 [(0, ascii "TZTX"), (4, leBytes 2 1), (6, leBytes 1 (if calendar then 0x11 else 0x10)), (8, leBytes 8 t.mark),
    (16, if calendar then zeroBytes 10 else pairBytes t.next1), (26, if calendar then zeroBytes 10 else pairBytes t.next2),
    (36, leBytes 4 hours), (40, leBytes 3 cycle), (44, leBytes 2 extents.length),
    (48, (extents.map fun x => leBytes 8 (x.1 * 2 ^ 28 + x.2.1 * 2 ^ 14 + x.2.2)).flatten)]

/-! ### The map (spec/05) -/

/-- A map entry's five bytes (Table 5.3). -/
def entryFive (v : Nat) : List Byte := leBytes 5 v

/-- The seed of a line's CRC (R141). -/
def lineSeed (slot line : Nat) : Nat := slot * 2 ^ 40 + line

/-- A map line: its twelve entries and their CRC under its seed (Table 5.5). -/
def lineBytes (slot line : Nat) (d : Device) : List Byte :=
  let es := ((List.range 12).map fun i => entryFive (mapEntry slot (12 * line + i) d)).flatten
  es ++ leBytes 4 (crc32c (leBytes 8 (lineSeed slot line) ++ es))

/-- A map page: 64 consecutive lines (R142). -/
def mapPageBytes (slot page : Nat) (d : Device) : List Byte :=
  ((List.range 64).map fun i => lineBytes slot (64 * page + i) d).flatten

/-- A journal record (Table 5.9); `image` is the frame of a page's new image. -/
def journalBytes (image : Nat) : JRecord → List Byte
  | .entrySet slot grain value => layout 16 [(0, leBytes 2 (0x1000 + slot)), (2, leBytes 5 grain), (7, leBytes 5 value)]
  | .rangeSet slot first count value =>
    layout 16 [(0, leBytes 2 (0x2000 + slot)), (2, leBytes 5 first), (7, leBytes 5 count), (12, leBytes 1 (if value = 0 then 0 else 1))]
  | .pageWritten slot page => layout 16 [(0, leBytes 2 (0x3000 + slot)), (2, leBytes 4 page), (6, pairBytes image)]
  | .regionReset slot pages => layout 16 [(0, leBytes 2 (0x4000 + slot)), (2, leBytes 4 pages)]

/-- A copy of a journal frame: its records, with the reserved locations of the next frame's two copies (Table 5.10). -/
def journalFrame (f : JFrame) (second : Bool) (d : Device) : List Byte :=
  let records := (sequenced [f]).map fun x => journalBytes (smGet {} d.media.map.images (x.1 + 1)).place x.2
  sealed 4096 [(0, ascii "TZMJ"), (4, leBytes 2 1), (6, leBytes 2 records.length), (8, leBytes 8 f.first), (16, pairBytes f.next1),
    (26, pairBytes f.next2), (36, leBytes 1 (b2n second)), (40, leBytes 8 f.checkpoint), (60, records.flatten)]

/-- A directory snapshot frame: the image frames of consecutive pages of a slot, 0 for a page without one (R165, Table 5.11). -/
def snapshotFrame (copyB : Bool) (slot firstPage count : Nat) (d : Device) : List Byte :=
  let m := d.media.map
  let images := (List.range count).map fun i => (smGet {} m.images (smGet 0 m.snapshot (pageKey slot (firstPage + i)))).place
  sealed 4096 [(0, ascii "TZMD"), (4, leBytes 2 (b2n copyB * 2 ^ 15 + slot)), (6, leBytes 2 images.length), (8, leBytes 4 firstPage),
    (12, (images.map pairBytes).flatten)]

/-- A checkpoint frame: role 0 the record, 1 and 2 the indexes, with their extents of block, first frame and count (R166, Table 5.12). -/
def checkpointFrame (role : Nat) (c : Checkpoint) : List Byte :=
  let extents := if role = 1 then c.extentsA else if role = 2 then c.extentsB else []
  sealed 4096 [(0, ascii "TZMC"), (4, leBytes 2 1), (6, leBytes 1 role), (8, leBytes 8 c.seq), (16, pairBytes c.head1), (26, pairBytes c.head2),
    (36, leBytes 4 c.hours), (40, leBytes 3 c.cycle), (44, leBytes 2 extents.length),
    (48, (extents.map fun x => leBytes 8 (x.1 * 2 ^ 28 + x.2.1 * 2 ^ 14 + x.2.2)).flatten)]

/-! ### The superblock and the logs (spec/03, spec/10, spec/19) -/

/-- The gauge table: a row for each die, in global die order (R97). -/
def gaugeTable (d : Device) : List Byte := ((List.range 4096).map fun n => gaugeRow n d).flatten

/-- The ten roots in the order of Table 3.14. -/
def rootList (r : Roots) : List Nat :=
  [r.mapCheckpoint, r.mapJournal, r.directoryA, r.directoryB, r.blockTable, r.gaugeTable, r.logbook, r.lostRange, r.namespaces, r.calendar]

/-- A superblock (R90, Table 3.14). -/
def superblockBytes (s : Superblock) : List Byte :=
  sealed 4096 [(0, ascii "TZSB"), (4, leBytes 2 1), (6, leBytes 1 s.side), (8, leBytes 8 s.generation), (16, leBytes 8 s.instance_),
    (24, leBytes 2 s.banks), (28, leBytes 4 s.lostSides), (32, ((rootList s.roots).map pairBytes).flatten)]

/-- What an update of the superblock programs in page `p` of a plane of an anchor group, at the first (0) or second (1) of its two wordlines, in
information bytes: codeword 0 of page 0 at wordline n carries the superblock, written at S7, zeros after it; everything else is the filler
pattern, that of zero information (R92, R102). -/
def anchorPage (s : Superblock) (second : Bool) (p h : Nat) : List Byte :=
  if !second && p = 0 && h = 0 then layout (infoBytes 7) [(0, superblockBytes s)] else zeroBytes (infoBytes 7)

/-- A lost-range frame, with the running number of its first entry and the frame before it (Table 10.3). -/
def lostRangeFrame (first previous : Nat) (es : List LostRange) : List Byte :=
  sealed 4096 [(0, ascii "TZLR"), (4, leBytes 2 1), (6, leBytes 2 es.length), (8, leBytes 8 first),
    (16, if previous = 0 then zeroBytes 10 else pairBytes previous), (64, (es.map lostRangeBytes).flatten)]

/-- A logbook frame with the frame before it and the reserved location of the next (Table 19.5): its CRC stands in bytes 60 to 63. -/
def logbookFrame (previous next : Nat) (rs : List LogRecord) : List Byte :=
  let first := match rs with | r :: _ => r.seq | [] => 0
  let head := layout 60 [(0, ascii "TZLB"), (4, leBytes 2 1), (6, leBytes 2 rs.length), (8, leBytes 4 first),
    (16, if previous = 0 then zeroBytes 10 else pairBytes previous), (26, pairBytes next)]
  let body := layout 4032 [(0, (rs.map recordBytes).flatten)]
  head ++ leBytes 4 (crc32c (head ++ body)) ++ body

/-- The namespace table record of a slot (Table 12.7a). -/
def namespaceRecord (slot : Nat) (deleting : Bool) (d : Device) : List Byte :=
  let n := namespace_ slot d
  let holder := if n.resType = 5 || n.resType = 6 then 0xFE
    else match n.holder with | some h => (n.registrants.findIdx? (·.hostId == h)).getD 0xFF | none => 0xFF
  let one (r : Registrant) : List Byte := leBytes 16 r.hostId.toNat ++ leBytes 8 r.key ++ leBytes 2 r.ctrl ++ leBytes 1 1 ++ zeroBytes 5
  sealed 512 [(0, ascii "TZNS"), (4, leBytes 2 1), (6, leBytes 2 slot), (8, leBytes 1 (if deleting then 3 else if n.formatting then 2 else 1)),
    (9, leBytes 1 n.flbas), (10, leBytes 1 n.dps), (11, leBytes 1 n.nmic), (12, leBytes 1 n.parity), (13, leBytes 1 (b2n n.ptpl)),
    (14, leBytes 2 n.keySlot), (16, leBytes 8 n.nsze), (24, leBytes 8 n.creation), (32, leBytes 1 n.attached), (33, leBytes 1 n.resType),
    (34, leBytes 1 holder), (35, leBytes 1 n.registrants.length), (36, leBytes 4 n.prgen), (128, (n.registrants.map one).flatten)]

/-! ### The code store (spec/13, spec/18, spec/20) -/

/-- The header of a block of a log area, with the area's Magic and the copy (Table 13.9; R530, R575). -/
def logAreaHeader (magic : String) (copyB : Bool) (version generation : Nat) : List Byte :=
  sealed 64 [(0, ascii magic), (4, leBytes 2 1), (6, leBytes 1 (b2n copyB)), (8, leBytes 4 version), (12, leBytes 8 generation)]

/-- A settings entry, padded to a multiple of 8 bytes (Table 13.10). Without a value the object returns to its default. -/
def settingsEntry (key : Nat) (value : Option (List Byte)) (more : Bool) : List Byte :=
  let v := value.getD []
  let body := leBytes 2 (key / 256) ++ leBytes 1 key ++ leBytes 1 (b2n more + 2 * b2n value.isNone) ++ leBytes 2 v.length ++ leBytes 2 0
    ++ v ++ v.map (~~~ ·)
  let e := body ++ leBytes 4 (crc32c body)
  e ++ List.replicate ((8 - e.length % 8) % 8) 0xFF

/-- A key-area entry: kind, slot, generation, the 72 bytes of its body and its rights (Table 18.1). -/
def keyAreaEntry (kind slot generation : Nat) (body : List Byte) (rights : Nat) : List Byte :=
  sealed 96 [(0, leBytes 1 kind), (2, leBytes 2 slot), (4, leBytes 4 generation), (8, body.take 72), (80, leBytes 1 rights)]

/-- The entry of a namespace key: live, or destroyed, every byte zero (Table 18.1, R531). -/
def namespaceKeyEntry (k : Nat) (d : Device) : List Byte :=
  let e := smGet {} d.sec.keys k
  if e.live then keyAreaEntry 1 k e.generation (wrappedKey k d) 0 else zeroBytes 96

/-- The sanitize record's entry (Table 18.1, kind 0x03). -/
def sanitizeEntry (generation : Nat) (d : Device) : List Byte :=
  let r := d.sec.san
  keyAreaEntry 3 0 generation (layout 72 [(0, leBytes 1 r.action), (1, leBytes 1 r.step), (2, leBytes 1 (b2n r.ause)), (4, leBytes 4 r.hours)]) 0

/-- An erase log record: 1 begun, 2 done, 3 snapshot (Table 20.5). -/
def eraseRecord (kind b : Nat) (d : Device) : List Byte :=
  let n := smGet 0 d.cs.eraseCounts b
  sealed 32 [(0, leBytes 1 kind), (2, leBytes 2 b), (4, pairBytes n), (14, pairBytes n)]

/-- The newest entry of a counter image (R580). -/
def counterBytes (d : Device) : List Byte :=
  let c := d.cs.counters
  sealed 32 [(0, pairBytes c.hours), (10, pairBytes c.cycles), (20, leBytes 4 c.ceiling), (24, leBytes 4 (2 ^ 32 - 1 - c.ceiling % 2 ^ 32))]

/-- The newest boot control entry (Table 20.7). -/
def bootEntry (d : Device) : List Byte :=
  let c := d.cs
  sealed 32 [(0, leBytes 1 1), (1, leBytes 1 c.nextSlot), (2, leBytes 1 c.lastGood), (3, leBytes 1 c.attempts), (4, leBytes 1 (slotFlags c.slot1)),
    (5, leBytes 1 (slotFlags c.slot2)), (6, leBytes 1 (b2n c.activeB)), (7, leBytes 1 (b2n c.lostPending)), (8, leBytes 8 c.bootGen)]

/-- The option area's payload (Table 20.3). -/
def optionAreaBytes (x : OaPayload) : List Byte :=
  sealed 2048 [(0, ascii "TZOA"), (4, leBytes 2 1), (8, leBytes 8 x.generation), (16, textField 20 x.serial), (36, leBytes 2 x.subVendor),
    (38, leBytes 2 x.subId), (40, leBytes 3 x.oui), (44, ((0 :: x.totals).map (leBytes 4)).flatten), (76, x.vpd)]

/-- A copy of the option area after its component header: the payload and its complement (R581). -/
def optionAreaImage (x : OaPayload) : List Byte := optionAreaBytes x ++ (optionAreaBytes x).map (~~~ ·)

/-- A component's header before its key and signature (Table 20.4). -/
def componentHead (code : Nat) (x : Component) : List Byte :=
  layout 224 [(0, ascii "TZFW"), (4, leBytes 2 1), (6, leBytes 1 code), (7, leBytes 1 x.signingKey), (8, leBytes 4 x.version),
    (12, leBytes 2 x.securityVersion), (14, leBytes 2 x.declaredMin), (16, leBytes 4 x.length), (20, leBytes 1 x.revokeKeys),
    (21, leBytes 1 x.compat.length), (24, leBytes 4 (if code = 1 then x.settingsWritten else 0)),
    (28, leBytes 4 (if code = 1 then x.settingsFrom else 0)),
    (32, (x.compat.map fun c => leBytes 4 c.1 ++ leBytes 4 c.2.1 ++ leBytes 4 c.2.2).flatten)]

/-- The header of a media profile (R82, Table 3.8). -/
def profileHeader (x : Component) : List Byte :=
  sealed 64 [(0, ascii "MPRF"), (4, leBytes 2 2), (6, leBytes 2 x.entries.length), (8, leBytes 4 (64 + 512 * x.entries.length)),
    (12, leBytes 4 x.version)]

/-- A media profile entry (Table 3.9; the geometry of Table 3.1). -/
def profileEntryBytes (e : ProfileEntry) : List Byte :=
  let two (o v : Nat) : Nat × List Byte := (o, leBytes 2 v)
  sealed 512 ([(0, e.idMatch), (8, e.idMask), two 16 e.minOnfi, (18, leBytes 1 4), (19, leBytes 1 4), two 20 16384, two 22 512, (24, leBytes 1 5),
      (25, leBytes 1 e.rowCycles), two 26 16384, two 28 2048, (30, leBytes 1 e.pageLsb), (31, leBytes 1 e.blockLsb), (32, leBytes 1 e.lunLsb),
      (33, leBytes 1 e.maxRateCode), (34, leBytes 1 e.driveStrength), (35, leBytes 1 e.odt), (36, leBytes 1 e.flags), (37, leBytes 1 e.suspendLimit),
      two 38 e.tPowerUpMax, two 40 e.tReadTyp, two 42 e.tReadMax, two 44 e.tCoarseTyp, two 46 e.tCoarseMax, two 48 e.tFineTyp, two 50 e.tFineMax,
      two 52 e.tEraseTyp, two 54 e.tEraseMax, two 56 e.tSuspendMax, (60, leBytes 4 e.ratedCycles)]
    ++ [(64, ([e.tokBase, e.tokPowerUp, e.tokPowerUpMs, e.tokRead, e.tokCoarse, e.tokFine, e.tokErase, e.tokXferLow, e.tokXferHigh].map
        (leBytes 2)).flatten),
      (128, (e.opcodes.map fun o => leBytes 1 o.1 ++ o.2).flatten), (256, (e.features.map fun o => leBytes 1 o.1 ++ leBytes 1 o.2).flatten),
      (320, leBytes 1 e.readOffsetStepMv), (321, [signedByte e.readOffsetMin]), (322, [signedByte e.readOffsetMax]), (323, leBytes 1 e.readOffsetBase)])

end Sys2Proof.Machine
end

