-- ==== Sys2Proof/Machine/PciSpace.lean ====
section
/-! DEFINITION. What a host reads in a port's configuration space and in BAR0, where the spec names the register and its value (spec/11 R327
to R330, spec/12 R356, spec/01 R33). A read changes nothing and the command table has no row for one. The offsets inside a register block
are those of PCI Express Base 5.0 and NVM Express Base 2.0c, which the spec follows (notes/assumptions/123.md). -/
namespace Sys2Proof.Machine

/-- One bit of a register. -/
def bitAt (b : Bool) (k : Nat) : Nat := if b then 2 ^ k else 0

/-! ### Configuration space -/

/-- The type 0 header (Table 11.2): INTx is not implemented, so Interrupt Pin reads 0 (R33). -/
def configHeader (p : Nat) (d : Device) : List Byte :=
  let t := port p d
  let c := t.cfg
  layout 64 [(0, leBytes 2 0x1E6B), (2, leBytes 2 (if d.ctl.mode = .m2 then 0x0AFF else 0x0A24)),
    (4, leBytes 2 (bitAt c.mse 1 + bitAt t.bme 2 + bitAt c.parityResponse 6 + bitAt c.serrEnable 8 + bitAt c.interruptDisable 10)),
    (6, leBytes 2 (bitAt true 4)), (9, leBytes 3 0x010802), (16, leBytes 8 (c.bar0 / 65536 * 65536 + 4)),
    (44, leBytes 2 d.cs.oa.inUse.subVendor), (46, leBytes 2 d.cs.oa.inUse.subId), (52, leBytes 1 0x40), (60, leBytes 1 c.interruptLine)]

/-- The capabilities at 0x40 to 0xFF in the order of Table 11.4: ID and offset. -/
def capabilities : List (Nat × Nat) := [(0x01, 0x40), (0x05, 0x50), (0x10, 0x70), (0x11, 0xB0), (0x03, 0xC0)]

/-- The extended capabilities in the order of Table 11.4: ID, offset and version. -/
def extendedCapabilities : List (Nat × Nat × Nat) :=
  [(0x0001, 0x100, 2), (0x0003, 0x148, 1), (0x0019, 0x158, 1), (0x0025, 0x178, 1), (0x0026, 0x188, 1), (0x002A, 0x1B8, 1),
   (0x0027, 0x1E8, 1), (0x0018, 0x230, 1), (0x001E, 0x240, 1)]

/-- The ID and the pointer to the next capability at each offset; the last pointer is zero (R329). -/
def capabilityHeaders : List (Nat × List Byte) :=
  capabilities.mapIdx fun i c => (c.2, leBytes 1 c.1 ++ leBytes 1 (match capabilities[i + 1]? with | some n => n.2 | none => 0))

/-- The header doubleword of each extended capability: ID, version and the next offset; the last one is zero (R329). -/
def extendedHeaders : List (Nat × Nat) :=
  extendedCapabilities.mapIdx fun i c =>
    (c.2.1, c.1 + c.2.2 * 2 ^ 16 + (match extendedCapabilities[i + 1]? with | some n => n.2.1 | none => 0) * 2 ^ 20)

/-- Device Capabilities, and Device Capabilities 2 (Table 11.5). -/
def deviceCapabilities : Nat := 0b010 + bitAt true 5 + 0b111 * 2 ^ 6 + 0b110 * 2 ^ 9 + bitAt true 15 + bitAt true 28
def deviceCapabilities2 : Nat := 0b1111 + bitAt true 4 + bitAt true 11 + bitAt true 16 + bitAt true 17

/-- Link Capabilities of a port (Table 11.5). -/
def linkCapabilities (p : Nat) (d : Device) : Nat :=
  getObj Obj.maxLinkSpeedCode d + configuredWidth d * 2 ^ 4 + 0b10 * 2 ^ 10 + 0b100 * 2 ^ 15 + bitAt true 18 + bitAt true 22 + p * 2 ^ 24

/-- The Supported Link Speeds Vector: every rate up to MaxLinkSpeedCode (Table 11.5). -/
def linkSpeeds (d : Device) : Nat := 2 ^ getObj Obj.maxLinkSpeedCode d - 1

/-- Device Control and Device Control 2 (Tables 11.5 and 11.7). -/
def deviceControl (p : Nat) (d : Device) : Nat :=
  let c := (port p d).cfg
  bitAt c.relaxed 4 + c.mps * 2 ^ 5 + bitAt c.extendedTag 8 + bitAt c.noSnoop 11 + c.mrrs * 2 ^ 12
def deviceControl2 (p : Nat) (d : Device) : Nat :=
  let c := (port p d).cfg
  c.completionTimeout + bitAt c.timeoutDisable 4 + bitAt c.ltrEnable 10 + bitAt c.tenBitTag 12

/-! ### BAR0 -/

/-- The regions of BAR0 (Table 11.3). -/
inductive BarRegion | registers | doorbells | msixTable | pendingBits | reserved
  deriving DecidableEq, Repr

/-- The region of an offset (R328). -/
def barRegion (off : Nat) : BarRegion :=
  if off < 0x1000 then .registers else if off < 0x1808 then .doorbells else if off < 0x2000 then .reserved
  else if off < 0x3010 then .msixTable else if off < 0x4000 then .reserved else if off < 0x4028 then .pendingBits else .reserved

/-- The queue of a doorbell: its identifier, and whether it is a completion queue's. -/
def doorbellOf (off : Nat) : Nat × Bool := ((off - 0x1000) / 8, (off - 0x1000) / 4 % 2 == 1)

/-- The controller registers as a host reads them, from their offset (Table 12.1). CMBLOC, CMBSZ, BPINFO and PMRCAP read 0, as does NSSR and
every field not named (R33, R356). -/
def controllerRegisters (p : Nat) (d : Device) : List Byte :=
  let t := port p d
  layout 0x1000 [(0x00, leBytes 8 (4095 + bitAt true 16 + 60 * 2 ^ 24 + bitAt true 37 + 4 * 2 ^ 52)), (0x08, leBytes 4 0x00020000),
    (0x0C, leBytes 4 t.intMask.toNat), (0x10, leBytes 4 t.intMask.toNat), (0x14, leBytes 4 t.cc.toNat),
    (0x1C, leBytes 4 (bitAt t.rdy 0 + bitAt t.cfs 1 + t.shst * 4)), (0x24, leBytes 4 (t.asqs + t.acqs * 2 ^ 16))]

/-- The pending bit array: bit `v` is set while vector `v` is pending (R332, R333). -/
def pendingBits (p : Nat) (d : Device) : List Byte :=
  (List.range 40).map fun k =>
    BitVec.ofNat 8 (((List.range 8).map fun i => bitAt ((port p d).pendingVec.contains (8 * k + i)) i).sum)

/-- A byte of BAR0 as a host reads it: a reserved offset reads zero (R328). What the MSI-X table reads is what the host last wrote, and
what a doorbell reads is left open; the model holds neither, so both are free. -/
def barByte (p off : Nat) (d : Device) : Byte :=
  match barRegion off with
  | .registers => ((controllerRegisters p d)[off]?).getD 0
  | .pendingBits => ((pendingBits p d)[off - 0x4000]?).getD 0
  | .doorbells | .msixTable => Config.freeByte off
  | .reserved => 0

end Sys2Proof.Machine
end

