-- ==== Sys2Proof/Machine/Pins.lean ====
section
/-! DEFINITION. The levels of the controller's output pins as a reading of the state: Table 21.7 (spec/21 R616, R619) with the rules that it
names. Unpowered, in M0, no output is driven. The levels of the DDR5, PCIe and CAN signals while data moves on them are bus cycles
(notes/assumptions/119.md). -/
namespace Sys2Proof.Machine

/-- What a pin of the controller shows. -/
inductive Level where
  /-- High impedance, or released: a pull or nothing sets the level. -/
  | released
  | low
  | high
  /-- An indicator that blinks. -/
  | blinking
  deriving DecidableEq, Repr

/-- An output that is driven whenever its supply is present. -/
def drivenAs (b : Bool) (d : Device) : Level := if d.ctl.mode = .m0 then .released else if b then .high else .low

/-- ALIVE (Table 2.5). -/
def alivePin (d : Device) : Level := drivenAs (alive d) d

/-- BKbb_PEN (spec/10). -/
def penPin (bank : Nat) (d : Device) : Level := drivenAs (penHigh bank d) d

/-- An indicator of Table 10.5: low in M1 and M11. -/
def indicatorPin (code : Nat) (d : Device) : Level :=
  if d.ctl.mode = .m0 then .released
  else if d.ctl.mode = .m1 || d.ctl.mode = .m11 then .low
  else if code = 2 then .high else if code = 1 then .blinking else .low

/-- BKbb_AIND and BKbb_PIND (Table 10.5). -/
def aindPin (bank : Nat) (d : Device) : Level := indicatorPin (aind bank d) d
def pindPin (bank : Nat) (d : Device) : Level := indicatorPin (pind bank d) d

/-- A channel's outputs, its CE_N signals among them, are driven: its bank's PEN and PGOOD are high and the bring-up has enabled them (R68). -/
def channelDriven (cc : Nat) (d : Device) : Bool :=
  penHigh (cc / 8) d && (carrier (cc / 8) d).pgood && (smGet {} d.media.channels cc).driven

/-- CHnnn_CE_N[t]: high while no command or transfer selects the target, at high impedance where the channel is not driven. -/
def chipEnablePin (cc : Nat) (d : Device) : Level := if channelDriven cc d then .high else .released

/-- CHnnn_WP_N (R619); at high impedance where the channel is not driven. -/
def writeProtectPin (cc : Nat) (d : Device) : Level :=
  if channelDriven cc d then if (smGet {} d.media.channels cc).wpHigh then .high else .low else .released

/-- DDRn_RESET_N: high after training in M3. -/
def dramResetPin (d : Device) : Level := drivenAs d.ctl.ddrResetHigh d

/-- VID[7:0]: the code driven, and none where the pins are not (R460). -/
def vidPins (d : Device) : Option Nat := if d.ctl.mode = .m0 then none else some (getObj Obj.vidCode d)

/-- HU_CHG_EN and HU_TEST (R467, R469). -/
def chargeEnablePin (d : Device) : Level := drivenAs d.ctl.huChgEn d
def holdUpTestPin (d : Device) : Level := drivenAs d.ctl.huTest d

/-- WAKE_N[k]: an open-drain output, low from a wake event on (R349). -/
def wakePin (port : Nat) (d : Device) : Level := if (smGet {} d.ports port).wakeMs.isSome then .low else .released

/-- The port's transmitters are on and CLKREQ_N[k] may be driven (R352, Table 2.5). -/
def transmitterOn (p : Nat) (d : Device) : Bool := linkMode d.ctl.mode && decide (p < portCount d)

/-- ADC_VREF in mV. -/
def adcReference (d : Device) : Nat := if d.ctl.mode = .m0 then 0 else 1800

end Sys2Proof.Machine
end

