-- ==== Sys2Proof/WellFormed.lean ====
section
/-! DEFINITION. Well-formed commands: every operand lies within the width or the range the spec gives it. The meanings are total and do not
rely on it; a command that is not well-formed is one that no agent can send. -/
namespace Sys2Proof

/-- Why a command is not well-formed. -/
inductive Malformed
  /-- A field of an NVMe command is wider than its place: queue and command identifiers 16 bits, NSID 32 bits. -/
  | hostField
  /-- A path code outside 0x01 to 0x05 (R419). -/
  | path
  /-- A register, object or command field is wider than its type. -/
  | width
  /-- A block outside 26 bits (Table 0.2). -/
  | block
  /-- A namespace slot outside 10 bits (spec/05, Table 5.1). -/
  | slot
  /-- A domain code that Table 15.1 does not give. -/
  | domain
  /-- A ledger code outside Table 16.1, or a pool that is not one of the buffer pools. -/
  | ledger
  /-- A fabric link that Table 16.5 does not give. -/
  | link
  /-- An operation code of a die outside the operation codes of the command. -/
  | operation
  /-- Planes outside 0 to 3, or targets outside a channel's eight. -/
  | plane
  /-- A rate or a width that a PCIe link does not run at (R323, R324). -/
  | lane
  /-- A housekeeping round without 16 carrier readings, 8 rails and 12 sensors, or with a count of more than 12 bits. -/
  | round
  /-- A vector without 31 offsets (R106). -/
  | vector
  /-- A read of more bits than the page or the codeword has (Table 3.1, R100). -/
  | bits
  /-- A fault of a decompression engine outside rows 5 to 10 of Table 7.6. -/
  | inflate
  /-- A byte string longer than the object or the frame can hold. -/
  | length
  /-- A code-store outcome for a block outside the store, or a component code outside Table 20.4. -/
  | store
  /-- A row of Table 1.5 that does not exist. -/
  | mismatch
  deriving DecidableEq, Repr

/-- `e` unless the check holds. -/
def need (c : Bool) (e : Malformed) : Option Malformed := if c then none else some e

/-- `v` fits in `n` bits. -/
def fits (n v : Nat) : Bool := decide (v < 2 ^ n)

/-- The first failure of a list of checks. -/
def firstOf : List (Option Malformed) → Option Malformed
  | [] => none
  | some e :: _ => some e
  | none :: cs => firstOf cs

/-- The head of an NVMe command. -/
def HostCmd.check (c : HostCmd) : Option Malformed := need (fits 16 c.sqid && fits 16 c.cid && fits 32 c.nsid) .hostField

/-- A path code (R419). -/
def checkPath (p : Nat) : Option Malformed := need (decide (1 ≤ p) && decide (p ≤ 5)) .path

/-- Fields of given widths. -/
def checkWidths (fs : List (Nat × Nat)) : Option Malformed := need (fs.all fun f => fits f.1 f.2) .width

/-- A block number. -/
def checkBlock (b : Nat) : Option Malformed := need (fits 26 b) .block

/-- A slot and a grain. -/
def checkGrain (slot grain : Nat) : Option Malformed := firstOf [need (fits 10 slot) .slot, need (fits 40 grain) .width]

/-- Planes. -/
def checkPlanes (ps : List Nat) : Option Malformed := need (ps.all fun p => decide (p < 4)) .plane

/-- The reads of a wordline: pages of 147,456 bits. -/
def WordlineReads.fit (r : WordlineReads) : Bool := r.base.all (fits 147456) && r.shifted.all (·.all (fits 147456)) && r.refs.all (·.all (fits 147456))

/-- The reads of a codeword: 73,728 bits each. -/
def CodewordReads.fit (r : CodewordReads) : Bool :=
  fits 73728 r.first && fits 73728 r.second && r.soft1.all (fits 73728) && r.soft2.all (fits 73728) && r.tracking.fit

/-- The reads of a sample. -/
def SampleReads.fit (r : SampleReads) : Bool := r.codewords.all (·.fit) && r.tracking.fit

/-- The reads for a grain, with those of the peers. -/
def ArrayRead.fit (r : ArrayRead) : Bool :=
  r.codewords.all fun c => c.1.fit && c.2.all fun p => decide (p.bank < 16) && p.reads.fit && fits 73728 p.image

/-- Reads that fit. -/
def checkReads (fit : Bool) : Option Malformed := need fit .bits

/-- The reads of a scan. -/
def checkRuns (runs : List (List WordlineReads)) : Option Malformed := checkReads (runs.all (·.all (·.fit)))

/-- A row of Table 7.6 that an engine's own fault reports, or none. -/
def checkSlip (n : Nat) : Bool := decide (n = 0) || (decide (5 ≤ n) && decide (n ≤ 10))

/-- A firmware component's code and the fields of its header (Table 20.4). -/
def checkComponent (code : Nat) (c : Component) : Option Malformed :=
  firstOf [need (decide (1 ≤ code) && decide (code ≤ 5)) .store,
    checkWidths [(32, c.version), (32, c.securityVersion), (32, c.declaredMin), (8, c.signingKey), (8, c.revokeKeys), (32, c.length)]]

/-- An optional header. -/
def checkHeader : Option (Nat × Component) → Option Malformed
  | none => none
  | some (code, c) => checkComponent code c

/-- Failures of the code store: its blocks are 1,024 of 64 KiB (R575). -/
def checkFailures (fs : List StoreFailure) : Option Malformed := need (fs.all fun f => decide (f.block < 1024)) .store

/-- What the code store does with a write. -/
def StoreOutcome.check (o : StoreOutcome) : Option Malformed := firstOf [checkHeader o.header, checkFailures o.failures]

/-- A housekeeping round (Tables 15.14 and 15.15). -/
def Round.check (r : Round) : Option Malformed :=
  need (decide (r.cth.length = 16) && r.cth.all (fits 12) && decide (r.railsMv.length = 8) && decide (r.sensors.length = 12)) .round

/-- An access to an object: its index and subindex. -/
def checkObject (path index sub : Nat) : Option Malformed := firstOf [checkPath path, checkWidths [(16, index), (8, sub)]]

/-- The head of a CAN request (Table 14.3). -/
def CanRequest.check (r : CanRequest) : Option Malformed := checkWidths [(8, r.tag), (16, r.index), (8, r.sub), (8, r.length)]

/-- Mismatches of complement-protected values (Table 1.5). -/
def checkMismatches (ms : List Mismatch) : Option Malformed := need (ms.all fun m => decide (1 ≤ m.row) && decide (m.row ≤ 8)) .mismatch

/-- The domains of Table 15.1: HK, HOST, CPX-P, CPX-S, MAPC, DATA, DDR, and the banks. -/
def checkDomain (dd : Nat) : Option Malformed := need ((decide (1 ≤ dd) && decide (dd ≤ 7)) || (decide (0x10 ≤ dd) && decide (dd ≤ 0x1F))) .domain

/-- A ledger of Table 16.1. -/
def checkLedger (l : Nat) : Option Malformed := need (decide (1 ≤ l) && decide (l ≤ 8)) .ledger

/-- A buffer pool of Table 16.3, by its ledger code. -/
def checkPool (owner pool : Nat) : Option Malformed :=
  firstOf [need (decide (2 ≤ pool) && decide (pool ≤ 5)) .ledger, checkWidths [(8, owner)]]

/-- An operation of a die between two codes. -/
def checkOp (lo hi op : Nat) : Option Malformed := need (decide (lo ≤ op) && decide (op ≤ hi)) .operation

/-- The first check that a command fails. -/
def Instr.malformed : Instr → Option Malformed
  | .vsysRise _ => none
  | .vsysResetFall _ => none
  | .powerOnResetRelease nodeId _ => checkWidths [(7, nodeId)]
  | .resetRelease b => firstOf [need (b.slotFails.all fun n => decide (1 ≤ n) && decide (n ≤ 2)) .store,
      need (b.cutErases.all fun n => decide (n < 1024)) .store, checkMismatches b.mismatches]
  | .perstAssert => none
  | .supplyWarning => none
  | .recoveryComparatorTrip => none
  | .sagRecoveryQualified => none
  | .holdUpFlushComplete => none
  | .csWpNChange _ => none
  | .housekeepingRound r => r.check
  | .throttleLevelRise => none
  | .holdupChargeTimeout => none
  | .holdupTestDue => none
  | .holdupTestRequest path value => firstOf [checkPath path, checkWidths [(8, value)]]
  | .holdupTestBaseline v0 => checkWidths [(16, v0)]
  | .holdupTestSample mv => checkWidths [(16, mv)]
  | .holdupTestEnd => none
  | .paceMeasure count _ => checkWidths [(32, count)]
  | .vidStep => none
  | .controlEpoch e => firstOf [checkMismatches e.mismatches, checkMismatches e.damaged]
  | .governorInjectionTest report => checkWidths [(8, report)]
  | .missedEpoch => none
  | .governorMismatch => none
  | .nonCodeReport => none
  | .coreMemoryUncorrectable => none
  | .takeoverOutputsReached _ micros => checkWidths [(32, micros)]
  | .takeoverStepTimeout => none
  | .switchoverInconsistent code => checkWidths [(8, code)]
  | .primaryResetHoldExpiry => none
  | .primarySelfTestDone _ ms => checkWidths [(32, ms)]
  | .standbySelfTestDone _ ms => checkWidths [(32, ms)]
  | .standbyRetentionIdle => none
  | .standbyWakeInput _ => none
  | .domainEntryRequest dd _ refuser => firstOf [checkDomain dd, checkWidths [(8, refuser)]]
  | .domainEntryCommit dd => checkDomain dd
  | .domainEntryAbort dd => checkDomain dd
  | .domainWake dd _ => checkDomain dd
  | .carrierInsertion _ => none
  | .carrierRemoval _ => none
  | .powerGoodLost _ => none
  | .pgoodTimeout _ => none
  | .attentionButtonPress _ => none
  | .abortWindowExpiry _ => none
  | .evacuationComplete failed => need (failed.all fun n => decide (n < 32)) .plane
  | .carrierRequestRemoval path _ => checkPath path
  | .carrierCancelRemoval path _ => checkPath path
  | .carrierPowerOn path _ => checkPath path
  | .carrierAdopt path _ => checkPath path
  | .carrierRetryPowerFault path _ => checkPath path
  | .channelBringUp _ => none
  | .pgoodRise _ => none
  | .diePowerOnElapsed _ => none
  | .targetResetReady _ present reports => firstOf [need (present.all (fits 8)) .plane, need (reports.all fun r => decide (r.die < 4096)) .plane]
  | .channelTrainingDone _ reached _ => need (match reached with | none => true | some r => decide (r ≤ 3)) .lane
  | .carrierJoined _ refOffsets failed =>
    need ((refOffsets.all fun v => decide (v.length = 31)) && failed.all fun n => decide (n < 32)) .vector
  | .zqCalibrationShort _ => none
  | .readyBusyRise _ busy => need (busy.all (fits 12)) .plane
  | .statusPoll _ _ op _ _ => checkOp 1 4 op
  | .suspendTimeout _ _ op => checkOp 2 4 op
  | .readSuspend _ op => checkOp 2 4 op
  | .programPassComplete _ _ failed => checkPlanes failed
  | .eraseComplete _ _ failed => checkPlanes failed
  | .groupEraseStale _ _ => none
  | .arrayReadComplete _ _ r => checkReads r.fit
  | .tokenRequest _ amount _ => checkWidths [(16, amount)]
  | .tokenGrant => none
  | .tokenReturn _ amount => checkWidths [(16, amount)]
  | .tokenGuardEngage _ => none
  | .powerUpTokensReturn _ => none
  | .tokenPoolSizeWrite path value out => firstOf [checkPath path, checkWidths [(32, value)], out.check]
  | .poolRequest owner size _ => checkWidths [(8, owner), (32, size)]
  | .poolRetry owner pool => checkPool owner pool
  | .bufferReturn owner pool _ => checkPool owner pool
  | .bufferHeldLong owner => checkWidths [(8, owner)]
  | .fabricCreditReturn link => need ((decide (1 ≤ link) && decide (link ≤ 7)) || (decide (0x10 ≤ link) && decide (link ≤ 0x2F))) .link
  | .freshRead block _ reads capacity => firstOf [checkBlock block, checkReads (reads.fit && capacity.all (·.all (fits 147456)))]
  | .formPlaneGroup _ _ => none
  | .wearSlopeRecompute => none
  | .etaQueryBlock path value => firstOf [checkPath path, checkWidths [(32, value)]]
  | .etaReportUpdate => none
  | .mapLookup _ slot grain => checkGrain slot grain
  | .place _ => none
  | .relocate _ => none
  | .unmap slot first _ => checkGrain slot first
  | .markLost slot grain pointer => firstOf [checkGrain slot grain, checkWidths [(40, pointer)]]
  | .regionReset slot => need (fits 10 slot) .slot
  | .mapCacheEnable path => checkPath path
  | .mapCacheDisable path => checkPath path
  | .mapCacheInvalidate path => checkPath path
  | .mapPageLoad slot _ _ _ => need (fits 10 slot) .slot
  | .backgroundLoad _ _ => none
  | .mapLineReloaded slot _ _ => need (fits 10 slot) .slot
  | .journalFrameSeal _ _ => none
  | .journalSealTimeout _ _ => none
  | .checkpointStart => none
  | .checkpointInterval => none
  | .checkpointSuperblock failed => need (failed.all fun n => decide (n < 32)) .plane
  | .superblockWrite failed => need (failed.all fun n => decide (n < 32)) .plane
  | .dataLanded _ l => need (l.unreadable.all (fits 40)) .width
  | .grainCompressed _ _ _ => none
  | .rowGathered _ => none
  | .rowCloseTimeout _ => none
  | .stripeOpen _ => none
  | .writeCompletion _ => none
  | .grainDecompress _ _ _ r => need (checkSlip r.slip && checkSlip r.slip2 && checkSlip r.slip3) .inflate
  | .victimSelect footers => need (footers.all fun f => fits 26 f.1) .block
  | .grainRelocate r => checkReads r.fit
  | .pinnedRetry _ reads => firstOf [need (reads.all fun g => fits 10 g.1 && fits 40 g.2.1) .slot, checkReads (reads.all fun g => g.2.2.fit)]
  | .releaseReconcile block _ => checkBlock block
  | .stripeRelease _ => none
  | .wearLevellingCheck _ => none
  | .blockTableWrite => none
  | .gaugeScan _ runs => checkRuns runs
  | .gaugeScanInterval scans => firstOf [need (scans.all fun s => fits 12 s.1) .width, checkRuns (scans.flatMap (·.2))]
  | .gaugeRefresh _ runs eraseFailed programFailed => firstOf [checkRuns runs, checkPlanes eraseFailed, checkPlanes programFailed]
  | .scrub block first again => firstOf [checkBlock block, checkReads (first.fit && again.all (fits 147456))]
  | .nextWakeCompute => none
  | .nextWakeDueReached => none
  | .restripe r _ => checkReads r.fit
  | .mapSweep => none
  | .lostRangeAppend => none
  | .linkUp _ rate width => need (decide (1 ≤ rate) && decide (rate ≤ 5) && [1, 2, 4, 8].contains width) .lane
  | .linkDown _ => none
  | .hotReset _ => none
  | .functionLevelReset _ => none
  | .linkDetectRetry _ _ => none
  | .powerStateWrite _ value => checkWidths [(16, value)]
  | .pmeTurnOff _ => none
  | .wakeNRelease _ => none
  | .aspmL1Entry _ _ => none
  | .msixUnmask _ vector => need (match vector with | none => true | some v => decide (v < 257)) .width
  | .tlpError _ _ header _ => checkWidths [(32, header)]
  | .completionTimeout _ _ header _ => checkWidths [(32, header)]
  | .busMasterHoldTimeout _ sqid cid => checkWidths [(16, sqid), (16, cid)]
  | .vpdRead _ address => checkWidths [(15, address)]
  | .vpdWrite _ address => checkWidths [(15, address)]
  | .controllerEnable _ cc aqa => checkWidths [(32, cc), (32, aqa)]
  | .controllerDisable _ => none
  | .shutdownNotification _ => none
  | .shutdownProcessingComplete => none
  | .sqTailDoorbell _ sqid tail => checkWidths [(16, sqid), (16, tail)]
  | .cqHeadDoorbell _ cqid head => checkWidths [(16, cqid), (16, head)]
  | .keepAliveExpired _ => none
  | .createIoSq c qid size cqid _ => firstOf [c.check, checkWidths [(16, qid), (16, size), (16, cqid)]]
  | .createIoCq c qid size vector _ _ => firstOf [c.check, checkWidths [(16, qid), (16, size), (16, vector)]]
  | .deleteIoSq c qid => firstOf [c.check, checkWidths [(16, qid)]]
  | .deleteIoCq c qid => firstOf [c.check, checkWidths [(16, qid)]]
  | .getLogPage c lid offset bytes _ _ => firstOf [c.check, checkWidths [(8, lid), (64, offset), (34, bytes)]]
  | .identify c cns cntid csi => firstOf [c.check, checkWidths [(8, cns), (16, cntid), (8, csi)]]
  | .abort c sqid cid => firstOf [c.check, checkWidths [(16, sqid), (16, cid)]]
  | .setFeatures c fid _ value _ => firstOf [c.check, checkWidths [(8, fid), (32, value)]]
  | .getFeatures c fid select value => firstOf [c.check, checkWidths [(8, fid), (3, select), (32, value)]]
  | .asyncEventRequest c => c.check
  | .namespaceCreate c nsze ncap flbas dps nmic parity =>
    firstOf [c.check, checkWidths [(64, nsze), (64, ncap), (8, flbas), (8, dps), (8, nmic), (8, parity)]]
  | .namespaceDelete c => c.check
  | .namespaceAttach c controllers => firstOf [c.check, need (controllers.all (fits 16)) .width]
  | .namespaceDetach c controllers => firstOf [c.check, need (controllers.all (fits 16)) .width]
  | .firmwareImageDownload c offset bytes header failures =>
    firstOf [c.check, checkWidths [(34, offset), (34, bytes)], checkHeader header, checkFailures failures]
  | .firmwareCommitReplace c slot => firstOf [c.check, checkWidths [(3, slot)]]
  | .firmwareCommitActivate c slot => firstOf [c.check, checkWidths [(3, slot)]]
  | .firmwareCommitSelect c slot => firstOf [c.check, checkWidths [(3, slot)]]
  | .firmwareCommitImmediate c slot => firstOf [c.check, checkWidths [(3, slot)]]
  | .firmwareCommitDone failures => checkFailures failures
  | .keepAlive c => c.check
  | .formatNvm c flbas dps ses => firstOf [c.check, checkWidths [(5, flbas), (4, dps), (3, ses)]]
  | .sanitizeBlockErase c _ => c.check
  | .sanitizeCryptoErase c _ => c.check
  | .sanitizeExitFailure c => c.check
  | .sanitizeOverwrite c => c.check
  | .sanitizeComplete _ eraseFailed => need (eraseFailed.all (fits 26)) .block
  | .dictionaryWrite c index sub value out =>
    firstOf [c.check, checkWidths [(16, index), (8, sub)], need (decide (value.length ≤ 4096)) .length, out.check]
  | .dictionaryRead c index sub bytes => firstOf [c.check, checkWidths [(16, index), (8, sub), (34, bytes)]]
  | .authoriseChallenge c slot op arg => firstOf [c.check, checkWidths [(8, slot), (8, op), (64, arg)]]
  | .authoriseRespond c slot op arg nonce response =>
    firstOf [c.check, checkWidths [(8, slot), (8, op), (64, arg), (64, nonce)], need (decide (response.length = 32)) .length]
  | .flush c => c.check
  | .write c slba nlb _ => firstOf [c.check, checkWidths [(64, slba), (17, nlb)]]
  | .read c slba nlb _ _ _ => firstOf [c.check, checkWidths [(64, slba), (17, nlb)]]
  | .writeZeroes c slba nlb _ _ => firstOf [c.check, checkWidths [(64, slba), (17, nlb)]]
  | .datasetManagement c ranges _ => firstOf [c.check, need (decide (ranges.length ≤ 256)) .length, need (ranges.all fun r => fits 64 r.1 && fits 32 r.2) .width]
  | .verify c slba nlb _ => firstOf [c.check, checkWidths [(64, slba), (17, nlb)]]
  | .reservationRegister c action _ cptpl current new => firstOf [c.check, checkWidths [(3, action), (2, cptpl), (64, current), (64, new)]]
  | .reservationReport c _ bytes => firstOf [c.check, checkWidths [(34, bytes)]]
  | .reservationAcquire c action _ rtype current preempt => firstOf [c.check, checkWidths [(3, action), (8, rtype), (64, current), (64, preempt)]]
  | .reservationRelease c action _ rtype current => firstOf [c.check, checkWidths [(3, action), (8, rtype), (64, current)]]
  | .objectWrite path index sub value out => firstOf [checkObject path index sub, need (decide (value.length ≤ 4096)) .length, out.check]
  | .groupMemberWrite path index sub value => firstOf [checkObject path index sub, checkWidths [(64, value)]]
  | .groupCommit path index out => firstOf [checkObject path index 0, out.check]
  | .groupDiscard path index => checkObject path index 0
  | .settingsAcknowledge path value => firstOf [checkPath path, checkWidths [(8, value)]]
  | .settingsRestoreDefaults path value out => firstOf [checkPath path, checkWidths [(8, value)], out.check]
  | .logbookClear path value => firstOf [checkPath path, checkWidths [(8, value)]]
  | .ledgerFreeRead path l => firstOf [checkPath path, checkLedger l]
  | .ledgerOwnerHeldRead path l => firstOf [checkPath path, checkLedger l]
  | .authKeyWrite path slot key => firstOf [checkPath path, checkWidths [(8, slot)], need (decide (key.length ≤ 4096)) .length]
  | .authRightsWrite path slot rights => firstOf [checkPath path, checkWidths [(8, slot), (32, rights)]]
  | .supplyWarningLevelWrite path value out => firstOf [checkPath path, checkWidths [(16, value)], out.check]
  | .recoveryChunk path chunk out => firstOf [checkPath path, need (decide (chunk.length ≤ 4096)) .length, out.check]
  | .recoveryCommitReplace path => checkPath path
  | .recoveryCommitActivate path => checkPath path
  | .recoveryCommitSelect path => checkPath path
  | .challengeExpiry => none
  | .grantExpiry => none
  | .pathUnlocked => none
  | .canRead req => req.check
  | .canWrite req value out => firstOf [req.check, need (decide (value.length ≤ 64)) .length, out.check]
  | .canSegmentedWrite req total => firstOf [req.check, checkWidths [(32, total)]]
  | .canAbortTransfer req => req.check
  | .canAuthoriseChallenge req slot op arg => firstOf [req.check, checkWidths [(8, slot), (8, op), (64, arg)]]
  | .canAuthoriseRespond req slot op arg nonce response =>
    firstOf [req.check, checkWidths [(8, slot), (8, op), (64, arg), (64, nonce)], need (decide (response.length = 32)) .length]
  | .canSegment tag segment _ _ data out => firstOf [checkWidths [(8, tag), (16, segment)], need (decide (data.length ≤ 64)) .length, out.check]
  | .segmentTimeout => none
  | .heartbeat => none
  | .timeSync ms _ => checkWidths [(64, ms)]
  | .wakeFrame flags seq => checkWidths [(8, flags), (8, seq)]
  | .canFrameIgnored => none
  | .canNodeIdConflict func => checkWidths [(4, func)]
  | .canBusOff => none
  | .canBusOffRecovery => none
  | .canFrameTransmitted _ _ => none
  | .noticeWithdrawal => none
  | .logbookFlush => none
  | .ceilingEntryVerified => none
  | .operatingHourTick => none
  | .powerOnResetAssert => none
  | .busMasterEnable _ _ cfg cu cc => checkWidths [(32, cu), (32, cc), (3, cfg.mps), (3, cfg.mrrs), (4, cfg.completionTimeout)]
  | .tlerExpiry _ => none
  | .invalidCommandOpcode c => c.check
  | .canUnknownCommand req => req.check
  | .interruptCoalescingTime _ cqid => checkWidths [(16, cqid)]
  | .msiEnable _ _ _ _ multiple masked => firstOf [checkWidths [(3, multiple)], need (masked.all fun v => decide (v < 257)) .width]
  | .canReceiveError increment => checkWidths [(8, increment)]

/-- Every operand lies in its range. -/
abbrev Instr.WellFormed (i : Instr) : Prop := i.malformed = none

end Sys2Proof
end

