-- ==== Sys2Proof/Tests/Slice0.lean ====
section
/-! SUPPORT. The model's own tests: an ill-formed command for each check, the worked examples of spec/, and for every statement's clause a
state and operands that meet all its hypotheses together. Sample states are built from `State.reset` by the helpers below. -/
namespace Sys2Proof.Tests
open Sys2Proof Sys2Proof.Machine

section
set_option Elab.async false
set_option maxRecDepth 100000

/-! ### Sample states -/

/-- The state of a device with nothing pending. -/
def at_ (d : Device) : State := { State.reset with dev := d }
def ctl (f : Control → Control) (d : Device) : Device := { d with ctl := f d.ctl }
def md (m : Mode) (d : Device) : Device := { d with ctl := { d.ctl with mode := m } }
def rst (m : Mode) : Device := md m State.reset.dev
def busy (d : Device) : Device :=
  let d := { d with res := { d.res with nextReq := 9, waiting := [{ id := 3, bank := 2, amount := 5, sinceMs := 499000 }, { id := 4, bank := 1, amount := 50, sinceMs := 499999 }], buffers := [(2*65536, { owner := 2, grantMs := 5 }), (2*65536+1, { owner := 2, grantMs := 5000 }), (3*65536+7, { owner := 4, grantMs := 5 })] } }
  let d := [(1,3,50),(1,1,20),(2,2,2),(3,4,1),(6,0x10,3),(6,0x20,1)].foldl (fun d (x : Nat × Nat × Nat) => ledgerTake x.1 x.2.1 x.2.2 d) d
  { d with media := { d.media with pen := [0, 2], carriers := [(0, { present := true, powerUpHeld := 7 }), (2, { present := true, powerUpHeld := 20 }), (3, { present := true })] } }
def flighty (d : Device) : Device := { d with media := { d.media with flight := [{ id := 1, slot := 1, grain := 5 }] } }
def open2 (d : Device) : Device := ctl (fun c => { c with ms := 500000 }) d
def thermHot (d : Device) : Device := setObj Obj.throttleLevel 1 { open2 d with therm := { d.therm with dieThrottle := true, levelStartMs := 1000, levelStartMax := 90, dieMax := 91 } }
def ups (o : List (Nat × Nat)) (d : Device) : Device := o.foldl (fun d e => setObj e.1 e.2 d) d
def bad (d : Device) : Device := updLedger 1 (fun g => { g with free := g.free - 1 }) d
def dry (d : Device) : Device := [2,3,4,5].foldl (fun d l => updLedger l (fun g => { g with free := 0, held := [(0x13, g.total)] }) d) (busy (open2 d))
def waity (d : Device) : Device := { d with res := { d.res with waits := [(2*8+2, { size := 64, waitUs := 10 }), (3*8+2, { size := 64, waitUs := 1000 }), (1*8+3, { size := 4096, waitUs := 9 })] } }
def waity2 (d : Device) : Device := { d with res := { d.res with linkWaits := [(0x10, 2), (0x20, 1)], waits := [(2*8+2, { size := 64, waitUs := 10, own := true }), (3*8+2, { size := 64, waitUs := 1000, own := true })] } }
def prof : List (Nat × ProfileEntry) := [(0, { idMatch := [0x11], idMask := [0xFF], tokBase := 2, tokPowerUp := 20, maxRateCode := 5 })]
def updC (b : Nat) (f : Carrier → Carrier) (d : Device) : Device := { d with media := { d.media with carriers := smUpd {} b f d.media.carriers } }
def car (stt : Nat) (f : Carrier → Carrier) (d : Device) : Device :=
  let d := open2 d
  let d := { d with media := { d.media with profile := prof } }
  updC 2 f (setObj (Obj.carrierState 2) stt (updC 2 (fun c => { c with present := true }) d))
def pennd (d : Device) : Device := { d with media := { d.media with pen := [2, 1] } }
def strp (d : Device) : Device := { d with media := { d.media with stripes := [(7, { members := (List.range 16).map (fun b => (b, b * 256)), kind := 1, isOpen := true, parity := 1 }), (8, { members := (List.range 16).map (fun b => (b, b * 256+1)), kind := 1, isOpen := false, parity := 1 })] } }
def allBanks (d : Device) : Device := (List.range 16).foldl (fun d b => setObj (Obj.carrierState b) 0x04 (updC b (fun c => { c with present := true }) d)) d
def grantC (d : Device) : Device := { d with settings := { d.settings with paths := [(2, { grant := some { op := 1, arg := 0x8202 + 65536 * 2, givenMs := 499000 } })] } }
def base5 : Device :=
  let d := md .m5 State.reset.dev
  let d := open2 d
  let d := { d with media := { d.media with profile := [(0, { flags := 7, suspendLimit := 2, tReadMax := 100, tCoarseMax := 1000, tFineMax := 2000, tEraseMax := 5000 })], expected := List.range 16 } }
  let d := (List.range 16).foldl (fun d b => setObj (Obj.carrierState b) 0x04 d) d
  [0, 8, 16].foldl (fun d c => setObj (Obj.channelProfileEntry c) 0 (setObj (Obj.channelTargetsPresent c) 255 (setObj (Obj.channelState c) 2 d))) d
def st1 : Stripe := { exists_ := true, isOpen := true, kind := 1, parity := 1, members := (List.range 16).map fun b => (b, b * 256 + 3), gathered := 5 }
def grp (f : Group → Group) (d : Device) : Device := { d with media := { d.media with stripes := [(7, st1)], groups := [(515*2, f { used := true, stripe := 7, kind := 1 }), (259*2+1, f { used := true, stripe := 9, kind := 2 })], dies := [(259, { gaugeC := 4700, op := { kind := 2 }, timeouts := 1 }), (515, { gaugeC := 4700, op := { kind := 3 } }), (3, { gaugeC := 4700, timeouts := 1 })] } }
def gb (n : Nat) : List Nat := [n*16384+8, n*16384+9, n*16384+10, n*16384+11]
def blk (f : Block → Block) (d : Device) : Device := { d with media := { d.media with blocks := (gb 259 ++ gb 515).map fun b => (b, f { state := 1, stripe := 7, role := 0, step := 3, next := 400, erases := 3 }) } }
def grpOf (n : Nat) (f : Group → Group) (d : Device) : Device := { d with media := { d.media with groups := d.media.groups.map fun e => if e.1 / 2 = n then (e.1, f { e.2 with blocks := gb n }) else e } }
def both (f : Group → Group) (d : Device) : Device := grpOf 515 f (grpOf 259 f (blk id (grp id d)))
def opd (k slot : Nat) (f : DieOp → DieOp) (d : Device) : Device :=
  let d := ledgerTake 1 3 20 (ledgerTake 1 2 20 d)
  { d with media := { d.media with dies := [259, 515].foldl (fun m n => smUpd {} n (fun x => { x with op := f { kind := k, slot := slot, req := 99, charge := 7 } }) m) d.media.dies } }
def rdx (f : ReadGrain → ReadGrain) (d : Device) : Device := { d with media := { d.media with wp := { d.media.wp with reads := [{ id := 3, slot := 1, nlb := 32, grains := [f { grain := 4, stage := .codewords, pointer := (3*16384+9)*16384 + 5 }, { grain := 5, stage := .lookup }] }] } } }
def stt1 : Stripe := { exists_ := true, isOpen := true, kind := 1, parity := 1, members := (List.range 16).map fun b => (b, b * 256 + 3), gathered := 5, done := 2 }
def base6 : Device :=
  let d := open2 (md .m5 State.reset.dev)
  let d := ctl (fun c => { c with dirResident := true }) d
  let d := setObj Obj.operatingHours 900 d
  let d := { d with log := { d.log with runStarted := true, nextSeq := 5, ceiling := 1000 } }
  let d := { d with settings := { d.settings with journalLimit := 100, paths := [(2, { grant := some { op := 1, arg := 0x3110 + 65536, givenMs := 499000 } })] } }
  let d := { d with sub := { d.sub with namespaces := [(1, { active := true, nsze := 16*768*2 })] } }
  let d := (List.range 16).foldl (fun d b => setObj (Obj.carrierState b) 0x04 d) d
  let d := { d with media := { d.media with expected := List.range 16, profile := [(0, { readOffsetMin := -9, readOffsetMax := 9 })], stripes := [(7, stt1), (8, { stt1 with isOpen := false })] } }
  let d := [0, 8, 16].foldl (fun d c => setObj (Obj.channelTargetsPresent c) 255 (setObj (Obj.channelState c) 2 d)) d
  d
def freshG (n : Nat) (d : Device) : Device := { d with media := { d.media with dies := [(3, { freshFails := List.replicate n (5, 899) })], groups := [(3*2, { used := true, blocks := [3*16384+9], fine := 500, coarse := 501 })], blocks := [(3*16384+9, { state := 1, role := 0, step := 3, stripe := 7, cap := 4300, halves := 3, cls := 1, lastFine := 500 })] } }
def fg (f : FlightGrain → FlightGrain) : FlightGrain := f { id := 3, cmd := 2, stored := { slot := 1, grain := 4, frames := 3 }, placed := some { stripe := 8, block := 3*16384+9, frame := 5, frames := 3 } }
def fly (f : FlightGrain → FlightGrain) (d : Device) : Device := { d with media := { d.media with flight := [fg f, { fg f with id := 2 }] } }
def mp (f : MapState → MapState) (d : Device) : Device := { d with media := { d.media with map := f d.media.map } }
def resid (d : Device) : Device := mp (fun m => { m with pages := [(pageKey 1 0, { resident := true }), (pageKey 1 1, { resident := true, image := 7 })], entries := [(mapKey 1 4, 77777), (mapKey 1 2, 64), (mapKey 1 9, 88888888), (mapKey 1 700, 3), (mapKey 2 4, 5)], openFrame := [.entrySet 1 9 3], openMs := 400 }) d
def jf (a : Nat) (g1 g2 : Bool) : JFrame := { first := a, records := [.entrySet 1 4 9, .entrySet 1 13 5], good1 := g1, good2 := g2, place1 := 5, place2 := 6, next1 := 7, next2 := 8 }
def jr (d : Device) : Device := setObj Obj.journalSequence 13 (setObj Obj.journalFrames 2 (mp (fun m => { m with record := { seq := 8, hours := 3 }, journal := [jf 8 true true, jf 10 true false], openFrame := [.entrySet 1 9 3], persistent := 12 }) (resid d)))
def sysS (d : Device) : Device := { d with media := { d.media with stripes := smSet {} 11 { exists_ := true, isOpen := true, kind := 3, parity := 2, members := (List.range 16).map fun b => (b, b * 256 + 9), gathered := 0 } d.media.stripes, groups := smSet {} (265*2+1) { used := true, stripe := 11, kind := 3, blocks := [265*16384+8, 265*16384+9, 265*16384+10, 265*16384+11], erasedMs := some 3, encoded := 2 } d.media.groups, blocks := ([8,9,10,11].foldl (fun m i => smSet {} (265*16384+i) { state := 1, stripe := 11, step := 7, next := 30 } m) d.media.blocks) } }
def prt (p : Nat) (f : PortState → PortState) (d : Device) : Device := { d with ports := smUpd {} p f d.ports }
def lp (d : Device) : Device := (List.range 4).foldl (fun d p => setObj (Obj.portLinkState p) 0x02 (prt p (fun t => { t with linkUp := true, bme := true, rdy := true, cqs := [(0, { live := true, size := 16 }), (1, { live := true, size := 16 })], sqs := [(0, { live := true, size := 16, tail := 3 }), (1, { live := true, size := 16, cqid := 1, tail := 3 })] }) d)) d
def base7 : Device :=
  let d := setObj (dieKey 0x8340 3) 5 (lp base6)
  { d with sub := { d.sub with namespaces := [(1, { active := true, nsze := 16*768*2, attached := 3, tler := 3, keySlot := 4 })] }, sec := { d.sec with loaded := [4] } }
def wc (f : WriteCmd → WriteCmd) (d : Device) : Device := { d with media := { d.media with wp := { d.media.wp with nextId := 9, writes := [f { id := 3, port := 1, sqid := 1, cid := 7, slot := 1, slba := 32, nlb := 32, channel := 2 }] } } }
def eng (effort : Nat) (raw : Bool) (d : Device) : Device := { d with media := { d.media with wp := { d.media.wp with engines := [(1, [{ id := 3, effort := effort, raw := raw }]), (2, [{ id := 9, raw := true }, { id := 3 }])] } } }
def fl (gs : List FlightGrain) (d : Device) : Device := { d with media := { d.media with flight := gs } }
def rowsD (f : Stripe → Stripe) (full : Bool) (d : Device) : Device :=
  { d with media := { d.media with stripes := [(7, f { exists_ := true, isOpen := true, kind := 1, parity := 1, members := (List.range 16).map fun b => (b, b * 256 + 3), gathered := 2 })], groups := (List.range 16).map (fun b => ((b * 256 + 3) * 2, { used := true, stripe := 7, kind := 1, blocks := gb (b*256+3), erasedMs := some 3, encoded := 2 })), blocks := ((List.range 16).map fun b => (gb (b*256+3)).map fun k => (k, { state := 1, stripe := 7, role := if b = 7 then 1 else 0, step := 3, next := if full then 900 else 60 })).flatten } }
def rc (f : ReadCmd → ReadCmd) (d : Device) : Device := { d with media := { d.media with stored := [(777, { slot := 1, grain := 4, keySlot := 4, frames := 2, blocks := (List.range 16).map fun i => BitVec.ofNat _ (i+1), metas := List.replicate 16 0 })], blocks := smSet {} 0 { state := 2, step := 3 } d.media.blocks, wp := { d.media.wp with nextId := 9, reads := [f { id := 3, port := 1, sqid := 1, cid := 7, slot := 1, slba := 70, nlb := 5, channel := 2, grains := [{ grain := 4, stage := .inflate, pointer := 777 }] }], engines := [(8, [{ id := 3, grain := 4 }]), (9, [{ id := 3, grain := 5 }, { id := 3, grain := 4}])] } } }
def takeB (o p : Nat) (d : Device) : Device := (takeBuffer o p false d).2
def gg : Nat := (3*16384+8)*16384 + 5
def ptr2 : Nat := (3*16384+9)*16384 + 9
def base8 : Device :=
  let d := setObj Obj.freePermille 500 (setObj Obj.mapResidentComplete 1 base7)
  let d := rowsD (fun t => { t with isOpen := false }) false d
  let d := { d with media := { d.media with flight := [], groups := [], blocks := d.media.blocks.map (fun e => (e.1, { e.2 with state := 2, stripe := 7, valid := 40, scrubInterval := 20, scrubDue := 0 })), stored := [(gg, { slot := 1, grain := 4, frames := 3 }), (ptr2, { slot := 1, grain := 9, frames := 2 })] } }
  mp (fun m => { m with pages := [(pageKey 1 0, { resident := true })], entries := [(mapKey 1 4, gg), (mapKey 1 9, ptr2)] }) d
def rcs (f : Reclaim → Reclaim) (d : Device) : Device := { d with media := { d.media with rc := f d.media.rc } }
def dead (d : Device) : Device := { d with media := { d.media with dies := [(3, { failed := true })] } }
def opR (d : Device) : Device := { d with media := { d.media with dies := [(3, { op := { kind := 2, req := 77 } })] } }
def noLive (d : Device) : Device := mp (fun m => { m with entries := [] }) d
def strF (f : Stripe → Stripe) (d : Device) : Device := { d with media := { d.media with stripes := d.media.stripes.map fun e => (e.1, f e.2) } }
def allB (f : Block → Block) (d : Device) : Device := { d with media := { d.media with blocks := d.media.blocks.map fun e => (e.1, f e.2) } }
def rs (f : RestripeEntry → RestripeEntry) (d : Device) : Device := { d with media := { d.media with restripe := [f { stripe := 7, lost := true }] } }
def lp9 (d : Device) : Device := (List.range 4).foldl (fun d p => { setObj (Obj.portLinkState p) 0x02 d with ports := smUpd {} p (fun t => { t with linkUp := true, bme := true, rdy := true, cqs := [(0, { live := true, size := 16 })], sqs := [(0, { live := true, size := 16, tail := 3 })] }) d.ports }) d
def rw (d : Device) : Device := { d with log := { d.log with runStarted := true, nextSeq := 5, ceiling := 65536 } }
def b9 (m : Mode) : Device := rw (lp9 (md m (open2 { State.reset.dev with settings := { State.reset.dev.settings with loaded := [1,2,3] } })))
def cn (f : CanLink → CanLink) (d : Device) : Device := { d with can := f d.can }
def q (l : List CanFrame) (d : Device) : Device := l.foldl (fun d f => ledgerTake 7 f.owner 1 { d with can := { d.can with queue := d.can.queue ++ [f] } }) d
def pth (p : Nat) (f : PathState → PathState) (d : Device) : Device := { d with settings := { d.settings with paths := smUpd {} p f d.settings.paths } }
def chal (d : Device) : Device := [(5, 1), (2, 2), (1, 9)].foldl (fun d (x : Nat × Nat) => ledgerTake 8 x.1 1 (pth x.1 (fun s => { s with challenges := s.challenges ++ [{ nonce := x.2, slot := 0, op := 1, arg := 0xA5020, issuedMs := 499000 }, ] }) d)) d
def b10 (m : Mode) : Device := rw (lp9 (md m (open2 { State.reset.dev with settings := { State.reset.dev.settings with loaded := [1,2,3] } })))
def sh (l : List (Nat × Nat)) (d : Device) : Device := pth 2 (fun s => { s with shadows := l }) d
def gr (p key : Nat) (d : Device) : Device := pth p (fun s => { s with grant := some { op := 1, arg := key / 256 + 65536 * (key % 256), givenMs := 499000 } }) d
def lost (d : Device) : Device := { d with settings := { d.settings with lost := true } }
def recs (l : List GroupRecord) (d : Device) : Device := { d with settings := { d.settings with copyA := { d.settings.copyA with records := l, used := 300 }, copyB := { d.settings.copyB with records := l, used := 300 } } }
def ring (d : Device) : Device := { d with log := { d.log with nextSeq := 300, indexComplete := true, flushDue := true, ring := (List.range 100).map (fun i => { entry := { seq := i + 200, code := if i = 7 then Code.logbookCleared else 0x1000 }, persisted := i < 20 }), frames := [{ records := (List.range 63).map fun i => { seq := i + 157, code := 0x1000 } }] } }
def chal_2 (d : Device) : Device := [(5, 1), (2, 2), (1, 9)].foldl (fun d (x : Nat × Nat) => ledgerTake 8 x.1 1 (pth x.1 (fun s => { s with challenges := s.challenges ++ [{ nonce := x.2, slot := 0, op := 1, arg := 0xA5020, issuedMs := 499000 }, { nonce := x.2+9, slot := 3, op := 1, arg := 0xA5020, issuedMs := 499000 }] }) d)) d
def x0 : Component := { present := false, headerOk := true, length := 4096, version := 9 }
def rec2 (d : Device) : Device := { setObj Obj.recoveryOffset 4096 d with cs := { d.cs with recPath := 2, recCode := 2, recComp := x0, recPieces := [{ offset := 0, bytes := 4096 }], recHeld := 4096, slot1 := { d.cs.slot1 with holds := true } } }
def sixteen (d : Device) : Device := (List.range 16).foldl (fun d k => setObj (Obj.carrierState k) 4 d) d
def takeAll (d : Device) : Device := updLedger 3 (fun g => { g with free := 0, held := [(3, g.total)] }) d
def lp_2 (d : Device) : Device := (List.range 4).foldl (fun d p => setObj (Obj.portLinkState p) 0x02 (setObj (Obj.portPowerState p) 0 (prt p (fun t => { t with turnLeft := 1, linkUp := true, bme := true, rdy := true, cc := 1, cfg := { t.cfg with mse := true, aspmL1 := p == 1 }, cqs := [(0, { live := true, size := 16 }), (1, { live := true, size := 16, vector := 3, ien := true, posted := [{ cid := 1 }], coalesced := 1 })], sqs := [(0, { live := true, size := 16, tail := 3 }), (1, { live := true, size := 16, cqid := 1, tail := 3 })] }) d))) d
def b11 : Device := rw (lp_2 (md .m5 (open2 { State.reset.dev with settings := { State.reset.dev.settings with loaded := [1,2,3] } })))
def rd (d : Device) : Device := { d with media := { d.media with wp := { d.media.wp with nextId := 9, reads := [{ id := 3, port := 1, sqid := 1, cid := 7, slot := 1, slba := 70, nlb := 5, grains := [{ grain := 4 }] }, { id := 4, port := 0, sqid := 1, cid := 7, slot := 1, slba := 70, nlb := 5, grains := [{ grain := 4 }] }], writes := [{ id := 1, port := 1, sqid := 1, cid := 2, landed := true }, { id := 2, port := 1, sqid := 1, cid := 5, landed := false }] } }, held := [.flush { port := 1 }, .flush { port := 2 }], delayed := [.write { port := 1 } 0 1 false] }
def tk (o p : Nat) (d : Device) : Device := (takeBuffer o p false d).2
def rdc (d : Device) : Device := let d := [(2,2),(1,2),(2,2),(3,2),(0x10,4),(0x10,4)].foldl (fun d x => tk x.1 x.2 d) (rd d)
  { d with media := { d.media with flight := [{ id := 40, cmd := 1, buffers := [(0x10, 1)] }], wp := { d.media.wp with flushes := [{ port := 2, sqid := 1, cid := 8, context := some 3, waits := [77] }, { port := 1, sqid := 1, cid := 9, waits := [1] }, { port := 0, sqid := 1, cid := 9, waits := [1] }], reads := d.media.wp.reads.map fun r => if r.id = 3 then { r with context := some 0, grains := [{ grain := 4, buffer := some 0 }] } else { r with context := some 1, grains := [{ grain := 4, stage := .ended }] }, writes := d.media.wp.writes.map fun w => if w.id = 2 then { w with context := some 2 } else w } } }
def p1 (f : PortState → PortState) (d : Device) : Device := prt 1 f d
def ns (f : Namespace → Namespace) (d : Device) : Device := { d with sub := { d.sub with namespaces := [(2, f { active := true, nsze := 4096, attached := 3, keySlot := 4 })] } }
def n11 : Device := setObj Obj.mapAreaChunks 1000 (ns id (lp_2 (rw (md .m5 (open2 { State.reset.dev with settings := { State.reset.dev.settings with loaded := [1,2,3] } })))))
def cs (f : CodeStore → CodeStore) (d : Device) : Device := { d with cs := f d.cs }
def run1 (d : Device) : Device := cs (fun c => { c with running := 1, slot1 := { c.slot1 with holds := true } }) d
def x0_2 : Component := { headerOk := true, length := 4096, version := 9 }
def stg (d : Device) : Device := p1 (fun t => { t with staged := [{ offset := 0, bytes := 4096 }], stagedComp := some (2, x0_2) }) d
def job (a : Nat) (d : Device) : Device := cs (fun c => { c with jobs := [{ cmd := { port := 1, cid := 7 }, action := a, started := true, code := 2, comp := x0_2, target := 2 }] }) d
def san (f : SanitizeRec → SanitizeRec) (d : Device) : Device := { d with sec := { d.sec with san := f d.sec.san } }
def wr (d : Device) : Device := { d with media := { d.media with wp := { d.media.wp with writes := [{ id := 1, port := 1, sqid := 1, cid := 4, landed := true }], flushes := [{ port := 0, sqid := 1, cid := 2 }] } , rc := { d.media.rc with lostLog := [{ slot := 1, cause := 2 }] }, stored := [(777, { slot := 1 })] } }
def n13 : Device := prt 1 (fun t => { t with turnLeft := 0 }) (setObj Obj.vwcDefault 1 (ns id n11))
def mpD (f : MapState → MapState) (d : Device) : Device := { d with media := { d.media with map := f d.media.map } }
def mapped (d : Device) : Device := mpD (fun m => { m with pages := [(pageKey 2 0, { resident := true }), (pageKey 2 1, { resident := true })], entries := [(mapKey 2 0, pointerOf 100000 5), (mapKey 2 3, pointerOf 100000 9), (mapKey 2 9, lostEntry)] }) d
def wrr (c : Bool) (d : Device) : Device := { d with media := { d.media with wp := { d.media.wp with nextId := 9, writes := [{ id := 1, port := 1, sqid := 1, cid := 4, slot := 2, landed := true, completed := c, unmaps := [(3, 1, some 900)] }] } } }
def hid (d : Device) : Device := prt 1 (fun t => { t with hostId := 77, turnLeft := 0 }) (prt 0 (fun t => { t with hostId := 88 }) d)
def r77 : Registrant := { hostId := 77, key := 5, ctrl := 2 }
def r88 : Registrant := { hostId := 88, key := 9, ctrl := 1 }

/-! ### Ill-formed commands: one for each check -/

theorem test_malformed_host : (Instr.flush { cid := 2 ^ 16 }).malformed = some .hostField := by decide
theorem test_malformed_path : (Instr.groupDiscard 6 0x3400).malformed = some .path := by decide
theorem test_malformed_width : (Instr.canRead { tag := 256 }).malformed = some .width := by decide
theorem test_malformed_block : (Instr.releaseReconcile (2 ^ 26) none).malformed = some .block := by decide
theorem test_malformed_slot : (Instr.regionReset 1024).malformed = some .slot := by decide
theorem test_malformed_domain : (Instr.domainEntryCommit 8).malformed = some .domain := by decide
theorem test_malformed_ledger : (Instr.ledgerFreeRead 1 9).malformed = some .ledger := by decide
theorem test_malformed_link : (Instr.fabricCreditReturn 8).malformed = some .link := by decide
theorem test_malformed_operation : (Instr.readSuspend 0 1).malformed = some .operation := by decide
theorem test_malformed_plane : (Instr.eraseComplete 0 0 [4]).malformed = some .plane := by decide
theorem test_malformed_lane : (Instr.linkUp 0 5 3).malformed = some .lane := by decide
theorem test_malformed_round : (Instr.housekeepingRound { cth := [1] }).malformed = some .round := by decide
theorem test_malformed_vector : (Instr.carrierJoined 0 [[1]] []).malformed = some .vector := by decide
theorem test_malformed_bits : (Instr.arrayReadComplete 1 1 { codewords := [({ first := 2 ^ 147456 }, [])] }).malformed = some .bits := by decide +kernel
theorem test_malformed_inflate : (Instr.grainDecompress 1 1 0 { slip := 11 }).malformed = some .inflate := by decide
theorem test_malformed_length : (Instr.datasetManagement {} (List.replicate 257 (0, 0)) true).malformed = some .length := by decide +kernel
theorem test_malformed_store : (Instr.firmwareCommitDone [{ block := 1024 }]).malformed = some .store := by decide
theorem test_malformed_mismatch : (Instr.resetRelease { mismatches := [{ row := 9 }] }).malformed = some .mismatch := by decide
theorem test_wellformed : (Instr.linkUp 0 5 8).malformed = none := by decide

/-! ### Commands of the table -/

/-- The table gives no row a bit, so no word spells a command. -/
theorem test_no_word (n w : Nat) : decodeTableWord n w = none := rfl
theorem test_withFetchWord (s : State) (n w : Nat) : s.withFetchWord n w = s := rfl

/-! ### The worked examples of spec/ -/

/-- spec/08: entry 0x23_6134_812C is block 0x8D_84D2 on die 566, plane 2, frame 300. -/
theorem test_map_entry : blockOf 0x236134812C = 0x8D84D2 ∧ frameOf 0x236134812C = 300 ∧ dieOfBlock 0x8D84D2 = 566
    ∧ planeOfBlock 0x8D84D2 = 2 ∧ bankOfDie 566 = 2 := by decide +kernel
/-- spec/05: grain 305,419,896 is in line 25,451,658, page 397,682. -/
theorem test_map_line : lineOf 305419896 = 25451658 ∧ pageOf 305419896 = 397682 := by decide +kernel
/-- spec/05: a namespace of 200 TiB. -/
theorem test_namespace_size : grainsOf (200 * 2 ^ 28) = 3355443200 ∧ pagesOf (200 * 2 ^ 28) = 4369067 ∧ chunksOf (200 * 2 ^ 28) = 4267 := by
  decide +kernel
/-- spec/05: the fits of DRAM, and 3.5 PiB. -/
theorem test_dram_fit : getObj Obj.mapAreaChunks (trainDram { dram := 384 } State.reset.dev) = 76544 ∧ chunksOf (7 * 2 ^ 37) = 76459 := by
  decide +kernel
/-- spec/04: frame 300 of a block at S4 starts in codeword 152. -/
theorem test_frame_codeword : 300 * 4096 / infoBytes 4 = 152 ∧ wordlineOfByte 4 (300 * 4096) = 15 ∧ 301 * 4096 / infoBytes 4 = 152 := by
  decide +kernel
/-- spec/04: an estimate of 4.618 opens the block at S3, of 10,400 frames and an efficiency of 0.977. -/
theorem test_rate_step : chooseStep 4618 State.reset.dev = some 3 ∧ framesPerBlock 3 = 10400 ∧ etaOf 3 4618 / 10 = 977 := by decide +kernel
/-- spec/00 R3. -/
theorem test_revision : revisionText 0x03020011 = "3.02.017".toList.map fun c => BitVec.ofNat 8 c.toNat := by decide +kernel
/-- spec/07: a grain compressed to 9,000 bytes takes 3 frames. -/
theorem test_stored_frames : storedFrames .compressed 9000 = 3 ∧ storedFrames .rawMode 65536 = 17 := by decide +kernel
/-- spec/08: a stripe with StripeId 41,237, 16 wide under P1, has its P member in bank 05. -/
theorem test_parity_member : ((List.range 16).filter fun p =>
    !isDataMember 41237 p { members := (List.range 16).map fun b => (b, 0), parity := 1 }) = [5] := by decide +kernel
/-- spec/13: entries of a U16 and of a U8 value take 16 bytes. -/
theorem test_settings_entry : entryBytes 2 = 16 ∧ entryBytes 1 = 16 := by decide
/-- spec/18: argument 0x000A_5020 of operation 0x01. -/
theorem test_argument : argumentForm 1 0xA5020 = true ∧ argumentForm 1 0x1000000 = false := by decide +kernel
/-- spec/06: 27.4 J give 44,892 slots, 45 J the cap; spec/15: 27,377 mJ give 44,854. -/
theorem test_ceiling : ceilingOf (setObj Obj.writeBufferEnergy 27400 State.reset.dev) = 44892
    ∧ ceilingOf (setObj Obj.writeBufferEnergy 27377 State.reset.dev) = 44854
    ∧ ceilingOf (setObj Obj.writeBufferEnergy 45000 State.reset.dev) = 65536 := by decide +kernel
/-- spec/15: half of the reference at the divider is 25 °C. -/
theorem test_thermistor : cthTemp 2048 = 25 := by decide +kernel
/-- spec/09: a median dark age of 611 EqH40 over 1,464 hours makes ObservedDarkFactor 418. -/
theorem test_dark_factor : getObj Obj.observedDarkFactor (observeDark (setObj Obj.darkAgeMedian 611 (updRc (fun rc =>
    { rc with clockSet := some (1464 * 3600000 + 5), loadedWallMs := some 5, darkRecorded := true }) State.reset.dev))) = 418 := by decide +kernel
/-- spec/09: DarkAgingFactor 261 and 620 EqH40 left put the next wake 1,613 hours ahead. -/
theorem test_next_wake : nextWakeHours (setObj Obj.darkAgingFactor 261 (updBlock 49161
    (fun e => { e with state := 2, role := 0, valid := 1, scrubDue := 620 }) State.reset.dev)) = 1613 := by decide +kernel
/-- spec/14: data of 9 bytes are padded to the next length of CAN FD. -/
theorem test_can_pad : (canPad (List.replicate 9 0)).length = 12 ∧ (canPad (List.replicate 60 0)).length = 64 := by decide +kernel

/-- The sled of the example of R416: S = 25, U = 20, T = 8 committed, the CAN path's shadow U. -/
def reclaimExample (u : Nat) : State := at_ (setObj 0x34000F 1 (setObj Obj.reclaimStartPermille 25 (setObj Obj.reclaimUrgentPermille 20
  (setObj Obj.reclaimStopPermille 8 (pth 5 (fun s => { s with shadows := [(Obj.reclaimUrgentPermille, u)] }) (b10 .m5))))))

/-- What a command makes of a state's device, as far as a question about it goes. -/
def asks {α : Type} (c : Instr) (s : State) (f : Device → α) : Option α :=
  match exec c s with | .next t => some (f t.dev) | _ => none

/-- spec/13, step 4: candidate 25, 30, 8 does not agree, and the rule of subindex 0x01 is the first that fails. -/
theorem test_group_disagrees : asks (.groupCommit 5 0x3400 {}) (reclaimExample 30) (fun d =>
    (getObj Obj.reclaimUrgentPermille d, (pathState 5 d).abort, commitWord 5 0x34000F d)) = some (20, some 0x105, 0x00010103) := by decide +kernel
/-- spec/13, step 5: candidate 25, 22, 8 agrees. -/
theorem test_group_agrees : asks (.groupCommit 5 0x3400 {}) (reclaimExample 22) (fun d =>
    (getObj Obj.reclaimUrgentPermille d, getObj 0x34000F d, (pathState 5 d).shadows)) = some (22, 2, []) := by decide +kernel
/-- spec/02: a sag in M7 ends M7 for M8, and its qualified recovery leads back. -/
theorem test_sag_starts : asks .supplyWarning (at_ (rst .m7)) (·.ctl.mode) = some .m8 := by decide +kernel
theorem test_sag_ends : asks .sagRecoveryQualified (at_ (ctl (fun c => { c with qualifying := true, flushFrom := .m7 }) (rst .m8)))
    (·.ctl.mode) = some .m7 := by decide +kernel
/-- spec/19: a power-on with a stored ceiling of 131,072 writes 196,608, and numbers on from 131,072. -/
theorem test_ceiling_entry : asks (.vsysRise 0)
    { State.reset with dev := { ctl (fun c => { c with vsysUp := false }) (md .m0 State.reset.dev) with
      cs := { State.reset.dev.cs with counters := { State.reset.dev.cs.counters with ceiling := 131072 } } } }
    (fun d => (d.cs.counters.ceiling, d.log.ring.head?.map fun e => (e.entry.seq, e.entry.code))) =
    some (196608, some (131072, Code.logbookResumed)) := by decide +kernel
/-- spec/16 R490: a request that fits is granted at once. -/
theorem test_token_request : asks (.tokenRequest 2 5 false) (at_ (rst .m5)) (fun d => heldBy 1 3 d) = some 5 := by decide +kernel
/-- spec/16 R487: a return of more than is held locks down. -/
theorem test_token_overreturn : asks (.tokenReturn 2 5) (at_ (rst .m5)) (·.ctl.mode) = some .m10 := by decide +kernel
/-- spec/14 R445: a time sync sets the wall clock. -/
theorem test_time_sync : asks (.timeSync 1700000000000 3) (at_ (rst .m5)) (getObj Obj.wallClockMs) = some 1700000000003 := by decide +kernel
/-- spec/16 R492: 18,432 bytes come from pool B, 64 bytes from pool D. -/
theorem test_pool_request : asks (.poolRequest 0x40 18432 false) (at_ (rst .m5)) (fun d => (heldBy 4 0x40 d, heldBy 3 0x40 d)) = some (1, 0)
    ∧ poolOf 64 = some 2 := by decide +kernel
/-- spec/05 0x3130.05: a page load that meets an empty pool A is counted. -/
theorem test_map_load_waits : asks (.poolRequest 0x40 4096 false) (at_ (dry (rst .m5))) (getObj Obj.mapLoadPoolEmpty) = some 1 := by
  decide +kernel
/-- spec/14 0x1012.07: a refusal is counted. -/
theorem test_can_refusal : asks (.canUnknownCommand {}) (at_ (b9 .m5)) (getObj Obj.canProtocolRefusals) = some 1 := by decide +kernel
/-- spec/20 R580: a tick of 1/16 hour. -/
theorem test_hour_tick : asks .operatingHourTick (at_ (rst .m5)) hours = some 1 := by decide +kernel
/-- spec/03 R96: a retired gauge block gives way to the lowest free block of its plane. -/
theorem test_gauge_moves : (gaugeBlocks 3 (nameGauge 3 (updBlock (3 * 16384 + 5) (fun e => { e with state := 5 }) State.reset.dev))) =
    [3 * 16384 + 4, 3 * 16384 + 9, 3 * 16384 + 6, 3 * 16384 + 7] := by decide +kernel

/-! ### Codes and layouts -/

/-- Table 4.1 against Table 4.2 and R99: the read of each page gives the level's bit. -/
theorem test_levels_read : ((List.range 32).all fun l => (List.range 5).all fun p =>
    readBit p (fun t => decide (t ≤ l)) == bitOf ((levelValues[l]?).getD 0) p) = true := by decide +kernel

/-- Table 4.2. -/
theorem test_page_thresholds : (List.range 5).map pageThresholds =
    [[1, 6, 10, 13, 17, 23, 30], [2, 7, 11, 14, 24], [3, 8, 12, 21, 25, 27], [4, 9, 16, 18, 20, 26, 29], [5, 15, 19, 22, 28, 31]] := by
  decide +kernel

/-- spec/00: 0x3F_0000_12A8 travels with 0xC0_FFFF_ED57. -/
theorem test_pair : pairWord 0x3F000012A8 = 0x3F000012A8C0FFFFED57 ∧ pairBytes 0x3F000012A8 =
    [0xA8, 0x12, 0x00, 0x00, 0x3F, 0x57, 0xED, 0xFF, 0xFF, 0xC0] := by decide +kernel

/-- spec/05: block 0x8D_84D2, frame 300. -/
theorem test_entry_bytes : pointerOf 0x8D84D2 300 = 0x236134812C ∧ entryFive 0x236134812C = [0x2C, 0x81, 0x34, 0x61, 0x23] := by decide +kernel

/-- spec/05: line 25,451,658 of slot 2. -/
theorem test_line_seed : lineSeed 2 25451658 = 0x0000020001845C8A := by decide +kernel

/-- spec/05: a line of twelve unmapped entries carries a nonzero CRC. -/
theorem test_empty_line_crc : ofLe ((lineBytes 2 25451658 State.reset.dev).drop 60) ≠ 0 := by decide +kernel

/-- RFC 3720, Appendix B.4: 32 bytes of zeroes. -/
theorem test_crc32c : crc32c (zeroBytes 32) = 0x8A9136AA := by decide +kernel

/-- spec/06 R191 and spec/08 R242: a lost data member comes back from P, and what Q scales is undone by the inverse. -/
theorem test_parity_solves : solveUnknowns [{ role := 0, index := 0 }, { role := 0, index := 1, word := some 0xC3 },
      { role := 1, index := 0, word := some (parityP [0x5A, 0xC3]) }] = some [(0, 0x5A)] ∧
    gfMul (gfInv (gfPow 2)) (parityQ [0, 0, 0x17]) = 0x17 := by decide +kernel

/-- R103 at S7, where m is 18 and a is 6: column 3 has its blocks in rows 3, 9 and 15, with shifts (89 r (2c + 1) + 17 c) mod 1024. -/
theorem test_circulants : ((List.range 18).filter fun r => (circulants 7 r).any fun x => x.1 == 3) = [3, 9, 15] ∧
    ((circulants 7 3).find? fun x => x.1 == 3) = some (3, 896) ∧ (circulants 7 3).getLast? = some (57, 0) := by decide +kernel

/-- Table 11.3: the regions at the edges. -/
theorem test_bar_regions : [0xFFF, 0x1000, 0x1807, 0x1808, 0x2000, 0x300F, 0x3010, 0x4000, 0x4027, 0x4028].map barRegion =
    [.registers, .doorbells, .doorbells, .reserved, .msixTable, .msixTable, .reserved, .pendingBits, .pendingBits, .reserved] := by decide +kernel

/-- Table 11.2: vendor and device, class code, capabilities pointer. -/
theorem test_config_header : ((configHeader 0 State.reset.dev).take 4, ((configHeader 0 State.reset.dev).drop 9).take 3) =
    ([0x6B, 0x1E, 0x24, 0x0A], [0x02, 0x08, 0x01]) := by decide +kernel


/-! ### What the witnesses need -/

theorem no_refuser {dd : Nat} {d : Device} (h : (List.range 10).all (fun c => !refuses dd c d) = true) (code : Nat) :
    refuses dd code d = false := by
  by_cases hc : code < 10
  · simpa using List.all_eq_true.mp h code (List.mem_range.mpr hc)
  · unfold refuses
    split <;> first | omega | rfl

theorem some_ex {α : Type} {o : Option α} (h : o.isSome = true) : ∃ v, o = some v := Option.isSome_iff_exists.mp h

theorem ok_of {ε : Type} {x : Except ε (List Byte)} {v : List Byte} (h : x.toOption = some v) : x = .ok v := by
  cases x with
  | ok w => simpa [Except.toOption] using h
  | error e => simp [Except.toOption] at h

theorem ok_ex {ε α : Type} {x : Except ε α} (h : x.toOption.isSome = true) : ∃ v, x = .ok v := by
  cases x with
  | ok w => exact ⟨w, rfl⟩
  | error e => simp [Except.toOption] at h

theorem error_of {x : Except Nat (List Byte)} {e : Nat} (h : (match x with | .error k => decide (k = e) | .ok _ => false) = true) :
    x = .error e := by
  cases x with
  | ok w => simp at h
  | error k => simpa using h

theorem some_get {α : Type} {o : Option α} (h : o.isSome = true) : o = some (o.get h) := by simp

theorem only_at {l : List Nat} {p b : Nat} (h : l.Nodup) (hb : l[p]? = some b) (q : Nat) (hq : q ≠ p) : l[q]? ≠ some b := by
  intro hc
  have hp : p < l.length := by
    by_contra hn
    simp [List.getElem?_eq_none (Nat.le_of_not_lt hn)] at hb
  exact hq ((List.getElem?_inj hp h).mp (hb.trans hc.symm)).symm

theorem not_refused {bank : Nat} {d : Device} (h : removalNeed d ≤ 0) : removalRefused bank d = false := by
  unfold removalRefused
  generalize removalRoom bank d = room
  generalize 1000 - getObj Obj.reclaimStopPermille d = share
  exact decide_eq_false (not_lt.mpr (le_trans h (by positivity)))

theorem foldl_isSome {β : Type} (p : Nat → Bool) (f : Option β → Nat → Option β) (hf : ∀ b i, p i = true → (f b i).isSome = true)
    (hk : ∀ b i, b.isSome = true → (f b i).isSome = true) (l : List Nat) (b : Option β)
    (h : b.isSome = true ∨ ∃ i ∈ l, p i = true) : (l.foldl f b).isSome = true := by
  induction l generalizing b with
  | nil => simpa using h
  | cons j l ih =>
    refine ih _ ?_
    rcases h with h | ⟨i, hi, hp⟩
    · exact .inl (hk _ _ h)
    · rcases List.mem_cons.mp hi with rfl | hi
      · exact .inl (hf _ _ hp)
      · exact .inr ⟨i, hi, hp⟩

theorem pickDie_isSome {kind bank i : Nat} {d : Device} (hi : i < 256) (h : eligibleDie kind (bank * 256 + i) d = true) :
    (pickDie kind bank d).isSome = true := by
  unfold pickDie
  rw [Option.isSome_map]
  refine foldl_isSome (fun i => eligibleDie kind (bank * 256 + i) d) _ ?_ ?_ _ _ (.inr ⟨i, List.mem_range.mpr hi, h⟩)
  · intro b i h
    dsimp only at h ⊢
    rw [if_pos h]
    rcases b with _ | ⟨m, f⟩
    · rfl
    · dsimp only; split <;> rfl
  · intro b i h
    dsimp only
    split
    · rcases b with _ | ⟨m, f⟩
      · rfl
      · dsimp only; split <;> rfl
    · exact h

/-! ### Witnesses: `wit_<statement>_<clause>` meets the hypotheses of that clause -/

theorem wit_SupplyInputsSetTheMode_1 : ∃ (s : State),
    s.dev.ctl.mode = .m0 ∧ s.dev.ctl.vsysUp = false :=
  ⟨at_ (ctl (fun c => { c with vsysUp := false, porReleased := false }) (rst .m0)), by decide +kernel⟩

theorem wit_SupplyInputsSetTheMode_2 : ∃ (s : State),
    s.dev.ctl.mode ≠ .m0 ∧ s.dev.ctl.mode ≠ .m1 :=
  ⟨at_ ((rst .m2)), by decide +kernel⟩

theorem wit_SupplyInputsSetTheMode_3 : ∃ (s : State),
    s.dev.ctl.mode ≠ .m0 :=
  ⟨at_ ((rst .m1)), by decide +kernel⟩

theorem wit_SupplyInputsSetTheMode_4 : ∃ (s : State) (nodeId : Nat),
    s.dev.ctl.porReleased = false ∧ nodeId < 128 :=
  ⟨at_ (ctl (fun c => { c with vsysUp := false, porReleased := false }) (rst .m0)), 0, by decide +kernel⟩

theorem wit_SupplyInputsSetTheMode_5 : ∃ (s : State),
    s.dev.ctl.mode ≠ .m0 ∧ s.dev.ctl.mode ≠ .m1 :=
  ⟨at_ ((rst .m2)), by decide +kernel⟩

theorem wit_ResetReleaseLeavesHeld_1 : ∃ (s : State) (x : BootInputs),
    s.dev.ctl.mode = .m1 ∧ s.dev.ctl.vsysUp = true ∧ s.dev.ctl.porReleased = true ∧ x.recovLow = true ∧ s.dev.ctl.haltLatch = false :=
  ⟨at_ ((rst .m1)), { recovLow := true, portcfg := 0, cutErases := [], oaBadA := false, oaBadB := false, pairFault := false, bootBad := false, slotFails := [], settingsBadA := false, settingsBadB := false, torn := [], mismatches := [], dram := 384, dramFailed := none }, by decide +kernel⟩

theorem wit_ResetReleaseLeavesHeld_2 : ∃ (s : State),
    s.dev.ctl.mode ≠ .m1 :=
  ⟨at_ ((rst .m0)), by decide +kernel⟩

theorem wit_PerstResets_1 : ∃ (s : State),
    dataMode s.dev.ctl.mode = true ∧ s.dev.ctl.mode ≠ .m8 ∧ flushNeeded s.dev = true :=
  ⟨at_ (flighty (busy (open2 (rst .m4)))), by decide +kernel⟩

theorem wit_PerstResets_2 : ∃ (s : State),
    s.dev.ctl.flushing = false ∧ (s.dev.ctl.mode ∈ [Mode.m2, .m3, .m10] ∨ dataMode s.dev.ctl.mode = true ∧ s.dev.ctl.mode ≠ .m8 ∧ flushNeeded s.dev = false) :=
  ⟨at_ ((rst .m2)), by decide +kernel⟩

theorem wit_PerstResets_3 : ∃ (s : State),
    s.dev.ctl.mode ∈ [Mode.m0, .m1, .m11] :=
  ⟨at_ ((rst .m0)), by decide +kernel⟩

theorem wit_SupplyWarningsAndRecovery_1 : ∃ (s : State),
    s.dev.ctl.mode ∈ [Mode.m5, .m6, .m7, .m9] :=
  ⟨at_ ((rst .m5)), by decide +kernel⟩

theorem wit_SupplyWarningsAndRecovery_2 : ∃ (s : State),
    s.dev.ctl.mode = .m4 :=
  ⟨at_ ((rst .m4)), by decide +kernel⟩

theorem wit_SupplyWarningsAndRecovery_3 : ∃ (s : State),
    s.dev.ctl.mode ≠ .m0 ∧ s.dev.ctl.warned = true :=
  ⟨at_ (flighty (ctl (fun c => { c with flushing := true, warned := true, dueM1 := true, qualifying := true }) (rst .m1))), by decide +kernel⟩

theorem wit_SupplyWarningsAndRecovery_4 : ∃ (s : State),
    s.dev.ctl.mode = .m8 ∧ s.dev.ctl.qualifying = true ∧ s.dev.ctl.flushing = true :=
  ⟨at_ (flighty (ctl (fun c => { c with flushing := true, warned := true, dueM1 := true, qualifying := true }) (rst .m8))), by decide +kernel⟩

theorem wit_SupplyWarningsAndRecovery_5 : ∃ (s : State),
    s.dev.ctl.mode = .m8 ∧ s.dev.ctl.qualifying = true ∧ s.dev.ctl.flushing = false ∧ s.dev.ctl.dueM1 = false ∧ s.dev.ctl.flushFrom ∈ [Mode.m5, .m6, .m7, .m9] ∧ s.dev.held = [] ∧ notificationWaits s.dev = false ∧ ((∀ b, (carrier b s.dev).deferred = false)) :=
  ⟨at_ (ctl (fun c => { c with warned := true, qualifying := true, supplyHold := true, flushFrom := .m6 }) (rst .m8)), by decide +kernel, by decide +kernel, of_decide_eq_true (by decide +kernel), by decide +kernel, by decide +kernel, of_decide_eq_true (by decide +kernel), by decide +kernel, fun _ => rfl⟩

theorem wit_SupplyWarningsAndRecovery_6 : ∃ (s : State),
    s.dev.ctl.mode = .m8 ∧ s.dev.ctl.flushing = true ∧ flushNeeded s.dev = false ∧ s.dev.ctl.dueM10 = false ∧ s.dev.ctl.dueM11 = false :=
  ⟨at_ (ctl (fun c => { c with flushing := true, warned := true, qualifying := true, dueM1 := true }) (rst .m8)), by decide +kernel⟩

theorem wit_HousekeepingActs_1 : ∃ (s : State),
    s.dev.ctl.mode ≠ .m0 ∧ s.dev.ctl.porReleased = true :=
  ⟨at_ (thermHot (rst .m2)), by decide +kernel⟩

theorem wit_HousekeepingActs_2 : ∃ (s : State),
    s.dev.therm.dieThrottle = true ∧ s.dev.therm.levelStartMs + 5000 ≤ nowMs s.dev ∧ s.dev.therm.levelStartMax - 2 < s.dev.therm.dieMax ∧ getObj Obj.throttleLevel s.dev < 3 ∧ s.dev.res.resizeTo = none ∧ WriterOpen s.dev :=
  ⟨at_ (thermHot (rst .m2)), by unfold WriterOpen; decide +kernel⟩

theorem wit_HousekeepingActs_3 : ∃ (s : State),
    s.dev.ctl.mode ≠ .m0 ∧ s.dev.ctl.porReleased = true :=
  ⟨at_ (thermHot (rst .m2)), by decide +kernel⟩

theorem wit_HousekeepingActs_4 : ∃ (s : State),
    s.dev.ctl.mode ∉ [Mode.m0, .m1, .m2, .m11] :=
  ⟨at_ (thermHot (rst .m3)), by decide +kernel⟩

theorem wit_HousekeepingActs_5 : ∃ (s : State),
    s.dev.cs.jobs.all (fun j => !(j.started && j.code == 5)) = true :=
  ⟨at_ (thermHot (rst .m2)), by decide +kernel⟩

theorem wit_HoldUpStoreIsTested_1 : ∃ (s : State),
    s.dev.ctl.huChgEn = true ∧ s.dev.holdup.reached = false ∧ s.dev.holdup.timedOut = false ∧ s.dev.holdup.chargeMs + 120000 ≤ nowMs s.dev :=
  ⟨at_ (thermHot (rst .m2)), by decide +kernel⟩

theorem wit_HoldUpStoreIsTested_2 : ∃ (s : State),
    s.dev.ctl.mode ∈ [Mode.m4, .m5, .m6, .m7, .m9] ∧ s.dev.holdup.due = true ∧ s.dev.holdup.testing = false ∧ s.dev.ctl.warned = false :=
  ⟨at_ ({ open2 (rst .m5) with holdup := { (rst .m5).holdup with due := true } }), by decide +kernel⟩

theorem wit_HoldUpStoreIsTested_3 : ∃ (s : State),
    s.dev.holdup.testing = true ∧ s.dev.holdup.v0 = none :=
  ⟨at_ ({ open2 (rst .m2) with holdup := { (rst .m2).holdup with testing := true, before := 2 } }), by decide +kernel⟩

theorem wit_HoldUpStoreIsTested_4 : ∃ (s : State),
    s.dev.holdup.testing = true ∧ s.dev.ctl.huTest = true ∧ s.dev.holdup.stopped = false :=
  ⟨at_ (ctl (fun c => { c with huTest := true, huChgEn := false }) { open2 (rst .m2) with holdup := { (rst .m2).holdup with testing := true, v0 := some 16000, samples := [15900] } }), by decide +kernel⟩

theorem wit_HoldUpStoreIsTested_5 : ∃ (s : State),
    s.dev.holdup.testing = true ∧ s.dev.holdup.stopped = true :=
  ⟨at_ (ctl (fun c => { c with huTest := false, huChgEn := false }) { open2 (rst .m2) with holdup := { (rst .m2).holdup with testing := true, stopped := true, v0 := some 16000, samples := (List.range 60).map (fun i => 15980 - 10 * i) } }), by decide +kernel⟩

theorem wit_HoldUpStoreIsTested_6 : ∃ (s : State) (path : Nat),
    1 ≤ path ∧ path ≤ 5 ∧ s.dev.ctl.mode ∈ [Mode.m3, .m4, .m5, .m6, .m7, .m9] :=
  ⟨at_ (thermHot (rst .m3)), 1, by decide +kernel⟩

theorem wit_TakeoverMovesControl_1 : ∃ (s : State) (c : Instr) (cause : Nat),
    (c, cause) ∈ [(.governorMismatch, 1), (.nonCodeReport, 3), (.missedEpoch, 4), (.coreMemoryUncorrectable, 5)] ∧ takeoverMode s.dev = true ∧ getObj Obj.complexInControl s.dev = 1 ∧ getObj Obj.standbyState s.dev = 1 ∧ s.dev.cpx.takeover = none :=
  ⟨at_ (ups [(Obj.complexInControl, 1), (Obj.standbyState, 1)] (open2 (rst .m3))), .governorMismatch, 1, by decide +kernel⟩

theorem wit_TakeoverMovesControl_2 : ∃ (s : State) (c : Instr) (cause : Nat),
    (c, cause) ∈ [(.governorMismatch, 1), (.nonCodeReport, 3), (.missedEpoch, 4), (.coreMemoryUncorrectable, 5)] ∧ s.dev.ctl.mode = .m2 ∧ WriterOpen s.dev :=
  ⟨at_ (thermHot (rst .m2)), .governorMismatch, 1, by unfold WriterOpen; decide +kernel⟩

theorem wit_TakeoverMovesControl_3 : ∃ (s : State) (t : Takeover),
    s.dev.cpx.takeover = some t ∧ t.opened = false ∧ t.failing = 1 :=
  ⟨at_ ({ rst .m5 with cpx := { takeover := some {} } }), {}, by decide +kernel, by decide +kernel, of_decide_eq_true (by decide +kernel)⟩

theorem wit_FailedTakeoverLocksDown_1 : ∃ (s : State) (c : Instr),
    takeoverMode s.dev = true ∧ s.dev.ctl.flushing = false ∧ ((c = .takeoverStepTimeout ∧ (∃ t, s.dev.cpx.takeover = some t ∧ t.opened = false) ∨ ∃ code, c = .switchoverInconsistent code)) :=
  ⟨at_ (thermHot (rst .m3)), .switchoverInconsistent 3, by decide +kernel, by decide +kernel, Or.inr ⟨3, rfl⟩⟩

theorem wit_ComplexesTestReturnAndSleep_1 : ∃ (s : State),
    takeoverMode s.dev = true ∧ getObj Obj.complexInControl s.dev ≠ 0 ∧ s.dev.cpx.takeover = none :=
  ⟨at_ (thermHot (rst .m3)), by decide +kernel⟩

theorem wit_ComplexesTestReturnAndSleep_2 : ∃ (s : State),
    s.dev.cpx.returnStep = 1 :=
  ⟨at_ (ups [(Obj.complexInControl, 2), (Obj.standbyState, 0)] { (open2 (rst .m2)) with cpx := { (open2 (rst .m2)).cpx with returnStep := 1 } }), by decide +kernel⟩

theorem wit_ComplexesTestReturnAndSleep_3 : ∃ (s : State),
    s.dev.cpx.returnStep = 2 ∧ (recentReturns s.dev).length < 3 :=
  ⟨at_ (ups [(Obj.complexInControl, 2), (Obj.standbyState, 0)] { (open2 (rst .m2)) with cpx := { (open2 (rst .m2)).cpx with returnStep := 2 } }), by decide +kernel⟩

theorem wit_ComplexesTestReturnAndSleep_4 : ∃ (s : State),
    s.dev.cpx.returnStep = 2 ∧ WriterOpen s.dev :=
  ⟨at_ (ups [(Obj.complexInControl, 2), (Obj.standbyState, 0)] { (open2 (rst .m2)) with cpx := { (open2 (rst .m2)).cpx with returnStep := 2 } }), by unfold WriterOpen; decide +kernel⟩

theorem wit_ComplexesTestReturnAndSleep_5 : ∃ (s : State),
    getObj Obj.standbyState s.dev = 0x02 ∧ s.dev.cpx.copyDue = false ∧ takeoverMode s.dev = true :=
  ⟨at_ (thermHot (rst .m3)), by decide +kernel⟩

theorem wit_ComplexesTestReturnAndSleep_6 : ∃ (s : State),
    getObj Obj.standbyState s.dev = 0x02 ∧ s.dev.cpx.copyDue = false ∧ takeoverMode s.dev = true ∧ WriterOpen s.dev :=
  ⟨at_ (thermHot (rst .m3)), by unfold WriterOpen; decide +kernel⟩

theorem wit_ComplexesTestReturnAndSleep_7 : ∃ (s : State),
    serviceMode s.dev.ctl.mode = true ∧ getObj Obj.standbyState s.dev = 0x01 ∧ getObj Obj.complexInControl s.dev = 0x01 ∧ getObj Obj.standbyRetentionIdleMs s.dev ≠ 0 ∧ s.dev.cpx.copiedSinceInput = true ∧ getObj (Obj.domainState 4) s.dev = 0x01 :=
  ⟨at_ (ups [(Obj.complexInControl, 1), (Obj.standbyState, 1), (Obj.standbyRetentionIdleMs, 9), (Obj.domainState 4, 1)] { (open2 (rst .m5)) with cpx := { (open2 (rst .m5)).cpx with copiedSinceInput := true } }), by decide +kernel⟩

theorem wit_ComplexesTestReturnAndSleep_8 : ∃ (s : State),
    getObj Obj.standbyState s.dev = 0x03 :=
  ⟨at_ (ups [(Obj.complexInControl, 1), (Obj.standbyState, 3)] (open2 (rst .m2))), by decide +kernel⟩

theorem wit_DomainsEnterAndWake_1 : ∃ (s : State) (dd : Nat) (retention : Bool),
    domainCode dd = true ∧ dd < 0x10 ∧ getObj (Obj.domainState dd) s.dev = 0x01 ∧ inFloor dd s.dev = false ∧ ((retention = true → dd = 3 ∨ dd = 4)) ∧ ((∀ t, smGet none s.dev.domains.refusedMs dd = some t → t + 1 ≤ nowMs s.dev)) ∧ ((∀ code, refuses dd code s.dev = false)) :=
  ⟨at_ (thermHot (rst .m2)), 4, true, by decide +kernel, by decide +kernel, of_decide_eq_true (by decide +kernel), by decide +kernel, by decide +kernel, of_decide_eq_true (by decide +kernel), no_refuser (by decide +kernel)⟩

theorem wit_DomainsEnterAndWake_2 : ∃ (s : State) (dd : Nat) (retention : Bool) (brought : Nat) (refuser : Nat),
    domainCode dd = true ∧ getObj (Obj.domainState dd) s.dev = 0x01 ∧ inFloor dd s.dev = false ∧ ((retention = true → dd = 3 ∨ dd = 4)) ∧ ((∀ t, smGet none s.dev.domains.refusedMs dd = some t → t + 1 ≤ nowMs s.dev)) ∧ 1 ≤ refuser ∧ refuser ≤ 9 ∧ ((brought = refuser ∨ refuses dd refuser s.dev = true)) ∧ ((∀ code, 1 ≤ code → code < refuser → brought ≠ code ∧ refuses dd code s.dev = false)) :=
  ⟨at_ (thermHot (rst .m2)), 4, true, 1, 1, by decide +kernel⟩

theorem wit_DomainsEnterAndWake_3 : ∃ (s : State) (dd : Nat) (e : DomainEntry),
    smGet none s.dev.domains.entering dd = some e ∧ inFloor dd s.dev = false :=
  ⟨at_ ({ (open2 (rst .m2)) with domains := { (open2 (rst .m2)).domains with entering := [(3, some { toRetention := true, granted := true }), (5, some { toRetention := false }), (16, some { })] } }), 5, { toRetention := false, granted := false }, by decide +kernel⟩

theorem wit_DomainsEnterAndWake_4 : ∃ (s : State) (dd : Nat) (e : DomainEntry),
    smGet none s.dev.domains.entering dd = some e :=
  ⟨at_ ({ (open2 (rst .m2)) with domains := { (open2 (rst .m2)).domains with entering := [(3, some { toRetention := true, granted := true }), (5, some { toRetention := false }), (16, some { })] } }), 3, { toRetention := true, granted := true }, by decide +kernel⟩

theorem wit_DomainsEnterAndWake_5 : ∃ (s : State) (dd : Nat),
    dd ∈ [5, 6, 7] ∧ (getObj (Obj.domainState dd) s.dev = 0x00 ∨ getObj (Obj.domainState dd) s.dev = 0x02) ∧ mustBeOff dd s.dev = false :=
  ⟨at_ (thermHot (rst .m3)), 5, by decide +kernel⟩

theorem wit_EpochCountsAndChecks_1 : ∃ (s : State),
    s.dev.ctl.mode ∈ [Mode.m1, .m2, .m11] :=
  ⟨at_ (thermHot (rst .m2)), by decide +kernel⟩

theorem wit_EpochCountsAndChecks_2 : ∃ (s : State),
    s.dev.ctl.mode = .m10 :=
  ⟨at_ (thermHot (rst .m10)), by decide +kernel⟩

theorem wit_EpochCountsAndChecks_3 : ∃ (s : State),
    s.dev.ctl.mode ∈ [Mode.m3, .m4, .m5, .m6, .m7, .m8, .m9] ∧ ((∃ l ∈ [1, 2, 3, 4, 5, 6, 7, 8], ledgerOk (ledger l s.dev) = false)) ∧ s.dev.ctl.flushing = false ∧ flushNeeded s.dev = false :=
  ⟨at_ (bad (rst .m3)), by decide +kernel⟩

theorem wit_TokensAreGrantedAndReturned_1 : ∃ (s : State) (bank : Bank) (amount : Nat) (flush : Bool),
    (flush = true ∨ bankOldest bank.val s.dev = none ∧ guardedRequest s.dev = none ∧ flushWaits s.dev = false) ∧ tokenFits bank.val amount s.dev = true :=
  ⟨at_ (md .m3 (dry State.reset.dev)), 0, 0, true, by decide +kernel⟩

theorem wit_TokensAreGrantedAndReturned_2 : ∃ (s : State) (bank : Bank) (amount : Nat) (flush : Bool),
    (tokenFits bank.val amount s.dev = false ∨ flush = false ∧ ((bankOldest bank.val s.dev).isSome = true ∨ (guardedRequest s.dev).isSome = true ∨ flushWaits s.dev = true)) :=
  ⟨at_ (md .m3 (dry State.reset.dev)), 0, 4096, true, by decide +kernel⟩

theorem wit_TokensAreGrantedAndReturned_3 : ∃ (s : State) (r : TokenReq),
    nextRequest s.dev = some r ∧ r.bank < 16 :=
  ⟨at_ (md .m3 (dry State.reset.dev)), { id := 4, bank := 1, amount := 50, sinceMs := 499999, flush := false, guard := false }, by decide +kernel⟩

theorem wit_TokensAreGrantedAndReturned_4 : ∃ (s : State) (bank : Bank) (amount : Nat),
    amount ≤ heldBy 1 (bank.val + 1) s.dev :=
  ⟨at_ (md .m3 (dry State.reset.dev)), 0, 0, by decide +kernel⟩

theorem wit_TokensAreGrantedAndReturned_5 : ∃ (s : State) (bank : Bank) (r : TokenReq),
    bankOldest bank.val s.dev = some r ∧ r.guard = false ∧ r.sinceMs + 10 ≤ nowMs s.dev :=
  ⟨at_ (md .m3 (dry State.reset.dev)), 2, { id := 3, bank := 2, amount := 5, sinceMs := 499000, flush := false, guard := false }, by decide +kernel⟩

theorem wit_TokensAreGrantedAndReturned_6 : ∃ (s : State) (bank : Bank),
    (carrier bank.val s.dev).powerUpHeld ≠ 0 ∧ (carrier bank.val s.dev).powerUpHeld ≤ heldBy 1 (bank.val + 1) s.dev ∧ (carrier bank.val s.dev).penMs + (carrier bank.val s.dev).powerUpMs ≤ nowMs s.dev :=
  ⟨at_ (md .m3 (dry State.reset.dev)), 0, by decide +kernel⟩

theorem wit_BuffersAndCreditsMove_1 : ∃ (s : State) (owner : Nat) (size : Nat) (pool : Nat),
    poolOf size = some pool ∧ owner ∈ poolOwners ∧ poolsActive s.dev = true ∧ (smGet {} s.dev.res.waits (owner * 8 + pool)).waitUs = 0 ∧ grantOk pool owner 1 s.dev = true :=
  ⟨at_ (md .m3 (waity (busy (open2 State.reset.dev)))), 32, 32, 2, by decide +kernel⟩

theorem wit_BuffersAndCreditsMove_2 : ∃ (s : State) (owner : Nat) (size : Nat) (pool : Nat),
    poolOf size = some pool ∧ owner ∈ poolOwners ∧ poolsActive s.dev = true ∧ (smGet {} s.dev.res.waits (owner * 8 + pool)).waitUs = 0 ∧ grantOk pool owner 1 s.dev = false :=
  ⟨at_ (md .m3 (dry State.reset.dev)), 32, 32, 2, by decide +kernel⟩

theorem wit_BuffersAndCreditsMove_3 : ∃ (s : State) (owner : Nat) (pool : Nat),
    (smGet {} s.dev.res.waits (owner * 8 + pool)).waitUs ≠ 0 ∧ (smGet {} s.dev.res.waits (owner * 8 + pool)).own = false ∧ poolsActive s.dev = true ∧ grantOk pool owner 1 s.dev = true ∧ pool ∈ [2, 3, 4, 5] :=
  ⟨at_ (md .m3 (waity (busy (open2 State.reset.dev)))), 1, 3, by decide +kernel⟩

theorem wit_BuffersAndCreditsMove_4 : ∃ (s : State) (owner : Nat) (pool : Nat),
    (smGet {} s.dev.res.waits (owner * 8 + pool)).waitUs ≠ 0 ∧ (smGet {} s.dev.res.waits (owner * 8 + pool)).own = true ∧ poolsActive s.dev = true ∧ grantOk pool owner 1 s.dev = true :=
  ⟨at_ (md .m3 (waity2 (busy (open2 State.reset.dev)))), 2, 2, by decide +kernel⟩

theorem wit_BuffersAndCreditsMove_5 : ∃ (s : State) (owner : Nat) (pool : Nat) (index : Nat) (b : Buffer),
    pool ∈ [2, 3, 4, 5] ∧ poolsActive s.dev = true ∧ buffer pool index s.dev = some b ∧ b.owner = owner ∧ 1 ≤ heldBy pool owner s.dev :=
  ⟨at_ (md .m3 (waity (busy (open2 State.reset.dev)))), 2, 2, 0, { owner := 2, grantMs := 5, standing := false }, by decide +kernel⟩

theorem wit_BuffersAndCreditsMove_6 : ∃ (s : State) (owner : Nat) (key : Nat) (t : Nat),
    oldestBuffer owner s.dev = some (key, t) ∧ t + 30000 < nowMs s.dev ∧ owner ∉ s.dev.res.longHeld ∧ WriterOpen s.dev :=
  ⟨at_ (rw (busy (open2 (rst .m5)))), 2, 131072, 5, by decide +kernel, by decide +kernel, of_decide_eq_true (by decide +kernel), by unfold WriterOpen; decide +kernel⟩

theorem wit_BuffersAndCreditsMove_7 : ∃ (s : State) (link : Nat),
    link ∈ fabricLinks ∧ 1 ≤ heldBy 6 link s.dev ∧ smGet 0 s.dev.res.linkWaits link ≠ 0 ∧ grantOk 6 link 1 (ledgerReturn 6 link 1 s.dev) = true :=
  ⟨at_ (md .m3 (waity2 (busy (open2 State.reset.dev)))), 16, by decide +kernel⟩

theorem wit_BuffersAndCreditsMove_8 : ∃ (s : State) (link : Nat),
    link ∈ fabricLinks ∧ 1 ≤ heldBy 6 link s.dev ∧ smGet 0 s.dev.res.linkWaits link = 0 :=
  ⟨at_ (md .m3 (dry State.reset.dev)), 16, by decide +kernel⟩

theorem wit_PoolBackOff_1 : ∃ (s : State) (owner : Nat) (size : Nat) (pool : Nat),
    poolOf size = some pool ∧ owner ∈ poolOwners ∧ poolsActive s.dev = true ∧ (smGet {} s.dev.res.waits (owner * 8 + pool)).waitUs = 0 ∧ grantOk pool owner 1 s.dev = false :=
  ⟨at_ (md .m3 (dry State.reset.dev)), 32, 32, 2, by decide +kernel⟩

theorem wit_PoolBackOff_2 : ∃ (s : State) (owner : Nat) (size : Nat) (pool : Nat),
    poolOf size = some pool ∧ owner ∈ poolOwners ∧ poolsActive s.dev = true ∧ (smGet {} s.dev.res.waits (owner * 8 + pool)).waitUs ≠ 0 ∧ grantOk pool owner 1 s.dev = false :=
  ⟨at_ (md .m3 (waity (dry State.reset.dev))), 1, 4096, 3, by decide +kernel⟩

theorem wit_PoolBackOff_3 : ∃ (s : State) (owner : Nat) (size : Nat) (pool : Nat),
    poolOf size = some pool ∧ owner ∈ poolOwners ∧ poolsActive s.dev = true ∧ (smGet {} s.dev.res.waits (owner * 8 + pool)).waitUs = 0 ∧ grantOk pool owner 1 s.dev = true :=
  ⟨at_ (md .m3 (waity (busy (open2 State.reset.dev)))), 32, 32, 2, by decide +kernel⟩

theorem wit_PoolBackOff_4 : ∃ (s : State) (owner : Nat) (size : Nat) (pool : Nat),
    poolOf size = some pool ∧ owner ∈ poolOwners ∧ poolsActive s.dev = true ∧ (smGet {} s.dev.res.waits (owner * 8 + pool)).waitUs ≠ 0 ∧ grantOk pool owner 1 s.dev = true :=
  ⟨at_ (md .m3 (waity (busy (open2 State.reset.dev)))), 1, 4096, 3, by decide +kernel⟩

theorem wit_PoolBackOff_5 : ∃ (s : State) (owner : Nat) (size : Nat) (pool : Nat),
    poolOf size = some pool ∧ owner ∈ poolOwners ∧ poolsActive s.dev = true ∧ (smGet {} s.dev.res.waits (owner * 8 + pool)).waitUs ≠ 0 :=
  ⟨at_ (md .m3 (waity (dry State.reset.dev))), 1, 4096, 3, by decide +kernel⟩

theorem wit_BrokenReturnsLockDown_1 : ∃ (s : State) (c : Instr) (l : Nat) (o : Nat),
    s.dev.ctl.mode ∈ [Mode.m3, .m4, .m5, .m6, .m7, .m8, .m9] ∧ s.dev.ctl.flushing = false ∧ flushNeeded s.dev = false ∧ (((∃ (bank : Bank) (amount : Nat), c = .tokenReturn bank amount ∧ l = 1 ∧ o = bank.val + 1 ∧ heldBy 1 o s.dev < amount) ∨ (∃ index, c = .bufferReturn o l index ∧ l ∈ [2, 3, 4, 5] ∧ ∀ b, buffer l index s.dev = some b → b.owner ≠ o) ∨ c = .fabricCreditReturn o ∧ l = 6 ∧ o ∈ fabricLinks ∧ heldBy 6 o s.dev = 0)) :=
  ⟨at_ (md .m3 (dry State.reset.dev)), .fabricCreditReturn 0x11, 6, 0x11, by decide +kernel, by decide +kernel, of_decide_eq_true (by decide +kernel), Or.inr (Or.inr ⟨rfl, rfl, by decide, by decide +kernel⟩)⟩

theorem wit_CarriersComeAndGo_1 : ∃ (s : State) (bank : Bank),
    (carrier bank.val s.dev).present = false ∧ (s.dev.ctl.mode = .m4 ∧ s.dev.ctl.supplyHold = false ∨ s.dev.ctl.mode ∈ [Mode.m5, .m6, .m7] ∧ getObj Obj.autoPowerOnInsert s.dev = 1) :=
  ⟨at_ ((rst .m4)), 0, by decide +kernel⟩

theorem wit_CarriersComeAndGo_2 : ∃ (s : State) (bank : Bank),
    (carrier bank.val s.dev).present = false ∧ s.dev.ctl.mode ≠ .m0 ∧ ((s.dev.ctl.mode = .m4 → s.dev.ctl.supplyHold = true)) ∧ ((s.dev.ctl.mode ∈ [Mode.m5, .m6, .m7] → getObj Obj.autoPowerOnInsert s.dev ≠ 1)) :=
  ⟨at_ ((setObj Obj.autoPowerOnInsert 0 (rst .m5))), 0, by decide +kernel⟩

theorem wit_CarriersComeAndGo_3 : ∃ (s : State) (bank : Bank),
    (carrier bank.val s.dev).present = true ∧ s.dev.ctl.mode ≠ .m0 :=
  ⟨at_ (pennd (car 0x04 id (rst .m4))), 2, by decide +kernel⟩

theorem wit_PowerFaultsTakeCarriersDown_1 : ∃ (s : State) (bank : Bank) (c : Instr),
    penHigh bank.val s.dev = true ∧ ((c = .powerGoodLost bank ∧ (carrier bank.val s.dev).pgood = true ∨ c = .pgoodTimeout bank ∧ (carrier bank.val s.dev).bringUp = 1 ∧ (carrier bank.val s.dev).penMs + 20 ≤ nowMs s.dev)) :=
  ⟨at_ (strp (pennd (car 0x04 (fun c => { c with pgood := true, powerUpHeld := 3 }) (busy (rst .m4))))), 2, .powerGoodLost 2, by decide +kernel⟩

theorem wit_ButtonAndAbortWindow_1 : ∃ (s : State) (bank : Bank) (a : Nat) (b : Nat),
    (carrier bank.val s.dev).present = true ∧ s.dev.ctl.mode ≠ .m0 ∧ carrierState bank.val s.dev = a ∧ (((a, b) ∈ [(0x04, 0x05), (0x05, 0x04), (0x06, 0x04)] ∨ (a, b) = (0x08, 0x02) ∧ carrierMode s.dev = true ∨ (a, b) = (0x01, 0x02) ∧ carrierMode s.dev = true ∧ (carrier bank.val s.dev).deferred = false)) :=
  ⟨at_ (pennd (car 0x04 id (rst .m4))), 2, 4, 5, by decide +kernel⟩

theorem wit_ButtonAndAbortWindow_2 : ∃ (s : State) (bank : Bank),
    (carrier bank.val s.dev).present = true ∧ s.dev.ctl.mode ≠ .m0 ∧ carrierState bank.val s.dev ∈ [0x09, 0x0A, 0x0B] ∧ WriterOpen s.dev :=
  ⟨at_ (grantC (strp (pennd (car 0x09 (fun c => {c with powerUpHeld := 1}) (allBanks (rst .m4)))))), 2, by unfold WriterOpen; decide +kernel⟩

theorem wit_ButtonAndAbortWindow_3 : ∃ (s : State) (bank : Bank),
    carrierState bank.val s.dev = 0x05 ∧ (carrier bank.val s.dev).windowMs + 5000 ≤ nowMs s.dev ∧ s.dev.media.evac = none ∧ s.dev.ctl.mode ∈ [Mode.m5, .m6] ∧ 15 ≤ banksOpen s.dev ∧ removalRefused bank.val s.dev = false ∧ s.dev.media.stripes = [] ∧ s.dev.ctl.flushing = false ∧ higherDue s.dev = false :=
  ⟨at_ (grantC (car 0x05 (fun c => { c with windowMs := 4 }) (allBanks (rst .m5)))), 2, by decide +kernel, by decide +kernel, of_decide_eq_true (by decide +kernel), by decide +kernel, by decide +kernel, not_refused (by decide +kernel), by decide +kernel, by decide +kernel, of_decide_eq_true (by decide +kernel)⟩

theorem wit_ButtonAndAbortWindow_4 : ∃ (s : State) (bank : Bank),
    carrierState bank.val s.dev = 0x05 ∧ (carrier bank.val s.dev).windowMs + 5000 ≤ nowMs s.dev ∧ s.dev.media.evac = none ∧ s.dev.ctl.mode ∈ [Mode.m5, .m6] ∧ higherDue s.dev = false ∧ banksOpen s.dev < 15 :=
  ⟨at_ (car 0x05 (fun c => { c with windowMs := 4 }) (rst .m5)), 2, by decide +kernel⟩

theorem wit_ButtonAndAbortWindow_5 : ∃ (s : State) (e : Evacuation),
    s.dev.media.evac = some e ∧ programsHeld s.dev = false ∧ carrierState e.bank s.dev = 0x06 ∧ drained e.bank s.dev = true ∧ e.bank < 16 :=
  ⟨at_ (car 0x06 id { allBanks (rst .m4) with media := { (rst .m4).media with evac := some { bank := 2 }, expected := [1,2,3], sb := { (rst .m4).media.sb with banks := 0xFFFF } } }), { bank := 2, pausedThrottle := false, pausedShutdown := false }, by decide +kernel⟩

theorem wit_CarrierCommandsAct_1 : ∃ (s : State) (path : Nat) (bank : Bank) (c : Instr) (a : Nat) (b : Nat),
    Granted path (Obj.carrierCommand bank.val) s.dev ∧ carrierState bank.val s.dev = a ∧ ((c = .carrierRequestRemoval path bank ∧ (a, b) = (0x04, 0x05) ∨ c = .carrierCancelRemoval path bank ∧ (a, b) ∈ [(0x05, 0x04), (0x06, 0x04)] ∨ c = .carrierPowerOn path bank ∧ (a, b) = (0x01, 0x02) ∧ carrierMode s.dev = true ∧ (carrier bank.val s.dev).deferred = false ∨ c = .carrierAdopt path bank ∧ (a, b) = (0x0A, 0x03) ∨ c = .carrierRetryPowerFault path bank ∧ (a, b) = (0x08, 0x02) ∧ carrierMode s.dev = true)) :=
  ⟨at_ (grantC (strp (pennd (car 0x01 (fun c => {c with powerUpHeld := 1}) (allBanks (rst .m4)))))), 2, 2, .carrierPowerOn 2 2, 1, 2, by unfold Granted Admitted; decide +kernel⟩

theorem wit_CarriersAreBroughtUp_1 : ∃ (s : State) (bank : Bank) (id : Nat),
    carrierState bank.val s.dev = 0x02 ∧ (carrier bank.val s.dev).awaitTokens = some id ∧ ((∀ r, r ∈ s.dev.res.waiting → r.id ≠ id)) ∧ s.dev.ctl.supplyHold = false ∧ smGet none s.dev.domains.entering (0x10 + bank.val) = none :=
  ⟨at_ (car 0x02 (fun c => { c with awaitTokens := some 77, powerUp := 20 }) (busy (rst .m4))), 2, 77, by decide +kernel⟩

theorem wit_CarriersAreBroughtUp_2 : ∃ (s : State) (bank : Bank) (c : Instr) (k : Nat),
    carrierState bank.val s.dev = 0x02 ∧ (carrier bank.val s.dev).bringUp = k ∧ (c, k) ∈ [(.pgoodRise bank, 1), (.diePowerOnElapsed bank, 2)] :=
  ⟨at_ (pennd (car 0x02 (fun c => { c with bringUp := 1, penMs := 3 }) (busy (rst .m4)))), 2, .pgoodRise 2, 1, by decide +kernel⟩

theorem wit_CarriersAreBroughtUp_3 : ∃ (s : State) (bank : Bank) (present : List Nat) (r : LunReport) (e : Nat),
    carrierState bank.val s.dev = 0x02 ∧ (carrier bank.val s.dev).bringUp = 3 ∧ ((∀ c, c < 8 → present[c]? = some 0xFF)) ∧ matchLun r s.dev = some e :=
  ⟨at_ (car 0x02 (fun c => { c with bringUp := 3 }) (rst .m4)), 2, [255, 255, 255, 255, 255, 255, 255, 255], { die := 0, id := [17], revision := 1296, crcGood := true, geometry := true }, 0, by decide +kernel⟩

theorem wit_CarriersAreBroughtUp_4 : ∃ (s : State) (channel : Channel),
    carrierState (channel.val / 8) s.dev = 0x02 ∧ (carrier (channel.val / 8) s.dev).bringUp = 5 ∧ getObj (Obj.channelState channel.val) s.dev = 0x01 ∧ ((∃ c, c < 8 ∧ channel.val / 8 * 8 + c ≠ channel.val ∧ getObj (Obj.channelState (channel.val / 8 * 8 + c)) s.dev = 0x01)) ∧ chargeFits (channel.val / 8) 5 s.dev = true :=
  ⟨at_ ((List.range 8).foldl (fun d c => setObj (Obj.channelState (16 + c)) 1 d) (setObj (Obj.channelRateCode 17) 9 (car 0x02 (fun c => { c with bringUp := 5 }) (rst .m4)))), 17, by decide +kernel⟩

theorem wit_CarriersAreBroughtUp_5 : ∃ (s : State) (channel : Channel),
    carrierState (channel.val / 8) s.dev = 0x02 ∧ (carrier (channel.val / 8) s.dev).bringUp = 5 ∧ getObj (Obj.channelState channel.val) s.dev = 0x01 ∧ ((∀ c, c < 8 → channel.val / 8 * 8 + c ≠ channel.val → getObj (Obj.channelState (channel.val / 8 * 8 + c)) s.dev ≠ 0x01)) ∧ chargeFits (channel.val / 8) 5 s.dev = true :=
  ⟨at_ (setObj (Obj.channelState 17) 1 (car 0x02 (fun c => { c with bringUp := 5 }) (rst .m4))), 17, by decide +kernel⟩

theorem wit_CarriersAreBroughtUp_6 : ∃ (s : State) (bank : Bank),
    carrierState bank.val s.dev = 0x03 :=
  ⟨at_ (grantC (strp (pennd (car 0x03 (fun c => {c with powerUpHeld := 1}) (allBanks (rst .m4)))))), 2, by decide +kernel⟩

theorem wit_DieStatusIsFollowed_1 : ∃ (s : State) (n : Die) (slot : Fin 2) (op : Nat),
    getObj (Obj.channelState (channelOfDie n.val)) s.dev = 0x02 ∧ opOutstanding n.val slot.val op s.dev = true ∧ (die n.val s.dev).op.suspended = false :=
  ⟨at_ (grp id base5), 259, 0, 2, by decide +kernel⟩

theorem wit_DieStatusIsFollowed_2 : ∃ (s : State) (n : Die) (op : Nat) (us : Nat),
    10 * us < 11 * opMax n.val op s.dev :=
  ⟨at_ (base5), 259, 0, 0, by decide +kernel⟩

theorem wit_DieStatusIsFollowed_3 : ∃ (s : State) (n : Die) (slot : Fin 2) (c : Instr) (op : Nat) (us : Nat),
    ((c = .statusPoll n slot op us true ∧ 11 * opMax n.val op s.dev ≤ 10 * us ∧ (die n.val s.dev).op.suspended = false ∨ c = .suspendTimeout n slot op ∧ (die n.val s.dev).op.suspended = true)) ∧ getObj (Obj.channelState (channelOfDie n.val)) s.dev = 0x02 ∧ opOutstanding n.val slot.val op s.dev = true ∧ ((op = 4 ∧ (group n.val slot.val s.dev).erasing = true ∨ op ∈ [2, 3] ∧ (nextPass (group n.val slot.val s.dev)).isSome = true)) ∧ (die n.val s.dev).timeouts = 0 ∧ ChargeHeld n.val s.dev ∧ s.dev.media.flight = [] :=
  ⟨at_ (both (fun g => { g with erasedMs := some 5, encoded := 3 }) base5), 515, 0, .statusPoll 515 0 3 400000 true, 3, 400000, by unfold ChargeHeld; decide +kernel⟩

theorem wit_DieStatusIsFollowed_4 : ∃ (s : State) (n : Die) (op : Nat),
    opRuns n.val s.dev = true ∧ (die n.val s.dev).op.kind = op ∧ dieInService n.val s.dev = true ∧ (die n.val s.dev).op.suspended = false :=
  ⟨at_ (grp id base5), 259, 2, by decide +kernel⟩

theorem wit_DieStatusIsFollowed_5 : ∃ (s : State) (channel : Channel),
    getObj (Obj.channelState channel.val) s.dev = 0x02 ∧ (smGet {} s.dev.media.channels channel.val).zqMs + 1000 ≤ nowMs s.dev ∧ chargeFits (channel.val / 8) 5 s.dev = true :=
  ⟨at_ (base5), 0, by decide +kernel⟩

theorem wit_DieStatusIsFollowed_6 : ∃ (s : State) (channel : Channel),
    getObj (Obj.channelState channel.val) s.dev = 0x02 ∧ (smGet {} s.dev.media.channels channel.val).zqMs + 1000 ≤ nowMs s.dev ∧ chargeFits (channel.val / 8) 5 s.dev = false :=
  ⟨at_ (busy base5), 16, by decide +kernel⟩

theorem wit_PlaneGroupsAreErasedAndProgrammed_1 : ∃ (s : State) (n : Die) (slot : Fin 2),
    (group n.val slot.val s.dev).used = true ∧ (group n.val slot.val s.dev).blocks = [] ∧ ((∀ p, p < 4 → ∃ b, bestFree n.val p s.dev = some b ∧ (memberRole n.val (group n.val slot.val s.dev).stripe s.dev = 0 → (chooseStep (capacityEstimate b s.dev) s.dev).isSome = true))) :=
  ⟨at_ (grp id base5), 259, 1, by decide +kernel⟩

theorem wit_PlaneGroupsAreErasedAndProgrammed_2 : ∃ (s : State) (n : Die) (slot : Fin 2),
    eraseRuns n.val slot.val s.dev = true ∧ ChargeHeld n.val s.dev :=
  ⟨at_ (opd 4 0 id (both (fun g => { g with erasing := true }) base5)), 515, 0, by unfold ChargeHeld; decide +kernel⟩

theorem wit_PlaneGroupsAreErasedAndProgrammed_3 : ∃ (s : State) (n : Die) (slot : Fin 2) (p : Nat) (b : _),
    eraseRuns n.val slot.val s.dev = true ∧ ChargeHeld n.val s.dev ∧ p < 4 ∧ (group n.val slot.val s.dev).blocks[p]? = some b ∧ ((∀ q, q ≠ p → (group n.val slot.val s.dev).blocks[q]? ≠ some b)) :=
  ⟨at_ (opd 4 0 id (both (fun g => { g with erasing := true }) base5)), 515, 0, 0, 8437768, by decide +kernel, by unfold ChargeHeld; decide +kernel, by decide +kernel, by decide +kernel, only_at (by decide +kernel) (by decide +kernel)⟩

theorem wit_PlaneGroupsAreErasedAndProgrammed_4 : ∃ (s : State) (n : Die) (slot : Fin 2) (t : Nat),
    (group n.val slot.val s.dev).erasedMs = some t ∧ (group n.val slot.val s.dev).coarse = 0 ∧ t + 60000 < nowMs s.dev ∧ (group n.val slot.val s.dev).blocks.Nodup :=
  ⟨at_ (both (fun g => { g with erasedMs := some 5, encoded := 3 }) base5), 259, 1, 5, by decide +kernel⟩

theorem wit_PlaneGroupsAreErasedAndProgrammed_5 : ∃ (s : State) (n : Die) (slot : Fin 2) (fine : Bool) (w : Nat),
    nextPass (group n.val slot.val s.dev) = some (fine, w) ∧ (group n.val slot.val s.dev).rowBase + w < 511 ∧ passRuns n.val slot.val s.dev = true ∧ ChargeHeld n.val s.dev ∧ BuffersHeld (group n.val slot.val s.dev).stripe s.dev ∧ s.dev.media.flight = [] :=
  ⟨at_ (both (fun g => { g with erasedMs := some 5, encoded := 3 }) base5), 515, 0, false, 0, by unfold ChargeHeld BuffersHeld Holds; decide +kernel⟩

theorem wit_ArrayReadsClimbTheLadder_1 : ∃ (s : State) (id : Nat) (grain : Nat) (a : ArrayRead) (g : ReadGrain),
    readGrain id grain s.dev = some g ∧ g.stage = .codewords ∧ blockUnreadable (blockOf g.pointer) s.dev = false ∧ carrierStaging (bankOfDie (dieOfBlock (blockOf g.pointer))) s.dev = false ∧ readRuns g.pointer (smGet {} s.dev.media.stored g.pointer).frames s.dev = true ∧ hostReadAhead (dieOfBlock (blockOf g.pointer)) g.arrival s.dev = false ∧ a.timedOut = false ∧ ((∀ i, i < (grainCodewords (block (blockOf g.pointer) s.dev).step (frameOf g.pointer) (smGet {} s.dev.media.stored g.pointer).frames).length → ∃ r, (a.codewords[i]?).map (·.1.first) = some r ∧ (((decodeHard (block (blockOf g.pointer) s.dev).step r).word r).isSome = true))) :=
  ⟨at_ (rdx id (grp id base5)), 3, 4, { codewords := List.replicate 9 ({}, []) }, { grain := 4, stage := ReadStage.codewords, pointer := 805453829 }, by decide +kernel⟩

theorem wit_ArrayReadsClimbTheLadder_2 : ∃ (s : State) (id : Nat) (grain : Nat) (a : ArrayRead) (g : ReadGrain),
    readGrain id grain s.dev = some g ∧ g.stage = .codewords ∧ blockUnreadable (blockOf g.pointer) s.dev = true ∧ carrierStaging (bankOfDie (dieOfBlock (blockOf g.pointer))) s.dev = false ∧ bitOf (getObj (Obj.carrierThermalState (bankOfDie (dieOfBlock (blockOf g.pointer)))) s.dev) 1 = false ∧ ((∀ c ∈ a.codewords, c.2 = [])) ∧ ((∃ k, k ≠ grain ∧ ∃ h, readGrain id k s.dev = some h ∧ h.stage ≠ .ended)) :=
  ⟨at_ (rdx id { grp id base5 with media := { (grp id base5).media with dies := [(3, { failed := true })] } }), 3, 4, { codewords := List.replicate 9 ({}, []) }, { grain := 4, stage := ReadStage.codewords, pointer := 805453829 }, by decide +kernel, by decide +kernel, of_decide_eq_true (by decide +kernel), by decide +kernel, by decide +kernel, of_decide_eq_true (by decide +kernel), ⟨5, by decide, ⟨{ grain := 5, stage := .lookup }, by decide +kernel, by decide⟩⟩⟩

theorem wit_FreshReadsAndReports_1 : ∃ (s : State) (b : Nat) (w : Nat),
    freshReadable b w s.dev = true ∧ dieFree (dieOfBlock b) s.dev = true ∧ chargeFits (bankOfDie (dieOfBlock b)) (opTokens (profileOf (dieOfBlock b) s.dev) 1) s.dev = true ∧ (die (dieOfBlock b) s.dev).freshFails.length + 1 < getObj Obj.dieFreshFailLimit s.dev :=
  ⟨at_ (freshG 0 base6), 49161, 64, by decide +kernel⟩

theorem wit_FreshReadsAndReports_2 : ∃ (s : State) (b : Nat) (w : Nat),
    freshReadable b w s.dev = true ∧ dieFree (dieOfBlock b) s.dev = true ∧ chargeFits (bankOfDie (dieOfBlock b)) (opTokens (profileOf (dieOfBlock b) s.dev) 1) s.dev = false :=
  ⟨at_ (updLedger 1 (fun g => { g with free := 0, held := [(30, g.total)] }) (freshG 0 base6)), 49161, 64, by decide +kernel⟩

theorem wit_FreshReadsAndReports_3 : ∃ (s : State) (n : Nat) (x : DieState),
    (n, x) ∈ s.dev.media.dies ∧ ((∀ y, (n, y) ∈ s.dev.media.dies → y = x)) ∧ ((∀ e ∈ s.dev.media.dies, e.1 < 4096)) ∧ x.slopeHours + 16 ≤ hours s.dev :=
  ⟨at_ ({ base6 with media := { base6.media with dies := [(3, {})] } }), 3, {}, by decide +kernel, fun _ h => (Prod.mk.inj (List.mem_singleton.mp h)).2, by decide +kernel, by decide +kernel⟩

theorem wit_FreshReadsAndReports_4 : ∃ (s : State) (path : Nat) (value : Nat),
    Admitted path s.dev ∧ value < 2 ^ 26 :=
  ⟨at_ (base6), 1, 0, by unfold Admitted; decide +kernel⟩

theorem wit_MapUpdatesTakeEffect_1 : ∃ (s : State) (id : Nat) (g : FlightGrain) (p : Placement),
    flightGrain id s.dev = some g ∧ g.placed = some p ∧ g.zero = false ∧ g.seq = none ∧ unmapWaits g s.dev = false ∧ updateReady g.stored.slot g.stored.grain s.dev = true ∧ ((lastRowOf p s.dev < (stripe p.stripe s.dev).done ∨ (stripe p.stripe s.dev).isOpen = false)) ∧ g.cmd ≠ 0 :=
  ⟨at_ (fly id (resid base6)), 3, fg id, { stripe := 8, block := 3*16384+9, frame := 5, frames := 3 }, by decide +kernel, by decide +kernel, of_decide_eq_true (by decide +kernel), by decide +kernel, by decide +kernel, of_decide_eq_true (by decide +kernel), by decide +kernel, by decide +kernel⟩

theorem wit_MapUpdatesTakeEffect_2 : ∃ (s : State) (id : Nat) (g : FlightGrain) (p : Placement) (o : _),
    flightGrain id s.dev = some g ∧ g.placed = some p ∧ g.seq = none ∧ updateReady g.stored.slot g.stored.grain s.dev = true ∧ ((lastRowOf p s.dev < (stripe p.stripe s.dev).done ∨ (stripe p.stripe s.dev).isOpen = false)) ∧ g.cmd = 0 ∧ g.old = some o :=
  ⟨at_ (fly (fun g => { g with cmd := 0, old := some 5 }) (resid base6)), 3, fg (fun g => { g with cmd := 0, old := some 5 }), { stripe := 8, block := 3*16384+9, frame := 5, frames := 3 }, 5, by decide +kernel, by decide +kernel, of_decide_eq_true (by decide +kernel), by decide +kernel, by decide +kernel, of_decide_eq_true (by decide +kernel), by decide +kernel⟩

theorem wit_MapUpdatesTakeEffect_3 : ∃ (s : State) (slot : Nat) (first : Nat) (count : Nat),
    1 ≤ count ∧ rangeReady slot first count s.dev = true :=
  ⟨at_ (jr base6), 1, 0, 1, by decide +kernel⟩

theorem wit_MapUpdatesTakeEffect_4 : ∃ (s : State) (slot : Nat) (grain : Nat) (pointer : Nat),
    updateReady slot grain s.dev = true ∧ pointer ≠ 0 :=
  ⟨at_ (jr base6), 1, 0, 1, by decide +kernel⟩

theorem wit_MapUpdatesTakeEffect_5 : ∃ (s : State),
    journalFull s.dev = false :=
  ⟨at_ (base6), by decide +kernel⟩

theorem wit_MapUpdatesTakeEffect_6 : ∃ (s : State) (slot : Nat) (first : Nat) (count : Nat),
    1 ≤ count ∧ rangeReady slot first count s.dev = false :=
  ⟨at_ (base6), 0, 0, 1, by decide +kernel⟩

theorem wit_MapUpdatesTakeEffect_7 : ∃ (s : State) (slot : Nat) (grain : Nat),
    updateReady slot grain s.dev = false :=
  ⟨at_ (base6), 0, 0, by decide +kernel⟩

theorem wit_MapUpdatesTakeEffect_8 : ∃ (s : State),
    journalFull s.dev = true :=
  ⟨at_ ({ base6 with settings := { base6.settings with journalLimit := 0 } }), by decide +kernel⟩

theorem wit_MapPagesAndCache_1 : ∃ (s : State) (slot : Nat) (grain : Nat),
    lookupReady slot grain s.dev = true ∧ s.dev.media.wp.reads = [] ∧ takeDamage 6 (pageKey slot (pageOf grain)) s.dev = (none, s.dev) :=
  ⟨at_ (jr base6), 1, 0, by decide +kernel⟩

theorem wit_MapPagesAndCache_2 : ∃ (s : State) (slot : Nat) (grain : Nat),
    (mapPage slot (pageOf grain) s.dev).resident = false ∧ s.dev.media.wp.reads = [] ∧ takeDamage 6 (pageKey slot (pageOf grain)) s.dev = (none, s.dev) :=
  ⟨at_ (base6), 0, 0, by decide +kernel⟩

theorem wit_MapPagesAndCache_3 : ∃ (s : State) (path : Nat),
    Granted path Obj.mapCacheControl s.dev ∧ getObj Obj.mapCacheState s.dev ∈ [0x01, 0x02] :=
  ⟨at_ (base6), 2, by unfold Granted Admitted; decide +kernel⟩

theorem wit_MapPagesAndCache_4 : ∃ (s : State) (path : Nat),
    Granted path Obj.mapCacheControl s.dev ∧ getObj Obj.mapCacheState s.dev ∈ [0x00, 0x01, 0x02] :=
  ⟨at_ (base6), 2, by unfold Granted Admitted; decide +kernel⟩

theorem wit_MapPagesAndCache_5 : ∃ (s : State) (path : Nat),
    Granted path Obj.mapCacheControl s.dev ∧ getObj Obj.mapCacheState s.dev ∈ [0x00, 0x01, 0x02] :=
  ⟨at_ (base6), 2, by unfold Granted Admitted; decide +kernel⟩

theorem wit_MapPagesAndCache_6 : ∃ (s : State) (slot : Nat) (page : Nat),
    loadable slot page s.dev = true ∧ loadTurn slot page s.dev = true ∧ loadBuffer s.dev = true ∧ ((smGet 0 s.dev.media.map.asked (pageKey slot page) = 2 → imageDieBusy slot page s.dev = false)) ∧ s.dev.media.map.waits = [] :=
  ⟨at_ (base6), 1, 0, by decide +kernel⟩

theorem wit_MapPagesAndCache_7 : ∃ (s : State) (slot : Nat) (page : Nat),
    nextBackground s.dev = some (slot, page) ∧ (mapPage slot page s.dev).image = 0 ∧ (mapPage slot page s.dev).lost = false ∧ s.dev.ctl.dirResident = true ∧ s.dev.media.map.waits = [] :=
  ⟨at_ (base6), 1, 0, by decide +kernel⟩

theorem wit_MapPagesAndCache_8 : ∃ (s : State) (slot : Nat) (page : Nat),
    nextBackground s.dev = some (slot, page) ∧ (mapPage slot page s.dev).image ≠ 0 ∧ (mapPage slot page s.dev).lost = false ∧ s.dev.ctl.dirResident = true ∧ imageDieBusy slot page s.dev = false ∧ loadBuffer s.dev = true ∧ s.dev.media.map.waits = [] :=
  ⟨at_ (mp (fun m => { m with pages := [(pageKey 1 1, { image := 5 }), (pageKey 1 0, { resident := true, replay := [.entrySet 1 4 9] })] }) base6), 1, 1, by decide +kernel⟩

theorem wit_MapPagesAndCache_9 : ∃ (s : State),
    nextBackground s.dev = none ∧ s.dev.ctl.dirResident = true :=
  ⟨at_ (jr base6), by decide +kernel⟩

theorem wit_MapPagesAndCache_10 : ∃ (s : State) (slot : Nat) (line : Nat),
    (mapPage slot (line / 64) s.dev).resident = true ∧ WriterOpen s.dev ∧ s.dev.media.map.waits = [] :=
  ⟨at_ (jr base6), 1, 0, by unfold WriterOpen; decide +kernel⟩

theorem wit_JournalAndCheckpoints_1 : ∃ (s : State) (c : Instr) (copy1 : Bool) (copy2 : Bool),
    s.dev.media.map.openFrame ≠ [] ∧ programsHeld s.dev = false ∧ ((c = .journalFrameSeal copy1 copy2 ∧ (252 ≤ s.dev.media.map.openFrame.length ∨ sealWaited s.dev = true) ∨ c = .journalSealTimeout copy1 copy2 ∧ s.dev.media.map.openMs + 10 ≤ nowMs s.dev)) :=
  ⟨at_ (jr base6), .journalSealTimeout true true, true, true, by decide +kernel⟩

theorem wit_JournalAndCheckpoints_2 : ∃ (s : State) (c : Instr),
    s.dev.media.map.checkpoint = none ∧ mapRuns s.dev = true ∧ ((c = .checkpointStart ∧ checkpointDue s.dev = true ∨ c = .checkpointInterval ∧ s.dev.media.map.recordsSince = true ∧ s.dev.media.map.record.hours + 16 * getObj Obj.checkpointIntervalHours s.dev ≤ hours s.dev)) :=
  ⟨at_ (mp (fun m => { m with checkpointDue := true, recordsSince := true }) (jr base6)), .checkpointStart, by decide +kernel⟩

theorem wit_JournalAndCheckpoints_3 : ∃ (s : State) (n : Nat),
    s.dev.media.map.checkpoint = some n ∧ mapRuns s.dev = true ∧ captureReady n s.dev = true ∧ programsHeld s.dev = false ∧ s.dev.media.map.waits = [] ∧ s.dev.media.map.checkpointDue = false :=
  ⟨at_ (sysS (mp (fun m => { m with checkpoint := some 3 }) (jr base6))), 3, by decide +kernel⟩

theorem wit_JournalAndCheckpoints_4 : ∃ (s : State),
    s.dev.media.sbDue = true ∧ programsHeld s.dev = false :=
  ⟨at_ ({ base6 with media := { base6.media with sbDue := true, sb := { generation := 255 } } }), by decide +kernel⟩

theorem wit_JournalAndCheckpoints_5 : ∃ (s : State) (k : Nat),
    s.dev.media.sbDue = true ∧ programsHeld s.dev = false ∧ k < 32 ∧ sideFull s.dev = false ∧ k % 2 = s.dev.media.sb.side ∧ k / 2 ∈ carrying (k % 2) s.dev ∧ WriterOpen s.dev :=
  ⟨at_ ({ base6 with media := { base6.media with sbDue := true, sb := { generation := 255 } } }), 0, by unfold WriterOpen; decide +kernel⟩

theorem wit_JournalAndCheckpoints_6 : ∃ (s : State),
    s.dev.media.sbDue = true ∧ programsHeld s.dev = true :=
  ⟨at_ (setObj (Obj.carrierThermalState 2) 3 { base6 with media := { base6.media with sbDue := true, sb := { generation := 255 } } }), by decide +kernel⟩

theorem wit_DataLandsAndIsCompressed_1 : ∃ (s : State) (id : Nat) (w : WriteCmd) (r : Landing),
    writeCmd id s.dev = some w ∧ w.kind = 0 ∧ w.landed = false ∧ w.unmaps = [] ∧ mustWait w s.dev = false ∧ channelTurn w.channel w.id s.dev = true ∧ portSends w.port s.dev = true ∧ landingFault w r s.dev = none ∧ partialGrains (namespace_ w.slot s.dev).nsze w.slba w.nlb = [] ∧ WriteHolds w s.dev ∧ ((landingNeed w ≠ 0 → CanTake (0x10 + w.channel) 4 (landingNeed w) s.dev)) ∧ ((∀ x ∈ s.dev.media.wp.reads, x.channel ≠ w.channel)) :=
  ⟨at_ (wc id base7), 3, { id := 3, port := 1, sqid := 1, cid := 7, slot := 1, slba := 32, nlb := 32, kind := 0, fua := false, buffered := false, channel := 2, context := none, landing := [], landed := false, dropped := false, completed := false, unmaps := [] }, {}, by decide +kernel, by decide +kernel, of_decide_eq_true (by decide +kernel), by decide +kernel, by decide +kernel, of_decide_eq_true (by decide +kernel), by decide +kernel, by decide +kernel, of_decide_eq_true (by decide +kernel), by unfold WriteHolds Holds; decide +kernel, by unfold CanTake; decide +kernel, by decide +kernel⟩

theorem wit_DataLandsAndIsCompressed_2 : ∃ (s : State) (id : Nat) (w : WriteCmd) (r : Landing) (f : _),
    writeCmd id s.dev = some w ∧ w.kind = 0 ∧ w.landed = false ∧ mustWait w s.dev = false ∧ channelTurn w.channel w.id s.dev = true ∧ portSends w.port s.dev = true ∧ RoomFor w.host s.dev ∧ w.port < 4 ∧ partialGrains (namespace_ w.slot s.dev).nsze w.slba w.nlb = [] ∧ WriteHolds w s.dev ∧ ((landingNeed w ≠ 0 → CanTake (0x10 + w.channel) 4 (landingNeed w) s.dev)) ∧ ((∀ x ∈ s.dev.media.wp.reads, x.channel ≠ w.channel)) ∧ s.dev.media.wp.writes.filter (·.id == id) = [w] ∧ landingFault w r s.dev = some f :=
  ⟨at_ (wc id base7), 3, { id := 3, port := 1, sqid := 1, cid := 7, slot := 1, slba := 32, nlb := 32, kind := 0, fua := false, buffered := false, channel := 2, context := none, landing := [], landed := false, dropped := false, completed := false, unmaps := [] }, { data := [], pointers := {}, fault := some (0, 4), unreadable := [] }, (0, 4), by unfold RoomFor WriteHolds CanTake Holds; decide +kernel⟩

theorem wit_DataLandsAndIsCompressed_3 : ∃ (s : State) (id : Nat) (engine : Fin 8) (g : FlightGrain) (x : _),
    flightGrain id s.dev = some g ∧ needsEngine g = true ∧ FlightsHold s.dev ∧ endJobAt engine.val id 0 s.dev = some x ∧ ((x.1.raw = false → CanTake (0x20 + engine.val) 4 1 s.dev)) :=
  by
    refine ⟨at_ (fl [{ id := 3, cmd := 1, stored := { slot := 1, grain := 2 } }] (eng 1 false base7)), 3, 1, { id := 3, cmd := 1, stored := { slot := 1, grain := 2 } }, _, by decide +kernel, by decide +kernel, by unfold FlightsHold; decide +kernel, some_get ?_, fun _ => by unfold CanTake; decide +kernel⟩
    decide +kernel

theorem wit_RowsAndStripesOpenAndClose_1 : ∃ (s : State) (n : Nat),
    (stripe n s.dev).isOpen = true ∧ (stripe n s.dev).members ≠ [] ∧ (stripe n s.dev).gathered < 512 ∧ ((∀ x ∈ liveDies n s.dev, (group x (groupSlot (stripe n s.dev).kind) s.dev).stripe = n)) ∧ rowFull n (stripe n s.dev).gathered s.dev = true ∧ s.dev.media.flight = [] :=
  ⟨at_ (rowsD (fun t => { t with held := [(2, 3), (3, 99)] }) true base7), 7, by decide +kernel⟩

theorem wit_RowsAndStripesOpenAndClose_2 : ∃ (s : State) (n : Nat),
    (stripe n s.dev).isOpen = true ∧ (stripe n s.dev).members ≠ [] ∧ timedOutRows n s.dev ≠ [] ∧ ((∀ x ∈ liveDies n s.dev, (group x (groupSlot (stripe n s.dev).kind) s.dev).stripe = n)) ∧ ((∀ r ∈ timedOutRows n s.dev, r < 512)) ∧ s.dev.media.flight = [] :=
  ⟨at_ (rowsD (fun t => { t with held := [(2, 3), (3, 99)] }) true base7), 7, by decide +kernel⟩

theorem wit_RowsAndStripesOpenAndClose_3 : ∃ (s : State) (k : Fin 3) (par : Nat),
    [1, 2].find? (fun p => openCount (k.val + 1) p s.dev < openTarget (k.val + 1) p s.dev) = some par ∧ 15 ≤ ((List.range 16).filter (bankOpen · s.dev)).length ∧ ((∀ b, b < 16 → bankOpen b s.dev = true → (pickDie (k.val + 1) b s.dev).isSome = true)) ∧ CanTake 0x41 5 (((List.range 16).filter (bankOpen · s.dev)).length - par) s.dev :=
  ⟨at_ ({ base7 with objs := (List.range 16).map (fun b => (Obj.channelTargetsPresent (8 * b), 255)) ++ (List.range 16).map fun b => (Obj.carrierState b, 4), sub := { base7.sub with namespaces := [(1, { active := true, nsze := 16*768*2, attached := 3, parity := 2 })] } }), 0, 2, by decide +kernel, by decide +kernel, fun b h _ => pickDie_isSome (i := 3) (by decide) (by revert b; decide +kernel), by unfold CanTake; decide +kernel⟩

theorem wit_WritesAndReadsComplete_1 : ∃ (s : State) (id : Nat) (w : WriteCmd),
    writeCmd id s.dev = some w ∧ w.landed = true ∧ w.completed = false ∧ w.unmaps = [] ∧ w.landing = [] ∧ ((∀ g ∈ s.dev.media.flight, g.cmd = id → g.zero = false)) ∧ (w.buffered = true ∨ durable w s.dev = true) ∧ w.dropped = false ∧ w.port < 4 ∧ ((∀ x ∈ s.dev.media.wp.writes, x.id ≠ id → x.completed = false)) ∧ s.dev.media.wp.writes.filter (·.id == id) = [w] ∧ RoomFor w.host s.dev ∧ s.dev.media.wp.flushes = [] ∧ WriteHolds w s.dev ∧ FlightsHold s.dev :=
  ⟨at_ (wc (fun w => { w with landed := true, buffered := true }) base7), 3, { id := 3, port := 1, sqid := 1, cid := 7, slot := 1, slba := 32, nlb := 32, kind := 0, fua := false, buffered := true, channel := 2, context := none, landing := [], landed := true, dropped := false, completed := false, unmaps := [] }, by unfold RoomFor WriteHolds FlightsHold Holds; decide +kernel⟩

theorem wit_WritesAndReadsComplete_2 : ∃ (s : State) (id : Nat) (grain : Nat) (engine : Fin 16) (x : Inflated) (r : ReadCmd) (g : ReadGrain) (v : _),
    readCmd id s.dev = some r ∧ readGrain id grain s.dev = some g ∧ g.stage = .inflate ∧ (endJobAt (engine.val + 8) id grain s.dev).isSome = true ∧ x.fault = none ∧ ((r.verify = false → CanTake (0x10 + r.channel) 4 1 s.dev)) ∧ ((∀ y ∈ s.dev.media.wp.reads, y.channel = r.channel → y.id = id)) ∧ ((∃ k, k ≠ grain ∧ ∃ h, readGrain id k s.dev = some h ∧ h.stage ≠ .ended)) ∧ engineRun r grain g.pointer x.bytes x.slip s.dev = .ok v :=
  let ⟨v, h⟩ := ok_ex (x := engineRun { id := 3, port := 1, sqid := 1, cid := 7, slot := 1, slba := 70, nlb := 5, verify := true, channel := 2, grains := [{ grain := 4, stage := .inflate, pointer := 777 }, { grain := 5 }] } 4 777 none 0 (rc (fun r => { r with verify := true, grains := r.grains ++ [{ grain := 5 }] }) base7)) (by decide +kernel)
  ⟨at_ (rc (fun r => { r with verify := true, grains := r.grains ++ [{ grain := 5 }] }) base7), 3, 4, 0, {}, { id := 3, port := 1, sqid := 1, cid := 7, slot := 1, slba := 70, nlb := 5, verify := true, channel := 2, grains := [{ grain := 4, stage := .inflate, pointer := 777 }, { grain := 5 }] }, { grain := 4, stage := .inflate, pointer := 777 }, v, by decide +kernel, by decide +kernel, of_decide_eq_true (by decide +kernel), by decide +kernel, by decide +kernel, by unfold CanTake; decide +kernel, by decide +kernel, ⟨5, by decide, ⟨{ grain := 5 }, by decide +kernel, by decide⟩⟩, h⟩

theorem wit_WritesAndReadsComplete_3 : ∃ (s : State) (id : Nat) (grain : Nat) (engine : Fin 16) (x : Inflated) (r : ReadCmd) (g : ReadGrain) (v : _),
    readCmd id s.dev = some r ∧ r.grains = [g] ∧ g.grain = grain ∧ g.stage = .inflate ∧ (endJobAt (engine.val + 8) id grain s.dev).isSome = true ∧ x.fault = none ∧ r.verify = false ∧ r.port < 4 ∧ g.failed = none ∧ g.buffer = none ∧ s.dev.ctl.mode ≠ .m10 ∧ s.dev.ctl.mode ≠ .m11 ∧ RoomFor r.host s.dev ∧ CanTake (0x10 + r.channel) 4 1 s.dev ∧ channelTurn r.channel id s.dev = true ∧ ReadHolds r s.dev ∧ s.dev.media.wp.reads.filter (fun y => y.id == id || y.channel == r.channel) = [r] ∧ engineRun r grain g.pointer x.bytes x.slip s.dev = .ok v :=
  let ⟨v, h⟩ := ok_ex (x := engineRun { id := 3, port := 1, sqid := 1, cid := 7, slot := 1, slba := 70, nlb := 5, channel := 2, grains := [{ grain := 4, stage := .inflate, pointer := 777 }] } 4 777 none 0 (rc id base7)) (by decide +kernel)
  ⟨at_ (rc id base7), 3, 4, 0, {}, { id := 3, port := 1, sqid := 1, cid := 7, slot := 1, slba := 70, nlb := 5, channel := 2, grains := [{ grain := 4, stage := .inflate, pointer := 777 }] }, { grain := 4, stage := .inflate, pointer := 777 }, v, by decide +kernel, by decide +kernel, of_decide_eq_true (by decide +kernel), by decide +kernel, by decide +kernel, of_decide_eq_true (by decide +kernel), by decide +kernel, by decide +kernel, of_decide_eq_true (by decide +kernel), by decide +kernel, by decide +kernel, of_decide_eq_true (by decide +kernel), by unfold RoomFor; decide +kernel, by unfold CanTake; decide +kernel, by decide +kernel, by unfold ReadHolds Holds; decide +kernel, by decide +kernel, h⟩

theorem wit_WritesAndReadsComplete_4 : ∃ (s : State) (id : Nat) (r : ReadCmd),
    readCmd id s.dev = some r ∧ r.verify = false ∧ (namespace_ r.slot s.dev).tler ≠ 0 ∧ r.tlerMs = none ∧ r.fetchMs + 100 * (namespace_ r.slot s.dev).tler < nowMs s.dev :=
  ⟨at_ (rc id base7), 3, { id := 3, port := 1, sqid := 1, cid := 7, slot := 1, slba := 70, nlb := 5, verify := false, fua := false, limited := false, channel := 2, context := none, fetchMs := 0, tlerMs := none, grains := [{ grain := 4, stage := ReadStage.inflate, pointer := 777 }] }, by decide +kernel⟩

theorem wit_WritesAndReadsComplete_5 : ∃ (s : State) (id : Nat) (t : Nat) (r : ReadCmd),
    readCmd id s.dev = some r ∧ r.verify = false ∧ (namespace_ r.slot s.dev).tler ≠ 0 ∧ r.tlerMs = some t ∧ t + 100 * (namespace_ r.slot s.dev).tler ≤ nowMs s.dev ∧ RoomFor r.host s.dev ∧ r.port < 4 ∧ ReadHolds r s.dev ∧ s.dev.media.wp.reads.filter (fun y => y.id == id || y.channel == r.channel) = [r] :=
  ⟨at_ (rc (fun r => { r with context := some 0, tlerMs := some 7 }) (takeB 2 2 base7)), 3, 7, { id := 3, port := 1, sqid := 1, cid := 7, slot := 1, slba := 70, nlb := 5, verify := false, fua := false, limited := false, channel := 2, context := some 0, fetchMs := 0, tlerMs := some 7, grains := [{ grain := 4, stage := ReadStage.inflate, pointer := 777 }] }, by unfold RoomFor ReadHolds Holds; decide +kernel⟩

theorem wit_VictimsAreSelectedAndRelocated_1 : ∃ (s : State) (n : Nat),
    bolterMode s.dev = true ∧ s.dev.media.rc.victim = none ∧ s.dev.media.rc.released = [] ∧ nextVictim s.dev = some n :=
  ⟨at_ (rcs (fun r => { r with q2 := [7, 8], q3 := [7] }) base8), 7, by decide +kernel⟩

theorem wit_VictimsAreSelectedAndRelocated_2 : ∃ (s : State) (n : Nat) (a : ArrayRead) (x : _),
    bolterMode s.dev = true ∧ s.dev.media.rc.victim = some n ∧ InTime a ∧ FlightsHold s.dev ∧ ((liveGrains n s.dev).filter fun e => !(stripe n s.dev).pinned.contains (e.2.slot, e.2.grain)).find? (fun e => !relocating e.1 s.dev) = some x ∧ (relocationRead x.1 x.2 a s.dev).1 = some false ∧ bolterMoves x.2.frames s.dev = true :=
  ⟨at_ (rcs (fun r => { r with victim := some 7 }) base8), 7, { codewords := [] }, (805437445, { slot := 1, grain := 4, keySlot := 0, frames := 3, compressed := false, effort := 0, length := 0, metaCode := 0 }), by unfold InTime FlightsHold; decide +kernel⟩

theorem wit_VictimsAreSelectedAndRelocated_3 : ∃ (s : State) (n : Nat) (a : ArrayRead) (x : _),
    bolterMode s.dev = true ∧ s.dev.media.rc.victim = some n ∧ InTime a ∧ ((liveGrains n s.dev).filter fun e => !(stripe n s.dev).pinned.contains (e.2.slot, e.2.grain)).find? (fun e => !relocating e.1 s.dev) = some x ∧ (relocationRead x.1 x.2 a s.dev).1 = some true ∧ bolterMoves x.2.frames s.dev = true :=
  ⟨at_ (rcs (fun r => { r with victim := some 7 }) (dead base8)), 7, { codewords := [] }, (805437445, { slot := 1, grain := 4, keySlot := 0, frames := 3, compressed := false, effort := 0, length := 0, metaCode := 0 }), by unfold InTime; decide +kernel⟩

theorem wit_VictimsAreSelectedAndRelocated_4 : ∃ (s : State) (n : Nat) (x : _),
    bolterMode s.dev = true ∧ s.dev.media.rc.victim = some n ∧ ((liveGrains n s.dev).filter fun e => !(stripe n s.dev).pinned.contains (e.2.slot, e.2.grain)).find? (fun e => !relocating e.1 s.dev) = some x ∧ readRuns x.1 x.2.frames s.dev = false :=
  ⟨at_ (rcs (fun r => { r with victim := some 7 }) (opR base8)), 7, (805437445, { slot := 1, grain := 4, keySlot := 0, frames := 3, compressed := false, effort := 0, length := 0, metaCode := 0 }), by decide +kernel⟩

theorem wit_VictimsAreSelectedAndRelocated_5 : ∃ (s : State) (n : Nat),
    bolterMode s.dev = true ∧ s.dev.media.rc.victim = some n ∧ ((liveGrains n s.dev).all fun e => (stripe n s.dev).pinned.contains (e.2.slot, e.2.grain)) = true :=
  ⟨at_ (rcs (fun r => { r with victim := some 7 }) (noLive base8)), 7, by decide +kernel⟩

theorem wit_VictimsAreSelectedAndRelocated_6 : ∃ (s : State) (n : Nat) (reads : List (Nat × Nat × ArrayRead)),
    bolterMode s.dev = true ∧ (stripe n s.dev).pinned ≠ [] ∧ (stripe n s.dev).pinHours + 384 ≤ hours s.dev ∧ ((∀ x ∈ reads, InTime x.2.2)) ∧ FlightsHold s.dev :=
  ⟨at_ (strF (fun t => { t with pinned := [(1, 4)], pinHours := 4 }) base8), 7, [], by unfold InTime FlightsHold; decide +kernel⟩

theorem wit_StripesAreReleasedAndTablesWritten_1 : ∃ (s : State) (b : Nat),
    64 ≤ (s.dev.media.rc.released.filter (·.1 == b)).length :=
  ⟨at_ (rcs (fun r => { r with released := (List.range 70).map fun i => (49160, i) }) base8), 49160, by decide +kernel⟩

theorem wit_StripesAreReleasedAndTablesWritten_2 : ∃ (s : State) (b : Nat) (bytes : List Byte),
    64 ≤ (s.dev.media.rc.released.filter (·.1 == b)).length ∧ (block b s.dev).state = 2 ∧ (block b s.dev).role = 0 ∧ (block b s.dev).noFooter = false ∧ footerFields b bytes s.dev = false ∧ WriterOpen s.dev :=
  ⟨at_ (rcs (fun r => { r with released := (List.range 70).map fun i => (49160, i) }) base8), 49160, [], by unfold WriterOpen; decide +kernel⟩

theorem wit_StripesAreReleasedAndTablesWritten_3 : ∃ (s : State) (n : Nat),
    (stripe n s.dev).exists_ = true ∧ (stripe n s.dev).isOpen = false ∧ (stripe n s.dev).pinned = [] ∧ ((∀ r ∈ s.dev.media.restripe, r.stripe ≠ n)) ∧ ((∀ b ∈ stripeBlocks n s.dev, (block b s.dev).role ≠ 0 ∨ (if (stripe n s.dev).kind = 3 then b ∉ systemLive s.dev else blockReleasable n b s.dev = true))) ∧ ((∀ b ∈ stripeBlocks n s.dev, GaugeNamed (dieOfBlock b) s.dev ∧ b ∉ gaugeBlocks (dieOfBlock b) s.dev)) :=
  ⟨at_ (allB (fun b => { b with state := 3 }) (noLive base8)), 7, by unfold GaugeNamed; decide +kernel⟩

theorem wit_StripesAreReleasedAndTablesWritten_4 : ∃ (s : State) (n : Die),
    dieInService n.val s.dev = true ∧ smGet 0 s.dev.media.rc.wearHours n.val + 16 ≤ hours s.dev :=
  ⟨at_ (rcs (fun r => { r with q2 := [7, 8], q3 := [7] }) base8), 3, by decide +kernel⟩

theorem wit_StripesAreReleasedAndTablesWritten_5 : ∃ (s : State),
    (bolterMode s.dev = true ∨ s.dev.ctl.mode = .m9) ∧ (s.dev.sub.shutdownRunning = true ∨ 60 * s.dev.media.rc.tableHours + 16 * getObj Obj.blockTableIntervalMin s.dev ≤ 60 * hours s.dev) :=
  ⟨at_ (rcs (fun r => { r with q2 := [7, 8], q3 := [7] }) base8), by decide +kernel⟩

theorem wit_GaugesScrubsAndWakes_1 : ∃ (s : State) (n : Die),
    s.dev.ctl.mode = .m4 ∧ 1 ∈ s.dev.settings.loaded ∧ n.val ∈ poweredDies s.dev ∧ gaugeUnavailable n.val s.dev = false ∧ chargeFits (bankOfDie n.val) (opTokens (profileOf n.val s.dev) 1) s.dev = true :=
  ⟨at_ ({ md .m4 base8 with media := { base8.media with pen := [0,1], dies := [(3, { refOffsets := List.replicate 31 9, gaugeAge := 5 })] }, settings := { base8.settings with loaded := [1] } }), 3, by decide +kernel⟩

theorem wit_GaugesScrubsAndWakes_2 : ∃ (s : State) (n : Nat),
    bolterMode s.dev = true ∧ (s.dev.sub.shutdownRunning = true ∨ s.dev.media.rc.scanHours + 16 * getObj Obj.gaugeScanIntervalHours s.dev ≤ hours s.dev) ∧ dieInService n s.dev = true ∧ gaugeUnavailable n s.dev = false :=
  ⟨at_ (rcs (fun r => { r with q2 := [7, 8], q3 := [7] }) base8), 1, by decide +kernel⟩

theorem wit_GaugesScrubsAndWakes_3 : ∃ (s : State) (n : Die),
    s.dev.ctl.mode ≠ .m4 ∧ dieInService n.val s.dev = true ∧ (group n.val 1 s.dev).used = false ∧ (die n.val s.dev).op.kind = 0 ∧ bankInhibited (bankOfDie n.val) s.dev = false ∧ refreshDueOf n.val s.dev = true ∧ gaugeUnavailable n.val s.dev = false ∧ GaugeNamed n.val s.dev ∧ chargeFits (bankOfDie n.val) (max (opTokens (profileOf n.val s.dev) 4) (opTokens (profileOf n.val s.dev) 3)) s.dev = true :=
  ⟨at_ ({ base8 with media := { base8.media with pen := [0,1], dies := [(3, { refOffsets := List.replicate 31 9, gaugeAge := 5, gaugeState := 0, ageBase := 4000000000, found := [-100] })] } }), 3, by unfold GaugeNamed; decide +kernel⟩

theorem wit_GaugesScrubsAndWakes_4 : ∃ (s : State) (b : Nat),
    bolterMode s.dev = true ∧ scrubIsDue b s.dev = true ∧ scrubFirst b s.dev = true ∧ dieFree (dieOfBlock b) s.dev = true ∧ chargeFits (bankOfDie (dieOfBlock b)) (opTokens (profileOf (dieOfBlock b) s.dev) 1) s.dev = true ∧ 0 < getObj Obj.refreshRatio s.dev :=
  ⟨at_ (rcs (fun r => { r with q2 := [7, 8], q3 := [7] }) base8), 49160, by decide +kernel⟩

theorem wit_GaugesScrubsAndWakes_5 : ∃ (s : State),
    bolterMode s.dev = true :=
  ⟨at_ (rcs (fun r => { r with q2 := [7, 8], q3 := [7] }) base8), by decide +kernel⟩

theorem wit_GaugesScrubsAndWakes_6 : ∃ (s : State),
    getObj Obj.nextWakeDue s.dev ≠ 0 ∧ getObj Obj.wallClockSource s.dev ≠ 0 ∧ getObj Obj.nextWakeDue s.dev ≤ getObj Obj.wallClockMs s.dev ∧ s.dev.ctl.mode ∉ [Mode.m0, .m11] :=
  ⟨at_ (prt 2 (fun t => { t with pmeEn := true, linkUp := false }) (setObj Obj.nextWakeDue 5 (setObj Obj.wallClockSource 1 (setObj Obj.wallClockMs 9 base8)))), by decide +kernel⟩

theorem wit_RestripeSavesOrMarksLost_1 : ∃ (s : State) (a : ArrayRead) (r : _) (x : _),
    restripeRuns s.dev = true ∧ InTime a ∧ FlightsHold s.dev ∧ getObj Obj.reclaimStopPermille s.dev < getObj Obj.freePermille s.dev ∧ restripeNext (refreshAside s.dev) = some r ∧ ((liveGrains r.stripe s.dev).filter fun e => !(r.unread.any fun u => u.1 = e.2.slot && u.2.1 = e.2.grain)).find? (fun e => !relocating e.1 s.dev) = some x ∧ (relocationRead x.1 x.2 a (refreshAside s.dev)).1 = some false ∧ restripeMoves x.2.frames s.dev = true :=
  ⟨at_ (rs id base8), { codewords := [] }, { stripe := 7, lost := true, aside := false, unread := [], marked := 0, declared := false, settled := false }, (805437445, { slot := 1, grain := 4, keySlot := 0, frames := 3, compressed := false, effort := 0, length := 0, metaCode := 0 }), by unfold InTime FlightsHold; decide +kernel⟩

theorem wit_RestripeSavesOrMarksLost_2 : ∃ (s : State) (a : ArrayRead) (r : _) (x : _),
    restripeRuns s.dev = true ∧ InTime a ∧ restripeNext (refreshAside s.dev) = some r ∧ ((liveGrains r.stripe s.dev).filter fun e => !(r.unread.any fun u => u.1 = e.2.slot && u.2.1 = e.2.grain)).find? (fun e => !relocating e.1 s.dev) = some x ∧ (relocationRead x.1 x.2 a (refreshAside s.dev)).1 = some true :=
  ⟨at_ (rs id (dead base8)), { codewords := [] }, { stripe := 7, lost := true, aside := false, unread := [], marked := 0, declared := false, settled := false }, (805437445, { slot := 1, grain := 4, keySlot := 0, frames := 3, compressed := false, effort := 0, length := 0, metaCode := 0 }), by unfold InTime; decide +kernel⟩

theorem wit_RestripeSavesOrMarksLost_3 : ∃ (s : State) (n : Nat),
    bolterMode s.dev = true ∧ getObj Obj.mapResidentComplete s.dev ≠ 0 ∧ s.dev.media.rc.sweeping = [] ∧ s.dev.media.rc.sweeps = [n] ∧ s.dev.media.map.badLines = [] ∧ ((∀ e ∈ liveGrains n s.dev, updateReady e.2.slot e.2.grain s.dev = true)) :=
  ⟨at_ (rcs (fun r => { r with sweeps := [7] }) (rs id base8)), 7, by decide +kernel⟩

theorem wit_RestripeSavesOrMarksLost_4 : ∃ (s : State) (slot : Nat) (grain : Nat) (cause : Nat) (st : Nat),
    s.dev.media.rc.toAppend = [(slot, grain, cause, st)] ∧ eventReady (slot, grain, cause, st) s.dev = true ∧ s.dev.media.rc.lostFrames.sum < 262144 :=
  ⟨at_ (rcs (fun r => { r with toAppend := [(1, 4, 2, 7)], lostFrames := [5] }) base8), 1, 4, 2, 7, by decide +kernel⟩

theorem wit_CanRequestsAreServed_1 : ∃ (s : State) (r : CanRequest) (v : List Byte),
    CanAnswers s.dev ∧ s.dev.can.trans = none ∧ r.short = false ∧ r.reserved = false ∧ s.dev.damaged = [] ∧ r.index / 256 ≠ 0x62 ∧ readObject canPath r.index r.sub (actedOn s.dev) = .ok v ∧ v.length ≤ 4096 :=
  ⟨at_ ((b9 .m5)), { tag := 4, index := 4096, sub := 2, length := 0 }, (List.replicate 8 0), by unfold CanAnswers; decide +kernel, by decide +kernel, by decide +kernel, of_decide_eq_true (by decide +kernel), by decide +kernel, by decide +kernel, ok_of (by decide +kernel), by decide +kernel⟩

theorem wit_CanRequestsAreServed_2 : ∃ (s : State) (r : CanRequest) (e : Nat),
    CanAnswers s.dev ∧ s.dev.can.trans = none ∧ r.short = false ∧ r.reserved = false ∧ s.dev.damaged = [] ∧ readObject canPath r.index r.sub (actedOn s.dev) = .error e :=
  ⟨at_ ((b9 .m5)), { tag := 3, index := 2, sub := 1, length := 4 }, 1, by unfold CanAnswers; decide +kernel, by decide +kernel, by decide +kernel, of_decide_eq_true (by decide +kernel), by decide +kernel, error_of (by decide +kernel)⟩

theorem wit_CanRequestsAreServed_3 : ∃ (s : State) (r : CanRequest) (value : List Byte) (q : Nat),
    CanAnswers s.dev ∧ s.dev.can.trans = none ∧ r.short = false ∧ r.reserved = false ∧ Admitted canPath s.dev ∧ objKey r.index r.sub = Obj.etaQueryBlock ∧ r.length = 4 ∧ value.take 4 = leBytes 4 q ∧ q < 2 ^ 26 :=
  ⟨at_ ((b9 .m5)), { tag := 3, index := 17168, sub := 1, length := 4 }, [3, 0, 0, 0], 3, by unfold CanAnswers Admitted; decide +kernel⟩

theorem wit_CanRequestsAreServed_4 : ∃ (s : State) (r : CanRequest) (e : Nat),
    CanAnswers s.dev ∧ s.dev.can.trans = none ∧ r.short = false ∧ r.reserved = false ∧ r.length ≤ 56 ∧ absent r.index r.sub = some e :=
  ⟨at_ ((b9 .m5)), { tag := 3, index := 2, sub := 1, length := 4 }, 1, by unfold CanAnswers; decide +kernel⟩

theorem wit_CanRequestsAreServed_5 : ∃ (s : State) (r : CanRequest) (total : Nat),
    CanAnswers s.dev ∧ s.dev.can.trans = none ∧ r.short = false ∧ r.reserved = false ∧ 57 ≤ total ∧ total ≤ 4096 :=
  ⟨at_ ((b9 .m5)), { tag := 4, index := 4096, sub := 2, length := 0 }, 57, by unfold CanAnswers; decide +kernel⟩

theorem wit_CanRequestsAreServed_6 : ∃ (s : State) (t : CanTransaction) (total : Nat),
    s.dev.can.silent = false ∧ s.dev.ctl.mode ≠ .m0 ∧ s.dev.ctl.mode ≠ .m1 ∧ s.dev.can.trans = some t ∧ t.total = some total ∧ 60 * (t.nextSeg + 1) < total ∧ nowMs s.dev ≤ t.lastMs + 1000 :=
  ⟨at_ (cn (fun c => { c with trans := some { tag := 4, idx := 0x5010, sub := 1, total := some 130, lastMs := 499500 } }) (b9 .m5)), { tag := 4, idx := 20496, sub := 1, total := some 130, sending := false, received := [], nextSeg := 0, lastMs := 499500 }, 130, by decide +kernel⟩

theorem wit_CanRequestsAreServed_7 : ∃ (s : State) (t : CanTransaction) (tag : Nat) (seg : Nat),
    CanAnswers s.dev ∧ s.dev.can.trans = some t ∧ t.total.isSome = true ∧ (tag ≠ t.tag ∨ seg ≠ t.nextSeg) :=
  ⟨at_ (cn (fun c => { c with trans := some { tag := 4, idx := 0x5010, sub := 1, total := some 130, lastMs := 499500 } }) (b9 .m5)), { tag := 4, idx := 20496, sub := 1, total := some 130, sending := false, received := [], nextSeg := 0, lastMs := 499500 }, 130, 130, by unfold CanAnswers; decide +kernel⟩

theorem wit_CanRequestsAreServed_8 : ∃ (s : State) (t : CanTransaction),
    CanAnswers s.dev ∧ s.dev.can.trans = some t ∧ t.total.isSome = true ∧ t.lastMs + 1000 < nowMs s.dev :=
  ⟨at_ (cn (fun c => { c with trans := some { tag := 4, idx := 0x5010, sub := 1, total := some 130, lastMs := 400000 } }) (b9 .m5)), { tag := 4, idx := 20496, sub := 1, total := some 130, sending := false, received := [], nextSeg := 0, lastMs := 400000 }, by unfold CanAnswers; decide +kernel⟩

theorem wit_CanRequestsAreServed_9 : ∃ (s : State) (r : CanRequest) (t : CanTransaction),
    CanAnswers s.dev ∧ r.short = false ∧ r.reserved = false ∧ s.dev.can.trans = some t ∧ t.tag = r.tag ∧ t.total.isSome = true ∧ t.sending = false :=
  ⟨at_ (cn (fun c => { c with trans := some { tag := 4, idx := 0x5010, sub := 1, total := some 130, lastMs := 499500 } }) (b9 .m5)), { tag := 4, index := 4096, sub := 2, length := 0 }, { tag := 4, idx := 20496, sub := 1, total := some 130, sending := false, received := [], nextSeg := 0, lastMs := 499500 }, by unfold CanAnswers; decide +kernel⟩

theorem wit_CanRequestsAreServed_10 : ∃ (s : State) (r : CanRequest),
    CanAnswers s.dev ∧ r.short = false ∧ r.reserved = false ∧ ((∀ t, s.dev.can.trans = some t → t.tag ≠ r.tag)) :=
  ⟨at_ ((b9 .m5)), { tag := 4, index := 4096, sub := 2, length := 0 }, by unfold CanAnswers; decide +kernel⟩

theorem wit_CanRequestsAreServed_11 : ∃ (s : State),
    CanAnswers s.dev :=
  ⟨at_ ((b9 .m5)), by unfold CanAnswers; decide +kernel⟩

theorem wit_CanRequestsAreServed_12 : ∃ (s : State) (r : CanRequest) (total : Nat) (reason : Byte),
    CanAnswers s.dev ∧ r.length ≤ 56 ∧ 57 ≤ total ∧ total ≤ 4096 ∧ ((r.short = true ∧ reason = 2 ∨ r.short = false ∧ s.dev.can.trans.isSome = true ∧ reason = 3 ∨ r.short = false ∧ s.dev.can.trans = none ∧ r.reserved = true ∧ reason = 7)) :=
  ⟨at_ ((b9 .m5)), { tag := 9, index := 28720, sub := 4, length := 0, short := true }, 57, 0x02#8, by unfold CanAnswers; decide +kernel⟩

theorem wit_LinkFramesAndErrors_1 : ∃ (s : State),
    frameMode s.dev.ctl.mode = true ∧ s.dev.can.silent = false ∧ grantOk 7 1 1 s.dev = true :=
  ⟨at_ ((b9 .m5)), by decide +kernel⟩

theorem wit_LinkFramesAndErrors_2 : ∃ (s : State) (ms : Nat),
    s.dev.ctl.mode ≠ .m0 ∧ s.dev.ctl.porReleased = true ∧ s.dev.ctl.vsysUp = true ∧ ms ≠ 0 :=
  ⟨at_ ((b9 .m5)), 3, by decide +kernel⟩

theorem wit_LinkFramesAndErrors_3 : ∃ (s : State) (seq : Nat),
    seq ≠ 0 ∧ s.dev.ctl.mode ∉ [Mode.m0, .m10, .m11] ∧ s.dev.can.silent = false ∧ s.dev.ctl.porReleased = true ∧ s.dev.ctl.vsysUp = true ∧ s.dev.domains.lossWindow = [] ∧ ¬ (s.dev.can.lastWakeSeq = seq ∧ nowMs s.dev ≤ s.dev.can.lastWakeMs + 1000) :=
  ⟨at_ ((b9 .m5)), 3, by decide +kernel⟩

theorem wit_LinkFramesAndErrors_4 : ∃ (s : State) (seq : Nat),
    seq ≠ 0 ∧ s.dev.ctl.mode ∉ [Mode.m0, .m10, .m11] ∧ s.dev.can.silent = false ∧ s.dev.ctl.porReleased = true ∧ s.dev.ctl.vsysUp = true ∧ s.dev.domains.lossWindow = [] ∧ s.dev.can.lastWakeSeq = seq ∧ nowMs s.dev ≤ s.dev.can.lastWakeMs + 1000 :=
  ⟨at_ (cn (fun c => { c with lastWakeSeq := 3, lastWakeMs := 499500, nodeConflict := true }) (b9 .m5)), 3, by decide +kernel⟩

theorem wit_LinkFramesAndErrors_5 : ∃ (s : State) (func : Nat),
    func ∈ [0x1, 0x6, 0x7, 0x8, 0xE] ∧ s.dev.can.nodeConflict = false ∧ s.dev.can.silent = false ∧ frameMode s.dev.ctl.mode = true ∧ WriterOpen s.dev :=
  ⟨at_ ((b9 .m5)), 1, by unfold WriterOpen; decide +kernel⟩

theorem wit_LinkFramesAndErrors_6 : ∃ (s : State),
    s.dev.can.nodeConflict = true :=
  ⟨at_ (cn (fun c => { c with lastWakeSeq := 3, lastWakeMs := 499500, nodeConflict := true }) (b9 .m5)), by decide +kernel⟩

theorem wit_LinkFramesAndErrors_7 : ∃ (s : State),
    s.dev.can.silent = false ∧ getObj Obj.canBusState s.dev ≠ 0x02 ∧ (s.dev.can.queue.filter (·.onBus)).length ≤ 1 ∧ ((∀ f ∈ s.dev.can.queue, f.withdrawn = false)) :=
  ⟨at_ ((b9 .m5)), by decide +kernel⟩

theorem wit_LinkFramesAndErrors_8 : ∃ (s : State),
    getObj Obj.canBusState s.dev = 0x02 ∧ WriterOpen s.dev :=
  ⟨at_ (setObj Obj.canBusState 2 (ups [(Obj.canTxErrorCount, 250), (Obj.canRxErrorCount, 3)] (b9 .m5))), by unfold WriterOpen; decide +kernel⟩

theorem wit_LinkFramesAndErrors_9 : ∃ (s : State) (f : CanFrame),
    s.dev.can.silent = false ∧ getObj Obj.canBusState s.dev ≠ 0x02 ∧ s.dev.can.backlog = [] ∧ s.dev.can.queue = [f] ∧ 1 ≤ heldBy 7 f.owner s.dev :=
  ⟨at_ (q [{ func := 6, owner := 3, data := [1], tag := 3 }] (b9 .m5)), { func := 6, data := [1], owner := 3, queuedMs := 0, onBus := false, withdrawn := false, tag := 3 }, by decide +kernel⟩

theorem wit_LinkFramesAndErrors_10 : ∃ (s : State) (f : CanFrame) (g : CanFrame),
    s.dev.can.silent = false ∧ getObj Obj.canBusState s.dev ≠ 0x02 ∧ s.dev.can.backlog = [] ∧ s.dev.can.queue = [f, g] ∧ f.onBus = false ∧ g.onBus = false ∧ g.func < f.func :=
  ⟨at_ (q [{ func := 7, owner := 1, data := [1] }, { func := 1, owner := 2, data := [1] }] (b9 .m5)), { func := 7, data := [1], owner := 1, queuedMs := 0, onBus := false, withdrawn := false, tag := 0 }, { func := 1, data := [1], owner := 2, queuedMs := 0, onBus := false, withdrawn := false, tag := 0 }, by decide +kernel⟩

theorem wit_LinkFramesAndErrors_11 : ∃ (s : State) (f : CanFrame) (g : CanFrame),
    s.dev.can.silent = false ∧ getObj Obj.canBusState s.dev ≠ 0x02 ∧ s.dev.can.backlog = [] ∧ s.dev.can.queue = [f, g] ∧ f.onBus = false ∧ g.onBus = false ∧ f.func ≤ g.func :=
  ⟨at_ (q [{ func := 1, owner := 2, data := [1] }, { func := 7, owner := 1, data := [1] }] (b9 .m5)), { func := 1, owner := 2, data := [1] }, { func := 7, owner := 1, data := [1] }, by decide +kernel, by decide +kernel, of_decide_eq_true (by decide +kernel), by decide +kernel, by decide +kernel, of_decide_eq_true (by decide +kernel), by decide +kernel⟩

theorem wit_LinkFramesAndErrors_12 : ∃ (s : State) (f : CanFrame),
    s.dev.can.silent = false ∧ getObj Obj.canBusState s.dev ≠ 0x02 ∧ s.dev.can.queue = [f] ∧ f.withdrawn = false :=
  ⟨at_ (q [{ func := 6, owner := 3, data := [1], tag := 3 }] (b9 .m5)), { func := 6, data := [1], owner := 3, queuedMs := 0, onBus := false, withdrawn := false, tag := 3 }, by decide +kernel⟩

theorem wit_LinkFramesAndErrors_13 : ∃ (s : State) (f : CanFrame),
    s.dev.can.silent = false ∧ s.dev.can.queue = [f] ∧ f.owner = 4 ∧ f.withdrawn = false ∧ f.onBus = false ∧ f.queuedMs + 2000 ≤ nowMs s.dev ∧ s.dev.can.backlog = [] ∧ 1 ≤ heldBy 7 4 s.dev :=
  ⟨at_ (q [{ func := 0xE, owner := 4, queuedMs := 100, data := [1] }] (b9 .m5)), { func := 14, data := [1], owner := 4, queuedMs := 100, onBus := false, withdrawn := false, tag := 0 }, by decide +kernel⟩

theorem wit_LinkFramesAndErrors_14 : ∃ (s : State),
    s.dev.can.silent = false :=
  ⟨at_ ((b9 .m5)), by decide +kernel⟩

theorem wit_ChallengesAreAnswered_1 : ∃ (s : State) (path : Nat) (slot : Nat) (op : Nat) (arg : Nat) (c : Instr) (cmd : HostCmd) (r : CanRequest),
    slot ≤ 7 ∧ argumentForm op arg = true ∧ pathLocked path s.dev = false ∧ authSlotSet slot s.dev = true ∧ ((∃ b, neededRight op arg = some b ∧ bitOf (authRightsOf slot s.dev) b = true)) ∧ 1 ≤ (ledger 8 s.dev).free ∧ ((c = .canAuthoriseChallenge r slot op arg ∧ path = canPath ∧ op = 1 ∧ CanAnswers s.dev ∧ s.dev.can.trans = none ∧ r.short = false ∧ r.reserved = false ∨ c = .authoriseChallenge cmd slot op arg ∧ path = cmd.port.val + 1 ∧ AdminReady cmd s.dev ∧ s.dev.ctl.mode ∉ [Mode.m2, .m9])) :=
  ⟨at_ (b9 .m5), 2, 0, 1, 0xA5020, .authoriseChallenge { port := 1, cid := 7 } 0 1 0xA5020, { port := 1, cid := 7 }, {}, by decide +kernel, by decide +kernel, of_decide_eq_true (by decide +kernel), by decide +kernel, by decide +kernel, of_decide_eq_true (by decide +kernel), Or.inr (by unfold AdminReady Fetchable ContextFree RoomFor; decide +kernel)⟩

theorem wit_ChallengesAreAnswered_2 : ∃ (s : State) (path : Nat) (slot : Nat) (op : Nat) (arg : Nat) (nonce : Nat) (response : List Byte) (c : Instr) (cmd : HostCmd) (r : CanRequest) (ch : Challenge),
    slot ≤ 7 ∧ argumentForm op arg = true ∧ pathLocked path s.dev = false ∧ ((∀ q ∈ [1, 2, 3, 4, 5], q ≠ path → ∀ x ∈ (pathState q s.dev).challenges, x.nonce ≠ nonce)) ∧ (pathState path s.dev).challenges.find? (·.nonce == nonce) = some ch ∧ ch.slot = slot ∧ ch.op = op ∧ ch.arg = arg ∧ ((c = .canAuthoriseRespond r slot op arg nonce response ∧ path = canPath ∧ CanAnswers s.dev ∧ s.dev.can.trans = none ∧ r.short = false ∧ r.reserved = false ∨ c = .authoriseRespond cmd slot op arg nonce response ∧ path = cmd.port.val + 1 ∧ AdminReady cmd s.dev ∧ s.dev.ctl.mode ∉ [Mode.m2, .m9])) :=
  ⟨at_ (chal (b9 .m5)), 5, 0, 1, 0xA5020, 1, [5], .canAuthoriseRespond { tag := 4, index := 0x1000, sub := 2 } 0 1 0xA5020 1 [5], {}, { tag := 4, index := 0x1000, sub := 2 }, { nonce := 1, slot := 0, op := 1, arg := 0xA5020, issuedMs := 499000 }, by decide +kernel, by decide +kernel, of_decide_eq_true (by decide +kernel), by decide +kernel, by decide +kernel, of_decide_eq_true (by decide +kernel), by decide +kernel, by decide +kernel, Or.inl (by unfold CanAnswers; decide +kernel)⟩

theorem wit_AuthorisationsExpire_1 : ∃ (s : State),
    ((∀ p ∈ [1, 2, 3, 4, 5], (pathState p s.dev).challenges.length ≤ heldBy 8 p s.dev)) :=
  ⟨at_ ((b9 .m5)), by decide +kernel⟩

theorem wit_AuthorisationsExpire_2 : ∃ (s : State) (p : Nat) (t : Nat),
    p ∈ [1, 2, 3, 4, 5] ∧ (pathState p s.dev).lockedUntil = some t ∧ t ≤ nowMs s.dev ∧ ((∀ q ∈ [1, 2, 3, 4, 5], q ≠ p → (pathState q s.dev).lockedUntil = none)) ∧ WriterOpen s.dev :=
  ⟨at_ (pth 1 (fun s => { s with lockedUntil := some 400000, failures := [3] }) (b9 .m5)), 1, 400000, by unfold WriterOpen; decide +kernel⟩

theorem wit_WritesAreStoredOrAborted_1 : ∃ (s : State) (path : Nat) (key : Nat) (v : Nat) (out : StoreOutcome),
    Admitted path s.dev ∧ s.dev.ctl.mode ≠ .m8 ∧ PlainSetting key ∧ v < 256 ^ objSize key ∧ inRange [(key, leBytes (objSize key) v)] s.dev key (leBytes (objSize key) v) = true ∧ RoomToStore (recordSize [(key, some v)]) s.dev ∧ out.active = 0 ∧ out.other = 0 :=
  ⟨at_ (b10 .m5), 2, 1052674, 2, { active := 0, other := 0, entry := 0, header := none, drained := 0, failures := [] }, by unfold Admitted PlainSetting RoomToStore; decide +kernel⟩

theorem wit_WritesAreStoredOrAborted_2 : ∃ (s : State) (path : Nat) (key : Nat) (v : Nat),
    Admitted path s.dev ∧ PlainSetting key ∧ v < 256 ^ objSize key ∧ s.dev.ctl.mode ≠ .m8 ∧ inRange [(key, leBytes (objSize key) v)] s.dev key (leBytes (objSize key) v) = false :=
  ⟨at_ (b10 .m5), 2, 6299905, 2, by unfold Admitted PlainSetting; decide +kernel⟩

theorem wit_WritesAreStoredOrAborted_3 : ∃ (s : State) (path : Nat) (key : Nat) (v : Nat),
    Admitted path s.dev ∧ PlainSetting key ∧ v < 256 ^ objSize key ∧ s.dev.ctl.mode = .m8 :=
  ⟨at_ (b10 .m8), 2, 1052674, 2, by unfold Admitted PlainSetting; decide +kernel⟩

theorem wit_WritesAreStoredOrAborted_4 : ∃ (path : Nat) (index : Nat) (sub : Nat) (e : Nat),
    1 ≤ path ∧ path ≤ 5 ∧ absent index sub = some e :=
  ⟨2, 2, 2, 1, by decide +kernel⟩

theorem wit_WritesAreStoredOrAborted_5 : ∃ (s : State) (path : Nat) (key : Nat) (value : List Byte),
    1 ≤ path ∧ path ≤ 5 ∧ PlainSetting key ∧ value.length = objSize key ∧ s.dev.ctl.mode ∈ [Mode.m0, .m1, .m2, .m10, .m11] :=
  ⟨at_ (b10 .m2), 2, 1052674, [3], by unfold PlainSetting; decide +kernel⟩

theorem wit_WritesAreStoredOrAborted_6 : ∃ (s : State) (path : Nat) (key : Nat) (value : List Byte),
    Admitted path s.dev ∧ absent (key / 256) (key % 256) = none ∧ accessOf key = .grd ∧ value.length = objSize key ∧ objSize key ≠ 0 ∧ (storedObject key = false ∨ s.dev.ctl.mode ≠ .m8) ∧ key ≠ Obj.settingsRestoreDefaults :=
  ⟨at_ (b10 .m5), 2, 4468737, [3], by unfold Admitted; decide +kernel⟩

theorem wit_GroupsCommitAsOne_1 : ∃ (s : State) (path : Nat) (index : Nat) (sub : Nat) (v : Nat),
    Admitted path s.dev ∧ objKey index sub ∈ groupMembers index ∧ v < 256 ^ objSize (objKey index sub) ∧ inRange [(objKey index sub, leBytes (objSize (objKey index sub)) v)] s.dev (objKey index sub) (leBytes (objSize (objKey index sub)) v) = true :=
  ⟨at_ ((b10 .m5)), 2, 4113, 2, 1, by unfold Admitted; decide +kernel⟩

theorem wit_GroupsCommitAsOne_2 : ∃ (s : State) (path : Nat) (index : Nat) (out : StoreOutcome),
    Admitted path s.dev ∧ s.dev.ctl.mode ≠ .m8 ∧ index ∈ [0x1011, 0x3400] ∧ groupShadows path index s.dev ≠ [] ∧ ((groupShadows path index s.dev).map (·.1)).Nodup ∧ disagreement path index s.dev = none ∧ RoomToStore (recordSize ((groupMembers index).map fun k => (k, some (memberCandidate path k s.dev)))) s.dev ∧ out.active = 0 ∧ out.other = 0 :=
  ⟨at_ (sh [(0x101101, 1)] (b10 .m5)), 2, 4113, { active := 0, other := 0, entry := 0, header := none, drained := 0, failures := [] }, by unfold Admitted RoomToStore; decide +kernel⟩

theorem wit_GroupsCommitAsOne_3 : ∃ (s : State) (path : Nat) (index : Nat) (sub : Nat),
    Admitted path s.dev ∧ index ∈ [0x1011, 0x3400] ∧ groupShadows path index s.dev ≠ [] ∧ disagreement path index s.dev = some sub :=
  ⟨at_ (sh [(0x340001, 30), (0x340002, 35)] (b10 .m5)), 2, 13312, 1, by unfold Admitted; decide +kernel⟩

theorem wit_GroupsCommitAsOne_4 : ∃ (s : State) (path : Nat) (index : Nat),
    Admitted path s.dev ∧ index ∈ [0x1011, 0x3400] :=
  ⟨at_ ((b10 .m5)), 2, 4113, by unfold Admitted; decide +kernel⟩

theorem wit_DictionaryObjectsAct_1 : ∃ (s : State) (path : Nat) (v : Nat) (out : StoreOutcome),
    Admitted path s.dev ∧ s.dev.ctl.mode ≠ .m8 ∧ inRange [(Obj.tokenPoolSize, leBytes 2 v)] s.dev Obj.tokenPoolSize (leBytes 2 v) = true ∧ v < 65536 ∧ RoomToStore (recordSize [(Obj.tokenPoolSize, some v)]) s.dev ∧ out.active = 0 ∧ out.other = 0 ∧ heldBy 1 0x22 s.dev = 0 ∧ v ≠ (ledger 1 s.dev).total ∧ (ledger 1 s.dev).total ≤ v + (ledger 1 s.dev).free ∧ WriterOpen s.dev :=
  ⟨at_ (b10 .m5), 2, 3000, { active := 0, other := 0, entry := 0, header := none, drained := 0, failures := [] }, by unfold Admitted RoomToStore WriterOpen; decide +kernel⟩

theorem wit_DictionaryObjectsAct_2 : ∃ (s : State) (path : Nat) (v : Nat) (out : StoreOutcome),
    Admitted path s.dev ∧ s.dev.ctl.mode ≠ .m8 ∧ 10500 ≤ v ∧ v ≤ 11600 ∧ v ≤ getObj Obj.vsysMv s.dev ∧ RoomToStore (recordSize [(Obj.supplyWarningMv, some v)]) s.dev ∧ out.active = 0 ∧ out.other = 0 :=
  ⟨at_ (setObj Obj.vsysMv 12000 (b10 .m5)), 2, 10500, { active := 0, other := 0, entry := 0, header := none, drained := 0, failures := [] }, by unfold Admitted RoomToStore; decide +kernel⟩

theorem wit_DictionaryObjectsAct_3 : ∃ (s : State) (path : Nat),
    Granted path Obj.settingsAcknowledge s.dev ∧ s.dev.settings.lost = true ∧ WriterOpen s.dev :=
  ⟨at_ (gr 2 0x702001 (lost (b10 .m5))), 2, by unfold Granted WriterOpen Admitted; decide +kernel⟩

theorem wit_DictionaryObjectsAct_4 : ∃ (s : State) (path : Nat) (out : StoreOutcome) (keys : List Nat),
    Granted path Obj.settingsRestoreDefaults s.dev ∧ s.dev.ctl.mode ≠ .m8 ∧ out.active = 0 ∧ out.other = 0 ∧ WriterOpen s.dev ∧ keys = (copyKeys (settingsCopy s.dev.cs.activeB s.dev)).filter (fun k => (copyValue (settingsCopy s.dev.cs.activeB s.dev) k).isSome) ∧ keys ≠ [] ∧ ((∀ k ∈ keys, PlainSetting k ∨ k ∈ groupMembers (k / 256))) ∧ RoomToStore (recordSize (keys.map fun k => (k, none))) s.dev :=
  ⟨at_ (gr 2 0x702002 (recs [[(0x101002, some 5), (0x101101, some 1)], [(0x101002, some 7)]] (b10 .m5))), 2, { active := 0, other := 0, entry := 0, header := none, drained := 0, failures := [] }, [1052674, 1052929], by unfold Granted WriterOpen PlainSetting RoomToStore Admitted; decide +kernel⟩

theorem wit_DictionaryObjectsAct_5 : ∃ (s : State) (path : Nat),
    Granted path Obj.logbookClear s.dev ∧ s.dev.ctl.mode ≠ .m8 ∧ s.dev.log.indexComplete = true ∧ WriterOpen s.dev ∧ ((∀ e ∈ s.dev.log.ring, serialLater e.entry.seq (headSequence s.dev) = false)) ∧ serialLater s.dev.log.nextSeq (headSequence s.dev) = true :=
  ⟨at_ (gr 2 0x602008 (ring (b10 .m5))), 2, by unfold Granted WriterOpen Admitted; decide +kernel⟩

theorem wit_DictionaryObjectsAct_6 : ∃ (s : State) (path : Nat) (l : Nat),
    1 ≤ path ∧ path ≤ 5 ∧ s.dev.ctl.mode ∉ [Mode.m0, .m1, .m2, .m11] ∧ l ∈ [1, 2, 3, 4, 5, 6, 7, 8] ∧ s.dev.damaged = [] ∧ pairMatches (ledger l s.dev).total (ledger l s.dev).inverse = true ∧ ledgerOk (ledger l s.dev) = true :=
  ⟨at_ (b10 .m5), 2, 2, by decide +kernel⟩

theorem wit_DictionaryObjectsAct_7 : ∃ (s : State) (path : Nat) (l : Nat) (o : Nat),
    1 ≤ path ∧ path ≤ 5 ∧ s.dev.ctl.mode ∉ [Mode.m0, .m1, .m2, .m11] ∧ l ∈ [1, 2, 3, 4, 5, 6, 7, 8] ∧ s.dev.damaged = [] ∧ pairMatches (ledger l s.dev).total (ledger l s.dev).inverse = true ∧ ledgerOk (ledger l s.dev) = true ∧ 1 ≤ o ∧ o ≤ 255 :=
  ⟨at_ (b10 .m5), 2, 2, 2, by decide +kernel⟩

theorem wit_DictionaryObjectsAct_8 : ∃ (s : State) (cmd : HostCmd) (index : Nat) (sub : Nat) (bytes : Nat) (v : List Byte),
    AdminReady cmd s.dev ∧ 1 ≤ bytes ∧ bytes ≤ 4096 ∧ index / 256 ≠ 0x62 ∧ s.dev.damaged = [] ∧ readObject (cmd.port.val + 1) index sub (takeEntry cmd.port.val 0 s.dev) = .ok v :=
  ⟨at_ (b10 .m4), { port := 1, sqid := 0, cid := 7, nsid := 0 }, 4096, 2, 2, (List.replicate 8 0), by unfold AdminReady ContextFree Fetchable RoomFor; decide +kernel, by decide +kernel, by decide +kernel, of_decide_eq_true (by decide +kernel), by decide +kernel, ok_of (by decide +kernel)⟩

theorem wit_DictionaryObjectsAct_9 : ∃ (s : State) (cmd : HostCmd) (q : Nat),
    AdminReady cmd s.dev ∧ Admitted (cmd.port.val + 1) s.dev ∧ s.dev.ctl.mode ≠ .m9 ∧ q < 2 ^ 26 :=
  ⟨at_ (b10 .m4), { port := 1, sqid := 0, cid := 7, nsid := 0 }, 2, by unfold AdminReady Admitted ContextFree Fetchable RoomFor; decide +kernel⟩

theorem wit_KeysAndRecoveryAreWritten_1 : ∃ (s : State) (path : Nat) (slot : Nat) (key : List Byte),
    slot < 8 ∧ Granted path (0x441001 + slot) s.dev ∧ (key.length = 32 ∨ key = [] ∧ slot ≠ 0) ∧ s.dev.sec.used < 1364 ∧ WriterOpen s.dev :=
  ⟨at_ (gr 2 0x441001 (chal_2 (b10 .m5))), 2, 0, (List.replicate 32 7), by unfold Granted WriterOpen Admitted; decide +kernel⟩

theorem wit_KeysAndRecoveryAreWritten_2 : ∃ (s : State) (path : Nat) (slot : Nat) (rights : Nat),
    slot < 8 ∧ Granted path (0x441101 + slot) s.dev ∧ rights < 16 ∧ slot = 0 ∧ rights = 15 ∧ s.dev.sec.used < 1364 :=
  ⟨at_ (gr 2 0x441101 (chal_2 (b10 .m5))), 2, 0, 15, by unfold Granted Admitted; decide +kernel⟩

theorem wit_KeysAndRecoveryAreWritten_3 : ∃ (s : State) (path : Nat) (slot : Nat) (rights : Nat),
    slot < 8 ∧ slot ≠ 0 ∧ Granted path (0x441101 + slot) s.dev ∧ rights < 16 ∧ s.dev.sec.used < 1364 ∧ WriterOpen s.dev :=
  ⟨at_ (gr 2 0x441102 (b10 .m5)), 2, 1, 2, by unfold Granted WriterOpen Admitted; decide +kernel⟩

theorem wit_KeysAndRecoveryAreWritten_4 : ∃ (s : State) (path : Nat) (chunk : List Byte) (out : StoreOutcome),
    1 ≤ path ∧ path ≤ 5 ∧ s.dev.ctl.mode = .m2 ∧ 1 ≤ chunk.length ∧ chunk.length ≤ 4096 ∧ s.dev.cs.recHeld - out.drained + chunk.length ≤ 65536 ∧ out.failures = [] ∧ ((getObj Obj.recoveryOffset s.dev = 0 ∧ s.dev.cs.recPath = 0 ∨ getObj Obj.recoveryOffset s.dev ≠ 0 ∧ s.dev.cs.recPath = path ∧ ∀ p ∈ s.dev.cs.recPieces, piecesMeet { offset := getObj Obj.recoveryOffset s.dev, bytes := chunk.length } p = false)) :=
  ⟨at_ (b10 .m2), 2, [3], { active := 0, other := 0, entry := 0, header := none, drained := 0, failures := [] }, by decide +kernel⟩

theorem wit_KeysAndRecoveryAreWritten_5 : ∃ (s : State) (path : Nat),
    1 ≤ path ∧ path ≤ 5 ∧ s.dev.ctl.mode = .m2 ∧ (recoveryComplete path s.dev).2 = true ∧ s.dev.cs.recCode ≠ 5 ∧ getObj Obj.recoveryTargetSlot s.dev ∈ [1, 2] ∧ WriterOpen s.dev :=
  ⟨at_ (rec2 (b10 .m2)), 2, by unfold WriterOpen; decide +kernel⟩

theorem wit_KeysAndRecoveryAreWritten_6 : ∃ (s : State) (path : Nat),
    1 ≤ path ∧ path ≤ 5 ∧ s.dev.ctl.mode = .m2 ∧ (recoveryComplete path s.dev).2 = true :=
  ⟨at_ (rec2 (b10 .m2)), 2, by decide +kernel⟩

theorem wit_KeysAndRecoveryAreWritten_7 : ∃ (s : State) (path : Nat),
    1 ≤ path ∧ path ≤ 5 ∧ s.dev.ctl.mode = .m2 ∧ (fwSlot (getObj Obj.recoveryTargetSlot s.dev) s.dev).holds = true :=
  ⟨at_ (b10 .m2), 2, by decide +kernel⟩

theorem wit_LogbookFlushesAndCounts_1 : ∃ (s : State),
    s.dev.log.flushDue = true ∧ logFlushPossible s.dev = true ∧ ((poolsActive s.dev = true → poolWaits 0x09 3 s.dev = false ∧ grantOk 3 0x09 (flushBuffers s.dev) s.dev = true)) ∧ s.dev.log.lostCount = 0 ∧ s.dev.log.ring.length ≤ 4096 ∧ s.dev.log.frames.length ≤ 32000 ∧ (flashRecords s.dev).length + 4096 ≤ 1048576 :=
  ⟨at_ (ring (sixteen (b10 .m5))), by decide +kernel⟩

theorem wit_LogbookFlushesAndCounts_2 : ∃ (s : State),
    (s.dev.log.flushDue = false ∨ logFlushPossible s.dev = false ∨ poolsActive s.dev = true ∧ poolWaits 0x09 3 s.dev = true) :=
  ⟨at_ (b10 .m5), by decide +kernel⟩

theorem wit_LogbookFlushesAndCounts_3 : ∃ (s : State),
    s.dev.log.flushDue = true ∧ logFlushPossible s.dev = true ∧ poolsActive s.dev = true ∧ poolWaits 0x09 3 s.dev = false ∧ grantOk 3 0x09 (flushBuffers s.dev) s.dev = false :=
  ⟨at_ (ring (takeAll (sixteen (b10 .m5)))), by decide +kernel⟩

theorem wit_LogbookFlushesAndCounts_4 : ∃ (s : State) (c : Nat),
    s.dev.log.raising = some c ∧ s.dev.log.waiting = [] :=
  ⟨at_ ({(b10 .m5) with log := { (b10 .m5).log with raising := some 90000 } }), 90000, by decide +kernel⟩

theorem wit_LogbookFlushesAndCounts_5 : ∃ (s : State) (c : Nat) (code : Nat) (snaps : List Nat),
    s.dev.log.raising = some c ∧ s.dev.log.waiting = [(code, snaps)] ∧ s.dev.log.nextSeq ≠ c :=
  ⟨at_ ({(b10 .m5) with log := { (b10 .m5).log with raising := some 90000, waiting := [(0x1000, [3])] } }), 90000, 4096, [3], by decide +kernel⟩

theorem wit_LogbookFlushesAndCounts_6 : ∃ (s : State),
    s.dev.ctl.mode ≠ .m0 ∧ s.dev.ctl.porReleased = true ∧ s.dev.log.runStarted = true :=
  ⟨at_ (b10 .m5), by decide +kernel⟩

theorem wit_LinksChangeState_1 : ∃ (s : State) (p : Port) (rate : Nat) (width : Nat),
    (port p.val s.dev).linkUp = false ∧ linkMode s.dev.ctl.mode = true ∧ p.val < portCount s.dev ∧ 1 ≤ rate ∧ rate ≤ (if s.dev.ctl.mode = .m2 then 3 else getObj Obj.maxLinkSpeedCode s.dev) ∧ 1 ≤ width ∧ width ≤ (if s.dev.ctl.mode = .m2 then 8 else configuredWidth s.dev) :=
  ⟨at_ (rw (md .m5 (open2 State.reset.dev))), 0, 1, 1, by decide +kernel⟩

theorem wit_LinksChangeState_2 : ∃ (s : State) (p : Port),
    (port p.val s.dev).linkUp = false ∧ linkMode s.dev.ctl.mode = true ∧ p.val < portCount s.dev :=
  ⟨at_ (rw (md .m5 (open2 State.reset.dev))), 0, by decide +kernel⟩

theorem wit_LinksChangeState_3 : ∃ (s : State) (p : Port) (c : Instr) (code : Nat) (count : Nat),
    (port p.val s.dev).linkUp = true ∧ WriterOpen s.dev ∧ PoolsHold s.dev ∧ ((c = .linkDown p ∧ code = Code.pcieLinkDown ∧ count = Obj.portLinkDownCount p.val ∨ c = .hotReset p ∧ code = Code.pcieHotReset ∧ count = Obj.portHotResets p.val)) :=
  ⟨at_ (b11), 1, .linkDown 1, 2819, 2102273, by unfold WriterOpen PoolsHold; decide +kernel⟩

theorem wit_LinksChangeState_4 : ∃ (s : State) (p : Port),
    configReady p.val s.dev = true ∧ WriterOpen s.dev ∧ PoolsHold s.dev :=
  ⟨at_ (b11), 0, by unfold WriterOpen PoolsHold; decide +kernel⟩

theorem wit_LinksChangeState_5 : ∃ (s : State) (p : Port) (value : Nat),
    configReady p.val s.dev = true ∧ (value % 4 = 0 ∨ value % 4 = 3) ∧ ((port p.val s.dev).held = [] ∨ value % 4 = 3) :=
  ⟨at_ (b11), 0, 0, by decide +kernel⟩

theorem wit_LinksChangeState_6 : ∃ (s : State) (p : Port),
    (port p.val s.dev).linkUp = true :=
  ⟨at_ (b11), 0, by decide +kernel⟩

theorem wit_LinksChangeState_7 : ∃ (s : State) (p : Port) (t : Nat),
    (port p.val s.dev).wakeMs = some t ∧ t + 10000 ≤ nowMs s.dev :=
  ⟨at_ (setObj (Obj.portLinkState 1) 4 (prt 1 (fun t => { t with wakeMs := some 400, aerFirst := some 4, aerHeader := 9, aerUncorrectable := 16, uncorrMs := some 499900, features := [(8, some 0x101)], msixEnable := true }) b11)), 1, 400, by decide +kernel⟩

theorem wit_LinksChangeState_8 : ∃ (s : State) (p : Port) (idle : Nat),
    (port p.val s.dev).cfg.aspmL1 = true ∧ getObj Obj.aspmIdleUs s.dev ≤ idle ∧ getObj (Obj.portLinkState p.val) s.dev ∈ [0x02, 0x03] :=
  ⟨at_ (b11), 1, 400, by decide +kernel⟩

theorem wit_LinksChangeState_9 : ∃ (s : State) (p : Port) (bme : Bool),
    configReady p.val s.dev = true ∧ (bme = false ∨ (port p.val s.dev).held = []) :=
  ⟨at_ (b11), 0, true, by decide +kernel⟩

theorem wit_ErrorsAndInterruptsAreSignalled_1 : ∃ (s : State) (p : Port) (v : Nat),
    configReady p.val s.dev = true ∧ (port p.val s.dev).msixEnable = true ∧ (port p.val s.dev).functionMask = false ∧ v ∈ (port p.val s.dev).pendingVec ∧ ((port p.val s.dev).cqs.any fun q => queueDue q.2 && q.2.vector = v) = true :=
  ⟨at_ (prt 1 (fun t => { t with msixEnable := true, masked := [3, 4], pendingVec := [3, 4] }) b11), 1, 3, by decide +kernel⟩

theorem wit_ErrorsAndInterruptsAreSignalled_2 : ∃ (s : State) (p : Port),
    configReady p.val s.dev = true ∧ (port p.val s.dev).msixEnable = true :=
  ⟨at_ (prt 1 (fun t => { t with msixEnable := true, masked := [3, 4], pendingVec := [3, 4] }) b11), 1, by decide +kernel⟩

theorem wit_ErrorsAndInterruptsAreSignalled_3 : ∃ (s : State) (p : Port),
    configReady p.val s.dev = true :=
  ⟨at_ (b11), 0, by decide +kernel⟩

theorem wit_ErrorsAndInterruptsAreSignalled_4 : ∃ (s : State) (p : Port) (e : PcieError) (b : Nat),
    (port p.val s.dev).linkUp = true ∧ errorBit e = some (true, b) :=
  ⟨at_ (b11), 0, Sys2Proof.PcieError.receiver, 0, by decide +kernel⟩

theorem wit_ErrorsAndInterruptsAreSignalled_5 : ∃ (s : State) (p : Port) (e : PcieError) (header : Nat) (b : Nat) (c : Instr) (elapsed : Nat),
    (port p.val s.dev).linkUp = true ∧ ((errorBit e = some (false, b) ∧ c = .tlpError p e header none ∨ b = 14 ∧ (port p.val s.dev).cfg.timeoutDisable = false ∧ completionTimeoutUs (port p.val s.dev).cfg.completionTimeout ≤ elapsed ∧ c = .completionTimeout p elapsed header none)) :=
  ⟨at_ (b11), 0, Sys2Proof.PcieError.receiver, 5, 14, .completionTimeout 0 60000 5 none, 60000, by decide +kernel⟩

theorem wit_ErrorsAndInterruptsAreSignalled_6 : ∃ (s : State) (p : Port) (r : ReadCmd),
    (port p.val s.dev).linkUp = true ∧ r ∈ s.dev.media.wp.reads ∧ r.port = p.val ∧ ((∀ x ∈ s.dev.media.wp.reads, x.port = r.port → x.sqid = r.sqid → x.cid = r.cid → x = r)) ∧ r.verify = false ∧ ((∀ w ∈ s.dev.media.wp.writes, ¬ (w.port = r.port ∧ w.sqid = r.sqid ∧ w.cid = r.cid))) ∧ RoomFor r.host s.dev ∧ PoolsHold s.dev :=
  ⟨at_ (rd b11), 0, { id := 4, port := 0, sqid := 1, cid := 7, slot := 1, slba := 70, nlb := 5, verify := false, fua := false, limited := false, channel := 0, context := none, fetchMs := 0, tlerMs := none, grains := [{ grain := 4, stage := ReadStage.lookup, pointer := 0 }] }, by unfold RoomFor PoolsHold; decide +kernel⟩

theorem wit_ErrorsAndInterruptsAreSignalled_7 : ∃ (s : State) (p : Port) (r : ReadCmd),
    (port p.val s.dev).linkUp = true ∧ (port p.val s.dev).bme = false ∧ r ∈ s.dev.media.wp.reads ∧ r.port = p.val ∧ ((∀ x ∈ s.dev.media.wp.reads, x.port = r.port → x.sqid = r.sqid → x.cid = r.cid → x = r)) ∧ r.verify = false ∧ ((∀ w ∈ s.dev.media.wp.writes, ¬ (w.port = r.port ∧ w.sqid = r.sqid ∧ w.cid = r.cid))) ∧ PoolsHold s.dev :=
  ⟨at_ (prt 1 (fun t => { t with bme := false }) (rdc b11)), 1, { id := 3, port := 1, sqid := 1, cid := 7, slot := 1, slba := 70, nlb := 5, verify := false, fua := false, limited := false, channel := 0, context := some 0, fetchMs := 0, tlerMs := none, grains := [{ grain := 4, stage := ReadStage.lookup, pointer := 0, buffer := some 0 }] }, by unfold PoolsHold; decide +kernel⟩

theorem wit_ErrorsAndInterruptsAreSignalled_8 : ∃ (s : State) (p : Port),
    configReady p.val s.dev = true :=
  ⟨at_ (b11), 0, by decide +kernel⟩

theorem wit_ErrorsAndInterruptsAreSignalled_9 : ∃ (s : State) (p : Port),
    configReady p.val s.dev = true :=
  ⟨at_ (b11), 0, by decide +kernel⟩

theorem wit_ErrorsAndInterruptsAreSignalled_10 : ∃ (s : State) (p : Port) (cq : Nat),
    queueDue (smGet {} (port p.val s.dev).cqs cq) = true ∧ (smGet {} (port p.val s.dev).cqs cq).coalesced ≠ 0 ∧ coalesces (port p.val s.dev) (smGet {} (port p.val s.dev).cqs cq).vector = true ∧ (port p.val s.dev).msixEnable = true :=
  ⟨at_ (setObj (Obj.portLinkState 1) 4 (prt 1 (fun t => { t with wakeMs := some 400, aerFirst := some 4, aerHeader := 9, aerUncorrectable := 16, uncorrMs := some 499900, features := [(8, some 0x101)], msixEnable := true }) b11)), 1, 1, by decide +kernel⟩

theorem wit_ControllersStartAndStop_1 : ∃ (s : State) (p : Port) (cc : Nat) (aqa : Nat),
    memoryReady p.val s.dev = true ∧ enabled (port p.val s.dev) = false ∧ ccAccepted cc aqa = true :=
  ⟨at_ (p1 (fun t => { t with cc := 0, rdy := false, sqs := [], cqs := [] }) b11), 1, 0, 4587521, by decide +kernel⟩

theorem wit_ControllersStartAndStop_2 : ∃ (s : State) (p : Port) (cc : Nat) (aqa : Nat),
    memoryReady p.val s.dev = true ∧ enabled (port p.val s.dev) = false ∧ ccAccepted cc aqa = false ∧ WriterOpen s.dev :=
  ⟨at_ (p1 (fun t => { t with cc := 0, rdy := false, sqs := [], cqs := [] }) b11), 1, 0, 0, by unfold WriterOpen; decide +kernel⟩

theorem wit_ControllersStartAndStop_3 : ∃ (s : State) (p : Port),
    memoryReady p.val s.dev = true ∧ enabled (port p.val s.dev) = true ∧ PoolsHold s.dev :=
  ⟨at_ (b11), 0, by unfold PoolsHold; decide +kernel⟩

theorem wit_ControllersStartAndStop_4 : ∃ (s : State) (p : Port),
    memoryReady p.val s.dev = true ∧ s.dev.ctl.mode ∈ [Mode.m5, .m6] ∧ higherDue s.dev = false :=
  ⟨at_ (b11), 0, by decide +kernel⟩

theorem wit_ControllersStartAndStop_5 : ∃ (s : State) (p : Port),
    memoryReady p.val s.dev = true ∧ s.dev.ctl.mode ∈ [Mode.m3, .m10] :=
  ⟨at_ (md .m3 b11), 0, by decide +kernel⟩

theorem wit_ControllersStartAndStop_6 : ∃ (s : State) (p : Port),
    memoryReady p.val s.dev = true ∧ s.dev.ctl.mode ∈ [Mode.m4, .m8] :=
  ⟨at_ (md .m4 b11), 0, by decide +kernel⟩

theorem wit_ControllersStartAndStop_7 : ∃ (s : State),
    s.dev.ctl.mode = .m7 ∧ s.dev.sub.shutdownRunning = true ∧ shutdownDone s.dev = true ∧ s.dev.media.evac = none :=
  ⟨at_ ({ md .m7 b11 with sub := { b11.sub with shutdownRunning := true } }), by decide +kernel⟩

theorem wit_ControllersStartAndStop_8 : ∃ (s : State) (p : Port) (sq : Nat) (tail : Nat),
    memoryReady p.val s.dev = true ∧ enabled (port p.val s.dev) = true ∧ (smGet {} (port p.val s.dev).sqs sq).live = true ∧ tail < (smGet {} (port p.val s.dev).sqs sq).size :=
  ⟨at_ (b11), 0, 0, 0, by decide +kernel⟩

theorem wit_ControllersStartAndStop_9 : ∃ (s : State) (p : Port) (cq : Nat) (head : Nat) (q : _) (n : _),
    memoryReady p.val s.dev = true ∧ enabled (port p.val s.dev) = true ∧ q = smGet {} (port p.val s.dev).cqs cq ∧ q.live = true ∧ head < q.size ∧ q.waiting = [] ∧ n = (head + q.size - q.head) % q.size ∧ n ≤ q.posted.length :=
  ⟨at_ (b11), 0, 0, 0, { live := true, size := 16, vector := 0, ien := true, head := 0, posted := [], coalesced := 0, waiting := [] }, 0, by decide +kernel⟩

theorem wit_ControllersStartAndStop_10 : ∃ (s : State) (p : Port) (c : Instr) (q : Nat) (v : Nat),
    memoryReady p.val s.dev = true ∧ enabled (port p.val s.dev) = true ∧ ((c = .sqTailDoorbell p q v ∧ ((smGet {} (port p.val s.dev).sqs q).live = false ∨ (smGet {} (port p.val s.dev).sqs q).size ≤ v) ∨ c = .cqHeadDoorbell p q v ∧ ((smGet {} (port p.val s.dev).cqs q).live = false ∨ (smGet {} (port p.val s.dev).cqs q).size ≤ v ∨ (smGet {} (port p.val s.dev).cqs q).posted.length < (v + (smGet {} (port p.val s.dev).cqs q).size - (smGet {} (port p.val s.dev).cqs q).head) % (smGet {} (port p.val s.dev).cqs q).size))) :=
  ⟨at_ (b11), 1, .cqHeadDoorbell 1 0 2, 0, 2, by decide +kernel⟩

theorem wit_ControllersStartAndStop_11 : ∃ (s : State) (p : Port) (kato : Nat),
    (port p.val s.dev).rdy = true ∧ (port p.val s.dev).cfs = false ∧ smGet none (port p.val s.dev).features 0x0F = some kato ∧ kato ≠ 0 ∧ (port p.val s.dev).lastAdminMs + kato ≤ nowMs s.dev ∧ PoolsHold s.dev ∧ WriterOpen s.dev :=
  ⟨at_ (p1 (fun t => { t with features := [(15, some 3000), (6, some 1), (11, some 7)], lastAdminMs := 3 }) (rd b11)), 1, 3000, by unfold PoolsHold WriterOpen; decide +kernel⟩

theorem wit_AdminCommandsComplete_1 : ∃ (s : State) (cmd : HostCmd) (qid : Nat) (size : Nat) (cqid : Nat),
    AdminReady cmd s.dev ∧ s.dev.ctl.mode ∉ [Mode.m2, .m9] ∧ (port cmd.port.val s.dev).entrySizeBad = false ∧ 1 ≤ qid ∧ qid ≤ 255 ∧ (smGet {} (port cmd.port.val s.dev).sqs qid).live = false ∧ 1 ≤ size ∧ size ≤ 4095 ∧ cqid ≠ 0 ∧ (smGet {} (port cmd.port.val s.dev).cqs cqid).live = true :=
  ⟨at_ ({ p1 (fun t => { t with cqs := smSet {} 3 { live := true, size := 4 } t.cqs }) b11 with held := [.flush { port := 1, sqid := 1, cid := 9 }, .flush { port := 2 }], delayed := [.write { port := 1, sqid := 1, cid := 4 } 0 1 false] }), { port := 1, sqid := 0, cid := 7, nsid := 0 }, 3, 1, 1, by unfold AdminReady ContextFree Fetchable RoomFor; decide +kernel⟩

theorem wit_AdminCommandsComplete_2 : ∃ (s : State) (cmd : HostCmd) (qid : Nat) (size : Nat) (vector : Nat),
    AdminReady cmd s.dev ∧ s.dev.ctl.mode ∉ [Mode.m2, .m9] ∧ (port cmd.port.val s.dev).entrySizeBad = false ∧ 1 ≤ qid ∧ qid ≤ 255 ∧ (smGet {} (port cmd.port.val s.dev).cqs qid).live = false ∧ 1 ≤ size ∧ size ≤ 4095 ∧ vector ≤ 256 :=
  ⟨at_ (b11), { port := 1, sqid := 0, cid := 7, nsid := 0 }, 4, 4, 0, by unfold AdminReady ContextFree Fetchable RoomFor; decide +kernel⟩

theorem wit_AdminCommandsComplete_3 : ∃ (s : State) (cmd : HostCmd) (qid : Nat),
    AdminReady cmd s.dev ∧ s.dev.ctl.mode ∉ [Mode.m2, .m9] ∧ qid ≠ 0 ∧ (smGet {} (port cmd.port.val s.dev).sqs qid).live = true :=
  ⟨at_ ({ p1 (fun t => { t with cqs := smSet {} 3 { live := true, size := 4 } t.cqs }) b11 with held := [.flush { port := 1, sqid := 1, cid := 9 }, .flush { port := 2 }], delayed := [.write { port := 1, sqid := 1, cid := 4 } 0 1 false] }), { port := 1, sqid := 0, cid := 7, nsid := 0 }, 1, by unfold AdminReady ContextFree Fetchable RoomFor; decide +kernel⟩

theorem wit_AdminCommandsComplete_4 : ∃ (s : State) (cmd : HostCmd) (qid : Nat),
    AdminReady cmd s.dev ∧ s.dev.ctl.mode ∉ [Mode.m2, .m9] ∧ qid ≠ 0 ∧ (smGet {} (port cmd.port.val s.dev).cqs qid).live = true ∧ ((∀ q ∈ (port cmd.port.val s.dev).sqs, q.2.live = true → q.2.cqid ≠ qid)) :=
  ⟨at_ ({ p1 (fun t => { t with cqs := smSet {} 3 { live := true, size := 4 } t.cqs }) b11 with held := [.flush { port := 1, sqid := 1, cid := 9 }, .flush { port := 2 }], delayed := [.write { port := 1, sqid := 1, cid := 4 } 0 1 false] }), { port := 1, sqid := 0, cid := 7, nsid := 0 }, 3, by unfold AdminReady ContextFree Fetchable RoomFor; decide +kernel⟩

theorem wit_AdminCommandsComplete_5 : ∃ (s : State) (cmd : HostCmd) (fid : Nat),
    AdminReady cmd s.dev ∧ s.dev.ctl.mode ∉ [Mode.m2, .m9] ∧ fid ∈ [0x01, 0x06, 0x08, 0x0A, 0x0B] :=
  ⟨at_ ({ p1 (fun t => { t with cqs := smSet {} 3 { live := true, size := 4 } t.cqs }) b11 with held := [.flush { port := 1, sqid := 1, cid := 9 }, .flush { port := 2 }], delayed := [.write { port := 1, sqid := 1, cid := 4 } 0 1 false] }), { port := 1, sqid := 0, cid := 7, nsid := 0 }, 1, by unfold AdminReady ContextFree Fetchable RoomFor; decide +kernel⟩

theorem wit_AdminCommandsComplete_6 : ∃ (s : State) (cmd : HostCmd),
    AdminReady cmd s.dev ∧ s.dev.ctl.mode ∉ [Mode.m2, .m9] ∧ (port cmd.port.val s.dev).queuesSet = false :=
  ⟨at_ (b11), { port := 1, sqid := 0, cid := 7, nsid := 0 }, by unfold AdminReady ContextFree Fetchable RoomFor; decide +kernel⟩

theorem wit_AdminCommandsComplete_7 : ∃ (s : State) (cmd : HostCmd) (value : Nat),
    AdminReady cmd s.dev ∧ s.dev.ctl.mode ∉ [Mode.m2, .m9] ∧ nsidValid cmd s.dev = true ∧ bitOf value 16 = false :=
  ⟨at_ ({ b11 with sub := { b11.sub with namespaces := [(2, { active := true, nsze := 4096, attached := 3 })] } }), { port := 1, sqid := 0, cid := 7, nsid := 3 }, 0, by unfold AdminReady ContextFree Fetchable RoomFor; decide +kernel⟩

theorem wit_AdminCommandsComplete_8 : ∃ (s : State) (cmd : HostCmd) (fid : Nat),
    AdminReady cmd s.dev ∧ s.dev.ctl.mode ∉ [Mode.m2, .m9] ∧ fid ∈ [0x01, 0x06, 0x07, 0x08, 0x0A, 0x0B, 0x0E, 0x0F] :=
  ⟨at_ ({ p1 (fun t => { t with cqs := smSet {} 3 { live := true, size := 4 } t.cqs }) b11 with held := [.flush { port := 1, sqid := 1, cid := 9 }, .flush { port := 2 }], delayed := [.write { port := 1, sqid := 1, cid := 4 } 0 1 false] }), { port := 1, sqid := 0, cid := 7, nsid := 0 }, 1, by unfold AdminReady ContextFree Fetchable RoomFor; decide +kernel⟩

theorem wit_AdminCommandsComplete_9 : ∃ (s : State) (cmd : HostCmd) (fid : Nat) (v : Nat),
    AdminReady cmd s.dev ∧ s.dev.ctl.mode ≠ .m2 ∧ fid ∈ [0x01, 0x06, 0x08, 0x0A, 0x0B, 0x0F] ∧ smGet none (port cmd.port.val s.dev).features fid = some v :=
  ⟨at_ (p1 (fun t => { t with features := [(6, some 1)] }) b11), { port := 1, cid := 7 }, 6, 1, by unfold AdminReady ContextFree Fetchable RoomFor; decide +kernel, by decide +kernel, by decide +kernel, of_decide_eq_true (by decide +kernel)⟩

theorem wit_AdminCommandsComplete_10 : ∃ (s : State) (cmd : HostCmd) (sqid : Nat) (cid : Nat),
    AdminReady cmd s.dev ∧ s.dev.ctl.mode ≠ .m2 ∧ ((∀ i ∈ s.dev.held ++ s.dev.delayed, abortTarget cmd.port.val sqid cid i = false)) :=
  ⟨at_ (b11), { port := 1, sqid := 0, cid := 7, nsid := 0 }, 0, 0, by unfold AdminReady ContextFree Fetchable RoomFor; decide +kernel⟩

theorem wit_AdminCommandsComplete_11 : ∃ (s : State) (cmd : HostCmd) (x : HostCmd) (i : Instr),
    AdminReady cmd s.dev ∧ s.dev.ctl.mode ≠ .m2 ∧ i ∈ s.dev.held ++ s.dev.delayed ∧ hostOf i = some x ∧ x.port = cmd.port ∧ ((∀ j ∈ s.dev.held ++ s.dev.delayed, abortTarget x.port.val x.sqid x.cid j = true → j = i)) ∧ cqOf x s.dev ≠ 0 ∧ RoomFor x s.dev :=
  ⟨at_ ({ p1 (fun t => { t with cqs := smSet {} 3 { live := true, size := 4 } t.cqs }) b11 with held := [.flush { port := 1, sqid := 1, cid := 9 }, .flush { port := 2 }], delayed := [.write { port := 1, sqid := 1, cid := 4 } 0 1 false] }), { port := 1, sqid := 0, cid := 7, nsid := 0 }, { port := 1, sqid := 1, cid := 9, nsid := 0 }, .flush { port := 1, sqid := 1, cid := 9, nsid := 0 }, by unfold AdminReady ContextFree Fetchable RoomFor; decide +kernel, by decide +kernel, by decide +kernel, of_decide_eq_true (by decide +kernel), by decide +kernel, by decide +kernel, of_decide_eq_true (by decide +kernel), by unfold RoomFor; decide +kernel⟩

theorem wit_AdminCommandsComplete_12 : ∃ (s : State) (cmd : HostCmd),
    AdminReady cmd s.dev ∧ s.dev.ctl.mode ≠ .m2 ∧ (port cmd.port.val s.dev).aers.length < 8 ∧ (port cmd.port.val s.dev).events = [] :=
  ⟨at_ (b11), { port := 1, sqid := 0, cid := 7, nsid := 0 }, by unfold AdminReady ContextFree Fetchable RoomFor; decide +kernel⟩

theorem wit_AdminCommandsComplete_13 : ∃ (s : State) (cmd : HostCmd) (e : AsyncEvent),
    AdminReady cmd s.dev ∧ s.dev.ctl.mode ≠ .m2 ∧ (port cmd.port.val s.dev).aers = [] ∧ (port cmd.port.val s.dev).events = [e] ∧ (port cmd.port.val s.dev).eventsMasked = [] ∧ eventEnabled cmd.port.val e s.dev = true :=
  ⟨at_ (p1 (fun t => { t with events := [{ typ := 1, info := 2, page := 2 }] }) b11), { port := 1, sqid := 0, cid := 7, nsid := 0 }, { typ := 1, info := 2, page := 2 }, by unfold AdminReady ContextFree Fetchable RoomFor; decide +kernel⟩

theorem wit_AdminCommandsComplete_14 : ∃ (s : State) (cmd : HostCmd),
    AdminReady cmd s.dev :=
  ⟨at_ (b11), { port := 1, sqid := 0, cid := 7, nsid := 0 }, by unfold AdminReady ContextFree Fetchable RoomFor; decide +kernel⟩

theorem wit_AdminCommandsComplete_15 : ∃ (s : State) (cmd : HostCmd),
    (AdminReady cmd s.dev ∧ s.dev.ctl.mode ≠ .m9 ∨ IoReady cmd s.dev ∧ ContextFree cmd s.dev) :=
  ⟨at_ (b11), { port := 1, sqid := 0, cid := 7, nsid := 0 }, Or.inl (by unfold AdminReady Fetchable ContextFree RoomFor; decide +kernel)⟩

theorem wit_AdminCommandsComplete_16 : ∃ (s : State) (cmd : HostCmd) (cns : Nat) (cntid : Nat) (csi : Nat) (bs : List Byte),
    AdminReady cmd s.dev ∧ identifyPage cmd cns cntid csi (takeEntry cmd.port.val 0 s.dev) = .ok bs :=
  let ⟨v, h⟩ := ok_ex (x := identifyPage { port := 1, cid := 7 } 1 1 1 (takeEntry 1 0 b11)) (by decide +kernel)
  ⟨at_ (b11), { port := 1, cid := 7 }, 1, 1, 1, v, by unfold AdminReady ContextFree Fetchable RoomFor; decide +kernel, h⟩

theorem wit_AdminCommandsComplete_17 : ∃ (s : State) (cmd : HostCmd) (lid : Nat) (offset : Nat) (create : Bool) (x : _),
    AdminReady cmd s.dev ∧ (lid ≠ 0x02 ∨ cmd.nsid = 0) ∧ lid ≠ 0xC0 ∧ offset % 4 = 0 ∧ logPage cmd lid (beforePage cmd lid offset create (takeEntry cmd.port.val 0 s.dev)) = some x ∧ offset ≤ x.1 :=
  by
    refine ⟨at_ (b11), { port := 1, cid := 7 }, 4, 0, false, _, by unfold AdminReady ContextFree Fetchable RoomFor; decide +kernel, by decide +kernel, by decide +kernel, of_decide_eq_true (by decide +kernel), some_get ?_, Nat.zero_le _⟩
    decide +kernel

theorem wit_NamespacesLiveAndDie_1 : ∃ (s : State) (cmd : HostCmd) (slot : Nat) (nsze : Nat) (flbas : Nat) (dps : Nat) (parity : Nat),
    AdminReady cmd s.dev ∧ s.dev.ctl.mode ∉ [Mode.m2, .m8, .m9] ∧ s.dev.settings.lost = false ∧ nsze ≠ 0 ∧ parity ≤ 2 ∧ flbas % 16 ≤ 2 ∧ flbas < 32 ∧ protectionOk flbas dps = true ∧ slot < 1024 ∧ slot ∉ slotsInUse s.dev ∧ ((∀ k, k < slot → k ∈ slotsInUse s.dev)) ∧ roomFor nsze s.dev = true ∧ s.dev.sec.used < 1364 ∧ s.dev.media.map.waits = [] ∧ journalFull s.dev = false ∧ WriterOpen s.dev :=
  ⟨at_ (n11), { port := 1, sqid := 0, cid := 7, nsid := 0 }, 0, 1, 0, 0, 0, by unfold AdminReady WriterOpen ContextFree Fetchable RoomFor; decide +kernel⟩

theorem wit_NamespacesLiveAndDie_2 : ∃ (s : State) (cmd : HostCmd),
    AdminReady cmd s.dev ∧ s.dev.ctl.mode ∉ [Mode.m2, .m8, .m9] ∧ s.dev.settings.lost = false ∧ nsActive cmd s.dev = true :=
  ⟨at_ (n11), { port := 1, sqid := 0, cid := 7, nsid := 3 }, by unfold AdminReady ContextFree Fetchable RoomFor; decide +kernel⟩

theorem wit_NamespacesLiveAndDie_3 : ∃ (s : State) (cmd : HostCmd) (ids : List Nat),
    AdminReady cmd s.dev ∧ s.dev.ctl.mode ∉ [Mode.m2, .m9] ∧ nsActive cmd s.dev = true ∧ attachFault cmd true ids s.dev = none :=
  ⟨at_ (ns (fun n => { n with attached := 0 }) n11), { port := 1, sqid := 0, cid := 7, nsid := 3 }, [1], by unfold AdminReady ContextFree Fetchable RoomFor; decide +kernel⟩

theorem wit_NamespacesLiveAndDie_4 : ∃ (s : State) (cmd : HostCmd) (ids : List Nat),
    AdminReady cmd s.dev ∧ s.dev.ctl.mode ∉ [Mode.m2, .m9] ∧ nsActive cmd s.dev = true ∧ attachFault cmd false ids s.dev = none :=
  ⟨at_ (n11), { port := 1, sqid := 0, cid := 7, nsid := 3 }, [1], by unfold AdminReady ContextFree Fetchable RoomFor; decide +kernel⟩

theorem wit_NamespacesLiveAndDie_5 : ∃ (s : State) (cmd : HostCmd) (flbas : Nat) (dps : Nat) (ses : Nat),
    AdminReady cmd s.dev ∧ s.dev.ctl.mode ∉ [Mode.m2, .m8, .m9] ∧ nsActive cmd s.dev = true ∧ (namespace_ (slotOf cmd) s.dev).formatting = false ∧ s.dev.settings.lost = false ∧ flbas % 16 ≤ 2 ∧ protectionOk flbas dps = true ∧ ses ≤ 2 ∧ (ses = 0 ∨ getObj Obj.destructiveNeedsAuth s.dev ≠ 1 ∨ grantFor (cmd.port.val + 1) 2 0x80 s.dev = true) :=
  ⟨at_ (n11), { port := 1, sqid := 0, cid := 7, nsid := 3 }, 0, 0, 0, by unfold AdminReady ContextFree Fetchable RoomFor; decide +kernel⟩

theorem wit_NamespacesLiveAndDie_6 : ∃ (s : State) (cmd : HostCmd) (ses : Nat),
    AdminReady cmd s.dev ∧ s.dev.ctl.mode ∉ [Mode.m2, .m8, .m9] ∧ nsActive cmd s.dev = true ∧ (namespace_ (slotOf cmd) s.dev).formatting = false ∧ s.dev.settings.lost = false ∧ ses ∈ [1, 2] ∧ getObj Obj.destructiveNeedsAuth s.dev = 1 ∧ grantFor (cmd.port.val + 1) 2 0x80 s.dev = false :=
  ⟨at_ (setObj Obj.destructiveNeedsAuth 1 n11), { port := 1, sqid := 0, cid := 7, nsid := 3 }, 1, by unfold AdminReady ContextFree Fetchable RoomFor; decide +kernel⟩

theorem wit_FirmwareIsStagedAndCommitted_1 : ∃ (s : State) (cmd : HostCmd) (offset : Nat) (bytes : Nat),
    AdminReady cmd s.dev ∧ s.dev.ctl.mode ∉ [Mode.m2, .m9] ∧ offset % 4096 = 0 ∧ bytes % 4096 = 0 ∧ offset + bytes ≤ 25165824 :=
  ⟨at_ (run1 n11), { port := 1, sqid := 0, cid := 7, nsid := 0 }, 0, 0, by unfold AdminReady ContextFree Fetchable RoomFor; decide +kernel⟩

theorem wit_FirmwareIsStagedAndCommitted_2 : ∃ (s : State) (cmd : HostCmd) (c : Instr) (action : Nat) (slot : Nat) (named : Nat) (code : Nat) (x : Component),
    AdminReady cmd s.dev ∧ s.dev.ctl.mode ∉ [Mode.m2, .m8, .m9] ∧ ((c = .firmwareCommitReplace cmd slot ∧ action = 0 ∨ c = .firmwareCommitActivate cmd slot ∧ action = 1)) ∧ s.dev.cs.jobs = [] ∧ slot ≤ 2 ∧ named = (if slot = 0 then otherSlot s.dev else slot) ∧ named ≠ s.dev.cs.running ∧ stagedImage cmd.port.val s.dev = some (code, x) ∧ code ≠ 5 ∧ slotWorn named s.dev = false :=
  ⟨at_ (stg (run1 n11)), { port := 1, sqid := 0, cid := 7, nsid := 0 }, .firmwareCommitReplace { port := 1, sqid := 0, cid := 7, nsid := 0 } 0, 0, 0, 2, 2, { present := false, version := 9, securityVersion := 0, declaredMin := 0, signingKey := 0, revokeKeys := 0, headerOk := true, keyOk := true, signatureOk := true, length := 4096, compat := [], settingsFrom := 1, settingsWritten := 1, profileOk := true, entries := [], payload := { generation := 1, serial := [], subVendor := 7787, subId := 1, oui := 0, vpd := [], totals := [] } }, by unfold AdminReady ContextFree Fetchable RoomFor; decide +kernel⟩

theorem wit_FirmwareIsStagedAndCommitted_3 : ∃ (s : State) (j : CommitJob),
    s.dev.cs.jobs = [j] ∧ j.started = true ∧ j.dropped = false ∧ j.code ∈ [1, 2, 3, 4] ∧ j.target ∈ [1, 2] ∧ RoomFor j.cmd s.dev ∧ WriterOpen s.dev :=
  ⟨at_ (job 0 (stg (run1 n11))), { cmd := { port := 1, sqid := 0, cid := 7, nsid := 0 }, action := 0, slot := 0, started := true, code := 2, comp := { present := false, version := 9, securityVersion := 0, declaredMin := 0, signingKey := 0, revokeKeys := 0, headerOk := true, keyOk := true, signatureOk := true, length := 4096, compat := [], settingsFrom := 1, settingsWritten := 1, profileOk := true, entries := [], payload := { generation := 1, serial := [], subVendor := 7787, subId := 1, oui := 0, vpd := [], totals := [] } }, target := 2, dropped := false }, by unfold RoomFor WriterOpen; decide +kernel⟩

theorem wit_FirmwareIsStagedAndCommitted_4 : ∃ (s : State) (j : CommitJob) (f : StoreFailure),
    s.dev.cs.jobs = [j] ∧ j.started = true ∧ j.dropped = false ∧ f.recovered = false ∧ RoomFor j.cmd s.dev :=
  ⟨at_ (job 0 (stg (run1 n11))), { cmd := { port := 1, sqid := 0, cid := 7, nsid := 0 }, action := 0, slot := 0, started := true, code := 2, comp := { present := false, version := 9, securityVersion := 0, declaredMin := 0, signingKey := 0, revokeKeys := 0, headerOk := true, keyOk := true, signatureOk := true, length := 4096, compat := [], settingsFrom := 1, settingsWritten := 1, profileOk := true, entries := [], payload := { generation := 1, serial := [], subVendor := 7787, subId := 1, oui := 0, vpd := [], totals := [] } }, target := 2, dropped := false }, { block := 600, kind := 1, recovered := false }, by unfold RoomFor; decide +kernel⟩

theorem wit_FirmwareIsStagedAndCommitted_5 : ∃ (s : State) (cmd : HostCmd) (slot : Nat) (named : Nat),
    AdminReady cmd s.dev ∧ s.dev.ctl.mode ∉ [Mode.m2, .m8, .m9] ∧ s.dev.cs.jobs = [] ∧ slot ≤ 2 ∧ named = (if slot = 0 then otherSlot s.dev else slot) ∧ (named = s.dev.cs.running ∨ (fwSlot named s.dev).holds = true) :=
  ⟨at_ (run1 n11), { port := 1, sqid := 0, cid := 7, nsid := 0 }, 1, 1, by unfold AdminReady ContextFree Fetchable RoomFor; decide +kernel⟩

theorem wit_FirmwareIsStagedAndCommitted_6 : ∃ (s : State) (cmd : HostCmd),
    AdminReady cmd s.dev ∧ s.dev.ctl.mode ∉ [Mode.m8, .m9] ∧ s.dev.cs.jobs = [] :=
  ⟨at_ (run1 n11), { port := 1, sqid := 0, cid := 7, nsid := 0 }, by unfold AdminReady ContextFree Fetchable RoomFor; decide +kernel⟩

theorem wit_SanitizeRunsInM9_1 : ∃ (s : State) (cmd : HostCmd) (c : Instr) (action : Nat) (ause : Bool),
    AdminReady cmd s.dev ∧ s.dev.ctl.mode ∈ [Mode.m5, .m6] ∧ higherDue s.dev = false ∧ PoolsHold s.dev ∧ ((c = .sanitizeBlockErase cmd ause ∧ action = 2 ∨ c = .sanitizeCryptoErase cmd ause ∧ action = 4)) ∧ s.dev.settings.lost = false ∧ (getObj Obj.destructiveNeedsAuth s.dev ≠ 1 ∨ grantFor (cmd.port.val + 1) 2 0x84 s.dev = true) ∧ ((∀ w ∈ s.dev.media.wp.writes, cqOf w.host s.dev ≠ 0)) ∧ ((∀ f ∈ s.dev.media.wp.flushes, f.sqid ≠ 0 ∧ (smGet {} (port f.port s.dev).sqs f.sqid).cqid ≠ 0)) :=
  ⟨at_ (n11), { port := 1, sqid := 0, cid := 7, nsid := 0 }, .sanitizeBlockErase { port := 1, sqid := 0, cid := 7, nsid := 0 } true, 2, true, by unfold AdminReady PoolsHold ContextFree Fetchable RoomFor; decide +kernel⟩

theorem wit_SanitizeRunsInM9_2 : ∃ (s : State) (cmd : HostCmd) (c : Instr) (ause : Bool),
    AdminReady cmd s.dev ∧ s.dev.ctl.mode ∈ [Mode.m5, .m6] ∧ c ∈ ([.sanitizeBlockErase cmd ause, .sanitizeCryptoErase cmd ause, .sanitizeExitFailure cmd] : List Instr) ∧ s.dev.settings.lost = false ∧ getObj Obj.destructiveNeedsAuth s.dev = 1 ∧ grantFor (cmd.port.val + 1) 2 0x84 s.dev = false :=
  ⟨at_ (setObj Obj.destructiveNeedsAuth 1 n11), { port := 1, sqid := 0, cid := 7, nsid := 0 }, .sanitizeBlockErase { port := 1, sqid := 0, cid := 7, nsid := 0 } true, true, by unfold AdminReady ContextFree Fetchable RoomFor; decide +kernel⟩

theorem wit_SanitizeRunsInM9_3 : ∃ (s : State) (cmd : HostCmd),
    AdminReady cmd s.dev ∧ s.dev.ctl.mode ∈ [Mode.m5, .m6] ∧ higherDue s.dev = false ∧ s.dev.settings.lost = false ∧ (getObj Obj.destructiveNeedsAuth s.dev ≠ 1 ∨ grantFor (cmd.port.val + 1) 2 0x84 s.dev = true) :=
  ⟨at_ (n11), { port := 1, sqid := 0, cid := 7, nsid := 0 }, by unfold AdminReady ContextFree Fetchable RoomFor; decide +kernel⟩

theorem wit_SanitizeRunsInM9_4 : ∃ (s : State) (cmd : HostCmd),
    AdminReady cmd s.dev ∧ s.dev.ctl.mode ∉ [Mode.m2, .m8, .m9] :=
  ⟨at_ (n11), { port := 1, sqid := 0, cid := 7, nsid := 0 }, by unfold AdminReady ContextFree Fetchable RoomFor; decide +kernel⟩

theorem wit_SanitizeRunsInM9_5 : ∃ (s : State),
    s.dev.ctl.mode = .m9 ∧ s.dev.sec.san.action ≠ 0 ∧ s.dev.sec.san.failed = false ∧ s.dev.sec.san.complete = false ∧ s.dev.sec.san.step = 4 ∧ s.dev.sub.shutdownRunning = false :=
  ⟨at_ (md .m9 (san (fun r => { r with action := 4, step := 4 }) (wr n11))), by decide +kernel⟩

theorem wit_SanitizeRunsInM9_6 : ∃ (s : State),
    s.dev.ctl.mode = .m9 ∧ s.dev.sec.san.action ≠ 0 ∧ s.dev.sec.san.failed = false ∧ s.dev.sec.san.complete = false ∧ s.dev.sub.shutdownRunning = false :=
  ⟨at_ (md .m9 (san (fun r => { r with action := 4, step := 4 }) (wr n11))), by decide +kernel⟩

theorem wit_IoCommandsAreServed_1 : ∃ (s : State) (cmd : HostCmd) (slba : Nat) (nlb : Nat),
    IoReady cmd s.dev ∧ BlocksOk cmd slba nlb .writes s.dev ∧ WriteOk cmd s.dev ∧ nlb ≤ 512 ∧ nlb * (4096 + 16) ≤ 2097152 :=
  ⟨at_ (n13), { port := 1, sqid := 1, cid := 7, nsid := 3 }, 0, 0, by unfold IoReady BlocksOk WriteOk Fetchable CanTake RoomFor; decide +kernel⟩

theorem wit_IoCommandsAreServed_2 : ∃ (s : State) (cmd : HostCmd) (c : Instr) (g : Nat) (n : Nat) (fua : Bool),
    IoReady cmd s.dev ∧ BlocksOk cmd (16 * g) (16 * n) .writes s.dev ∧ WriteOk cmd s.dev ∧ n ≠ 0 ∧ journalFull s.dev = false ∧ s.dev.media.wp.writes = [] ∧ s.dev.media.map.waits = [] ∧ ((∀ i, i < n → (mapPage (slotOf cmd) (pageOf (g + i)) s.dev).resident = true)) ∧ ((c = .writeZeroes cmd (16 * g) (16 * n) fua [] ∨ c = .datasetManagement cmd [(16 * g, 16 * n)] true)) :=
  ⟨at_ (mapped n13), { port := 1, sqid := 1, cid := 7, nsid := 3 }, .writeZeroes { port := 1, sqid := 1, cid := 7, nsid := 3 } 0 64 true [], 0, 4, true, by unfold IoReady BlocksOk WriteOk Fetchable CanTake RoomFor; decide +kernel⟩

theorem wit_IoCommandsAreServed_3 : ∃ (s : State) (cmd : HostCmd) (ranges : List (Nat × Nat)),
    IoReady cmd s.dev ∧ ranges.length ≤ 256 ∧ BlocksOk cmd 0 (ranges.foldl (fun m r => max m (r.1 + r.2)) 0) .writes s.dev :=
  ⟨at_ (n13), { port := 1, sqid := 1, cid := 7, nsid := 3 }, [(0, 1), (5, 70)], by unfold IoReady BlocksOk Fetchable RoomFor; decide +kernel⟩

theorem wit_IoCommandsAreServed_4 : ∃ (s : State) (cmd : HostCmd),
    IoReady cmd s.dev ∧ CanTake (cmd.port.val + 1) 2 1 s.dev ∧ PoolsHold s.dev ∧ (cmd.nsid = 0xFFFFFFFF ∨ BlocksOk cmd 0 0 .writes s.dev) ∧ s.dev.media.wp.flushes = [] ∧ ((∀ w ∈ s.dev.media.wp.writes, w.completed = false)) :=
  ⟨at_ (n13), { port := 1, sqid := 1, cid := 7, nsid := 3 }, by unfold IoReady CanTake PoolsHold BlocksOk Fetchable RoomFor; decide +kernel⟩

theorem wit_IoCommandsAreServed_5 : ∃ (s : State) (cmd : HostCmd) (w : WriteCmd),
    IoReady cmd s.dev ∧ CanTake (cmd.port.val + 1) 2 1 s.dev ∧ PoolsHold s.dev ∧ (cmd.nsid = 0xFFFFFFFF ∨ BlocksOk cmd 0 0 .writes s.dev) ∧ s.dev.media.wp.flushes = [] ∧ w ∈ s.dev.media.wp.writes ∧ w.completed = true ∧ durable w s.dev = false ∧ (cmd.nsid = 0xFFFFFFFF ∨ w.slot = slotOf cmd) ∧ ((∀ x ∈ s.dev.media.wp.writes, x.id = w.id → x = w)) :=
  ⟨at_ (wrr true (mapped n13)), { port := 1, sqid := 1, cid := 7, nsid := 3 }, { id := 1, port := 1, sqid := 1, cid := 4, slot := 2, slba := 0, nlb := 0, kind := 0, fua := false, buffered := false, channel := 0, context := none, landing := [], landed := true, dropped := false, completed := true, unmaps := [(3, 1, some 900)] }, by unfold IoReady CanTake PoolsHold BlocksOk Fetchable RoomFor; decide +kernel⟩

theorem wit_IoCommandsAreServed_6 : ∃ (s : State) (cmd : HostCmd) (c : Instr) (slba : Nat) (nlb : Nat) (fua : Bool) (limited : Bool) (verify : Bool) (x : DataPointers),
    IoReady cmd s.dev ∧ BlocksOk cmd slba nlb .reads s.dev ∧ nlb ≠ 0 ∧ nlb ≤ 512 ∧ nlb * (4096 + 16) ≤ 2097152 ∧ CanTake (cmd.port.val + 1) 2 1 s.dev ∧ s.dev.media.wp.writes = [] ∧ s.dev.media.flight = [] ∧ channelLoad (pickChannel s.dev) s.dev = 0 ∧ ((∀ r ∈ s.dev.media.wp.reads, r.id ≠ s.dev.media.wp.nextId)) ∧ s.dev.ctl.mode ∉ [Mode.m10, .m11] ∧ ((∀ g, 16 * g < slba + nlb → slba < 16 * (g + 1) → mapEntry (slotOf cmd) g s.dev = 0 ∧ lookupReady (slotOf cmd) g s.dev = true)) ∧ ((c = .read cmd slba nlb fua limited x ∧ pointerFault cmd.port.val (transferBytes (slotOf cmd) nlb s.dev) x s.dev = none ∧ verify = false ∨ c = .verify cmd slba nlb limited ∧ verify = true)) :=
  ⟨at_ (mapped n13), { port := 1, sqid := 1, cid := 7, nsid := 3 }, .read { port := 1, sqid := 1, cid := 7, nsid := 3 } 20 4 false false {}, 20, 4, false, false, false, {}, by unfold IoReady Fetchable RoomFor; decide +kernel, by unfold BlocksOk; decide +kernel, by decide +kernel, by decide +kernel, of_decide_eq_true (by decide +kernel), by unfold CanTake; decide +kernel, by decide +kernel, by decide +kernel, of_decide_eq_true (by decide +kernel), by decide +kernel, by decide +kernel, fun g h1 h2 => (by obtain rfl : g = 1 := (by omega); decide +kernel), Or.inl ⟨rfl, by decide +kernel, rfl⟩⟩

theorem wit_IoCommandsAreServed_7 : ∃ (s : State) (cmd : HostCmd) (c : Instr) (slba : Nat) (nlb : Nat) (limited : Bool) (verify : Bool) (x : DataPointers),
    IoReady cmd s.dev ∧ BlocksOk cmd slba nlb .reads s.dev ∧ nlb ≠ 0 ∧ slba / 16 = (slba + nlb - 1) / 16 ∧ CanTake (cmd.port.val + 1) 2 1 s.dev ∧ s.dev.media.wp.writes = [] ∧ s.dev.media.flight = [] ∧ ((∀ r ∈ s.dev.media.wp.reads, r.id ≠ s.dev.media.wp.nextId)) ∧ lookupReady (slotOf cmd) (slba / 16) s.dev = true ∧ classify (mapEntry (slotOf cmd) (slba / 16) s.dev) s.dev = .pointer ∧ frameRangeBad (mapEntry (slotOf cmd) (slba / 16) s.dev) s.dev = false ∧ ((c = .read cmd slba nlb false limited x ∧ pointerFault cmd.port.val (transferBytes (slotOf cmd) nlb s.dev) x s.dev = none ∧ verify = false ∨ c = .verify cmd slba nlb limited ∧ verify = true)) :=
  ⟨at_ (mapped n13), { port := 1, sqid := 1, cid := 7, nsid := 3 }, .read { port := 1, sqid := 1, cid := 7, nsid := 3 } 0 4 false true {}, 0, 4, true, false, {}, by unfold IoReady BlocksOk CanTake Fetchable RoomFor; decide +kernel⟩

theorem wit_IoCommandsAreServed_8 : ∃ (s : State) (cmd : HostCmd),
    cmd.sqid ≠ 0 ∧ Fetchable cmd s.dev ∧ ContextFree cmd s.dev ∧ s.dev.ctl.mode = .m8 :=
  ⟨at_ (md .m8 (mapped n13)), { port := 1, sqid := 1, cid := 7, nsid := 3 }, by unfold Fetchable ContextFree RoomFor; decide +kernel⟩

theorem wit_IoCommandsAreServed_9 : ∃ (s : State) (cmd : HostCmd),
    cmd.sqid ≠ 0 ∧ Fetchable cmd s.dev ∧ ContextFree cmd s.dev ∧ s.dev.ctl.mode = .m9 :=
  ⟨at_ (md .m9 (mapped n13)), { port := 1, sqid := 1, cid := 7, nsid := 3 }, by unfold Fetchable ContextFree RoomFor; decide +kernel⟩

theorem wit_IoCommandsAreServed_10 : ∃ (s : State) (cmd : HostCmd),
    cmd.sqid ≠ 0 ∧ Fetchable cmd s.dev ∧ ContextFree cmd s.dev ∧ s.dev.ctl.mode ∉ [Mode.m8, .m9] ∧ s.dev.sec.san.failed = true :=
  ⟨at_ ({ mapped n13 with sec := { n13.sec with san := { failed := true, action := 2 } } }), { port := 1, sqid := 1, cid := 7, nsid := 3 }, by unfold Fetchable ContextFree RoomFor; decide +kernel⟩

theorem wit_IoCommandsAreServed_11 : ∃ (s : State) (cmd : HostCmd),
    cmd.sqid ≠ 0 ∧ Fetchable cmd s.dev ∧ ContextFree cmd s.dev ∧ s.dev.ctl.mode ∉ [Mode.m8, .m9] ∧ s.dev.sec.san.failed = false ∧ nsidValid cmd s.dev = false ∧ cmd.nsid ≠ 0xFFFFFFFF :=
  ⟨at_ (n13), { port := 1, sqid := 1, cid := 7, nsid := 9 }, by unfold Fetchable ContextFree RoomFor; decide +kernel⟩

theorem wit_IoCommandsAreServed_12 : ∃ (s : State) (cmd : HostCmd) (slba : Nat) (nlb : Nat),
    IoReady cmd s.dev ∧ nsidValid cmd s.dev = true ∧ nlb ≤ 512 ∧ nlb * (4096 + 16) ≤ 2097152 ∧ (namespace_ (slotOf cmd) s.dev).nsze < slba + nlb :=
  ⟨at_ (n13), { port := 1, sqid := 1, cid := 7, nsid := 3 }, 4095, 4, by unfold IoReady Fetchable RoomFor; decide +kernel, by decide +kernel, by decide +kernel, of_decide_eq_true (by decide +kernel), by decide +kernel⟩

theorem wit_ReservationsAreKept_1 : ∃ (s : State) (cmd : HostCmd) (n : Namespace) (h : BitVec 128),
    IoReady cmd s.dev ∧ ContextFree cmd s.dev ∧ nsidValid cmd s.dev = true ∧ n = namespace_ (slotOf cmd) s.dev ∧ h = (port cmd.port.val s.dev).hostId ∧ n.formatting = false ∧ h ≠ 0 ∧ keyOf n h = none ∧ n.registrants.length < 8 :=
  ⟨at_ (hid n11), { port := 1, sqid := 1, cid := 7, nsid := 3 }, { active := true, formatting := false, flbas := 0, dps := 0, nmic := 0, parity := 1, ptpl := false, keySlot := 4, nsze := 4096, creation := 0, attached := 3, resType := 0, holder := none, prgen := 0, registrants := [], tler := 0, resMask := 0 }, 0x0000000000000000000000000000004d#128, by unfold IoReady ContextFree Fetchable RoomFor; decide +kernel⟩

theorem wit_ReservationsAreKept_2 : ∃ (s : State) (cmd : HostCmd) (current : Nat) (n : Namespace) (h : BitVec 128),
    IoReady cmd s.dev ∧ ContextFree cmd s.dev ∧ nsidValid cmd s.dev = true ∧ n = namespace_ (slotOf cmd) s.dev ∧ h = (port cmd.port.val s.dev).hostId ∧ n.formatting = false ∧ h ≠ 0 ∧ keyOf n h = some current :=
  ⟨at_ (hid (ns (fun n => { n with registrants := [r77] }) n11)), { port := 1, sqid := 1, cid := 7, nsid := 3 }, 5, { active := true, formatting := false, flbas := 0, dps := 0, nmic := 0, parity := 1, ptpl := false, keySlot := 4, nsze := 4096, creation := 0, attached := 3, resType := 0, holder := none, prgen := 0, registrants := [{ hostId := 0x0000000000000000000000000000004d#128, key := 5, ctrl := 2 }], tler := 0, resMask := 0 }, 0x0000000000000000000000000000004d#128, by unfold IoReady ContextFree Fetchable RoomFor; decide +kernel⟩

theorem wit_ReservationsAreKept_3 : ∃ (s : State) (cmd : HostCmd) (rtype : Nat) (current : Nat) (n : Namespace) (h : BitVec 128),
    IoReady cmd s.dev ∧ ContextFree cmd s.dev ∧ nsidValid cmd s.dev = true ∧ n = namespace_ (slotOf cmd) s.dev ∧ h = (port cmd.port.val s.dev).hostId ∧ n.formatting = false ∧ h ≠ 0 ∧ keyOf n h = some current ∧ 1 ≤ rtype ∧ rtype ≤ 6 :=
  ⟨at_ (hid (ns (fun n => { n with registrants := [r77] }) n11)), { port := 1, sqid := 1, cid := 7, nsid := 3 }, 1, 5, { active := true, formatting := false, flbas := 0, dps := 0, nmic := 0, parity := 1, ptpl := false, keySlot := 4, nsze := 4096, creation := 0, attached := 3, resType := 0, holder := none, prgen := 0, registrants := [{ hostId := 0x0000000000000000000000000000004d#128, key := 5, ctrl := 2 }], tler := 0, resMask := 0 }, 0x0000000000000000000000000000004d#128, by unfold IoReady ContextFree Fetchable RoomFor; decide +kernel⟩

theorem wit_ReservationsAreKept_4 : ∃ (s : State) (cmd : HostCmd) (rtype : Nat) (current : Nat) (victim : Nat) (v : Registrant) (n : Namespace) (h : BitVec 128),
    IoReady cmd s.dev ∧ ContextFree cmd s.dev ∧ nsidValid cmd s.dev = true ∧ n = namespace_ (slotOf cmd) s.dev ∧ h = (port cmd.port.val s.dev).hostId ∧ n.formatting = false ∧ h ≠ 0 ∧ keyOf n h = some current ∧ 1 ≤ rtype ∧ rtype ≤ 6 ∧ n.resType ∉ [0, 5, 6] ∧ victim ≠ 0 ∧ v ∈ n.registrants ∧ n.holder = some v.hostId ∧ v.key = victim ∧ v.hostId ≠ h ∧ ((∀ r ∈ n.registrants, r.hostId = v.hostId → r = v)) :=
  ⟨at_ (hid (ns (fun n => { n with registrants := [r88, r77], resType := 2, holder := some 88 }) n11)), { port := 1, sqid := 1, cid := 7, nsid := 3 }, 1, 5, 9, { hostId := 0x00000000000000000000000000000058#128, key := 9, ctrl := 1 }, { active := true, formatting := false, flbas := 0, dps := 0, nmic := 0, parity := 1, ptpl := false, keySlot := 4, nsze := 4096, creation := 0, attached := 3, resType := 2, holder := some 0x00000000000000000000000000000058#128, prgen := 0, registrants := [{ hostId := 0x00000000000000000000000000000058#128, key := 9, ctrl := 1 }, { hostId := 0x0000000000000000000000000000004d#128, key := 5, ctrl := 2 }], tler := 0, resMask := 0 }, 0x0000000000000000000000000000004d#128, by unfold IoReady ContextFree Fetchable RoomFor; decide +kernel⟩

theorem wit_ReservationsAreKept_5 : ∃ (s : State) (cmd : HostCmd) (rtype : Nat) (current : Nat) (n : Namespace) (h : BitVec 128),
    IoReady cmd s.dev ∧ ContextFree cmd s.dev ∧ nsidValid cmd s.dev = true ∧ n = namespace_ (slotOf cmd) s.dev ∧ h = (port cmd.port.val s.dev).hostId ∧ n.formatting = false ∧ h ≠ 0 ∧ keyOf n h = some current ∧ holdsReservation n h = true ∧ rtype = n.resType :=
  ⟨at_ (hid (ns (fun n => { n with registrants := [r88, r77], resType := 3, holder := some 77 }) n11)), { port := 1, sqid := 1, cid := 7, nsid := 3 }, 3, 5, { active := true, formatting := false, flbas := 0, dps := 0, nmic := 0, parity := 1, ptpl := false, keySlot := 4, nsze := 4096, creation := 0, attached := 3, resType := 3, holder := some 0x0000000000000000000000000000004d#128, prgen := 0, registrants := [{ hostId := 0x00000000000000000000000000000058#128, key := 9, ctrl := 1 }, { hostId := 0x0000000000000000000000000000004d#128, key := 5, ctrl := 2 }], tler := 0, resMask := 0 }, 0x0000000000000000000000000000004d#128, by unfold IoReady ContextFree Fetchable RoomFor; decide +kernel⟩

theorem wit_ReservationsAreKept_6 : ∃ (s : State) (cmd : HostCmd) (bytes : Nat) (n : Namespace),
    IoReady cmd s.dev ∧ ContextFree cmd s.dev ∧ nsidValid cmd s.dev = true ∧ n = namespace_ (slotOf cmd) s.dev ∧ (port cmd.port.val s.dev).hostId ≠ 0 ∧ n.formatting = false ∧ 64 ≤ bytes :=
  ⟨at_ (hid n11), { port := 1, sqid := 1, cid := 7, nsid := 3 }, 64, { active := true, formatting := false, flbas := 0, dps := 0, nmic := 0, parity := 1, ptpl := false, keySlot := 4, nsze := 4096, creation := 0, attached := 3, resType := 0, holder := none, prgen := 0, registrants := [], tler := 0, resMask := 0 }, by unfold IoReady ContextFree Fetchable RoomFor; decide +kernel⟩

theorem wit_ReservationsAreKept_7 : ∃ (s : State) (cmd : HostCmd) (slba : Nat) (nlb : Nat),
    IoReady cmd s.dev ∧ nsidValid cmd s.dev = true ∧ slba + nlb ≤ (namespace_ (slotOf cmd) s.dev).nsze ∧ nlb ≤ 512 ∧ nlb * (4096 + 16) ≤ 2097152 ∧ (namespace_ (slotOf cmd) s.dev).formatting = false ∧ (namespace_ (slotOf cmd) s.dev).resType ∈ [1, 2] ∧ isHolder cmd.port.val (slotOf cmd) s.dev = false :=
  ⟨at_ (hid (ns (fun n => { n with registrants := [r88], resType := 1, holder := some 88 }) n11)), { port := 1, sqid := 1, cid := 7, nsid := 3 }, 0, 0, by unfold IoReady Fetchable RoomFor; decide +kernel⟩

theorem wit_StepRunsFrontCommand : ∃ (s : State) (c : Instr) (cs : List Instr), s.pending = c :: cs :=
  ⟨{ at_ (rst .m5) with pending := [.tokenGrant] }, _, _, rfl⟩

theorem wit_EmptyQueueIdles : ∃ s : State, s.pending = [] := ⟨at_ (rst .m5), rfl⟩

theorem wit_StepConservesLedgers : ∃ s t : State, LedgersSound s.dev ∧ (∀ c ∈ s.pending.head?, ∀ x ∈ mismatchesOf c, x.row ≠ 3) ∧
    heldBy 1 3 s.dev = 20 ∧ step s = .next t ∧ heldBy 1 3 t.dev = 15 := by
  refine ⟨{ at_ { rst .m5 with ledgers := [(1, { total := 100, inverse := 2 ^ 40 - 101, free := 80, held := [(3, 20)] })] } with
    pending := [.tokenReturn 2 5] }, _, ⟨?_, by decide +kernel⟩, by decide +kernel, by decide +kernel, rfl, by decide +kernel⟩
  intro l
  show LedgerSound (smGet {} [(1, ({ total := 100, inverse := 2 ^ 40 - 101, free := 80, held := [(3, 20)] } : Ledger))] l)
  rw [smGet_cons]
  unfold LedgerSound LedgerConserved
  split
  · decide
  · exact ⟨⟨rfl, rfl⟩, rfl⟩

theorem wit_StepKeepsLogbookBounds : ∃ s t : State, LogOk s.dev.log s.dev.cs.counters ∧ s.dev.log.nextSeq = 5 ∧ step s = .next t ∧
    t.dev.log.nextSeq = 6 :=
  ⟨{ at_ (rw (rst .m5)) with pending := [.canNodeIdConflict 1] }, _, by unfold LogOk InSeq; decide +kernel, rfl, rfl, by decide +kernel⟩

end

end Sys2Proof.Tests
end

section
/-! PROOFS. The coupled groups (spec/13 R412 to R414): what a write of a member makes of the device, and O48. -/
namespace Sys2Proof.Machine

/-- `Does` speaks of the one device that the command ends in. -/
theorem Does.of_exec {c : Instr} {s : State} {P : Device → Prop} {d : Device} (hdoes : Does c s P)
    (hrun : exec c s = .next { s with dev := d }) : P d := by
  obtain ⟨e, he, hP⟩ := hdoes
  have hde : e = d := congrArg State.dev (Host.Outcome.next.inj (he.symm.trans hrun))
  exact hde ▸ hP

theorem exec_groupMemberWrite (path index sub value : Nat) (s : State) :
    exec (.groupMemberWrite path index sub value) s = .next { s with dev := memberWrite path index sub value s.dev } := rfl

end Sys2Proof.Machine

section
open Sys2Proof Sys2Proof.Machine

/-- Refutes O48: the frame of its first clause asks that a write of a member leave `memberCandidate path k` as it was for every key `k` but
the member's, yet of a key without a shadow that is the object's own value, and every request that is answered raises DictionaryRequests
(the same clause says so in `Answered`). After reset, ReclaimUrgentPermille written as 22 on the CAN path raises it from 0 to 1. The last
clause, on a discard, has the same frame and the same fault. -/
theorem not_groupsCommitAsOne : ¬ Obligations.GroupsCommitAsOne := by
  unfold Obligations.GroupsCommitAsOne
  intro ⟨hwrite, _⟩
  have hadmitted : Admitted 5 State.reset.dev := by unfold Admitted; decide +kernel
  have hdoes := hwrite State.reset 5 0x3400 0x02 22 hadmitted (by decide) (by decide +kernel) (by decide +kernel)
  obtain ⟨-, hframe, -⟩ := hdoes.of_exec (exec_groupMemberWrite 5 0x3400 0x02 22 State.reset)
  have hbefore : memberCandidate 5 Obj.dictionaryRequests State.reset.dev = 0 := by decide +kernel
  have hafter : memberCandidate 5 Obj.dictionaryRequests (memberWrite 5 0x3400 0x02 22 State.reset.dev) = 1 := by decide +kernel
  have hsame := hframe Obj.dictionaryRequests (by decide)
  rw [hbefore, hafter] at hsame
  exact absurd hsame (by decide)

end
end

section
/-! PROOFS. The back-off after pool empty (spec/16 R493): what a retry makes of the device, and O22. -/
namespace Sys2Proof.Machine

theorem exec_poolRetry (owner pool : Nat) (s : State) :
    exec (.poolRetry owner pool) s = .next { s with dev := retryPool owner pool s.dev } := rfl

/-- A Verify of one block of namespace 1, fetched from I/O queue 1 of port 0. -/
def verifyOfPort0 (cid : Nat) : Instr := .verify { sqid := 1, cid := cid, nsid := 1 } 0 1 false

/-- A device in M5 whose port 0 controller (owner 0x01) has taken of pool D all that it may but one buffer: 12,865 are free, and the unmet
reserves of the other owners claim 12,864 of them (R485). Two of its commands are delayed for their contexts (Table 6.2), under the owner's
first back-off of 9 µs. The held units stand in the ledger alone, which is what the grant rule reads. -/
def twoDelayedForOneContext : Device :=
  { ledgerTake 2 0x01 52671 State.reset.dev with
    ctl := { State.reset.dev.ctl with mode := .m5 }
    sub := { State.reset.dev.sub with namespaces := [(0, { active := true, attached := 1, nsze := 16 })] }
    res := { State.reset.dev.res with waits := [(0x01 * 8 + 2, { size := 256, waitUs := 9, own := true })] }
    delayed := [verifyOfPort0 7, verifyOfPort0 8] }

/-- The retry serves the first command, which takes the one buffer, and the second waits for its context anew. -/
theorem retryPool_serves_one_of_two :
    buffer 2 0 (retryPool 0x01 2 twoDelayedForOneContext) = some { owner := 0x01 } ∧
      (retryPool 0x01 2 twoDelayedForOneContext).delayed = [verifyOfPort0 8] ∧
      (smGet {} (retryPool 0x01 2 twoDelayedForOneContext).res.waits (0x01 * 8 + 2)).waitUs = 8 + 0x01 % 16 := by
  decide +kernel

end Sys2Proof.Machine

section
open Sys2Proof Sys2Proof.Machine

/-- Refutes O22: its fourth clause leaves the owner without a wait after every retry that finds a buffer. A retry of pool D by a port's
controller runs the port's delayed commands again (Table 6.2), and each asks for a context of its own. Of two such commands the first takes
the one buffer that can be granted, and the second receives pool empty: the owner waits 8 + 1 µs anew. -/
theorem not_poolBackOff : ¬ Obligations.PoolBackOff := by
  unfold Obligations.PoolBackOff
  intro h
  obtain ⟨-, -, -, hgranted, -⟩ :=
    h { State.reset with dev := twoDelayedForOneContext } 0x01 256 2 false (by decide) (by decide) (by decide +kernel)
  have hdoes := hgranted (by decide +kernel) (by decide +kernel)
  have hover := hdoes.of_exec (exec_poolRetry 0x01 2 _)
  obtain ⟨-, -, hanew⟩ := retryPool_serves_one_of_two
  exact absurd (hanew.symm.trans hover) (by decide)

end
end

section
/-! PROOFS. The queue and the invariants: a step runs one command on the device, and each command keeps the ledgers sound and the logbook
within its bounds (spec/16 R29, R25, R486; spec/19 R556, R557, R563). -/
-- The proofs are elaborated one after another: each evaluates the model, and together they
-- would hold more memory than the check allows.
set_option Elab.async false

namespace Sys2Proof.Machine

/-- Every command ends in a next state that keeps the queue. -/
theorem exec_next (c : Instr) (s : State) : ∃ d, exec c s = .next { s with dev := d } := by
  cases c <;> exact ⟨_, rfl⟩

/-- A command that runs `f` on the device does what `f` does. -/
theorem Does.of_runDev {c : Instr} {s : State} {P : Device → Prop} (f : Device → Device) (hrun : exec c s = runDev f s)
    (hP : P (f s.dev)) : Does c s P := ⟨f s.dev, hrun, hP⟩

/-- What holds of an unlisted key and of every listed value holds of every key. -/
theorem smGet_induction {α : Type} {p : α → Prop} {d : α} {m : SMap α} (hd : p d) (hm : ∀ e ∈ m, p e.2) (k : Nat) : p (smGet d m k) := by
  induction m with
  | nil => exact hd
  | cons e m ih =>
    rw [smGet_cons]
    split
    · exact hm e List.mem_cons_self
    · exact ih fun e he => hm e (List.mem_cons_of_mem _ he)

theorem exec_keeps {A L : Prop} (c : Instr) (s : State) (hx : A → ∀ x ∈ mismatchesOf c, x.row ≠ 3) (h : Keeps A L s.dev) :
    KeepsNext A L (exec c s) := by
  cases c with
  | vsysRise fault => exact execVsysRise_keeps fault s h
  | vsysResetFall absent => exact execVsysResetFall_keeps absent s h
  | powerOnResetRelease nodeId fault => exact execPowerOnResetRelease_keeps nodeId fault s h
  | resetRelease boot => exact execResetRelease_keeps boot s hx h
  | perstAssert => exact execPerstAssert_keeps s h
  | supplyWarning => exact execSupplyWarning_keeps s h
  | recoveryComparatorTrip => exact execRecoveryComparatorTrip_keeps s h
  | sagRecoveryQualified => exact execSagRecoveryQualified_keeps s h
  | holdUpFlushComplete => exact execHoldUpFlushComplete_keeps s h
  | csWpNChange low => exact execCsWpNChange_keeps low s h
  | housekeepingRound round => exact execHousekeepingRound_keeps round s h
  | throttleLevelRise => exact execThrottleLevelRise_keeps s h
  | holdupChargeTimeout => exact execHoldupChargeTimeout_keeps s h
  | holdupTestDue => exact execHoldupTestDue_keeps s h
  | holdupTestRequest path value => exact execHoldupTestRequest_keeps path value s h
  | holdupTestBaseline v0 => exact execHoldupTestBaseline_keeps v0 s h
  | holdupTestSample mv => exact execHoldupTestSample_keeps mv s h
  | holdupTestEnd => exact execHoldupTestEnd_keeps s h
  | paceMeasure count work => exact execPaceMeasure_keeps count work s h
  | vidStep => exact execVidStep_keeps s h
  | controlEpoch epoch => exact execControlEpoch_keeps epoch s hx h
  | governorInjectionTest report => exact execGovernorInjectionTest_keeps report s h
  | missedEpoch => exact execMissedEpoch_keeps s h
  | governorMismatch => exact execGovernorMismatch_keeps s h
  | nonCodeReport => exact execNonCodeReport_keeps s h
  | coreMemoryUncorrectable => exact execCoreMemoryUncorrectable_keeps s h
  | takeoverOutputsReached crcEqual micros => exact execTakeoverOutputsReached_keeps crcEqual micros s h
  | takeoverStepTimeout => exact execTakeoverStepTimeout_keeps s h
  | switchoverInconsistent code => exact execSwitchoverInconsistent_keeps code s h
  | primaryResetHoldExpiry => exact execPrimaryResetHoldExpiry_keeps s h
  | primarySelfTestDone pass ms => exact execPrimarySelfTestDone_keeps pass ms s h
  | standbySelfTestDone pass ms => exact execStandbySelfTestDone_keeps pass ms s h
  | standbyRetentionIdle => exact execStandbyRetentionIdle_keeps s h
  | standbyWakeInput memOk => exact execStandbyWakeInput_keeps memOk s h
  | domainEntryRequest dd retention refuser => exact execDomainEntryRequest_keeps dd retention refuser s h
  | domainEntryCommit dd => exact execDomainEntryCommit_keeps dd s h
  | domainEntryAbort dd => exact execDomainEntryAbort_keeps dd s h
  | domainWake dd error => exact execDomainWake_keeps dd error s h
  | carrierInsertion bank => exact execCarrierInsertion_keeps bank s h
  | carrierRemoval bank => exact execCarrierRemoval_keeps bank s h
  | powerGoodLost bank => exact execPowerGoodLost_keeps bank s h
  | pgoodTimeout bank => exact execPgoodTimeout_keeps bank s h
  | attentionButtonPress bank => exact execAttentionButtonPress_keeps bank s h
  | abortWindowExpiry bank => exact execAbortWindowExpiry_keeps bank s h
  | evacuationComplete failed => exact execEvacuationComplete_keeps failed s h
  | carrierRequestRemoval path bank => exact execCarrierRequestRemoval_keeps path bank s h
  | carrierCancelRemoval path bank => exact execCarrierCancelRemoval_keeps path bank s h
  | carrierPowerOn path bank => exact execCarrierPowerOn_keeps path bank s h
  | carrierAdopt path bank => exact execCarrierAdopt_keeps path bank s h
  | carrierRetryPowerFault path bank => exact execCarrierRetryPowerFault_keeps path bank s h
  | channelBringUp bank => exact execChannelBringUp_keeps bank s h
  | pgoodRise bank => exact execPgoodRise_keeps bank s h
  | diePowerOnElapsed bank => exact execDiePowerOnElapsed_keeps bank s h
  | targetResetReady bank present reports => exact execTargetResetReady_keeps bank present reports s h
  | channelTrainingDone channel reached anchor => exact execChannelTrainingDone_keeps channel reached anchor s h
  | carrierJoined bank refOffsets failed => exact execCarrierJoined_keeps bank refOffsets failed s h
  | zqCalibrationShort channel => exact execZqCalibrationShort_keeps channel s h
  | readyBusyRise channel busy => exact execReadyBusyRise_keeps channel busy s h
  | statusPoll die slot op elapsedUs busy => exact execStatusPoll_keeps die slot op elapsedUs busy s h
  | suspendTimeout die slot op => exact execSuspendTimeout_keeps die slot op s h
  | readSuspend die op => exact execReadSuspend_keeps die op s h
  | programPassComplete die slot failed => exact execProgramPassComplete_keeps die slot failed s h
  | eraseComplete die slot failed => exact execEraseComplete_keeps die slot failed s h
  | groupEraseStale die slot => exact execGroupEraseStale_keeps die slot s h
  | arrayReadComplete id grain result => exact execArrayReadComplete_keeps id grain result s h
  | tokenRequest bank amount flush => exact execTokenRequest_keeps bank amount flush s h
  | tokenGrant => exact execTokenGrant_keeps s h
  | tokenReturn bank amount => exact execTokenReturn_keeps bank amount s h
  | tokenGuardEngage bank => exact execTokenGuardEngage_keeps bank s h
  | powerUpTokensReturn bank => exact execPowerUpTokensReturn_keeps bank s h
  | tokenPoolSizeWrite path value out => exact execTokenPoolSizeWrite_keeps path value out s h
  | poolRequest owner size standing => exact execPoolRequest_keeps owner size standing s h
  | poolRetry owner pool => exact execPoolRetry_keeps owner pool s h
  | bufferReturn owner pool index => exact execBufferReturn_keeps owner pool index s h
  | bufferHeldLong owner => exact execBufferHeldLong_keeps owner s h
  | fabricCreditReturn link => exact execFabricCreditReturn_keeps link s h
  | freshRead block wordline reads capacity => exact execFreshRead_keeps block wordline reads capacity s h
  | formPlaneGroup die slot => exact execFormPlaneGroup_keeps die slot s h
  | wearSlopeRecompute => exact execWearSlopeRecompute_keeps s h
  | etaQueryBlock path value => exact execEtaQueryBlock_keeps path value s h
  | etaReportUpdate => exact execEtaReportUpdate_keeps s h
  | mapLookup stream slot grain => exact execMapLookup_keeps stream slot grain s h
  | place id => exact execPlace_keeps id s h
  | relocate id => exact execRelocate_keeps id s h
  | unmap slot first count => exact execUnmap_keeps slot first count s h
  | markLost slot grain pointer => exact execMarkLost_keeps slot grain pointer s h
  | regionReset slot => exact execRegionReset_keeps slot s h
  | mapCacheEnable path => exact execMapCacheEnable_keeps path s h
  | mapCacheDisable path => exact execMapCacheDisable_keeps path s h
  | mapCacheInvalidate path => exact execMapCacheInvalidate_keeps path s h
  | mapPageLoad slot page readable bad => exact execMapPageLoad_keeps slot page readable bad s h
  | backgroundLoad readable bad => exact execBackgroundLoad_keeps readable bad s h
  | mapLineReloaded slot line good => exact execMapLineReloaded_keeps slot line good s h
  | journalFrameSeal copy1 copy2 => exact execJournalFrameSeal_keeps copy1 copy2 s h
  | journalSealTimeout copy1 copy2 => exact execJournalSealTimeout_keeps copy1 copy2 s h
  | checkpointStart => exact execCheckpointStart_keeps s h
  | checkpointInterval => exact execCheckpointInterval_keeps s h
  | checkpointSuperblock failed => exact execCheckpointSuperblock_keeps failed s h
  | superblockWrite failed => exact execSuperblockWrite_keeps failed s h
  | dataLanded id landing => exact execDataLanded_keeps id landing s h
  | grainCompressed id engine disagrees => exact execGrainCompressed_keeps id engine disagrees s h
  | rowGathered stripe => exact execRowGathered_keeps stripe s h
  | rowCloseTimeout stripe => exact execRowCloseTimeout_keeps stripe s h
  | stripeOpen kind => exact execStripeOpen_keeps kind s h
  | writeCompletion id => exact execWriteCompletion_keeps id s h
  | grainDecompress id grain engine result => exact execGrainDecompress_keeps id grain engine result s h
  | victimSelect footers => exact execVictimSelect_keeps footers s h
  | grainRelocate read => exact execGrainRelocate_keeps read s h
  | pinnedRetry stripe reads => exact execPinnedRetry_keeps stripe reads s h
  | releaseReconcile block footer => exact execReleaseReconcile_keeps block footer s h
  | stripeRelease stripe => exact execStripeRelease_keeps stripe s h
  | wearLevellingCheck die => exact execWearLevellingCheck_keeps die s h
  | blockTableWrite => exact execBlockTableWrite_keeps s h
  | gaugeScan die runs => exact execGaugeScan_keeps die runs s h
  | gaugeScanInterval scans => exact execGaugeScanInterval_keeps scans s h
  | gaugeRefresh die runs eraseFailed programFailed => exact execGaugeRefresh_keeps die runs eraseFailed programFailed s h
  | scrub block first again => exact execScrub_keeps block first again s h
  | nextWakeCompute => exact execNextWakeCompute_keeps s h
  | nextWakeDueReached => exact execNextWakeDueReached_keeps s h
  | restripe read known => exact execRestripe_keeps read known s h
  | mapSweep => exact execMapSweep_keeps s h
  | lostRangeAppend => exact execLostRangeAppend_keeps s h
  | linkUp port rate width => exact execLinkUp_keeps port rate width s h
  | linkDown port => exact execLinkDown_keeps port s h
  | hotReset port => exact execHotReset_keeps port s h
  | functionLevelReset port => exact execFunctionLevelReset_keeps port s h
  | linkDetectRetry port found => exact execLinkDetectRetry_keeps port found s h
  | powerStateWrite port value => exact execPowerStateWrite_keeps port value s h
  | pmeTurnOff port => exact execPmeTurnOff_keeps port s h
  | wakeNRelease port => exact execWakeNRelease_keeps port s h
  | aspmL1Entry port idleUs => exact execAspmL1Entry_keeps port idleUs s h
  | msixUnmask port vector => exact execMsixUnmask_keeps port vector s h
  | tlpError port error header cmd => exact execTlpError_keeps port error header cmd s h
  | completionTimeout port elapsedUs header cmd => exact execCompletionTimeout_keeps port elapsedUs header cmd s h
  | busMasterHoldTimeout port sqid cid => exact execBusMasterHoldTimeout_keeps port sqid cid s h
  | vpdRead port address => exact execVpdRead_keeps port address s h
  | vpdWrite port address => exact execVpdWrite_keeps port address s h
  | controllerEnable port cc aqa => exact execControllerEnable_keeps port cc aqa s h
  | controllerDisable port => exact execControllerDisable_keeps port s h
  | shutdownNotification port => exact execShutdownNotification_keeps port s h
  | shutdownProcessingComplete => exact execShutdownProcessingComplete_keeps s h
  | sqTailDoorbell port sqid tail => exact execSqTailDoorbell_keeps port sqid tail s h
  | cqHeadDoorbell port cqid head => exact execCqHeadDoorbell_keeps port cqid head s h
  | keepAliveExpired port => exact execKeepAliveExpired_keeps port s h
  | createIoSq cmd qid size cqid contiguous => exact execCreateIoSq_keeps cmd qid size cqid contiguous s h
  | createIoCq cmd qid size vector contiguous interrupts => exact execCreateIoCq_keeps cmd qid size vector contiguous interrupts s h
  | deleteIoSq cmd qid => exact execDeleteIoSq_keeps cmd qid s h
  | deleteIoCq cmd qid => exact execDeleteIoCq_keeps cmd qid s h
  | getLogPage cmd lid offset bytes retain create => exact execGetLogPage_keeps cmd lid offset bytes retain create s h
  | identify cmd cns cntid csi => exact execIdentify_keeps cmd cns cntid csi s h
  | abort cmd sqid cid => exact execAbort_keeps cmd sqid cid s h
  | setFeatures cmd fid save value data => exact execSetFeatures_keeps cmd fid save value data s h
  | getFeatures cmd fid select value => exact execGetFeatures_keeps cmd fid select value s h
  | asyncEventRequest cmd => exact execAsyncEventRequest_keeps cmd s h
  | namespaceCreate cmd nsze ncap flbas dps nmic parity => exact execNamespaceCreate_keeps cmd nsze ncap flbas dps nmic parity s h
  | namespaceDelete cmd => exact execNamespaceDelete_keeps cmd s h
  | namespaceAttach cmd controllers => exact execNamespaceAttach_keeps cmd controllers s h
  | namespaceDetach cmd controllers => exact execNamespaceDetach_keeps cmd controllers s h
  | firmwareImageDownload cmd offset bytes header failures => exact execFirmwareImageDownload_keeps cmd offset bytes header failures s h
  | firmwareCommitReplace cmd slot => exact execFirmwareCommitReplace_keeps cmd slot s h
  | firmwareCommitActivate cmd slot => exact execFirmwareCommitActivate_keeps cmd slot s h
  | firmwareCommitSelect cmd slot => exact execFirmwareCommitSelect_keeps cmd slot s h
  | firmwareCommitImmediate cmd slot => exact execFirmwareCommitImmediate_keeps cmd slot s h
  | firmwareCommitDone failures => exact execFirmwareCommitDone_keeps failures s h
  | keepAlive cmd => exact execKeepAlive_keeps cmd s h
  | formatNvm cmd flbas dps ses => exact execFormatNvm_keeps cmd flbas dps ses s h
  | sanitizeBlockErase cmd ause => exact execSanitizeBlockErase_keeps cmd ause s h
  | sanitizeCryptoErase cmd ause => exact execSanitizeCryptoErase_keeps cmd ause s h
  | sanitizeExitFailure cmd => exact execSanitizeExitFailure_keeps cmd s h
  | sanitizeOverwrite cmd => exact execSanitizeOverwrite_keeps cmd s h
  | sanitizeComplete failed eraseFailed => exact execSanitizeComplete_keeps failed eraseFailed s h
  | dictionaryWrite cmd index sub value out => exact execDictionaryWrite_keeps cmd index sub value out s h
  | dictionaryRead cmd index sub bytes => exact execDictionaryRead_keeps cmd index sub bytes s h
  | authoriseChallenge cmd slot op arg => exact execAuthoriseChallenge_keeps cmd slot op arg s h
  | authoriseRespond cmd slot op arg nonce response => exact execAuthoriseRespond_keeps cmd slot op arg nonce response s h
  | flush cmd => exact execFlush_keeps cmd s h
  | write cmd slba nlb fua => exact execWrite_keeps cmd slba nlb fua s h
  | read cmd slba nlb fua limited pointers => exact execRead_keeps cmd slba nlb fua limited pointers s h
  | writeZeroes cmd slba nlb fua unreadable => exact execWriteZeroes_keeps cmd slba nlb fua unreadable s h
  | datasetManagement cmd ranges deallocate => exact execDatasetManagement_keeps cmd ranges deallocate s h
  | verify cmd slba nlb limited => exact execVerify_keeps cmd slba nlb limited s h
  | reservationRegister cmd action ignoreKey cptpl current new => exact execReservationRegister_keeps cmd action ignoreKey cptpl current new s h
  | reservationReport cmd extended bytes => exact execReservationReport_keeps cmd extended bytes s h
  | reservationAcquire cmd action ignoreKey rtype current preempt => exact execReservationAcquire_keeps cmd action ignoreKey rtype current preempt s h
  | reservationRelease cmd action ignoreKey rtype current => exact execReservationRelease_keeps cmd action ignoreKey rtype current s h
  | objectWrite path index sub value out => exact execObjectWrite_keeps path index sub value out s h
  | groupMemberWrite path index sub value => exact execGroupMemberWrite_keeps path index sub value s h
  | groupCommit path index out => exact execGroupCommit_keeps path index out s h
  | groupDiscard path index => exact execGroupDiscard_keeps path index s h
  | settingsAcknowledge path value => exact execSettingsAcknowledge_keeps path value s h
  | settingsRestoreDefaults path value out => exact execSettingsRestoreDefaults_keeps path value out s h
  | logbookClear path value => exact execLogbookClear_keeps path value s h
  | ledgerFreeRead path ledger => exact execLedgerFreeRead_keeps path ledger s h
  | ledgerOwnerHeldRead path ledger => exact execLedgerOwnerHeldRead_keeps path ledger s h
  | authKeyWrite path slot key => exact execAuthKeyWrite_keeps path slot key s h
  | authRightsWrite path slot rights => exact execAuthRightsWrite_keeps path slot rights s h
  | supplyWarningLevelWrite path value out => exact execSupplyWarningLevelWrite_keeps path value out s h
  | recoveryChunk path chunk out => exact execRecoveryChunk_keeps path chunk out s h
  | recoveryCommitReplace path => exact execRecoveryCommitReplace_keeps path s h
  | recoveryCommitActivate path => exact execRecoveryCommitActivate_keeps path s h
  | recoveryCommitSelect path => exact execRecoveryCommitSelect_keeps path s h
  | challengeExpiry => exact execChallengeExpiry_keeps s h
  | grantExpiry => exact execGrantExpiry_keeps s h
  | pathUnlocked => exact execPathUnlocked_keeps s h
  | canRead req => exact execCanRead_keeps req s h
  | canWrite req value out => exact execCanWrite_keeps req value out s h
  | canSegmentedWrite req total => exact execCanSegmentedWrite_keeps req total s h
  | canAbortTransfer req => exact execCanAbortTransfer_keeps req s h
  | canAuthoriseChallenge req slot op arg => exact execCanAuthoriseChallenge_keeps req slot op arg s h
  | canAuthoriseRespond req slot op arg nonce response => exact execCanAuthoriseRespond_keeps req slot op arg nonce response s h
  | canSegment tag segment last short data out => exact execCanSegment_keeps tag segment last short data out s h
  | segmentTimeout => exact execSegmentTimeout_keeps s h
  | heartbeat => exact execHeartbeat_keeps s h
  | timeSync ms elapsed => exact execTimeSync_keeps ms elapsed s h
  | wakeFrame flags seq => exact execWakeFrame_keeps flags seq s h
  | canFrameIgnored => exact execCanFrameIgnored_keeps s h
  | canNodeIdConflict func => exact execCanNodeIdConflict_keeps func s h
  | canBusOff => exact execCanBusOff_keeps s h
  | canBusOffRecovery => exact execCanBusOffRecovery_keeps s h
  | canFrameTransmitted error wins => exact execCanFrameTransmitted_keeps error wins s h
  | noticeWithdrawal => exact execNoticeWithdrawal_keeps s h
  | logbookFlush => exact execLogbookFlush_keeps s h
  | ceilingEntryVerified => exact execCeilingEntryVerified_keeps s h
  | operatingHourTick => exact execOperatingHourTick_keeps s h
  | powerOnResetAssert => exact execPowerOnResetAssert_keeps s h
  | busMasterEnable port bme cfg clearUncorrectable clearCorrectable => exact execBusMasterEnable_keeps port bme cfg clearUncorrectable clearCorrectable s h
  | tlerExpiry id => exact execTlerExpiry_keeps id s h
  | invalidCommandOpcode cmd => exact execInvalidCommandOpcode_keeps cmd s h
  | canUnknownCommand req => exact execCanUnknownCommand_keeps req s h
  | interruptCoalescingTime port cqid => exact execInterruptCoalescingTime_keeps port cqid s h
  | msiEnable port msix functionMask msi multiple masked => exact execMsiEnable_keeps port msix functionMask msi multiple masked s h
  | canReceiveError increment => exact execCanReceiveError_keeps increment s h

theorem step_keeps {A L : Prop} {s t : State} (hx : A → ∀ c ∈ s.pending.head?, ∀ x ∈ mismatchesOf c, x.row ≠ 3) (h : Keeps A L s.dev)
    (hstep : step s = .next t) : Keeps A L t.dev := by
  cases hq : s.pending with
  | nil =>
    rw [step_nil hq] at hstep
    obtain rfl := Host.Outcome.next.inj hstep
    exact h
  | cons c cs =>
    rw [step_cons hq] at hstep
    have hnext := exec_keeps c { s with pending := cs } (fun ha => hx ha c (by simp [hq])) h
    rwa [hstep] at hnext

end Sys2Proof.Machine

section
open Sys2Proof Sys2Proof.Machine

/-- Settles O1: `step` takes the front command off the queue. -/
theorem stepRunsFrontCommand : Obligations.StepRunsFrontCommand := fun _ _ _ h => step_cons h

/-- Settles O2: an empty queue leaves the state as it is. -/
theorem emptyQueueIdles : Obligations.EmptyQueueIdles := fun _ h => step_nil h

/-- Settles O3: every meaning is a function on the device. -/
theorem execKeepsQueue : Obligations.ExecKeepsQueue := by
  intro c s
  obtain ⟨d, hd⟩ := exec_next c s
  exact ⟨d, hd, trivial⟩

/-- Settles O4: each command keeps the ledgers sound. -/
theorem stepConservesLedgers : Obligations.StepConservesLedgers := by
  intro s t hsound hx hstep
  have hkeeps : Keeps True False s.dev := keeps_iff.mpr ⟨fun _ => hsound, False.elim⟩
  exact (keeps_iff.mp (step_keeps (fun _ => hx) hkeeps hstep)).1 trivial

/-- Settles O5: the eight ledgers of Table 16.1 are whole, and every other code names an empty one. -/
theorem resetConservesLedgers : Obligations.ResetConservesLedgers := by
  refine ⟨fun l => ?_, by decide⟩
  refine smGet_induction (p := LedgerSound) ⟨⟨rfl, rfl⟩, rfl⟩ (fun e he => ?_) l
  obtain ⟨⟨c, t⟩, hct, rfl⟩ := List.mem_map.mp he
  exact ⟨⟨rfl, rfl⟩, by simp [pairMatches]⟩

/-- Settles O7: numbering starts at 1 below 65,536 with an empty ring. -/
theorem resetKeepsLogbookBounds : Obligations.ResetKeepsLogbookBounds := by
  unfold Obligations.ResetKeepsLogbookBounds LogOk InSeq
  decide

/-- Settles O8: the fields of the reset state, read off. -/
theorem resetState : Obligations.ResetState := by
  unfold Obligations.ResetState
  decide +kernel

/-- Settles O6: each command keeps the logbook within its bounds. -/
theorem stepKeepsLogbookBounds : Obligations.StepKeepsLogbookBounds := by
  intro s t hlog hstep
  have hkeeps : Keeps False True s.dev := keeps_iff.mpr ⟨False.elim, fun _ => hlog⟩
  exact (keeps_iff.mp (step_keeps False.elim hkeeps hstep)).2 trivial

end
end

section
/-! PROOFS. The supply and reset inputs (spec/02, spec/15, spec/21): O9, O11 and O12. -/
-- The proofs are elaborated one after another: each evaluates the model, and together they
-- would hold more memory than the check allows.
set_option Elab.async false

namespace Sys2Proof.Machine

/-- The reset device in a mode, with an entry of power domain 5 in progress (Table 15.4). -/
def entryInProgress (m : Mode) : Device :=
  { State.reset.dev with
    ctl := { State.reset.dev.ctl with mode := m }
    domains := { State.reset.dev.domains with entering := [(5, some {})] } }

/-- The same without VSYS. -/
def entryInProgressOff : Device := { entryInProgress .m0 with ctl := { (entryInProgress .m0).ctl with vsysUp := false } }

end Sys2Proof.Machine

section
open Sys2Proof Sys2Proof.Machine

/-- Refutes O9: its first clause keeps `domains` whole, but the entry to M1 switches domains 2 to 7 off (Table 15.1), which aborts an entry
in progress of one of them. -/
theorem not_supplyInputsSetTheMode : ¬ Obligations.SupplyInputsSetTheMode := by
  unfold Obligations.SupplyInputsSetTheMode
  intro ⟨hrise, _⟩
  obtain ⟨-, -, -, -, -, -, -, hdomains⟩ := (hrise { State.reset with dev := entryInProgressOff } 0 (by decide) (by decide)).of_exec rfl
  have hentering := congrArg Domains.entering hdomains
  exact absurd hentering (by decide +kernel)

/-- Refutes O11: its second clause keeps `domains` whole, but the entry to M1 switches domains 2 to 7 off (Table 15.1), which aborts an
entry in progress of one of them. Here PERST# arrives in M5 with nothing to carry while domain 5 enters retention. -/
theorem not_perstResets : ¬ Obligations.PerstResets := by
  unfold Obligations.PerstResets
  intro ⟨_, hheld, _⟩
  obtain ⟨-, -, -, -, -, -, hdomains⟩ :=
    (hheld { State.reset with dev := entryInProgress .m5 } rfl (.inr ⟨rfl, by decide, by decide⟩)).of_exec rfl
  have hentering := congrArg Domains.entering hdomains
  exact absurd hentering (by decide +kernel)

/-- Refutes O12: its first clause keeps `domains` whole, but the entry to M8 turns domains 1, 2, 5, 6 and 7 on (Table 15.1, R458), which
aborts an entry in progress of one of them. -/
theorem not_supplyWarningsAndRecovery : ¬ Obligations.SupplyWarningsAndRecovery := by
  unfold Obligations.SupplyWarningsAndRecovery
  intro ⟨hwarning, _⟩
  obtain ⟨-, -, -, -, -, -, -, -, hdomains⟩ :=
    (hwarning { State.reset with dev := entryInProgress .m5 } (by decide)).of_exec rfl
  have hentering := congrArg Domains.entering hdomains
  exact absurd hentering (by decide +kernel)

end
end

section
/-! PROOFS. Housekeeping, takeovers and the complexes (spec/15, spec/17): O13, O15 and O17. -/
-- The proofs are elaborated one after another: each evaluates the model, and together they
-- would hold more memory than the check allows.
set_option Elab.async false

namespace Sys2Proof.Machine

/-- A round in which every die sensor reads 120 °C. -/
def hotRound : Round := { sensors := List.replicate 12 120 }

/-- M5 after such a round, with an entry of power domain 5 in progress. -/
def hotInEntry : Device := { entryInProgress .m5 with therm := { (entryInProgress .m5).therm with last := some hotRound } }

/-- M5 with CPX-P in control and CPX-S in step, an entry of whose power domain into retention is in progress. -/
def standbyInEntry : Device :=
  [(Obj.complexInControl, 1), (Obj.standbyState, 1), (Obj.domainState 4, 3)].foldl (fun d e => setObj e.1 e.2 d)
    { entryInProgress .m5 with domains := { State.reset.dev.domains with entering := [(4, some {})] } }

/-- The failed CPX-P in its self-test, an entry of its power domain into retention in progress. -/
def primaryInEntry : Device :=
  { State.reset.dev with
    cpx := { State.reset.dev.cpx with returnStep := 2 }
    log := { State.reset.dev.log with runStarted := true, nextSeq := 5, ceiling := 1000 }
    domains := { State.reset.dev.domains with entering := [(3, some {})] } }

end Sys2Proof.Machine

section
open Sys2Proof Sys2Proof.Machine

/-- Refutes O13: its first clause keeps `domains` whole, but a second round with the die at 118 °C enters M11 (R53), which switches every
domain but the first off and aborts an entry in progress of one of them. -/
theorem not_housekeepingActs : ¬ Obligations.HousekeepingActs := by
  unfold Obligations.HousekeepingActs
  intro ⟨hround, _⟩
  obtain ⟨-, -, -, -, -, hdomains, -⟩ :=
    (hround { State.reset with dev := hotInEntry } hotRound (by decide) (by decide)).of_exec rfl
  have hentering := congrArg Domains.entering hdomains
  exact absurd hentering (by decide +kernel)

/-- Refutes O15: its first clause lets no more than two objects and the complexes change, but a CPX-S whose domain is entering retention is
requested on (R459, R522), which ends the entry. -/
theorem not_takeoverMovesControl : ¬ Obligations.TakeoverMovesControl := by
  unfold Obligations.TakeoverMovesControl
  intro ⟨hcause, _⟩
  obtain ⟨-, -, -, hsame, -⟩ := (hcause { State.reset with dev := standbyInEntry } .governorMismatch 1 (by decide +kernel) (by decide +kernel)
    (by decide +kernel) (by decide +kernel) (by decide +kernel)).of_exec rfl
  have hentering := congrArg (fun d : Device => d.domains.entering) hsame
  exact absurd hentering (by decide +kernel)

/-- Refutes O17: its fourth clause keeps `domains` whole, but the retired CPX-P's domain is switched off, which aborts its entry in
progress. -/
theorem not_complexesTestReturnAndSleep : ¬ Obligations.ComplexesTestReturnAndSleep := by
  unfold Obligations.ComplexesTestReturnAndSleep
  intro ⟨_, _, _, hretired, _⟩
  obtain ⟨-, -, -, -, haside, -⟩ :=
    (hretired { State.reset with dev := primaryInEntry } 0 rfl (by unfold WriterOpen; decide +kernel)).of_exec rfl
  have hentering := congrArg Domains.entering haside.domains
  exact absurd hentering (by decide +kernel)

end
end

section
/-! PROOFS. Pools and carriers (spec/03, spec/10, spec/16): O21, O24, O26 and O28. -/
-- The proofs are elaborated one after another: each evaluates the model, and together they
-- would hold more memory than the check allows.
set_option Elab.async false

namespace Sys2Proof.Machine

/-- M4 with PME_En set on port 0, whose link is down. -/
def wakeEnabled : Device :=
  { State.reset.dev with
    ctl := { State.reset.dev.ctl with mode := .m4 }
    ports := [(0, { pmeEn := true })] }

/-- The same, with a carrier in service in bank 2. -/
def wakeEnabledInService : Device :=
  setObj (Obj.carrierState 2) 0x04
    { wakeEnabled with media := { wakeEnabled.media with carriers := [(2, { present := true })] } }

/-- A carrier in bank 2 waits to join, and system stripe 11 is open with room in its next frame. -/
def joiningWithSystemStripe : Device :=
  setObj (Obj.carrierState 2) 0x03 { State.reset.dev with media := { State.reset.dev.media with
    stripes := [(11, { isOpen := true, kind := 3, members := [(1, 265), (3, 777)] })]
    groups := [(265 * 2 + 1, { used := true, stripe := 11, kind := 3, blocks := [265 * 16384 + 8] })]
    blocks := [(265 * 16384 + 8, { state := 1, stripe := 11, step := 7 })] } }

end Sys2Proof.Machine

section
open Sys2Proof Sys2Proof.Machine

/-- Refutes O21: its fourth clause lets a retry of the controller's own operation end its wait and change nothing else, but a retry of pool D
by a port's controller runs the port's delayed commands again (Table 6.2), and the first of two takes the buffer. -/
theorem not_buffersAndCreditsMove : ¬ Obligations.BuffersAndCreditsMove := by
  unfold Obligations.BuffersAndCreditsMove
  intro ⟨_, _, _, hown, _⟩
  obtain ⟨hsame, -⟩ := (hown { State.reset with dev := twoDelayedForOneContext } 0x01 2 (by decide +kernel) (by decide +kernel)
    (by decide +kernel) (by decide +kernel)).of_exec (exec_poolRetry 0x01 2 _)
  obtain ⟨-, hleft, -⟩ := retryPool_serves_one_of_two
  have hdelayed := congrArg Device.delayed hsame
  exact absurd (hleft.symm.trans hdelayed) (by decide)

/-- Refutes O24: its first clause lets no object change but CarrierState, but an insertion is wake event 2 (Table 11.11), which a sleeping port
with PME_En counts in PortWakeSignals. -/
theorem not_carriersComeAndGo : ¬ Obligations.CarriersComeAndGo := by
  unfold Obligations.CarriersComeAndGo
  intro ⟨hinserted, _⟩
  obtain ⟨-, -, -, -, -, -, hobjs, -⟩ :=
    (hinserted { State.reset with dev := wakeEnabled } 0 (by decide +kernel) (by decide +kernel)).of_exec rfl
  have hcount := hobjs (Obj.portWakeSignals 0) (by decide +kernel)
  exact absurd hcount (by decide +kernel)

/-- Refutes O26: its first clause lets no object change but CarrierState, but the attention button is wake event 3 (Table 11.11), which a
sleeping port with PME_En counts in PortWakeSignals. -/
theorem not_buttonAndAbortWindow : ¬ Obligations.ButtonAndAbortWindow := by
  unfold Obligations.ButtonAndAbortWindow
  intro ⟨hpressed, _⟩
  obtain ⟨-, -, -, -, -, hobjs, -⟩ := (hpressed { State.reset with dev := wakeEnabledInService } 2 0x04 0x05 (by decide +kernel)
    (by decide +kernel) (by decide +kernel) (by decide +kernel)).of_exec rfl
  have hcount := hobjs (Obj.portWakeSignals 0) (by decide +kernel)
  exact absurd hcount (by decide +kernel)

/-- Refutes O28: its sixth clause keeps the stripes, but a join writes the calendar and the gauge table anew (R316), each in a frame of an open
system stripe, whose row is then held. -/
theorem not_carriersAreBroughtUp : ¬ Obligations.CarriersAreBroughtUp := by
  unfold Obligations.CarriersAreBroughtUp
  intro ⟨_, _, _, _, _, hjoined⟩
  obtain ⟨-, -, -, -, -, -, -, -, -, hstripes, -⟩ :=
    (hjoined { State.reset with dev := joiningWithSystemStripe } 2 [] [] (by decide +kernel)).of_exec rfl
  exact absurd hstripes (by decide +kernel)

end
end

section
/-! PROOFS. Reads, reports, the map cache and checkpoints (spec/04, spec/05, spec/08): O31, O32, O34 and O35. -/
-- The proofs are elaborated one after another: each evaluates the model, and together they
-- would hold more memory than the check allows.
set_option Elab.async false

namespace Sys2Proof.Machine

/-- A grain of a read that waits for codewords of die 3. -/
def waitingGrain : ReadGrain := { grain := 4, stage := .codewords, pointer := (3 * 16384 + 9) * 16384 + 5 }

/-- M5, with no carrier in service. Read 2 has ended but for its completion, for which its channel waits; read 3 follows it on the channel. -/
def endedReadWaits : Device :=
  { State.reset.dev with
    ctl := { State.reset.dev.ctl with mode := .m5 }
    media := { State.reset.dev.media with wp := { State.reset.dev.media.wp with
      reads := [{ id := 2, grains := [{ stage := .ended }] }, { id := 3, grains := [waitingGrain, { grain := 5 }] }] } } }

/-- A block beyond those of the device's 4,096 dies, counted in the reports. -/
def countedBlockBeyond : Device :=
  { State.reset.dev with media := { State.reset.dev.media with
    blocks := [(2097152 * 16384 + 100, { state := 1, role := 0, step := 3, cap := 4300, stripe := 7 })] } }

/-- The cache is on, and the page of grain 12 × 2 ^ 40 of slot 0 is resident. -/
def farPageResident : Device :=
  setObj Obj.mapCacheState 0x02 { State.reset.dev with media := { State.reset.dev.media with
    map := { State.reset.dev.media.map with pages := [(2 ^ 34, { resident := true })] } } }

/-- M5 with a checkpoint that has captured everything, and a Flush that waits for nothing and whose context no ledger counts. -/
def checkpointBesideFlush : Device :=
  { State.reset.dev with
    ctl := { State.reset.dev.ctl with mode := .m5, dirResident := true }
    media := { State.reset.dev.media with
      map := { State.reset.dev.media.map with checkpoint := some 0 }
      wp := { State.reset.dev.media.wp with flushes := [{ context := some 0 }] } } }

end Sys2Proof.Machine

section
open Sys2Proof Sys2Proof.Machine

/-- Refutes O31: its second clause admits no change outside the medium, but the read that ends lets its channel go on, and another read whose
grains have all ended completes (R499) and is counted among the read commands. -/
theorem not_arrayReadsClimbTheLadder : ¬ Obligations.ArrayReadsClimbTheLadder := by
  unfold Obligations.ArrayReadsClimbTheLadder
  intro ⟨_, hunreadable⟩
  obtain ⟨-, -, haside⟩ := (hunreadable { State.reset with dev := endedReadWaits } 3 4 {} waitingGrain (by decide +kernel) (by decide +kernel)
    (by decide +kernel) (by decide +kernel) (by decide +kernel) (by decide +kernel)
    ⟨5, by decide, { grain := 5 }, by decide +kernel, by decide⟩).of_exec rfl
  have hcount := congrArg Subsystem.readCmds haside.sub
  exact absurd hcount (by decide +kernel)

/-- Refutes O32: its fifth clause lets a report change objects of the classes 0x43 and 0x83 alone, but the objects of a die beyond the 4,096
of the device, whose blocks the update counts as any other, lie past class 0x83. -/
theorem not_freshReadsAndReports : ¬ Obligations.FreshReadsAndReports := by
  unfold Obligations.FreshReadsAndReports
  intro ⟨_, _, _, _, hreport⟩
  obtain ⟨-, -, -, hobjs, -⟩ := (hreport { State.reset with dev := countedBlockBeyond }).of_exec rfl
  have heta := hobjs (dieKey 0x8300 2097152) (by decide +kernel) (by decide +kernel)
  exact absurd heta (by decide +kernel)

/-- Refutes O34: its first clause finds the line that a lookup fills in the set of its slot and line, but the cache finds the set from the line's
key, and the key of a line from 2 ^ 40 on reads as one of the next slot. -/
theorem not_mapPagesAndCache : ¬ Obligations.MapPagesAndCache := by
  unfold Obligations.MapPagesAndCache
  intro ⟨hlookup, _⟩
  obtain ⟨-, -, hon, -⟩ :=
    (hlookup { State.reset with dev := farPageResident } 0 0 (12 * 2 ^ 40) (by decide +kernel) rfl rfl).of_exec rfl
  obtain ⟨hhead, -⟩ := hon (by decide +kernel)
  exact absurd hhead (by decide +kernel)

/-- Refutes O35: its third clause keeps the modes, but the records that a checkpoint seals let a Flush complete (R198), and the return of a
context that its ledger does not count breaks the ledger and leads to M10 (R487). -/
theorem not_journalAndCheckpoints : ¬ Obligations.JournalAndCheckpoints := by
  unfold Obligations.JournalAndCheckpoints
  intro ⟨_, _, hcheckpoint, _⟩
  obtain ⟨-, -, -, -, -, -, -, -, -, -, -, -, hctl, -⟩ :=
    (hcheckpoint { State.reset with dev := checkpointBesideFlush } 0 (by decide +kernel) (by decide +kernel) (by decide +kernel)
      (by decide +kernel) (by decide +kernel) (by decide +kernel)).of_exec rfl
  have hmode := congrArg Control.mode hctl
  exact absurd hmode (by decide +kernel)

end
end

section
/-! PROOFS. Compression, completion, victims, releases and lost ranges (spec/06, spec/07, spec/09, spec/10): O36, O38, O39, O40 and O42. -/
-- The proofs are elaborated one after another: each evaluates the model, and together they
-- would hold more memory than the check allows.
set_option Elab.async false

namespace Sys2Proof.Machine

/-- Two grains in flight of one number, the first in work at engine 0, and a stripe in which both fit. -/
def sameNumberTwice : Device :=
  setObj Obj.freePermille 500 { State.reset.dev with
    ctl := { State.reset.dev.ctl with mode := .m5 }
    media := { State.reset.dev.media with
      stripes := [(7, { exists_ := true, isOpen := true, members := [(0, 3), (1, 259)] })]
      groups := [(6, { used := true, stripe := 7, kind := 1, blocks := [3 * 16384 + 9] })]
      blocks := [(3 * 16384 + 9, { state := 1, role := 0, stripe := 7 })]
      flight := [{ id := 3, cmd := 1 }, { id := 3, cmd := 1 }]
      wp := { State.reset.dev.media.wp with engines := [(0, [{ id := 3 }])] } } }

/-- A write of port 1 that is to complete, whose context is counted under an index whose buffer is the first of pool B, and a settled grain that
holds this buffer for the port's owner. -/
def contextOfPoolB : Device :=
  { State.reset.dev with
    ctl := { State.reset.dev.ctl with mode := .m5 }
    objs := smSet 0 (Obj.portLinkState 1) 0x02 State.reset.dev.objs
    ports := [(1, { linkUp := true, bme := true, rdy := true, cqs := [(1, { live := true, size := 16 })],
                    sqs := [(1, { live := true, size := 16, cqid := 1 })] })]
    ledgers := (ledgerTake 4 2 1 (ledgerTake 2 2 1 State.reset.dev)).ledgers
    res := { State.reset.dev.res with buffers := [(4 * 65536, { owner := 2 })] }
    media := { State.reset.dev.media with
      map := { State.reset.dev.media.map with persistent := 1 }
      flight := [{ id := 9, cmd := 8, seq := some 0, buffers := [(2, 0)] }]
      wp := { State.reset.dev.media.wp with writes := [{ id := 3, port := 1, sqid := 1, cid := 7, buffered := true, landed := true,
                                                         context := some (2 * 65536) }] } } }

/-- M5 with stripe 7 queued, whose second block stands before its first in the table. -/
def blocksOutOfOrder : Device :=
  { State.reset.dev with
    ctl := { State.reset.dev.ctl with mode := .m5 }
    media := { State.reset.dev.media with
      stripes := [(7, {})]
      blocks := [(200, { state := 2, role := 0, stripe := 7 }), (100, { state := 2, role := 0, stripe := 7, valid := 5 })]
      rc := { State.reset.dev.media.rc with q2 := [7] } } }

/-- A closed stripe with a failing block of die 1 that the gauge list of die 0 names, and a block of die 0. -/
def gaugeOnOtherDie : Device :=
  { State.reset.dev with media := { State.reset.dev.media with
    stripes := [(7, { exists_ := true })]
    blocks := [(100, { state := 3, role := 1, stripe := 7 }), (16484, { state := 4, role := 1, stripe := 7 })]
    dies := [(0, { gauge := [16484] })] } }

/-- A lost range to append, with LostRangeDropped beyond its type. -/
def lostRangeWaits : Device :=
  { State.reset.dev with
    objs := [(Obj.lostRangeDropped, 2 ^ 64)]
    media := { State.reset.dev.media with rc := { State.reset.dev.media.rc with toAppend := [(1, 4, 2, 7)] } } }

end Sys2Proof.Machine

section
open Sys2Proof Sys2Proof.Machine

/-- Refutes O36: its third clause keeps the control state, but of two grains of one number each takes the engine's second buffer, which returns twice once
both are placed; the second return breaks the ledger and leads to M10 (R487). -/
theorem not_dataLandsAndIsCompressed : ¬ Obligations.DataLandsAndIsCompressed := by
  unfold Obligations.DataLandsAndIsCompressed
  intro ⟨_, _, hcompressed⟩
  obtain ⟨-, -, -, -, -, haside⟩ := (hcompressed { State.reset with dev := sameNumberTwice } 3 0 true { id := 3, cmd := 1 } (by decide +kernel)
    (by decide +kernel) (by unfold FlightsHold; decide +kernel) _ rfl (by unfold CanTake; decide +kernel)).of_exec rfl
  have hdue := congrArg Control.dueM10 haside.ctl
  exact absurd hdue (by decide +kernel)

/-- Refutes O38: its first clause keeps the control state, but a context's index is not bounded by its pool, and the buffer that it frees is the one
that a settled grain then returns: the second return breaks the ledger and leads to M10 (R487). -/
theorem not_writesAndReadsComplete : ¬ Obligations.WritesAndReadsComplete := by
  unfold Obligations.WritesAndReadsComplete
  intro ⟨hwrite, _⟩
  obtain ⟨-, -, -, -, -, -, -, haside⟩ := (hwrite { State.reset with dev := contextOfPoolB } 3 _ rfl (by decide +kernel) (by decide +kernel)
    (by decide +kernel) (by decide +kernel) (by decide +kernel) (by decide +kernel) (by decide +kernel) (by decide +kernel)
    (by decide +kernel) (by decide +kernel) (by unfold RoomFor; decide +kernel) (by decide +kernel) (by unfold WriteHolds Holds; decide +kernel)
    (by unfold FlightsHold; decide +kernel)).of_exec rfl
  have hctl := haside.ctl
  exact absurd hctl (by decide +kernel)

/-- Refutes O39: its first clause takes the victim's load from the state before, but a footer that fails writes its block's entry once more where the
table is out of order, and the block counts twice. -/
theorem not_victimsAreSelectedAndRelocated : ¬ Obligations.VictimsAreSelectedAndRelocated := by
  unfold Obligations.VictimsAreSelectedAndRelocated
  intro ⟨hselect, _⟩
  obtain ⟨-, hload, -⟩ := (hselect { State.reset with dev := blocksOutOfOrder } 7 [(100, [])] (by decide +kernel) rfl rfl
    (by decide +kernel)).of_exec rfl
  exact absurd hload (by decide +kernel)

/-- Refutes O40: its third clause keeps the dies, but a failing block of one die that the gauge list of another names is retired with the stripe,
and the other die names a free block in its place (R96). -/
theorem not_stripesAreReleasedAndTablesWritten : ¬ Obligations.StripesAreReleasedAndTablesWritten := by
  unfold Obligations.StripesAreReleasedAndTablesWritten
  intro ⟨_, _, hrelease, _⟩
  obtain ⟨-, -, -, -, -, hframe, -⟩ := (hrelease { State.reset with dev := gaugeOnOtherDie } 7 (by decide +kernel) (by decide +kernel)
    (by decide +kernel) (by decide +kernel) (by decide +kernel) (by unfold GaugeNamed; decide +kernel)).of_exec rfl
  have hdies := congrArg (fun d => (die 0 d).gaugeMoved) hframe
  exact absurd hdies (by decide +kernel)

/-- Refutes O42: its fourth clause keeps LostRangeDropped, but the count of dropped entries is added, none among them, and a count beyond its type
is reduced. -/
theorem not_restripeSavesOrMarksLost : ¬ Obligations.RestripeSavesOrMarksLost := by
  unfold Obligations.RestripeSavesOrMarksLost
  intro ⟨_, _, _, happend⟩
  obtain ⟨-, -, -, haside⟩ := (happend { State.reset with dev := lostRangeWaits } 1 4 2 7 rfl (by decide +kernel) (by decide +kernel)).of_exec rfl
  exact absurd (haside.objs Obj.lostRangeDropped (by decide +kernel)) (by decide +kernel)

end
end

section
/-! PROOFS. Ports, controllers, admin and I/O commands (spec/11, spec/12): O52, O53, O54, O55 and O59. -/
-- The proofs are elaborated one after another: each evaluates the model, and together they
-- would hold more memory than the check allows.
set_option Elab.async false

namespace Sys2Proof.Machine

/-- Port 0 carries commands: its link is up and its controller ready, with an entry in the admin queue. -/
def readyPort : PortState :=
  { linkUp := true, bme := true, rdy := true, cc := 1, cfg := { mse := true }
    cqs := [(0, { live := true, size := 16 }), (1, { live := true, size := 16 })]
    sqs := [(0, { live := true, size := 16, tail := 1 })] }

/-- M5 with port 0 ready. -/
def onePortReady : Device :=
  setObj (Obj.portPowerState 0) 0x00 (setObj (Obj.portLinkState 0) 0x02
    { State.reset.dev with ctl := { State.reset.dev.ctl with mode := .m5 }, ports := [(0, readyPort)]
                           log := { State.reset.dev.log with runStarted := true } })

/-- The writer of the logbook is open, and a landed write of port 0 names as its context the buffer that a settled grain holds as its own. -/
def contextSharedWithGrain : Device :=
  { onePortReady with
    ledgers := (ledgerTake 4 1 1 (ledgerTake 2 1 1 onePortReady)).ledgers
    res := { onePortReady.res with buffers := [(4 * 65536, { owner := 1 })] }
    media := { onePortReady.media with
      map := { onePortReady.media.map with persistent := 1 }
      flight := [{ id := 9, cmd := 8, seq := some 0, buffers := [(1, 0)] }]
      wp := { onePortReady.media.wp with writes := [{ id := 3, landed := true, context := some (2 * 65536) }] } } }

/-- A read of port 0, which has been no bus master for no time yet. -/
def justNoBusMaster : Device :=
  { onePortReady with
    ports := [(0, { readyPort with bme := false })]
    media := { onePortReady.media with wp := { onePortReady.media.wp with reads := [{ id := 3, sqid := 1, cid := 7 }] } } }

/-- A read of a port beyond the four that has failed, behind a read of port 0 on one channel. -/
def failedReadBeyond : Device :=
  { onePortReady with
    media := { onePortReady.media with wp := { onePortReady.media.wp with
      reads := [{ id := 3, sqid := 1, cid := 7 }, { id := 4, port := 7, grains := [{ stage := .ended, failed := some (2, 0x81, false, 0) }] }] } } }

/-- Namespace 1 is attached to port 0, its first page resident, its first line bad. -/
def firstLineBad : Device :=
  { onePortReady with
    settings := { onePortReady.settings with journalLimit := 100 }
    sub := { onePortReady.sub with namespaces := [(0, { active := true, nsze := 4096, attached := 1 })] }
    ports := [(0, { readyPort with sqs := [(1, { live := true, size := 16, cqid := 1, tail := 1 })] })]
    media := { onePortReady.media with map := { onePortReady.media.map with
      pages := [(pageKey 0 0, { resident := true })], badLines := [lineKey 0 0] } } }

end Sys2Proof.Machine

section
open Sys2Proof Sys2Proof.Machine

/-- Refutes O52: its third clause keeps the control state, but a context's index is not bounded by its pool, and the buffer that the reset frees
with it is the one that a settled grain then returns: the second return breaks the ledger and leads to M10 (R487). -/
theorem not_linksChangeState : ¬ Obligations.LinksChangeState := by
  unfold Obligations.LinksChangeState
  intro ⟨_, _, hdown, _⟩
  obtain ⟨-, -, -, -, -, -, -, -, -, -, -, -, -, -, -, -, -, -, hctl, -⟩ :=
    (hdown { State.reset with dev := contextSharedWithGrain } 0 (.linkDown 0) _ _ (by decide +kernel) (by unfold WriterOpen; decide +kernel)
      (by unfold PoolsHold; decide +kernel) (.inl ⟨rfl, rfl, rfl⟩)).of_exec rfl
  exact absurd hctl (by decide +kernel)

/-- Refutes O53: its seventh clause has a held transfer end in any case, but it fails only once it has been held for a second (R339). -/
theorem not_errorsAndInterruptsAreSignalled : ¬ Obligations.ErrorsAndInterruptsAreSignalled := by
  unfold Obligations.ErrorsAndInterruptsAreSignalled
  intro ⟨_, _, _, _, _, _, hhold, _⟩
  obtain ⟨-, hgone, -⟩ :=
    (hhold { State.reset with dev := justNoBusMaster } 0 { id := 3, sqid := 1, cid := 7 } (by decide +kernel) (by decide +kernel)
      (by decide +kernel) rfl (by decide +kernel) rfl (by decide +kernel) (by unfold PoolsHold; decide +kernel)).of_exec rfl
  exact absurd (hgone { id := 3, sqid := 1, cid := 7 } (by decide +kernel)) (by decide)

/-- Refutes O54: its third clause admits the failures counted of four ports alone, but the reset lets the channels go on, and a failed read of a
port beyond them completes and is counted. -/
theorem not_controllersStartAndStop : ¬ Obligations.ControllersStartAndStop := by
  unfold Obligations.ControllersStartAndStop
  intro ⟨_, _, hdisable, _⟩
  obtain ⟨-, -, -, -, -, -, -, -, -, -, -, -, -, hobjs, -⟩ :=
    (hdisable { State.reset with dev := failedReadBeyond } 0 (by decide +kernel) (by decide +kernel)
      (by unfold PoolsHold; decide +kernel)).of_exec rfl
  exact absurd (hobjs (Obj.commandsFailed 7) (by decide +kernel)) (by decide +kernel)

/-- Refutes O55: its fifth clause has the command fetched under the features that it sets, but it is fetched before, and a new Arbitration Burst
bears on the turn of the next command alone (R360). -/
theorem not_adminCommandsComplete : ¬ Obligations.AdminCommandsComplete := by
  unfold Obligations.AdminCommandsComplete
  intro ⟨_, _, _, _, hset, _⟩
  obtain ⟨-, -, -, hfetched, -⟩ :=
    (hset { State.reset with dev := onePortReady } {} 0x01 7 0 (by unfold AdminReady Fetchable RoomFor ContextFree; decide +kernel)
      (by decide +kernel) (by decide)).of_exec rfl
  have hturn := congrArg PortState.turnLeft (Aside.port hfetched 0)
  exact absurd hturn (by decide +kernel)

/-- Refutes O59: its second clause unmaps at once where the pages are resident, but a bad line has to be reloaded first (R176). -/
theorem not_ioCommandsAreServed : ¬ Obligations.IoCommandsAreServed := by
  unfold Obligations.IoCommandsAreServed
  intro ⟨_, hunmap, _⟩
  obtain ⟨-, -, ⟨w, hw, -, -, -, -, -, -, -, -, hdone⟩, -⟩ :=
    (hunmap { State.reset with dev := firstLineBad } { sqid := 1, nsid := 1 } (.writeZeroes { sqid := 1, nsid := 1 } 0 16 false []) 0 1 false
      (by unfold IoReady Fetchable RoomFor; decide +kernel) (by unfold BlocksOk; decide +kernel)
      (by unfold WriteOk CanTake; decide +kernel) (by decide) (by decide +kernel) rfl rfl (by decide +kernel) (.inl rfl)).of_exec rfl
  revert w
  decide +kernel

end
end

section
/-! PROOFS. The state of the access paths: challenges, grants and locks that expire (spec/18 R539, R542, R543): O46. -/
set_option Elab.async false

namespace Sys2Proof.Machine

/-! ### What the operations on a path change -/

theorem pathState_updPath (p q : Nat) (f : PathState → PathState) (d : Device) :
    pathState q (updPath p f d) = if q = p then f (pathState p d) else pathState q d := by
  simp [pathState, updPath, smGet_smUpd]

@[simp] theorem pathState_updPath_self (p : Nat) (f : PathState → PathState) (d : Device) : pathState p (updPath p f d) = f (pathState p d) := by
  simp [pathState_updPath]

theorem pathState_updPath_ne {p q : Nat} (h : q ≠ p) (f : PathState → PathState) (d : Device) :
    pathState q (updPath p f d) = pathState q d := by
  simp [pathState_updPath, h]

theorem pathState_congr {p : Nat} {d e : Device} (h : e.settings = d.settings) : pathState p e = pathState p d := by
  unfold pathState; rw [h]

theorem pathState_withdrawChallenges (p q : Nat) (pick : Challenge → Bool) (d : Device) :
    pathState q (withdrawChallenges p pick d) =
      if q = p then { pathState p d with challenges := (pathState p d).challenges.filter fun c => !pick c } else pathState q d :=
  pathState_updPath p q _ d

/-- Only ledger 8 changes with the challenges of a path, and in it only what the path holds and what is free. -/
theorem ledger_withdrawChallenges_ne {l : Nat} (hl : l ≠ 8) (p : Nat) (pick : Challenge → Bool) (d : Device) :
    ledger l (withdrawChallenges p pick d) = ledger l d :=
  (ledger_updLedger l 8 _ _).trans (if_neg hl)

theorem heldBy_ledgerGive_ne {o q : Nat} (h : q ≠ o) (l n : Nat) (d : Device) : heldBy l q (ledgerGive l o n d) = heldBy l q d := by
  unfold heldBy ledgerGive
  rw [ledger_updLedger_self]
  split
  · simp [smGet_smUpd, h]
  · rfl

theorem heldBy_ledgerTake_ne {o q : Nat} (h : q ≠ o) (l n : Nat) (d : Device) : heldBy l q (ledgerTake l o n d) = heldBy l q d := by
  unfold heldBy ledgerTake
  rw [ledger_updLedger_self]
  split
  · simp [smGet_smUpd, h]
  · rfl

theorem heldBy_withdrawChallenges_ne {p q : Nat} (h : q ≠ p) (pick : Challenge → Bool) (d : Device) :
    heldBy 8 q (withdrawChallenges p pick d) = heldBy 8 q d := heldBy_ledgerGive_ne h 8 _ _

/-! ### Folds over the paths -/

/-- A step of a fold over the paths that changes its own path's share of the device by `F`, while the time stays, and no other path's. -/
structure OwnShare {α : Type} (share : Nat → Device → α) (F : α → α) (g : Device → Nat → Device) (t : Nat) : Prop where
  own : ∀ d p, nowMs d = t → share p (g d p) = F (share p d)
  others : ∀ d p q, q ≠ p → share q (g d p) = share q d
  time : ∀ d p, nowMs (g d p) = nowMs d

/-- A fold over paths that are each listed once changes the share of each of them once, and no other. -/
theorem OwnShare.foldl {α : Type} {share : Nat → Device → α} {F : α → α} {g : Device → Nat → Device} {t : Nat} (h : OwnShare share F g t)
    {ps : List Nat} (hps : ps.Nodup) {d : Device} (ht : nowMs d = t) (p : Nat) :
    share p (ps.foldl g d) = if p ∈ ps then F (share p d) else share p d := by
  induction ps generalizing d with
  | nil => rfl
  | cons x xs ih =>
    obtain ⟨hx, hxs⟩ := List.nodup_cons.mp hps
    rw [List.foldl_cons, ih hxs ((h.time d x).trans ht)]
    by_cases hp : p = x
    · subst hp
      simp [hx, h.own d p ht]
    · simp [hp, h.others d x p hp]

/-- A relation between devices that is reflexive and transitive holds from end to end of a fold whose steps it holds of. -/
theorem foldl_rel {β : Type} {R : Device → Device → Prop} (hrefl : ∀ d, R d d) (htrans : ∀ {a b c}, R a b → R b c → R a c)
    {g : Device → β → Device} (hg : ∀ d b, R d (g d b)) (xs : List β) (d : Device) : R d (xs.foldl g d) := by
  induction xs generalizing d with
  | nil => exact hrefl d
  | cons x xs ih => exact htrans (hg d x) (ih _)

/-! ### Expiry -/

/-- Nothing has changed but the state of the paths. -/
def PathsChange (d e : Device) : Prop := e = { d with settings := { d.settings with paths := e.settings.paths } }

theorem PathsChange.refl (d : Device) : PathsChange d d := rfl

theorem PathsChange.trans {a b c : Device} (h : PathsChange a b) (g : PathsChange b c) : PathsChange a c := by
  unfold PathsChange at *
  rw [g, h]

theorem updPath_changes (p : Nat) (f : PathState → PathState) (d : Device) : PathsChange d (updPath p f d) := rfl

/-- A path's grant ends once it is 10 s old (R542). -/
def grantAged (t : Nat) (s : PathState) : PathState :=
  match s.grant with
  | some g => if g.givenMs + 10000 ≤ t then { s with grant := none } else s
  | none => s

/-- A path's lock ends at its time, its failures forgotten (R543). -/
def lockAged (t : Nat) (s : PathState) : PathState :=
  match s.lockedUntil with
  | some u => if u ≤ t then { s with lockedUntil := none, failures := [] } else s
  | none => s

/-- A path's challenges that are 60 s old end and their units return, where it holds that many (R539). -/
def challengesAged (t : Nat) (x : PathState × Nat) : PathState × Nat :=
  let n := (x.1.challenges.filter fun c => decide (c.issuedMs + 60000 ≤ t)).length
  ({ x.1 with challenges := x.1.challenges.filter fun c => !decide (c.issuedMs + 60000 ≤ t) }, if n ≤ x.2 then x.2 - n else x.2)

theorem heldBy_ledgerGive_self (l o n : Nat) (d : Device) :
    heldBy l o (ledgerGive l o n d) = if n ≤ heldBy l o d then heldBy l o d - n else heldBy l o d := by
  unfold heldBy ledgerGive
  rw [ledger_updLedger_self]
  split <;> simp

theorem expireChallenges_own (t : Nat) :
    OwnShare (fun p d => (pathState p d, heldBy 8 p d)) (challengesAged t)
      (fun d p => withdrawChallenges p (fun c => decide (c.issuedMs + 60000 ≤ nowMs d)) d) t where
  own d p ht := by
    subst ht
    refine Prod.ext ?_ ?_
    · simp [pathState_withdrawChallenges, challengesAged]
    · exact heldBy_ledgerGive_self 8 p _ (updPath p _ d)
  others d p q h := by
    rw [pathState_withdrawChallenges, if_neg h, heldBy_withdrawChallenges_ne h]
  time d p := rfl

/-- The state of a path that ages, step by step, in a fold over the paths. -/
theorem expireGrants_own (t : Nat) :
    OwnShare pathState (grantAged t) (fun d p => match (pathState p d).grant with
      | some g => if g.givenMs + 10000 ≤ nowMs d then useGrant p d else d
      | none => d) t where
  own d p ht := by
    subst ht
    unfold grantAged
    cases hg : (pathState p d).grant with
    | none => rfl
    | some g => by_cases h : g.givenMs + 10000 ≤ nowMs d <;> simp [h, useGrant]
  others d p q h := by
    cases (pathState p d).grant with
    | none => rfl
    | some g => dsimp only; split <;> simp [useGrant, pathState_updPath_ne h]
  time d p := by
    cases (pathState p d).grant with
    | none => rfl
    | some g => dsimp only; split <;> rfl

theorem nowMs_logRec (code : Nat) (snaps : List Nat) (d : Device) : nowMs (logRec code snaps d) = nowMs d := by simp [nowMs]

theorem pathState_logRec (p code : Nat) (snaps : List Nat) (d : Device) : pathState p (logRec code snaps d) = pathState p d :=
  pathState_congr (by simp)

/-- The step of PATH_UNLOCKED for one path (R543). -/
def unlockPath (d : Device) (p : Nat) : Device :=
  match (pathState p d).lockedUntil with
  | some t =>
    if t ≤ nowMs d then logRec Code.pathUnlocked [p] (updPath p (fun s => { s with lockedUntil := none, failures := [] }) d) else d
  | none => d

theorem unlockPaths_eq (d : Device) : unlockPaths d = [1, 2, 3, 4, 5].foldl unlockPath d := rfl

theorem unlockPath_of_none {p : Nat} {d : Device} (h : (pathState p d).lockedUntil = none) : unlockPath d p = d := by
  unfold unlockPath; rw [h]

theorem unlockPath_of_some {p t : Nat} {d : Device} (h : (pathState p d).lockedUntil = some t) : unlockPath d p =
    if t ≤ nowMs d then logRec Code.pathUnlocked [p] (updPath p (fun s => { s with lockedUntil := none, failures := [] }) d) else d := by
  unfold unlockPath; rw [h]

theorem unlockPath_own (t : Nat) : OwnShare pathState (lockAged t) unlockPath t where
  own d p ht := by
    subst ht
    unfold lockAged
    cases hu : (pathState p d).lockedUntil with
    | none => rw [unlockPath_of_none hu]
    | some u =>
      rw [unlockPath_of_some hu]
      by_cases h : u ≤ nowMs d <;> simp [h, pathState_logRec]
  others d p q h := by
    cases hu : (pathState p d).lockedUntil with
    | none => rw [unlockPath_of_none hu]
    | some u =>
      rw [unlockPath_of_some hu]
      split
      · rw [pathState_logRec, pathState_updPath_ne h]
      · rfl
  time d p := by
    cases hu : (pathState p d).lockedUntil with
    | none => rw [unlockPath_of_none hu]
    | some u =>
      rw [unlockPath_of_some hu]
      split
      · exact nowMs_logRec _ _ _
      · rfl

/-- Nothing has changed but the state of the paths and what taking records changes. -/
def PathsAside (d e : Device) : Prop := Aside { d with settings := { d.settings with paths := e.settings.paths } } e

theorem PathsAside.of_aside {a b c : Device} (h : PathsChange a b) (g : Aside b c) : PathsAside a c := by
  unfold PathsAside
  rw [g.settings]
  unfold PathsChange at h
  rw [← h]
  exact g

/-- What `Aside` admits does not look at the settings, so the same change of them on both sides keeps it. -/
theorem Aside.with_settings {a b : Device} (h : Aside a b) (x : Settings) :
    Aside { a with settings := x } { b with settings := x } where
  ctl := h.ctl
  therm := h.therm
  holdup := h.holdup
  domains := h.domains
  cpx := h.cpx
  res := h.res
  settings := rfl
  sec := h.sec
  media := h.media
  held := h.held
  delayed := h.delayed
  damaged := h.damaged
  objs := h.objs
  ledgers := h.ledgers
  log := h.log
  can := h.can
  cs := h.cs
  sub := h.sub
  port := h.port

theorem PathsAside.trans {a b c : Device} (h : PathsAside a b) (g : PathsAside b c) : PathsAside a c := by
  unfold PathsAside at *
  have hb : b.settings = { a.settings with paths := b.settings.paths } := h.settings
  have := (h.with_settings { a.settings with paths := c.settings.paths }).trans (by rw [hb] at g; exact g)
  exact this

theorem unlockPath_aside (d : Device) (p : Nat) : PathsAside d (unlockPath d p) := by
  cases hu : (pathState p d).lockedUntil with
  | none => rw [unlockPath_of_none hu]; exact Aside.refl d
  | some u =>
    rw [unlockPath_of_some hu]
    split
    · exact PathsAside.of_aside (updPath_changes _ _ _) (logRec_aside _ _ _)
    · exact Aside.refl d

/-- A record is taken at once where the writer was open, though other parts of the device have changed since. -/
theorem logRec_recorded_of_log (code : Nat) (snaps : List Nat) {a b : Device} (hlog : b.log = a.log) (hopen : WriterOpen a) :
    Recorded code snaps a (logRec code snaps b) := by
  have hb : WriterOpen b := by unfold WriterOpen; rw [hlog]; exact hopen
  exact (logRec_recorded code snaps b hb).congr (by rw [hlog]) rfl

/-- Nothing has changed but the state of the paths and ledger 8. -/
def ChallengesChange (d e : Device) : Prop :=
  e = { d with ledgers := e.ledgers, settings := { d.settings with paths := e.settings.paths } } ∧ OnlyLedgers [8] d e

theorem ChallengesChange.refl (d : Device) : ChallengesChange d d := ⟨rfl, fun _ _ => rfl⟩

theorem ChallengesChange.trans {a b c : Device} (h : ChallengesChange a b) (g : ChallengesChange b c) : ChallengesChange a c := by
  obtain ⟨h, hl⟩ := h
  obtain ⟨g, gl⟩ := g
  refine ⟨?_, fun l hn => (gl l hn).trans (hl l hn)⟩
  rw [g, h]

theorem withdrawChallenges_changes (p : Nat) (pick : Challenge → Bool) (d : Device) : ChallengesChange d (withdrawChallenges p pick d) :=
  ⟨rfl, fun _ hl => ledger_withdrawChallenges_ne (by simpa using hl) p pick d⟩

theorem useGrant_of_aged_changes (d : Device) (p : Nat) : PathsChange d (match (pathState p d).grant with
    | some g => if g.givenMs + 10000 ≤ nowMs d then useGrant p d else d
    | none => d) := by
  split
  · split
    · exact updPath_changes _ _ _
    · exact PathsChange.refl d
  · exact PathsChange.refl d

/-- Where one path alone is locked, its unlocking is all that PATH_UNLOCKED does (R543). -/
theorem foldl_unlockPath_of_one {p : Nat} {ps : List Nat} (hps : ps.Nodup) (hp : p ∈ ps) {d : Device}
    (h : ∀ q ∈ ps, q ≠ p → (pathState q d).lockedUntil = none) : ps.foldl unlockPath d = unlockPath d p := by
  have hnone : ∀ (qs : List Nat) (e : Device), (∀ q ∈ qs, (pathState q e).lockedUntil = none) → qs.foldl unlockPath e = e := by
    intro qs
    induction qs with
    | nil => intro e _; rfl
    | cons q qs ih =>
      intro e he
      rw [List.foldl_cons, unlockPath_of_none (he q List.mem_cons_self)]
      exact ih e fun r hr => he r (List.mem_cons_of_mem _ hr)
  obtain ⟨before, after, rfl⟩ := List.append_of_mem hp
  have hbefore : p ∉ before := fun hb => (List.nodup_append.mp hps).2.2 p hb p List.mem_cons_self rfl
  have hafter : p ∉ after := (List.nodup_cons.mp (List.nodup_append.mp hps).2.1).1
  rw [List.foldl_append, hnone before d fun q hq => h q (by simp [hq]) fun e => hbefore (e ▸ hq), List.foldl_cons]
  refine hnone after _ fun q hq => ?_
  have hne : q ≠ p := fun e => hafter (e ▸ hq)
  rw [(unlockPath_own (nowMs d)).others d p q hne]
  exact h q (by simp [hq]) hne

end Sys2Proof.Machine

section
open Sys2Proof Sys2Proof.Machine

/-- Settles O46: each expiry is a fold over the five paths whose step changes its own path once, by its age. -/
theorem authorisationsExpire : Obligations.AuthorisationsExpire := by
  have hps : [1, 2, 3, 4, 5].Nodup := by decide
  refine ⟨fun s hheld => .of_runDev _ rfl ⟨fun p hp => ?_, ?_⟩, fun s => .of_runDev _ rfl ⟨fun p hp => ?_, ?_⟩,
    fun s => .of_runDev _ rfl ⟨fun p hp => ?_, ?_⟩, fun s p t hp ht hdue hothers hopen => .of_runDev _ rfl ?_⟩
  · have h := (expireChallenges_own (nowMs s.dev)).foldl hps rfl p
    rw [if_pos hp] at h
    obtain ⟨hpath, hunits⟩ := Prod.ext_iff.mp h
    have hle := List.length_filter_le (fun c => decide (c.issuedMs + 60000 ≤ nowMs s.dev)) (pathState p s.dev).challenges
    have hsplit := List.length_eq_length_filter_add (l := (pathState p s.dev).challenges) fun c => decide (c.issuedMs + 60000 ≤ nowMs s.dev)
    have hh := hheld p hp
    simp only [challengesAged, if_pos (hle.trans hh)] at hpath hunits
    unfold expireChallenges
    refine ⟨?_, ?_⟩
    · rw [hpath]
      simp [← decide_not]
    · rw [hunits, hpath]
      dsimp only
      omega
  · exact foldl_rel ChallengesChange.refl (fun h g => h.trans g) (fun d q => withdrawChallenges_changes q _ d) _ s.dev
  · have h := (expireGrants_own (nowMs s.dev)).foldl hps rfl p
    rw [if_pos hp] at h
    exact ⟨fun g hg hold => h.trans (by simp [grantAged, hg, hold]),
      fun g hg hyoung => h.trans (by simp [grantAged, hg, Nat.not_le.mpr hyoung])⟩
  · exact foldl_rel PathsChange.refl (fun h g => h.trans g) useGrant_of_aged_changes _ s.dev
  · have h := (unlockPath_own (nowMs s.dev)).foldl hps rfl p
    rw [if_pos hp] at h
    exact ⟨fun t ht hdue => h.trans (by simp [lockAged, ht, hdue]),
      fun t ht hyoung => h.trans (by simp [lockAged, ht, Nat.not_le.mpr hyoung])⟩
  · exact foldl_rel (R := PathsAside) Aside.refl (fun h g => h.trans g) unlockPath_aside _ s.dev
  · rw [unlockPaths_eq, foldl_unlockPath_of_one hps hp hothers, unlockPath_of_some ht, if_pos hdue]
    exact logRec_recorded_of_log _ _ (by simp [updPath]) hopen

end
end

section
/-! PROOFS. The management link (spec/14): O43. -/
set_option Elab.async false

section
open Sys2Proof Sys2Proof.Machine

/-- Refutes O43: its third clause names the query block by its key alone, which an index and a subindex beyond a byte give too: such an index has
no row, and the write is answered as absent (R393). -/
theorem not_canRequestsAreServed : ¬ Obligations.CanRequestsAreServed := by
  unfold Obligations.CanRequestsAreServed
  intro ⟨_, _, hquery, _⟩
  obtain ⟨hblock, -⟩ :=
    (hquery State.reset { sub := Obj.etaQueryBlock, length := 4 } (leBytes 4 0) {} 0 (by unfold CanAnswers; decide +kernel) rfl rfl rfl
      (by unfold Admitted; decide +kernel) (by decide) rfl rfl (by decide)).of_exec rfl
  exact absurd hblock (by decide +kernel)

end
end

section
/-! PROOFS. Plane groups (spec/03): O30. -/
-- The proofs are elaborated one after another: see the first file of these proofs.
set_option Elab.async false

namespace Sys2Proof.Machine

/-- Die 0 erases a group of which only the block of plane 0 is listed, block 0 (R57 has one block of each plane). -/
def groupOfOneBlock : Device :=
  { State.reset.dev with media := { State.reset.dev.media with
    groups := [(0, { used := true, blocks := [0], erasing := true })]
    dies := [(0, { op := { kind := 4 } })] } }

theorem groupOfOneBlock_listsOne (q : Nat) (hq : q ≠ 0) : (group 0 0 groupOfOneBlock).blocks[q]? ≠ some 0 := by
  have hlen : (group 0 0 groupOfOneBlock).blocks.length ≤ q := Nat.one_le_iff_ne_zero.mpr hq
  simp [List.getElem?_eq_none hlen]

end Sys2Proof.Machine

section
open Sys2Proof Sys2Proof.Machine

/-- Refutes O30: its third clause bounds neither the length of the group nor the blocks of the other planes, and a plane that the list does not name
stands for block 0, which is set free again with the planes whose erase succeeded. -/
theorem not_planeGroupsAreErasedAndProgrammed : ¬ Obligations.PlaneGroupsAreErasedAndProgrammed := by
  unfold Obligations.PlaneGroupsAreErasedAndProgrammed
  intro ⟨_, _, hfailed, _⟩
  obtain ⟨hstate, -⟩ := (hfailed { State.reset with dev := groupOfOneBlock } 0 0 0 (by decide +kernel) (by unfold ChargeHeld; decide +kernel)
    (by decide) 0 rfl groupOfOneBlock_listsOne).of_exec rfl
  exact absurd hstate (by decide +kernel)

end
end

section
/-! PROOFS. Power domains (spec/15): O18. -/
-- The proofs are elaborated one after another: see the first file of these proofs.
set_option Elab.async false

namespace Sys2Proof.Machine

/-! ### The objects of a domain -/

/-- The objects of a domain are apart from each other. -/
theorem domainObjs_apart (dd : Nat) : Obj.domainState dd ≠ Obj.entryRequests dd ∧ Obj.domainState dd ≠ Obj.entryRefusals dd ∧
    Obj.domainState dd ≠ Obj.lastRefuser dd ∧ Obj.domainState dd ≠ Obj.entryAborts dd ∧ Obj.domainState dd ≠ Obj.wakesDuringEntry dd ∧
    Obj.entryRefusals dd ≠ Obj.lastRefuser dd ∧ Obj.entryRefusals dd ≠ Obj.entryRequests dd := by
  simp [Obj.domainState, Obj.entryRequests, Obj.entryRefusals, Obj.lastRefuser, Obj.entryAborts, Obj.wakesDuringEntry, objKey]

/-- Nothing has changed but the listed objects. -/
def ObjsChange (ks : List Nat) (d e : Device) : Prop := e = { d with objs := e.objs } ∧ OnlyObjs ks d e

theorem ObjsChange.refl (ks : List Nat) (d : Device) : ObjsChange ks d d := ⟨rfl, fun _ _ => rfl⟩

theorem ObjsChange.trans {ks : List Nat} {a b c : Device} (h : ObjsChange ks a b) (g : ObjsChange ks b c) : ObjsChange ks a c :=
  ⟨g.1.trans (congrArg (fun x : Device => { x with objs := c.objs }) h.1), fun k hk => (g.2 k hk).trans (h.2 k hk)⟩

theorem ObjsChange.ite {ks : List Nat} {d a b : Device} {c : Prop} [Decidable c] (ha : ObjsChange ks d a) (hb : ObjsChange ks d b) :
    ObjsChange ks d (if c then a else b) := by
  split
  · exact ha
  · exact hb

theorem setObj_changes {k : Nat} {ks : List Nat} (hk : k ∈ ks) (v : Nat) (d : Device) : ObjsChange ks d (setObj k v d) :=
  ⟨rfl, fun _ hj => getObj_setObj_ne (ne_of_mem_of_not_mem hk hj).symm v d⟩

theorem incObj_changes {k : Nat} {ks : List Nat} (hk : k ∈ ks) (d : Device) : ObjsChange ks d (incObj k d) := setObj_changes hk _ d

/-! ### The credits of a domain's links -/

theorem heldBy_of_ledgers {l o : Nat} {d e : Device} (h : e.ledgers = d.ledgers) : heldBy l o e = heldBy l o d := by
  unfold heldBy ledger; rw [h]

theorem heldBy_clearLink (l k : Nat) (d : Device) : heldBy 6 l (clearLink d k) = if l = k then 0 else heldBy 6 l d := by
  unfold clearLink
  split
  · next h =>
    subst h
    exact (heldBy_ledgerGive_self 6 l _ _).trans ((if_pos le_rfl).trans (Nat.sub_self (heldBy 6 l d)))
  · next h => exact heldBy_ledgerGive_ne h 6 _ _

theorem linkWaits_clearLink (l k : Nat) (d : Device) :
    smGet 0 (clearLink d k).res.linkWaits l = if l = k then 0 else smGet 0 d.res.linkWaits l := by
  have hres : (clearLink d k).res.linkWaits = smErase k d.res.linkWaits := by simp [clearLink]
  rw [hres]
  split
  · next h => subst h; exact smGet_smErase_self 0 l _
  · next h => exact smGet_smErase_ne 0 h _

/-- A fold of link clearings sets a share of each link to 0 once the link is among them, and leaves that of every other link. -/
theorem foldl_clearLink_share (share : Nat → Device → Nat)
    (h : ∀ l k d, share l (clearLink d k) = if l = k then 0 else share l d) (links : List Nat) (l : Nat) (d : Device) :
    share l (links.foldl clearLink d) = if l ∈ links then 0 else share l d := by
  induction links generalizing d with
  | nil => rfl
  | cons k ks ih =>
    rw [List.foldl_cons, ih, h]
    by_cases hl : l = k <;> simp [hl]

theorem heldBy_returnCredits (dd l : Nat) (d : Device) :
    heldBy 6 l (returnCredits dd d) = if l ∈ linksOf dd then 0 else heldBy 6 l d :=
  foldl_clearLink_share (heldBy 6) heldBy_clearLink (linksOf dd) l d

theorem linkWaits_returnCredits (dd l : Nat) (d : Device) :
    smGet 0 (returnCredits dd d).res.linkWaits l = if l ∈ linksOf dd then 0 else smGet 0 d.res.linkWaits l :=
  foldl_clearLink_share (fun l d => smGet 0 d.res.linkWaits l) linkWaits_clearLink (linksOf dd) l d

/-- Nothing has changed but ledger 6 and the transfers that wait for a credit. -/
def LinksChange (d e : Device) : Prop :=
  e = { d with ledgers := e.ledgers, res := { d.res with linkWaits := e.res.linkWaits } } ∧ OnlyLedgers [6] d e

theorem clearLink_changes (d : Device) (k : Nat) : LinksChange d (clearLink d k) :=
  ⟨rfl, fun _ hl => (ledger_updLedger _ 6 _ _).trans (if_neg (by simpa using hl))⟩

theorem LinksChange.trans {a b c : Device} (h : LinksChange a b) (g : LinksChange b c) : LinksChange a c := by
  obtain ⟨h, hl⟩ := h
  obtain ⟨g, gl⟩ := g
  refine ⟨?_, fun l hn => (gl l hn).trans (hl l hn)⟩
  exact g.trans (congrArg (fun x : Device => { x with ledgers := c.ledgers, res := { x.res with linkWaits := c.res.linkWaits } }) h)

theorem returnCredits_changes (dd : Nat) (d : Device) : LinksChange d (returnCredits dd d) :=
  foldl_rel (R := LinksChange) (fun _ => ⟨rfl, fun _ _ => rfl⟩) (fun h g => h.trans g) clearLink_changes (linksOf dd) d

/-! ### Entry, abort, commit and wake, case by case -/

/-- The refuser that is named is the first one in the order of Table 15.5 (notes/assumptions/149.md). -/
theorem refuserOf_of_first {dd brought r : Nat} {d : Device} (h1 : 1 ≤ r) (h9 : r ≤ 9) (hr : brought = r ∨ refuses dd r d = true)
    (hfirst : ∀ c, 1 ≤ c → c < r → brought ≠ c ∧ refuses dd c d = false) : refuserOf dd brought d = r := by
  have hfind : ((List.range 9).map (· + 1)).find? (fun c => c = brought || refuses dd c d) = some r := by
    rw [List.find?_eq_some_iff_getElem]
    refine ⟨by simpa using hr.imp_left Eq.symm, r - 1, by simp; omega, by simp; omega, fun j hj => ?_⟩
    obtain ⟨hne, hno⟩ := hfirst (j + 1) (by omega) (by omega)
    simp [hno, Ne.symm hne]
  unfold refuserOf
  rw [hfind]
  rfl

theorem refuserOf_of_none {dd : Nat} {d : Device} (h : ∀ code, refuses dd code d = false) : refuserOf dd 0 d = 0 := by
  have hfind : ((List.range 9).map (· + 1)).find? (fun c => c = 0 || refuses dd c d) = none := by simp [h]
  unfold refuserOf
  rw [hfind]
  rfl

theorem controlDomain_incObj {k : Nat} (hk : Obj.complexInControl ≠ k) (d : Device) : controlDomain (incObj k d) = controlDomain d := by
  unfold controlDomain
  rw [getObj_incObj_ne hk]

theorem domainCode_le {dd : Nat} (h : domainCode dd = true) : dd < 0x20 := by
  simp [domainCode] at h
  omega

/-- The count of the requests is no refuser of Table 15.5. -/
theorem refuserOf_counted {dd : Nat} (hdd : domainCode dd = true) (brought : Nat) (d : Device) :
    refuserOf dd brought (incObj (Obj.entryRequests dd) d) = refuserOf dd brought d := by
  have hcontrol : controlDomain (incObj (Obj.entryRequests dd) d) = controlDomain d := by
    refine controlDomain_incObj ?_ d
    have := domainCode_le hdd
    simp only [Obj.complexInControl, Obj.entryRequests, objKey]
    omega
  have howners : domainOwners dd (incObj (Obj.entryRequests dd) d) = domainOwners dd d := by
    unfold domainOwners
    rw [hcontrol]
  have hrefuses : ∀ code, refuses dd code (incObj (Obj.entryRequests dd) d) = refuses dd code d := by
    intro code
    unfold refuses holdsUnits
    rw [howners]
    rfl
  unfold refuserOf
  simp only [hrefuses]

/-- The conditions under which an entry request is decided: the domain is on, outside the floor, and not refused within this millisecond. -/
def EntryDecided (dd : Nat) (retention : Bool) (d : Device) : Prop :=
  domainCode dd = true ∧ getObj (Obj.domainState dd) d = 0x01 ∧ inFloor dd d = false ∧ (retention = true → dd = 3 ∨ dd = 4) ∧
  ∀ t, smGet none d.domains.refusedMs dd = some t → t + 1 ≤ nowMs d

theorem requestEntry_of_decided {dd : Nat} {retention : Bool} (brought : Nat) {d : Device} (h : EntryDecided dd retention d) :
    requestEntry dd retention brought d =
      if refuserOf dd brought d ≠ 0 then
        setObj (Obj.lastRefuser dd) (refuserOf dd brought d % 256) (incObj (Obj.entryRefusals dd)
          { incObj (Obj.entryRequests dd) d with
            domains := { d.domains with refusedMs := smSet none dd (some (nowMs d)) d.domains.refusedMs } })
      else setObj (Obj.domainState dd) 0x03
        { incObj (Obj.entryRequests dd) d with
          domains := { d.domains with entering := smSet none dd (some { toRetention := retention, granted := true }) d.domains.entering } } := by
  obtain ⟨hcode, hstate, hfloor, hret, hsoon⟩ := h
  have hret' : (retention && dd != 3 && dd != 4) = false := by
    cases retention with
    | false => rfl
    | true => rcases hret rfl with rfl | rfl <;> rfl
  unfold requestEntry
  dsimp only
  rw [if_neg, refuserOf_counted hcode]
  · simp only [bne_iff_ne]
    rfl
  · rw [hret', hcode, hstate, hfloor]
    cases ht : smGet none d.domains.refusedMs dd with
    | none => simp
    | some t => simpa using hsoon t ht

theorem setDomains_on (dd : Nat) (d : Device) : setDomains [dd] 0x01 d = setObj (Obj.domainState dd) 0x01 (cutEntry dd d) := rfl

theorem abortEntry_of_entering {dd : Nat} {e : DomainEntry} {d : Device} (h : smGet none d.domains.entering dd = some e) :
    abortEntry dd d = setObj (Obj.domainState dd) 0x01 (incObj (Obj.entryAborts dd)
      { d with domains := { d.domains with entering := smErase dd d.domains.entering } }) := by
  unfold abortEntry
  rw [h]
  dsimp only
  rw [setDomains_on, cutEntry, h]

/-- The domains once step 4 of Table 15.4 is done. -/
def committedDomains (dd : Nat) (e : DomainEntry) (d : Device) : Domains :=
  { d.domains with
    entering := smErase dd d.domains.entering
    commits := smUpd 0 dd (· + 1) d.domains.commits
    kept := smSet 0 dd (if e.toRetention then getObj (Obj.retainBanks dd) d else 0) d.domains.kept
    lossWindow := dd :: d.domains.lossWindow.filter (· != dd) }

theorem commitEntry_of_entering {dd : Nat} {e : DomainEntry} {d : Device} (h : smGet none d.domains.entering dd = some e)
    (hfloor : inFloor dd d = false) : commitEntry dd d =
      let d := returnCredits dd { d with domains := committedDomains dd e d }
      setObj (Obj.domainState dd) (if e.toRetention then 0x02 else 0x00)
        (if dd = 4 && e.toRetention && getObj Obj.standbyState d = 0x01 then setObj Obj.standbyState 0x03 d else d) := by
  unfold commitEntry
  rw [h]
  dsimp only
  rw [hfloor]
  rfl

/-- Once the credits are returned, a commit changes the objects of the domain and of the standby alone. -/
theorem commitEntry_objs {dd : Nat} {e : DomainEntry} {d : Device} (h : smGet none d.domains.entering dd = some e)
    (hfloor : inFloor dd d = false) :
    getObj (Obj.domainState dd) (commitEntry dd d) = (if e.toRetention = true then 0x02 else 0x00) ∧
    ObjsChange [Obj.domainState dd, Obj.standbyState] (returnCredits dd { d with domains := committedDomains dd e d })
      (commitEntry dd d) := by
  rw [commitEntry_of_entering h hfloor]
  exact ⟨getObj_setObj_self _ _ _, ((setObj_changes (by simp) _ _).ite (.refl _ _)).trans (setObj_changes (by simp) _ _)⟩

/-- A domain off or in retention that may come on, no complex's domain and with no error in what it kept, comes on (R459). -/
theorem wakeDomain_of_down {dd : Nat} {d : Device} (hdd : dd ∈ [5, 6, 7])
    (hdown : getObj (Obj.domainState dd) d = 0x00 ∨ getObj (Obj.domainState dd) d = 0x02) (hoff : mustBeOff dd d = false) :
    wakeDomain dd false d = setObj (Obj.domainState dd) 0x01
      { (if d.domains.lossWindow.contains dd then incObj (Obj.wakesDuringEntry dd) d else d) with
        domains := { d.domains with kept := smErase dd d.domains.kept } } := by
  have hcode : domainCode dd = true := (by decide : ∀ x ∈ [5, 6, 7], domainCode x = true) dd hdd
  have hne : dd ≠ 4 := by rintro rfl; simp at hdd
  unfold wakeDomain
  rcases hdown with h | h <;> rw [h] <;> simp [hcode, hoff, hne]

end Sys2Proof.Machine

section
open Sys2Proof Sys2Proof.Machine

/-- Settles O18: each act is its one branch of Table 15.4, and the credits return by a fold over the domain's links. -/
theorem domainsEnterAndWake : Obligations.DomainsEnterAndWake := by
  refine ⟨fun s dd retention hcode hlt hstate hfloor hret hsoon hno => .of_runDev _ rfl ?_,
    fun s dd retention brought refuser hcode hstate hfloor hret hsoon h1 h9 hr hfirst => .of_runDev _ rfl ?_,
    fun s dd e he hfloor => .of_runDev _ rfl ?_, fun s dd e he => .of_runDev _ rfl ?_, fun s dd hdd hdown hoff => .of_runDev _ rfl ?_⟩
  all_goals obtain ⟨hq, hf, hl, ha, hw, hfl, hfq⟩ := domainObjs_apart dd
  · rw [requestEntry_of_decided 0 ⟨hcode, hstate, hfloor, hret, hsoon⟩, refuserOf_of_none hno]
    refine ⟨getObj_setObj_self _ _ _, by simp, rfl, fun k hk => ?_⟩
    simp only [List.mem_cons, List.not_mem_nil, or_false, not_or] at hk
    exact (getObj_setObj_ne hk.1 _ _).trans (getObj_incObj_ne hk.2 _)
  · rw [requestEntry_of_decided brought ⟨hcode, hstate, hfloor, hret, hsoon⟩, refuserOf_of_first h1 h9 hr hfirst, if_pos (by omega),
      Nat.mod_eq_of_lt (by omega)]
    refine ⟨?_, getObj_setObj_self _ _ _, ?_, rfl, fun k hk => ?_⟩
    · rw [getObj_setObj_ne hl, getObj_incObj_ne hf]
      exact (getObj_incObj_ne hq _).trans hstate
    · rw [getObj_setObj_ne hfl, getObj_incObj_self]
      exact congrArg (fun n => (n + 1) % objModulus (Obj.entryRefusals dd)) (getObj_incObj_ne hfq s.dev)
    · simp only [List.mem_cons, List.not_mem_nil, or_false, not_or] at hk
      rw [getObj_setObj_ne hk.2.2, getObj_incObj_ne hk.2.1]
      exact getObj_incObj_ne hk.1 _
  · obtain ⟨hstate, hdev, hobjs⟩ := commitEntry_objs he hfloor
    obtain ⟨hback, hledgers⟩ := returnCredits_changes dd { s.dev with domains := committedDomains dd e s.dev }
    have hheld : ∀ l, heldBy 6 l (commitEntry dd s.dev) = if l ∈ linksOf dd then 0 else heldBy 6 l s.dev := fun l => by
      rw [hdev]
      exact heldBy_returnCredits dd l _
    have hwaits : ∀ l, l ∈ linksOf dd → smGet 0 (commitEntry dd s.dev).res.linkWaits l = 0 := fun l hl => by
      rw [hdev]
      exact (linkWaits_returnCredits dd l _).trans (if_pos hl)
    have hdomains : (commitEntry dd s.dev).domains = committedDomains dd e s.dev := by
      rw [hdev, hback]
    refine ⟨hstate, ?_, ?_, ?_, fun l hl => ⟨(hheld l).trans (if_pos hl), hwaits l hl⟩, fun l hl => (hheld l).trans (if_neg hl), ?_,
      fun k hk => (hobjs k hk).trans (getObj_congr (by rw [hback])), fun l hl => ?_⟩
    · rw [hdomains]
      exact smGet_smErase_self _ _ _
    · rw [hdomains]
      exact smGet_smSet_self _ _ _ _
    · rw [hdomains]
      exact List.mem_cons_self
    · rw [hdev, hback]
    · rw [hdev]
      exact hledgers l hl
  · rw [abortEntry_of_entering he]
    refine ⟨getObj_setObj_self _ _ _, smGet_smErase_self _ _ _, ?_, rfl, fun k hk => ?_⟩
    · rw [getObj_setObj_ne ha.symm, getObj_incObj_self]
      rfl
    · simp only [List.mem_cons, List.not_mem_nil, or_false, not_or] at hk
      exact (getObj_setObj_ne hk.1 _ _).trans (getObj_incObj_ne hk.2 _)
  · rw [wakeDomain_of_down hdd hdown hoff]
    refine ⟨getObj_setObj_self _ _ _, smGet_smErase_self _ _ _, ?_, fun k hk => ?_⟩
    · split <;> rfl
    · simp only [List.mem_cons, List.not_mem_nil, or_false, not_or] at hk
      rw [getObj_setObj_ne hk.1]
      split
      · exact getObj_incObj_ne hk.2 _
      · rfl

end
end

section
/-! PROOFS. What the closing of stripe rows may change (spec/06 R188 to R193): for the ceiling of the hold-up store and for the rows. -/
-- The proofs are elaborated one after another: see the first file of these proofs.
set_option Elab.async false

namespace Sys2Proof.Machine

/-- Nothing has changed but stripes, groups and blocks of the medium, the pools with ledger 5, and the listed objects. -/
def RowsChange (ks : List Nat) (d e : Device) : Prop :=
  e = { d with objs := e.objs, ledgers := e.ledgers, res := e.res, media := { d.media with
    stripes := e.media.stripes, groups := e.media.groups, blocks := e.media.blocks } } ∧
  OnlyObjs ks d e ∧ OnlyLedgers [5] d e

variable {ks : List Nat}

theorem RowsChange.refl (d : Device) : RowsChange ks d d := ⟨rfl, fun _ _ => rfl, fun _ _ => rfl⟩

theorem RowsChange.trans {a b c : Device} (h : RowsChange ks a b) (g : RowsChange ks b c) : RowsChange ks a c := by
  obtain ⟨h, ho, hl⟩ := h
  obtain ⟨g, go, gl⟩ := g
  refine ⟨?_, fun k hk => (go k hk).trans (ho k hk), fun l hn => (gl l hn).trans (hl l hn)⟩
  exact g.trans (congrArg (fun x : Device => { x with objs := c.objs, ledgers := c.ledgers, res := c.res, media := { x.media with
    stripes := c.media.stripes, groups := c.media.groups, blocks := c.media.blocks } }) h)

theorem RowsChange.ite {d a b : Device} {c : Prop} [Decidable c] (ha : RowsChange ks d a) (hb : RowsChange ks d b) :
    RowsChange ks d (if c then a else b) := by
  split
  · exact ha
  · exact hb

theorem RowsChange.foldl {β : Type} {g : Device → β → Device} (hg : ∀ d b, RowsChange ks d (g d b)) (xs : List β) (d : Device) :
    RowsChange ks d (xs.foldl g d) := foldl_rel (R := RowsChange ks) .refl (fun h g => h.trans g) hg xs d

theorem ObjsChange.rows {d e : Device} (h : ObjsChange ks d e) : RowsChange ks d e := by
  obtain ⟨h, ho⟩ := h
  refine ⟨?_, ho, fun l _ => ?_⟩
  · rw [h]
  · rw [h]
    rfl

/-! ### The steps of a closing -/

theorem updBlock_rows (b : Nat) (f : Block → Block) (d : Device) : RowsChange ks d (updBlock b f d) := ⟨rfl, fun _ _ => rfl, fun _ _ => rfl⟩

theorem updGroup_rows (n slot : Nat) (f : Group → Group) (d : Device) : RowsChange ks d (updGroup n slot f d) :=
  ⟨rfl, fun _ _ => rfl, fun _ _ => rfl⟩

theorem updStripe_rows (n : Nat) (f : Stripe → Stripe) (d : Device) : RowsChange ks d (updStripe n f d) := ⟨rfl, fun _ _ => rfl, fun _ _ => rfl⟩

theorem updLedger5_rows (f : Ledger → Ledger) (d : Device) : RowsChange ks d (updLedger 5 f d) :=
  ⟨rfl, fun _ _ => rfl, fun _ hl => (ledger_updLedger _ 5 f d).trans (if_neg (by simpa using hl))⟩

theorem setRes_rows (r : Resources) (d : Device) : RowsChange ks d { d with res := r } := ⟨rfl, fun _ _ => rfl, fun _ _ => rfl⟩

theorem poolEmptyResult_rows (size : Nat) (own : Bool) (d : Device) : RowsChange ks d (poolEmptyResult 0x41 5 size own d) :=
  (setRes_rows _ d).trans (updLedger5_rows _ _)

theorem grantBuffer_rows (standing : Bool) (d : Device) : RowsChange ks d (grantBuffer 0x41 5 standing d) :=
  (setRes_rows _ d).trans (updLedger5_rows _ _)

/-- The stripe engine takes a buffer of pool C, or waits for one. -/
theorem takeBuffer_rows (standing : Bool) (d : Device) : RowsChange ks d (takeBuffer 0x41 5 standing d).2 := by
  unfold takeBuffer
  split
  · exact .refl d
  · split
    · exact grantBuffer_rows standing d
    · exact poolEmptyResult_rows _ _ d

theorem holdSums_rows (n : Nat) (rows : List Nat) (d : Device) : RowsChange ks d (holdSums n rows d) := by
  refine .foldl (fun d r => ?_) rows d
  have h := takeBuffer_rows (ks := ks) false d
  split
  · next heq =>
    rw [heq] at h
    exact h.trans (updStripe_rows _ _ _)
  · next heq =>
    rw [heq] at h
    exact h

theorem padWordline_rows (n slot w : Nat) (d : Device) : RowsChange ks d (padWordline n slot w d) :=
  (RowsChange.foldl (fun d b => updBlock_rows b _ d) _ d).trans (updGroup_rows _ _ _ _)

theorem padEnd_rows (n slot : Nat) (d : Device) : RowsChange ks d (padEnd n slot d) := by
  unfold padEnd
  exact .ite (padWordline_rows _ _ _ d) (.refl d)

/-- A filled row counts its filler frames. -/
theorem fillRow_rows (hk : Obj.fillerFrames ∈ ks) (w : Nat) (d : Device) (b : Nat) : RowsChange ks d (fillRow w d b) := by
  unfold fillRow
  exact .ite (.refl d) ((updBlock_rows b _ d).trans (setObj_changes hk _ _).rows)

theorem encodeGroup_rows (hk : Obj.fillerFrames ∈ ks) (n slot : Nat) (d : Device) : RowsChange ks d (encodeGroup n slot d) := by
  unfold encodeGroup
  have hpad := padEnd_rows (ks := ks) n slot d
  refine .ite (.refl d) (.ite hpad (.ite (hpad.trans (poolEmptyResult_rows _ _ _)) ?_))
  refine (hpad.trans (holdSums_rows _ _ _)).trans ((RowsChange.foldl (fun d w => ?_) _ _).trans (updGroup_rows _ _ _ _))
  exact .ite (.refl d) (.foldl (fillRow_rows hk w) _ d)

theorem encodeMembers_rows (hk : Obj.fillerFrames ∈ ks) (n : Nat) (d : Device) : RowsChange ks d (encodeMembers n d) :=
  .foldl (fun d x => encodeGroup_rows hk x _ d) _ d

theorem setGathered_rows (n r : Nat) (d : Device) : RowsChange ks d (setGathered n r d) := updStripe_rows n _ d

/-- A row that closes as it stands counts itself short and its filler frames. -/
theorem closeRow_rows (hs : Obj.shortRows ∈ ks) (hk : Obj.fillerFrames ∈ ks) (n r : Nat) (d : Device) : RowsChange ks d (closeRow n r d) := by
  unfold closeRow
  refine ((RowsChange.refl d).ite (incObj_changes hs d).rows).trans ((RowsChange.foldl (fun d x => ?_) _ _).trans (setGathered_rows _ _ _))
  exact .foldl (fillRow_rows hk _) _ d

theorem padRow_rows (hp : Obj.paddingRows ∈ ks) (n r : Nat) (d : Device) : RowsChange ks d (padRow n r d) := by
  unfold padRow
  exact ((RowsChange.foldl (fun d x => padWordline_rows x _ _ d) _ d).trans (setGathered_rows _ _ _)).trans (incObj_changes hp _).rows

theorem closeRows_rows (hf : frameObjs ⊆ ks) (fuel n r : Nat) (d : Device) : RowsChange ks d (closeRows fuel n r d) := by
  have hrow := closeRow_rows (hf (by decide : Obj.shortRows ∈ frameObjs)) (hf (by decide : Obj.fillerFrames ∈ frameObjs)) n
  induction fuel generalizing d with
  | zero => exact .refl d
  | succ fuel ih =>
    unfold closeRows
    exact .ite (.refl d) (.ite ((hrow _ d).trans (ih _)) (.ite (.refl d) (.ite ((hrow _ d).trans (ih _)) (.ite (.refl d)
      (padRow_rows (hf (by decide)) n _ d)))))

/-- A forced close changes stripes, groups, blocks, the buffers of the stripe engine and the counts of frames and rows. -/
theorem forceClose_rows (hf : frameObjs ⊆ ks) (n r : Nat) (d : Device) : RowsChange ks d (forceClose n r d) := by
  unfold forceClose
  exact .ite ((closeRows_rows hf _ n r d).trans (encodeMembers_rows (hf (by decide)) n _)) (.refl d)

theorem closeFor_rows (hf : frameObjs ⊆ ks) (pick : FlightGrain → Bool) (d : Device) : RowsChange ks d (closeFor pick d) := by
  refine .foldl (fun d g => ?_) _ d
  split
  · exact forceClose_rows hf _ _ d
  · exact .refl d

end Sys2Proof.Machine
end

section
/-! PROOFS. One value written to one object (spec/13 R398 to R411): what is left of a request once its object, class, value and right have
been checked is the object's effect. -/
-- The proofs are elaborated one after another: see the first file of these proofs.
set_option Elab.async false

namespace Sys2Proof.Machine

/-! ### Answers -/

theorem pathState_answerPath (path : Nat) (abort : Option Nat) (value : List Byte) (d : Device) :
    pathState path (answerPath path abort value d) = { pathState path d with abort := abort, value := value } := by
  unfold answerPath
  rw [pathState_updPath_self, pathState_congr]
  unfold countRequest
  dsimp only
  split <;> rfl

theorem pathState_answerPath_ne {p path : Nat} (h : p ≠ path) (abort : Option Nat) (value : List Byte) (d : Device) :
    pathState p (answerPath path abort value d) = pathState p d := by
  unfold answerPath
  rw [pathState_updPath_ne h, pathState_congr]
  unfold countRequest
  dsimp only
  split <;> rfl

/-- An answer without an abort counts one request and changes its path alone. -/
theorem answerPath_done (path : Nat) (value : List Byte) (d : Device) : answerPath path none value d =
    updPath path (fun s => { s with abort := none, value := value }) (incObj Obj.dictionaryRequests d) := rfl

theorem getObj_answerPath {k : Nat} (hk : k ≠ Obj.dictionaryRequests) (path : Nat) (value : List Byte) (d : Device) :
    getObj k (answerPath path none value d) = getObj k d := getObj_incObj_ne hk d

theorem answerPath_requests (path : Nat) (value : List Byte) (d : Device) :
    getObj Obj.dictionaryRequests (answerPath path none value d) =
      (getObj Obj.dictionaryRequests d + 1) % objModulus Obj.dictionaryRequests := getObj_incObj_self _ d

/-- The answer's counts and the path's state are all that it changes. -/
theorem answerPath_frame (path : Nat) (abort : Option Nat) (value : List Byte) (d : Device) :
    answerPath path abort value d = { d with objs := (answerPath path abort value d).objs
                                             settings := { d.settings with paths := (answerPath path abort value d).settings.paths } } := by
  unfold answerPath countRequest
  dsimp only
  split <;> rfl

/-! ### The checks of R402 -/

/-- A request that writes `bytes` to `key` alone passes every check of R402 but those that its effect makes; `d'` is the device with the grant
used. -/
structure SingleWrite (path key : Nat) (bytes : List Byte) (d d' : Device) : Prop where
  present : absent (key / 256) (key % 256) = none
  parts : shape key bytes = ([(key, bytes)], none)
  admitted : writeAdmitted key d = true
  writable : accessOf key ≠ .ro
  served : d.ctl.mode ≠ .m8 ∨ storedObject key = false
  authorised : authorise path key [(key, bytes)] d = .ok d'
  range : inRange [(key, bytes)] d' key bytes = true
  uncommitted : isCommit key = false
  kept : key ≠ Obj.settingsRestoreDefaults
  single : isMember key = false

theorem objKey_div_mod (key : Nat) : objKey (key / 256) (key % 256) = key := by
  unfold objKey
  omega

/-- The shape of a value that has the length of its object's type. -/
theorem shape_of_length {key : Nat} {bytes : List Byte} {r : ObjRow} (h : objRow? key = some r) (hlen : bytes.length = typeSize r.typ) :
    shape key bytes = ([(key, bytes)], none) := by
  unfold shape
  rw [h]
  dsimp only
  rw [if_pos (by simp [hlen])]

variable {path key : Nat} {bytes : List Byte} {out : StoreOutcome} {d d' : Device}

theorem SingleWrite.late (h : SingleWrite path key bytes d d') :
    writeObject path (key / 256) (key % 256) bytes out d = match lateWrite path key [(key, bytes)] none out d' with
      | (some e, d) => (.aborted e.1 e.2, d)
      | (none, d) => (.done, d) := by
  have hstore : (d.ctl.mode = .m8 && (none : Option (Nat × Nat)).isNone && wouldStore path key [(key, bytes)] d) = false := by
    unfold wouldStore
    rcases h.served with h8 | hs
    · simp [h8]
    · simp [h.uncommitted, h.kept, hs]
  unfold writeObject
  rw [h.present]
  dsimp only
  rw [objKey_div_mod, h.parts]
  dsimp only
  have hearly : firstAbort (earlyAborts [(key, bytes)] none d) = none := by
    simp [earlyAborts, h.admitted, h.writable, firstAbort]
  rw [hearly]
  dsimp only
  rw [hstore, h.authorised]
  rfl

theorem SingleWrite.applied (h : SingleWrite path key bytes d d') (e : Device) : applyParts path out [(key, bytes)] e =
    match writeEffect path key bytes out e with
    | none => .error (key % 256)
    | some x => .ok x := by
  unfold applyParts
  rw [h.single]
  simp only [Bool.false_eq_true, if_false]
  cases writeEffect path key bytes out e <;> rfl

/-- The group record of a request that writes one object. -/
def singleRecord (key : Nat) (bytes : List Byte) : GroupRecord :=
  if storedObject key then [(key, some (writtenBits key (ofLe bytes)))] else []

theorem SingleWrite.record (h : SingleWrite path key bytes d d') : (([(key, bytes)].filter fun p => storedObject p.1 && !isMember p.1).map
    fun p => (p.1, some (writtenBits p.1 (ofLe p.2)))) = singleRecord key bytes := by
  unfold singleRecord
  cases hs : storedObject key <;> simp [hs, h.single]

theorem SingleWrite.late_eq (h : SingleWrite path key bytes d d') : lateWrite path key [(key, bytes)] none out d' =
    match applyParts path out [(key, bytes)] d' with
    | .error sub => (some (Abort.stateConflict, sub), d')
    | .ok _ =>
      match storeRecord (singleRecord key bytes) out d' with
      | (d, false) => (some (Abort.storeFailed, failedEntry (singleRecord key bytes) out % 256), d)
      | (d, true) => (none, match applyParts path out [(key, bytes)] d with | .ok d => d | .error _ => d) := by
  have hvalues : (([(key, bytes)].filter fun p => !inRange [(key, bytes)] d' p.1 p.2).map fun p => (Abort.valueOutOfRange, p.1 % 256)) = [] := by
    simp [h.range]
  unfold lateWrite
  dsimp only
  rw [hvalues, h.uncommitted, h.record]
  simp only [Option.toList_none, List.append_nil, firstAbort, List.foldl_nil, Bool.false_eq_true, if_false, h.kept] <;> rfl

/-- An object that is not stored takes the effect that its value has. -/
theorem SingleWrite.done (h : SingleWrite path key bytes d d') (hs : storedObject key = false) {e : Device}
    (he : writeEffect path key bytes out d' = some e) :
    writeObject path (key / 256) (key % 256) bytes out d = (.done, e) := by
  rw [h.late, h.late_eq, h.applied, he]
  simp [singleRecord, hs, storeRecord, h.applied, he]

/-- A stored object takes its value once the record is stored. -/
theorem SingleWrite.stored (h : SingleWrite path key bytes d d') {e e' x : Device} (hx : writeEffect path key bytes out d' = some x)
    (hs : storeRecord (singleRecord key bytes) out d' = (e, true)) (he : writeEffect path key bytes out e = some e') :
    writeObject path (key / 256) (key % 256) bytes out d = (.done, e') := by
  rw [h.late, h.late_eq, h.applied, hx]
  simp [hs, h.applied, he]

theorem writeRequest_of_done {i : Instr} {index sub : Nat} {e : Device} (hp : validPath path = true)
    (h : writeObject path index sub bytes out d = (.done, e)) : writeRequest i path index sub bytes out d = answerPath path none [] e := by
  unfold writeRequest
  rw [hp, h]
  rfl

theorem writeRequest_of_aborted {i : Instr} {index sub a b : Nat} {e : Device} (hp : validPath path = true)
    (h : writeObject path index sub bytes out d = (.aborted a b, e)) :
    writeRequest i path index sub bytes out d = answerPath path (some (abortCode a b)) [] e := by
  unfold writeRequest
  rw [hp, h]
  rfl

theorem validPath_of {path : Nat} (h1 : 1 ≤ path) (h5 : path ≤ 5) : validPath path = true := by
  simp [validPath, h1, h5]

/-- The objects whose range is more than the bounds of their row (Table 13.7). -/
def rangedObjs : List Nat :=
  [Obj.recoveryChunk, Obj.recoveryOffset, Obj.holdUpFloorMv, Obj.holdUpMinMv, Obj.tokenPoolSize, Obj.tokenBankReserve]

/-- The value of an object whose range is the bounds of its row alone. -/
theorem inRange_of_row {parts : List (Nat × List Byte)} {r : ObjRow} (hrow : objRow? key = some r)
    (hindex : key / 256 ∉ [0x8100, 0x4410, 0x4411, 0x6021, 0x5210]) (hkey : key ∉ rangedObjs)
    (hlo : r.lo ≤ writtenBits key (ofLe bytes)) (hhi : writtenBits key (ofLe bytes) ≤ r.hi) : inRange parts d key bytes = true := by
  simp only [List.mem_cons, List.not_mem_nil, or_false, not_or] at hindex
  simp only [rangedObjs, List.mem_cons, List.not_mem_nil, or_false, not_or] at hkey
  obtain ⟨hrate, hauth, hrights, hmap, hretain⟩ := hindex
  obtain ⟨hchunk, hoffset, hfloor, hmin, hpool, hreserve⟩ := hkey
  unfold inRange
  rw [hrow]
  simp [hrate, hauth, hrights, hmap, hretain, hchunk, hoffset, hfloor, hmin, hpool, hreserve, hlo, hhi]

/-- A class that no right guards is written without a grant. -/
theorem authorise_of_unguarded (h : accessOf key ≠ .grd) : authorise path key [(key, bytes)] d = .ok d := by
  unfold authorise
  rw [if_pos]
  simp [h]

end Sys2Proof.Machine
end

section
/-! PROOFS. The hold-up store (spec/15): O14. -/
-- The proofs are elaborated one after another: see the first file of these proofs.
set_option Elab.async false

namespace Sys2Proof.Machine

/-! ### The ceiling -/

/-- The objects that a new ceiling may change. -/
def ceilingObjs : List Nat :=
  [Obj.holdUpDeductionMj, Obj.holdUpVerifiedMj, Obj.writeBufferEnergy, Obj.flushEnergyPerGiB, Obj.writeBufferCeiling] ++ frameObjs ++ asideObjs

/-- What a new ceiling leaves: the control state, the hold-up store, the settings, rights, power domains and complexes, the component in use,
and every object but those of the ceiling, of the rows that it closes and of its record. -/
structure CeilingKeeps (d e : Device) : Prop where
  ctl : e.ctl = d.ctl
  holdup : e.holdup = d.holdup
  settings : e.settings = d.settings
  sec : e.sec = d.sec
  domains : e.domains = d.domains
  cpx : e.cpx = d.cpx
  oa : e.cs.oa = d.cs.oa
  objs : OnlyObjs ceilingObjs d e

theorem CeilingKeeps.trans {a b c : Device} (h : CeilingKeeps a b) (g : CeilingKeeps b c) : CeilingKeeps a c where
  ctl := g.ctl.trans h.ctl
  holdup := g.holdup.trans h.holdup
  settings := g.settings.trans h.settings
  sec := g.sec.trans h.sec
  domains := g.domains.trans h.domains
  cpx := g.cpx.trans h.cpx
  oa := g.oa.trans h.oa
  objs k hk := (g.objs k hk).trans (h.objs k hk)

theorem ObjsChange.ceiling {d e : Device} (h : ObjsChange ceilingObjs d e) : CeilingKeeps d e := by
  obtain ⟨h, ho⟩ := h
  exact ⟨by rw [h], by rw [h], by rw [h], by rw [h], by rw [h], by rw [h], by rw [h], ho⟩

theorem Aside.ceiling {d e : Device} (h : Aside d e) : CeilingKeeps d e where
  ctl := h.ctl
  holdup := h.holdup
  settings := h.settings
  sec := h.sec
  domains := h.domains
  cpx := h.cpx
  oa := by rw [h.cs]
  objs k hk := h.objs k fun hm => hk (List.mem_append_right _ hm)

theorem RowsChange.ceiling {d e : Device} (h : RowsChange frameObjs d e) : CeilingKeeps d e := by
  obtain ⟨h, ho, -⟩ := h
  exact ⟨by rw [h], by rw [h], by rw [h], by rw [h], by rw [h], by rw [h], by rw [h],
    fun k hk => ho k fun hm => hk (List.mem_append_left _ (List.mem_append_right _ hm))⟩

/-- The energy and its deduction as they are set before the ceiling is looked at (R470, R472). -/
def energySet (d : Device) : Device :=
  let eu := verifiedEnergy d
  let d := setObj Obj.writeBufferEnergy eu (setObj Obj.holdUpVerifiedMj eu (setObj Obj.holdUpDeductionMj (deduction d).ceil.toNat d))
  setObj Obj.flushEnergyPerGiB (flushEnergy d).floor.toNat d

theorem energySet_changes (d : Device) : ObjsChange ceilingObjs d (energySet d) :=
  ((setObj_changes (by simp [ceilingObjs]) _ d).trans (setObj_changes (by simp [ceilingObjs]) _ _)).trans
    ((setObj_changes (by simp [ceilingObjs]) _ _).trans (setObj_changes (by simp [ceilingObjs]) _ _))

theorem verifiedMj_energySet (d : Device) : getObj Obj.holdUpVerifiedMj (energySet d) = verifiedEnergy d := by
  unfold energySet
  dsimp only
  rw [getObj_setObj_ne (by decide), getObj_setObj_ne (by decide), getObj_setObj_self]

theorem recomputeCeiling_eq (d : Device) : recomputeCeiling d =
    let e := energySet d
    if ceilingOf e = getObj Obj.writeBufferCeiling e then e
    else
      let r := logRec Code.writeBufferCeilingChanged [getObj Obj.writeBufferCeiling e, ceilingOf e, bufferInUse e]
        (setObj Obj.writeBufferCeiling (ceilingOf e) e)
      if ceilingOf e < bufferInUse r then
        closeFor (fun g => ((r.media.wp.writes.filter (·.buffered)).map (·.id)).contains g.cmd && !g.superseded) r
      else r := rfl

/-- Past the energy, a new ceiling changes its own object, its record, and the rows that it closes. -/
theorem recomputeCeiling_past (d : Device) :
    ∃ a b, ObjsChange [Obj.writeBufferCeiling] (energySet d) a ∧ Aside a b ∧ RowsChange frameObjs b (recomputeCeiling d) := by
  rw [recomputeCeiling_eq]
  dsimp only
  split
  · exact ⟨_, _, .refl _ _, .refl _, .refl _⟩
  · exact ⟨_, _, setObj_changes (List.mem_singleton_self _) _ _, logRec_aside _ _ _, .ite (closeFor_rows (fun _ h => h) _ _) (.refl _)⟩

theorem recomputeCeiling_keeps_parts (d : Device) : CeilingKeeps d (recomputeCeiling d) := by
  obtain ⟨a, b, ⟨hset, hobjs⟩, haside, hrows⟩ := recomputeCeiling_past d
  have hset' : ObjsChange ceilingObjs (energySet d) a := ⟨hset, fun j hj => hobjs j fun h => hj (by rw [List.mem_singleton.mp h]; decide)⟩
  exact ((energySet_changes d).ceiling.trans hset'.ceiling).trans (haside.ceiling.trans hrows.ceiling)

theorem verifiedMj_recomputeCeiling (d : Device) : getObj Obj.holdUpVerifiedMj (recomputeCeiling d) = verifiedEnergy d := by
  obtain ⟨a, b, hset, haside, hrows⟩ := recomputeCeiling_past d
  rw [hrows.2.1 _ (by decide), haside.objs _ (by decide), hset.2 _ (by decide), verifiedMj_energySet]

/-- While the store has not passed its last test nothing is relied on (R472). -/
theorem verifiedMj_of_state {d : Device} (h : getObj Obj.holdUpState d ≠ 0x02) : getObj Obj.holdUpVerifiedMj (recomputeCeiling d) = 0 := by
  rw [verifiedMj_recomputeCeiling, verifiedEnergy, if_neg h]

/-! ### Charging -/

theorem driveCharge_huChgEn (d : Device) : (driveCharge d).ctl.huChgEn = chargeWanted d := by
  unfold driveCharge
  dsimp only
  split
  · next h => exact h.symm
  · split <;> rfl

/-- HU_CHG_EN and the time of the charge are all that the drive changes. -/
theorem driveCharge_frame (d : Device) : driveCharge d = { d with
    ctl := { d.ctl with huChgEn := (driveCharge d).ctl.huChgEn }
    holdup := { d.holdup with
      chargeMs := (driveCharge d).holdup.chargeMs, reached := (driveCharge d).holdup.reached, timedOut := (driveCharge d).holdup.timedOut } } := by
  unfold driveCharge
  dsimp only
  split
  · rfl
  · split <;> rfl

/-! ### The end of a test -/

/-- The device of a test that has ended: charging again, with what the test found and its count (R469). -/
def testCounted (c esr : Nat) (d : Device) : Device :=
  incObj Obj.holdUpTestsRun (setObj Obj.holdUpEsrMohm (min 0xFFFF esr) (setObj Obj.holdUpCapacitanceUf (c % 2 ^ 32)
    (driveCharge { d with holdup := { d.holdup with testing := false, lastTestHours := some (hours d) } })))

/-- A test that passed, before the ceiling follows (R471). -/
def testPassed (raw : Nat) (d : Device) : Device :=
  setObj Obj.holdUpRawMj (raw % 2 ^ 32) (setObj Obj.holdUpFailCause 0 (setObj Obj.holdUpState 0x02
    { d with holdup := { d.holdup with rawMj := raw } }))

/-- A test that failed, before the ceiling follows (R471). -/
def testFailed (cause c esr : Nat) (d : Device) : Device :=
  logRec Code.holdupTestFailed [cause, c, esr] (incObj Obj.holdUpTestsFailed
    (setObj Obj.holdUpFailCause cause (setObj Obj.holdUpState 0x03 d)))

theorem endTest_of_stopped {d : Device} (htesting : d.holdup.testing = true) (hstop : d.holdup.stopped = true) : endTest d =
    recomputeCeiling (if (testResult d).2.2.2 = 0 then testPassed (testResult d).2.2.1 (testCounted (testResult d).1 (testResult d).2.1 d)
      else testFailed (testResult d).2.2.2 (testResult d).1 (testResult d).2.1 (testCounted (testResult d).1 (testResult d).2.1 d)) := by
  rw [endTest, htesting, hstop]
  rfl

theorem testCounted_frame (c esr : Nat) (d : Device) : (testCounted c esr d).holdup.testing = false ∧
    (testCounted c esr d).holdup.lastTestHours = some (hours d) ∧ (testCounted c esr d).settings = d.settings ∧
    (testCounted c esr d).sec = d.sec ∧
    (testCounted c esr d).ctl.huChgEn = chargeWanted { d with holdup := { d.holdup with testing := false, lastTestHours := some (hours d) } } := by
  have hframe := driveCharge_frame { d with holdup := { d.holdup with testing := false, lastTestHours := some (hours d) } }
  have hen := driveCharge_huChgEn { d with holdup := { d.holdup with testing := false, lastTestHours := some (hours d) } }
  refine ⟨?_, ?_, ?_, ?_, hen⟩
  · exact congrArg (fun x : Device => x.holdup.testing) hframe
  · exact congrArg (fun x : Device => x.holdup.lastTestHours) hframe
  · exact (congrArg Device.settings hframe :)
  · exact (congrArg Device.sec hframe :)

theorem testPassed_objs (raw : Nat) (d : Device) :
    getObj Obj.holdUpState (testPassed raw d) = 0x02 ∧ getObj Obj.holdUpFailCause (testPassed raw d) = 0 := by
  unfold testPassed
  rw [getObj_setObj_ne (by decide), getObj_setObj_ne (by decide), getObj_setObj_self, getObj_setObj_ne (by decide), getObj_setObj_self]
  exact ⟨rfl, rfl⟩

theorem testFailed_keeps (cause c esr : Nat) (d : Device) : (testFailed cause c esr d).holdup = d.holdup ∧
    (testFailed cause c esr d).ctl = d.ctl ∧ (testFailed cause c esr d).settings = d.settings ∧ (testFailed cause c esr d).sec = d.sec := by
  simp [testFailed]

theorem testFailed_objs (cause c esr : Nat) (d : Device) :
    getObj Obj.holdUpState (testFailed cause c esr d) = 0x03 ∧ getObj Obj.holdUpFailCause (testFailed cause c esr d) = cause := by
  unfold testFailed
  rw [(logRec_aside _ _ _).objs _ (by decide), (logRec_aside _ _ _).objs _ (by decide), getObj_incObj_ne (by decide),
    getObj_incObj_ne (by decide), getObj_setObj_self, getObj_setObj_ne (by decide), getObj_setObj_self]
  exact ⟨rfl, rfl⟩

/-- The store is charged in the modes from M3 on that are named, with no test and no warning (R467). -/
theorem chargeWanted_of {d : Device} (hmode : d.ctl.mode ∈ [Mode.m3, .m4, .m5, .m6, .m7, .m9]) (htesting : d.holdup.testing = false)
    (hwarned : d.ctl.warned = false) : chargeWanted d = true := by
  unfold chargeWanted
  rw [htesting, hwarned]
  dsimp only
  generalize d.ctl.mode = m at hmode
  revert m
  decide

/-! ### The request for a test -/

theorem holdUpTestRequest_row : objRow? Obj.holdUpTestRequest =
    some { idxLo := 0x5020, idxHi := 0x5020, subLo := 0x10, subHi := 0x10, typ := .u8, acc := .rw, stored := false, dflt := 0,
           form := .reads, lo := 1, hi := 1, perPath := false, array := false } := by
  decide +kernel

/-- HoldUpTestRequest is written by every path and stored nowhere. -/
theorem holdUpTestRequest_single {path : Nat} {d : Device} (hmode : d.ctl.mode ∈ [Mode.m3, .m4, .m5, .m6, .m7, .m9]) :
    SingleWrite path Obj.holdUpTestRequest (leBytes 1 1) d d where
  present := by decide +kernel
  parts := shape_of_length holdUpTestRequest_row (by decide)
  admitted := by
    unfold writeAdmitted
    generalize d.ctl.mode = m at hmode
    revert m
    decide
  writable := by decide +kernel
  served := .inr (by decide +kernel)
  authorised := authorise_of_unguarded (by decide +kernel)
  range := inRange_of_row holdUpTestRequest_row (by decide) (by decide) (by decide) (by decide)
  uncommitted := by decide
  kept := by decide
  single := by decide

theorem requestTest_of_mode {d : Device} (hmode : d.ctl.mode ∈ [Mode.m3, .m4, .m5, .m6, .m7, .m9]) :
    requestTest d = some { d with holdup := { d.holdup with due := true } } := by
  unfold requestTest
  generalize d.ctl.mode = m at hmode
  simp only [List.mem_cons, List.not_mem_nil, or_false] at hmode
  rcases hmode with rfl | rfl | rfl | rfl | rfl | rfl <;> rfl

end Sys2Proof.Machine

section
open Sys2Proof Sys2Proof.Machine

/-- Settles O14: each act is its one branch, and the ceiling that follows keeps what the statement names. -/
theorem holdUpStoreIsTested : Obligations.HoldUpStoreIsTested := by
  refine ⟨fun s hen hreached hto hdue => .of_runDev _ rfl ?_, fun s hmode hdue htesting hwarned => .of_runDev _ rfl ?_,
    fun s v0 htesting hv0 => .of_runDev _ rfl ?_, fun s mv htesting htest hstop => .of_runDev _ rfl ?_,
    fun s htesting hstop => .of_runDev _ rfl ?_, fun s path h1 h5 hmode => .of_runDev _ rfl ?_⟩
  · rw [chargeTimeout, if_pos (by simp [hen, hreached, hto, hdue]), storeFails]
    generalize hr : logRec Code.holdupChargeTimeout [getObj Obj.holdUpSenseMv s.dev]
      { s.dev with holdup := { s.dev.holdup with timedOut := true } } = r
    have hrec : Aside { s.dev with holdup := { s.dev.holdup with timedOut := true } } r := hr ▸ logRec_aside _ _ _
    have hk := recomputeCeiling_keeps_parts (setObj Obj.holdUpFailCause 0x07 (setObj Obj.holdUpState 0x03 r))
    refine ⟨?_, ?_, ?_, ?_, hk.settings.trans hrec.settings, hk.ctl.trans hrec.ctl, hk.sec.trans hrec.sec⟩
    · rw [hk.objs _ (by decide), getObj_setObj_ne (by decide), getObj_setObj_self]
    · rw [hk.objs _ (by decide), getObj_setObj_self]
    · rw [hk.holdup]
      exact congrArg HoldUp.timedOut hrec.holdup
    · exact verifiedMj_of_state (by rw [getObj_setObj_ne (by decide), getObj_setObj_self]; decide)
  · have htest : testMode s.dev = true := by
      unfold testMode
      generalize s.dev.ctl.mode = m at hmode
      revert m
      decide
    rw [startTest, if_neg (by simp [htest, testDue, hdue, htesting, hwarned])]
    have hk := recomputeCeiling_keeps_parts (setObj Obj.holdUpState 0x04 { s.dev with
      ctl := { s.dev.ctl with huChgEn := false }
      holdup := { s.dev.holdup with due := false, testing := true, before := getObj Obj.holdUpState s.dev, v0 := none, samples := [],
                                    stopped := false, settings := none } })
    have hverified := verifiedMj_of_state (d := setObj Obj.holdUpState 0x04 { s.dev with
      ctl := { s.dev.ctl with huChgEn := false }
      holdup := { s.dev.holdup with due := false, testing := true, before := getObj Obj.holdUpState s.dev, v0 := none, samples := [],
                                    stopped := false, settings := none } }) (by rw [getObj_setObj_self]; decide)
    refine ⟨?_, ?_, ?_, ?_, ?_, ?_, (hk.objs _ (by decide)).trans (getObj_setObj_self _ _ _), hverified, ?_, hk.ctl, hk.settings, hk.sec,
      hk.domains, hk.cpx, hk.oa⟩
    · rw [hk.ctl]; rfl
    all_goals rw [hk.holdup]; rfl
  · rw [onlyIf, htesting, hv0]
    rfl
  · rw [takeSample, if_neg (by simp [htesting, htest, hstop])]
    refine ⟨rfl, ?_, by simp⟩
    simp only [List.length_append, List.length_cons, List.length_nil, Bool.not_eq_false', Bool.or_eq_true, decide_eq_true_eq]
    exact or_congr_left (by omega)
  · rw [endTest_of_stopped htesting hstop]
    obtain ⟨htest, hhours, hsettings, hsec, hen⟩ := testCounted_frame (testResult s.dev).1 (testResult s.dev).2.1 s.dev
    generalize hcounted : testCounted (testResult s.dev).1 (testResult s.dev).2.1 s.dev = d at *
    have hcharge : s.dev.ctl.mode ∈ [Mode.m3, .m4, .m5, .m6, .m7, .m9] → s.dev.ctl.warned = false → d.ctl.huChgEn = true :=
      fun hm hw => hen.trans (chargeWanted_of hm rfl hw)
    by_cases hcause : (testResult s.dev).2.2.2 = 0
    · rw [if_pos hcause]
      have hk := recomputeCeiling_keeps_parts (testPassed (testResult s.dev).2.2.1 d)
      obtain ⟨hstate, hfail⟩ := testPassed_objs (testResult s.dev).2.2.1 d
      refine ⟨?_, ?_, fun _ => ⟨?_, ?_, ?_⟩, fun h => absurd hcause h, fun hm hw => ?_, ?_, ?_⟩
      · rw [hk.holdup]; exact htest
      · rw [hk.holdup]; exact hhours
      · rw [hk.objs _ (by decide), hstate]
      · rw [hk.objs _ (by decide), hfail]
      · rw [hk.holdup]; rfl
      · rw [hk.ctl]; exact hcharge hm hw
      · rw [hk.settings]; exact hsettings
      · rw [hk.sec]; exact hsec
    · rw [if_neg hcause]
      have hk := recomputeCeiling_keeps_parts (testFailed (testResult s.dev).2.2.2 (testResult s.dev).1 (testResult s.dev).2.1 d)
      obtain ⟨hstate, hfail⟩ := testFailed_objs (testResult s.dev).2.2.2 (testResult s.dev).1 (testResult s.dev).2.1 d
      obtain ⟨hholdup, hctl, hset, hs⟩ := testFailed_keeps (testResult s.dev).2.2.2 (testResult s.dev).1 (testResult s.dev).2.1 d
      refine ⟨?_, ?_, fun h => absurd h hcause, fun _ => ⟨?_, ?_, verifiedMj_of_state (by rw [hstate]; decide)⟩, fun hm hw => ?_, ?_, ?_⟩
      · rw [hk.holdup, hholdup, htest]
      · rw [hk.holdup, hholdup, hhours]
      · rw [hk.objs _ (by decide), hstate]
      · rw [hk.objs _ (by decide), hfail]
      · rw [hk.ctl, hctl, hcharge hm hw]
      · rw [hk.settings, hset, hsettings]
      · rw [hk.sec, hs, hsec]
  · have hwrite := (holdUpTestRequest_single (path := path) hmode).done (out := {}) (by decide +kernel)
      (show writeEffect path Obj.holdUpTestRequest (leBytes 1 1) {} s.dev = _ from requestTest_of_mode hmode)
    have hreq := writeRequest_of_done (i := .holdupTestRequest path 1) (validPath_of h1 h5) hwrite
    have hsize : objSize Obj.holdUpTestRequest = 1 := by decide +kernel
    unfold writeValue
    rw [hsize, hreq, answerPath_done]
    refine ⟨rfl, ?_, rfl, fun k hk => ?_⟩
    · rw [pathState_updPath_self]
    · exact getObj_incObj_ne (by simpa using hk) _

end
end

section
/-! PROOFS. The release of the reset (spec/21 R609, spec/01 R32): O10. -/
-- The proofs are elaborated one after another: see the first file of these proofs.
set_option Elab.async false

namespace Sys2Proof.Machine

/-! ### What the steps of a boot leave alone -/

/-- The control state, what waits, the grains in flight and the logbook's persisted frames are as before. -/
structure BootKeeps (d e : Device) : Prop where
  ctl : e.ctl = d.ctl
  held : e.held = d.held
  delayed : e.delayed = d.delayed
  flight : e.media.flight = d.media.flight
  frames : e.log.frames = d.log.frames

theorem BootKeeps.refl (d : Device) : BootKeeps d d := ⟨rfl, rfl, rfl, rfl, rfl⟩

theorem BootKeeps.trans {a b c : Device} (h : BootKeeps a b) (g : BootKeeps b c) : BootKeeps a c :=
  ⟨g.ctl.trans h.ctl, g.held.trans h.held, g.delayed.trans h.delayed, g.flight.trans h.flight, g.frames.trans h.frames⟩

theorem BootKeeps.ite {d a b : Device} {c : Prop} [Decidable c] (ha : BootKeeps d a) (hb : BootKeeps d b) :
    BootKeeps d (if c then a else b) := by
  split
  · exact ha
  · exact hb

theorem BootKeeps.foldl {β : Type} {g : Device → β → Device} (hg : ∀ d b, BootKeeps d (g d b)) (xs : List β) (d : Device) :
    BootKeeps d (xs.foldl g d) := foldl_rel (R := BootKeeps) .refl (fun h g => h.trans g) hg xs d

theorem Aside.boot {d e : Device} (h : Aside d e) : BootKeeps d e :=
  ⟨h.ctl, h.held, h.delayed, congrArg Media.flight h.media, by rw [h.log]⟩

theorem logRec_boot (code : Nat) (snaps : List Nat) (d : Device) : BootKeeps d (logRec code snaps d) := (logRec_aside code snaps d).boot

theorem updCs_boot (f : CodeStore → CodeStore) (d : Device) : BootKeeps d (updCs f d) := ⟨rfl, rfl, rfl, rfl, rfl⟩

theorem setObj_boot (k v : Nat) (d : Device) : BootKeeps d (setObj k v d) := ⟨rfl, rfl, rfl, rfl, rfl⟩

theorem setCopy_boot (b : Bool) (c : SettingsCopy) (d : Device) : BootKeeps d (setCopy b c d) := by
  unfold setCopy
  split <;> exact ⟨rfl, rfl, rfl, rfl, rfl⟩

theorem noteCopies_boot (x : BootInputs) (d : Device) : BootKeeps d (noteCopies x d) := by
  unfold noteCopies
  have hset : ∀ c (b : Bool) (d : Device) [Decidable c], BootKeeps d (if c then setCopy b { settingsCopy b d with valid := false } d else d) :=
    fun c b d _ => .ite (setCopy_boot _ _ d) (.refl d)
  exact ((updCs_boot _ d).trans (hset _ _ _)).trans (hset _ _ _)

theorem redoErases_boot (d : Device) : BootKeeps d (redoErases d) := by
  unfold redoErases
  exact (updCs_boot _ d).trans (.foldl (fun d b => ((setObj_boot _ _ d).trans (updCs_boot _ _)).trans (logRec_boot _ _ _)) _ _)

theorem loadOptionArea_boot (pairFault : Bool) (d : Device) : BootKeeps d (loadOptionArea pairFault d).1 := by
  unfold loadOptionArea
  dsimp only
  split
  · exact .ite (logRec_boot _ _ d) (.refl d)
  · exact (updCs_boot _ d).trans (.ite (logRec_boot _ _ _) (.refl _))

theorem rebuildBootControl_boot (d : Device) : BootKeeps d (rebuildBootControl d) := by
  unfold rebuildBootControl bootWrite
  exact .ite (.refl d) ((updCs_boot _ d).trans (logRec_boot _ _ _))

theorem rebuildLedgers_boot (d : Device) : BootKeeps d (rebuildLedgers d) := ⟨rfl, rfl, rfl, rfl, rfl⟩

theorem samplePortcfg_boot (v : Nat) (d : Device) : BootKeeps d (samplePortcfg v d) := by
  unfold samplePortcfg
  exact .ite ((⟨rfl, rfl, rfl, rfl, rfl⟩ : BootKeeps d (setObj Obj.portConfig 0 d)).trans (logRec_boot _ _ _)) ⟨rfl, rfl, rfl, rfl, rfl⟩

/-! ### What the reset clears -/

/-- After the reset nothing waits and nothing is in flight; the halt latch and the logbook's frames stay (R32, R563). -/
structure ResetClears (d e : Device) : Prop where
  latch : e.ctl.haltLatch = d.ctl.haltLatch
  perst : e.ctl.perstLow = false
  held : e.held = []
  delayed : e.delayed = []
  flight : e.media.flight = []
  frames : e.log.frames = d.log.frames

theorem ResetClears.trans {a b c : Device} (h : ResetClears a b) (g : BootKeeps b c) : ResetClears a c :=
  ⟨by rw [g.ctl, h.latch], by rw [g.ctl, h.perst], g.held.trans h.held, g.delayed.trans h.delayed, g.flight.trans h.flight,
    g.frames.trans h.frames⟩

theorem resetObjects_boot (d : Device) : BootKeeps d (resetObjects d) := by
  unfold resetObjects
  have hobjs : ∀ m, BootKeeps d { d with objs := m } := fun _ => ⟨rfl, rfl, rfl, rfl, rfl⟩
  have hkept : ∀ m (bs : List Nat) (c : Prop) [Decidable c], BootKeeps d (
      let e := bs.foldl (fun d b => setObj (Obj.carrierState b) 0x09 d) { d with objs := m }
      if c then setObj Obj.standbyState 0x04 e else e) := fun m bs c _ =>
    let hlatched := (hobjs m).trans (.foldl (fun d b => setObj_boot (Obj.carrierState b) 0x09 d) bs _)
    .ite (hlatched.trans (setObj_boot _ _ _)) hlatched
  exact .ite ((((hkept _ _ _).trans (setObj_boot _ _ _)).trans (setObj_boot _ _ _)).trans (setObj_boot _ _ _)) (hkept _ _ _)

theorem updBlock_boot (b : Nat) (f : Block → Block) (d : Device) : BootKeeps d (updBlock b f d) := ⟨rfl, rfl, rfl, rfl, rfl⟩

theorem joinRestripe_boot (n : Nat) (lost : Bool) (d : Device) : BootKeeps d (joinRestripe n lost d) := ⟨rfl, rfl, rfl, rfl, rfl⟩

theorem closeBlocks_boot (n : Nat) (bs : List Nat) (d : Device) : BootKeeps d (closeBlocks n bs d) :=
  .foldl (fun d b => updBlock_boot b _ d) bs d

theorem abandonOpen_boot (d : Device) : BootKeeps d (abandonOpen d) := by
  unfold abandonOpen
  have hopen : ∀ (e : Device) g m, BootKeeps e (setObj Obj.stripesOpen 0 { e with media := { e.media with groups := g, stripes := m } }) :=
    fun _ _ _ => ⟨rfl, rfl, rfl, rfl, rfl⟩
  exact ((BootKeeps.foldl (fun d b => updBlock_boot b _ d) _ d).trans (closeBlocks_boot _ _ _)).trans (hopen _ _ _)

theorem resetMap_boot (d : Device) : BootKeeps d (resetMap d) := ⟨rfl, rfl, rfl, rfl, rfl⟩

theorem resetBlocks_boot (d : Device) : BootKeeps d (resetBlocks d) := by
  unfold resetBlocks
  have hblocks : ∀ m, BootKeeps d { d with media := { d.media with blocks := m } } := fun _ => ⟨rfl, rfl, rfl, rfl, rfl⟩
  have hstripes : ∀ (e : Device) m, BootKeeps e { e with media := { e.media with stripes := m } } := fun _ _ => ⟨rfl, rfl, rfl, rfl, rfl⟩
  exact (((hblocks _).trans (abandonOpen_boot _)).trans (hstripes _ _)).trans (.foldl (fun (d : Device) (e : Nat × Stripe) => joinRestripe_boot e.1 true d) _ _)

/-- The grains in flight are gone before the medium is looked at, and what follows leaves them. -/
theorem resetMedia_boot (d : Device) : BootKeeps { d with media := { d.media with flight := [] } } (resetMedia d) := by
  have h := (resetMap_boot { d with media := { d.media with flight := [] } }).trans (resetBlocks_boot _)
  unfold resetMedia
  dsimp only
  generalize resetBlocks (resetMap { d with media := { d.media with flight := [] } }) = e at h ⊢
  exact h.trans ⟨rfl, rfl, rfl, rfl, rfl⟩

theorem resetStore_boot (d : Device) : BootKeeps d (resetStore d) := ⟨rfl, rfl, rfl, rfl, rfl⟩

theorem resetPath_boot (p : Nat) (d : Device) : BootKeeps d (resetPath p d) := ⟨rfl, rfl, rfl, rfl, rfl⟩

theorem takeNodeId_boot (d : Device) : BootKeeps d (takeNodeId d) := by
  unfold takeNodeId
  dsimp only
  refine .ite ⟨rfl, rfl, rfl, rfl, rfl⟩ (.ite ⟨rfl, rfl, rfl, rfl, rfl⟩ (BootKeeps.trans ?_ (logRec_boot _ _ _)))
  exact ⟨rfl, rfl, rfl, rfl, rfl⟩

theorem setThermalBit_boot (bank k : Nat) (b : Bool) (d : Device) : BootKeeps d (setThermalBit bank k b d) := setObj_boot _ _ d

/-- The store, the medium and the paths are reset before the rest of the device is. -/
theorem resetParts_boot (d : Device) : BootKeeps { d with media := { d.media with flight := [] } }
    ([1, 2, 3, 4, 5].foldl (fun d p => resetPath p d) (resetStore (resetMedia (resetObjects d)))) := by
  have hobjs := resetObjects_boot d
  have hmedia := resetMedia_boot (resetObjects d)
  have hstart : BootKeeps { d with media := { d.media with flight := [] } } (resetMedia (resetObjects d)) :=
    ⟨hmedia.ctl.trans hobjs.ctl, hmedia.held.trans hobjs.held, hmedia.delayed.trans hobjs.delayed, hmedia.flight, hmedia.frames.trans hobjs.frames⟩
  exact (hstart.trans (resetStore_boot _)).trans (.foldl (fun d p => resetPath_boot p d) _ _)

theorem resetDevice_clears (d : Device) : ResetClears d (resetDevice d) := by
  have hparts := resetParts_boot d
  unfold resetDevice
  dsimp only
  generalize [1, 2, 3, 4, 5].foldl (fun d p => resetPath p d) (resetStore (resetMedia (resetObjects d))) = e at hparts ⊢
  refine ResetClears.trans ?_ ((takeNodeId_boot _).trans (.foldl (fun d b => setThermalBit_boot b 4 true d) _ _))
  have hlatch : e.ctl.haltLatch = d.ctl.haltLatch := by rw [hparts.ctl]
  exact ⟨hlatch, rfl, rfl, rfl, hparts.flight, hparts.frames⟩

/-! ### The ledgers after the last rebuild -/

/-- Every ledger but the transmit one is free in full, with nothing held. -/
def LedgersFree (d : Device) : Prop := ∀ l, l ≠ 7 → (ledger l d).held = [] ∧ (ledger l d).free = (ledger l d).total

theorem rebuildLedger_free (t : Nat) : (rebuildLedger t).held = [] ∧ (rebuildLedger t).free = (rebuildLedger t).total := ⟨rfl, rfl⟩

theorem rebuildLedgers_free (d : Device) : LedgersFree (rebuildLedgers d) := by
  intro l _
  have hfree : ∀ m : SMap Ledger, (∀ x ∈ m, x.2.held = [] ∧ x.2.free = x.2.total) →
      (smGet {} m l).held = [] ∧ (smGet {} m l).free = (smGet {} m l).total := by
    intro m hm
    induction m with
    | nil => exact ⟨rfl, rfl⟩
    | cons x m ih =>
      rw [smGet_cons]
      split
      · exact hm x List.mem_cons_self
      · exact ih fun y hy => hm y (List.mem_cons_of_mem _ hy)
  refine hfree _ fun x hx => ?_
  rcases List.mem_cons.mp hx with rfl | hx
  · exact rebuildLedger_free _
  · obtain ⟨i, -, rfl⟩ := List.mem_map.mp hx
    exact rebuildLedger_free _

theorem LedgersFree.aside {d e : Device} (h : LedgersFree d) (g : Aside d e) : LedgersFree e := by
  intro l hl
  rw [g.ledgers l hl]
  exact h l hl

theorem LedgersFree.congr {d e : Device} (h : LedgersFree d) (g : e.ledgers = d.ledgers) : LedgersFree e := by
  unfold LedgersFree ledger at *
  rw [g]
  exact h

/-- The return of nothing leaves a ledger with nothing held. -/
theorem LedgersFree.clearLink {d : Device} (h : LedgersFree d) (k : Nat) : LedgersFree (clearLink d k) := by
  intro l hl
  have hk : heldBy 6 k d = 0 := by simp [heldBy, (h 6 (by decide)).1]
  have hledger : ledger l (Machine.clearLink d k) = if l = 6 then ledger 6 (Machine.clearLink d k) else ledger l d := by
    split
    · next h6 => rw [h6]
    · next h6 => exact (ledger_updLedger l 6 _ _).trans (if_neg h6)
  have h6 : ledger 6 (Machine.clearLink d k) = { ledger 6 d with free := (ledger 6 d).free + 0, held := smUpd 0 k (· - 0) (ledger 6 d).held } := by
    unfold Machine.clearLink
    rw [hk]
    exact ledger_ledgerGive (Nat.zero_le _)
  rw [hledger]
  split
  · rw [h6, (h 6 (by decide)).1]
    exact ⟨rfl, (h 6 (by decide)).2⟩
  · exact h l hl

theorem LedgersFree.returnCredits {d : Device} (h : LedgersFree d) (dd : Nat) : LedgersFree (returnCredits dd d) :=
  foldl_rel (R := fun a b => LedgersFree a → LedgersFree b) (fun _ => id) (fun f g h => g (f h)) (fun _ k h => h.clearLink k) _ d h

theorem LedgersFree.setDomains {d : Device} (h : LedgersFree d) (dds : List Nat) (st : Nat) : LedgersFree (setDomains dds st d) := by
  refine foldl_rel (R := fun a b => LedgersFree a → LedgersFree b) (fun _ => id) (fun f g h => g (f h)) (fun a dd h => ?_) dds d h
  have hcut : LedgersFree (cutEntry dd a) := h.congr (by simp)
  dsimp only
  split
  · exact (hcut.returnCredits dd).congr rfl
  · exact hcut.congr rfl

/-- The control state as the release into M2 sets it, before the charge is driven. -/
def intoM2 (d : Device) : Device :=
  domainFloor (setObj Obj.modeEntryHours (hours d) { d with ctl := { d.ctl with mode := .m2, prev := .m1 } })

theorem intoM2_frame (d : Device) : (intoM2 d).ctl = { d.ctl with mode := .m2, prev := .m1 } ∧ (intoM2 d).held = d.held ∧
    (intoM2 d).delayed = d.delayed ∧ (intoM2 d).media = d.media ∧ (intoM2 d).log = d.log := by
  simp [intoM2]

theorem intoM2_free {d : Device} (h : LedgersFree d) : LedgersFree (intoM2 d) :=
  ((h.congr (e := setObj Obj.modeEntryHours (hours d) { d with ctl := { d.ctl with mode := .m2, prev := .m1 } }) rfl).setDomains
    [1, 2, 3] 0x01).setDomains [4, 5, 6, 7] 0x00

/-- The release into M2: the mode and the one before it; what waits and what is in flight stays. -/
structure InM2 (d e : Device) : Prop where
  mode : e.ctl.mode = .m2
  prev : e.ctl.prev = .m1
  perst : e.ctl.perstLow = d.ctl.perstLow
  latch : e.ctl.haltLatch = d.ctl.haltLatch
  held : e.held = d.held
  delayed : e.delayed = d.delayed
  flight : e.media.flight = d.media.flight
  frames : e.log.frames = d.log.frames

theorem releaseInto_m2 (d : Device) : InM2 d (releaseInto .m2 d) := by
  have hframe : releaseInto .m2 d = _ := driveCharge_frame (intoM2 d)
  obtain ⟨hctl, hheld, hdelayed, hmedia, hlog⟩ := intoM2_frame d
  generalize intoM2 d = e at *
  rw [hframe]
  have hmode : e.ctl.mode = .m2 ∧ e.ctl.prev = .m1 ∧ e.ctl.perstLow = d.ctl.perstLow ∧ e.ctl.haltLatch = d.ctl.haltLatch := by
    rw [hctl]
    exact ⟨rfl, rfl, rfl, rfl⟩
  obtain ⟨hmode, hprev, hperst, hlatch⟩ := hmode
  exact ⟨hmode, hprev, hperst, hlatch, hheld, hdelayed, congrArg Media.flight hmedia, congrArg Logbook.frames hlog⟩

theorem driveCharge_ledgers (d : Device) : (driveCharge d).ledgers = d.ledgers := by rw [driveCharge_frame]

theorem releaseInto_m2_eq (d : Device) : releaseInto .m2 d = driveCharge (intoM2 d) := rfl

theorem releaseInto_m2_free {d : Device} (h : LedgersFree d) : LedgersFree (releaseInto .m2 d) := by
  rw [releaseInto_m2_eq]
  exact (intoM2_free h).congr (driveCharge_ledgers _)

/-- The device once the option area is loaded and the boot control record is whole. -/
def loadedAtBoot (x : BootInputs) (d : Device) : Device :=
  rebuildBootControl (loadOptionArea x.pairFault (redoErases (noteCopies x (rebuildLedgers (resetDevice d))))).1

theorem loadedAtBoot_clears (x : BootInputs) (d : Device) : ResetClears d (loadedAtBoot x d) := by
  have hreset := resetDevice_clears d
  unfold loadedAtBoot
  generalize resetDevice d = e at hreset ⊢
  refine hreset.trans ((rebuildLedgers_boot e).trans ?_)
  generalize rebuildLedgers e = f
  refine (noteCopies_boot x f).trans ?_
  generalize noteCopies x f = g
  refine (redoErases_boot g).trans ?_
  generalize redoErases g = h
  exact (loadOptionArea_boot x.pairFault h).trans (rebuildBootControl_boot _)

/-- The device with its ledgers rebuilt and PORTCFG sampled. -/
def releasedAtBoot (x : BootInputs) (d : Device) : Device := samplePortcfg x.portcfg.val (rebuildLedgers (loadedAtBoot x d))

theorem releasedAtBoot_clears (x : BootInputs) (d : Device) : ResetClears d (releasedAtBoot x d) := by
  have h := loadedAtBoot_clears x d
  unfold releasedAtBoot
  generalize loadedAtBoot x d = e at h ⊢
  exact h.trans ((rebuildLedgers_boot e).trans (samplePortcfg_boot _ _))

theorem releasedAtBoot_free (x : BootInputs) (d : Device) : LedgersFree (releasedAtBoot x d) := by
  unfold releasedAtBoot samplePortcfg
  have h := rebuildLedgers_free (loadedAtBoot x d)
  generalize rebuildLedgers (loadedAtBoot x d) = e at h ⊢
  split
  · exact (h.congr (e := setObj Obj.portConfig 0 e) rfl).aside (logRec_aside _ _ _)
  · exact h.congr rfl

theorem releaseOnce_eq (x : BootInputs) (d : Device) : releaseOnce x d =
    let good := (loadOptionArea x.pairFault (redoErases (noteCopies x (rebuildLedgers (resetDevice d))))).2
    let cause : Nat := if x.recovLow then 1 else if good then 0 else 2
    let e := if cause = 0 then releaseInto .m3 (releasedAtBoot x d)
      else logRec Code.recoveryEntered [cause] (releaseInto .m2 (releasedAtBoot x d))
    if e.ctl.haltLatch then (enterHalt e, false)
    else if cause != 0 then (e, false)
    else bootSlot x (rewriteOptionArea e) := rfl

/-- A release with RECOV_N low and no latched thermal limit (R609). -/
theorem releaseOnce_recovery {x : BootInputs} {d : Device} (hrecov : x.recovLow = true) (hlatch : d.ctl.haltLatch = false) :
    releaseOnce x d = (logRec Code.recoveryEntered [1] (releaseInto .m2 (releasedAtBoot x d)), false) := by
  have hhalt : (releaseInto .m2 (releasedAtBoot x d)).ctl.haltLatch = false := by
    rw [(releaseInto_m2 _).latch, (releasedAtBoot_clears x d).latch, hlatch]
  rw [releaseOnce_eq]
  simp [hrecov, hhalt]

/-- The rise of PERST_N is noted, with the time of the wake that it starts where no gauge has been loaded since. -/
def releaseNoted (d : Device) : Device :=
  { d with
    ctl := { d.ctl with perstLow := false }
    media := { d.media with rc := { d.media.rc with
      wakeMs := if d.media.rc.loadedWallMs.isNone then d.ctl.ms else d.media.rc.wakeMs } } }

theorem releaseReset_eq (x : BootInputs) (d : Device) : releaseReset x d =
    if d.ctl.mode != .m1 || !d.ctl.vsysUp || !d.ctl.porReleased then releaseNoted d
    else if (releaseOnce x (releaseNoted d)).2 then
      (releaseOnce { x with cutErases := [], torn := [], mismatches := x.mismatches } (enterHeld (releaseOnce x (releaseNoted d)).1)).1
    else (releaseOnce x (releaseNoted d)).1 := rfl

theorem releaseReset_of_once {x : BootInputs} {d e : Device} (hmode : d.ctl.mode = .m1) (hvsys : d.ctl.vsysUp = true)
    (hpor : d.ctl.porReleased = true) (honce : releaseOnce x (releaseNoted d) = (e, false)) : releaseReset x d = e := by
  rw [releaseReset_eq, if_neg (by simp [hmode, hvsys, hpor]), honce]
  exact if_neg Bool.false_ne_true

/-- A release from M1 with RECOV_N low and no latched thermal limit ends in M2 (R609, R37). -/
theorem releaseReset_recovery {x : BootInputs} {d : Device} (hmode : d.ctl.mode = .m1) (hvsys : d.ctl.vsysUp = true)
    (hpor : d.ctl.porReleased = true) (hrecov : x.recovLow = true) (hlatch : d.ctl.haltLatch = false) :
    releaseReset x d = logRec Code.recoveryEntered [1] (releaseInto .m2 (releasedAtBoot x (releaseNoted d))) :=
  releaseReset_of_once hmode hvsys hpor (releaseOnce_recovery (d := releaseNoted d) hrecov hlatch)

end Sys2Proof.Machine

section
open Sys2Proof Sys2Proof.Machine

/-- Settles O10: the ledgers are rebuilt last, and the release into M2 returns nothing that is held. -/
theorem resetReleaseLeavesHeld : Obligations.ResetReleaseLeavesHeld := by
  refine ⟨fun s x hmode hvsys hpor hrecov hlatch => .of_runDev _ rfl ?_, fun s x hmode => .of_runDev _ rfl ?_⟩
  · rw [releaseReset_recovery hmode hvsys hpor hrecov hlatch]
    have hclear := releasedAtBoot_clears x (releaseNoted s.dev)
    have hfree := releasedAtBoot_free x (releaseNoted s.dev)
    generalize releasedAtBoot x (releaseNoted s.dev) = e at hclear hfree ⊢
    have hin := releaseInto_m2 e
    have hfree := releaseInto_m2_free hfree
    generalize releaseInto .m2 e = f at hin hfree ⊢
    have hrec := logRec_aside Code.recoveryEntered [1] f
    refine ⟨?_, ?_, ?_, ?_, ?_, ?_, ?_, hfree.aside hrec⟩
    · exact (congrArg Control.mode hrec.ctl).trans hin.mode
    · exact (congrArg Control.prev hrec.ctl).trans hin.prev
    · exact (congrArg Control.perstLow hrec.ctl).trans (hin.perst.trans hclear.perst)
    · exact hrec.held.trans (hin.held.trans hclear.held)
    · exact hrec.delayed.trans (hin.delayed.trans hclear.delayed)
    · exact hrec.boot.flight.trans (hin.flight.trans hclear.flight)
    · exact hrec.boot.frames.trans (hin.frames.trans hclear.frames)
  · rw [releaseReset_eq, if_pos (by simp [hmode])]
    rfl

end
end

section
/-! PROOFS. Host commands (spec/12 R337, R360, R363): the fetch of a command that its port serves, and the completion entry that ends it, which finds
room past the entries that events post. -/
-- The proofs are elaborated one after another: see the first file of these proofs.
set_option Elab.async false

namespace Sys2Proof.Machine

/-! ### The fetch -/

theorem takeEntry_ctl (p sq : Nat) (d : Device) : (takeEntry p sq d).ctl = d.ctl := rfl

/-- A command that is fetched, and not refused for a shutdown notification, goes on (R360, R48). -/
theorem fetched_of_fetchable {c : HostCmd} {d : Device} (h : Fetchable c d) (k : Device → Device) :
    fetched c k d = k (takeEntry c.port.val c.sqid d) := by
  obtain ⟨hfetch, hholds, hnotice, -⟩ := h
  unfold fetched
  simp [hfetch, hholds, hnotice]

theorem withContext_of_free {c : HostCmd} {d : Device} (h : ContextFree c d) (k : Device → Device) : withContext c k d = k d := by
  unfold withContext
  rw [if_pos]
  cases hp : poolsActive d with
  | false => simp
  | true => simp [h hp]

/-- An admin command that its port fetches is carried out, where the mode neither holds nor refuses it (R50, R51, R595). -/
theorem adminCommand_of_ready {i : Instr} {c : HostCmd} {a : AdminClass} {d : Device} (h : AdminReady c d) (k : Device → Device)
    (hm2 : d.ctl.mode ≠ .m2 ∨ recoveryServes i = true) (hm8 : a ≠ .held ∨ d.ctl.mode ≠ .m8) (hm9 : a = .always ∨ d.ctl.mode ≠ .m9) :
    adminCommand i c a k d = k (takeEntry c.port.val 0 d) := by
  obtain ⟨hsq, -, hfetch, hcontext⟩ := h
  unfold adminCommand
  rw [if_neg (by simp [hsq]), withContext_of_free hcontext, fetched_of_fetchable hfetch, hsq]
  have h2 : ¬(d.ctl.mode = .m2 && !recoveryServes i) = true := by rcases hm2 with h | h <;> simp [h]
  have h8 : ¬(a = .held && d.ctl.mode = .m8) = true := by rcases hm8 with h | h <;> simp [h]
  have h9 : ¬(a != .always && d.ctl.mode = .m9) = true := by rcases hm9 with h | h <;> simp [h]
  rw [takeEntry_ctl, if_neg h2, if_neg h8, if_neg h9]

/-- An I/O command that its port fetches is carried out: it has its context, or asks for it later (R360). -/
theorem ioCommand_of_ready {i : Instr} {c : HostCmd} {d : Device} (h : IoReady c d) (k : Device → Device)
    (hcontext : asksLater i = true ∨ ContextFree c d) : ioCommand i c k d = k (takeEntry c.port.val c.sqid d) := by
  obtain ⟨hsq, -, hfetch, hmode, hsan⟩ := h
  have hrows : modeRows i c k (takeEntry c.port.val c.sqid d) = k (takeEntry c.port.val c.sqid d) := by
    have hm : d.ctl.mode ≠ .m8 ∧ d.ctl.mode ≠ .m9 := by simpa using hmode
    unfold modeRows
    rw [takeEntry_ctl, if_neg hm.1, if_neg hm.2]
    exact if_neg (by simpa [takeEntry] using hsan)
  unfold ioCommand
  rw [if_neg hsq]
  split
  · rw [fetched_of_fetchable hfetch, hrows]
  · next hl => rw [withContext_of_free (hcontext.resolve_left hl), fetched_of_fetchable hfetch, hrows]

/-! ### What posting does to a completion queue -/

/-- A completion queue of a port. -/
def cqAt (p q : Nat) (d : Device) : CompQueue := smGet {} (port p d).cqs q

/-- From `d` to `e` the completion queue `q` of port `p` has only been posted to, each entry in the place of a waiting Asynchronous Event Request, and
the port sends as before. -/
structure QueueGrows (p q : Nat) (d e : Device) : Prop where
  sends : portSends p d = true → portSends p e = true
  live : (cqAt p q e).live = (cqAt p q d).live
  size : (cqAt p q e).size = (cqAt p q d).size
  posted : (cqAt p q d).posted <+: (cqAt p q e).posted
  room : (cqAt p q e).posted.length + (port p e).aers.length ≤ (cqAt p q d).posted.length + (port p d).aers.length
  cqid : ∀ s, (smGet {} (port p e).sqs s).cqid = (smGet {} (port p d).sqs s).cqid

variable {p q : Nat}

theorem QueueGrows.refl (d : Device) : QueueGrows p q d d := ⟨id, rfl, rfl, List.prefix_refl _, le_rfl, fun _ => rfl⟩

theorem QueueGrows.trans {a b c : Device} (h : QueueGrows p q a b) (g : QueueGrows p q b c) : QueueGrows p q a c :=
  ⟨fun hs => g.sends (h.sends hs), g.live.trans h.live, g.size.trans h.size, h.posted.trans g.posted, g.room.trans h.room,
    fun s => (g.cqid s).trans (h.cqid s)⟩

theorem QueueGrows.ite {d a b : Device} {c : Prop} [Decidable c] (ha : QueueGrows p q d a) (hb : QueueGrows p q d b) :
    QueueGrows p q d (if c then a else b) := by
  split
  · exact ha
  · exact hb

theorem QueueGrows.foldl {β : Type} {g : Device → β → Device} (hg : ∀ d b, QueueGrows p q d (g d b)) (xs : List β) (d : Device) :
    QueueGrows p q d (xs.foldl g d) := foldl_rel (R := QueueGrows p q) .refl (fun h g => h.trans g) hg xs d

/-- Neither the ports nor what says whether they send has changed. -/
structure PortsCalm (d e : Device) : Prop where
  ports : e.ports = d.ports
  link : ∀ p, p < 4 → getObj (Obj.portLinkState p) e = getObj (Obj.portLinkState p) d
  power : ∀ p, p < 4 → getObj (Obj.portPowerState p) e = getObj (Obj.portPowerState p) d

theorem PortsCalm.refl (d : Device) : PortsCalm d d := ⟨rfl, fun _ _ => rfl, fun _ _ => rfl⟩

theorem PortsCalm.trans {a b c : Device} (h : PortsCalm a b) (g : PortsCalm b c) : PortsCalm a c :=
  ⟨g.ports.trans h.ports, fun p hp => (g.link p hp).trans (h.link p hp), fun p hp => (g.power p hp).trans (h.power p hp)⟩

theorem PortsCalm.ite {d a b : Device} {c : Prop} [Decidable c] (ha : PortsCalm d a) (hb : PortsCalm d b) :
    PortsCalm d (if c then a else b) := by
  split
  · exact ha
  · exact hb

/-- A change that touches neither ports nor objects. -/
theorem PortsCalm.of_parts {d e : Device} (hports : e.ports = d.ports) (hobjs : e.objs = d.objs) : PortsCalm d e :=
  ⟨hports, fun _ _ => getObj_congr hobjs, fun _ _ => getObj_congr hobjs⟩

/-- The keys under which the states of the ports' links and their power states stand. -/
def portStateKeys : List Nat := (List.range 4).map Obj.portLinkState ++ (List.range 4).map Obj.portPowerState

theorem portLinkState_mem {p : Nat} (hp : p < 4) : Obj.portLinkState p ∈ portStateKeys :=
  List.mem_append_left _ (List.mem_map_of_mem (List.mem_range.mpr hp))

theorem portPowerState_mem {p : Nat} (hp : p < 4) : Obj.portPowerState p ∈ portStateKeys :=
  List.mem_append_right _ (List.mem_map_of_mem (List.mem_range.mpr hp))

theorem setObj_calm {k : Nat} (hk : k ∉ portStateKeys) (v : Nat) (d : Device) : PortsCalm d (setObj k v d) :=
  ⟨rfl, fun _ hp => getObj_setObj_ne (ne_of_mem_of_not_mem (portLinkState_mem hp) hk) v d,
    fun _ hp => getObj_setObj_ne (ne_of_mem_of_not_mem (portPowerState_mem hp) hk) v d⟩

theorem incObj_calm {k : Nat} (hk : k ∉ portStateKeys) (d : Device) : PortsCalm d (incObj k d) := setObj_calm hk _ d

theorem port_congr {d e : Device} (h : e.ports = d.ports) (p : Nat) : port p e = port p d := by unfold port; rw [h]

/-- A port that is as it was. -/
theorem QueueGrows.of_port {d e : Device} (hport : port p e = port p d) (hsends : portSends p d = true → portSends p e = true) :
    QueueGrows p q d e :=
  ⟨hsends, by unfold cqAt; rw [hport], by unfold cqAt; rw [hport], by unfold cqAt; rw [hport], by unfold cqAt; rw [hport],
    fun s => by rw [hport]⟩

theorem PortsCalm.sends {d e : Device} (h : PortsCalm d e) (hp : p < 4) (hs : portSends p d = true) : portSends p e = true := by
  unfold portSends at *
  rwa [port_congr h.ports, h.power p hp, h.link p hp]

theorem PortsCalm.grows {d e : Device} (h : PortsCalm d e) (hp : p < 4) : QueueGrows p q d e := .of_port (port_congr h.ports p) (h.sends hp)

/-- Bus Master Enable is all of a port that says whether it sends. -/
theorem portSends_updPort (r : Nat) (f : PortState → PortState) (d : Device) (hf : (f (port p d)).bme = (port p d).bme)
    (hs : portSends p d = true) : portSends p (updPort r f d) = true := by
  have hbme : (port p (updPort r f d)).bme = (port p d).bme := by
    by_cases h : p = r
    · subst h
      rw [port_updPort_self, hf]
    · rw [port_updPort_ne h]
  unfold portSends at *
  rw [hbme]
  exact hs

/-- A change of a port that leaves its queues, its waiting requests and Bus Master Enable. -/
theorem updPort_grows (r : Nat) (f : PortState → PortState) (d : Device)
    (hf : ∀ t, (f t).cqs = t.cqs ∧ (f t).aers = t.aers ∧ (f t).bme = t.bme ∧ ∀ s, (smGet {} (f t).sqs s).cqid = (smGet {} t.sqs s).cqid) :
    QueueGrows p q d (updPort r f d) := by
  obtain ⟨hcqs, haers, hbme, hsqs⟩ := hf (port p d)
  have hsends := portSends_updPort (p := p) r f d hbme
  by_cases h : p = r
  · subst h
    have hp := port_updPort_self p f d
    refine ⟨hsends, ?_, ?_, ?_, ?_, fun s => by rw [hp]; exact hsqs s⟩
    all_goals
      unfold cqAt
      rw [hp, hcqs]
    rw [haers]
  · exact .of_port (port_updPort_ne h f d) hsends

theorem cqDue_same (cq : Nat) (t : PortState) : (cqDue cq t).aers = t.aers ∧ (cqDue cq t).sqs = t.sqs ∧ (cqDue cq t).bme = t.bme := by
  rw [cqDue_port]
  exact ⟨rfl, rfl, rfl⟩

theorem signalVector_cqs (v : Nat) (t : PortState) : (signalVector v t).cqs = t.cqs := by rw [signalVector_port]

/-- An interrupt that becomes due changes no entry of any queue. -/
theorem cqDue_queue (cq q : Nat) (t : PortState) : (smGet {} (cqDue cq t).cqs q).posted = (smGet {} t.cqs q).posted ∧
    (smGet {} (cqDue cq t).cqs q).live = (smGet {} t.cqs q).live ∧ (smGet {} (cqDue cq t).cqs q).size = (smGet {} t.cqs q).size := by
  unfold cqDue
  dsimp only
  split
  · exact ⟨rfl, rfl, rfl⟩
  · split
    · exact ⟨rfl, rfl, rfl⟩
    · rw [signalVector_cqs]
      dsimp only
      rw [smGet_smUpd]
      split
      · next h => subst h; exact ⟨rfl, rfl, rfl⟩
      · exact ⟨rfl, rfl, rfl⟩

/-- The completion queue that an entry goes to. -/
def entryQueue (c : Completion) (t : PortState) : Nat := if c.sqid = 0 then 0 else (smGet {} t.sqs c.sqid).cqid

theorem enqueueCompletion_eq (c : Completion) (t : PortState) : enqueueCompletion c t =
    if !(smGet {} t.cqs (entryQueue c t)).live then t
    else if (smGet {} t.cqs (entryQueue c t)).size ≤ (smGet {} t.cqs (entryQueue c t)).posted.length + 1 then
      { t with cqs := smUpd {} (entryQueue c t) (fun q => { q with waiting := q.waiting ++ [c] }) t.cqs }
    else cqDue (entryQueue c t)
      { t with cqs := smUpd {} (entryQueue c t) (fun q => { q with posted := q.posted ++ [c], coalesced := q.coalesced + 1 }) t.cqs } := rfl

theorem enqueueCompletion_same (c : Completion) (t : PortState) : (enqueueCompletion c t).aers = t.aers ∧
    (enqueueCompletion c t).sqs = t.sqs ∧ (enqueueCompletion c t).bme = t.bme := by
  rw [enqueueCompletion_eq]
  split
  · exact ⟨rfl, rfl, rfl⟩
  · split
    · exact ⟨rfl, rfl, rfl⟩
    · exact cqDue_same _ _

/-- A queue that an entry may go to keeps its entries, and has at most that one more. -/
theorem enqueueCompletion_queue (c : Completion) (q : Nat) (t : PortState) :
    (smGet {} t.cqs q).posted <+: (smGet {} (enqueueCompletion c t).cqs q).posted ∧
    (smGet {} (enqueueCompletion c t).cqs q).posted.length ≤ (smGet {} t.cqs q).posted.length + 1 ∧
    (smGet {} (enqueueCompletion c t).cqs q).live = (smGet {} t.cqs q).live ∧
    (smGet {} (enqueueCompletion c t).cqs q).size = (smGet {} t.cqs q).size := by
  rw [enqueueCompletion_eq]
  generalize entryQueue c t = k
  split
  · exact ⟨List.prefix_refl _, by omega, rfl, rfl⟩
  · split
    · dsimp only
      rw [smGet_smUpd]
      split
      · next h => rw [h]; exact ⟨List.prefix_refl _, by dsimp only; omega, rfl, rfl⟩
      · exact ⟨List.prefix_refl _, by omega, rfl, rfl⟩
    · obtain ⟨hposted, hlive, hsize⟩ := cqDue_queue k q
        { t with cqs := smUpd {} k (fun q => { q with posted := q.posted ++ [c], coalesced := q.coalesced + 1 }) t.cqs }
      rw [hposted, hlive, hsize]
      dsimp only
      rw [smGet_smUpd]
      split
      · next h => rw [h]; exact ⟨List.prefix_append _ _, by simp, rfl, rfl⟩
      · exact ⟨List.prefix_refl _, by omega, rfl, rfl⟩

/-- The entry is posted where its queue is live and not full. -/
theorem enqueueCompletion_posts {c : Completion} {t : PortState} (hlive : (smGet {} t.cqs (entryQueue c t)).live = true)
    (hroom : (smGet {} t.cqs (entryQueue c t)).posted.length + 1 < (smGet {} t.cqs (entryQueue c t)).size) :
    (smGet {} (enqueueCompletion c t).cqs (entryQueue c t)).posted = (smGet {} t.cqs (entryQueue c t)).posted ++ [c] := by
  rw [enqueueCompletion_eq, if_neg (by simp [hlive]), if_neg (by omega), (cqDue_queue _ _ _).1]
  simp

theorem leaveL1_sends {p r : Nat} (hr : r < 4) (d : Device) (h : portSends p d = true) : portSends p (leaveL1 r d) = true := by
  unfold leaveL1
  split
  · have hlink : activeLinkState r d = 2 ∨ activeLinkState r d = 3 := by
      unfold activeLinkState
      split <;> simp
    have hkey : Obj.portPowerState p ≠ Obj.portLinkState r := by
      unfold Obj.portPowerState Obj.portLinkState objKey
      omega
    unfold portSends at *
    rw [getObj_setObj_ne hkey, getObj_setObj]
    simp only [Bool.and_eq_true, bne_iff_ne] at h ⊢
    refine ⟨h.1, ?_⟩
    split
    · rcases hlink with h | h <;> rw [h] <;> decide
    · exact h.2
  · exact h

theorem leaveL1_port (p r : Nat) (d : Device) : port p (leaveL1 r d) = port p d := port_congr (by simp) p

/-! ### Entries -/

theorem portSends_postCompletion {r : Nat} (hr : r < 4) (c : Completion) (d : Device) (hs : portSends p d = true) :
    portSends p (postCompletion r c d) = true := by
  unfold postCompletion
  split
  · exact portSends_updPort r _ _ (enqueueCompletion_same c _).2.2 (leaveL1_sends hr d hs)
  · exact portSends_updPort r _ _ rfl hs

theorem port_postCompletion_ne {r : Nat} (h : p ≠ r) (c : Completion) (d : Device) : port p (postCompletion r c d) = port p d := by
  unfold postCompletion
  split
  · rw [port_updPort_ne h, leaveL1_port]
  · rw [port_updPort_ne h]

/-- What the posting of an entry changes of its port: the entry goes into its queue, or is held. -/
theorem port_postCompletion (c : Completion) (d : Device) : port p (postCompletion p c d) =
    if portSends p d then enqueueCompletion c (port p d) else { port p d with held := (port p d).held ++ [c] } := by
  unfold postCompletion
  split
  · rw [port_updPort_self, leaveL1_port]
  · rw [port_updPort_self]

/-- A posting keeps the entries of every queue and adds at most one; waiting requests stay. -/
theorem postCompletion_queue (c : Completion) (d : Device) : (cqAt p q (postCompletion p c d)).live = (cqAt p q d).live ∧
    (cqAt p q (postCompletion p c d)).size = (cqAt p q d).size ∧ (cqAt p q d).posted <+: (cqAt p q (postCompletion p c d)).posted ∧
    (cqAt p q (postCompletion p c d)).posted.length ≤ (cqAt p q d).posted.length + 1 ∧
    (port p (postCompletion p c d)).aers = (port p d).aers ∧ (port p (postCompletion p c d)).sqs = (port p d).sqs := by
  unfold cqAt
  rw [port_postCompletion]
  split
  · obtain ⟨hposted, hlen, hlive, hsize⟩ := enqueueCompletion_queue c q (port p d)
    obtain ⟨haers, hsqs, -⟩ := enqueueCompletion_same c (port p d)
    exact ⟨hlive, hsize, hposted, hlen, haers, hsqs⟩
  · exact ⟨rfl, rfl, List.prefix_refl _, by dsimp only; omega, rfl, rfl⟩

/-- An entry of a live queue with room, on a port that sends, is posted. -/
theorem postCompletion_adds {c : Completion} {d : Device} (hsends : portSends p d = true)
    (hlive : (cqAt p (entryQueue c (port p d)) d).live = true)
    (hroom : (cqAt p (entryQueue c (port p d)) d).posted.length + 1 < (cqAt p (entryQueue c (port p d)) d).size) :
    (cqAt p (entryQueue c (port p d)) (postCompletion p c d)).posted = (cqAt p (entryQueue c (port p d)) d).posted ++ [c] := by
  unfold cqAt at *
  rw [port_postCompletion, if_pos hsends]
  exact enqueueCompletion_posts hlive hroom

/-! ### Events and records -/

/-- The oldest waiting request of a port goes, and its event is masked. -/
def requestGoes (rest : List Nat) (e : AsyncEvent) (t : PortState) : PortState :=
  { t with aers := rest, eventsMasked := (e.typ + 256 * e.page) :: t.eventsMasked }

/-- An event takes the place of a waiting request, or waits (R387). -/
theorem raiseEvent_grows {r : Nat} (hr : r < 4) (e : AsyncEvent) (d : Device) : QueueGrows p q d (raiseEvent r e d) := by
  unfold raiseEvent
  dsimp only
  split
  · exact .refl d
  · split
    · next cid rest haers =>
      change QueueGrows p q d (postCompletion r _ (updPort r (requestGoes rest e) d))
      generalize hc : ({ cid := cid, dw0 := e.typ + 256 * e.info + 65536 * e.page } : Completion) = c
      have hsends : portSends p d = true → portSends p (postCompletion r c (updPort r (requestGoes rest e) d)) = true := fun hs =>
        portSends_postCompletion hr c _ (portSends_updPort (p := p) r (requestGoes rest e) d rfl hs)
      by_cases h : p = r
      · subst h
        obtain ⟨hlive, hsize, hposted, hlen, haers', hsqs⟩ := postCompletion_queue (p := p) (q := q) c (updPort p (requestGoes rest e) d)
        have hp := port_updPort_self p (requestGoes rest e) d
        have hq : cqAt p q (updPort p (requestGoes rest e) d) = cqAt p q d := by unfold cqAt; rw [hp]; rfl
        rw [hq] at hlive hsize hposted hlen
        rw [hp] at haers' hsqs
        refine ⟨hsends, hlive, hsize, hposted, ?_, fun s => by rw [hsqs]; rfl⟩
        rw [haers', haers]
        simp only [requestGoes, List.length_cons]
        omega
      · exact .of_port ((port_postCompletion_ne h c _).trans (port_updPort_ne h _ d)) hsends
    · exact updPort_grows r _ d fun _ => ⟨rfl, rfl, rfl, fun _ => rfl⟩

theorem raiseOnAll_grows (e : AsyncEvent) (d : Device) : QueueGrows p q d (raiseOnAll e d) := by
  have hone : ∀ (d : Device) (r : Nat), r < 4 → QueueGrows p q d (if (port r d).rdy then raiseEvent r e d else d) := fun d r hr =>
    .ite (raiseEvent_grows hr e d) (.refl d)
  exact (((hone d 0 (by decide)).trans (hone _ 1 (by decide))).trans (hone _ 2 (by decide))).trans (hone _ 3 (by decide))

theorem replaceHeartbeat_calm (f : CanFrame) (d : Device) : PortsCalm d (replaceHeartbeat f d) := by
  unfold replaceHeartbeat
  split
  · exact .of_parts rfl rfl
  · split
    · exact .refl d
    · refine .ite (.of_parts rfl rfl) (PortsCalm.trans ?_ (incObj_calm (by decide) _))
      exact .of_parts rfl rfl

/-- A frame that is queued, waits or is dropped leaves the ports. -/
theorem queueFrame_calm (f : CanFrame) (d : Device) : PortsCalm d (queueFrame f d) := by
  unfold queueFrame
  exact .ite (.refl d) (.ite (.of_parts rfl rfl) (.ite (replaceHeartbeat_calm f d) (.ite (incObj_calm (by decide) d) (.of_parts rfl rfl))))

theorem sendEmergency_calm (r : LogRecord) (d : Device) : PortsCalm d (sendEmergency r d) := by
  unfold sendEmergency
  split
  · exact .ite (queueFrame_calm _ d) (.refl d)
  · exact .refl d

theorem sendNotice_calm (r : LogRecord) (d : Device) : PortsCalm d (sendNotice r d) := by
  unfold sendNotice
  refine .ite (.refl d) (.ite (incObj_calm (by decide) d) (PortsCalm.trans ?_ (queueFrame_calm _ _)))
  exact .of_parts rfl rfl

theorem ringAppend_calm (r : LogRecord) (d : Device) : PortsCalm d (ringAppend r d) := by
  unfold ringAppend
  refine .ite (.of_parts rfl rfl) ?_
  split
  · exact .of_parts rfl rfl
  · refine PortsCalm.trans ?_ (incObj_calm (by decide) _)
    exact .of_parts rfl rfl

theorem raiseCeiling_calm (d : Device) : PortsCalm d (raiseCeiling d) := by
  unfold raiseCeiling
  exact .ite (.of_parts rfl rfl) (.refl d)

theorem captureTelemetry_grows (hp : p < 4) (d : Device) : QueueGrows p q d (captureTelemetry d) := by
  unfold captureTelemetry
  refine QueueGrows.trans (PortsCalm.grows ?_ hp) (raiseOnAll_grows _ _)
  exact .of_parts rfl rfl

/-- A record posts nothing but the events that it raises (R385, R561). -/
theorem acceptRecord_grows (hp : p < 4) (code : Nat) (snaps : List Nat) (d : Device) : QueueGrows p q d (acceptRecord code snaps d) := by
  unfold acceptRecord
  refine QueueGrows.trans ?_ ((sendEmergency_calm _ _).trans (sendNotice_calm _ _) |>.grows hp)
  have hring : ∀ (r : LogRecord) (g : Logbook), PortsCalm d (raiseCeiling (ringAppend r { d with log := g })) := fun r g =>
    ((PortsCalm.of_parts rfl rfl : PortsCalm d { d with log := g }).trans (ringAppend_calm r _)).trans (raiseCeiling_calm _)
  have hflush : ∀ (b : Bool) {x : Device}, PortsCalm d x → PortsCalm d (if b then { x with log := { x.log with flushDue := true } } else x) :=
    fun b x hx => by
      cases b
      · exact hx
      · exact hx.trans (.of_parts rfl rfl)
  refine QueueGrows.ite (QueueGrows.trans (PortsCalm.grows ?_ hp) (captureTelemetry_grows hp _)) (PortsCalm.grows ?_ hp)
  all_goals exact hflush _ (hring _ _)

theorem logRec_grows (hp : p < 4) (code : Nat) (snaps : List Nat) (d : Device) : QueueGrows p q d (logRec code snaps d) := by
  unfold logRec
  refine .ite (PortsCalm.grows ?_ hp) (acceptRecord_grows hp code snaps d)
  exact .of_parts rfl rfl

/-! ### The end of a command -/

theorem commandsFetched_notState {p : Nat} (hp : p < 4) : Obj.commandsFetched p ∉ portStateKeys := by
  interval_cases p <;> decide

theorem commandsFailed_notState {p : Nat} (hp : p < 4) : Obj.commandsFailed p ∉ portStateKeys := by
  interval_cases p <;> decide

theorem takeTurn_same (sq : Nat) (t : PortState) : (takeTurn sq t).cqs = t.cqs ∧ (takeTurn sq t).aers = t.aers ∧ (takeTurn sq t).bme = t.bme ∧
    (takeTurn sq t).sqs = t.sqs := by
  unfold takeTurn
  split <;> exact ⟨rfl, rfl, rfl, rfl⟩

theorem takeEntry_grows (hp : p < 4) (sq : Nat) (d : Device) : QueueGrows p q d (takeEntry p sq d) := by
  unfold takeEntry
  refine QueueGrows.trans (updPort_grows p _ d fun t => ?_) ((incObj_calm (commandsFetched_notState hp) _).grows hp)
  obtain ⟨hcqs, haers, hbme, -⟩ := takeTurn_same sq t
  refine ⟨hcqs, haers, hbme, fun s => ?_⟩
  dsimp only
  rw [smGet_smUpd]
  split
  · next h => rw [h]
  · rfl

/-- The entry of a command for which there was room is posted, past what has been posted for events since. -/
theorem completes_of_grows {c : HostCmd} {before e : Device} {x : Completion} {P : Completion → Prop} (hroom : RoomFor c before)
    (hgrows : QueueGrows c.port.val (cqOf c before) before e) (hsq : x.sqid = c.sqid) (hcid : x.cid = c.cid) (hx : P x) :
    Completes c P before (postCompletion c.port.val x e) := by
  obtain ⟨hsends, hlive, hlen⟩ := hroom
  have hqueue : entryQueue x (port c.port.val e) = cqOf c before := by
    unfold entryQueue cqOf
    rw [hsq, hgrows.cqid]
  have hlen' := hgrows.room
  have hsize := hgrows.size
  unfold cqAt at hlen' hsize
  have hadds := postCompletion_adds (p := c.port.val) (c := x) (hgrows.sends hsends) (by rw [hqueue]; exact hgrows.live.trans hlive)
    (by rw [hqueue]; unfold cqAt; rw [hsize]; omega)
  rw [hqueue] at hadds
  unfold cqAt at hadds
  obtain ⟨tail, htail⟩ := hgrows.posted
  unfold cqAt at htail
  refine ⟨x, ?_, hsq, hcid, hx⟩
  rw [hadds, ← htail, List.append_assoc, List.drop_left]
  simp

variable {c : HostCmd} {before e : Device}

/-- A command succeeds with its Dwords 0 and 1 and its data. -/
theorem completes_of_succeed {P : Completion → Prop} (dw0 dw1 : Nat) (data : List Byte) (hroom : RoomFor c before)
    (hgrows : QueueGrows c.port.val (cqOf c before) before e)
    (hP : P { sqid := c.sqid, cid := c.cid, dw0 := dw0, dw1 := dw1, data := data }) :
    Completes c P before (succeed c dw0 dw1 data e) := completes_of_grows hroom hgrows rfl rfl hP

theorem succeeds_of_succeed (dw0 dw1 : Nat) (data : List Byte) (hroom : RoomFor c before)
    (hgrows : QueueGrows c.port.val (cqOf c before) before e) : Succeeds c dw0 before (succeed c dw0 dw1 data e) :=
  completes_of_succeed dw0 dw1 data hroom hgrows ⟨rfl, rfl, rfl⟩

theorem logError_grows (r : Nat) (x : ErrEntry) (d : Device) : QueueGrows p q d (logError r x d) :=
  updPort_grows r _ d fun _ => ⟨rfl, rfl, rfl, fun _ => rfl⟩

/-- A command fails with its status, whose entry in the Error Information log posts nothing. -/
theorem completes_of_failWith {P : Completion → Prop} (sct sc : Nat) (dnr : Bool) (crd lba pel dw0 : Nat) (hroom : RoomFor c before)
    (hgrows : QueueGrows c.port.val (cqOf c before) before e)
    (hP : P { sqid := c.sqid, cid := c.cid, sct := sct, sc := sc, dnr := dnr, crd := crd, dw0 := dw0 }) :
    Completes c P before (failWith c sct sc dnr crd lba pel dw0 e) := by
  unfold failWith
  refine completes_of_grows hroom (hgrows.trans ?_) rfl rfl hP
  have hlog : ∀ x, QueueGrows c.port.val (cqOf c before) e (if noErrorEntry sct sc then e else logError c.port.val x e) := fun x =>
    .ite (.refl e) (logError_grows _ x e)
  exact (hlog _).trans ((incObj_calm (commandsFailed_notState c.port.isLt) _).grows c.port.isLt)

end Sys2Proof.Machine
end

section
/-! PROOFS. Responses on the management link (spec/14 R433, R448): a record that is taken meanwhile leaves the slot that the dictionary's reserve
gives a response. -/
-- The proofs are elaborated one after another: see the first file of these proofs.
set_option Elab.async false

namespace Sys2Proof.Machine

/-! ### The slot of a response -/

theorem grantOk_dictionary (d : Device) : grantOk 7 3 1 d = true ↔
    1 + ((2 - heldBy 7 1 d) + (4 - heldBy 7 2 d) + (2 - heldBy 7 4 d)) ≤ (ledger 7 d).free := by
  simp [grantOk, claimedByOthers, ownersOf, reserveOf, Nat.add_assoc]

theorem grantOk_emergency (d : Device) : grantOk 7 2 1 d = true ↔
    1 + ((2 - heldBy 7 1 d) + (8 - heldBy 7 3 d) + (2 - heldBy 7 4 d)) ≤ (ledger 7 d).free := by
  simp [grantOk, claimedByOthers, ownersOf, reserveOf, Nat.add_assoc]

theorem grantOk_notice (d : Device) : grantOk 7 4 1 d = true ↔
    1 + ((2 - heldBy 7 1 d) + (4 - heldBy 7 2 d) + (8 - heldBy 7 3 d)) ≤ (ledger 7 d).free := by
  simp [grantOk, claimedByOthers, ownersOf, reserveOf, Nat.add_assoc]

/-- From `d` to `e` the slot and the queue of the dictionary's responses are as before: what else is queued takes no slot that they may have. -/
structure ResponsesKept (d e : Device) : Prop where
  silent : e.can.silent = d.can.silent
  ms : nowMs e = nowMs d
  backlog : (∀ f ∈ d.can.backlog, f.owner ≠ 3) → ∀ f ∈ e.can.backlog, f.owner ≠ 3
  slot : grantOk 7 3 1 d = true → heldBy 7 3 d < 8 → grantOk 7 3 1 e = true
  held : heldBy 7 3 e = heldBy 7 3 d
  queue : ∀ f, f.owner = 3 → e.can.queue.count f = d.can.queue.count f

theorem ResponsesKept.refl (d : Device) : ResponsesKept d d := ⟨rfl, rfl, id, fun h _ => h, rfl, fun _ _ => rfl⟩

theorem ResponsesKept.trans {a b c : Device} (h : ResponsesKept a b) (g : ResponsesKept b c) : ResponsesKept a c :=
  ⟨g.silent.trans h.silent, g.ms.trans h.ms, fun hb => g.backlog (h.backlog hb),
    fun hs hh => g.slot (h.slot hs hh) (by rw [h.held]; exact hh), g.held.trans h.held, fun f hf => (g.queue f hf).trans (h.queue f hf)⟩

theorem ResponsesKept.ite {d a b : Device} {c : Prop} [Decidable c] (ha : ResponsesKept d a) (hb : ResponsesKept d b) :
    ResponsesKept d (if c then a else b) := by
  split
  · exact ha
  · exact hb

theorem heldBy7_congr {d e : Device} (h : ledger 7 e = ledger 7 d) (o : Nat) : heldBy 7 o e = heldBy 7 o d := by
  unfold heldBy; rw [h]

/-- A change that leaves the link, and what is free and held of ledger 7. -/
theorem ResponsesKept.of_units {d e : Device} (hms : nowMs e = nowMs d) (hcan : e.can.silent = d.can.silent)
    (hbacklog : (∀ f ∈ d.can.backlog, f.owner ≠ 3) → ∀ f ∈ e.can.backlog, f.owner ≠ 3) (hqueue : e.can.queue = d.can.queue)
    (hfree : (ledger 7 e).free = (ledger 7 d).free) (hheld : ∀ o, heldBy 7 o e = heldBy 7 o d) : ResponsesKept d e :=
  ⟨hcan, hms, hbacklog, fun h _ => by
    rw [grantOk_dictionary] at h ⊢
    rw [hfree, hheld, hheld, hheld]
    exact h, hheld 3, fun _ _ => by rw [hqueue]⟩

/-- A change of other parts, that leaves the link and ledger 7. -/
theorem ResponsesKept.of_parts {d e : Device} (hms : nowMs e = nowMs d) (hcan : e.can.silent = d.can.silent)
    (hbacklog : e.can.backlog = d.can.backlog) (hqueue : e.can.queue = d.can.queue) (hledger : ledger 7 e = ledger 7 d) : ResponsesKept d e :=
  .of_units hms hcan (by rw [hbacklog]; exact id) hqueue (by rw [hledger]) (heldBy7_congr hledger)

theorem count_append_other {f g : CanFrame} (h : g.owner ≠ f.owner) (xs : List CanFrame) : (xs ++ [g]).count f = xs.count f := by
  have hne : g ≠ f := fun e => h (by rw [e])
  simp [List.count_append, hne]

theorem free_ledgerTake7 {o : Nat} {d : Device} (h : 1 ≤ (ledger 7 d).free) : (ledger 7 (ledgerTake 7 o 1 d)).free = (ledger 7 d).free - 1 :=
  (heldBy_ledgerTake h).2

/-- An emergency or a notice takes a slot beside the dictionary's reserve (Table 14.11). -/
theorem takeSlot_kept {f : CanFrame} (ho : f.owner = 2 ∨ f.owner = 4) {d : Device} (hgrant : grantOk 7 f.owner 1 d = true) :
    ResponsesKept d (ledgerTake 7 f.owner 1 { d with can := { d.can with queue := d.can.queue ++ [f] } }) := by
  have hne : (3 : Nat) ≠ f.owner := by rcases ho with h | h <;> omega
  generalize he : ({ d with can := { d.can with queue := d.can.queue ++ [f] } } : Device) = e
  have hledger : ledger 7 e = ledger 7 d := by subst he; rfl
  have hheld : ∀ o, heldBy 7 o e = heldBy 7 o d := heldBy7_congr hledger
  have hfree : 1 ≤ (ledger 7 e).free := by
    rw [hledger]
    rcases ho with h | h <;> rw [h] at hgrant
    · have := (grantOk_emergency d).mp hgrant; omega
    · have := (grantOk_notice d).mp hgrant; omega
  refine ⟨by subst he; rfl, by subst he; rfl, by subst he; exact id, fun hs hh => ?_, ?_, fun g hg => ?_⟩
  · rw [grantOk_dictionary] at hs ⊢
    rw [free_ledgerTake7 hfree, hledger]
    rcases ho with h | h <;> rw [h] at hgrant ⊢
    · rw [grantOk_emergency] at hgrant
      rw [(heldBy_ledgerTake hfree).1, heldBy_ledgerTake_ne (by decide), heldBy_ledgerTake_ne (by decide), hheld, hheld, hheld]
      omega
    · rw [grantOk_notice] at hgrant
      rw [(heldBy_ledgerTake hfree).1, heldBy_ledgerTake_ne (by decide), heldBy_ledgerTake_ne (by decide), hheld, hheld, hheld]
      omega
  · rw [heldBy_ledgerTake_ne hne, hheld]
  · subst he
    exact count_append_other (by omega) _

theorem queueFrame_kept {f : CanFrame} (ho : f.owner = 2 ∨ f.owner = 4) (d : Device) : ResponsesKept d (queueFrame f d) := by
  have hne1 : f.owner ≠ 1 := by rcases ho with h | h <;> omega
  unfold queueFrame
  split
  · exact .refl d
  · split
    · next h =>
      rw [Bool.and_eq_true] at h
      exact takeSlot_kept ho h.1
    · split
      · exact .of_parts rfl rfl rfl rfl rfl
      · refine .of_units rfl rfl (fun hb g hg => ?_) rfl ?_ fun o => ?_
        · rcases List.mem_append.mp hg with hg | hg
          · exact hb g hg
          · rw [List.mem_singleton.mp hg]
            rcases ho with h | h <;> omega
        · unfold countRefused
          rw [ledger_updLedger_self]
          rfl
        · unfold countRefused heldBy
          rw [ledger_updLedger_self]
          rfl

/-! ### Records -/

theorem sendEmergency_kept (r : LogRecord) (d : Device) : ResponsesKept d (sendEmergency r d) := by
  unfold sendEmergency
  split
  · exact .ite (queueFrame_kept (.inl rfl) d) (.refl d)
  · exact .refl d

theorem sendNotice_kept (r : LogRecord) (d : Device) : ResponsesKept d (sendNotice r d) := by
  unfold sendNotice
  refine .ite (.refl d) (.ite (.of_parts rfl rfl rfl rfl rfl) (ResponsesKept.trans ?_ (queueFrame_kept (.inr rfl) _)))
  exact .of_parts rfl rfl rfl rfl rfl

theorem ringAppend_kept (r : LogRecord) (d : Device) : ResponsesKept d (ringAppend r d) := by
  unfold ringAppend
  refine .ite (.of_parts rfl rfl rfl rfl rfl) ?_
  split <;> exact .of_parts rfl rfl rfl rfl rfl

theorem raiseCeiling_kept (d : Device) : ResponsesKept d (raiseCeiling d) := by
  unfold raiseCeiling
  exact .ite (.of_parts rfl rfl rfl rfl rfl) (.refl d)

theorem raiseOnAll_kept (e : AsyncEvent) (d : Device) : ResponsesKept d (raiseOnAll e d) :=
  .of_parts (by simp [nowMs]) (by simp) (by simp) (by simp) (by simp [ledger])

theorem captureTelemetry_kept (d : Device) : ResponsesKept d (captureTelemetry d) := by
  unfold captureTelemetry
  refine ResponsesKept.trans ?_ (raiseOnAll_kept _ _)
  exact .of_parts rfl rfl rfl rfl rfl

theorem acceptRecord_kept (code : Nat) (snaps : List Nat) (d : Device) : ResponsesKept d (acceptRecord code snaps d) := by
  unfold acceptRecord
  refine ResponsesKept.trans ?_ ((sendEmergency_kept _ _).trans (sendNotice_kept _ _))
  have hring : ∀ (r : LogRecord) (g : Logbook), ResponsesKept d (raiseCeiling (ringAppend r { d with log := g })) := fun r g =>
    ((ResponsesKept.of_parts rfl rfl rfl rfl rfl : ResponsesKept d { d with log := g }).trans (ringAppend_kept r _)).trans (raiseCeiling_kept _)
  have hflush : ∀ (b : Bool) {x : Device}, ResponsesKept d x →
      ResponsesKept d (if b then { x with log := { x.log with flushDue := true } } else x) := fun b x hx => by
    cases b
    · exact hx
    · exact hx.trans (.of_parts rfl rfl rfl rfl rfl)
  exact ResponsesKept.ite ((hflush _ (hring _ _)).trans (captureTelemetry_kept _)) (hflush _ (hring _ _))

/-- A record takes no slot that a response may have. -/
theorem logRec_kept (code : Nat) (snaps : List Nat) (d : Device) : ResponsesKept d (logRec code snaps d) := by
  unfold logRec
  exact .ite (.of_parts rfl rfl rfl rfl rfl) (acceptRecord_kept code snaps d)

/-! ### Responses -/

/-- A response that is queued past what is queued meanwhile. -/
theorem responds_of_kept {r : CanRequest} {d e : Device} (status typ access length : Nat) (data : List Byte) (h : CanAnswers d)
    (hkept : ResponsesKept d e) : Responds r status typ access length data d (sendResponse r status typ access length data e) := by
  obtain ⟨hsilent, -, -, hbacklog, hslot, hheld⟩ := h
  have hgrant := hkept.slot hslot hheld
  have hnone : (e.can.backlog.any fun g => g.owner == 3) = false := by
    simpa [List.any_eq_false] using hkept.backlog hbacklog
  unfold Responds sendResponse queueFrame
  rw [hkept.silent, hsilent, hkept.ms]
  dsimp only
  rw [hgrant, hnone]
  simp only [Bool.false_eq_true, if_false, Bool.not_false, Bool.or_true, Bool.and_true, if_true, ledgerTake_frame, List.count_append,
    List.count_singleton_self]
  rw [hkept.queue _ rfl]

theorem canHears_of_answers {d : Device} (h : CanAnswers d) : canHears d = true := by
  obtain ⟨hsilent, hm0, hm1, -⟩ := h
  simp [canHears, hsilent, hm0, hm1]

/-- A request that no row of Table 14.6 refuses is served. -/
theorem canRequest_of_answers {r : CanRequest} {d : Device} (h : CanAnswers d) (htrans : d.can.trans = none) (hshort : r.short = false)
    (hreserved : r.reserved = false) (ok : Device → Device) : canRequest r false ok d = ok (actedOn d) := by
  unfold canRequest
  simp [canHears_of_answers h, htrans, hshort, hreserved]

theorem actedOn_kept (d : Device) : ResponsesKept d (actedOn d) := .of_parts rfl rfl rfl rfl rfl

end Sys2Proof.Machine
end

section
/-! PROOFS. Authorisation challenges and their responses, over CAN and from a host (spec/18 R538 to R543): O45. -/
-- The proofs are elaborated one after another: see the first file of these proofs.
set_option Elab.async false

namespace Sys2Proof.Machine

/-! ### What the fetch and the end of a command leave alone -/

/-- Nothing has changed but objects and the port `p`. -/
structure PortOnly (p : Nat) (d e : Device) : Prop where
  parts : e = { d with objs := e.objs, ports := e.ports }
  others : OnlyPorts [p] d e

theorem PortOnly.refl (p : Nat) (d : Device) : PortOnly p d d := ⟨rfl, fun _ _ => rfl⟩

theorem PortOnly.trans {p : Nat} {a b c : Device} (h : PortOnly p a b) (g : PortOnly p b c) : PortOnly p a c := by
  refine ⟨?_, fun q hq => (g.others q hq).trans (h.others q hq)⟩
  have hg := g.parts
  rw [h.parts] at hg
  exact hg

theorem updPort_only (p : Nat) (f : PortState → PortState) (d : Device) : PortOnly p d (updPort p f d) :=
  ⟨rfl, fun _ hq => port_updPort_ne (by simpa using hq) f d⟩

theorem setObj_portOnly (p k v : Nat) (d : Device) : PortOnly p d (setObj k v d) := ⟨rfl, fun _ _ => rfl⟩

theorem leaveL1_portOnly (p r : Nat) (d : Device) : PortOnly p d (leaveL1 r d) := by
  unfold leaveL1
  split
  · exact setObj_portOnly p _ _ d
  · exact .refl p d

theorem postCompletion_only (p : Nat) (x : Completion) (d : Device) : PortOnly p d (postCompletion p x d) := by
  unfold postCompletion
  split
  · exact (leaveL1_portOnly p p d).trans (updPort_only p _ _)
  · exact updPort_only p _ d

theorem takeEntry_only (p sq : Nat) (d : Device) : PortOnly p d (takeEntry p sq d) :=
  (updPort_only p _ d).trans (setObj_portOnly p _ _ _)

theorem succeed_only (c : HostCmd) (dw0 dw1 : Nat) (data : List Byte) (d : Device) : PortOnly c.port.val d (succeed c dw0 dw1 data d) :=
  postCompletion_only _ _ d

theorem failWith_only (c : HostCmd) (sct sc : Nat) (dnr : Bool) (crd lba pel dw0 : Nat) (d : Device) :
    PortOnly c.port.val d (failWith c sct sc dnr crd lba pel dw0 d) := by
  unfold failWith
  refine PortOnly.trans ?_ ((setObj_portOnly _ _ _ _).trans (postCompletion_only _ _ _))
  split
  · exact .refl _ d
  · exact updPort_only _ _ d

/-! ### Challenges -/

variable {p slot op arg : Nat} {d : Device}

/-- The challenge that a path is given. -/
def newChallenge (slot op arg : Nat) (d : Device) : Challenge :=
  { nonce := (Config.freeNonce d.free).val + 1, slot := slot, op := op, arg := arg, issuedMs := nowMs d }

/-- The device with a challenge given, in the place of the oldest where eight are outstanding (R539). -/
def challengeGiven (p slot op arg : Nat) (d : Device) : Device :=
  updPath p (fun s => { s with challenges := s.challenges ++ [newChallenge slot op arg d] })
    (if 8 ≤ (pathState p d).challenges.length then updPath p (fun s => { s with challenges := s.challenges.drop 1 }) { d with free := d.free + 1 }
     else ledgerTake 8 p 1 { d with free := d.free + 1 })

/-- A challenge under a key whose slot covers the operation is answered with its nonce (R538, R539). -/
theorem challenge_of_covered (hslot : slot ≤ 7) (hform : argumentForm op arg = true) (hlocked : pathLocked p d = false)
    (hset : authSlotSet slot d = true) (hright : ∃ b, neededRight op arg = some b ∧ bitOf (authRightsOf slot d) b = true)
    (hcan : op = 2 → p ≠ 5) :
    challenge p slot op arg d = (.nonce (newChallenge slot op arg d).nonce, challengeGiven p slot op arg d) := by
  obtain ⟨b, hneeded, hbit⟩ := hright
  unfold challenge
  rw [if_neg (by simp [hform]; omega), if_neg (by simp [hlocked]), hneeded]
  dsimp only
  rw [if_neg (by simp [hset, hbit]; exact hcan)]
  unfold challengeGiven
  by_cases h8 : 8 ≤ (pathState p d).challenges.length
  · have h8' : 8 ≤ (pathState p { d with free := d.free + 1 }).challenges.length := h8
    rw [if_pos h8, if_pos h8']
    rfl
  · have h8' : ¬8 ≤ (pathState p { d with free := d.free + 1 }).challenges.length := h8
    rw [if_neg h8, if_neg h8']
    rfl

/-- Only paths, ledger 8 and the count of free values have changed. -/
def UnitsChange (d e : Device) : Prop :=
  e = { d with settings := { d.settings with paths := e.settings.paths }, ledgers := e.ledgers, free := e.free } ∧ OnlyLedgers [8] d e

theorem updPath_units (p : Nat) (f : PathState → PathState) (d : Device) : UnitsChange d (updPath p f d) := ⟨rfl, fun _ _ => rfl⟩

theorem UnitsChange.trans {a b c : Device} (h : UnitsChange a b) (g : UnitsChange b c) : UnitsChange a c := by
  refine ⟨?_, fun l hl => (g.2 l hl).trans (h.2 l hl)⟩
  have hg := g.1
  rw [h.1] at hg
  exact hg

theorem UnitsChange.kept {e : Device} (h : UnitsChange d e) : ResponsesKept d e := by
  obtain ⟨hparts, hledgers⟩ := h
  have hled : ledger 7 e = ledger 7 d := hledgers 7 (by decide)
  exact .of_parts (by rw [hparts]; rfl) (by rw [hparts]) (by rw [hparts]) (by rw [hparts]) hled

theorem UnitsChange.calm {e : Device} (h : UnitsChange d e) : PortsCalm d e := by
  obtain ⟨hparts, -⟩ := h
  refine .of_parts ?_ ?_ <;> rw [hparts]

theorem challengeGiven_units (p slot op arg : Nat) (d : Device) : UnitsChange d (challengeGiven p slot op arg d) := by
  unfold challengeGiven
  refine UnitsChange.trans ?_ (updPath_units p _ _)
  split
  · exact ⟨rfl, fun _ _ => rfl⟩
  · refine ⟨rfl, fun l hl => ?_⟩
    exact (ledger_updLedger l 8 _ _).trans (if_neg (by simpa using hl))

/-- The challenges of the path have the new one at their end, and its other parts stay. -/
theorem pathState_challengeGiven (p slot op arg : Nat) (d : Device) :
    (pathState p (challengeGiven p slot op arg d)).challenges =
      (if 8 ≤ (pathState p d).challenges.length then (pathState p d).challenges.drop 1 else (pathState p d).challenges)
        ++ [newChallenge slot op arg d] ∧
    (pathState p (challengeGiven p slot op arg d)).grant = (pathState p d).grant := by
  unfold challengeGiven
  rw [pathState_updPath_self]
  split
  · rw [pathState_updPath_self]
    exact ⟨rfl, rfl⟩
  · exact ⟨rfl, rfl⟩

theorem pathState_challengeGiven_ne {q : Nat} (h : q ≠ p) (slot op arg : Nat) (d : Device) :
    pathState q (challengeGiven p slot op arg d) = pathState q d := by
  unfold challengeGiven
  rw [pathState_updPath_ne h]
  split
  · rw [pathState_updPath_ne h]
    rfl
  · rfl

theorem heldBy_challengeGiven (slot op arg : Nat) (hfree : 1 ≤ (ledger 8 d).free) :
    heldBy 8 p (challengeGiven p slot op arg d) = if 8 ≤ (pathState p d).challenges.length then heldBy 8 p d else heldBy 8 p d + 1 := by
  unfold challengeGiven
  split
  · rfl
  · exact (heldBy_ledgerTake (d := { d with free := d.free + 1 }) hfree).1

/-! ### Responses -/

variable {nonce : Nat} {response : List Byte} {ch : Challenge}

/-- The device with the challenge used up (R541). -/
def challengeUsed (p nonce : Nat) (d : Device) : Device := withdrawChallenges p (·.nonce == nonce) d

theorem withdrawChallenges_units (p : Nat) (pick : Challenge → Bool) (d : Device) : UnitsChange d (withdrawChallenges p pick d) :=
  ⟨rfl, fun _ hl => ledger_withdrawChallenges_ne (by simpa using hl) p pick d⟩

theorem challengeUsed_units (p nonce : Nat) (d : Device) : UnitsChange d (challengeUsed p nonce d) := withdrawChallenges_units p _ d

/-- A response to a challenge of the path that is outstanding, for its own operation: right or wrong (Table 18.5). -/
theorem respond_of_outstanding (hslot : slot ≤ 7) (hform : argumentForm op arg = true) (hlocked : pathLocked p d = false)
    (hothers : ∀ q ∈ [1, 2, 3, 4, 5], q ≠ p → ∀ x ∈ (pathState q d).challenges, x.nonce ≠ nonce)
    (hfind : (pathState p d).challenges.find? (·.nonce == nonce) = some ch) (hs : ch.slot = slot) (ho : ch.op = op) (ha : ch.arg = arg) :
    respond p slot op arg nonce response d =
      if response = rightResponse p ch d then
        (.success, updPath p (fun s => { s with grant := some { op := op, arg := arg, givenMs := nowMs d } }) (challengeUsed p nonce d))
      else (.failed, countFailure p slot (challengeUsed p nonce d)) := by
  have hwrong : ¬([1, 2, 3, 4, 5].any fun q => q != p && (pathState q d).challenges.any (·.nonce == nonce)) = true := by
    rw [List.any_eq_true]
    rintro ⟨q, hq, hx⟩
    rw [Bool.and_eq_true, bne_iff_ne, List.any_eq_true] at hx
    obtain ⟨hne, x, hx, hn⟩ := hx
    exact hothers q hq hne x hx (by simpa using hn)
  unfold respond
  rw [if_neg (by simp [hform]; omega), if_neg (by simp [hlocked]), if_neg hwrong, hfind]
  dsimp only
  have hright : rightResponse p ch (withdrawChallenges p (·.nonce == nonce) d) = rightResponse p ch d := rfl
  rw [hright]
  by_cases h : response = rightResponse p ch d
  · rw [if_pos h, if_neg (by simp [hs, ho, ha, h])]
    rfl
  · rw [if_neg h, if_pos (by simp [h])]
    rfl

/-- The failures of a path in the last ten minutes, the new one first (R543). -/
def failuresNow (p : Nat) (d : Device) : List Nat :=
  nowMs d :: (pathState p d).failures.filter fun t => decide (nowMs d < t + 600000)

theorem length_failuresNow (p : Nat) (d : Device) : (failuresNow p d).length = failureCount p d + 1 := rfl

def failureNoted (p : Nat) (d : Device) : Device := updPath p (fun s => { s with failures := failuresNow p d }) d

/-- The path locked for 15 minutes, its challenges and its grant gone (R543). -/
def pathShut (p : Nat) (d : Device) : Device :=
  updPath p (fun s => { s with lockedUntil := some (nowMs d + 900000), grant := none }) (withdrawChallenges p (fun _ => true) (failureNoted p d))

theorem countFailure_eq (p slot : Nat) (d : Device) : countFailure p slot d =
    if failureCount p d + 1 < 5 then failureNoted p d else logRec Code.pathLockedOut [p, slot] (pathShut p d) := rfl

theorem pathShut_units (p : Nat) (d : Device) : UnitsChange d (pathShut p d) := by
  unfold pathShut failureNoted
  exact ((updPath_units p _ d).trans (withdrawChallenges_units p _ _)).trans (updPath_units p _ _)

theorem pathState_pathShut (p : Nat) (d : Device) : pathState p (pathShut p d) =
    { pathState p d with failures := failuresNow p d, lockedUntil := some (nowMs d + 900000), grant := none, challenges := [] } := by
  unfold pathShut
  rw [pathState_updPath_self, pathState_withdrawChallenges, if_pos rfl]
  unfold failureNoted
  simp

theorem pathState_pathShut_ne {q : Nat} (h : q ≠ p) (d : Device) : pathState q (pathShut p d) = pathState q d := by
  unfold pathShut
  rw [pathState_updPath_ne h, pathState_withdrawChallenges, if_neg h]
  exact pathState_updPath_ne h _ d

/-- What has become of a path whose response was wrong. -/
structure FailureCounted (p : Nat) (d e : Device) : Prop where
  failures : (pathState p e).failures = failuresNow p d
  open_ : failureCount p d < 4 → (pathState p e).grant = (pathState p d).grant ∧ (pathState p e).lockedUntil = (pathState p d).lockedUntil
  shut : 4 ≤ failureCount p d → (pathState p e).lockedUntil = some (nowMs d + 900000) ∧ (pathState p e).grant = none ∧
    (pathState p e).challenges = []
  challenges : ∀ x ∈ (pathState p e).challenges, x ∈ (pathState p d).challenges
  others : ∀ q, q ≠ p → pathState q e = pathState q d
  ledgers : OnlyLedgers [7, 8] d e
  kept : ResponsesKept d e
  ctl : e.ctl = d.ctl
  media : e.media = d.media
  sec : e.sec = d.sec

theorem countFailure_counted (p slot : Nat) (d : Device) : FailureCounted p d (countFailure p slot d) := by
  rw [countFailure_eq]
  by_cases h : failureCount p d + 1 < 5
  · rw [if_pos h]
    have hself : pathState p (failureNoted p d) = { pathState p d with failures := failuresNow p d } := pathState_updPath_self p _ d
    exact ⟨by rw [hself], fun _ => by rw [hself]; exact ⟨rfl, rfl⟩, fun h' => absurd h' (by omega), fun x hx => by rw [hself] at hx; exact hx,
      fun q hq => pathState_updPath_ne hq _ d, fun _ _ => rfl, .of_parts rfl rfl rfl rfl rfl, rfl, rfl, rfl⟩
  · rw [if_neg h]
    have haside := logRec_aside Code.pathLockedOut [p, slot] (pathShut p d)
    have hstate : ∀ q, pathState q (logRec Code.pathLockedOut [p, slot] (pathShut p d)) = pathState q (pathShut p d) := fun q =>
      pathState_logRec q _ _ _
    have hunits := pathShut_units p d
    refine ⟨?_, fun h' => absurd h' (by omega), fun _ => ?_, fun x hx => ?_, fun q hq => ?_, fun l hl => ?_,
      hunits.kept.trans (logRec_kept _ _ _), haside.ctl, haside.media, haside.sec⟩
    · rw [hstate, pathState_pathShut]
    · rw [hstate, pathState_pathShut]
      exact ⟨rfl, rfl, rfl⟩
    · rw [hstate, pathState_pathShut] at hx
      cases hx
    · rw [hstate, pathState_pathShut_ne hq]
    · rw [haside.ledgers l (by rintro rfl; simp at hl), hunits.2 l (fun h8 => hl (by simp_all))]

theorem countFailure_grows {r q : Nat} (hr : r < 4) (p slot : Nat) (d : Device) : QueueGrows r q d (countFailure p slot d) := by
  rw [countFailure_eq]
  refine .ite ((updPath_units p _ d).calm.grows hr) (((pathShut_units p d).calm.grows hr).trans (logRec_grows hr _ _ _))

/-! ### The ends of a request -/

theorem sendResponse_aside (r : CanRequest) (status typ access length : Nat) (data : List Byte) (d : Device) :
    Aside d (sendResponse r status typ access length data d) := queueFrame_aside _ d

theorem sendResponse_ports (r : CanRequest) (status typ access length : Nat) (data : List Byte) (d : Device) :
    (sendResponse r status typ access length data d).ports = d.ports := (queueFrame_calm _ d).ports

variable {c : HostCmd} {r : CanRequest}

/-- A challenge over CAN (R434). -/
theorem canChallenge_of_covered (hslot : slot ≤ 7) (hform : argumentForm 1 arg = true) (hlocked : pathLocked canPath d = false)
    (hset : authSlotSet slot d = true) (hright : ∃ b, neededRight 1 arg = some b ∧ bitOf (authRightsOf slot d) b = true)
    (hanswers : CanAnswers d) (htrans : d.can.trans = none) (hshort : r.short = false) (hreserved : r.reserved = false) :
    canRequest r false (canChallenge r slot 1 arg) d =
      sendResponse r 0x00 0 0 0 (leBytes 8 (newChallenge slot 1 arg d).nonce) (challengeGiven canPath slot 1 arg (actedOn d)) := by
  rw [canRequest_of_answers hanswers htrans hshort hreserved]
  unfold canChallenge
  rw [challenge_of_covered (d := actedOn d) hslot hform hlocked hset hright (by decide)]
  rfl

/-- A challenge from a host (R539). -/
theorem challengeCommand_of_covered {i : Instr} (hslot : slot ≤ 7) (hform : argumentForm op arg = true)
    (hlocked : pathLocked (c.port.val + 1) d = false) (hset : authSlotSet slot d = true)
    (hright : ∃ b, neededRight op arg = some b ∧ bitOf (authRightsOf slot d) b = true) (hready : AdminReady c d)
    (hmode : d.ctl.mode ∉ [Mode.m2, .m9]) :
    adminCommand i c .other (challengeBody c slot op arg) d =
      succeed c ((newChallenge slot op arg d).nonce % 2 ^ 32) ((newChallenge slot op arg d).nonce / 2 ^ 32) []
        (challengeGiven (c.port.val + 1) slot op arg (takeEntry c.port.val 0 d)) := by
  have hm : d.ctl.mode ≠ .m2 ∧ d.ctl.mode ≠ .m9 := by simpa using hmode
  have hport := c.port.isLt
  rw [adminCommand_of_ready hready _ (.inl hm.1) (.inl (by decide)) (.inr hm.2)]
  unfold challengeBody
  rw [if_neg (by simp [hready.2.1]),
    challenge_of_covered (d := takeEntry c.port.val 0 d) hslot hform hlocked hset hright (by omega)]
  rfl

/-- A response over CAN to a challenge that is outstanding (R434). -/
theorem canRespond_of_outstanding (hslot : slot ≤ 7) (hform : argumentForm op arg = true) (hlocked : pathLocked canPath d = false)
    (hothers : ∀ q ∈ [1, 2, 3, 4, 5], q ≠ canPath → ∀ x ∈ (pathState q d).challenges, x.nonce ≠ nonce)
    (hfind : (pathState canPath d).challenges.find? (·.nonce == nonce) = some ch) (hs : ch.slot = slot) (ho : ch.op = op) (ha : ch.arg = arg)
    (hanswers : CanAnswers d) (htrans : d.can.trans = none) (hshort : r.short = false) (hreserved : r.reserved = false) :
    canRequest r false (canRespond r slot op arg nonce response) d =
      if response = rightResponse canPath ch d then
        sendResponse r 0x00 0 0 0 []
          (updPath canPath (fun s => { s with grant := some { op := op, arg := arg, givenMs := nowMs d } })
            (challengeUsed canPath nonce (actedOn d)))
      else sendResponse r 0x05 0 0 0 (leBytes 8 0x01) (countFailure canPath slot (challengeUsed canPath nonce (actedOn d))) := by
  rw [canRequest_of_answers hanswers htrans hshort hreserved]
  unfold canRespond
  rw [respond_of_outstanding (d := actedOn d) hslot hform hlocked hothers hfind hs ho ha]
  have hright : rightResponse canPath ch (actedOn d) = rightResponse canPath ch d := rfl
  rw [hright]
  by_cases h : response = rightResponse canPath ch d
  · rw [if_pos h, if_pos h]
    rfl
  · rw [if_neg h, if_neg h]

/-- A response from a host to a challenge that is outstanding (Table 18.5). -/
theorem respondCommand_of_outstanding {i : Instr} (hslot : slot ≤ 7) (hform : argumentForm op arg = true)
    (hlocked : pathLocked (c.port.val + 1) d = false)
    (hothers : ∀ q ∈ [1, 2, 3, 4, 5], q ≠ c.port.val + 1 → ∀ x ∈ (pathState q d).challenges, x.nonce ≠ nonce)
    (hfind : (pathState (c.port.val + 1) d).challenges.find? (·.nonce == nonce) = some ch) (hs : ch.slot = slot) (ho : ch.op = op)
    (ha : ch.arg = arg) (hready : AdminReady c d) (hmode : d.ctl.mode ∉ [Mode.m2, .m9]) :
    adminCommand i c .other (respondBody c slot op arg nonce response) d =
      if response = rightResponse (c.port.val + 1) ch d then
        succeed c 0 0 []
          (updPath (c.port.val + 1) (fun s => { s with grant := some { op := op, arg := arg, givenMs := nowMs d } })
            (challengeUsed (c.port.val + 1) nonce (takeEntry c.port.val 0 d)))
      else failCmd c 0x1 0xC2 (countFailure (c.port.val + 1) slot (challengeUsed (c.port.val + 1) nonce (takeEntry c.port.val 0 d))) := by
  have hm : d.ctl.mode ≠ .m2 ∧ d.ctl.mode ≠ .m9 := by simpa using hmode
  rw [adminCommand_of_ready hready _ (.inl hm.1) (.inl (by decide)) (.inr hm.2)]
  unfold respondBody
  rw [if_neg (by simp [hready.2.1]), respond_of_outstanding (d := takeEntry c.port.val 0 d) hslot hform hlocked hothers hfind hs ho ha]
  have hright : rightResponse (c.port.val + 1) ch (takeEntry c.port.val 0 d) = rightResponse (c.port.val + 1) ch d := rfl
  rw [hright]
  by_cases h : response = rightResponse (c.port.val + 1) ch d
  · rw [if_pos h, if_pos h]
    rfl
  · rw [if_neg h, if_neg h]

/-! ### The effects -/

/-- From `d` to `e` only what serves a request around its effect on the paths has changed. -/
structure Around (d e : Device) : Prop where
  settings : e.settings = d.settings
  ledgers : OnlyLedgers [7] d e
  ctl : e.ctl = d.ctl
  media : e.media = d.media
  sec : e.sec = d.sec
  cs : e.cs = d.cs

theorem actedOn_around (d : Device) : Around d (actedOn d) := ⟨rfl, fun _ _ => rfl, rfl, rfl, rfl, rfl⟩

theorem PortOnly.around {e : Device} (h : PortOnly p d e) : Around d e := by
  rw [h.parts]
  exact ⟨rfl, fun _ _ => rfl, rfl, rfl, rfl, rfl⟩

theorem sendResponse_around (r : CanRequest) (status typ access length : Nat) (data : List Byte) (d : Device) :
    Around d (sendResponse r status typ access length data d) := by
  have haside := sendResponse_aside r status typ access length data d
  refine ⟨haside.settings, fun l hl => haside.ledgers l (by simpa using hl), haside.ctl, haside.media, haside.sec, ?_⟩
  unfold sendResponse
  simp

theorem Around.ms {e : Device} (h : Around d e) : nowMs e = nowMs d := by
  unfold nowMs
  rw [h.ctl]

theorem Around.heldBy8 {e : Device} (h : Around d e) (o : Nat) : heldBy 8 o e = heldBy 8 o d := by
  unfold heldBy
  rw [h.ledgers 8 (by decide)]

/-- What a challenge leaves, whatever serves the request around it. -/
theorem challengeGiven_effects {x y : Device} (hx : Around d x) (hy : Around (challengeGiven p slot op arg x) y)
    (hfree : 1 ≤ (ledger 8 d).free) :
    (pathState p y).challenges =
      (if 8 ≤ (pathState p d).challenges.length then (pathState p d).challenges.drop 1 else (pathState p d).challenges) ++
        [{ nonce := (newChallenge slot op arg x).nonce, slot := slot, op := op, arg := arg, issuedMs := nowMs d }] ∧
    heldBy 8 p y = (if 8 ≤ (pathState p d).challenges.length then heldBy 8 p d else heldBy 8 p d + 1) ∧
    (∀ q, q ≠ p → pathState q y = pathState q d) ∧ (pathState p y).grant = (pathState p d).grant ∧
    OnlyLedgers [7, 8] d y ∧ y.ctl = d.ctl ∧ y.media = d.media ∧ y.sec = d.sec ∧ y.cs = d.cs := by
  have hstate : ∀ q, pathState q y = pathState q (challengeGiven p slot op arg x) := fun q => pathState_congr hy.settings
  have hbefore : ∀ q, pathState q x = pathState q d := fun q => pathState_congr hx.settings
  have hgiven := pathState_challengeGiven p slot op arg x
  obtain ⟨hparts, hledgers⟩ := challengeGiven_units p slot op arg x
  rw [hbefore] at hgiven
  refine ⟨?_, ?_, fun q hq => ?_, ?_, fun l hl => ?_, ?_, ?_, ?_, ?_⟩
  · rw [hstate, hgiven.1, ← hx.ms]
    rfl
  · rw [hy.heldBy8, heldBy_challengeGiven slot op arg (by rw [hx.ledgers 8 (by decide)]; exact hfree), hx.heldBy8, hbefore]
  · rw [hstate, pathState_challengeGiven_ne hq, hbefore]
  · rw [hstate, hgiven.2]
  · simp only [List.mem_cons, List.not_mem_nil, or_false, not_or] at hl
    rw [hy.ledgers l (by simpa using hl.1), hledgers l (by simpa using hl.2), hx.ledgers l (by simpa using hl.1)]
  · rw [hy.ctl, hparts, ← hx.ctl]
  · rw [hy.media, hparts, ← hx.media]
  · rw [hy.sec, hparts, ← hx.sec]
  · rw [hy.cs, hparts, ← hx.cs]

/-- A path whose challenge is used up holds none with its nonce. -/
theorem challengeUsed_nonce (p nonce : Nat) (d : Device) : ∀ x ∈ (pathState p (challengeUsed p nonce d)).challenges, x.nonce ≠ nonce := by
  unfold challengeUsed
  rw [pathState_withdrawChallenges, if_pos rfl]
  intro x hx
  simpa using (List.mem_filter.mp hx).2

/-- What a response leaves whatever becomes of it. -/
structure ResponseLeaves (p nonce : Nat) (d e : Device) : Prop where
  used : ∀ x ∈ (pathState p e).challenges, x.nonce ≠ nonce
  others : ∀ q, q ≠ p → pathState q e = pathState q d
  ledgers : OnlyLedgers [7, 8] d e
  ctl : e.ctl = d.ctl
  media : e.media = d.media
  sec : e.sec = d.sec

theorem ResponseLeaves.around {x y e : Device} (hx : Around d x) (h : ResponseLeaves p nonce x y) (hy : Around y e) :
    ResponseLeaves p nonce d e := by
  refine ⟨fun c hc => h.used c (by rwa [pathState_congr hy.settings] at hc), fun q hq => ?_, fun l hl => ?_, hy.ctl.trans (h.ctl.trans hx.ctl),
    hy.media.trans (h.media.trans hx.media), hy.sec.trans (h.sec.trans hx.sec)⟩
  · rw [pathState_congr hy.settings, h.others q hq, pathState_congr hx.settings]
  · have h7 : l ∉ [7] := fun h7 => hl (by simp_all)
    rw [hy.ledgers l h7, h.ledgers l hl, hx.ledgers l h7]

/-- The grant that the right response gives (R541, R542). -/
theorem grantGiven_leaves (p nonce : Nat) (g : Grant) (d : Device) :
    ResponseLeaves p nonce d (updPath p (fun s => { s with grant := some g }) (challengeUsed p nonce d)) := by
  refine ⟨fun x hx => challengeUsed_nonce p nonce d x ?_, fun q hq => ?_, fun l hl => ?_, rfl, rfl, rfl⟩
  · rwa [pathState_updPath_self] at hx
  · rw [pathState_updPath_ne hq]
    exact (pathState_withdrawChallenges p q _ d).trans (if_neg hq)
  · exact (challengeUsed_units p nonce d).2 l fun h8 => hl (by simp_all)

theorem countFailure_leaves (p nonce slot : Nat) (d : Device) :
    ResponseLeaves p nonce d (countFailure p slot (challengeUsed p nonce d)) := by
  have h := countFailure_counted p slot (challengeUsed p nonce d)
  refine ⟨fun x hx => challengeUsed_nonce p nonce d x (h.challenges x hx), fun q hq => ?_, fun l hl => ?_, h.ctl, h.media, h.sec⟩
  · rw [h.others q hq]
    exact (pathState_withdrawChallenges p q _ d).trans (if_neg hq)
  · rw [h.ledgers l hl]
    exact (challengeUsed_units p nonce d).2 l fun h8 => hl (by simp_all)

/-- What the right response leaves of its path, whatever serves the request around it. -/
theorem grantGiven_effects {x y : Device} (hx : Around d x) (g : Grant)
    (hy : Around (updPath p (fun s => { s with grant := some g }) (challengeUsed p nonce x)) y) :
    (pathState p y).grant = some g ∧ (pathState p y).failures = (pathState p d).failures := by
  rw [pathState_congr hy.settings, pathState_updPath_self]
  unfold challengeUsed
  rw [pathState_withdrawChallenges, if_pos rfl, pathState_congr hx.settings]
  exact ⟨rfl, rfl⟩

theorem Around.failuresNow {x : Device} (hx : Around d x) (nonce : Nat) : failuresNow p (challengeUsed p nonce x) = failuresNow p d := by
  have hstate : (pathState p (challengeUsed p nonce x)).failures = (pathState p d).failures := by
    unfold challengeUsed
    rw [pathState_withdrawChallenges, if_pos rfl, pathState_congr hx.settings]
  have hms : nowMs (challengeUsed p nonce x) = nowMs d := hx.ms
  unfold Machine.failuresNow
  rw [hstate, hms]

/-- What a wrong response leaves of its path, whatever serves the request around it. -/
theorem countFailure_effects {x y : Device} (hx : Around d x) (hy : Around (countFailure p slot (challengeUsed p nonce x)) y) :
    (pathState p y).failures = failuresNow p d ∧
    if failureCount p d < 4 then (pathState p y).grant = (pathState p d).grant ∧ (pathState p y).lockedUntil = (pathState p d).lockedUntil
    else (pathState p y).lockedUntil = some (nowMs d + 900000) ∧ (pathState p y).grant = none ∧ (pathState p y).challenges = [] := by
  have h := countFailure_counted p slot (challengeUsed p nonce x)
  have hfailures := hx.failuresNow (p := p) nonce
  have hcount : failureCount p (challengeUsed p nonce x) = failureCount p d := by
    have := congrArg List.length hfailures
    rw [length_failuresNow, length_failuresNow] at this
    omega
  have hms : nowMs (challengeUsed p nonce x) = nowMs d := hx.ms
  rw [pathState_congr hy.settings]
  refine ⟨h.failures.trans hfailures, ?_⟩
  split
  · next hlt =>
    obtain ⟨hgrant, hlock⟩ := h.open_ (by rw [hcount]; exact hlt)
    rw [hgrant, hlock]
    unfold challengeUsed
    rw [pathState_withdrawChallenges, if_pos rfl, pathState_congr hx.settings]
    exact ⟨rfl, rfl⟩
  · next hge =>
    rw [← hms]
    exact h.shut (by rw [hcount]; omega)

theorem AdminReady.room (h : AdminReady c d) : RoomFor c d := by
  obtain ⟨-, -, ⟨-, -, -, hroom⟩, -⟩ := h
  exact hroom

/-- What is counted and withdrawn before the answer of a host's response posts nothing. -/
theorem challengeUsed_grows {q : Nat} (p nonce : Nat) (d : Device) : QueueGrows c.port.val q d (challengeUsed p nonce (takeEntry c.port.val 0 d)) :=
  (takeEntry_grows c.port.isLt 0 d).trans ((challengeUsed_units p nonce _).calm.grows c.port.isLt)

theorem challengeUsed_kept (p nonce : Nat) (d : Device) : ResponsesKept d (challengeUsed p nonce (actedOn d)) :=
  (actedOn_kept d).trans (challengeUsed_units p nonce _).kept

end Sys2Proof.Machine

section
open Sys2Proof Sys2Proof.Machine

/-- Settles O45: a request on either path is served around its effect on the path's state, which the answer leaves. -/
theorem challengesAreAnswered : Obligations.ChallengesAreAnswered := by
  unfold Obligations.ChallengesAreAnswered
  refine ⟨?challenge, ?respond⟩
  case challenge =>
    intro s path slot op arg c cmd r hslot hform hlocked hset hright hfree hwho
    rcases hwho with ⟨rfl, rfl, rfl, hanswers, htrans, hshort, hreserved⟩ | ⟨rfl, rfl, hready, hmode⟩
    · refine .of_runDev _ rfl ?_
      rw [canChallenge_of_covered hslot hform hlocked hset hright hanswers htrans hshort hreserved]
      obtain ⟨hchallenges, hheld, hothers, hgrant, hledgers, hctl, hmedia, hsec, hcs⟩ :=
        challengeGiven_effects (slot := slot) (op := 1) (arg := arg) (actedOn_around s.dev) (sendResponse_around r 0x00 0 0 0
          (leBytes 8 (newChallenge slot 1 arg s.dev).nonce) (challengeGiven canPath slot 1 arg (actedOn s.dev))) hfree
      refine ⟨⟨_, Nat.le_add_left 1 _, hchallenges, fun _ => ?_, fun h => absurd rfl h⟩, hheld, hothers, hgrant, hledgers, hctl, hmedia, hsec,
        hcs, fun p _ => ?_⟩
      · exact responds_of_kept _ _ _ _ _ hanswers ((actedOn_kept s.dev).trans (challengeGiven_units canPath slot 1 arg _).kept)
      · exact port_congr ((sendResponse_ports _ _ _ _ _ _ _).trans (challengeGiven_units canPath slot 1 arg _).calm.ports) p
    · refine .of_runDev _ rfl ?_
      have hport := cmd.port.isLt
      have hne : cmd.port.val + 1 ≠ canPath := by unfold canPath; omega
      rw [challengeCommand_of_covered hslot hform hlocked hset hright hready hmode]
      have hend := succeed_only cmd ((newChallenge slot op arg s.dev).nonce % 2 ^ 32) ((newChallenge slot op arg s.dev).nonce / 2 ^ 32) []
        (challengeGiven (cmd.port.val + 1) slot op arg (takeEntry cmd.port.val 0 s.dev))
      obtain ⟨hchallenges, hheld, hothers, hgrant, hledgers, hctl, hmedia, hsec, hcs⟩ :=
        challengeGiven_effects (slot := slot) (op := op) (arg := arg) (takeEntry_only cmd.port.val 0 s.dev).around hend.around hfree
      have hcalm := (challengeGiven_units (cmd.port.val + 1) slot op arg (takeEntry cmd.port.val 0 s.dev)).calm
      refine ⟨⟨_, Nat.le_add_left 1 _, hchallenges, fun h => absurd h hne, fun _ => ?_⟩, hheld, hothers, hgrant, hledgers, hctl, hmedia, hsec,
        hcs, fun p hp => ?_⟩
      · exact completes_of_succeed _ _ _ hready.room ((takeEntry_grows hport 0 s.dev).trans (hcalm.grows hport)) ⟨rfl, rfl, rfl, rfl⟩
      · rw [if_neg hne] at hp
        exact (hend.others p hp).trans ((port_congr hcalm.ports p).trans ((takeEntry_only cmd.port.val 0 s.dev).others p hp))
  case respond =>
    intro s path slot op arg nonce response c cmd r ch hslot hform hlocked hothers hfind hs ho ha hwho
    rcases hwho with ⟨rfl, rfl, hanswers, htrans, hshort, hreserved⟩ | ⟨rfl, rfl, hready, hmode⟩
    · refine .of_runDev _ rfl ?_
      rw [canRespond_of_outstanding hslot hform hlocked hothers hfind hs ho ha hanswers htrans hshort hreserved]
      by_cases hresponse : response = rightResponse canPath ch s.dev
      · rw [if_pos hresponse]
        have hend := sendResponse_around r 0x00 0 0 0 [] (updPath canPath
          (fun s' => { s' with grant := some { op := op, arg := arg, givenMs := nowMs s.dev } }) (challengeUsed canPath nonce (actedOn s.dev)))
        obtain ⟨hgrant, hfailures⟩ := grantGiven_effects (actedOn_around s.dev) _ hend
        obtain ⟨hused, hpaths, hledgers, hctl, hmedia, hsec⟩ := (grantGiven_leaves canPath nonce _ _).around (actedOn_around s.dev) hend
        exact ⟨fun _ => ⟨hgrant, hfailures, fun _ => responds_of_kept _ _ _ _ _ hanswers
            ((challengeUsed_kept canPath nonce s.dev).trans (updPath_units canPath _ _).kept), fun h => absurd rfl h⟩,
          fun h => absurd hresponse h, hused, hpaths, hledgers, hctl, hmedia, hsec⟩
      · rw [if_neg hresponse]
        have hend := sendResponse_around r 0x05 0 0 0 (leBytes 8 0x01) (countFailure canPath slot (challengeUsed canPath nonce (actedOn s.dev)))
        obtain ⟨hfailures, hlock⟩ := countFailure_effects (actedOn_around s.dev) hend
        obtain ⟨hused, hpaths, hledgers, hctl, hmedia, hsec⟩ :=
          (countFailure_leaves canPath nonce slot _).around (actedOn_around s.dev) hend
        exact ⟨fun h => absurd h hresponse, fun _ => ⟨hfailures, fun _ => responds_of_kept _ _ _ _ _ hanswers
            ((challengeUsed_kept canPath nonce s.dev).trans (countFailure_counted canPath slot _).kept), fun h => absurd rfl h, hlock⟩,
          hused, hpaths, hledgers, hctl, hmedia, hsec⟩
    · refine .of_runDev _ rfl ?_
      have hport := cmd.port.isLt
      have hne : cmd.port.val + 1 ≠ canPath := by unfold canPath; omega
      have htake := (takeEntry_only cmd.port.val 0 s.dev).around
      rw [respondCommand_of_outstanding hslot hform hlocked hothers hfind hs ho ha hready hmode]
      by_cases hresponse : response = rightResponse (cmd.port.val + 1) ch s.dev
      · rw [if_pos hresponse]
        have hend := (succeed_only cmd 0 0 [] (updPath (cmd.port.val + 1)
          (fun s' => { s' with grant := some { op := op, arg := arg, givenMs := nowMs s.dev } })
          (challengeUsed (cmd.port.val + 1) nonce (takeEntry cmd.port.val 0 s.dev)))).around
        obtain ⟨hgrant, hfailures⟩ := grantGiven_effects htake _ hend
        obtain ⟨hused, hpaths, hledgers, hctl, hmedia, hsec⟩ := (grantGiven_leaves (cmd.port.val + 1) nonce _ _).around htake hend
        exact ⟨fun _ => ⟨hgrant, hfailures, fun h => absurd h hne, fun _ => succeeds_of_succeed 0 0 [] hready.room
            ((challengeUsed_grows _ nonce s.dev).trans ((updPath_units _ _ _).calm.grows hport))⟩,
          fun h => absurd hresponse h, hused, hpaths, hledgers, hctl, hmedia, hsec⟩
      · rw [if_neg hresponse]
        have hend := (failWith_only cmd 0x1 0xC2 (dnrOf 0x1 0xC2) 0 0 0xFFFF 0
          (countFailure (cmd.port.val + 1) slot (challengeUsed (cmd.port.val + 1) nonce (takeEntry cmd.port.val 0 s.dev)))).around
        obtain ⟨hfailures, hlock⟩ := countFailure_effects htake hend
        obtain ⟨hused, hpaths, hledgers, hctl, hmedia, hsec⟩ := (countFailure_leaves (cmd.port.val + 1) nonce slot _).around htake hend
        exact ⟨fun h => absurd h hresponse, fun _ => ⟨hfailures, fun h => absurd h hne, fun _ => completes_of_failWith _ _ _ _ _ _ _ hready.room
            ((challengeUsed_grows _ nonce s.dev).trans (countFailure_grows hport _ slot _)) ⟨rfl, rfl⟩, hlock⟩,
          hused, hpaths, hledgers, hctl, hmedia, hsec⟩

end
end

section
/-! PROOFS. Namespace records and the frames that they are written to (spec/12 R374, spec/03 R90): what a change of a record leaves, and the
reservations of a namespace. O60. -/
-- The proofs are elaborated one after another: see the first file of these proofs.
set_option Elab.async false

namespace Sys2Proof.Machine

/-! ### System frames -/

/-- From `d` to `e` a structure of the medium has been written anew: its frame, its root and the superblock that is due. -/
def FramesTaken (d e : Device) : Prop :=
  e = { d with free := e.free, media := { d.media with sb := e.media.sb, sbDue := e.media.sbDue, stripes := e.media.stripes
                                                       blocks := e.media.blocks } }

theorem FramesTaken.refl (d : Device) : FramesTaken d d := rfl

theorem FramesTaken.trans {a b c : Device} (h : FramesTaken a b) (g : FramesTaken b c) : FramesTaken a c := by
  unfold FramesTaken at *
  rw [h] at g
  exact g

theorem holdRows_taken (p : Placement) (d : Device) : FramesTaken d (holdRows p d) := rfl

theorem updBlock_taken (b : Nat) (f : Block → Block) (d : Device) : FramesTaken d (updBlock b f d) := rfl

theorem systemRun_taken (frames : Nat) (apart : Option Nat) (d : Device) : FramesTaken d (systemRun frames apart d).2 := by
  unfold systemRun
  dsimp only
  split
  · exact rfl
  · exact (updBlock_taken _ _ d).trans (holdRows_taken _ _)

theorem moveRoot_taken (f : Nat → Roots → Roots) (d : Device) : FramesTaken d (moveRoot f d) :=
  (systemRun_taken 1 none d).trans rfl

/-! ### Records of the namespace table -/

/-- From `d` to `e` only the record of the namespace slot has changed, and what a structure written anew changes. -/
structure NsChange (slot : Nat) (d e : Device) : Prop where
  parts : e = { d with free := e.free, sub := { d.sub with namespaces := e.sub.namespaces }
                       media := { d.media with sb := e.media.sb, sbDue := e.media.sbDue, stripes := e.media.stripes, blocks := e.media.blocks } }
  others : ∀ k, k ≠ slot → namespace_ k e = namespace_ k d

variable {slot : Nat} {d e : Device}

theorem NsChange.refl (slot : Nat) (d : Device) : NsChange slot d d := ⟨rfl, fun _ _ => rfl⟩

theorem NsChange.trans {a b c : Device} (h : NsChange slot a b) (g : NsChange slot b c) : NsChange slot a c := by
  refine ⟨?_, fun k hk => (g.others k hk).trans (h.others k hk)⟩
  have hg := g.parts
  rw [h.parts] at hg
  exact hg

theorem FramesTaken.ns (h : FramesTaken d e) : NsChange slot d e := by
  rw [h]
  exact ⟨rfl, fun _ _ => rfl⟩

theorem namespace_congr (h : e.sub = d.sub) (k : Nat) : namespace_ k e = namespace_ k d := by
  unfold namespace_
  rw [h]

theorem FramesTaken.sub (h : FramesTaken d e) : e.sub = d.sub := by rw [h]

theorem updNs_changes (slot : Nat) (f : Namespace → Namespace) (d : Device) : NsChange slot d (updNs slot f d) := by
  have hrecord : NsChange slot d { d with sub := { d.sub with namespaces := smUpd {} slot f d.sub.namespaces } } :=
    ⟨rfl, fun k hk => by simp [namespace_, smGet_smUpd, hk]⟩
  unfold updNs
  dsimp only
  split
  · exact hrecord
  · exact hrecord.trans (moveRoot_taken _ _).ns

theorem namespace_updNs_self (slot : Nat) (f : Namespace → Namespace) (d : Device) : namespace_ slot (updNs slot f d) = f (namespace_ slot d) := by
  have hrecord : namespace_ slot { d with sub := { d.sub with namespaces := smUpd {} slot f d.sub.namespaces } } = f (namespace_ slot d) := by
    simp [namespace_]
  unfold updNs
  dsimp only
  split
  · exact hrecord
  · exact (namespace_congr (moveRoot_taken _ _).sub slot).trans hrecord

theorem NsChange.framesOnly (h : NsChange slot d e) : FramesOnly d e := by
  have hmedia : e.media = _ := congrArg Device.media h.parts
  unfold FramesOnly
  rw [hmedia]

theorem NsChange.calm (h : NsChange slot d e) : PortsCalm d e := by
  rw [h.parts]
  exact .of_parts rfl rfl

theorem FramesOnly.trans {a b c : Device} (h : FramesOnly a b) (g : FramesOnly b c) : FramesOnly a c := by
  unfold FramesOnly at *
  rw [h] at g
  exact g

/-! ### What a command leaves around the records -/

/-- From `d` to `e` neither the medium, the namespaces, the keys nor the settings have changed: what fetches and ends a command. -/
structure RecordsKept (d e : Device) : Prop where
  media : e.media = d.media
  sub : e.sub.namespaces = d.sub.namespaces
  sec : e.sec = d.sec

theorem RecordsKept.trans {a b c : Device} (h : RecordsKept a b) (g : RecordsKept b c) : RecordsKept a c :=
  ⟨g.media.trans h.media, g.sub.trans h.sub, g.sec.trans h.sec⟩

theorem RecordsKept.refl (d : Device) : RecordsKept d d := ⟨rfl, rfl, rfl⟩

theorem PortOnly.records {p : Nat} (h : PortOnly p d e) : RecordsKept d e := by
  rw [h.parts]
  exact ⟨rfl, rfl, rfl⟩

theorem RecordsKept.ns (h : RecordsKept d e) (k : Nat) : namespace_ k e = namespace_ k d := by
  unfold namespace_
  rw [h.sub]

/-- A record that changes between the fetch and the end of its command. -/
theorem NsChange.framed {a b x y : Device} (hx : RecordsKept a x) (h : NsChange slot x y) (hy : RecordsKept y b) :
    (∀ k, k ≠ slot → namespace_ k b = namespace_ k a) ∧ FramesOnly a b ∧ b.sec = a.sec := by
  have hsec : y.sec = x.sec := by rw [h.parts]
  refine ⟨fun k hk => by rw [hy.ns, h.others k hk, hx.ns], ?_, hy.sec.trans (hsec.trans hx.sec)⟩
  have hframes := h.framesOnly
  unfold FramesOnly at *
  rw [hy.media, ← hx.media]
  exact hframes

/-! ### Notices -/

theorem raiseEvent_records (p : Nat) (x : AsyncEvent) (d : Device) : RecordsKept d (raiseEvent p x d) :=
  ⟨by simp, by simp, by simp⟩

theorem noticeHost_records (slot typ : Nat) (h : BitVec 128) (d : Device) : RecordsKept d (noticeHost slot typ h d) := by
  unfold noticeHost
  split
  · exact .refl d
  · refine foldl_rel .refl .trans (fun d p => ?_) _ d
    split
    · refine RecordsKept.trans ?_ (raiseEvent_records p _ _)
      exact ⟨rfl, rfl, rfl⟩
    · exact .refl d

theorem noticeHosts_records (slot typ : Nat) (hs : List (BitVec 128)) (d : Device) : RecordsKept d (noticeHosts slot typ hs d) :=
  foldl_rel .refl .trans (fun d h => noticeHost_records slot typ h d) hs d

/-! ### Registrations -/

theorem keyOf_of_mem {n : Namespace} {v : Registrant} (hv : v ∈ n.registrants) (huniq : ∀ r ∈ n.registrants, r.hostId = v.hostId → r = v) :
    keyOf n v.hostId = some v.key := by
  unfold keyOf
  cases hfind : n.registrants.find? (·.hostId == v.hostId) with
  | none =>
    have := List.find?_eq_none.mp hfind v hv
    simp at this
  | some r =>
    have hmem := List.mem_of_find?_eq_some hfind
    have hhost := List.find?_some hfind
    rw [huniq r hmem (by simpa using hhost)]
    rfl

theorem find?_filter_ne (xs : List Registrant) (x h : BitVec 128) :
    (xs.filter (·.hostId != x)).find? (·.hostId == h) = if h = x then none else xs.find? (·.hostId == h) := by
  split
  · next heq => subst heq; simp [List.find?_eq_none]
  · next hne =>
    induction xs with
    | nil => rfl
    | cons r rs ih =>
      by_cases hr : r.hostId = h
      · have hrx : r.hostId ≠ x := by rw [hr]; exact hne
        simp [hr, hne]
      · by_cases hrx : r.hostId = x
        · simp [hrx, ih, Ne.symm hne]
        · simp [hr, hrx, ih]

/-- A host whose registration is taken away has no key, and every other keeps its own. -/
theorem keyOf_unregister (x h : BitVec 128) (n : Namespace) : keyOf (unregister x n) h = if h = x then none else keyOf n h := by
  unfold keyOf unregister
  dsimp only
  rw [find?_filter_ne]
  split <;> rfl

theorem keyOf_foldl_unregister (xs : List (BitVec 128)) (h : BitVec 128) (n : Namespace) :
    keyOf (xs.foldl (fun n x => unregister x n) n) h = if h ∈ xs then none else keyOf n h := by
  induction xs generalizing n with
  | nil => rfl
  | cons x xs ih =>
    rw [List.foldl_cons, ih, keyOf_unregister]
    by_cases hx : h = x <;> by_cases hxs : h ∈ xs <;> simp [hx, hxs]

/-- The holder's key preempts the reservation of one host, and takes its registration away (notes/assumptions/46.md). -/
theorem preemptPlan_of_holder {n : Namespace} {h : BitVec 128} {v : Registrant} (hres : n.resType ∉ [0, 5, 6]) (hv : v ∈ n.registrants)
    (hholder : n.holder = some v.hostId) (hne : v.hostId ≠ h) (huniq : ∀ r ∈ n.registrants, r.hostId = v.hostId → r = v) :
    ∃ lost, preemptPlan n h v.key = some (lost, true) ∧ v.hostId ∈ lost ∧ h ∉ lost := by
  simp only [List.mem_cons, List.not_mem_nil, or_false, not_or] at hres
  obtain ⟨h0, h5, h6⟩ := hres
  refine ⟨(n.registrants.filter fun r => r.key == v.key && r.hostId != h).map (·.hostId), ?_, ?_, ?_⟩
  · unfold preemptPlan allHold
    simp [h0, h5, h6, hholder, keyOf_of_mem hv huniq]
  · exact List.mem_map.mpr ⟨v, List.mem_filter.mpr ⟨hv, by simp [hne]⟩, rfl⟩
  · intro hmem
    obtain ⟨r, hr, hrh⟩ := List.mem_map.mp hmem
    have := (List.mem_filter.mp hr).2
    simp [hrh] at this

/-! ### Reservation commands -/

variable {c : HostCmd}

/-- What the fetch changes of its port: the queue's head, the turn, the commands before a notification, the time of the last admin command. -/
theorem port_takeEntry (p sq : Nat) (d : Device) : port p (takeEntry p sq d) =
    { port p d with
      sqs := (port p (takeEntry p sq d)).sqs, turnQueue := (port p (takeEntry p sq d)).turnQueue
      turnLeft := (port p (takeEntry p sq d)).turnLeft, before := (port p (takeEntry p sq d)).before
      lastAdminMs := (port p (takeEntry p sq d)).lastAdminMs } := by
  have hport : port p (takeEntry p sq d) = { takeTurn sq (port p d) with
      sqs := smUpd {} sq (fun q => { q with head := (q.head + 1) % q.size }) (port p d).sqs
      before := smUpd 0 sq (· - 1) (port p d).before
      lastAdminMs := if sq = 0 then nowMs d else (port p d).lastAdminMs } :=
    port_updPort_self p (fun t => { takeTurn sq t with
      sqs := smUpd {} sq (fun q => { q with head := (q.head + 1) % q.size }) t.sqs
      before := smUpd 0 sq (· - 1) t.before
      lastAdminMs := if sq = 0 then nowMs d else t.lastAdminMs }) d
  rw [hport]
  unfold takeTurn
  split <;> rfl

theorem hostId_takeEntry (p sq : Nat) (d : Device) : (port p (takeEntry p sq d)).hostId = (port p d).hostId := by
  rw [port_takeEntry]

/-- A reservation command of a host that is identified, on a namespace that is not being formatted, is decided (R363). -/
theorem reservationChecks_of_ready (hready : IoReady c d) (hvalid : nsidValid c d = true)
    (hformatting : (namespace_ (slotOf c) d).formatting = false) (hhost : (port c.port.val d).hostId ≠ 0)
    (ok : Namespace → BitVec 128 → Device → Device) :
    reservationChecks c ok (takeEntry c.port.val c.sqid d) =
      ok (namespace_ (slotOf c) d) (port c.port.val d).hostId (takeEntry c.port.val c.sqid d) := by
  have hns : namespace_ (slotOf c) (takeEntry c.port.val c.sqid d) = namespace_ (slotOf c) d := rfl
  have hnsid : nsidValid c (takeEntry c.port.val c.sqid d) = nsidValid c d := rfl
  unfold reservationChecks
  rw [hns, hnsid, hostId_takeEntry]
  dsimp only
  rw [if_neg (by simp [hvalid]), if_neg (by simp [hready.2.1]), if_neg (by simp [hformatting]), if_neg hhost]

/-- What a reservation command meets before it is decided. -/
structure ReservationReady (c : HostCmd) (d : Device) : Prop where
  ready : IoReady c d
  context : ContextFree c d
  valid : nsidValid c d = true
  formatted : (namespace_ (slotOf c) d).formatting = false
  host : (port c.port.val d).hostId ≠ 0

variable {i : Instr}

theorem ReservationReady.command (h : ReservationReady c d) (ok : Namespace → BitVec 128 → Device → Device) :
    ioCommand i c (reservationChecks c ok) d =
      ok (namespace_ (slotOf c) d) (port c.port.val d).hostId (takeEntry c.port.val c.sqid d) := by
  rw [ioCommand_of_ready h.ready _ (.inr h.context), reservationChecks_of_ready h.ready h.valid h.formatted h.host]

theorem IoReady.room (h : IoReady c d) : RoomFor c d := by
  obtain ⟨-, -, ⟨-, -, -, hroom⟩, -⟩ := h
  exact hroom

/-- The last step of a registration: its generation, and whether it persists (R377). -/
def generationRaised (cptpl : Nat) (n : Namespace) : Namespace :=
  { n with prgen := (n.prgen + 1) % 2 ^ 32, ptpl := if cptpl = 2 then false else if cptpl = 3 then true else n.ptpl }

/-- The record with the port's host registered besides the registrants of `n` (R377). -/
def withRegistrant (n : Namespace) (p new : Nat) (h : BitVec 128) (m : Namespace) : Namespace :=
  { m with registrants := n.registrants ++ [{ hostId := h, key := new, ctrl := p + 1 }] }

/-- A host that is not registered registers (R377). -/
theorem register_of_none {new : Nat} (h : ReservationReady c d) (hkey : keyOf (namespace_ (slotOf c) d) (port c.port.val d).hostId = none)
    (hroom : (namespace_ (slotOf c) d).registrants.length < 8) :
    ∃ e, NsChange (slotOf c) (takeEntry c.port.val c.sqid d) e ∧
      namespace_ (slotOf c) e = { namespace_ (slotOf c) d with
        prgen := ((namespace_ (slotOf c) d).prgen + 1) % 2 ^ 32
        registrants := (namespace_ (slotOf c) d).registrants ++ [{ hostId := (port c.port.val d).hostId, key := new, ctrl := c.port.val + 1 }] } ∧
      ioCommand i c (registerBody c 0 false 0 0 new) d = succeed c 0 0 [] e := by
  refine ⟨updNs (slotOf c) (generationRaised 0) (updNs (slotOf c)
      (withRegistrant (namespace_ (slotOf c) d) c.port.val new (port c.port.val d).hostId) (takeEntry c.port.val c.sqid d)),
    (updNs_changes _ _ _).trans (updNs_changes _ _ _), ?_, ?result⟩
  case result =>
    unfold registerBody
    rw [h.command, hkey]
    dsimp only
    rw [if_neg (by simp), if_neg (by omega)]
    rfl
  · rw [namespace_updNs_self, namespace_updNs_self]
    rfl

/-- A registered host gives its key up (R377). -/
theorem unregister_of_some {current : Nat} (h : ReservationReady c d)
    (hkey : keyOf (namespace_ (slotOf c) d) (port c.port.val d).hostId = some current) :
    ∃ e, NsChange (slotOf c) (takeEntry c.port.val c.sqid d) e ∧
      namespace_ (slotOf c) e = { unregister (port c.port.val d).hostId (namespace_ (slotOf c) d) with
        prgen := ((namespace_ (slotOf c) d).prgen + 1) % 2 ^ 32 } ∧
      RecordsKept e (ioCommand i c (registerBody c 1 false 0 current 0) d) := by
  refine ⟨updNs (slotOf c) (generationRaised 0) (updNs (slotOf c) (unregister (port c.port.val d).hostId) (takeEntry c.port.val c.sqid d)),
    (updNs_changes _ _ _).trans (updNs_changes _ _ _), ?_, ?result⟩
  case result =>
    unfold registerBody
    rw [h.command, hkey]
    dsimp only
    rw [if_neg (by simp)]
    change RecordsKept _ (if (!false && current != current) = true then failCmd c 0x0 0x83 _ else _)
    rw [if_neg (by simp)]
    split
    · exact (succeed_only c 0 0 [] _).records.trans (noticeHosts_records _ _ _ _)
    · exact (succeed_only c 0 0 [] _).records
  · rw [namespace_updNs_self, namespace_updNs_self]
    rfl

/-- A registrant's acquisition where there is no reservation, and where another host holds one (R378). -/
theorem acquire_of_some {rtype current : Nat} (h : ReservationReady c d)
    (hkey : keyOf (namespace_ (slotOf c) d) (port c.port.val d).hostId = some current) (h1 : 1 ≤ rtype) (h6 : rtype ≤ 6) :
    ioCommand i c (acquireBody c 0 false rtype current 0) d =
      if (namespace_ (slotOf c) d).resType = 0 then
        succeed c 0 0 [] (updNs (slotOf c) (takeReservation rtype (port c.port.val d).hostId) (takeEntry c.port.val c.sqid d))
      else if holdsReservation (namespace_ (slotOf c) d) (port c.port.val d).hostId && (namespace_ (slotOf c) d).resType = rtype then
        succeed c 0 0 [] (takeEntry c.port.val c.sqid d)
      else failCmd c 0x0 0x83 (takeEntry c.port.val c.sqid d) := by
  unfold acquireBody
  rw [h.command, hkey]
  dsimp only
  rw [if_neg (by simp; omega), if_neg (by simp), if_pos rfl]

/-- What a preemption leaves of the namespace's record (R378). -/
def preempted (rtype : Nat) (h : BitVec 128) (lost : List (BitVec 128)) (n : Namespace) : Namespace :=
  takeReservation rtype h { lost.foldl (fun n x => unregister x n) n with prgen := (n.prgen + 1) % 2 ^ 32 }

theorem keyOf_preempted (rtype : Nat) (h x : BitVec 128) (lost : List (BitVec 128)) (n : Namespace) :
    keyOf (preempted rtype h lost n) x = if x ∈ lost then none else keyOf n x := keyOf_foldl_unregister lost x n

/-- A registrant preempts the holder by its key (R378). -/
theorem preempt_of_holder {rtype current : Nat} {v : Registrant} (h : ReservationReady c d)
    (hkey : keyOf (namespace_ (slotOf c) d) (port c.port.val d).hostId = some current) (h1 : 1 ≤ rtype) (h6 : rtype ≤ 6)
    (hres : (namespace_ (slotOf c) d).resType ∉ [0, 5, 6]) (hvictim : v.key ≠ 0) (hv : v ∈ (namespace_ (slotOf c) d).registrants)
    (hholder : (namespace_ (slotOf c) d).holder = some v.hostId) (hne : v.hostId ≠ (port c.port.val d).hostId)
    (huniq : ∀ r ∈ (namespace_ (slotOf c) d).registrants, r.hostId = v.hostId → r = v) :
    ∃ (e : Device) (lost : List (BitVec 128)), v.hostId ∈ lost ∧ (port c.port.val d).hostId ∉ lost ∧ NsChange (slotOf c) (takeEntry c.port.val c.sqid d) e ∧
      namespace_ (slotOf c) e = preempted rtype (port c.port.val d).hostId lost (namespace_ (slotOf c) d) ∧
      RecordsKept e (ioCommand i c (acquireBody c 1 false rtype current v.key) d) := by
  obtain ⟨lost, hplan, hin, hout⟩ := preemptPlan_of_holder hres hv hholder hne huniq
  refine ⟨updNs (slotOf c) (preempted rtype (port c.port.val d).hostId lost) (takeEntry c.port.val c.sqid d), lost, hin, hout,
    updNs_changes _ _ _, namespace_updNs_self _ _ _, ?result⟩
  case result =>
    unfold acquireBody
    rw [h.command, hkey]
    dsimp only
    rw [if_neg (by simp; omega), if_neg (by simp), if_neg (by decide), if_neg (by simp [hvictim]), hplan]
    dsimp only
    refine RecordsKept.trans (noticeHosts_records (slotOf c) 1 lost _) (RecordsKept.trans ?_ (succeed_only c 0 0 [] _).records)
    split
    · exact noticeHosts_records _ _ _ _
    · exact .refl _

/-- A holder's release of its reservation (R378). -/
theorem release_of_holder {current : Nat} (h : ReservationReady c d)
    (hkey : keyOf (namespace_ (slotOf c) d) (port c.port.val d).hostId = some current)
    (hholds : holdsReservation (namespace_ (slotOf c) d) (port c.port.val d).hostId = true) :
    ioCommand i c (releaseBody c 0 false (namespace_ (slotOf c) d).resType current) d =
      succeed c 0 0 [] (if 3 ≤ (namespace_ (slotOf c) d).resType then
        noticeHosts (slotOf c) 2 (otherHosts (namespace_ (slotOf c) d) (port c.port.val d).hostId)
          (updNs (slotOf c) (fun n => { n with resType := 0, holder := none }) (takeEntry c.port.val c.sqid d))
        else updNs (slotOf c) (fun n => { n with resType := 0, holder := none }) (takeEntry c.port.val c.sqid d)) := by
  unfold releaseBody
  rw [h.command, hkey]
  dsimp only
  rw [if_neg (by decide), if_neg (by simp), if_neg (by decide), if_neg (by simp [hholds]), if_neg (by simp)]

/-- The first bytes of a Reservation Status structure (R377). -/
theorem reservationStatus_head (n : Namespace) : ∃ tail, reservationStatus n =
    leBytes 4 n.prgen ++ leBytes 1 n.resType ++ leBytes 2 n.registrants.length ++ tail ∧ 57 ≤ tail.length := by
  unfold reservationStatus layout
  simp only [layoutFrom, leBytes]
  simp only [zeroBytes]
  simp [List.replicate]

/-- What a report of a page begins with (R377). -/
theorem reportData_head {bytes : Nat} (n : Namespace) (hbytes : 64 ≤ bytes) :
    let data := (reservationStatus n ++ zeroBytes (bytes - (reservationStatus n).length)).take bytes
    data.length = bytes ∧ data.take 5 = leBytes 4 n.prgen ++ leBytes 1 n.resType ∧ (data.drop 5).take 2 = leBytes 2 n.registrants.length := by
  obtain ⟨tail, hpage, hlong⟩ := reservationStatus_head n
  have hhead : ∀ k, k ≤ 7 → ((reservationStatus n ++ zeroBytes (bytes - (reservationStatus n).length)).take bytes).take k =
      (leBytes 4 n.prgen ++ leBytes 1 n.resType ++ leBytes 2 n.registrants.length).take k := fun k hk => by
    rw [List.take_take, Nat.min_eq_left (by omega), hpage, List.append_assoc, List.take_append_of_le_length (by simp [leBytes]; omega)]
  dsimp only
  refine ⟨by simp [zeroBytes]; omega, ?_, ?_⟩
  · rw [hhead 5 (by decide)]
    simp [leBytes]
  · rw [List.take_drop, hhead (5 + 2) (by decide)]
    simp [leBytes]

/-- A write that the reservation prevents (R377, R378). -/
theorem write_of_conflict {slba nlb : Nat} {fua : Bool} (hready : IoReady c d) (hvalid : nsidValid c d = true)
    (hrange : slba + nlb ≤ (namespace_ (slotOf c) d).nsze) (hnlb : nlb ≤ 512) (hbytes : nlb * (4096 + 16) ≤ 2097152)
    (hformatting : (namespace_ (slotOf c) d).formatting = false) (hres : (namespace_ (slotOf c) d).resType ∈ [1, 2])
    (hholder : isHolder c.port.val (slotOf c) d = false) :
    ioCommand (.write c slba nlb fua) c (writeBody (.write c slba nlb fua) c slba nlb fua) d =
      failCmd c 0x0 0x83 (takeEntry c.port.val c.sqid d) := by
  rw [ioCommand_of_ready hready _ (.inl rfl)]
  have hns : namespace_ (slotOf c) (takeEntry c.port.val c.sqid d) = namespace_ (slotOf c) d := rfl
  have hnsid : nsidValid c (takeEntry c.port.val c.sqid d) = nsidValid c d := rfl
  have hheld : isHolder c.port.val (slotOf c) (takeEntry c.port.val c.sqid d) = false := by
    unfold isHolder isRegistrant at *
    rw [hns, hostId_takeEntry]
    exact hholder
  have hmeta : metaBytes (namespace_ (slotOf c) d).flbas ≤ 16 := by
    unfold metaBytes
    split <;> omega
  have hlong : nlb * (4096 + if (namespace_ (slotOf c) d).flbas / 16 % 2 = 1 then metaBytes (namespace_ (slotOf c) d).flbas else 0) ≤ 2097152 :=
    le_trans (Nat.mul_le_mul_left nlb (Nat.add_le_add_left (by split <;> omega) 4096)) hbytes
  have hconflict : reservationConflict c.port.val (slotOf c) .writes (takeEntry c.port.val c.sqid d) = true := by
    unfold reservationConflict
    rw [hns, hheld]
    simp only [List.mem_cons, List.not_mem_nil, or_false] at hres
    rcases hres with h | h <;> simp [h]
  unfold writeBody blockChecks
  rw [hns, hnsid]
  dsimp only
  rw [if_neg (by simp [hvalid]), if_neg (by simp [hready.2.1]), if_neg (by simp; omega), if_neg (by omega), if_neg (by simp [hformatting]),
    if_pos hconflict]

/-- A command that changes one record and succeeds: what it leaves. -/
theorem succeed_framed {e : Device} (hroom : RoomFor c d) (h : NsChange slot (takeEntry c.port.val c.sqid d) e) :
    Succeeds c 0 d (succeed c 0 0 [] e) ∧ (∀ k, namespace_ k (succeed c 0 0 [] e) = namespace_ k e) ∧
    (∀ k, k ≠ slot → namespace_ k (succeed c 0 0 [] e) = namespace_ k d) ∧ OnlyPorts [c.port.val] d (succeed c 0 0 [] e) ∧
    FramesOnly d (succeed c 0 0 [] e) := by
  have htake := takeEntry_only c.port.val c.sqid d
  have hend := succeed_only c 0 0 [] e
  obtain ⟨hothers, hframes, -⟩ := h.framed htake.records hend.records
  refine ⟨succeeds_of_succeed 0 0 [] hroom ((takeEntry_grows c.port.isLt _ d).trans (h.calm.grows c.port.isLt)), hend.records.ns, hothers,
    fun p hp => ?_, hframes⟩
  exact (hend.others p hp).trans ((port_congr h.calm.ports p).trans (htake.others p hp))

/-- A command that fails leaves the records and the other ports. -/
theorem failWith_framed (sct sc : Nat) (hroom : RoomFor c d) :
    Completes c (fun x => x.sct = sct ∧ x.sc = sc) d (failCmd c sct sc (takeEntry c.port.val c.sqid d)) ∧
    PortOnly c.port.val d (failCmd c sct sc (takeEntry c.port.val c.sqid d)) :=
  ⟨completes_of_failWith _ _ _ _ _ _ _ hroom (takeEntry_grows c.port.isLt _ d) ⟨rfl, rfl⟩,
    (takeEntry_only _ _ d).trans (failWith_only _ _ _ _ _ _ _ _ _)⟩

theorem RecordsKept.frames (h : RecordsKept d e) : FramesOnly d e := by
  unfold FramesOnly
  rw [h.media]

end Sys2Proof.Machine

section
open Sys2Proof Sys2Proof.Machine

/-- Settles O60: each command of a host that is identified changes the record of its namespace alone, by the branch of Tables 12.9's commands that
its key and the reservation lead to. -/
theorem reservationsAreKept : Obligations.ReservationsAreKept := by
  unfold Obligations.ReservationsAreKept
  refine ⟨?register, ?unregister, ?acquire, ?preempt, ?release, ?report, ?conflict⟩
  case register =>
    rintro s cmd new n h hready hcontext hvalid rfl rfl hformatting hhost hkey hroom
    refine .of_runDev _ rfl ?_
    obtain ⟨e, hchange, hrecord, hresult⟩ := register_of_none (new := new) ⟨hready, hcontext, hvalid, hformatting, hhost⟩ hkey hroom
    rw [hresult]
    obtain ⟨hsucceeds, hrecords, hothers, hports, hframes⟩ := succeed_framed hready.room hchange
    rw [hrecords, hrecord]
    exact ⟨hsucceeds, rfl, rfl, hothers, hports, hframes⟩
  case unregister =>
    rintro s cmd current n h hready hcontext hvalid rfl rfl hformatting hhost hkey
    refine .of_runDev _ rfl ?_
    obtain ⟨e, hchange, hrecord, hkept⟩ := unregister_of_some ⟨hready, hcontext, hvalid, hformatting, hhost⟩ hkey
    obtain ⟨hothers, hframes, hsec⟩ := hchange.framed (takeEntry_only cmd.port.val cmd.sqid s.dev).records hkept
    rw [hkept.ns, hrecord]
    refine ⟨?_, fun r hr hne => ?_, fun hholder htype => ?_, hothers, hframes, hsec⟩
    · exact (keyOf_unregister _ _ _).trans (if_pos rfl)
    · exact List.mem_filter.mpr ⟨hr, by simpa using hne⟩
    · simp only [List.mem_cons, List.not_mem_nil, or_false, not_or] at htype
      simp [unregister, allHold, htype, hholder]
  case acquire =>
    rintro s cmd rtype current n h hready hcontext hvalid rfl rfl hformatting hhost hkey h1 h6
    refine .of_runDev _ rfl ?_
    rw [acquire_of_some ⟨hready, hcontext, hvalid, hformatting, hhost⟩ hkey h1 h6]
    by_cases hres : (namespace_ (slotOf cmd) s.dev).resType = 0
    · rw [if_pos hres]
      obtain ⟨hsucceeds, hrecords, hothers, hports, hframes⟩ := succeed_framed hready.room
        (updNs_changes (slotOf cmd) (takeReservation rtype (port cmd.port.val s.dev).hostId) (takeEntry cmd.port.val cmd.sqid s.dev))
      refine ⟨fun _ => ⟨hsucceeds, ?_⟩, fun h => absurd hres h, hothers, hports, hframes⟩
      rw [hrecords, namespace_updNs_self]
      rfl
    · rw [if_neg hres]
      split
      · next hholds =>
        rw [Bool.and_eq_true] at hholds
        obtain ⟨-, hrecords, hothers, hports, hframes⟩ := succeed_framed hready.room
          (NsChange.refl (slotOf cmd) (takeEntry cmd.port.val cmd.sqid s.dev))
        exact ⟨fun h => absurd h hres, fun _ h => absurd hholds.1 (by simp [h]), hothers, hports, hframes⟩
      · obtain ⟨hcompletes, honly⟩ := failWith_framed 0x0 0x83 hready.room
        exact ⟨fun h => absurd h hres, fun _ _ => ⟨hcompletes, honly.records.ns _⟩, fun k _ => honly.records.ns k, honly.others,
          honly.records.frames⟩
  case preempt =>
    rintro s cmd rtype current victim v n h hready hcontext hvalid rfl rfl hformatting hhost hkey h1 h6 hres hvictim hv hholder rfl hne huniq
    refine .of_runDev _ rfl ?_
    obtain ⟨e, lost, hin, hout, hchange, hrecord, hkept⟩ :=
      preempt_of_holder ⟨hready, hcontext, hvalid, hformatting, hhost⟩ hkey h1 h6 hres hvictim hv hholder hne huniq
    obtain ⟨hothers, hframes, -⟩ := hchange.framed (takeEntry_only cmd.port.val cmd.sqid s.dev).records hkept
    rw [hkept.ns, hrecord]
    exact ⟨rfl, rfl, (keyOf_preempted _ _ _ _ _).trans (if_pos hin), (keyOf_preempted _ _ _ _ _).trans ((if_neg hout).trans hkey), hothers,
      hframes⟩
  case release =>
    rintro s cmd rtype current n h hready hcontext hvalid rfl rfl hformatting hhost hkey hholds rfl
    refine .of_runDev _ rfl ?_
    rw [release_of_holder ⟨hready, hcontext, hvalid, hformatting, hhost⟩ hkey hholds]
    have hchange := updNs_changes (slotOf cmd) (fun n => { n with resType := 0, holder := none }) (takeEntry cmd.port.val cmd.sqid s.dev)
    have hrecord := namespace_updNs_self (slotOf cmd) (fun n => { n with resType := 0, holder := none }) (takeEntry cmd.port.val cmd.sqid s.dev)
    split
    · next h3 =>
      have hkept := (noticeHosts_records (slotOf cmd) 2 (otherHosts (namespace_ (slotOf cmd) s.dev) (port cmd.port.val s.dev).hostId)
        (updNs (slotOf cmd) (fun n => { n with resType := 0, holder := none }) (takeEntry cmd.port.val cmd.sqid s.dev))).trans
        (succeed_only cmd 0 0 [] _).records
      obtain ⟨hothers, hframes, -⟩ := hchange.framed (takeEntry_only cmd.port.val cmd.sqid s.dev).records hkept
      exact ⟨(hkept.ns _).trans hrecord, hothers, fun hlt => absurd hlt (by omega), hframes⟩
    · obtain ⟨hsucceeds, hrecords, hothers, hports, hframes⟩ := succeed_framed hready.room hchange
      exact ⟨(hrecords _).trans hrecord, hothers, fun _ => ⟨hsucceeds, hports⟩, hframes⟩
  case report =>
    rintro s cmd bytes n hready hcontext hvalid rfl hhost hformatting hbytes
    refine .of_runDev _ rfl ?_
    unfold reportBody
    rw [ReservationReady.command ⟨hready, hcontext, hvalid, hformatting, hhost⟩]
    dsimp only
    rw [if_neg (by decide)]
    exact ⟨completes_of_succeed 0 0 _ hready.room (takeEntry_grows cmd.port.isLt _ _) ⟨rfl, rfl, reportData_head _ hbytes⟩,
      postCompletion_aside cmd.port.isLt _ _, ((takeEntry_only _ _ s.dev).trans (succeed_only cmd 0 0 _ _)).others⟩
  case conflict =>
    intro s cmd slba nlb fua hready hvalid hrange hnlb hbytes hformatting hres hholder
    refine .of_runDev _ rfl ?_
    rw [write_of_conflict hready hvalid hrange hnlb hbytes hformatting hres hholder]
    obtain ⟨hcompletes, honly⟩ := failWith_framed 0x0 0x83 hready.room
    exact ⟨hcompletes, honly.records.media, honly.others⟩

end
end

section
/-! PROOFS. Firmware images: pieces staged, and commits that program a slot of the code store (spec/20 R587 to R590): O57. -/
-- The proofs are elaborated one after another: see the first file of these proofs.
set_option Elab.async false

namespace Sys2Proof.Machine

/-! ### Commands that end -/

variable {c : HostCmd} {d e : Device}

theorem getObj_failWith {k : Nat} (hk : k ∉ asideObjs) (hfailed : k ≠ Obj.commandsFailed c.port.val) (sct sc : Nat) (dnr : Bool)
    (crd lba pel dw0 : Nat) (d : Device) : getObj k (failWith c sct sc dnr crd lba pel dw0 d) = getObj k d := by
  unfold failWith
  rw [(postCompletion_aside c.port.isLt _ _).objs k hk, getObj_incObj_ne hfailed]
  split <;> rfl

/-- The image that a port has staged. -/
def stagedOf (p : Nat) (d : Device) : List Piece × Option (Nat × Component) := ((port p d).staged, (port p d).stagedComp)

theorem stagedOf_takeEntry (p sq : Nat) (d : Device) : stagedOf p (takeEntry p sq d) = stagedOf p d := by
  unfold stagedOf
  rw [port_takeEntry]

theorem Aside.stagedOf (h : Aside d e) (p : Nat) : stagedOf p e = stagedOf p d := by
  unfold Machine.stagedOf
  rw [h.port p]

theorem stagedOf_succeed (dw0 dw1 : Nat) (data : List Byte) (d : Device) :
    stagedOf c.port.val (succeed c dw0 dw1 data d) = stagedOf c.port.val d := (postCompletion_aside c.port.isLt _ d).stagedOf _

theorem stagedOf_logError (p : Nat) (x : ErrEntry) (d : Device) : stagedOf p (logError p x d) = stagedOf p d := by
  unfold stagedOf logError
  rw [port_updPort_self]

theorem stagedOf_failWith (sct sc : Nat) (dnr : Bool) (crd lba pel dw0 : Nat) (d : Device) :
    stagedOf c.port.val (failWith c sct sc dnr crd lba pel dw0 d) = stagedOf c.port.val d := by
  unfold failWith
  rw [(postCompletion_aside c.port.isLt _ _).stagedOf]
  split
  · rfl
  · exact stagedOf_logError _ _ d

theorem PortOnly.cs {p : Nat} (h : PortOnly p d e) : e.cs = d.cs := by rw [h.parts]
theorem PortOnly.ctl {p : Nat} (h : PortOnly p d e) : e.ctl = d.ctl := by rw [h.parts]
theorem PortOnly.media {p : Nat} (h : PortOnly p d e) : e.media = d.media := by rw [h.parts]
theorem PortOnly.log {p : Nat} (h : PortOnly p d e) : e.log = d.log := by rw [h.parts]

/-- A commit's end discards the image that its port has staged (R587). -/
def stagedGone (p : Nat) (d : Device) : Device := updPort p (fun t => { t with staged := [], stagedComp := none }) d

theorem endCommit_failed {j : CommitJob} (sct sc : Nat) (d : Device) (hdropped : j.dropped = false) :
    endCommit j (some (sct, sc)) d = failCmd j.cmd sct sc (stagedGone j.cmd.port.val d) := by
  unfold endCommit
  exact if_neg (by simp [hdropped])

theorem endCommit_done {j : CommitJob} (d : Device) (hdropped : j.dropped = false) :
    endCommit j none d = succeed j.cmd 0 0 [] (stagedGone j.cmd.port.val d) := by
  unfold endCommit
  exact if_neg (by simp [hdropped])

theorem stagedGone_only (p : Nat) (d : Device) : PortOnly p d (stagedGone p d) := updPort_only p _ d

theorem stagedOf_stagedGone (p : Nat) (d : Device) : stagedOf p (stagedGone p d) = ([], none) := by
  unfold stagedOf stagedGone
  rw [port_updPort_self]

theorem stagedGone_grows {r q : Nat} (p : Nat) (d : Device) : QueueGrows r q d (stagedGone p d) :=
  updPort_grows p _ d fun _ => ⟨rfl, rfl, rfl, fun _ => rfl⟩

/-! ### Writes of the code store -/

/-- Only the erase counts and the positions of the logs have changed. -/
def WearOnly (x y : CodeStore) : Prop := y = { x with logs := y.logs, eraseCounts := y.eraseCounts }

theorem WearOnly.trans {x y z : CodeStore} (h : WearOnly x y) (g : WearOnly y z) : WearOnly x z := by
  unfold WearOnly at *
  rw [h] at g
  exact g

theorem eraseBlocks_wear (f : Nat → Nat) (xs : List Nat) (x : CodeStore) : WearOnly x (xs.foldl (fun c i => eraseBlock (f i) c) x) := by
  induction xs generalizing x with
  | nil => rfl
  | cons i xs ih => exact WearOnly.trans (eraseBlock_counts (f i) x) (ih _)

theorem bootLogs_wear (x : CodeStore) : WearOnly x (logAppend 22 (logAppend 20 x)) :=
  WearOnly.trans (logAppend_counts 20 x) (logAppend_counts 22 _)

/-- From `d` to `e` the firmware slots, the wear and the boot record's generation have changed. -/
def SlotsWritten (d e : Device) : Prop :=
  e = { d with cs := { d.cs with slot1 := e.cs.slot1, slot2 := e.cs.slot2, logs := e.cs.logs, eraseCounts := e.cs.eraseCounts
                                 bootGen := e.cs.bootGen, bootValid := e.cs.bootValid } }

theorem SlotsWritten.trans {a b c : Device} (h : SlotsWritten a b) (g : SlotsWritten b c) : SlotsWritten a c := by
  unfold SlotsWritten at *
  rw [h] at g
  exact g

theorem updSlot_written (s : Nat) (f : FwSlot → FwSlot) (d : Device) : SlotsWritten d (updSlot s f d) := by
  unfold SlotsWritten updSlot updCs
  split <;> rfl

/-- A slot of the code store. -/
theorem fwSlot_updSlot_self {s : Nat} (hs : s ∈ [1, 2]) (f : FwSlot → FwSlot) (d : Device) : fwSlot s (updSlot s f d) = f (fwSlot s d) := by
  simp only [List.mem_cons, List.not_mem_nil, or_false] at hs
  rcases hs with rfl | rfl <;> rfl

theorem fwSlot_updSlot_ne {s k : Nat} (hs : s ∈ [1, 2]) (hk : k ≠ s) (f : FwSlot → FwSlot) (d : Device) :
    fwSlot k (updSlot s f d) = fwSlot k d := by
  simp only [List.mem_cons, List.not_mem_nil, or_false] at hs
  unfold fwSlot updSlot updCs
  rcases hs with rfl | rfl
  · rw [if_neg hk, if_neg hk]
    rfl
  · rw [if_neg hk, if_neg hk]
    rfl

theorem fwSlot_congr (h1 : e.cs.slot1 = d.cs.slot1) (h2 : e.cs.slot2 = d.cs.slot2) (k : Nat) : fwSlot k e = fwSlot k d := by
  unfold fwSlot
  rw [h1, h2]

theorem WearOnly.fwSlot {x : CodeStore} (h : WearOnly d.cs x) (k : Nat) : fwSlot k { d with cs := x } = Machine.fwSlot k d := by
  unfold WearOnly at h
  rw [h]
  rfl

theorem WearOnly.written {x : CodeStore} (h : WearOnly d.cs x) : SlotsWritten d { d with cs := x } := by
  unfold WearOnly at h
  rw [h]
  rfl

theorem eraseImage_wear (s code length : Nat) (d : Device) : WearOnly d.cs (eraseImage s code length d).cs := eraseBlocks_wear _ _ d.cs

theorem fwSlot_eraseImage (s code length k : Nat) (d : Device) : fwSlot k (eraseImage s code length d) = fwSlot k d :=
  (eraseImage_wear s code length d).fwSlot k

theorem eraseImage_written (s code length : Nat) (d : Device) : SlotsWritten d (eraseImage s code length d) :=
  (eraseImage_wear s code length d).written

/-- What a write of the boot record leaves of the code store but its own fields. -/
theorem bootWrite_cs (f : CodeStore → CodeStore) (d : Device) :
    WearOnly { f d.cs with bootGen := d.cs.bootGen + 1, bootValid := true } (bootWrite f d).cs := bootLogs_wear _

theorem bootWrite_id_written (d : Device) : SlotsWritten d (bootWrite id d) := by
  have h := bootWrite_cs id d
  unfold WearOnly at h
  change ({ d with cs := (bootWrite id d).cs } : Device) = { d with cs := _ }
  rw [h]
  rfl

theorem fwSlot_bootWrite_id (k : Nat) (d : Device) : fwSlot k (bootWrite id d) = fwSlot k d := by
  have h := bootWrite_cs id d
  unfold WearOnly at h
  refine fwSlot_congr ?_ ?_ k <;> (rw [h]; rfl)

theorem SlotsWritten.ports (h : SlotsWritten d e) : e.ports = d.ports := by rw [h]

theorem SlotsWritten.calm (h : SlotsWritten d e) : PortsCalm d e := by
  rw [h]
  exact .of_parts rfl rfl

/-- From `d` to `e` the slot `n` has been written, its image gone and its wake to be completed anew. -/
structure SlotCleared (n : Nat) (d e : Device) : Prop where
  written : SlotsWritten d e
  holds : (fwSlot n e).holds = false
  wake : (fwSlot n e).completedWake = false
  others : ∀ k, k ≠ n → fwSlot k e = fwSlot k d

variable {n : Nat}

/-- A later write of the slot that leaves the two flags. -/
theorem SlotCleared.keep {f : Device} (h : SlotCleared n d e) (hw : SlotsWritten e f) (hholds : (fwSlot n f).holds = (fwSlot n e).holds)
    (hwake : (fwSlot n f).completedWake = (fwSlot n e).completedWake) (hothers : ∀ k, k ≠ n → fwSlot k f = fwSlot k e) : SlotCleared n d f :=
  ⟨h.written.trans hw, hholds.trans h.holds, hwake.trans h.wake, fun k hk => (hothers k hk).trans (h.others k hk)⟩

theorem SlotCleared.updSlot (h : SlotCleared n d e) (hn : n ∈ [1, 2]) {f : FwSlot → FwSlot} (hholds : ∀ x, (f x).holds = x.holds)
    (hwake : ∀ x, (f x).completedWake = x.completedWake) : SlotCleared n d (updSlot n f e) :=
  h.keep (updSlot_written n f e) (by rw [fwSlot_updSlot_self hn, hholds]) (by rw [fwSlot_updSlot_self hn, hwake])
    fun k hk => fwSlot_updSlot_ne hn hk f e

theorem SlotCleared.eraseImage (h : SlotCleared n d e) (s code length : Nat) : SlotCleared n d (eraseImage s code length e) :=
  h.keep (eraseImage_written _ _ _ e) (by rw [fwSlot_eraseImage]) (by rw [fwSlot_eraseImage]) fun k _ => fwSlot_eraseImage _ _ _ k e

theorem SlotCleared.eraseImages (h : SlotCleared n d e) (s : Nat) (length : Nat → Nat) (ks : List Nat) :
    SlotCleared n d (ks.foldl (fun d k => Machine.eraseImage s k (length k) d) e) := by
  induction ks generalizing e with
  | nil => exact h
  | cons k ks ih => exact ih (h.eraseImage s k (length k))

theorem SlotCleared.cloneRunning (h : SlotCleared n d e) (hn : n ∈ [1, 2]) (code : Nat) : SlotCleared n d (cloneRunning n code e) := by
  unfold Machine.cloneRunning
  split
  · exact h
  · exact (h.eraseImages n _ _).updSlot hn (fun _ => rfl) fun _ => rfl

/-- The slot's flags fall first (R589 step 1). -/
def slotDropped (n : Nat) (d : Device) : Device := bootWrite id (updSlot n (fun f => { f with holds := false, completedWake := false }) d)

theorem slotDropped_cleared (hn : n ∈ [1, 2]) (d : Device) : SlotCleared n d (slotDropped n d) := by
  unfold slotDropped
  refine ⟨(updSlot_written n _ d).trans (bootWrite_id_written _), ?_, ?_, fun k hk => ?_⟩
  · rw [fwSlot_bootWrite_id, fwSlot_updSlot_self hn]
  · rw [fwSlot_bootWrite_id, fwSlot_updSlot_self hn]
  · rw [fwSlot_bootWrite_id, fwSlot_updSlot_ne hn hk]

/-- The slot that a commit names (R589). -/
def namedSlot (slot : Nat) (d : Device) : Nat := if slot = 0 then otherSlot d else slot

theorem namedSlot_mem {slot : Nat} (h : slot ≤ 2) (d : Device) : namedSlot slot d ∈ [1, 2] := by
  unfold namedSlot otherSlot
  have : slot = 0 ∨ slot = 1 ∨ slot = 2 := by omega
  rcases this with rfl | rfl | rfl
  · rw [if_pos rfl]
    split <;> simp
  · simp
  · simp

/-- The slot that a commit programs, cleared, the running components cloned into it where that is due (R589 steps 1 and 2). -/
def slotPrepared (n code length : Nat) (d : Device) : Device :=
  eraseImage n code length (updSlot n (fun f => { f with comps := smErase code f.comps }) (cloneRunning n code (slotDropped n d)))

theorem slotPrepared_cleared (hn : n ∈ [1, 2]) (code length : Nat) (d : Device) : SlotCleared n d (slotPrepared n code length d) :=
  (((slotDropped_cleared hn d).cloneRunning hn code).updSlot hn (f := fun f => { f with comps := smErase code f.comps }) (fun _ => rfl)
    fun _ => rfl).eraseImage n code length

theorem comps_slotPrepared (hn : n ∈ [1, 2]) (code length : Nat) (d : Device) :
    smGet {} (fwSlot n (slotPrepared n code length d)).comps code = {} := by
  unfold slotPrepared
  rw [fwSlot_eraseImage, fwSlot_updSlot_self hn]
  exact smGet_smErase_self _ _ _

/-- A commit that programs. -/
def programming (j : CommitJob) (code : Nat) (x : Component) (n : Nat) : CommitJob :=
  { j with started := true, code := code, comp := x, target := n }

/-- A commit of an image that is staged, into a slot that neither runs nor is worn, programs (Table 20.8). -/
theorem startCommit_of_staged {j : CommitJob} {code : Nat} {x : Component} (haction : j.action ≤ 1) (hslot : j.slot ≤ 2)
    (hstaged : stagedImage j.cmd.port.val d = some (code, x)) (hcode : code ≠ 5) (hrunning : namedSlot j.slot d ≠ d.cs.running)
    (hworn : slotWorn (namedSlot j.slot d) d = false) :
    startCommit j d = (updCs (fun c => { c with jobs := programming j code x (namedSlot j.slot d) :: c.jobs.drop 1 })
      (slotPrepared (namedSlot j.slot d) code x.length d), none) := by
  unfold namedSlot at hrunning hworn
  unfold startCommit
  dsimp only
  rw [if_neg (by omega), if_neg (by omega), if_neg (by omega), hstaged]
  dsimp only
  rw [if_neg hcode, if_neg hrunning, if_neg (by simp [hworn])]
  rfl

/-- A commit that names the next slot ends at once (Table 20.8). -/
theorem startCommit_of_select {j : CommitJob} (haction : j.action = 2) (hslot : j.slot ≤ 2)
    (hholds : namedSlot j.slot d = d.cs.running ∨ (fwSlot (namedSlot j.slot d) d).holds = true) :
    startCommit j d = (bootWrite (fun c => { c with nextSlot := if namedSlot j.slot d = c.running then 0 else namedSlot j.slot d, attempts := 0 }) d,
      some none) := by
  unfold namedSlot at *
  unfold startCommit
  dsimp only
  rw [if_neg (by omega), if_neg (by omega), if_pos haction, if_neg (by rcases hholds with h | h <;> simp [h])]

/-- An immediate activation is prohibited (R366). -/
theorem startCommit_of_immediate {j : CommitJob} (haction : j.action = 3) : startCommit j d = (d, some (some (0x1, 0x0B))) := by
  unfold startCommit
  dsimp only
  rw [if_pos haction]

/-- A commit that is alone starts at once. -/
theorem serveAllCommits_of_starts {j : CommitJob} (hjobs : d.cs.jobs = [j]) (hstarted : j.started = false)
    (hstart : startCommit j d = (e, none)) : serveAllCommits d = e := by
  unfold serveAllCommits
  rw [hjobs]
  change serveCommits (0 + 1) d = _
  unfold serveCommits
  simp only [hjobs, hstarted, hstart]
  rfl

/-- A commit that is alone and ends at once. -/
theorem serveAllCommits_of_ends {j : CommitJob} {status : Option (Nat × Nat)} (hjobs : d.cs.jobs = [j]) (hstarted : j.started = false)
    (hstart : startCommit j d = (e, some status)) :
    serveAllCommits d = endCommit j status (updCs (fun c => { c with jobs := [] }) e) := by
  unfold serveAllCommits
  rw [hjobs]
  change serveCommits (0 + 1) d = _
  unfold serveCommits
  simp only [hjobs, hstarted, hstart]
  rfl

theorem serveAllCommits_of_none (hjobs : d.cs.jobs = []) : serveAllCommits d = d := by
  unfold serveAllCommits
  rw [hjobs]
  rfl

/-! ### The end of a commit's programming -/

/-- The slot with the component that a commit has programmed (R589 step 4). -/
def slotFilled (j : CommitJob) (d : Device) : Device :=
  updSlot j.target (fun f => { f with comps := smSet {} j.code { j.comp with present := true } f.comps, holds := true, settingsIncompatible := false }) d

/-- The boot record written at a commit's end: the slot is the next one where the commit activates it (R589 step 5). -/
def slotBooted (j : CommitJob) (d : Device) : Device :=
  if j.action = 1 then bootWrite (fun c => { c with nextSlot := j.target, attempts := 0 }) d else bootWrite id d

/-- From `d` to `e` only the code store has changed, and in it neither what runs nor the commits. -/
def CodeOnly (d e : Device) : Prop := e = { d with cs := e.cs } ∧ e.cs.running = d.cs.running ∧ e.cs.jobs = d.cs.jobs

theorem SlotsWritten.code (h : SlotsWritten d e) : CodeOnly d e := by
  unfold SlotsWritten at h
  rw [h]
  exact ⟨rfl, rfl, rfl⟩

theorem CodeOnly.trans {a b c : Device} (h : CodeOnly a b) (g : CodeOnly b c) : CodeOnly a c := by
  obtain ⟨hparts, hrunning, hjobs⟩ := h
  refine ⟨?_, g.2.1.trans hrunning, g.2.2.trans hjobs⟩
  have hg := g.1
  rw [hparts] at hg
  exact hg

theorem CodeOnly.calm (h : CodeOnly d e) : PortsCalm d e := by
  rw [h.1]
  exact .of_parts rfl rfl

theorem bootWrite_fields (f : CodeStore → CodeStore) (d : Device) :
    (bootWrite f d).cs.running = (f d.cs).running ∧ (bootWrite f d).cs.jobs = (f d.cs).jobs ∧ (bootWrite f d).cs.nextSlot = (f d.cs).nextSlot ∧
    (bootWrite f d).cs.attempts = (f d.cs).attempts ∧ (bootWrite f d).cs.slot1 = (f d.cs).slot1 ∧ (bootWrite f d).cs.slot2 = (f d.cs).slot2 := by
  have h := bootWrite_cs f d
  unfold WearOnly at h
  rw [h]
  exact ⟨rfl, rfl, rfl, rfl, rfl, rfl⟩

/-- What the boot record's write leaves, and what it sets. -/
theorem slotBooted_fields (j : CommitJob) (d : Device) : CodeOnly d (slotBooted j d) ∧
    (slotBooted j d).cs.slot1 = d.cs.slot1 ∧ (slotBooted j d).cs.slot2 = d.cs.slot2 ∧
    (slotBooted j d).cs.nextSlot = (if j.action = 1 then j.target else d.cs.nextSlot) ∧ (j.action = 1 → (slotBooted j d).cs.attempts = 0) := by
  unfold slotBooted
  split
  · next h =>
    obtain ⟨hrunning, hjobs, hnext, hattempts, h1, h2⟩ := bootWrite_fields (fun c => { c with nextSlot := j.target, attempts := 0 }) d
    exact ⟨⟨rfl, hrunning, hjobs⟩, h1, h2, hnext, fun _ => hattempts⟩
  · next h =>
    obtain ⟨hrunning, hjobs, hnext, -, h1, h2⟩ := bootWrite_fields id d
    exact ⟨⟨rfl, hrunning, hjobs⟩, h1, h2, hnext, fun ha => absurd ha h⟩

/-- The end of a commit that has programmed its slot (R589). -/
theorem commitDone_of_started {j : CommitJob} (hjobs : d.cs.jobs = [j]) (hstarted : j.started = true) (hcode : j.code ≠ 5) :
    commitDone [] d = serveAllCommits (endCommit j none (logRec Code.firmwareCommitted [j.target, j.code, j.comp.version]
      (slotBooted j (slotFilled j (updCs (fun c => { c with jobs := [] }) d))))) := by
  unfold commitDone
  rw [hjobs]
  dsimp only
  rw [if_neg (by simp [hstarted]), if_neg (by simp), if_neg hcode]
  rfl

/-- The end of a commit whose programming failed (R589). -/
theorem commitDone_of_failed {j : CommitJob} {f : StoreFailure} (hjobs : d.cs.jobs = [j]) (hstarted : j.started = true)
    (hfailed : f.recovered = false) :
    commitDone [f] d = serveAllCommits (endCommit j (some (0x0, 0x06)) (noteFailure (updCs (fun c => { c with jobs := [] }) d) f)) := by
  unfold commitDone
  rw [hjobs]
  dsimp only
  rw [if_neg (by simp [hstarted]), if_pos (by simp [hfailed])]
  rfl

/-- What a commit's end leaves of the code store: the slot filled, and the boot record written. -/
theorem committed_fields {j : CommitJob} (htarget : j.target ∈ [1, 2]) : CodeOnly d (slotBooted j (slotFilled j d)) ∧
    (fwSlot j.target (slotBooted j (slotFilled j d)) = { fwSlot j.target d with
        comps := smSet {} j.code { j.comp with present := true } (fwSlot j.target d).comps, holds := true, settingsIncompatible := false } ∧
      ∀ k, k ≠ j.target → fwSlot k (slotBooted j (slotFilled j d)) = fwSlot k d) ∧
    (slotBooted j (slotFilled j d)).cs.nextSlot = (if j.action = 1 then j.target else d.cs.nextSlot) ∧
    (j.action = 1 → (slotBooted j (slotFilled j d)).cs.attempts = 0) := by
  obtain ⟨hbooted, h1, h2, hnext, hattempts⟩ := slotBooted_fields j (slotFilled j d)
  have hfilled : SlotsWritten d (slotFilled j d) := updSlot_written _ _ d
  have hslot : ∀ k, fwSlot k (slotBooted j (slotFilled j d)) = fwSlot k (slotFilled j d) := fwSlot_congr h1 h2
  refine ⟨hfilled.code.trans hbooted, ⟨?_, fun k hk => ?_⟩, ?_, hattempts⟩
  · rw [hslot]
    exact fwSlot_updSlot_self htarget _ d
  · rw [hslot]
    exact fwSlot_updSlot_ne htarget hk _ d
  · rw [hnext, hfilled]

theorem Aside.code (h : Aside d e) : e.cs.slot1 = d.cs.slot1 ∧ e.cs.slot2 = d.cs.slot2 ∧ e.cs.running = d.cs.running ∧
    e.cs.jobs = d.cs.jobs ∧ e.cs.nextSlot = d.cs.nextSlot ∧ e.cs.attempts = d.cs.attempts := by
  rw [h.cs]
  exact ⟨rfl, rfl, rfl, rfl, rfl, rfl⟩

/-- A verification failure counts and is recorded, its block perhaps worn. -/
theorem noteFailure_eq (f : StoreFailure) (d : Device) : ∃ ws : List Nat, noteFailure d f =
    logRec Code.codeStoreVerifyFailed [f.block, f.kind.val + 1, if f.recovered then 0x01 else 0x02]
      (incObj Obj.verifyFailures (updCs (fun c => { c with worn := ws }) d)) := by
  have hworn : ∃ ws : List Nat, (if f.kind = 1 && !f.recovered then updCs (fun c => { c with worn := f.block :: c.worn }) d else d) =
      updCs (fun c => { c with worn := ws }) d := by
    split
    · exact ⟨f.block :: d.cs.worn, rfl⟩
    · exact ⟨d.cs.worn, rfl⟩
  obtain ⟨ws, hws⟩ := hworn
  refine ⟨ws, ?_⟩
  unfold noteFailure
  dsimp only
  rw [hws]

theorem commandsFailed_ne_verifyFailures {p : Nat} (hp : p < 4) : Obj.verifyFailures ≠ Obj.commandsFailed p := by
  interval_cases p <;> decide

/-! ### Commands -/

/-- A piece is staged, where it meets none that is (R587). -/
theorem download_of_ready {i : Instr} {offset bytes : Nat} {header : Option (Nat × Component)} (hready : AdminReady c d)
    (hmode : d.ctl.mode ∉ [Mode.m2, .m9]) (hoffset : offset % 4096 = 0) (hbytes : bytes % 4096 = 0) (hend : offset + bytes ≤ 25165824) :
    adminCommand i c .other (downloadBody c offset bytes header []) d =
      if (port c.port.val d).staged.any (piecesMeet { offset := offset, bytes := bytes }) then failCmd c 0x1 0x14 (takeEntry c.port.val 0 d)
      else succeed c 0 0 [] (updPort c.port.val (fun t => { t with
        staged := { offset := offset, bytes := bytes } :: t.staged, stagedComp := if offset = 0 then header else t.stagedComp })
        (takeEntry c.port.val 0 d)) := by
  have hm : d.ctl.mode ≠ .m2 ∧ d.ctl.mode ≠ .m9 := by simpa using hmode
  rw [adminCommand_of_ready hready _ (.inl hm.1) (.inl (by decide)) (.inr hm.2)]
  unfold downloadBody
  dsimp only
  rw [if_neg (by simp [hready.2.1, hoffset, hbytes]), if_neg (by omega), takeEntry_ctl, if_neg hm.1, port_takeEntry]

/-- A Firmware Commit joins those in progress (R590). -/
def joined (c : HostCmd) (action slot : Nat) (d : Device) : Device :=
  updCs (fun x => { x with jobs := [{ cmd := c, action := action, slot := slot }] }) (takeEntry c.port.val 0 d)

theorem appendJob_of_none (j : CommitJob) (hjobs : d.cs.jobs = []) :
    updCs (fun c => { c with jobs := c.jobs ++ [j] }) d = updCs (fun c => { c with jobs := [j] }) d := by
  unfold updCs
  simp [hjobs]

theorem commit_of_ready {i : Instr} {action slot : Nat} (hready : AdminReady c d) (hm2 : d.ctl.mode ≠ .m2) (hm8 : d.ctl.mode ≠ .m8)
    (hm9 : d.ctl.mode ≠ .m9) (hjobs : d.cs.jobs = []) :
    adminCommand i c .held (commitBody c action slot) d = serveAllCommits (joined c action slot d) := by
  rw [adminCommand_of_ready hready _ (.inl hm2) (.inr hm8) (.inr hm9)]
  unfold commitBody
  rw [if_neg (by simp [hready.2.1]), takeEntry_ctl, if_neg hm2]
  exact congrArg serveAllCommits (appendJob_of_none _ hjobs)

/-- In M2 an immediate activation is prohibited too (R596). -/
theorem commit_of_recovery {slot : Nat} (hready : AdminReady c d) (hm2 : d.ctl.mode = .m2) :
    adminCommand (.firmwareCommitImmediate c slot) c .held (commitBody c 3 slot) d = failCmd c 0x1 0x0B (takeEntry c.port.val 0 d) := by
  rw [adminCommand_of_ready hready _ (.inr rfl) (.inr (by rw [hm2]; decide)) (.inr (by rw [hm2]; decide))]
  unfold commitBody recoveryCommitPort
  rw [if_neg (by simp [hready.2.1]), takeEntry_ctl, if_pos hm2]
  dsimp only
  rw [if_pos rfl]

theorem joined_calm (c : HostCmd) (action slot : Nat) (d : Device) : PortsCalm (takeEntry c.port.val 0 d) (joined c action slot d) :=
  .of_parts rfl rfl

theorem port_joined_ne {p : Nat} (h : p ∉ [c.port.val]) (action slot : Nat) (d : Device) : port p (joined c action slot d) = port p d :=
  (port_congr (joined_calm c action slot d).ports p).trans ((takeEntry_only c.port.val 0 d).others p h)

theorem stagedImage_congr {p : Nat} (h : stagedOf p e = stagedOf p d) : stagedImage p e = stagedImage p d := by
  unfold stagedOf at h
  obtain ⟨h1, h2⟩ := Prod.mk.inj h
  unfold stagedImage
  simp only [h1, h2]

theorem stagedImage_joined (action slot : Nat) (d : Device) : stagedImage c.port.val (joined c action slot d) = stagedImage c.port.val d :=
  stagedImage_congr (stagedOf_takeEntry c.port.val 0 d)

end Sys2Proof.Machine

section
open Sys2Proof Sys2Proof.Machine

/-- Settles O57: the commits are served one by one, and each ends in what `startCommit` and `commitDone` make of the code store. -/
theorem firmwareIsStagedAndCommitted : Obligations.FirmwareIsStagedAndCommitted := by
  unfold Obligations.FirmwareIsStagedAndCommitted
  refine ⟨?download, ?commit, ?done, ?failed, ?select, ?immediate⟩
  case download =>
    intro s cmd offset bytes header hready hmode hoffset hbytes hend
    refine .of_runDev _ rfl ?_
    rw [download_of_ready hready hmode hoffset hbytes hend]
    have htake := takeEntry_only cmd.port.val 0 s.dev
    have hgrows := takeEntry_grows (q := cqOf cmd s.dev) cmd.port.isLt 0 s.dev
    split
    · next hmeets =>
      have honly := htake.trans (failWith_only cmd 0x1 0x14 (dnrOf 0x1 0x14) 0 0 0xFFFF 0 (takeEntry cmd.port.val 0 s.dev))
      obtain ⟨hstaged, hcomp⟩ := Prod.mk.inj ((stagedOf_failWith (c := cmd) 0x1 0x14 (dnrOf 0x1 0x14) 0 0 0xFFFF 0 _).trans
        (stagedOf_takeEntry cmd.port.val 0 s.dev))
      exact ⟨fun _ => ⟨completes_of_failWith _ _ _ _ _ _ _ hready.room hgrows ⟨rfl, rfl⟩, hstaged, hcomp⟩,
        fun h => absurd hmeets (by simp [h]), honly.others, honly.cs, honly.media⟩
    · next hmeets =>
      generalize hf : (fun t : PortState => { t with
        staged := { offset := offset, bytes := bytes } :: t.staged, stagedComp := if offset = 0 then header else t.stagedComp }) = f
      have honly := htake.trans ((updPort_only cmd.port.val f _).trans (succeed_only cmd 0 0 [] _))
      have hstaged := stagedOf_succeed (c := cmd) 0 0 [] (updPort cmd.port.val f (takeEntry cmd.port.val 0 s.dev))
      have hafter : stagedOf cmd.port.val (updPort cmd.port.val f (takeEntry cmd.port.val 0 s.dev)) =
          ({ offset := offset, bytes := bytes } :: (port cmd.port.val s.dev).staged,
            if offset = 0 then header else (port cmd.port.val s.dev).stagedComp) := by
        unfold stagedOf
        rw [port_updPort_self, port_takeEntry]
        subst hf
        rfl
      obtain ⟨hpieces, hcomp⟩ := Prod.mk.inj (hstaged.trans hafter)
      have hport : QueueGrows cmd.port.val (cqOf cmd s.dev) (takeEntry cmd.port.val 0 s.dev)
          (updPort cmd.port.val f (takeEntry cmd.port.val 0 s.dev)) := updPort_grows _ f _ fun t => by
        subst hf
        exact ⟨rfl, rfl, rfl, fun _ => rfl⟩
      exact ⟨fun h => absurd h hmeets, fun _ => ⟨succeeds_of_succeed 0 0 [] hready.room (hgrows.trans hport), hpieces, hcomp⟩, honly.others,
        honly.cs, honly.media⟩
  case commit =>
    intro s cmd c action slot named code x hready hmode hcommand hjobs hslot hnamed hrunning hstaged hcode hworn
    have hm : s.dev.ctl.mode ≠ .m2 ∧ s.dev.ctl.mode ≠ .m8 ∧ s.dev.ctl.mode ≠ .m9 := by simpa using hmode
    have haction : action ≤ 1 := by omega
    have hn : namedSlot slot (joined cmd action slot s.dev) = named := hnamed.symm
    have hmem : named ∈ [1, 2] := hn ▸ namedSlot_mem hslot _
    have hserved : serveAllCommits (joined cmd action slot s.dev) = _ := serveAllCommits_of_starts rfl rfl
      (startCommit_of_staged haction hslot ((stagedImage_joined action slot s.dev).trans hstaged) hcode (by rw [hn]; exact hrunning)
        (by rw [hn]; exact hworn))
    have hcleared := slotPrepared_cleared hmem code x.length (joined cmd action slot s.dev)
    have hcomps := comps_slotPrepared hmem code x.length (joined cmd action slot s.dev)
    have hgoal : ∀ i : Instr, exec c s = runDev (adminCommand i cmd .held (commitBody cmd action slot)) s → Does c s fun d =>
        d.cs.jobs = [{ cmd := cmd, action := action, slot := slot, started := true, code := code, comp := x, target := named }] ∧
        (fwSlot named d).holds = false ∧ (fwSlot named d).completedWake = false ∧ smGet {} (fwSlot named d).comps code = {} ∧
        (∀ k, k ∈ [1, 2] → k ≠ named → fwSlot k d = fwSlot k s.dev) ∧ d.cs.nextSlot = s.dev.cs.nextSlot ∧
        d.cs.running = s.dev.cs.running ∧ d.cs.oa = s.dev.cs.oa ∧ OnlyPorts [cmd.port.val] s.dev d ∧ d.media = s.dev.media ∧
        d.ctl = s.dev.ctl := fun i hexec => by
      refine .of_runDev _ hexec ?_
      rw [commit_of_ready hready hm.1 hm.2.1 hm.2.2 hjobs, hserved, hn]
      generalize slotPrepared named code x.length (joined cmd action slot s.dev) = e at hcleared hcomps
      obtain ⟨hwritten, hholds, hwake, hothers⟩ := hcleared
      refine ⟨?_, hholds, hwake, hcomps, fun k _ hk => hothers k hk, ?_, ?_, ?_, fun p hp => ?_, ?_, ?_⟩
      · have : e.cs.jobs = [{ cmd := cmd, action := action, slot := slot }] := by rw [hwritten]; rfl
        change programming _ code x named :: e.cs.jobs.drop 1 = _
        rw [this]
        rfl
      · rw [hwritten]; rfl
      · rw [hwritten]; rfl
      · rw [hwritten]; rfl
      · exact (port_congr hwritten.ports p).trans (port_joined_ne hp action slot s.dev)
      · rw [hwritten]; rfl
      · rw [hwritten]; rfl
    rcases hcommand with ⟨rfl, rfl⟩ | ⟨rfl, rfl⟩
    · exact hgoal _ rfl
    · exact hgoal _ rfl
  case done =>
    intro s j hjobs hstarted hdropped hcode htarget hroom hopen
    have h5 : j.code ≠ 5 := by rintro h; simp [h] at hcode
    refine .of_runDev _ rfl ?_
    rw [commitDone_of_started hjobs hstarted h5, endCommit_done _ hdropped]
    obtain ⟨hcode, hslots, hnext, hattempts⟩ := committed_fields htarget (d := updCs (fun c => { c with jobs := [] }) s.dev)
    generalize hb : slotBooted j (slotFilled j (updCs (fun c => { c with jobs := [] }) s.dev)) = b at hcode hslots hnext hattempts
    generalize hl : logRec Code.firmwareCommitted [j.target, j.code, j.comp.version] b = l
    have haside : Aside b l := hl ▸ logRec_aside _ _ b
    have honly := (stagedGone_only j.cmd.port.val l).trans (succeed_only j.cmd 0 0 [] _)
    obtain ⟨h1, h2, hrunning, hnojobs, hlnext, hlattempts⟩ := haside.code
    have hbjobs : b.cs.jobs = [] := hcode.2.2
    rw [serveAllCommits_of_none (by rw [honly.cs, hnojobs, hbjobs])]
    have hslot : ∀ k, fwSlot k (succeed j.cmd 0 0 [] (stagedGone j.cmd.port.val l)) = fwSlot k b := fun k =>
      fwSlot_congr (by rw [honly.cs, h1]) (by rw [honly.cs, h2]) k
    obtain ⟨hself, hne⟩ := hslots
    have hblog : b.log = s.dev.log := by rw [hcode.1]; rfl
    refine ⟨succeeds_of_succeed 0 0 [] hroom ?_, ?_, ?_, ?_, ?_, fun ha => ?_, ?_, ?_, ?_, fun k _ hk => ?_, ?_, ?_, ?_⟩
    · have hcalm : PortsCalm s.dev b := (PortsCalm.of_parts rfl rfl : PortsCalm s.dev (updCs (fun c => { c with jobs := [] }) s.dev)).trans
        hcode.calm
      rw [← hl]
      exact ((hcalm.grows j.cmd.port.isLt).trans (logRec_grows j.cmd.port.isLt _ _ b)).trans (stagedGone_grows _ _)
    · rw [hslot, hself]
      dsimp only
      rw [smGet_smSet_self]
    · rw [hslot, hself]
    · rw [hslot, hself]
    · rw [honly.cs, hlnext]
      exact hnext
    · rw [honly.cs, hlattempts]
      exact hattempts ha
    · rw [honly.cs, hnojobs, hbjobs]
    · have hrec := logRec_recorded_of_log Code.firmwareCommitted [j.target, j.code, j.comp.version] hblog hopen
      rw [hl] at hrec
      exact hrec.congr rfl (by rw [honly.log])
    · exact (Prod.mk.inj ((stagedOf_succeed (c := j.cmd) 0 0 [] _).trans (stagedOf_stagedGone _ l))).1
    · rw [hslot, hne k hk]
      rfl
    · rw [honly.cs, hrunning]
      exact hcode.2.1
    · rw [honly.media, haside.media, hcode.1]
      rfl
    · rw [honly.ctl, haside.ctl, hcode.1]
      rfl
  case failed =>
    intro s j f hjobs hstarted hdropped hfailed hroom
    refine .of_runDev _ rfl ?_
    rw [commitDone_of_failed hjobs hstarted hfailed, endCommit_failed _ _ _ hdropped]
    obtain ⟨ws, hnote⟩ := noteFailure_eq f (updCs (fun c => { c with jobs := [] }) s.dev)
    rw [hnote]
    generalize hb : incObj Obj.verifyFailures (updCs (fun c => { c with worn := ws }) (updCs (fun c => { c with jobs := [] }) s.dev)) = b
    generalize hl : logRec Code.codeStoreVerifyFailed [f.block, f.kind.val + 1, if f.recovered then 0x01 else 0x02] b = l
    have haside : Aside b l := hl ▸ logRec_aside _ _ b
    have honly := (stagedGone_only j.cmd.port.val l).trans (failWith_only j.cmd 0x0 0x06 (dnrOf 0x0 0x06) 0 0 0xFFFF 0 _)
    obtain ⟨h1, h2, -, hnojobs, hlnext, -⟩ := haside.code
    have hport := j.cmd.port.isLt
    rw [serveAllCommits_of_none (by unfold failCmd; rw [honly.cs, hnojobs, ← hb]; rfl)]
    unfold failCmd
    refine ⟨completes_of_failWith _ _ _ _ _ _ _ hroom ?_ ⟨rfl, rfl⟩, ?_, ?_, ?_, ?_, ?_, ?_, ?_⟩
    · have hcalm : PortsCalm s.dev b := by
        rw [← hb]
        refine PortsCalm.trans ?_ (incObj_calm (by decide) _)
        exact .of_parts rfl rfl
      rw [← hl]
      exact ((hcalm.grows hport).trans (logRec_grows hport _ _ b)).trans (stagedGone_grows _ _)
    · rw [honly.cs, hnojobs, ← hb]; rfl
    · rw [honly.cs, h1, ← hb]; rfl
    · rw [honly.cs, h2, ← hb]; rfl
    · rw [honly.cs, hlnext, ← hb]; rfl
    · rw [getObj_failWith (by decide) (commandsFailed_ne_verifyFailures hport)]
      change getObj Obj.verifyFailures l = _
      rw [haside.objs _ (by decide), ← hb, getObj_incObj_self]
      rfl
    · exact (Prod.mk.inj ((stagedOf_failWith (c := j.cmd) _ _ _ _ _ _ _ _).trans (stagedOf_stagedGone _ l))).1
    · rw [honly.media, haside.media, ← hb]; rfl
  case select =>
    intro s cmd slot named hready hmode hjobs hslot hnamed hholds
    have hm : s.dev.ctl.mode ≠ .m2 ∧ s.dev.ctl.mode ≠ .m8 ∧ s.dev.ctl.mode ≠ .m9 := by simpa using hmode
    refine .of_runDev _ rfl ?_
    have hn : namedSlot slot (joined cmd 2 slot s.dev) = named := hnamed.symm
    have hstart := startCommit_of_select (j := { cmd := cmd, action := 2, slot := slot }) (d := joined cmd 2 slot s.dev) rfl hslot
      (by dsimp only; rw [hn]; exact hholds)
    rw [commit_of_ready hready hm.1 hm.2.1 hm.2.2 hjobs, serveAllCommits_of_ends rfl rfl hstart, endCommit_done _ rfl]
    dsimp only
    rw [hn]
    obtain ⟨hrunning, -, hnext, hattempts, h1, h2⟩ := bootWrite_fields
      (fun c => { c with nextSlot := if named = c.running then 0 else named, attempts := 0 }) (joined cmd 2 slot s.dev)
    generalize hb : bootWrite (fun c => { c with nextSlot := if named = c.running then 0 else named, attempts := 0 })
      (joined cmd 2 slot s.dev) = b at *
    have hparts : b = { joined cmd 2 slot s.dev with cs := b.cs } := by rw [← hb]; rfl
    have hcalm : PortsCalm (takeEntry cmd.port.val 0 s.dev) b := (joined_calm cmd 2 slot s.dev).trans (by rw [hparts]; exact .of_parts rfl rfl)
    have honly := (stagedGone_only cmd.port.val (updCs (fun c => { c with jobs := [] }) b)).trans (succeed_only cmd 0 0 [] _)
    refine ⟨succeeds_of_succeed 0 0 [] hready.room ?_, ?_, ?_, ?_, ?_, ?_, ?_, fun p hp => ?_, ?_⟩
    · exact ((takeEntry_grows cmd.port.isLt 0 s.dev).trans (hcalm.grows cmd.port.isLt)).trans
        (((PortsCalm.of_parts rfl rfl : PortsCalm b (updCs (fun c => { c with jobs := [] }) b)).grows cmd.port.isLt).trans (stagedGone_grows _ _))
    · rw [honly.cs]; exact hnext
    · rw [honly.cs]; exact hattempts
    · rw [honly.cs]; exact h1
    · rw [honly.cs]; exact h2
    · rw [honly.cs]; exact hrunning
    · rw [honly.cs]; rfl
    · exact (honly.others p hp).trans ((port_congr hcalm.ports p).trans ((takeEntry_only cmd.port.val 0 s.dev).others p hp))
    · rw [honly.media]
      change b.media = _
      rw [hparts]
      rfl
  case immediate =>
    intro s cmd slot hready hmode hjobs
    have hm : s.dev.ctl.mode ≠ .m8 ∧ s.dev.ctl.mode ≠ .m9 := by simpa using hmode
    refine .of_runDev _ rfl ?_
    by_cases hm2 : s.dev.ctl.mode = .m2
    · rw [commit_of_recovery hready hm2]
      have honly := (takeEntry_only cmd.port.val 0 s.dev).trans (failWith_only cmd 0x1 0x0B (dnrOf 0x1 0x0B) 0 0 0xFFFF 0 _)
      exact ⟨completes_of_failWith _ _ _ _ _ _ _ hready.room (takeEntry_grows cmd.port.isLt 0 s.dev) ⟨rfl, rfl⟩,
        congrArg CodeStore.nextSlot honly.cs, congrArg CodeStore.slot1 honly.cs, congrArg CodeStore.slot2 honly.cs,
        congrArg CodeStore.running honly.cs, honly.others, honly.media⟩
    · rw [commit_of_ready hready hm2 hm.1 hm.2 hjobs, serveAllCommits_of_ends rfl rfl (startCommit_of_immediate rfl), endCommit_failed _ _ _ rfl]
      generalize hb : updCs (fun c => { c with jobs := [] }) (joined cmd 3 slot s.dev) = b
      have hcalm : PortsCalm (takeEntry cmd.port.val 0 s.dev) b := by rw [← hb]; exact .of_parts rfl rfl
      have honly := (stagedGone_only cmd.port.val b).trans (failWith_only cmd 0x1 0x0B (dnrOf 0x1 0x0B) 0 0 0xFFFF 0 _)
      unfold failCmd
      refine ⟨completes_of_failWith _ _ _ _ _ _ _ hready.room ?_ ⟨rfl, rfl⟩, ?_, ?_, ?_, ?_, fun p hp => ?_, ?_⟩
      · exact ((takeEntry_grows cmd.port.isLt 0 s.dev).trans (hcalm.grows cmd.port.isLt)).trans (stagedGone_grows _ b)
      · rw [honly.cs, ← hb]; rfl
      · rw [honly.cs, ← hb]; rfl
      · rw [honly.cs, ← hb]; rfl
      · rw [honly.cs, ← hb]; rfl
      · exact (honly.others p hp).trans ((port_congr hcalm.ports p).trans ((takeEntry_only cmd.port.val 0 s.dev).others p hp))
      · rw [honly.media, ← hb]; rfl

end
end

section
/-! PROOFS. Namespaces are created, attached, formatted and deleted (spec/12 R373 to R376, spec/05 R146): O56. -/
-- The proofs are elaborated one after another: see the first file of these proofs.
set_option Elab.async false

namespace Sys2Proof.Machine

/-! ### Bits -/

theorem bitOf_add_pow {v k : Nat} (h : v / 2 ^ k % 2 = 0) (j : Nat) : bitOf (v + 2 ^ k) j = if j = k then true else bitOf v j := by
  have hup : (v + 2 ^ k) / 2 ^ k = v / 2 ^ k + 1 := Nat.add_div_right v (Nat.two_pow_pos k)
  unfold bitOf
  rcases lt_trichotomy j k with hlt | rfl | hgt
  · obtain ⟨m, rfl⟩ := Nat.exists_eq_add_of_lt hlt
    rw [if_neg (by omega)]
    have hpow : 2 ^ (j + m + 1) = 2 ^ j * (2 * 2 ^ m) := by ring
    rw [hpow, Nat.add_mul_div_left _ _ (Nat.two_pow_pos j), Nat.add_mul_mod_self_left]
  · rw [if_pos rfl, hup]
    simp only [beq_iff_eq]
    omega
  · obtain ⟨m, rfl⟩ := Nat.exists_eq_add_of_lt hgt
    rw [if_neg (by omega)]
    have hpow : 2 ^ (k + m + 1) = 2 ^ k * 2 * 2 ^ m := by ring
    have hhalf : (v + 2 ^ k) / 2 ^ k / 2 = v / 2 ^ k / 2 := by omega
    rw [hpow, ← Nat.div_div_eq_div_mul, ← Nat.div_div_eq_div_mul, ← Nat.div_div_eq_div_mul, ← Nat.div_div_eq_div_mul, hhalf]

theorem bitOf_setBit (v k : Nat) (b : Bool) (j : Nat) : bitOf (setBit v k b) j = if j = k then b else bitOf v j := by
  unfold setBit
  split
  · next h =>
    split
    · next hj => rw [hj, h]
    · rfl
  · next h =>
    cases b with
    | true =>
      rw [if_pos rfl]
      refine bitOf_add_pow ?_ j
      have : ¬v / 2 ^ k % 2 = 1 := by simpa [bitOf] using h
      omega
    | false =>
      rw [if_neg (by decide)]
      have hbit : v / 2 ^ k % 2 = 1 := by simpa [bitOf] using h
      have hle : 2 ^ k ≤ v := by
        by_contra hlt
        rw [Nat.div_eq_of_lt (by omega)] at hbit
        omega
      obtain ⟨w, rfl⟩ := Nat.exists_eq_add_of_le' hle
      rw [Nat.add_sub_cancel]
      have hw : w / 2 ^ k % 2 = 0 := by
        rw [Nat.add_div_right w (Nat.two_pow_pos k)] at hbit
        omega
      rw [bitOf_add_pow hw]
      split
      · next hj => rw [hj]; simp [bitOf, hw]
      · rfl

/-- Bits put to one value, one after another. -/
theorem bitOf_foldl_setBit (attach : Bool) (ids : List Nat) (v p : Nat) (hids : ∀ i ∈ ids, 1 ≤ i) :
    bitOf (ids.foldl (fun v i => setBit v (i - 1) attach) v) p = if p + 1 ∈ ids then attach else bitOf v p := by
  induction ids generalizing v with
  | nil => rfl
  | cons i ids ih =>
    have hi := hids i (List.mem_cons_self ..)
    rw [List.foldl_cons, ih _ fun x hx => hids x (List.mem_cons_of_mem _ hx), bitOf_setBit]
    by_cases hp : p + 1 = i
    · subst hp
      simp
    · have : p ≠ i - 1 := by omega
      simp [hp, this]

/-! ### Region resets and keys -/

variable {d e : Device} {c : HostCmd} {slot : Nat}

/-- What reports of old map entries change: the release log, the last report and the blocks. -/
def OldReported (d e : Device) : Prop := e = { d with media := { d.media with rc := e.media.rc, blocks := e.media.blocks } }

theorem OldReported.refl (d : Device) : OldReported d d := rfl

theorem OldReported.trans {a b c : Device} (h : OldReported a b) (g : OldReported b c) : OldReported a c := by
  unfold OldReported at *
  rw [h] at g
  exact g

theorem reportOld_reported (kind : UpdateKind) (seq : Nat) (d : Device) (old : Nat) : OldReported d (reportOld kind seq d old) := by
  unfold reportOld
  dsimp only
  split <;> rfl

/-- From `d` to `e` a Region reset of the slot has been applied (R146). -/
structure RegionGone (slot : Nat) (d e : Device) : Prop where
  parts : e = { d with objs := e.objs, media := { d.media with map := e.media.map, rc := e.media.rc, blocks := e.media.blocks } }
  entries : ∀ x ∈ e.media.map.entries, x.1 / 2 ^ 40 ≠ slot
  calm : PortsCalm d e

theorem resetRegion_gone (slot pages : Nat) (d : Device) : RegionGone slot d (resetRegion slot pages d) := by
  unfold resetRegion
  dsimp only
  have hreported : OldReported d _ := foldl_rel .refl .trans (reportOld_reported .regionReset (getObj Obj.journalSequence d))
    ((d.media.map.entries.filter fun e => e.1 / 2 ^ 40 = slot).map (·.2)) d
  generalize ((d.media.map.entries.filter fun e => e.1 / 2 ^ 40 = slot).map (·.2)).foldl
    (reportOld .regionReset (getObj Obj.journalSequence d)) d = a at hreported
  refine ⟨?_, fun x hx => ?_, PortsCalm.trans ?_ (incObj_calm (by decide) _)⟩
  · rw [hreported]
    rfl
  · have := (List.mem_filter.mp hx).2
    simpa using this
  · rw [hreported]
    exact .of_parts rfl rfl

/-- A Region reset is applied at once where the journal has room. -/
theorem regionReset_gone (pages : Nat) (hfull : journalFull d = false) : RegionGone slot d (regionReset slot pages d) := by
  unfold regionReset mapUpdate
  dsimp only
  rw [if_neg (by simp [hfull])]
  exact resetRegion_gone slot pages d

/-- From `d` to `e` a new key has been drawn into a slot of the key area (R525). -/
structure KeyDrawn (k : Nat) (d e : Device) : Prop where
  parts : e = { d with free := e.free, sec := e.sec }
  live : (smGet {} e.sec.keys k).live = true
  others : ∀ j, j ≠ k → smGet {} e.sec.keys j = smGet {} d.sec.keys j

theorem drawKey_drawn (hused : d.sec.used < 1364) : KeyDrawn (drawKey d).1 d (drawKey d).2 := by
  have happend : ∀ x : Device, x.sec.used < 1364 → appendKeyEntry x = updSec (fun k => { k with used := k.used + 1 }) x := fun x hx => by
    unfold appendKeyEntry
    dsimp only
    rw [if_pos hx]
  unfold drawKey drawInto
  dsimp only
  rw [happend]
  · refine ⟨rfl, ?_, fun j hj => ?_⟩
    · simp [updSec]
    · simp [updSec, smGet_smUpd, hj]
  · exact hused

theorem setKeySlot_changes (slot k : Nat) (d : Device) : NsChange slot d (setKeySlot slot k d) := by
  unfold setKeySlot
  refine NsChange.trans ⟨rfl, fun j hj => ?_⟩ (moveRoot_taken _ _).ns
  simp [namespace_, smGet_smUpd, hj]

theorem namespace_setKeySlot_self (slot k : Nat) (d : Device) :
    namespace_ slot (setKeySlot slot k d) = { namespace_ slot d with keySlot := k } := by
  unfold setKeySlot
  rw [namespace_congr (moveRoot_taken _ _).sub]
  simp [namespace_]

/-! ### Creation -/

/-- The record of a new namespace (R373). -/
def newRecord (nsze flbas dps nmic parity creation : Nat) : Namespace :=
  { active := true, flbas := flbas, dps := dps, nmic := nmic % 2, parity := parity, nsze := nsze, creation := creation }

/-- What a creation leaves. -/
structure Created (slot : Nat) (n : Namespace) (d e : Device) : Prop where
  parts : e = { d with objs := e.objs, free := e.free, sub := e.sub, sec := e.sec, media := e.media }
  stored : e.media.stored = d.media.stored
  record : namespace_ slot e = { n with keySlot := (namespace_ slot e).keySlot }
  others : ∀ k, k ≠ slot → namespace_ k e = namespace_ k d
  live : (smGet {} e.sec.keys (namespace_ slot e).keySlot).live = true
  keys : ∀ k, k ≠ (namespace_ slot e).keySlot → smGet {} e.sec.keys k = smGet {} d.sec.keys k
  entries : ∀ x ∈ e.media.map.entries, x.1 / 2 ^ 40 ≠ slot
  calm : PortsCalm d e

/-- The record of a new namespace in its slot (R373). -/
def recordMade (slot nsze flbas dps nmic parity : Nat) (d : Device) : Device :=
  updNs slot (fun _ => newRecord nsze flbas dps nmic parity (d.sub.creations + 1)) { d with sub := { d.sub with creations := d.sub.creations + 1 } }

theorem createRecord_eq (slot nsze flbas dps nmic parity : Nat) (d : Device) : createRecord slot nsze flbas dps nmic parity d =
    regionReset slot (pagesOf nsze) (setKeySlot slot (drawKey (recordMade slot nsze flbas dps nmic parity d)).1
      (drawKey (recordMade slot nsze flbas dps nmic parity d)).2) := by
  unfold createRecord
  dsimp only
  unfold recordMade newRecord
  generalize updNs slot _ _ = a
  generalize drawKey a = x
  rfl

theorem createRecord_created {nsze flbas dps nmic parity : Nat} (hused : d.sec.used < 1364) (hfull : journalFull d = false) :
    Created slot (newRecord nsze flbas dps nmic parity (d.sub.creations + 1)) d (createRecord slot nsze flbas dps nmic parity d) := by
  rw [createRecord_eq]
  have hmade : NsChange slot { d with sub := { d.sub with creations := d.sub.creations + 1 } } (recordMade slot nsze flbas dps nmic parity d) :=
    updNs_changes slot _ _
  have hrecord : namespace_ slot (recordMade slot nsze flbas dps nmic parity d) = newRecord nsze flbas dps nmic parity (d.sub.creations + 1) :=
    namespace_updNs_self slot _ _
  generalize recordMade slot nsze flbas dps nmic parity d = a at hmade hrecord
  have hsec : a.sec = d.sec := by rw [hmade.parts]
  have hdrawn := drawKey_drawn (d := a) (by rw [hsec]; exact hused)
  generalize (drawKey a).2 = b at hdrawn
  generalize (drawKey a).1 = k at hdrawn
  have hset := setKeySlot_changes slot k b
  have hself := namespace_setKeySlot_self slot k b
  generalize setKeySlot slot k b = x at hset hself
  have hfullx : journalFull x = false := by
    unfold journalFull getObj at *
    rw [hset.parts, hdrawn.parts, hmade.parts]
    exact hfull
  have hgone := regionReset_gone (slot := slot) (pagesOf nsze) hfullx
  generalize regionReset slot (pagesOf nsze) x = e at hgone
  have hns : ∀ j, namespace_ j e = namespace_ j x := namespace_congr (by rw [hgone.parts])
  have hnsb : ∀ j, namespace_ j b = namespace_ j a := namespace_congr (by rw [hdrawn.parts])
  have hsece : e.sec = b.sec := by rw [hgone.parts, hset.parts]
  have hkey : namespace_ slot e = { newRecord nsze flbas dps nmic parity (d.sub.creations + 1) with keySlot := k } := by
    rw [hns, hself, hnsb, hrecord]
  refine ⟨?_, ?_, ?_, fun j hj => ?_, ?_, fun j hj => ?_, hgone.entries, ?_⟩
  · rw [hgone.parts, hset.parts, hdrawn.parts, hmade.parts]
  · rw [hgone.parts, hset.parts, hdrawn.parts, hmade.parts]
  · rw [hkey]
  · rw [hns, hset.others j hj, hnsb, hmade.others j hj]
    rfl
  · rw [hkey, hsece]
    exact hdrawn.live
  · rw [hkey] at hj
    rw [hsece, hdrawn.others j hj, hsec]
  · have hfirst : PortsCalm d x := by
      rw [hset.parts, hdrawn.parts, hmade.parts]
      exact .of_parts rfl rfl
    exact hfirst.trans hgone.calm

theorem slotsInUse_mem {k : Nat} (hk : k ∈ slotsInUse d) : k < 1024 := List.mem_range.mp (List.mem_filter.mp hk).1

/-- The lowest slot not in use (R373). -/
theorem freeSlot_of_lowest (hlt : slot < 1024) (hfree : slot ∉ slotsInUse d) (hlower : ∀ k, k < slot → k ∈ slotsInUse d) :
    freeSlot d = slot := by
  have hsplit : List.range 1024 = List.range slot ++ (List.range (1024 - slot)).map (slot + ·) := by
    rw [← List.range_add, Nat.add_sub_cancel' (by omega)]
  have hnone : (List.range slot).filter (fun s => !(slotsInUse d).contains s) = [] := by
    simp only [List.filter_eq_nil_iff, List.mem_range]
    intro k hk
    simp [hlower k hk]
  have hhead : (List.range (1024 - slot)).map (slot + ·) = slot :: ((List.range (1023 - slot)).map (slot + 1 + ·)) := by
    obtain ⟨m, hm⟩ : ∃ m, 1024 - slot = m + 1 := ⟨1023 - slot, by omega⟩
    rw [hm, List.range_succ_eq_map, show 1023 - slot = m by omega]
    simp only [List.map_cons, List.map_map, Nat.add_zero, List.cons.injEq, true_and]
    exact List.map_congr_left fun k _ => by simp only [Function.comp_apply]; omega
  unfold freeSlot
  rw [hsplit, List.filter_append, hnone, List.nil_append, hhead, List.filter_cons]
  simp [hfree]

theorem length_slotsInUse_lt (hlt : slot < 1024) (hfree : slot ∉ slotsInUse d) : (slotsInUse d).length < 1024 := by
  have hsub : slot :: slotsInUse d ⊆ List.range 1024 := by
    intro k hk
    rcases List.mem_cons.mp hk with rfl | hk
    · exact List.mem_range.mpr hlt
    · exact List.mem_range.mpr (slotsInUse_mem hk)
  have hnodup : (slot :: slotsInUse d).Nodup := List.nodup_cons.mpr ⟨hfree, List.nodup_range.filter _⟩
  have := (hnodup.subperm hsub).length_le
  simp at this
  omega

/-! ### Commands -/

variable {i : Instr}

/-- What a fetch leaves of what the checks of namespace commands read. -/
theorem getObj_takeEntry {k p : Nat} (h : k ≠ Obj.commandsFetched p) (sq : Nat) (d : Device) : getObj k (takeEntry p sq d) = getObj k d :=
  getObj_incObj_ne h _

theorem mapAreaChunks_ne {p : Nat} (hp : p < 4) : Obj.mapAreaChunks ≠ Obj.commandsFetched p := by interval_cases p <;> decide
theorem defaultParityMode_ne {p : Nat} (hp : p < 4) : Obj.defaultParityMode ≠ Obj.commandsFetched p := by interval_cases p <;> decide
theorem journalFrames_ne {p : Nat} (hp : p < 4) : Obj.journalFrames ≠ Obj.commandsFetched p := by interval_cases p <;> decide
theorem portConfig_ne {p : Nat} (hp : p < 4) : Obj.portConfig ≠ Obj.commandsFetched p := by interval_cases p <;> decide
theorem destructiveNeedsAuth_ne {p : Nat} (hp : p < 4) : Obj.destructiveNeedsAuth ≠ Obj.commandsFetched p := by interval_cases p <;> decide

theorem roomFor_takeEntry {p : Nat} (hp : p < 4) (nsze : Nat) (d : Device) : roomFor nsze (takeEntry p 0 d) = roomFor nsze d := by
  have hchunks : chunksFree (takeEntry p 0 d) = chunksFree d := by
    unfold chunksFree
    rw [getObj_takeEntry (mapAreaChunks_ne hp)]
    rfl
  unfold roomFor
  rw [hchunks]
  rfl

theorem parityOf_takeEntry {p : Nat} (hp : p < 4) (parity : Nat) (d : Device) : parityOf parity (takeEntry p 0 d) = parityOf parity d := by
  unfold parityOf
  rw [getObj_takeEntry (defaultParityMode_ne hp)]

/-- An admin command of the held class that its port fetches in a mode that carries it out (R50, R51). -/
theorem heldCommand_of_ready (hready : AdminReady c d) (hmode : d.ctl.mode ∉ [Mode.m2, .m8, .m9]) (k : Device → Device) :
    adminCommand i c .held k d = k (takeEntry c.port.val 0 d) := by
  have hm : d.ctl.mode ≠ .m2 ∧ d.ctl.mode ≠ .m8 ∧ d.ctl.mode ≠ .m9 := by simpa using hmode
  exact adminCommand_of_ready hready k (.inl hm.1) (.inr hm.2.1) (.inr hm.2.2)

/-- An admin command of the class that M9 refuses alone. -/
theorem otherCommand_of_ready (hready : AdminReady c d) (hmode : d.ctl.mode ∉ [Mode.m2, .m9]) (k : Device → Device) :
    adminCommand i c .other k d = k (takeEntry c.port.val 0 d) := by
  have hm : d.ctl.mode ≠ .m2 ∧ d.ctl.mode ≠ .m9 := by simpa using hmode
  exact adminCommand_of_ready hready k (.inl hm.1) (.inl (by decide)) (.inr hm.2)

/-- A namespace is created in the lowest free slot (R373). -/
theorem create_of_ready {nsze flbas dps nmic parity : Nat} (hready : AdminReady c d) (hmode : d.ctl.mode ∉ [Mode.m2, .m8, .m9])
    (hlost : d.settings.lost = false) (hnsze : nsze ≠ 0) (hparity : parity ≤ 2) (hformat : flbas % 16 ≤ 2) (hflbas : flbas < 32)
    (hprotection : protectionOk flbas dps = true) (hlt : slot < 1024) (hfree : slot ∉ slotsInUse d)
    (hlower : ∀ k, k < slot → k ∈ slotsInUse d) (hroom : roomFor nsze d = true) :
    adminCommand i c .held (createNamespace c nsze nsze flbas dps nmic parity) d =
      succeed c (slot + 1) 0 [] (logRec Code.namespaceCreated [slot + 1, nsze, parityOf parity d]
        (createRecord slot nsze flbas dps nmic (parityOf parity d) (takeEntry c.port.val 0 d))) := by
  rw [heldCommand_of_ready hready hmode]
  have hused : slotsInUse (takeEntry c.port.val 0 d) = slotsInUse d := rfl
  have hlow : freeSlot (takeEntry c.port.val 0 d) = slot := freeSlot_of_lowest hlt hfree hlower
  have hlength := length_slotsInUse_lt hlt hfree
  have hset : (takeEntry c.port.val 0 d).settings = d.settings := rfl
  unfold createNamespace
  rw [hset, hused, roomFor_takeEntry c.port.isLt, hlow, parityOf_takeEntry c.port.isLt]
  rw [if_neg (by simp [hready.2.1]), if_neg (by simp [hlost]), if_neg (by simp [hnsze]; omega), if_neg (by simp [hprotection]; omega),
    if_neg (by omega), if_neg (by simp [hroom])]

/-! ### Notices of a changed namespace -/

/-- The namespaces that a port lists as changed. -/
def changedOf (p : Nat) (d : Device) : List Nat := (port p d).changedNs

theorem Aside.changedOf (h : Aside d e) (p : Nat) : changedOf p e = changedOf p d := by
  unfold Machine.changedOf
  rw [h.port p]

/-- A port's list with one more namespace. -/
def listed (n : Nat) (t : PortState) : PortState := { t with changedNs := if t.changedNs.contains n then t.changedNs else t.changedNs ++ [n] }

/-- The notice to one controller (R375). -/
def noticePort (slot mask : Nat) (d : Device) (p : Nat) : Device :=
  if bitOf mask p then
    if (port p (updPort p (listed (slot + 1)) d)).rdy then
      raiseEvent p { typ := 2, info := 0x00, page := 0x04 } (updPort p (listed (slot + 1)) d)
    else updPort p (listed (slot + 1)) d
  else d

theorem noticeChanged_eq (slot mask : Nat) (d : Device) : noticeChanged slot mask d = (List.range 4).foldl (noticePort slot mask) d := rfl

theorem changedOf_updPort (n p q : Nat) (d : Device) :
    changedOf q d ⊆ changedOf q (updPort p (listed n) d) ∧ n ∈ changedOf p (updPort p (listed n) d) := by
  unfold changedOf
  refine ⟨fun x hx => ?_, ?_⟩
  · by_cases h : q = p
    · subst h
      rw [port_updPort_self]
      unfold listed
      split
      · exact hx
      · exact List.mem_append_left _ hx
    · rw [port_updPort_ne h]
      exact hx
  · rw [port_updPort_self]
    unfold listed
    split
    · next h => simpa using h
    · simp

/-- The notice lists the namespace on its port, and takes none from any list. -/
theorem changedOf_noticePort (mask q : Nat) {p : Nat} (hp : p < 4) (d : Device) :
    changedOf q d ⊆ changedOf q (noticePort slot mask d p) ∧
    (bitOf mask p = true → slot + 1 ∈ changedOf p (noticePort slot mask d p)) := by
  obtain ⟨hsub, hmem⟩ := changedOf_updPort (slot + 1) p q d
  unfold noticePort
  split
  · split
    · rw [(raiseEvent_aside hp _ _).changedOf, (raiseEvent_aside hp _ _).changedOf]
      exact ⟨hsub, fun _ => hmem⟩
    · exact ⟨hsub, fun _ => hmem⟩
  · next h => exact ⟨fun _ hx => hx, fun hb => absurd hb h⟩

theorem changedOf_foldl_noticePort (mask q : Nat) (ps : List Nat) (hps : ∀ p ∈ ps, p < 4) (d : Device) :
    changedOf q d ⊆ changedOf q (ps.foldl (noticePort slot mask) d) ∧
    (q ∈ ps → bitOf mask q = true → slot + 1 ∈ changedOf q (ps.foldl (noticePort slot mask) d)) := by
  induction ps generalizing d with
  | nil => exact ⟨fun _ hx => hx, fun h => absurd h List.not_mem_nil⟩
  | cons p ps ih =>
    obtain ⟨hstep, hadds⟩ := changedOf_noticePort (slot := slot) mask q (hps p (List.mem_cons_self ..)) d
    obtain ⟨hrest, hlater⟩ := ih (fun x hx => hps x (List.mem_cons_of_mem _ hx)) (noticePort slot mask d p)
    refine ⟨fun x hx => hrest (hstep hx), fun hq hb => ?_⟩
    rcases List.mem_cons.mp hq with rfl | hq
    · exact hrest (hadds hb)
    · exact hlater hq hb

/-- Every controller that the mask names lists the namespace (R375). -/
theorem noticeChanged_lists (mask : Nat) {p : Nat} (hp : p < 4) (hbit : bitOf mask p = true) (d : Device) :
    slot + 1 ∈ (port p (noticeChanged slot mask d)).changedNs := by
  rw [noticeChanged_eq]
  exact (changedOf_foldl_noticePort mask p (List.range 4) (fun _ h => List.mem_range.mp h) d).2 (List.mem_range.mpr hp) hbit

theorem noticePort_records (slot mask p : Nat) (d : Device) : RecordsKept d (noticePort slot mask d p) := by
  have hnoted : RecordsKept d (updPort p (listed (slot + 1)) d) := ⟨rfl, rfl, rfl⟩
  unfold noticePort
  split
  · split
    · exact hnoted.trans (raiseEvent_records p _ _)
    · exact hnoted
  · exact .refl d

theorem noticeChanged_records (slot mask : Nat) (d : Device) : RecordsKept d (noticeChanged slot mask d) := by
  rw [noticeChanged_eq]
  exact foldl_rel .refl .trans (fun d p => noticePort_records slot mask p d) _ d

theorem noticePort_grows {p q r : Nat} (hr : r < 4) (slot mask : Nat) (d : Device) : QueueGrows p q d (noticePort slot mask d r) := by
  have hlisted : QueueGrows p q d (updPort r (listed (slot + 1)) d) := updPort_grows r _ d fun _ => ⟨rfl, rfl, rfl, fun _ => rfl⟩
  unfold noticePort
  exact .ite (.ite (hlisted.trans (raiseEvent_grows hr _ _)) hlisted) (.refl d)

theorem noticeChanged_grows {p q : Nat} (slot mask : Nat) (d : Device) : QueueGrows p q d (noticeChanged slot mask d) :=
  (((noticePort_grows (by decide) slot mask d).trans (noticePort_grows (r := 1) (by decide) slot mask _)).trans
    (noticePort_grows (r := 2) (by decide) slot mask _)).trans (noticePort_grows (r := 3) (by decide) slot mask _)

theorem noticePort_ctl (slot mask p : Nat) (d : Device) : (noticePort slot mask d p).ctl = d.ctl ∧ (noticePort slot mask d p).sub = d.sub := by
  unfold noticePort
  split
  · split <;> simp
  · exact ⟨rfl, rfl⟩

theorem noticeChanged_ctl (slot mask : Nat) (d : Device) : (noticeChanged slot mask d).ctl = d.ctl ∧ (noticeChanged slot mask d).sub = d.sub :=
  foldl_rel (R := fun d e => e.ctl = d.ctl ∧ e.sub = d.sub) (fun _ => ⟨rfl, rfl⟩) (fun h g => ⟨g.1.trans h.1, g.2.trans h.2⟩)
    (fun d p => noticePort_ctl slot mask p d) (List.range 4) d

/-! ### Deletion, attachment, format -/

/-- The slots of a namespace command with one active NSID. -/
theorem nsid_of_active (h : nsActive c d = true) : 1 ≤ c.nsid ∧ c.nsid ≤ 1024 ∧ slotOf c + 1 = c.nsid := by
  have hrange : 1 ≤ c.nsid ∧ c.nsid ≤ 1024 := by
    unfold nsActive at h
    simp only [Bool.and_eq_true, decide_eq_true_eq] at h
    exact h.1
  unfold slotOf
  omega

/-- A namespace is inactive as soon as its deletion starts, and the deletion waits for its Region reset (R375). -/
def deleting (c : HostCmd) (d : Device) : Device :=
  noticeChanged (slotOf c) (namespace_ (slotOf c) d).attached (updNs (slotOf c) (fun n => { n with active := false }) d)

theorem delete_of_ready (hready : AdminReady c d) (hmode : d.ctl.mode ∉ [Mode.m2, .m8, .m9]) (hlost : d.settings.lost = false)
    (hactive : nsActive c d = true) :
    adminCommand i c .held (deleteNamespace c) d = { deleting c (takeEntry c.port.val 0 d) with
      sub := { (deleting c (takeEntry c.port.val 0 d)).sub with
        nsJobs := (deleting c (takeEntry c.port.val 0 d)).sub.nsJobs ++ [{ cmd := c, delete := true, slots := [slotOf c] }] } } := by
  obtain ⟨h1, h1024, -⟩ := nsid_of_active hactive
  rw [heldCommand_of_ready hready hmode]
  have hact : nsActive c (takeEntry c.port.val 0 d) = nsActive c d := rfl
  have hset : (takeEntry c.port.val 0 d).settings = d.settings := rfl
  unfold deleteNamespace
  dsimp only
  rw [hact, hset, if_neg (by simp [hactive]), if_neg (by simp [hready.2.1]), if_neg (by simp [hlost]), if_neg (by omega)]
  rfl

theorem attachFault_takeEntry (attach : Bool) (ids : List Nat) (d : Device) :
    attachFault c attach ids (takeEntry c.port.val 0 d) = attachFault c attach ids d := by
  have hcount : portCount (takeEntry c.port.val 0 d) = portCount d := by
    unfold portCount
    rw [getObj_takeEntry (portConfig_ne c.port.isLt)]
    rfl
  unfold attachFault
  rw [hcount]
  rfl

/-- The controllers that an attachment or detachment without a fault names. -/
theorem ids_of_attachFault {attach : Bool} {ids : List Nat} (h : attachFault c attach ids d = none) : ∀ x ∈ ids, 1 ≤ x := by
  intro x hx
  by_contra hlt
  have h0 : x = 0 := by omega
  unfold attachFault at h
  dsimp only at h
  split at h
  · cases h
  · split at h
    · cases h
    · split at h
      · cases h
      · split at h
        · cases h
        · next hany =>
          apply hany
          simp only [Bool.or_eq_true, List.any_eq_true]
          exact .inr ⟨x, hx, by simp [h0]⟩

/-- The attachments of a namespace change, and those that it loses are told (R373, R375). -/
theorem attach_of_ready {attach : Bool} {ids : List Nat} (hready : AdminReady c d) (hmode : d.ctl.mode ∉ [Mode.m2, .m9])
    (hactive : nsActive c d = true) (hfault : attachFault c attach ids d = none) :
    adminCommand i c .other (attachNamespace c attach ids) d =
      succeed c 0 0 [] (if attach then
        updNs (slotOf c) (fun n => { n with attached := ids.foldl (fun v i => setBit v (i - 1) attach) n.attached }) (takeEntry c.port.val 0 d)
      else noticeChanged (slotOf c) (namespace_ (slotOf c) d).attached
        (updNs (slotOf c) (fun n => { n with attached := ids.foldl (fun v i => setBit v (i - 1) attach) n.attached })
          (takeEntry c.port.val 0 d))) := by
  rw [otherCommand_of_ready hready hmode]
  have hact : nsActive c (takeEntry c.port.val 0 d) = nsActive c d := rfl
  unfold attachNamespace
  rw [hact, if_neg (by simp [hactive]), if_neg (by simp [hready.2.1]), attachFault_takeEntry, hfault]
  rfl

/-- A Format that starts: its namespace is marked, and the job waits for its Region resets (R376). -/
def formatting (c : HostCmd) (flbas dps ses : Nat) (d : Device) : Device :=
  let d := updNs (slotOf c) (fun n => { n with formatting := true }) d
  { d with sub := { d.sub with nsJobs := d.sub.nsJobs ++ [{ cmd := c, slots := [slotOf c], flbas := flbas, dps := dps, ses := ses }] } }

theorem grantFor_takeEntry (p op arg : Nat) (q : Nat) (d : Device) : grantFor p op arg (takeEntry q 0 d) = grantFor p op arg d := rfl

/-- The check of a destructive command (R544). -/
theorem destructive_eq (opcode : Nat) (ok : Device → Device) (d : Device) : destructive c opcode ok d =
    if grantFor (c.port.val + 1) 2 opcode d then ok (useGrant (c.port.val + 1) d)
    else if getObj Obj.destructiveNeedsAuth d = 1 then failCmd c 0x1 0xC1 d else ok d := rfl

/-- A Format goes on where its fields are none at fault (Table 12.6b). -/
def formatGo (c : HostCmd) (flbas dps ses : Nat) (d : Device) : Device :=
  if 2 < flbas % 16 || !protectionOk flbas dps then failField c 0x1 0x0A 40 d else formatting c flbas dps ses d

theorem formatGo_of_fit {flbas dps : Nat} (hflbas : flbas % 16 ≤ 2) (hprotection : protectionOk flbas dps = true) (ses : Nat) :
    formatGo c flbas dps ses = formatting c flbas dps ses := by
  funext x
  exact if_neg (by simp [hprotection]; omega)

/-- A Format of an active namespace that is not being formatted, with fields that are none at fault, is let go on or is not (R376, R544). -/
theorem format_of_ready {flbas dps ses : Nat} (hready : AdminReady c d) (hmode : d.ctl.mode ∉ [Mode.m2, .m8, .m9])
    (hactive : nsActive c d = true) (hformatting : (namespace_ (slotOf c) d).formatting = false) (hlost : d.settings.lost = false)
    (hses : ses ≤ 2) :
    adminCommand i c .held (formatBody c flbas dps ses) d =
      if ses = 0 then formatGo c flbas dps ses (takeEntry c.port.val 0 d)
      else destructive c 0x80 (formatGo c flbas dps ses) (takeEntry c.port.val 0 d) := by
  obtain ⟨h1, h1024, -⟩ := nsid_of_active hactive
  have hact : nsActive c (takeEntry c.port.val 0 d) = nsActive c d := rfl
  have hset : (takeEntry c.port.val 0 d).settings = d.settings := rfl
  have hns : namespace_ (slotOf c) (takeEntry c.port.val 0 d) = namespace_ (slotOf c) d := rfl
  have hslots : namedSlots c (takeEntry c.port.val 0 d) = [slotOf c] := if_neg (by omega)
  rw [heldCommand_of_ready hready hmode]
  unfold formatBody
  rw [hslots, hact, hset]
  dsimp only
  rw [if_neg (by simp [hactive]), if_neg (by simp [hready.2.1]; omega), if_neg (by simp [hns, hformatting]), if_neg (by simp [hlost])]
  rfl

theorem RecordsKept.of_updNs {f : Namespace → Namespace} {x y : Device} (hx : RecordsKept d x) (hy : RecordsKept (updNs slot f x) y) :
    namespace_ slot y = f (namespace_ slot d) ∧ (∀ k, k ≠ slot → namespace_ k y = namespace_ k d) ∧ FramesOnly d y ∧ y.sec = d.sec := by
  obtain ⟨hothers, hframes, hsec⟩ := (updNs_changes slot f x).framed hx hy
  refine ⟨?_, hothers, hframes, hsec⟩
  rw [hy.ns, namespace_updNs_self, hx.ns]

theorem useGrant_records (p : Nat) (d : Device) : RecordsKept d (useGrant p d) := ⟨rfl, rfl, rfl⟩

/-- What the start of a Format leaves, after a fetch and perhaps the use of a grant. -/
theorem formatting_leaves {x : Device} {flbas dps ses : Nat} (hx : RecordsKept d x) (hsub : x.sub = d.sub)
    (hports : OnlyPorts [c.port.val] d x) :
    namespace_ (slotOf c) (formatting c flbas dps ses x) = { namespace_ (slotOf c) d with formatting := true } ∧
    (∀ k, k ≠ slotOf c → namespace_ k (formatting c flbas dps ses x) = namespace_ k d) ∧
    (formatting c flbas dps ses x).sub.nsJobs = d.sub.nsJobs ++ [{ cmd := c, slots := [slotOf c], flbas := flbas, dps := dps, ses := ses }] ∧
    (formatting c flbas dps ses x).settings = x.settings ∧ OnlyPorts [c.port.val] d (formatting c flbas dps ses x) ∧
    FramesOnly d (formatting c flbas dps ses x) ∧ (formatting c flbas dps ses x).sec = d.sec := by
  have hparts := (updNs_changes (slotOf c) (fun n => { n with formatting := true }) x).parts
  obtain ⟨hself, hothers, hframes, hsec⟩ := hx.of_updNs (f := fun n => { n with formatting := true }) (y := formatting c flbas dps ses x)
    ⟨rfl, rfl, rfl⟩
  refine ⟨hself, hothers, ?_, ?_, fun p hp => ?_, hframes, hsec⟩
  · change (updNs (slotOf c) (fun n => { n with formatting := true }) x).sub.nsJobs ++ _ = _
    rw [hparts, ← hsub]
  · change (updNs (slotOf c) (fun n => { n with formatting := true }) x).settings = _
    rw [hparts]
  · exact (port_congr (updNs_changes (slotOf c) (fun n => { n with formatting := true }) x).calm.ports p).trans (hports p hp)

end Sys2Proof.Machine

section
open Sys2Proof Sys2Proof.Machine

/-- Settles O56: each command changes the record of its namespace alone; a creation draws its key and resets its Region besides. -/
theorem namespacesLiveAndDie : Obligations.NamespacesLiveAndDie := by
  unfold Obligations.NamespacesLiveAndDie
  refine ⟨?create, ?delete, ?attach, ?detach, ?format, ?refused⟩
  case create =>
    intro s cmd slot nsze flbas dps nmic parity hready hmode hlost hnsze hparity hformat hflbas hprotection hlt hfree hlower hroom hused hwaits
      hfull hopen
    refine .of_runDev _ rfl ?_
    rw [create_of_ready hready hmode hlost hnsze hparity hformat hflbas hprotection hlt hfree hlower hroom]
    have hport := cmd.port.isLt
    have hcreated := createRecord_created (slot := slot) (nsze := nsze) (flbas := flbas) (dps := dps) (nmic := nmic)
      (parity := parityOf parity s.dev) (d := takeEntry cmd.port.val 0 s.dev) hused
      (by unfold journalFull; rw [getObj_takeEntry (journalFrames_ne hport)]; exact hfull)
    generalize createRecord slot nsze flbas dps nmic (parityOf parity s.dev) (takeEntry cmd.port.val 0 s.dev) = a at hcreated
    generalize hl : logRec Code.namespaceCreated [slot + 1, nsze, parityOf parity s.dev] a = l
    have haside : Aside a l := hl ▸ logRec_aside _ _ a
    have hend := succeed_only cmd (slot + 1) 0 [] l
    have hsub : l.sub.namespaces = a.sub.namespaces := by rw [haside.sub]
    have hns : ∀ k, namespace_ k (succeed cmd (slot + 1) 0 [] l) = namespace_ k a := fun k =>
      (hend.records.ns k).trans (by unfold namespace_; rw [hsub])
    have hsec : (succeed cmd (slot + 1) 0 [] l).sec = a.sec := hend.records.sec.trans haside.sec
    have hmedia : (succeed cmd (slot + 1) 0 [] l).media = a.media := hend.media.trans haside.media
    have halog : a.log = s.dev.log := by rw [hcreated.parts]; rfl
    refine ⟨succeeds_of_succeed _ _ _ hready.room ?_, ?_, fun k hk => ?_, ?_, fun k hk => ?_, ?_, ?_, fun l' hl' => ?_, ?_, ?_, ?_⟩
    · rw [← hl]
      exact ((takeEntry_grows hport 0 s.dev).trans (hcreated.calm.grows hport)).trans (logRec_grows hport _ _ a)
    · rw [hns]
      exact hcreated.record
    · rw [hns]
      exact hcreated.others k hk
    · rw [hns, hsec]
      exact hcreated.live
    · rw [hns] at hk
      rw [hsec]
      exact hcreated.keys k hk
    · rw [hmedia]
      exact hcreated.entries
    · have hrec := logRec_recorded_of_log Code.namespaceCreated [slot + 1, nsze, parityOf parity s.dev] halog hopen
      rw [hl] at hrec
      exact hrec.congr rfl (by rw [hend.log])
    · have hledger : ledger l' a = ledger l' s.dev := by
        unfold ledger
        rw [hcreated.parts]
        rfl
      have h7 : l' ≠ 7 := by simpa using hl'
      refine Eq.trans ?_ ((haside.ledgers l' h7).trans hledger)
      unfold ledger
      rw [hend.parts]
    · rw [hend.ctl, haside.ctl, hcreated.parts]
      rfl
    · rw [show (succeed cmd (slot + 1) 0 [] l).settings = l.settings by rw [hend.parts], haside.settings, hcreated.parts]
      rfl
    · rw [hmedia, hcreated.stored]
      rfl
  case delete =>
    intro s cmd hready hmode hlost hactive
    refine .of_runDev _ rfl ?_
    rw [delete_of_ready hready hmode hlost hactive]
    obtain ⟨-, -, hnsid⟩ := nsid_of_active hactive
    have htake := (takeEntry_only cmd.port.val 0 s.dev).records
    have hparts := (updNs_changes (slotOf cmd) (fun n => { n with active := false }) (takeEntry cmd.port.val 0 s.dev)).parts
    obtain ⟨hctl, hsub⟩ := noticeChanged_ctl (slotOf cmd) (namespace_ (slotOf cmd) (takeEntry cmd.port.val 0 s.dev)).attached
      (updNs (slotOf cmd) (fun n => { n with active := false }) (takeEntry cmd.port.val 0 s.dev))
    have hnotice := noticeChanged_records (slotOf cmd) (namespace_ (slotOf cmd) (takeEntry cmd.port.val 0 s.dev)).attached
      (updNs (slotOf cmd) (fun n => { n with active := false }) (takeEntry cmd.port.val 0 s.dev))
    have hlists := fun p (hp : p < 4) hb => noticeChanged_lists (slot := slotOf cmd)
      (namespace_ (slotOf cmd) (takeEntry cmd.port.val 0 s.dev)).attached hp hb
      (updNs (slotOf cmd) (fun n => { n with active := false }) (takeEntry cmd.port.val 0 s.dev))
    unfold deleting
    generalize noticeChanged (slotOf cmd) (namespace_ (slotOf cmd) (takeEntry cmd.port.val 0 s.dev)).attached
      (updNs (slotOf cmd) (fun n => { n with active := false }) (takeEntry cmd.port.val 0 s.dev)) = a at hctl hsub hnotice hlists
    obtain ⟨hself, hothers, hframes, hsec⟩ := htake.of_updNs (hnotice.trans (⟨rfl, rfl, rfl⟩ : RecordsKept a { a with
      sub := { a.sub with nsJobs := a.sub.nsJobs ++ [{ cmd := cmd, delete := true, slots := [slotOf cmd] }] } }))
    refine ⟨by rw [hself], hothers, ?_, fun p hp hb => ?_, hframes, hsec, ?_⟩
    · change a.sub.nsJobs ++ _ = _
      rw [hsub, hparts]
      rfl
    · rw [← hnsid]
      exact hlists p hp hb
    · change a.ctl = _
      rw [hctl, hparts]
      rfl
  case attach =>
    intro s cmd ids hready hmode hactive hfault
    refine .of_runDev _ rfl ?_
    rw [attach_of_ready hready hmode hactive hfault, if_pos rfl]
    have hrecord := namespace_updNs_self (slotOf cmd) (fun n => { n with attached := ids.foldl (fun v i => setBit v (i - 1) true) n.attached })
      (takeEntry cmd.port.val 0 s.dev)
    have htake : NsChange (slotOf cmd) (takeEntry cmd.port.val cmd.sqid s.dev) (updNs (slotOf cmd) (fun n => { n with
        attached := ids.foldl (fun v i => setBit v (i - 1) true) n.attached }) (takeEntry cmd.port.val 0 s.dev)) := by
      rw [hready.1]
      exact updNs_changes _ _ _
    obtain ⟨hsucceeds, hrecords, hothers, hports, hframes⟩ := succeed_framed hready.room htake
    refine ⟨hsucceeds, fun p _ => ?_, ?_, hothers, hports, hframes⟩
    · rw [hrecords, hrecord]
      refine (bitOf_foldl_setBit true ids _ p (ids_of_attachFault hfault)).trans ?_
      change (if p + 1 ∈ ids then true else bitOf (namespace_ (slotOf cmd) s.dev).attached p) = _
      by_cases hp : p + 1 ∈ ids <;> simp [hp]
    · rw [hrecords, hrecord]
      rfl
  case detach =>
    intro s cmd ids hready hmode hactive hfault
    refine .of_runDev _ rfl ?_
    rw [attach_of_ready hready hmode hactive hfault, if_neg (by decide)]
    obtain ⟨-, -, hnsid⟩ := nsid_of_active hactive
    generalize hf : (fun n : Namespace => { n with attached := ids.foldl (fun v i => setBit v (i - 1) false) n.attached }) = f
    have hnotice := noticeChanged_records (slotOf cmd) (namespace_ (slotOf cmd) s.dev).attached (updNs (slotOf cmd) f (takeEntry cmd.port.val 0 s.dev))
    have hlists := fun p (hp : p < 4) hb => noticeChanged_lists (slot := slotOf cmd) (namespace_ (slotOf cmd) s.dev).attached hp hb
      (updNs (slotOf cmd) f (takeEntry cmd.port.val 0 s.dev))
    have hgrows := (takeEntry_grows (q := cqOf cmd s.dev) cmd.port.isLt 0 s.dev).trans
      (((updNs_changes (slotOf cmd) f (takeEntry cmd.port.val 0 s.dev)).calm.grows cmd.port.isLt).trans
        (noticeChanged_grows (slotOf cmd) (namespace_ (slotOf cmd) s.dev).attached _))
    generalize noticeChanged (slotOf cmd) (namespace_ (slotOf cmd) s.dev).attached
      (updNs (slotOf cmd) f (takeEntry cmd.port.val 0 s.dev)) = a at hnotice hlists hgrows
    obtain ⟨hself, hothers, hframes, -⟩ := (takeEntry_only cmd.port.val 0 s.dev).records.of_updNs
      (hnotice.trans (succeed_only cmd 0 0 [] a).records)
    refine ⟨succeeds_of_succeed 0 0 [] hready.room hgrows, fun p _ => ?_, fun p hp hb => ?_, ?_, hothers, hframes⟩
    · rw [hself, ← hf]
      refine (bitOf_foldl_setBit false ids _ p (ids_of_attachFault hfault)).trans ?_
      by_cases hp : p + 1 ∈ ids <;> simp [hp]
    · have hkept := (postCompletion_aside cmd.port.isLt { sqid := cmd.sqid, cid := cmd.cid } a).changedOf p
      unfold changedOf at hkept
      unfold succeed
      rw [hkept, ← hnsid]
      exact hlists p hp hb
    · rw [hself, ← hf]
  case format =>
    intro s cmd flbas dps ses hready hmode hactive hformatting hlost hflbas hprotection hses hallowed
    refine .of_runDev _ rfl ?_
    rw [format_of_ready hready hmode hactive hformatting hlost hses, formatGo_of_fit hflbas hprotection, destructive_eq, grantFor_takeEntry, getObj_takeEntry (destructiveNeedsAuth_ne cmd.port.isLt)]
    have htake := takeEntry_only cmd.port.val 0 s.dev
    have hplain := formatting_leaves (flbas := flbas) (dps := dps) (ses := ses) htake.records rfl htake.others
    obtain ⟨hself, hothers, hjobs, hsettings, hports, hframes, hsec⟩ := hplain
    by_cases hses0 : ses = 0
    · rw [if_pos hses0]
      exact ⟨hself, hothers, hjobs, fun h => absurd hses0 h, fun _ => hsettings, hports, hframes, hsec⟩
    · rw [if_neg hses0]
      by_cases hgrant : grantFor (cmd.port.val + 1) 2 0x80 s.dev = true
      · rw [if_pos hgrant]
        obtain ⟨hself, hothers, hjobs, hsettings, hports, hframes, hsec⟩ := formatting_leaves (flbas := flbas) (dps := dps) (ses := ses)
          (x := useGrant (cmd.port.val + 1) (takeEntry cmd.port.val 0 s.dev)) (htake.records.trans (useGrant_records _ _)) rfl htake.others
        refine ⟨hself, hothers, hjobs, fun _ _ => ?_, fun h => absurd h hses0, hports, hframes, hsec⟩
        rw [pathState_congr hsettings]
        unfold useGrant
        rw [pathState_updPath_self]
      · have hauth : getObj Obj.destructiveNeedsAuth s.dev ≠ 1 := (hallowed.resolve_left hses0).resolve_right hgrant
        rw [if_neg hgrant, if_neg hauth]
        exact ⟨hself, hothers, hjobs, fun _ h => absurd h hgrant, fun h => absurd h hses0, hports, hframes, hsec⟩
  case refused =>
    intro s cmd flbas dps ses hready hmode hactive hformatting hlost hses hauth hgrant
    have h2 : ses ≠ 0 ∧ ses ≤ 2 := by
      simp only [List.mem_cons, List.not_mem_nil, or_false] at hses
      omega
    refine .of_runDev _ rfl ?_
    rw [format_of_ready hready hmode hactive hformatting hlost h2.2, if_neg h2.1, destructive_eq, grantFor_takeEntry, getObj_takeEntry (destructiveNeedsAuth_ne cmd.port.isLt),
      if_neg (by simp [hgrant]), if_pos hauth]
    have honly := (takeEntry_only cmd.port.val 0 s.dev).trans (failWith_only cmd 0x1 0xC1 (dnrOf 0x1 0xC1) 0 0 0xFFFF 0 _)
    exact ⟨completes_of_failWith _ _ _ _ _ _ _ hready.room (takeEntry_grows cmd.port.isLt 0 s.dev) ⟨rfl, rfl⟩,
      (congrArg Device.sub honly.parts :), honly.media, honly.records.sec⟩

end
end

section
/-! PROOFS. Authorisation keys and rights, and the recovery objects (spec/18 R546, spec/20 R596, R597): O50. -/
-- The proofs are elaborated one after another: see the first file of these proofs.
set_option Elab.async false

namespace Sys2Proof.Machine

/-! ### Guarded writes -/

variable {path key slot : Nat} {bytes : List Byte} {d : Device}

/-- A guarded object is written with the path's grant used (R417, R418). -/
theorem authorise_of_granted (h : Granted path key d) (hacc : accessOf key = .grd) :
    authorise path key [(key, bytes)] d = .ok (useGrant path d) := by
  obtain ⟨⟨-, -, hmode⟩, hlocked, hgrant⟩ := h
  have hm2 : d.ctl.mode ≠ .m2 := by
    intro hm
    rw [hm] at hmode
    revert hmode
    decide
  unfold authorise
  rw [if_neg (by simp [hm2, hacc]), if_neg (by simp [hlocked]), if_pos hgrant]

/-- The modes of R403 allow every object but those of the recovery. -/
theorem writeAdmitted_of_admitted (h : Admitted path d) (hkey : key / 256 ≠ 0x7040) : writeAdmitted key d = true := by
  obtain ⟨-, -, hmode⟩ := h
  unfold writeAdmitted
  generalize d.ctl.mode = m at hmode
  simp only [List.mem_cons, List.not_mem_nil, or_false] at hmode
  rcases hmode with rfl | rfl | rfl | rfl | rfl | rfl | rfl <;> simp [hkey]

/-- What Table 13.7 says of an object that a right guards, is not stored, and belongs to no group. -/
structure PlainGuarded (key : Nat) : Prop where
  present : absent (key / 256) (key % 256) = none
  access : accessOf key = .grd
  unstored : storedObject key = false
  uncommitted : isCommit key = false
  kept : key ≠ Obj.settingsRestoreDefaults
  single : isMember key = false
  index : key / 256 ≠ 0x7040

theorem PlainGuarded.write (hk : PlainGuarded key) (h : Granted path key d) (hshape : shape key bytes = ([(key, bytes)], none))
    (hrange : inRange [(key, bytes)] (useGrant path d) key bytes = true) : SingleWrite path key bytes d (useGrant path d) where
  present := hk.present
  parts := hshape
  admitted := writeAdmitted_of_admitted h.1 hk.index
  writable := by rw [hk.access]; decide
  served := .inr hk.unstored
  authorised := authorise_of_granted h hk.access
  range := hrange
  uncommitted := hk.uncommitted
  kept := hk.kept
  single := hk.single

theorem Granted.valid (h : Granted path key d) : validPath path = true := validPath_of h.1.1 h.1.2.1

/-! ### The challenges that name a slot end -/

/-- The device with the challenges that name a slot withdrawn (R546). -/
def challengesEnded (slot : Nat) (d : Device) : Device :=
  [1, 2, 3, 4, 5].foldl (fun d q => withdrawChallenges q (·.slot == slot) d) d

theorem withdrawSlot_own (slot t : Nat) :
    OwnShare pathState (fun s => { s with challenges := s.challenges.filter fun c => !(c.slot == slot) })
      (fun d q => withdrawChallenges q (·.slot == slot) d) t where
  own d p _ := by rw [pathState_withdrawChallenges, if_pos rfl]
  others d p q h := by rw [pathState_withdrawChallenges, if_neg h]
  time d p := rfl

theorem pathState_challengesEnded (slot : Nat) {p : Nat} (hp : p ∈ [1, 2, 3, 4, 5]) (d : Device) : pathState p (challengesEnded slot d) =
    { pathState p d with challenges := (pathState p d).challenges.filter fun c => !(c.slot == slot) } :=
  ((withdrawSlot_own slot (nowMs d)).foldl (by decide) rfl p).trans (if_pos hp)

theorem challengesEnded_units (slot : Nat) (d : Device) : UnitsChange d (challengesEnded slot d) :=
  foldl_rel (R := UnitsChange) (fun _ => ⟨rfl, fun _ _ => rfl⟩) (fun h g => h.trans g) (fun d q => withdrawChallenges_units q _ d) _ d

/-! ### Keys and rights -/

/-- What a change of an authorisation slot leaves, besides the slot itself (R546). -/
structure SlotChanged (path slot : Nat) (d e : Device) : Prop where
  challenges : ∀ p ∈ [1, 2, 3, 4, 5], ∀ c ∈ (pathState p e).challenges, c.slot ≠ slot
  grant : path ∈ [1, 2, 3, 4, 5] → (pathState path e).grant = (pathState path d).grant
  recorded : WriterOpen d → Recorded Code.authKeyChanged [slot, path] d e
  ledgers : OnlyLedgers [7, 8] d e
  objs : OnlyObjs asideObjs d e
  media : e.media = d.media
  ctl : e.ctl = d.ctl

theorem slotChanged_of_sec (path slot : Nat) (x : Security) (d : Device) :
    SlotChanged path slot d (logRec Code.authKeyChanged [slot, path] { challengesEnded slot d with sec := x }) := by
  have hunits := challengesEnded_units slot d
  have hstate := fun p (hp : p ∈ [1, 2, 3, 4, 5]) => pathState_challengesEnded slot hp d
  generalize challengesEnded slot d = b at *
  have haside := logRec_aside Code.authKeyChanged [slot, path] { b with sec := x }
  have hpath : ∀ p, pathState p (logRec Code.authKeyChanged [slot, path] { b with sec := x }) = pathState p b := fun p =>
    pathState_congr haside.settings
  refine ⟨fun p hp c hc => ?_, fun hp => ?_, fun hopen => ?_, fun l hl => ?_, fun k hk => ?_, ?_, ?_⟩
  · rw [hpath, hstate p hp] at hc
    simpa using (List.mem_filter.mp hc).2
  · rw [hpath, hstate path hp]
  · exact logRec_recorded_of_log _ _ (by rw [hunits.1]) hopen
  · rw [haside.ledgers l (by rintro rfl; simp at hl)]
    exact hunits.2 l (fun h => hl (List.mem_cons_of_mem _ h))
  · rw [haside.objs k hk]
    show getObj k b = getObj k d
    rw [hunits.1]
    rfl
  · rw [haside.media]
    show b.media = d.media
    rw [hunits.1]
  · rw [haside.ctl]
    show b.ctl = d.ctl
    rw [hunits.1]

/-- An entry of the key area joins with a change of an authorisation slot. -/
theorem appendKeyEntry_of_room (f : SMap AuthSlot → SMap AuthSlot) (h : d.sec.used < 1364) :
    appendKeyEntry (updSec (fun s => { s with auth := f s.auth }) d) =
      { d with sec := { d.sec with auth := f d.sec.auth, used := d.sec.used + 1 } } := by
  unfold appendKeyEntry
  rw [if_pos (show (updSec (fun s => { s with auth := f s.auth }) d).sec.used < 1364 from h)]
  rfl

/-- An authorisation slot after a write of its AuthKey. -/
def keyPut (bytes : List Byte) (x : AuthSlot) : AuthSlot :=
  if bytes.isEmpty then { generation := x.generation } else { x with key := some bytes, generation := x.generation + 1 }

theorem keyPut_key (bytes : List Byte) (x : AuthSlot) : (keyPut bytes x).key = if bytes = [] then none else some bytes := by
  cases bytes <;> rfl

/-- The security block after a write of AuthKey. -/
def keyWritten (slot : Nat) (bytes : List Byte) (x : Security) : Security :=
  { x with auth := smUpd {} slot (keyPut bytes) x.auth, used := if bytes.isEmpty then x.used else x.used + 1 }

theorem sec_challengesEnded (slot : Nat) (d : Device) : (challengesEnded slot d).sec = d.sec := by
  rw [(challengesEnded_units slot d).1]

theorem writeAuthKey_eq (h : d.sec.used < 1364) (path : Nat) : writeAuthKey path slot bytes d =
    logRec Code.authKeyChanged [slot, path] { challengesEnded slot d with sec := keyWritten slot bytes d.sec } := by
  have hsec := sec_challengesEnded slot d
  unfold writeAuthKey
  change logRec _ _ (if bytes.isEmpty then updSec (fun s => { s with auth := smUpd {} slot (keyPut bytes) s.auth }) (challengesEnded slot d)
    else appendKeyEntry (updSec (fun s => { s with auth := smUpd {} slot (keyPut bytes) s.auth }) (challengesEnded slot d))) = _
  generalize challengesEnded slot d = b at hsec ⊢
  unfold keyWritten
  rw [← hsec] at h ⊢
  cases he : bytes.isEmpty with
  | true => rfl
  | false => exact congrArg (logRec Code.authKeyChanged [slot, path]) (appendKeyEntry_of_room (smUpd {} slot (keyPut bytes)) h)

/-- An authorisation slot after a write of its AuthRights. -/
def rightsPut (slot rights : Nat) (x : AuthSlot) : AuthSlot :=
  { x with rights := if slot = 0 then 0 else rights, generation := x.generation + 1 }

/-- The security block after a write of AuthRights. -/
def rightsWritten (slot rights : Nat) (x : Security) : Security :=
  { x with auth := smUpd {} slot (rightsPut slot rights) x.auth, used := x.used + 1 }

theorem writeAuthRights_eq (h : d.sec.used < 1364) (path rights : Nat) : writeAuthRights path slot rights d =
    logRec Code.authKeyChanged [slot, path] { challengesEnded slot d with sec := rightsWritten slot rights d.sec } := by
  have hsec := sec_challengesEnded slot d
  unfold writeAuthRights
  change logRec _ _ (appendKeyEntry (updSec (fun s => { s with auth := smUpd {} slot (rightsPut slot rights) s.auth }) (challengesEnded slot d))) = _
  generalize challengesEnded slot d = b at hsec ⊢
  unfold rightsWritten
  rw [← hsec] at h ⊢
  exact congrArg (logRec Code.authKeyChanged [slot, path]) (appendKeyEntry_of_room (smUpd {} slot (rightsPut slot rights)) h)

/-- The answer to a write of an authorisation object: what the statement asks beside the slot itself. -/
structure SlotAnswered (path slot : Nat) (d e : Device) : Prop where
  challenges : ∀ p ∈ [1, 2, 3, 4, 5], ∀ c ∈ (pathState p e).challenges, c.slot ≠ slot
  recorded : WriterOpen d → Recorded Code.authKeyChanged [slot, path] d e
  answered : Answered path d e
  grant : (pathState path e).grant = none
  ledgers : OnlyLedgers [7, 8] d e
  objs : OnlyObjs ([Obj.dictionaryRequests] ++ asideObjs) d e
  media : e.media = d.media
  ctl : e.ctl = d.ctl

theorem slotAnswered_of_changed {b : Device} (hp : path ∈ [1, 2, 3, 4, 5]) (h : SlotChanged path slot (useGrant path d) b) :
    SlotAnswered path slot d (answerPath path none [] b) := by
  have hgrant : (pathState path (useGrant path d)).grant = none := congrArg PathState.grant (pathState_updPath_self _ _ _)
  refine ⟨fun p hq c hc => ?_, fun hopen => ?_, ⟨?_, ?_⟩, ?_, fun l hl => h.ledgers l hl, fun k hk => ?_, h.media, h.ctl⟩
  · by_cases hpp : p = path
    · subst hpp
      rw [pathState_answerPath] at hc
      exact h.challenges p hq c hc
    · rw [pathState_answerPath_ne hpp] at hc
      exact h.challenges p hq c hc
  · exact (h.recorded hopen).congr rfl rfl
  · rw [pathState_answerPath]
  · rw [answerPath_requests, h.objs _ (by decide)]
    rfl
  · rw [pathState_answerPath]
    exact (h.grant hp).trans hgrant
  · simp only [List.singleton_append, List.mem_cons, not_or] at hk
    rw [getObj_answerPath hk.1, h.objs k hk.2]
    rfl

theorem SlotAnswered.of_sec (hp : path ∈ [1, 2, 3, 4, 5]) (x : Security) : SlotAnswered path slot d (answerPath path none []
    (logRec Code.authKeyChanged [slot, path] { challengesEnded slot (useGrant path d) with sec := x })) :=
  slotAnswered_of_changed hp (slotChanged_of_sec path slot x (useGrant path d))

theorem sec_answered (path code : Nat) (snaps : List Nat) (b : Device) : (answerPath path none [] (logRec code snaps b)).sec = b.sec :=
  (logRec_aside code snaps b).sec

theorem authKey_facts : ∀ slot < 8, (objRow? (0x441001 + slot)).map (fun r => typeSize r.typ) = some 0 ∧
    absent 0x4410 (slot + 1) = none ∧ accessOf (0x441001 + slot) = .grd ∧ storedObject (0x441001 + slot) = false ∧
    isCommit (0x441001 + slot) = false ∧ isMember (0x441001 + slot) = false := by decide +kernel

theorem authRights_facts : ∀ slot < 8,
    (objRow? (0x441101 + slot)).map (fun r => (typeSize r.typ, r.lo, r.hi)) = some (1, 0, 255) ∧
    absent 0x4411 (slot + 1) = none ∧ accessOf (0x441101 + slot) = .grd ∧ storedObject (0x441101 + slot) = false ∧
    isCommit (0x441101 + slot) = false ∧ isMember (0x441101 + slot) = false := by decide +kernel

theorem authKey_div_mod (hslot : slot < 8) : (0x441001 + slot) / 256 = 0x4410 ∧ (0x441001 + slot) % 256 = slot + 1 := by omega

theorem authRights_div_mod (hslot : slot < 8) : (0x441101 + slot) / 256 = 0x4411 ∧ (0x441101 + slot) % 256 = slot + 1 := by omega

theorem authKey_guarded (hslot : slot < 8) : PlainGuarded (0x441001 + slot) := by
  obtain ⟨-, habs, hacc, hst, hcom, hmem⟩ := authKey_facts slot hslot
  obtain ⟨hdiv, hmod⟩ := authKey_div_mod hslot
  refine ⟨by rw [hdiv, hmod]; exact habs, hacc, hst, hcom, fun h => ?_, hmem, by rw [hdiv]; decide⟩
  have : (0x441001 + slot) / 256 = Obj.settingsRestoreDefaults / 256 := congrArg (· / 256) h
  rw [hdiv] at this
  revert this
  decide

theorem authRights_guarded (hslot : slot < 8) : PlainGuarded (0x441101 + slot) := by
  obtain ⟨-, habs, hacc, hst, hcom, hmem⟩ := authRights_facts slot hslot
  obtain ⟨hdiv, hmod⟩ := authRights_div_mod hslot
  refine ⟨by rw [hdiv, hmod]; exact habs, hacc, hst, hcom, fun h => ?_, hmem, by rw [hdiv]; decide⟩
  have : (0x441101 + slot) / 256 = Obj.settingsRestoreDefaults / 256 := congrArg (· / 256) h
  rw [hdiv] at this
  revert this
  decide

theorem writeEffect_authKey (h : key / 256 = 0x4410) (out : StoreOutcome) :
    writeEffect path key bytes out d = some (writeAuthKey path (key % 256 - 1) bytes d) := by
  unfold writeEffect
  dsimp only
  rw [if_neg (by rintro rfl; revert h; decide), if_neg (by rintro rfl; revert h; decide), if_pos h]

theorem writeEffect_authRights (h : key / 256 = 0x4411) (out : StoreOutcome) :
    writeEffect path key bytes out d = some (writeAuthRights path (key % 256 - 1) (writtenBits key (ofLe bytes)) d) := by
  unfold writeEffect
  dsimp only
  rw [if_neg (by rintro rfl; revert h; decide), if_neg (by rintro rfl; revert h; decide), if_neg (by omega), if_pos h]

theorem Granted.mem (h : Granted path key d) : path ∈ [1, 2, 3, 4, 5] := by
  obtain ⟨⟨h1, h5, -⟩, -, -⟩ := h
  simp only [List.mem_cons, List.not_mem_nil, or_false]
  omega

/-- An authorised write of AuthKey (R546). -/
theorem authKeyRequest {i : Instr} {out : StoreOutcome} (hslot : slot < 8) (hgranted : Granted path (0x441001 + slot) d)
    (hkey : bytes.length = 32 ∨ bytes = [] ∧ slot ≠ 0) (hused : d.sec.used < 1364) :
    writeRequest i path 0x4410 (slot + 1) bytes out d = answerPath path none [] (logRec Code.authKeyChanged [slot, path]
      { challengesEnded slot (useGrant path d) with sec := keyWritten slot bytes d.sec }) := by
  obtain ⟨htype, -, -, -, -, -⟩ := authKey_facts slot hslot
  obtain ⟨hdiv, hmod⟩ := authKey_div_mod hslot
  obtain ⟨r, hrow, hsize⟩ := Option.map_eq_some_iff.mp htype
  have hshape : shape (0x441001 + slot) bytes = ([(0x441001 + slot, bytes)], none) := by
    unfold shape
    rw [hrow]
    dsimp only
    rw [if_pos (by simp [hsize])]
  have hrange : inRange [(0x441001 + slot, bytes)] (useGrant path d) (0x441001 + slot) bytes = true := by
    unfold inRange
    rw [hrow, hdiv, hmod]
    rcases hkey with h | ⟨h, h0⟩
    · simp [h]
    · simp [h]
      omega
  have hwrite := ((authKey_guarded hslot).write hgranted hshape hrange).done (authKey_guarded hslot).unstored (out := out)
    (writeEffect_authKey hdiv out)
  rw [hdiv, hmod, Nat.add_sub_cancel] at hwrite
  rw [writeRequest_of_done hgranted.valid hwrite, writeAuthKey_eq (d := useGrant path d) hused]
  rfl

/-- An authorised write of AuthRights (R546). -/
theorem authRightsRequest {i : Instr} {out : StoreOutcome} {rights : Nat} (hslot : slot < 8) (hgranted : Granted path (0x441101 + slot) d)
    (hrights : rights < 16) (h15 : slot = 0 → rights = 15) (hused : d.sec.used < 1364) :
    writeRequest i path 0x4411 (slot + 1) (leBytes 1 rights) out d = answerPath path none [] (logRec Code.authKeyChanged [slot, path]
      { challengesEnded slot (useGrant path d) with sec := rightsWritten slot rights d.sec }) := by
  obtain ⟨htype, -, -, -, -, -⟩ := authRights_facts slot hslot
  obtain ⟨hdiv, hmod⟩ := authRights_div_mod hslot
  obtain ⟨r, hrow, hr⟩ := Option.map_eq_some_iff.mp htype
  simp only [Prod.mk.injEq] at hr
  obtain ⟨hsize, hlo, hhi⟩ := hr
  have hof : ofLe (leBytes 1 rights) = rights := by
    interval_cases rights <;> rfl
  have hbits : writtenBits (0x441101 + slot) rights = rights := by
    unfold writtenBits
    rw [if_neg (by omega), if_neg (fun h => by
      have : (0x441101 + slot) / 256 = Obj.portClocking / 256 := congrArg (· / 256) h
      rw [hdiv] at this
      revert this
      decide)]
  have hshape : shape (0x441101 + slot) (leBytes 1 rights) = ([(0x441101 + slot, leBytes 1 rights)], none) :=
    shape_of_length hrow (by rw [hsize]; rfl)
  have hne : 0x441101 + slot ≠ Obj.recoveryChunk := fun h => by
    have : (0x441101 + slot) / 256 = Obj.recoveryChunk / 256 := congrArg (· / 256) h
    rw [hdiv] at this
    revert this
    decide
  have hrange : inRange [(0x441101 + slot, leBytes 1 rights)] (useGrant path d) (0x441101 + slot) (leBytes 1 rights) = true := by
    unfold inRange
    rw [hrow, hof, hbits, hdiv, hmod]
    simp [hlo, hhi, hne, hrights]
    omega
  have hwrite := ((authRights_guarded hslot).write hgranted hshape hrange).done (authRights_guarded hslot).unstored (out := out)
    (writeEffect_authRights hdiv out)
  rw [hof, hbits, hdiv, hmod, Nat.add_sub_cancel] at hwrite
  rw [writeRequest_of_done hgranted.valid hwrite, writeAuthRights_eq (d := useGrant path d) hused]
  rfl

/-! ### The recovery objects -/

/-- A recovery object is written in M2 without a grant (R598). -/
theorem recovery_single (hmode : d.ctl.mode = .m2) (hkey : key = Obj.recoveryChunk ∨ key = Obj.recoveryCommit)
    (hshape : shape key bytes = ([(key, bytes)], none)) (hrange : inRange [(key, bytes)] d key bytes = true) :
    SingleWrite path key bytes d d where
  present := by rcases hkey with rfl | rfl <;> decide +kernel
  parts := hshape
  admitted := by
    unfold writeAdmitted
    rw [hmode]
    rcases hkey with rfl | rfl <;> decide
  writable := by rcases hkey with rfl | rfl <;> decide +kernel
  served := .inl (by rw [hmode]; decide)
  authorised := by
    unfold authorise
    rw [if_pos (by simp [hmode])]
  range := hrange
  uncommitted := by rcases hkey with rfl | rfl <;> decide
  kept := by rcases hkey with rfl | rfl <;> decide
  single := by rcases hkey with rfl | rfl <;> decide

theorem recoveryChunk_row : objRow? Obj.recoveryChunk =
    some ⟨0x7040, 0x7040, 0x03, 0x03, .blob, .wo, false, 0, .reads, 0, 0, false, false⟩ := by decide +kernel

theorem recoveryCommit_row : objRow? Obj.recoveryCommit =
    some ⟨0x7040, 0x7040, 0x04, 0x04, .u8, .wo, false, 0, .reads, 1, 3, false, false⟩ := by decide +kernel

theorem recoveryChunk_single (hmode : d.ctl.mode = .m2) (hlo : 1 ≤ bytes.length) (hhi : bytes.length ≤ 4096) :
    SingleWrite path Obj.recoveryChunk bytes d d := by
  refine recovery_single hmode (.inl rfl) ?_ ?_
  · unfold shape
    rw [recoveryChunk_row]
    rfl
  · unfold inRange
    rw [recoveryChunk_row]
    change decide (1 ≤ bytes.length && bytes.length ≤ 4096) = true
    simp [hlo, hhi]

theorem recoveryCommit_single (hmode : d.ctl.mode = .m2) {v : Nat} (hv : v ∈ [1, 2, 3]) :
    SingleWrite path Obj.recoveryCommit (leBytes 1 v) d d := by
  refine recovery_single hmode (.inr rfl) (shape_of_length recoveryCommit_row rfl) (inRange_of_row recoveryCommit_row ?_ ?_ ?_ ?_)
  · decide
  · decide
  all_goals
    revert v
    decide

/-- A write of RecoveryCommit is answered once it has its effect. -/
theorem recoveryCommitRequest {i : Instr} {e : Device} (h1 : 1 ≤ path) (h5 : path ≤ 5) (hmode : d.ctl.mode = .m2) {v : Nat} (hv : v ∈ [1, 2, 3])
    (he : recoveryCommit path v d = some e) : writeValue i path Obj.recoveryCommit v {} d = answerPath path none [] e := by
  have hof : ∀ v ∈ [1, 2, 3], ofLe (leBytes 1 v) = v := by decide
  have hsize : objSize Obj.recoveryCommit = 1 := by decide +kernel
  unfold writeValue
  rw [hsize]
  refine writeRequest_of_done (validPath_of h1 h5) ((recoveryCommit_single hmode hv).done (by decide +kernel) ?_)
  change recoveryCommit path (writtenBits Obj.recoveryCommit (ofLe (leBytes 1 v))) d = some e
  rw [hof v hv]
  exact he

/-! ### A piece of a recovery image -/

theorem eraseForPiece_written (target code : Nat) (p : Piece) (earlier : List Piece) (d : Device) :
    WearOnly d.cs (eraseForPiece target code p earlier d).cs ∧ eraseForPiece target code p earlier d =
      { d with cs := (eraseForPiece target code p earlier d).cs } := by
  unfold eraseForPiece
  dsimp only
  split
  · exact ⟨rfl, rfl⟩
  · exact ⟨eraseBlocks_wear _ _ d.cs, rfl⟩

/-- The component of a slot that a piece at offset 0 replaces is gone, and its blocks are erased (R596). -/
def targetOpened (target code : Nat) (p : Piece) (d : Device) : Device :=
  if 1 ≤ code && code ≤ 4 then
    eraseForPiece target code p [] (updSlot target (fun f => { f with comps := smErase code f.comps }) d)
  else d

theorem targetOpened_written (target code : Nat) (p : Piece) (d : Device) : SlotsWritten d (targetOpened target code p d) := by
  unfold targetOpened
  split
  · obtain ⟨hwear, hparts⟩ := eraseForPiece_written target code p [] (updSlot target (fun f => { f with comps := smErase code f.comps }) d)
    rw [hparts]
    exact (updSlot_written _ _ d).trans hwear.written
  · rfl

theorem comps_targetOpened {code : Nat} (h1 : 1 ≤ code) (h4 : code ≤ 4) (t : Nat) (p : Piece) (d : Device) :
    smGet {} (fwSlot t (targetOpened t code p d)).comps code = {} := by
  unfold targetOpened
  rw [if_pos (by simp [h1, h4])]
  obtain ⟨hwear, hparts⟩ := eraseForPiece_written t code p [] (updSlot t (fun f => { f with comps := smErase code f.comps }) d)
  rw [hparts, hwear.fwSlot t]
  by_cases ht : t ∈ [1, 2]
  · rw [fwSlot_updSlot_self ht]
    exact smGet_smErase_self _ _ _
  · have hne : t ≠ 1 ∧ t ≠ 2 := by simpa using ht
    unfold fwSlot
    rw [if_neg hne.1, if_neg hne.2]
    rfl

/-- The first piece of a component is the only one, and its header names the component (R596). -/
def pieceNamed (path : Nat) (p : Piece) (header : Nat × Component) (d : Device) : Device :=
  setObj Obj.recoveryBytesWritten p.bytes
    (updCs (fun c => { c with recPath := path, recCode := header.1, recComp := header.2, recPieces := [p] }) d)

def recoveryOpened (path : Nat) (p : Piece) (header : Nat × Component) (d : Device) : Device :=
  targetOpened (getObj Obj.recoveryTargetSlot d) header.1 p (pieceNamed path p header d)

/-- The device with one more piece of the component. -/
def recoveryGrown (p : Piece) (d : Device) : Device :=
  addObj Obj.recoveryBytesWritten p.bytes (updCs (fun c => { c with recPieces := p :: c.recPieces })
    (eraseForPiece (getObj Obj.recoveryTargetSlot d) d.cs.recCode p d.cs.recPieces d))

theorem recoveryPiece_first {p : Piece} (hoff : p.offset = 0) (hpath : d.cs.recPath = 0) (header : Option (Nat × Component)) :
    recoveryPiece path p header [] d = some (recoveryOpened path p (header.getD (0, {})) d) := by
  unfold recoveryPiece
  rw [if_pos hoff, if_neg (by simp [hpath])]
  rcases header with _ | ⟨code, x⟩ <;> rfl

theorem recoveryPiece_next {p : Piece} (hoff : p.offset ≠ 0) (hpath : d.cs.recPath = path)
    (hmeet : ∀ q ∈ d.cs.recPieces, piecesMeet p q = false) (header : Option (Nat × Component)) :
    recoveryPiece path p header [] d = some (recoveryGrown p d) := by
  have hany : d.cs.recPieces.any (piecesMeet p) = false := List.any_eq_false.mpr fun q hq => by simp [hmeet q hq]
  unfold recoveryPiece
  rw [if_neg hoff, if_neg (by simp [hpath, hany])]
  rfl

/-- What a piece that is taken leaves: its path, its place at the head of the pieces, and all but the code store and the count of bytes. -/
structure PieceTaken (path : Nat) (p : Piece) (d e : Device) : Prop where
  path_eq : e.cs.recPath = path
  head : e.cs.recPieces.head? = some p
  parts : e = { d with objs := e.objs, cs := e.cs }
  objs : OnlyObjs [Obj.recoveryBytesWritten] d e

theorem recoveryOpened_taken (path : Nat) (p : Piece) (header : Nat × Component) (d : Device) :
    PieceTaken path p d (recoveryOpened path p header d) := by
  have h := targetOpened_written (getObj Obj.recoveryTargetSlot d) header.1 p (pieceNamed path p header d)
  unfold SlotsWritten at h
  unfold recoveryOpened
  rw [h]
  exact ⟨rfl, rfl, rfl, fun k hk => getObj_setObj_ne (by simpa using hk) _ _⟩

/-- A first piece names its component, which the target slot no longer holds. -/
theorem recoveryOpened_comp (path : Nat) (p : Piece) (header : Nat × Component) (d : Device) :
    (recoveryOpened path p header d).cs.recCode = header.1 ∧ (recoveryOpened path p header d).cs.recComp = header.2 ∧
    (1 ≤ header.1 → header.1 ≤ 4 →
      smGet {} (fwSlot (getObj Obj.recoveryTargetSlot d) (recoveryOpened path p header d)).comps header.1 = {}) := by
  refine ⟨?_, ?_, fun h1 h4 => comps_targetOpened h1 h4 _ p _⟩
  all_goals
    have h := targetOpened_written (getObj Obj.recoveryTargetSlot d) header.1 p (pieceNamed path p header d)
    unfold SlotsWritten at h
    unfold recoveryOpened
    rw [h]
    rfl

theorem recoveryGrown_taken (p : Piece) (d : Device) : PieceTaken d.cs.recPath p d (recoveryGrown p d) ∧
    (recoveryGrown p d).cs.recPieces.tail = d.cs.recPieces := by
  unfold recoveryGrown
  obtain ⟨hwear, hparts⟩ := eraseForPiece_written (getObj Obj.recoveryTargetSlot d) d.cs.recCode p d.cs.recPieces d
  unfold WearOnly at hwear
  rw [hparts, hwear]
  exact ⟨⟨rfl, rfl, rfl, fun k hk => getObj_setObj_ne (by simpa using hk) _ _⟩, rfl⟩

/-- A chunk that has been taken: the bytes it holds in the buffer, and the offset of the next one (R597). -/
def chunkTaken (held : Nat) (e : Device) : Device :=
  addObj Obj.recoveryOffset 4096 (updCs (fun c => { c with recHeld := held }) e)

theorem answerPath_chunk (path held : Nat) (e : Device) :
    (answerPath path none [] (chunkTaken held e)).ledgers = e.ledgers ∧ (answerPath path none [] (chunkTaken held e)).ctl = e.ctl ∧
    (answerPath path none [] (chunkTaken held e)).media = e.media ∧ (answerPath path none [] (chunkTaken held e)).sec = e.sec ∧
    (answerPath path none [] (chunkTaken held e)).cs = { e.cs with recHeld := held } := by
  rw [answerPath_frame]
  simp [chunkTaken, updCs]

/-- What is said of the component and its pieces holds of the device that has answered. -/
structure CodeKept (e f : Device) : Prop where
  tail : ∀ {ps : List Piece}, e.cs.recPieces.tail = ps → f.cs.recPieces.tail = ps
  comp : ∀ {t code : Nat} {x : Component},
    (e.cs.recCode = code ∧ e.cs.recComp = x ∧ (1 ≤ code → code ≤ 4 → smGet {} (fwSlot t e).comps code = {})) →
    f.cs.recCode = code ∧ f.cs.recComp = x ∧ (1 ≤ code → code ≤ 4 → smGet {} (fwSlot t f).comps code = {})

theorem chunkTaken_code (path held : Nat) (e : Device) : CodeKept e (answerPath path none [] (chunkTaken held e)) := by
  obtain ⟨-, -, -, -, hcs⟩ := answerPath_chunk path held e
  generalize answerPath path none [] (chunkTaken held e) = f at hcs ⊢
  refine ⟨fun h => by rw [hcs]; exact h, fun {t code x} h => ?_⟩
  rw [fwSlot_congr (d := e) (e := f) (by rw [hcs]) (by rw [hcs]) t, hcs]
  exact h

theorem recoveryChunk_of_piece {n drained : Nat} {header : Option (Nat × Component)} {e : Device}
    (hheld : d.cs.recHeld - drained + n ≤ 65536)
    (hpiece : recoveryPiece path { offset := getObj Obj.recoveryOffset d, bytes := n } header [] d = some e) :
    recoveryChunk path n header drained [] d = some (chunkTaken (d.cs.recHeld - drained + n) e) := by
  unfold recoveryChunk
  dsimp only
  rw [if_neg (by omega), hpiece]
  rfl

/-- The answer to a chunk. -/
theorem recoveryChunkRequest {i : Instr} {out : StoreOutcome} {e : Device} (h1 : 1 ≤ path) (h5 : path ≤ 5) (hmode : d.ctl.mode = .m2)
    (hlo : 1 ≤ bytes.length) (hhi : bytes.length ≤ 4096) (hheld : d.cs.recHeld - out.drained + bytes.length ≤ 65536)
    (hfail : out.failures = [])
    (hpiece : recoveryPiece path { offset := getObj Obj.recoveryOffset d, bytes := bytes.length } out.header [] d = some e) :
    writeRequest i path 0x7040 0x03 bytes out d = answerPath path none [] (chunkTaken (d.cs.recHeld - out.drained + bytes.length) e) := by
  refine writeRequest_of_done (validPath_of h1 h5) ((recoveryChunk_single hmode hlo hhi).done (by decide +kernel) ?_)
  change recoveryChunk path bytes.length out.header out.drained out.failures d = _
  rw [hfail]
  exact recoveryChunk_of_piece hheld hpiece

/-- What the statement asks of a chunk that has been taken and answered, besides its component. -/
theorem PieceTaken.answered {p : Piece} {e : Device} (h : PieceTaken path p d e) (held : Nat) :
    (answerPath path none [] (chunkTaken held e)).cs.recPath = path ∧
    (answerPath path none [] (chunkTaken held e)).cs.recHeld = held ∧
    (answerPath path none [] (chunkTaken held e)).cs.recPieces.head? = some p ∧
    getObj Obj.recoveryOffset (answerPath path none [] (chunkTaken held e)) = (getObj Obj.recoveryOffset d + 4096) % 2 ^ 32 ∧
    Answered path d (answerPath path none [] (chunkTaken held e)) ∧
    OnlyObjs [Obj.recoveryOffset, Obj.recoveryBytesWritten, Obj.dictionaryRequests] d (answerPath path none [] (chunkTaken held e)) ∧
    OnlyLedgers [] d (answerPath path none [] (chunkTaken held e)) ∧
    (answerPath path none [] (chunkTaken held e)).ctl = d.ctl ∧ (answerPath path none [] (chunkTaken held e)).media = d.media ∧
    (answerPath path none [] (chunkTaken held e)).sec = d.sec := by
  have hmod : objModulus Obj.recoveryOffset = 2 ^ 32 := by decide +kernel
  have hobj : ∀ k, k ≠ Obj.recoveryOffset → getObj k (chunkTaken held e) = getObj k e := fun k hk => getObj_setObj_ne hk _ _
  refine ⟨h.path_eq, rfl, h.head, ?_, ⟨?_, ?_⟩, fun k hk => ?_, fun l _ => ?_, ?_, ?_, ?_⟩
  · rw [getObj_answerPath (by decide)]
    refine (getObj_setObj_self _ _ _).trans ?_
    rw [hmod, ← h.objs Obj.recoveryOffset (by decide)]
    rfl
  · rw [pathState_answerPath]
  · rw [answerPath_requests, hobj _ (by decide), h.objs _ (by decide)]
  · simp only [List.mem_cons, List.not_mem_nil, or_false, not_or] at hk
    obtain ⟨hoffset, hbytes, hrequests⟩ := hk
    rw [getObj_answerPath hrequests, hobj k hoffset, h.objs k (by simpa using hbytes)]
  · unfold ledger
    rw [(answerPath_chunk path held e).1, h.parts]
  · rw [(answerPath_chunk path held e).2.1, h.parts]
  · rw [(answerPath_chunk path held e).2.2.1, h.parts]
  · rw [(answerPath_chunk path held e).2.2.2.1, h.parts]

/-! ### A component received -/

/-- The component received has gone into the target slot (R596). -/
def recoveryFilled (d : Device) : Device :=
  updSlot (getObj Obj.recoveryTargetSlot d) (fun f =>
    let comps := smSet {} d.cs.recCode { d.cs.recComp with present := true } f.comps
    { f with comps := comps, holds := [1, 2, 3, 4].all fun k => (smGet {} comps k).present, settingsIncompatible := false })
    (updCs (fun c => { c with recPath := 0, recCode := 0, recComp := {}, recPieces := [], recHeld := 0 }) d)

/-- A component of an image that is complete goes into the target slot. -/
theorem recoveryComplete_of_true (h : (recoveryComplete path d).2 = true) (hcode : d.cs.recCode ≠ 5) : recoveryComplete path d =
    (logRec Code.firmwareCommitted [getObj Obj.recoveryTargetSlot d, d.cs.recCode, d.cs.recComp.version] (bootWrite id (recoveryFilled d)),
      true) := by
  unfold recoveryComplete at h ⊢
  dsimp only at h ⊢
  split at h
  · cases h
  · rename_i hok
    rw [if_neg hok, if_neg hcode]
    rfl

/-- A commit of 1 or 2 completes the component received; one of 2 boots the slot. -/
theorem recoveryCommit_of_complete (h : (recoveryComplete path d).2 = true) {v : Nat} (hv : v ≠ 3) : recoveryCommit path v d =
    some (if v = 2 then recoveryBoot (getObj Obj.recoveryTargetSlot d) (recoveryComplete path d).1 else (recoveryComplete path d).1) := by
  unfold recoveryCommit
  dsimp only
  rw [if_neg hv]
  generalize recoveryComplete path d = r at h ⊢
  obtain ⟨e, b⟩ := r
  cases h
  rfl

theorem recoveryCommit_select (h : (fwSlot (getObj Obj.recoveryTargetSlot d) d).holds = true) :
    recoveryCommit path 3 d = some (recoveryBoot (getObj Obj.recoveryTargetSlot d) d) := by
  unfold recoveryCommit
  dsimp only
  rw [if_pos rfl, if_pos h]

/-- What the component received leaves once it is in its slot. -/
structure ImageKept (d e : Device) : Prop where
  comp : getObj Obj.recoveryTargetSlot d ∈ [1, 2] →
    smGet {} (fwSlot (getObj Obj.recoveryTargetSlot d) e).comps d.cs.recCode = { d.cs.recComp with present := true }
  path_eq : e.cs.recPath = 0
  pieces : e.cs.recPieces = []
  next : e.cs.nextSlot = d.cs.nextSlot
  parts : e = { d with cs := e.cs }

theorem recoveryFilled_written (d : Device) : SlotsWritten
    (updCs (fun c => { c with recPath := 0, recCode := 0, recComp := {}, recPieces := [], recHeld := 0 }) d) (recoveryFilled d) :=
  updSlot_written _ _ _

theorem recoveryFilled_kept (d : Device) : ImageKept d (bootWrite id (recoveryFilled d)) := by
  have hparts := SlotsWritten.trans (recoveryFilled_written d) (bootWrite_id_written (recoveryFilled d))
  unfold SlotsWritten at hparts
  refine ⟨fun ht => ?_, ?_, ?_, ?_, ?_⟩
  · rw [fwSlot_bootWrite_id, recoveryFilled, fwSlot_updSlot_self ht]
    dsimp only
    exact smGet_smSet_self ({} : Component) _ _ _
  all_goals
    rw [hparts]
    rfl

/-- What the answer to a commit of the component received leaves (R596). -/
theorem ImageKept.answered {e r : Device} (h : ImageKept d e) (htarget : getObj Obj.recoveryTargetSlot d ∈ [1, 2]) (haside : Aside e r) :
    smGet {} (fwSlot (getObj Obj.recoveryTargetSlot d) (answerPath path none [] r)).comps d.cs.recCode =
      { d.cs.recComp with present := true } ∧
    (answerPath path none [] r).cs.recPath = 0 ∧ (answerPath path none [] r).cs.recPieces = [] ∧
    (answerPath path none [] r).cs.nextSlot = d.cs.nextSlot ∧ (answerPath path none [] r).ctl = d.ctl ∧
    Answered path d (answerPath path none [] r) ∧ OnlyObjs ([Obj.dictionaryRequests] ++ asideObjs) d (answerPath path none [] r) ∧
    (answerPath path none [] r).media = d.media ∧ (answerPath path none [] r).sec = d.sec := by
  obtain ⟨h1, h2, -⟩ := haside.code
  have hframe := answerPath_frame path none [] r
  have habort := congrArg PathState.abort (pathState_answerPath path none [] r)
  have hrequests := answerPath_requests path [] r
  have hothers : ∀ k, k ≠ Obj.dictionaryRequests → getObj k (answerPath path none [] r) = getObj k r := fun k hk =>
    getObj_answerPath hk path [] r
  have hobjs : OnlyObjs asideObjs d r := fun k hk => by
    rw [haside.objs k hk, h.parts]
    rfl
  generalize answerPath path none [] r = f at *
  have hcs : f.cs = r.cs := by rw [hframe]
  refine ⟨?_, ?_, ?_, ?_, ?_, ⟨habort, ?_⟩, fun k hk => ?_, ?_, ?_⟩
  · rw [fwSlot_congr (d := e) (e := f) (by rw [hcs, h1]) (by rw [hcs, h2])]
    exact h.comp htarget
  · rw [hcs, haside.cs]
    exact h.path_eq
  · rw [hcs, haside.cs]
    exact h.pieces
  · rw [hcs, haside.cs]
    exact h.next
  · rw [hframe]
    exact haside.ctl.trans (by rw [h.parts])
  · rw [hrequests, hobjs _ (by decide)]
  · simp only [List.singleton_append, List.mem_cons, not_or] at hk
    rw [hothers k hk.1, hobjs k hk.2]
  · rw [hframe]
    exact haside.media.trans (by rw [h.parts])
  · rw [hframe]
    exact haside.sec.trans (by rw [h.parts])

/-! ### The boot that follows -/

/-- The firmware slots, and the slot that the boot record names with its attempts. -/
def slotsOf (d : Device) : FwSlot × FwSlot × Nat × Nat := (d.cs.slot1, d.cs.slot2, d.cs.nextSlot, d.cs.attempts)

theorem slotsOf_congr {e : Device} (h : e.cs = d.cs) : slotsOf e = slotsOf d := by
  unfold slotsOf
  rw [h]

theorem Aside.slotsOf {e : Device} (h : Aside d e) : Machine.slotsOf e = Machine.slotsOf d := by
  obtain ⟨h1, h2, -, -, h3, h4⟩ := h.code
  unfold Machine.slotsOf
  rw [h1, h2, h3, h4]

theorem slotsOf_logRec (code : Nat) (snaps : List Nat) (d : Device) : slotsOf (logRec code snaps d) = slotsOf d :=
  (logRec_aside code snaps d).slotsOf

theorem slotsOf_finishResize (d : Device) : slotsOf (finishResize d) = slotsOf d := by
  unfold finishResize
  split
  · rfl
  · dsimp only
    split
    · exact (slotsOf_logRec _ _ _).trans rfl
    · rfl

theorem slotsOf_withhold (d : Device) : slotsOf (withhold d) = slotsOf d := by
  unfold withhold
  split
  · rfl
  · exact (slotsOf_finishResize _).trans (foldl_rel (R := fun a b : Device => slotsOf b = slotsOf a) (fun _ => rfl) (fun h g => g.trans h)
      (fun d b => slotsOf_congr (by simp)) _ _)

theorem slotsOf_endDieThrottle (d : Device) : slotsOf (endDieThrottle d) = slotsOf d := by
  unfold endDieThrottle
  split
  · exact (slotsOf_withhold _).trans ((slotsOf_logRec _ _ _).trans rfl)
  · rfl

theorem slotsOf_endCarrierThrottle (bank : Nat) (d : Device) : slotsOf (endCarrierThrottle bank d) = slotsOf d := by
  unfold endCarrierThrottle
  split
  · exact (slotsOf_withhold _).trans ((slotsOf_logRec _ _ _).trans rfl)
  · rfl

/-- Outside M5 and M6 the throttling ends, and the slots stay. -/
theorem slotsOf_updateThrottling (h : serviceMode d.ctl.mode = false) : slotsOf (updateThrottling d) = slotsOf d := by
  unfold updateThrottling
  rw [if_neg (by simp [h])]
  exact (foldl_rel (R := fun a b : Device => slotsOf b = slotsOf a) (fun _ => rfl) (fun h g => g.trans h)
    (fun d b => slotsOf_endCarrierThrottle b d) _ _).trans (slotsOf_endDieThrottle d)

theorem slotsOf_queueHeartbeat (ack : Option Nat) (d : Device) : slotsOf (queueHeartbeat ack d) = slotsOf d := slotsOf_congr (by simp)

theorem slotsOf_updateCauses (d : Device) : slotsOf (updateCauses d) = slotsOf d := slotsOf_congr (by simp)

theorem mode_updateCauses (d : Device) : (updateCauses d).ctl.mode = d.ctl.mode := by
  unfold updateCauses
  split <;> rfl

theorem mode_heldOutputs (d : Device) : (heldOutputs d).ctl.mode = d.ctl.mode := by simp [heldOutputs]

/-- The device in its new mode, before its record is taken. -/
def intoHeld (d : Device) : Device :=
  setObj Obj.modeEntryHours (hours (updateCauses d)) { holdInWake .m1 (updateCauses d) with
    ctl := { (holdInWake .m1 (updateCauses d)).ctl with mode := .m1, prev := (updateCauses d).ctl.mode } }

theorem changeMode_m1 (d : Device) : changeMode .m1 d = queueHeartbeat none (updateCauses (updateThrottling (domainFloor
    (logRec Code.modeChange [modeNum (updateCauses d).ctl.mode, modeNum .m1, (intoHeld d).ctl.causes.toNat]
      (incObj Obj.modeChangeCount (intoHeld d)))))) := rfl

theorem slotsOf_intoHeld (d : Device) : slotsOf (intoHeld d) = slotsOf d ∧ (intoHeld d).ctl.mode = .m1 :=
  ⟨slotsOf_congr (by simp [intoHeld]), rfl⟩

theorem changeMode_m1_slots (d : Device) : slotsOf (changeMode .m1 d) = slotsOf d ∧ (changeMode .m1 d).ctl.mode = .m1 := by
  rw [changeMode_m1]
  obtain ⟨hslots, hmode⟩ := slotsOf_intoHeld d
  generalize intoHeld d = b at hslots hmode ⊢
  generalize hr : logRec Code.modeChange [modeNum (updateCauses d).ctl.mode, modeNum .m1, b.ctl.causes.toNat] (incObj Obj.modeChangeCount b) = r
  have hrslots : slotsOf r = slotsOf d := by
    rw [← hr, slotsOf_logRec]
    exact hslots
  have hrctl : r.ctl = b.ctl := by
    rw [← hr]
    simp
  have hfloor : (domainFloor r).ctl = b.ctl := by simp [hrctl]
  have hservice : serviceMode (domainFloor r).ctl.mode = false := by
    rw [hfloor, hmode]
    rfl
  refine ⟨?_, ?_⟩
  · rw [slotsOf_queueHeartbeat, slotsOf_updateCauses, slotsOf_updateThrottling hservice]
    exact (slotsOf_congr (by simp)).trans hrslots
  · simp [mode_updateCauses, hmode, hrctl]

/-- Entry to M1 leaves the slots and what the boot record names. -/
theorem enterHeld_slots (d : Device) : slotsOf (enterHeld d) = slotsOf d ∧ (enterHeld d).ctl.mode = .m1 := by
  obtain ⟨hslots, hmode⟩ := changeMode_m1_slots { abandonTest d with
    ctl := { (abandonTest d).ctl with dueM1 := false, dueM10 := false, dueM11 := false, flushing := false } }
  refine ⟨?_, ?_⟩
  · refine (slotsOf_congr (by simp [enterHeld])).trans (hslots.trans (slotsOf_congr (by simp)))
  · exact (mode_heldOutputs _).trans hmode

/-- The boot of a slot: M1, with the slot as the next one and no attempt counted (R596, Table 2.4). -/
theorem recoveryBoot_boots (s : Nat) (d : Device) : (recoveryBoot s d).ctl.mode = .m1 ∧ (recoveryBoot s d).cs.nextSlot = s ∧
    (recoveryBoot s d).cs.attempts = 0 ∧ (recoveryBoot s d).cs.slot1 = d.cs.slot1 ∧ (recoveryBoot s d).cs.slot2 = d.cs.slot2 := by
  obtain ⟨hslots, hmode⟩ := enterHeld_slots (bootWrite (fun c => { c with nextSlot := s, attempts := 0 }) d)
  obtain ⟨-, -, hnext, hattempts, h1, h2⟩ := bootWrite_fields (fun c => { c with nextSlot := s, attempts := 0 }) d
  unfold slotsOf at hslots
  simp only [Prod.mk.injEq] at hslots
  obtain ⟨k1, k2, k3, k4⟩ := hslots
  exact ⟨hmode, k3.trans hnext, k4.trans hattempts, k1.trans h1, k2.trans h2⟩

end Sys2Proof.Machine

section
open Sys2Proof Sys2Proof.Machine

/-- Settles O50: each write is the effect of its object after the checks of R402, and the answer of its path. -/
theorem keysAndRecoveryAreWritten : Obligations.KeysAndRecoveryAreWritten := by
  refine ⟨fun s path slot key hslot hgranted hkey hused hopen => .of_runDev _ rfl ?_,
    fun s path slot rights hslot hgranted hrights h0 h15 hused => .of_runDev _ rfl ?_,
    fun s path slot rights hslot hne hgranted hrights hused hopen => .of_runDev _ rfl ?_,
    fun s path chunk out h1 h5 hmode hlo hhi hheld hfail hpiece => .of_runDev _ rfl ?_,
    fun s path h1 h5 hmode hcomplete hcode htarget hopen => .of_runDev _ rfl ?_,
    fun s path h1 h5 hmode hcomplete => .of_runDev _ rfl ?_,
    fun s path h1 h5 hmode hholds => .of_runDev _ rfl ?_⟩
  · rw [authKeyRequest hslot hgranted hkey hused]
    have h := SlotAnswered.of_sec (slot := slot) (d := s.dev) hgranted.mem (keyWritten slot key s.dev.sec)
    have hsec := sec_answered path Code.authKeyChanged [slot, path]
      { challengesEnded slot (useGrant path s.dev) with sec := keyWritten slot key s.dev.sec }
    refine ⟨?_, fun n hn => ?_, h.challenges, h.recorded hopen, h.answered, h.grant, ?_, h.ledgers, h.objs, h.media, h.ctl⟩
    · rw [hsec]
      simp [keyWritten, keyPut_key]
    · rw [hsec]
      simp [keyWritten, smGet_smUpd, hn]
    · rw [hsec]
      rfl
  · rw [authRightsRequest hslot hgranted hrights (fun _ => h15) hused]
    refine ⟨?_, (SlotAnswered.of_sec (slot := slot) (d := s.dev) hgranted.mem (rightsWritten slot rights s.dev.sec)).answered⟩
    rw [h0]
    rfl
  · rw [authRightsRequest hslot hgranted hrights (fun h => absurd h hne) hused]
    have h := SlotAnswered.of_sec (slot := slot) (d := s.dev) hgranted.mem (rightsWritten slot rights s.dev.sec)
    have hsec := sec_answered path Code.authKeyChanged [slot, path]
      { challengesEnded slot (useGrant path s.dev) with sec := rightsWritten slot rights s.dev.sec }
    refine ⟨?_, fun n hn => ?_, fun n => ?_, h.recorded hopen, h.answered, h.grant, ?_, h.ledgers, h.objs, h.media, h.ctl⟩
    · unfold authRightsOf
      rw [hsec]
      simp [rightsWritten, rightsPut, hne]
    · unfold authRightsOf
      rw [hsec]
      simp [rightsWritten, smGet_smUpd, hn]
    · rw [hsec]
      by_cases hn : n = slot <;> simp [rightsWritten, rightsPut, smGet_smUpd, hn]
    · rw [hsec]
      rfl
  · rcases hpiece with ⟨hoff, hnone⟩ | ⟨hoff, hpath, hmeet⟩
    · rw [recoveryChunkRequest h1 h5 hmode hlo hhi hheld hfail (recoveryPiece_first hoff hnone _)]
      obtain ⟨hp, hheld', hhead, hoffset, hrest⟩ := (recoveryOpened_taken path
        { offset := getObj Obj.recoveryOffset s.dev, bytes := chunk.length } (out.header.getD (0, {})) s.dev).answered
        (s.dev.cs.recHeld - out.drained + chunk.length)
      refine ⟨hp, hheld', hhead, fun h => absurd hoff h, fun code x hheader _ => ?_, hoffset, hrest⟩
      rw [hheader]
      exact (chunkTaken_code path _ _).comp (recoveryOpened_comp path _ (code, x) s.dev)
    · rw [recoveryChunkRequest h1 h5 hmode hlo hhi hheld hfail (recoveryPiece_next hoff hpath hmeet _)]
      obtain ⟨htaken, htail⟩ := recoveryGrown_taken { offset := getObj Obj.recoveryOffset s.dev, bytes := chunk.length } s.dev
      rw [hpath] at htaken
      obtain ⟨hp, hheld', hhead, hoffset, hrest⟩ := htaken.answered (s.dev.cs.recHeld - out.drained + chunk.length)
      exact ⟨hp, hheld', hhead, fun _ => (chunkTaken_code path _ _).tail htail, fun _ _ _ h => absurd h hoff, hoffset, hrest⟩
  · rw [recoveryCommitRequest h1 h5 hmode (by decide) (recoveryCommit_of_complete hcomplete (by decide)), if_neg (by decide),
      recoveryComplete_of_true hcomplete hcode]
    have hkept := recoveryFilled_kept s.dev
    generalize bootWrite id (recoveryFilled s.dev) = b at hkept ⊢
    have hrec := logRec_recorded_of_log (a := s.dev) (b := b) Code.firmwareCommitted
      [getObj Obj.recoveryTargetSlot s.dev, s.dev.cs.recCode, s.dev.cs.recComp.version] (by rw [hkept.parts]) hopen
    have haside := logRec_aside Code.firmwareCommitted
      [getObj Obj.recoveryTargetSlot s.dev, s.dev.cs.recCode, s.dev.cs.recComp.version] b
    obtain ⟨hcomp, hrest⟩ := hkept.answered (path := path) htarget haside
    exact ⟨hcomp, hrec.congr rfl rfl, hrest⟩
  · have habort := congrArg PathState.abort (pathState_answerPath path none []
      (recoveryBoot (getObj Obj.recoveryTargetSlot s.dev) (recoveryComplete path s.dev).1))
    obtain ⟨hm, hnext, hattempts, -, -⟩ := recoveryBoot_boots (getObj Obj.recoveryTargetSlot s.dev) (recoveryComplete path s.dev).1
    rw [recoveryCommitRequest h1 h5 hmode (by decide) (recoveryCommit_of_complete hcomplete (by decide)), if_pos rfl]
    exact ⟨hm, hnext, hattempts, habort⟩
  · have habort := congrArg PathState.abort (pathState_answerPath path none [] (recoveryBoot (getObj Obj.recoveryTargetSlot s.dev) s.dev))
    obtain ⟨hm, hnext, hattempts, hs1, hs2⟩ := recoveryBoot_boots (getObj Obj.recoveryTargetSlot s.dev) s.dev
    rw [recoveryCommitRequest h1 h5 hmode (by decide) (recoveryCommit_select hholds)]
    exact ⟨hm, hnext, hattempts, hs1, hs2, habort⟩

end
end

section
/-! PROOFS. Writes of stored objects, and requests that R402 turns away (spec/13 R402, R403, R406, R408): O47. -/
-- The proofs are elaborated one after another: see the first file of these proofs.
set_option Elab.async false

namespace Sys2Proof.Machine

variable {path key v : Nat} {bytes : List Byte} {out : StoreOutcome} {d e : Device} {r : GroupRecord}

/-! ### Bytes -/

theorem length_leBytes (n v : Nat) : (leBytes n v).length = n := by
  induction n generalizing v with
  | zero => rfl
  | succ n ih => simp [leBytes, ih]

theorem ofLe_leBytes {n v : Nat} (h : v < 256 ^ n) : ofLe (leBytes n v) = v := by
  induction n generalizing v with
  | zero =>
    have : v = 0 := by simpa using h
    subst this
    rfl
  | succ n ih =>
    have hdiv : v / 256 < 256 ^ n := Nat.div_lt_of_lt_mul (by rw [Nat.pow_succ] at h; omega)
    unfold leBytes ofLe
    rw [ih hdiv, BitVec.toNat_ofNat]
    omega

/-! ### Rows of the dictionary -/

theorem objRow?_bounds {x : ObjRow} (h : objRow? key = some x) :
    x ∈ objRows ∧ x.idxLo ≤ key / 256 ∧ key / 256 ≤ x.idxHi ∧ x.subLo ≤ key % 256 ∧ key % 256 ≤ x.subHi := by
  have hfound := List.find?_some h
  simp only [Bool.and_eq_true, decide_eq_true_eq] at hfound
  obtain ⟨⟨⟨hlo, hhi⟩, hsubLo⟩, hsubHi⟩ := hfound
  exact ⟨List.mem_of_find?_eq_some h, hlo, hhi, hsubLo, hsubHi⟩

theorem storedObject_row (h : storedObject key = true) : ∃ x, objRow? key = some x ∧ x.stored = true := by
  unfold storedObject at h
  cases hx : objRow? key with
  | none => rw [hx] at h; cases h
  | some x => rw [hx] at h; exact ⟨x, rfl, h⟩

/-- No stored object is a blob or a string, and none stands in an index whose writes have effects of their own. -/
theorem storedRows_plain : ∀ x ∈ objRows, x.stored = true → typeSize x.typ ≠ 0 ∧
    ∀ i ∈ [0x4410, 0x4411, 0x8202, 0x7040], ¬(x.idxLo ≤ i ∧ i ≤ x.idxHi) := by decide +kernel

theorem ne_of_stored {k : Nat} (h : storedObject key = true) (hk : storedObject k = false) : key ≠ k := by
  rintro rfl
  rw [h] at hk
  cases hk

/-- Objects that are written for an effect of their own are not stored. -/
theorem effectObjs_unstored : ∀ k ∈ [Obj.mapCacheControl, Obj.etaQueryBlock, Obj.holdUpTestRequest, Obj.logbookClear, Obj.settingsAcknowledge,
    Obj.recoveryChunk, Obj.recoveryCommit, Obj.settingsRestoreDefaults, 0x602005, 0x10110F, 0x34000F, Obj.settingsWrites,
    Obj.dictionaryRequests, Obj.dictionaryAborts, Obj.logbookNoticesDropped, Obj.logbookRecordsOverwritten, Obj.canTxCancelled],
    storedObject k = false := by decide +kernel

theorem index_of_stored (h : storedObject key = true) : key / 256 ∉ [0x4410, 0x4411, 0x8202, 0x7040] := by
  obtain ⟨x, hrow, hx⟩ := storedObject_row h
  obtain ⟨hmem, hlo, hhi, -, -⟩ := objRow?_bounds hrow
  exact fun hi => (storedRows_plain x hmem hx).2 _ hi ⟨hlo, hhi⟩

theorem objSize_of_stored (h : storedObject key = true) : ∃ x, objRow? key = some x ∧ typeSize x.typ = objSize key ∧ objSize key ≠ 0 := by
  obtain ⟨x, hrow, hx⟩ := storedObject_row h
  have hsize : objSize key = typeSize x.typ := by
    unfold objSize
    rw [hrow]
  exact ⟨x, hrow, hsize.symm, by rw [hsize]; exact (storedRows_plain x (objRow?_bounds hrow).1 hx).1⟩

theorem uncommitted_of_stored (h : storedObject key = true) : isCommit key = false := by
  have h1 := ne_of_stored h (effectObjs_unstored 0x10110F (by decide))
  have h2 := ne_of_stored h (effectObjs_unstored 0x34000F (by decide))
  simp [isCommit, h1, h2]

theorem writeEffect_of_stored (h : storedObject key = true) (path : Nat) (bytes : List Byte) (out : StoreOutcome) (d : Device) :
    writeEffect path key bytes out d = some (settingEffect key (writtenBits key (ofLe bytes)) d) := by
  have hne : ∀ k ∈ [Obj.mapCacheControl, Obj.etaQueryBlock, Obj.holdUpTestRequest, Obj.logbookClear, Obj.settingsAcknowledge,
      Obj.recoveryChunk, Obj.recoveryCommit], key ≠ k := fun k hk => ne_of_stored h (effectObjs_unstored k (by
        simp only [List.mem_cons, List.not_mem_nil, or_false] at hk ⊢
        tauto))
  have hindex := index_of_stored h
  simp only [List.mem_cons, List.not_mem_nil, or_false, not_or] at hindex
  obtain ⟨hkey, hrights, hcarrier, -⟩ := hindex
  unfold writeEffect
  simp only [hne _ (by decide : Obj.mapCacheControl ∈ _), hne _ (by decide : Obj.etaQueryBlock ∈ _),
    hne _ (by decide : Obj.holdUpTestRequest ∈ _), hne _ (by decide : Obj.logbookClear ∈ _),
    hne _ (by decide : Obj.settingsAcknowledge ∈ _), hne _ (by decide : Obj.recoveryChunk ∈ _),
    hne _ (by decide : Obj.recoveryCommit ∈ _), hkey, hrights, hcarrier, h, if_false, if_true]

/-- The shape of a value that has the length of its stored object's type. -/
theorem shape_of_size (h : objSize key ≠ 0) (hlen : bytes.length = objSize key) : shape key bytes = ([(key, bytes)], none) := by
  unfold objSize at h hlen
  cases hrow : objRow? key with
  | none => rw [hrow] at h; exact absurd rfl h
  | some x =>
    rw [hrow] at hlen
    exact shape_of_length hrow hlen

/-! ### The settings store -/

/-- A copy with one more group record. -/
def grown (r : GroupRecord) (c : SettingsCopy) : SettingsCopy := { c with records := c.records ++ [r], used := c.used + recordSize r }

theorem settingsCopy_setCopy (b b' : Bool) (c : SettingsCopy) (d : Device) :
    settingsCopy b (setCopy b' c d) = if b = b' then c else settingsCopy b d := by
  cases b <;> cases b' <;> rfl

theorem appendToCopy_of_room (b : Bool) (hroom : (settingsCopy b d).used + recordSize r ≤ 65536) :
    appendToCopy b r 0 d = (setCopy b (grown r (settingsCopy b d)) d, true) := by
  unfold appendToCopy
  simp [hroom, grown]

/-- Nothing has changed but the two settings copies and SettingsWrites. -/
structure CopiesOnly (d e : Device) : Prop where
  parts : e = { d with objs := e.objs, settings := { d.settings with copyA := e.settings.copyA, copyB := e.settings.copyB } }
  objs : OnlyObjs [Obj.settingsWrites] d e

theorem CopiesOnly.trans {a b c : Device} (h : CopiesOnly a b) (g : CopiesOnly b c) : CopiesOnly a c := by
  refine ⟨?_, fun k hk => (g.objs k hk).trans (h.objs k hk)⟩
  have hg := g.parts
  rw [h.parts] at hg
  exact hg

theorem setCopy_copies (b : Bool) (c : SettingsCopy) (d : Device) : CopiesOnly d (setCopy b c d) := by
  cases b <;> exact ⟨rfl, fun _ _ => rfl⟩

theorem countWrite_copies (d : Device) : CopiesOnly d (incObj Obj.settingsWrites d) :=
  ⟨rfl, fun k hk => getObj_incObj_ne (by simpa using hk) d⟩

/-- The device with a group record in its active copy, and in the other one where that has its version (R406, R408). -/
def recordStored (r : GroupRecord) (d : Device) : Device :=
  let a := d.cs.activeB
  let d' := incObj Obj.settingsWrites (setCopy a (grown r (settingsCopy a d)) d)
  let o := settingsCopy (!a) d
  if !o.valid || o.version != (settingsCopy a d).version then d' else setCopy (!a) (grown r o) d'

theorem recordStored_copies (r : GroupRecord) (d : Device) : CopiesOnly d (recordStored r d) := by
  unfold recordStored
  dsimp only
  have h := (setCopy_copies d.cs.activeB (grown r (settingsCopy d.cs.activeB d)) d).trans (countWrite_copies _)
  split
  · exact h
  · exact h.trans (setCopy_copies _ _ _)

theorem recordStored_stored (r : GroupRecord) (d : Device) : Stored r d (recordStored r d) := by
  unfold recordStored Stored
  dsimp only
  generalize d.cs.activeB = a
  have hself : ∀ x : Device, settingsCopy a (incObj Obj.settingsWrites x) = settingsCopy a x := fun x => rfl
  have hother : ∀ x : Device, settingsCopy (!a) (incObj Obj.settingsWrites x) = settingsCopy (!a) x := fun x => rfl
  have hne : a ≠ !a := by cases a <;> decide
  split
  · rename_i hno
    refine ⟨?_, fun hvalid hversion => ?_⟩
    · rw [hself, settingsCopy_setCopy, if_pos rfl]
      rfl
    · simp [hvalid, hversion] at hno
  · refine ⟨?_, fun _ _ => ?_⟩
    · rw [settingsCopy_setCopy, if_neg hne, hself, settingsCopy_setCopy, if_pos rfl]
      rfl
    · rw [settingsCopy_setCopy, if_pos rfl]
      rfl

theorem storeRecord_of_room (hr : r ≠ []) (hroom : RoomToStore (recordSize r) d) (hactive : out.active = 0) (hother : out.other = 0) :
    storeRecord r out d = (recordStored r d, true) := by
  have hroom' : ∀ b, (settingsCopy b d).used + recordSize r ≤ 65536 := by
    intro b
    cases b
    · exact hroom.1
    · exact hroom.2
  have hne : ∀ a : Bool, (!a) ≠ a := by decide
  have hself : (settingsCopy d.cs.activeB (incObj Obj.settingsWrites
      (setCopy d.cs.activeB (grown r (settingsCopy d.cs.activeB d)) d))).version = (settingsCopy d.cs.activeB d).version := by
    change (settingsCopy d.cs.activeB (setCopy d.cs.activeB (grown r (settingsCopy d.cs.activeB d)) d)).version = _
    rw [settingsCopy_setCopy, if_pos rfl]
    rfl
  have hcopy : settingsCopy (!d.cs.activeB) (incObj Obj.settingsWrites
      (setCopy d.cs.activeB (grown r (settingsCopy d.cs.activeB d)) d)) = settingsCopy (!d.cs.activeB) d := by
    change settingsCopy (!d.cs.activeB) (setCopy d.cs.activeB (grown r (settingsCopy d.cs.activeB d)) d) = _
    rw [settingsCopy_setCopy, if_neg (hne _)]
  have hval : (0 : Fin 3).val = 0 := rfl
  unfold storeRecord recordStored
  rw [if_neg (by simpa using hr)]
  simp only [hactive, hother, hval, appendToCopy_of_room d.cs.activeB (hroom' _), hself, hcopy]
  split
  · rfl
  · rw [appendToCopy_of_room (d := incObj Obj.settingsWrites (setCopy d.cs.activeB (grown r (settingsCopy d.cs.activeB d)) d))
      (!d.cs.activeB) (by rw [hcopy]; exact hroom' _), hcopy]

/-! ### Answers that leave all but the path, the copies and some objects -/

theorem getObj_answerPath_ne {k : Nat} (hr : k ≠ Obj.dictionaryRequests) (ha : k ≠ Obj.dictionaryAborts) (path : Nat) (abort : Option Nat)
    (value : List Byte) (d : Device) : getObj k (answerPath path abort value d) = getObj k d := by
  change getObj k (countRequest abort.isSome d) = _
  unfold countRequest
  dsimp only
  split
  · rw [getObj_incObj_ne ha, getObj_incObj_ne hr]
  · exact getObj_incObj_ne hr d

theorem getObj_dictionaryAborts_answerPath (path a : Nat) (value : List Byte) (d : Device) :
    getObj Obj.dictionaryAborts (answerPath path (some a) value d) =
      (getObj Obj.dictionaryAborts d + 1) % objModulus Obj.dictionaryAborts := by
  change getObj Obj.dictionaryAborts (incObj Obj.dictionaryAborts (incObj Obj.dictionaryRequests d)) = _
  rw [getObj_incObj_self, getObj_incObj_ne (by decide)]

/-- Nothing has changed but objects, the settings copies and the paths. -/
def SettingsOnly (d e : Device) : Prop :=
  e = { d with objs := e.objs, settings := { d.settings with copyA := e.settings.copyA, copyB := e.settings.copyB
                                                             paths := e.settings.paths } }

theorem SettingsOnly.refl (d : Device) : SettingsOnly d d := rfl

theorem SettingsOnly.trans {a b c : Device} (h : SettingsOnly a b) (g : SettingsOnly b c) : SettingsOnly a c := by
  unfold SettingsOnly at *
  rw [h] at g
  exact g

theorem CopiesOnly.settingsOnly (h : CopiesOnly d e) : SettingsOnly d e := by
  unfold SettingsOnly
  rw [h.parts]

theorem setObj_settingsOnly (k v : Nat) (d : Device) : SettingsOnly d (setObj k v d) := rfl

theorem answerPath_settingsOnly (path : Nat) (abort : Option Nat) (value : List Byte) (d : Device) :
    SettingsOnly d (answerPath path abort value d) := by
  unfold SettingsOnly
  rw [answerPath_frame]

/-- An answered request is its path's alone where what came before it was. -/
theorem pathOnly_answer {ks : List Nat} (h : SettingsOnly d e) (hobjs : OnlyObjs ks d e)
    (hpaths : ∀ p, p ≠ path → pathState p e = pathState p d) (abort : Option Nat) (value : List Byte) :
    PathOnly path ks d (answerPath path abort value e) := by
  have hall := SettingsOnly.trans h (answerPath_settingsOnly path abort value e)
  have hkeep : ∀ k, k ≠ Obj.dictionaryRequests → k ≠ Obj.dictionaryAborts → getObj k (answerPath path abort value e) = getObj k e :=
    fun k hr ha => getObj_answerPath_ne hr ha path abort value e
  have hp : ∀ p, p ≠ path → pathState p (answerPath path abort value e) = pathState p d := fun p hp =>
    (pathState_answerPath_ne hp abort value e).trans (hpaths p hp)
  generalize answerPath path abort value e = f at *
  refine ⟨fun k hk => ?_, hp, ?_, ?_⟩
  · simp only [List.mem_append, List.mem_cons, List.not_mem_nil, or_false, not_or] at hk
    obtain ⟨⟨⟨hr, ha⟩, hks⟩, -⟩ := hk
    exact (hkeep k hr ha).trans (hobjs k hks)
  · rw [show _ = _ from hall]
  · have hf : f = { d with objs := f.objs, settings := f.settings } := by
      rw [show _ = _ from hall]
    exact hf ▸ Aside.refl f

/-- An abort changes nothing else. -/
theorem pathOnly_abort (path : Nat) (abort : Option Nat) (value : List Byte) (d : Device) :
    PathOnly path [] d (answerPath path abort value d) :=
  pathOnly_answer (.refl d) (fun _ _ => rfl) (fun _ _ => rfl) abort value

theorem copies_answerPath (path : Nat) (abort : Option Nat) (value : List Byte) (d : Device) :
    (answerPath path abort value d).settings.copyA = d.settings.copyA ∧ (answerPath path abort value d).settings.copyB = d.settings.copyB := by
  rw [answerPath_frame]
  exact ⟨rfl, rfl⟩

/-- What the store of a record and a change of objects leave of the copies. -/
theorem Stored.congr (h : Stored r d e) {f : Device} (ha : f.settings.copyA = e.settings.copyA)
    (hb : f.settings.copyB = e.settings.copyB) : Stored r d f := by
  have hcopy : ∀ b, settingsCopy b f = settingsCopy b e := by
    intro b
    cases b
    · exact ha
    · exact hb
  unfold Stored at h ⊢
  dsimp only at h ⊢
  rw [hcopy, hcopy]
  exact h

/-! ### Writes of plain settings -/

theorem PlainSetting.stored (h : PlainSetting key) : storedObject key = true := h.2.2.1

theorem settingEffect_plain (h : PlainSetting key) (v : Nat) (d : Device) : settingEffect key v d = setObj key v d := by
  obtain ⟨-, -, -, -, hspecial, hindex⟩ := h
  simp only [List.mem_cons, List.not_mem_nil, or_false, not_or] at hspecial
  obtain ⟨hpool, hwarning, hquota, hreserve, hgrains, hhost, hmoved⟩ := hspecial
  have hheld : (decide (0x502009 ≤ key) && decide (key ≤ 0x50200D)) = false := by
    simp only [Bool.and_eq_false_iff, decide_eq_false_iff_not]
    omega
  unfold settingEffect
  simp [hheld, hpool, hwarning, hquota, hreserve, hgrains, hhost, hmoved]

/-- A write of a plain setting, whose value is in range, passes every check of R402. -/
theorem PlainSetting.single (h : PlainSetting key) (hpath : Admitted path d) (h8 : d.ctl.mode ≠ .m8) (hlen : bytes.length = objSize key)
    (hrange : inRange [(key, bytes)] d key bytes = true) : SingleWrite path key bytes d d where
  present := h.1
  parts := by
    obtain ⟨x, -, -, hsize⟩ := objSize_of_stored h.stored
    exact shape_of_size hsize hlen
  admitted := writeAdmitted_of_admitted hpath fun hi => index_of_stored h.stored (by rw [hi]; decide)
  writable := by rw [h.2.1]; decide
  served := .inl h8
  authorised := authorise_of_unguarded (by rw [h.2.1]; decide)
  range := hrange
  uncommitted := uncommitted_of_stored h.stored
  kept := ne_of_stored h.stored (effectObjs_unstored _ (by decide))
  single := h.2.2.2.1

/-- A stored object that is written alone is stored, and takes its effect on the device that has its record. -/
theorem SingleWrite.storedRequest {d' : Device} {i : Instr} (h : SingleWrite path key bytes d d') (hs : storedObject key = true)
    (hp : validPath path = true) (hroom : RoomToStore (recordSize [(key, some v)]) d') (hactive : out.active = 0) (hother : out.other = 0) :
    writeRequest i path (key / 256) (key % 256) bytes out d = answerPath path none []
      (settingEffect key (writtenBits key (ofLe bytes)) (recordStored [(key, some (writtenBits key (ofLe bytes)))] d')) := by
  have hrecord : singleRecord key bytes = [(key, some (writtenBits key (ofLe bytes)))] := by
    unfold singleRecord
    rw [if_pos hs]
  refine writeRequest_of_done hp (h.stored (writeEffect_of_stored hs path bytes out d') ?_
    (writeEffect_of_stored hs path bytes out _))
  rw [hrecord]
  exact storeRecord_of_room (by simp) hroom hactive hother

end Sys2Proof.Machine
end

section
/-! PROOFS. What the frames of the flash logbook and a write of the superblock change (spec/19 R564 to R567, spec/03 R91 to R93). -/
-- The proofs are elaborated one after another: see the first file of these proofs.
set_option Elab.async false

namespace Sys2Proof.Machine

/-- Nothing has changed but the frames of the flash logbook, the superblock and its anchor groups, stripes, groups and blocks of the medium, the
pools with ledger 5, and the listed objects. -/
def FramesWritten (ks : List Nat) (d e : Device) : Prop :=
  e = { d with objs := e.objs, ledgers := e.ledgers, res := e.res, free := e.free
               log := { d.log with frames := e.log.frames, newest := e.log.newest }
               media := { d.media with sb := e.media.sb, sbDue := e.media.sbDue, anchors := e.media.anchors, dies := e.media.dies
                                       stripes := e.media.stripes, groups := e.media.groups, blocks := e.media.blocks } } ∧
  OnlyObjs ks d e ∧ OnlyLedgers [5] d e

variable {ks : List Nat} {d e : Device}

theorem FramesWritten.refl (d : Device) : FramesWritten ks d d := ⟨rfl, fun _ _ => rfl, fun _ _ => rfl⟩

theorem FramesWritten.trans {a b c : Device} (h : FramesWritten ks a b) (g : FramesWritten ks b c) : FramesWritten ks a c := by
  obtain ⟨h, ho, hl⟩ := h
  obtain ⟨g, go, gl⟩ := g
  refine ⟨?_, fun k hk => (go k hk).trans (ho k hk), fun l hn => (gl l hn).trans (hl l hn)⟩
  rw [h] at g
  exact g

theorem FramesWritten.foldl {β : Type} {g : Device → β → Device} (hg : ∀ d b, FramesWritten ks d (g d b)) (xs : List β) (d : Device) :
    FramesWritten ks d (xs.foldl g d) := foldl_rel (R := FramesWritten ks) .refl (fun h g => h.trans g) hg xs d

theorem FramesTaken.written (h : FramesTaken d e) : FramesWritten ks d e := by
  unfold FramesTaken at h
  refine ⟨?_, fun k _ => ?_, fun l _ => ?_⟩
  · rw [h]
  · rw [h]
    rfl
  · rw [h]
    rfl

theorem RowsChange.written (h : RowsChange ks d e) : FramesWritten ks d e := by
  obtain ⟨h, ho, hl⟩ := h
  refine ⟨?_, ho, hl⟩
  rw [h]

theorem FramesWritten.only (h : FramesWritten ks d e) : FramesOnly d e := by
  obtain ⟨h, -, -⟩ := h
  unfold FramesOnly
  rw [h]

/-! ### Frames of the logbook -/

theorem closeRowAt_rows (d : Device) (ptr : Nat) : RowsChange frameObjs d (closeRowAt d ptr) := by
  unfold closeRowAt
  exact .ite (forceClose_rows (fun _ h => h) _ _ d) (.refl d)

theorem systemPlace_taken (apart : Option Nat) (d : Device) : FramesTaken d (systemPlace apart d).2 := systemRun_taken 1 apart d

theorem log_of_taken (h : FramesTaken d e) : e.log = d.log := by rw [h]

theorem log_of_rows (h : RowsChange ks d e) : e.log = d.log := by rw [h.1]

/-- The place of the next frame: the one reserved, or, for the first, a new one (R566). -/
def framePlace (d : Device) : Nat × Device :=
  match d.log.frames.getLast? with
  | some f => (f.next, d)
  | none => systemPlace none d

theorem framePlace_taken (d : Device) : FramesTaken d (framePlace d).2 := by
  unfold framePlace
  split
  · exact .refl d
  · exact systemPlace_taken none d

/-- The chain with one more frame. -/
def chained (f : LogFrame) (d : Device) : Device := { d with log := { d.log with frames := d.log.frames ++ [f], newest := f.place } }

theorem chained_written (f : LogFrame) (d : Device) : FramesWritten ks d (chained f d) := ⟨rfl, fun _ _ => rfl, fun _ _ => rfl⟩

/-- The device with the places of the frame and of the next one taken. -/
def placed (d : Device) : Device := (systemPlace none (framePlace d).2).2

theorem placed_taken (d : Device) : FramesTaken d (placed d) := (framePlace_taken d).trans (systemPlace_taken none _)

/-- The frame that holds the records (R564). -/
def frameOfRecords (rs : List LogRecord) (d : Device) : LogFrame :=
  { records := rs, place := (framePlace d).1, next := (systemPlace none (framePlace d).2).1 }

theorem writeLogFrame_eq (d : Device) (rs : List LogRecord) :
    writeLogFrame d rs = closeRowAt (chained (frameOfRecords rs d) (placed d)) (frameOfRecords rs d).place := rfl

/-- One more frame of the chain holds the records (R566). -/
theorem writeLogFrame_written (d : Device) (rs : List LogRecord) : FramesWritten frameObjs d (writeLogFrame d rs) ∧
    (writeLogFrame d rs).log.frames = d.log.frames ++ [frameOfRecords rs d] := by
  rw [writeLogFrame_eq]
  have hrows := closeRowAt_rows (chained (frameOfRecords rs d) (placed d)) (frameOfRecords rs d).place
  refine ⟨((placed_taken d).written.trans (chained_written _ _)).trans hrows.written, ?_⟩
  rw [log_of_rows hrows]
  change (placed d).log.frames ++ [frameOfRecords rs d] = _
  rw [log_of_taken (placed_taken d)]

/-- The records come onto the medium in their order, in frames of at most 63 (R564, R565). -/
theorem foldl_writeLogFrame (xss : List (List LogRecord)) (d : Device) : FramesWritten frameObjs d (xss.foldl writeLogFrame d) ∧
    ∃ fs : List LogFrame, (xss.foldl writeLogFrame d).log.frames = d.log.frames ++ fs ∧ fs.map (·.records) = xss := by
  induction xss generalizing d with
  | nil => exact ⟨.refl d, [], by simp, rfl⟩
  | cons xs xss ih =>
    obtain ⟨hone, hframe⟩ := writeLogFrame_written d xs
    obtain ⟨hrest, fs, hfs, hrecords⟩ := ih (writeLogFrame d xs)
    refine ⟨hone.trans hrest, frameOfRecords xs d :: fs, ?_, ?_⟩
    · rw [List.foldl_cons, hfs, hframe, List.append_assoc]
      rfl
    · rw [List.map_cons, hrecords]
      rfl

theorem flatten_chunks {α : Type} {n : Nat} (hn : 0 < n) (fuel : Nat) (xs : List α) (h : xs.length ≤ fuel) : (chunks n fuel xs).flatten = xs := by
  induction fuel generalizing xs with
  | zero =>
    have : xs = [] := List.length_eq_zero_iff.mp (by omega)
    subst this
    rfl
  | succ fuel ih =>
    unfold chunks
    cases xs with
    | nil => rfl
    | cons x xs =>
      rw [if_neg (by simp), List.flatten_cons, ih _ (by simp at h ⊢; omega), List.take_append_drop]

theorem length_of_mem_chunks {α : Type} (n fuel : Nat) (xs : List α) : ∀ c ∈ chunks n fuel xs, c.length ≤ n := by
  induction fuel generalizing xs with
  | zero => intro c hc; cases hc
  | succ fuel ih =>
    unfold chunks
    split
    · intro c hc; cases hc
    · intro c hc
      rcases List.mem_cons.mp hc with rfl | hc
      · simp
      · exact ih _ c hc

theorem length_chunks {α : Type} {n : Nat} (hn : 0 < n) (fuel : Nat) (xs : List α) : n * (chunks n fuel xs).length ≤ xs.length + n - 1 := by
  induction fuel generalizing xs with
  | zero => simp [chunks]
  | succ fuel ih =>
    unfold chunks
    split
    · simp
    · rename_i hne
      have hpos : 0 < xs.length := by
        cases xs with
        | nil => simp at hne
        | cons x xs => simp
      have := ih (xs.drop n)
      rw [List.length_drop] at this
      rw [List.length_cons, Nat.mul_succ]
      by_cases hle : n ≤ xs.length
      · omega
      · have h0 : xs.drop n = [] := List.drop_eq_nil_of_le (by omega)
        rw [h0]
        have : (chunks n fuel ([] : List α)).length = 0 := by
          cases fuel <;> rfl
        rw [this]
        omega

/-- What the frames of some records leave, and the records they add to the chain. -/
theorem writeLogFrames_written (rs : List LogRecord) (d : Device) : FramesWritten frameObjs d (writeLogFrames rs d) ∧
    ∃ fs : List LogFrame, (writeLogFrames rs d).log.frames = d.log.frames ++ fs ∧ (fs.map (·.records)).flatten = rs ∧
      (∀ f ∈ fs, f.records.length ≤ 63) ∧ 63 * fs.length ≤ rs.length + 62 := by
  obtain ⟨hall, fs, hfs, hrecords⟩ := foldl_writeLogFrame (chunks 63 rs.length rs) d
  refine ⟨hall, fs, hfs, ?_, fun f hf => ?_, ?_⟩
  · rw [hrecords, flatten_chunks (by decide) _ _ le_rfl]
  · exact length_of_mem_chunks 63 rs.length rs f.records (hrecords ▸ List.mem_map_of_mem hf)
  · have hlen : fs.length = (chunks 63 rs.length rs).length := by rw [← hrecords, List.length_map]
    rw [hlen]
    exact length_chunks (by decide) _ _

/-! ### The superblock -/

theorem settings_foldl {β : Type} {g : Device → β → Device} (hg : ∀ d b, (g d b).settings = d.settings) (xs : List β) (d : Device) :
    (xs.foldl g d).settings = d.settings :=
  foldl_rel (R := fun a b : Device => b.settings = a.settings) (fun _ => rfl) (fun h g => g.trans h) hg xs d

theorem eraseAnchor_rows (k : Nat) (d : Device) : RowsChange ks d ((anchorBlocks k).foldl (fun d b => updBlock b (fun e =>
    { e with erases := min 524287 (e.erases + 1) }) d) d) :=
  RowsChange.foldl (fun d b => updBlock_rows b _ d) _ d

theorem settings_eraseAnchor (k : Nat) (d : Device) : (eraseAnchor k d).settings = d.settings := by
  unfold eraseAnchor updAnchor
  dsimp only
  rw [(eraseAnchor_rows (ks := []) k d).1]

theorem settings_programAnchors (broken : List Nat) (d : Device) : (programAnchors broken d).settings = d.settings := by
  unfold programAnchors
  dsimp only
  refine (settings_foldl ?_ _ _).trans ?_
  · exact fun _ _ => rfl
  split
  · exact settings_foldl (fun e k => settings_eraseAnchor k e) _ d
  · rfl

/-- A write of the superblock leaves the settings. -/
theorem settings_writeSuperblock (d : Device) : (writeSuperblock [] d).settings = d.settings := by
  unfold writeSuperblock
  dsimp only
  split
  · rfl
  · rw [if_pos (by simp)]
    exact settings_programAnchors _ d

/-- A clear of the logbook leaves the settings. -/
theorem settings_clearLogbook (path : Nat) (d : Device) : (clearLogbook path d).settings = d.settings := by
  unfold clearLogbook
  dsimp only
  rw [(writeLogFrames_written _ _).1.1]
  exact (logRec_aside _ _ d).settings

end Sys2Proof.Machine
end

section
/-! PROOFS. Writes of stored objects, and requests that R402 turns away (spec/13 R402, R403, R406, R408): O47. -/
-- The proofs are elaborated one after another: see the first file of these proofs.
set_option Elab.async false

namespace Sys2Proof.Machine

variable {path key v : Nat} {bytes : List Byte} {out : StoreOutcome} {d e : Device}

/-! ### Requests that are turned away -/

theorem writeObject_of_absent {index sub a : Nat} (h : absent index sub = some a) :
    writeObject path index sub bytes out d = (.aborted a sub, d) := by
  unfold writeObject
  rw [h]

/-- The mode does not allow the write (R403). -/
theorem writeObject_of_refusedMode (hpresent : absent (key / 256) (key % 256) = none) (hparts : shape key bytes = ([(key, bytes)], none))
    (hmode : writeAdmitted key d = false) (hacc : accessOf key ≠ .ro) :
    writeObject path (key / 256) (key % 256) bytes out d = (.aborted Abort.modeNotAdmitted (key % 256), d) := by
  have hearly : firstAbort (earlyAborts [(key, bytes)] none d) = some (Abort.modeNotAdmitted, key % 256) := by
    simp [earlyAborts, hmode, hacc, firstAbort]
  unfold writeObject
  rw [hpresent]
  dsimp only
  rw [objKey_div_mod, hparts]
  dsimp only
  rw [hearly]

/-- A request that passes the checks of its shape, its mode and its class. -/
structure EarlyPassed (key : Nat) (bytes : List Byte) (d : Device) : Prop where
  present : absent (key / 256) (key % 256) = none
  parts : shape key bytes = ([(key, bytes)], none)
  admitted : writeAdmitted key d = true
  writable : accessOf key ≠ .ro

theorem EarlyPassed.writeObject (h : EarlyPassed key bytes d) : writeObject path (key / 256) (key % 256) bytes out d =
    if d.ctl.mode = .m8 && wouldStore path key [(key, bytes)] d then (.held, d)
    else match authorise path key [(key, bytes)] d with
      | .error e => (.aborted e (key % 256), d)
      | .ok d => match lateWrite path key [(key, bytes)] none out d with
        | (some e, d) => (.aborted e.1 e.2, d)
        | (none, d) => (.done, d) := by
  have hearly : firstAbort (earlyAborts [(key, bytes)] none d) = none := by
    simp [earlyAborts, h.admitted, h.writable, firstAbort]
  unfold Machine.writeObject
  rw [h.present]
  dsimp only
  rw [objKey_div_mod, h.parts]
  dsimp only
  rw [hearly]
  simp only [Option.isNone_none, Bool.and_true] <;> rfl

theorem lateWrite_of_range (hrange : inRange [(key, bytes)] d key bytes = false) :
    lateWrite path key [(key, bytes)] none out d = (some (Abort.valueOutOfRange, key % 256), d) := by
  unfold lateWrite
  simp [hrange, firstAbort]

/-- The value is out of range (Table 13.7). -/
theorem EarlyPassed.outOfRange {d' : Device} (h : EarlyPassed key bytes d) (h8 : d.ctl.mode ≠ .m8)
    (hauth : authorise path key [(key, bytes)] d = .ok d') (hrange : inRange [(key, bytes)] d' key bytes = false) :
    Machine.writeObject path (key / 256) (key % 256) bytes out d = (.aborted Abort.valueOutOfRange (key % 256), d') := by
  rw [h.writeObject, if_neg (by simp [h8]), hauth]
  dsimp only
  rw [lateWrite_of_range hrange]

/-- The authorisation fails (R417, R418). -/
theorem EarlyPassed.unauthorised {a : Nat} (h : EarlyPassed key bytes d)
    (hstore : (d.ctl.mode = .m8 && wouldStore path key [(key, bytes)] d) = false)
    (hauth : authorise path key [(key, bytes)] d = .error a) :
    Machine.writeObject path (key / 256) (key % 256) bytes out d = (.aborted a (key % 256), d) := by
  rw [h.writeObject, if_neg (by simp [hstore]), hauth]

/-- M8 holds a write that would store (R403). -/
theorem EarlyPassed.held (h : EarlyPassed key bytes d) (h8 : d.ctl.mode = .m8) (hstore : wouldStore path key [(key, bytes)] d = true) :
    Machine.writeObject path (key / 256) (key % 256) bytes out d = (.held, d) := by
  rw [h.writeObject, if_pos (by simp [h8, hstore])]

theorem writeRequest_of_held {i : Instr} {index sub : Nat} (hp : validPath path = true)
    (h : writeObject path index sub bytes out d = (.held, e)) :
    writeRequest i path index sub bytes out d = { e with held := e.held ++ [i] } := by
  unfold writeRequest
  rw [hp, h]
  rfl

/-- What the answer with an abort is (R401). -/
theorem abort_answer (path a : Nat) (d : Device) : (pathState path (answerPath path (some a) [] d)).abort = some a ∧
    (pathState path (answerPath path (some a) [] d)).grant = (pathState path d).grant := by
  rw [pathState_answerPath]
  exact ⟨rfl, rfl⟩

/-! ### Plain settings -/

theorem PlainSetting.early (h : PlainSetting key) (hpath : Admitted path d) (hlen : bytes.length = objSize key) : EarlyPassed key bytes d where
  present := h.1
  parts := by
    obtain ⟨x, -, -, hsize⟩ := objSize_of_stored h.stored
    exact shape_of_size hsize hlen
  admitted := writeAdmitted_of_admitted hpath fun hi => index_of_stored h.stored (by rw [hi]; decide)
  writable := by rw [h.2.1]; decide

theorem PlainSetting.unguarded (h : PlainSetting key) (path : Nat) (bytes : List Byte) (d : Device) :
    authorise path key [(key, bytes)] d = .ok d := authorise_of_unguarded (by rw [h.2.1]; decide)

theorem PlainSetting.stores (h : PlainSetting key) (path : Nat) (bytes : List Byte) (d : Device) :
    wouldStore path key [(key, bytes)] d = true := by
  unfold wouldStore
  rw [if_neg (by simp [uncommitted_of_stored h.stored])]
  simp [h.stored, h.2.2.2.1]

theorem PlainSetting.refusedMode (h : PlainSetting key) (hmode : d.ctl.mode ∈ [Mode.m0, .m1, .m2, .m10, .m11]) :
    writeAdmitted key d = false := by
  have hround := ne_of_stored h.stored (effectObjs_unstored 0x602005 (by decide))
  have hindex := index_of_stored h.stored
  simp only [List.mem_cons, List.not_mem_nil, or_false, not_or] at hmode hindex
  obtain ⟨-, -, -, hrecovery⟩ := hindex
  unfold writeAdmitted
  rcases hmode with hm | hm | hm | hm | hm <;> rw [hm]
  · simp [hround]
    omega

/-! ### The grant stays used, whatever a guarded write comes to -/

/-- The path holds no grant. -/
def NoGrant (path : Nat) (d : Device) : Prop := (pathState path d).grant = none

theorem NoGrant.of_paths (h : NoGrant path d) (hp : e.settings.paths = d.settings.paths) : NoGrant path e := by
  unfold NoGrant pathState at *
  rw [hp]
  exact h

theorem NoGrant.of_settings (h : NoGrant path d) (hp : e.settings = d.settings) : NoGrant path e := h.of_paths (by rw [hp])

theorem paths_setCopy (b : Bool) (c : SettingsCopy) (d : Device) : (setCopy b c d).settings.paths = d.settings.paths := by
  unfold setCopy
  cases b <;> rfl

theorem paths_logRec (code : Nat) (snaps : List Nat) (d : Device) : (logRec code snaps d).settings.paths = d.settings.paths := by
  rw [(logRec_aside code snaps d).settings]

theorem paths_compactCopy (b : Bool) (d : Device) : (compactCopy b d).settings.paths = d.settings.paths := by
  unfold compactCopy
  dsimp only
  rw [paths_logRec, paths_setCopy]
  rfl

theorem paths_appendToCopy (b : Bool) (r : GroupRecord) (outcome : Nat) (d : Device) :
    (appendToCopy b r outcome d).1.settings.paths = d.settings.paths := by
  have hrest : ∀ e : Device, ∀ c : Bool, ∀ x : SettingsCopy, (if c then (e, false) else (setCopy b x e, true)).1.settings.paths =
      e.settings.paths := by
    intro e c x
    split
    · rfl
    · exact paths_setCopy _ _ _
  unfold appendToCopy
  dsimp only
  refine (hrest _ _ _).trans ?_
  split
  · rfl
  · exact paths_compactCopy b d

theorem paths_storeFailure (b : Bool) (r : GroupRecord) (out : StoreOutcome) (d : Device) :
    (storeFailure b r out d).settings.paths = d.settings.paths := paths_logRec _ _ _

theorem paths_storeRecord (r : GroupRecord) (out : StoreOutcome) (d : Device) :
    (storeRecord r out d).1.settings.paths = d.settings.paths := by
  unfold storeRecord
  dsimp only
  split
  · rfl
  · have hfirst := paths_appendToCopy d.cs.activeB r out.active.val d
    generalize appendToCopy d.cs.activeB r out.active.val d = x at hfirst ⊢
    obtain ⟨d', ok⟩ := x
    cases ok with
    | false => exact (paths_storeFailure _ _ _ d').trans hfirst
    | true =>
      dsimp only
      have hcount : (incObj Obj.settingsWrites d').settings.paths = d.settings.paths := hfirst
      generalize incObj Obj.settingsWrites d' = f at hcount ⊢
      split
      · exact hcount
      · have hsecond := paths_appendToCopy (!d.cs.activeB) r out.other.val f
        generalize appendToCopy (!d.cs.activeB) r out.other.val f = y at hsecond ⊢
        obtain ⟨g, ok⟩ := y
        cases ok with
        | true => exact hsecond.trans hcount
        | false => exact ((paths_storeFailure _ _ _ _).trans (paths_setCopy _ _ g)).trans (hsecond.trans hcount)

/-- The guarded objects that have a value of some bytes (spec/13). -/
theorem guardedRows : ∀ x ∈ objRows, x.acc = .grd → typeSize x.typ ≠ 0 →
    (x.stored = true ∧ x.idxLo = x.idxHi ∧ x.idxLo ∈ [0x3500, 0x4430, 0x5020]) ∨ (x.idxLo = 0x4411 ∧ x.idxHi = 0x4411) ∨
    (x.idxLo = 0x8202 ∧ x.idxHi = 0x8202) ∨ (x.idxLo = x.idxHi ∧ x.subLo = x.subHi ∧ x.idxLo * 256 + x.subLo ∈
      [Obj.mapCacheControl, Obj.logbookClear, Obj.settingsAcknowledge, Obj.settingsRestoreDefaults]) := by decide +kernel

theorem guarded_cases (hacc : accessOf key = .grd) (hsize : objSize key ≠ 0) :
    (storedObject key = true ∧ key / 256 ∈ [0x3500, 0x4430, 0x5020]) ∨ key / 256 = 0x4411 ∨ key / 256 = 0x8202 ∨
    key ∈ [Obj.mapCacheControl, Obj.logbookClear, Obj.settingsAcknowledge, Obj.settingsRestoreDefaults] := by
  unfold accessOf at hacc
  unfold objSize at hsize
  unfold storedObject
  cases hrow : objRow? key with
  | none => rw [hrow] at hsize; exact absurd rfl hsize
  | some x =>
    rw [hrow] at hacc hsize
    obtain ⟨hmem, hlo, hhi, hsubLo, hsubHi⟩ := objRow?_bounds hrow
    rcases guardedRows x hmem hacc hsize with ⟨hstored, heq, hidx⟩ | ⟨h1, h2⟩ | ⟨h1, h2⟩ | ⟨heq, hsub, hkey⟩
    · refine .inl ⟨hstored, ?_⟩
      have : key / 256 = x.idxLo := by omega
      rw [this]
      exact hidx
    · exact .inr (.inl (by omega))
    · exact .inr (.inr (.inl (by omega)))
    · have : key = x.idxLo * 256 + x.subLo := by omega
      exact .inr (.inr (.inr (this ▸ hkey)))

theorem paths_settingEffect (hindex : key / 256 ∈ [0x3500, 0x4430, 0x5020]) (v : Nat) (d : Device) :
    (settingEffect key v d).settings.paths = d.settings.paths := by
  have hne : ∀ k, k / 256 ∉ [0x3500, 0x4430, 0x5020] → key ≠ k := fun k hk h => hk (h ▸ hindex)
  unfold settingEffect
  simp only [hne Obj.tokenPoolSize (by decide), hne Obj.supplyWarningMv (by decide), hne Obj.tokenBankQuota (by decide),
    hne Obj.tokenBankReserve (by decide), hne Obj.writeBufferMaxGrains (by decide), hne Obj.openHostStripes (by decide),
    hne Obj.openMovedStripes (by decide), if_false, decide_false, Bool.or_self, Bool.false_eq_true]
  change (if _ then keepHoldUp d else d).settings.paths = _
  split <;> rfl

theorem settings_cacheControl {value : Nat} (h : cacheControl value d = some e) : e.settings = d.settings := by
  unfold cacheControl at h
  dsimp only at h
  split at h <;> simp only [Option.some.injEq, reduceCtorEq] at h
  all_goals
    subst h
    rfl

theorem settings_setCarrierState (bank st : Nat) (d : Device) : (setCarrierState bank st d).settings = d.settings := by
  unfold setCarrierState noteBanks
  split <;> simp

theorem settings_cancelRemoval (bank : Nat) (d : Device) : (cancelRemoval bank d).settings = d.settings := by
  unfold cancelRemoval
  dsimp only
  split
  · split
    · simp [settings_setCarrierState, updCarrier]
    · simp [settings_setCarrierState, updCarrier]
  · simp [settings_setCarrierState, updCarrier]

theorem settings_startBringUp (bank : Nat) (d : Device) : (startBringUp bank d).settings = d.settings := by
  unfold startBringUp
  simp [settings_setCarrierState, updCarrier]

theorem settings_carrierCommand {bank value : Nat} (h : carrierCommand bank value d = some e) : e.settings = d.settings := by
  unfold carrierCommand at h
  dsimp only at h
  split at h
  · split at h <;> simp only [Option.some.injEq, reduceCtorEq] at h
    subst h
    exact settings_setCarrierState _ _ _
  · split at h <;> simp only [Option.some.injEq, reduceCtorEq] at h
    subst h
    exact settings_cancelRemoval _ _
  · split at h <;> simp only [Option.some.injEq, reduceCtorEq] at h
    subst h
    exact settings_startBringUp _ _
  · split at h <;> simp only [Option.some.injEq, reduceCtorEq] at h
    subst h
    exact settings_setCarrierState _ _ _
  · split at h <;> simp only [Option.some.injEq, reduceCtorEq] at h
    subst h
    exact settings_startBringUp _ _
  · cases h

theorem settings_clearRequest (h : clearRequest path d = some e) : e.settings = d.settings := by
  unfold clearRequest at h
  split at h <;> simp only [Option.some.injEq, reduceCtorEq] at h
  subst h
  exact (settings_writeSuperblock _).trans (settings_clearLogbook path d)

theorem paths_acknowledgeSettings (path : Nat) (d : Device) : (acknowledgeSettings path d).settings.paths = d.settings.paths := by
  unfold acknowledgeSettings
  split
  · rfl
  · dsimp only
    rw [(updateCauses_frame _).2.2.2.2.2.2.2.2.1, paths_logRec]
    rfl

theorem NoGrant.challengesEnded (h : NoGrant path d) (slot : Nat) : NoGrant path (challengesEnded slot d) :=
  foldl_rel (R := fun a b : Device => NoGrant path a → NoGrant path b) (fun _ h => h) (fun h g x => g (h x)) (fun a q ha => by
    unfold NoGrant at ha ⊢
    rw [pathState_withdrawChallenges]
    split
    · next hq => rw [← hq]; exact ha
    · exact ha) _ d h

theorem settings_appendKeyEntry (d : Device) : (appendKeyEntry d).settings = d.settings := by
  unfold appendKeyEntry updSec
  dsimp only
  split
  · rfl
  · unfold compactKeys
    dsimp only [List.foldl]
    simp [updSec, updCs]

theorem NoGrant.writeAuthRights (h : NoGrant path d) (p slot rights : Nat) : NoGrant path (writeAuthRights p slot rights d) := by
  have hended := h.challengesEnded slot
  refine hended.of_settings ?_
  unfold Machine.writeAuthRights
  dsimp only
  rw [(logRec_aside _ _ _).settings, settings_appendKeyEntry]
  rfl

theorem writeEffect_carrier (h : key / 256 = 0x8202) : writeEffect path key bytes out d =
    carrierCommand (key % 256) (writtenBits key (ofLe bytes)) d := by
  have hne : ∀ k, k / 256 ≠ 0x8202 → key ≠ k := fun k hk hkey => hk (hkey ▸ h)
  unfold writeEffect
  dsimp only
  rw [if_neg (hne _ (by decide)), if_neg (hne _ (by decide)), if_neg (by omega), if_neg (by omega), if_neg (hne _ (by decide)),
    if_neg (hne _ (by decide)), if_neg (hne _ (by decide)), if_neg (hne _ (by decide)), if_neg (hne _ (by decide)), if_pos h]

/-- No effect of a guarded object gives a path a grant. -/
theorem NoGrant.writeEffect (h : NoGrant path d) (hacc : accessOf key = .grd) (hsize : objSize key ≠ 0)
    (hkept : key ≠ Obj.settingsRestoreDefaults) (he : writeEffect path key bytes out d = some e) : NoGrant path e := by
  rcases guarded_cases hacc hsize with ⟨hstored, hindex⟩ | hrights | hcarrier | hkey
  · rw [writeEffect_of_stored hstored] at he
    cases he
    exact h.of_paths (paths_settingEffect hindex _ d)
  · rw [writeEffect_authRights hrights] at he
    cases he
    exact h.writeAuthRights _ _ _
  · rw [writeEffect_carrier hcarrier] at he
    exact h.of_settings (settings_carrierCommand he)
  · simp only [List.mem_cons, List.not_mem_nil, or_false] at hkey
    rcases hkey with rfl | rfl | rfl | rfl
    · exact h.of_settings (settings_cacheControl he)
    · exact h.of_settings (settings_clearRequest he)
    · cases he
      exact h.of_paths (paths_acknowledgeSettings path d)
    · exact absurd rfl hkept

/-- Nor does what is left of a guarded write after its authorisation. -/
theorem NoGrant.lateWrite (h : NoGrant path d) (hacc : accessOf key = .grd) (hsize : objSize key ≠ 0)
    (hkept : key ≠ Obj.settingsRestoreDefaults) (hmember : isMember key = false) (hcommit : isCommit key = false) :
    NoGrant path (lateWrite path key [(key, bytes)] none out d).2 := by
  have happly : ∀ x y, applyParts path out [(key, bytes)] x = .ok y → NoGrant path x → NoGrant path y := by
    intro x y hxy hx
    unfold applyParts at hxy
    rw [hmember] at hxy
    simp only [Bool.false_eq_true, if_false] at hxy
    cases he : Machine.writeEffect path key bytes out x with
    | none => rw [he] at hxy; cases hxy
    | some z =>
      rw [he] at hxy
      cases hxy
      exact hx.writeEffect hacc hsize hkept he
  unfold Machine.lateWrite
  dsimp only
  split
  · exact h
  · rw [if_neg (by simp [hcommit]), if_neg hkept]
    split
    · exact h
    · have hstore := paths_storeRecord (([(key, bytes)].filter fun p => storedObject p.1 && !isMember p.1).map
        fun p => (p.1, some (writtenBits p.1 (ofLe p.2)))) out d
      generalize storeRecord (([(key, bytes)].filter fun p => storedObject p.1 && !isMember p.1).map
        fun p => (p.1, some (writtenBits p.1 (ofLe p.2)))) out d = x at hstore ⊢
      obtain ⟨f, ok⟩ := x
      have hf : NoGrant path f := h.of_paths hstore
      cases ok with
      | false => exact hf
      | true =>
        dsimp only
        split
        · next y hy => exact happly f y hy hf
        · exact hf

/-- The grant of a guarded write is used, whatever the write comes to (R418). -/
theorem EarlyPassed.grantUsed (h : EarlyPassed key bytes d) (hgrd : accessOf key = .grd) (hsize : objSize key ≠ 0)
    (hstore : (d.ctl.mode = .m8 && wouldStore path key [(key, bytes)] d) = false)
    (hkept : key ≠ Obj.settingsRestoreDefaults) (hmember : isMember key = false) (hcommit : isCommit key = false)
    (hauth : authorise path key [(key, bytes)] d = .ok (useGrant path d)) {i : Instr} (hp : validPath path = true) :
    NoGrant path (writeRequest i path (key / 256) (key % 256) bytes out d) := by
  have hused : NoGrant path (useGrant path d) := congrArg PathState.grant (pathState_updPath_self _ _ _)
  have hlate := hused.lateWrite (bytes := bytes) (out := out) hgrd hsize hkept hmember hcommit
  have hobject := h.writeObject (path := path) (out := out)
  rw [if_neg (by simp [hstore]), hauth] at hobject
  dsimp only at hobject
  generalize Machine.lateWrite path key [(key, bytes)] none out (useGrant path d) = x at hlate hobject
  obtain ⟨abort, f⟩ := x
  cases abort with
  | some a =>
    rw [writeRequest_of_aborted hp hobject]
    unfold NoGrant
    rw [pathState_answerPath]
    exact hlate
  | none =>
    rw [writeRequest_of_done hp hobject]
    unfold NoGrant
    rw [pathState_answerPath]
    exact hlate

theorem guardedObjs_plain : ∀ k ∈ [0x10110F, 0x34000F] ++ groupMembers 0x1011 ++ groupMembers 0x3400, accessOf k ≠ .grd := by decide +kernel

theorem single_of_guarded (h : accessOf key = .grd) : isMember key = false ∧ isCommit key = false := by
  refine ⟨?_, ?_⟩
  · by_contra hm
    have hmem : key ∈ groupMembers (key / 256) := by simpa [isMember] using hm
    have : key ∈ [0x10110F, 0x34000F] ++ groupMembers 0x1011 ++ groupMembers 0x3400 := by
      unfold groupMembers at hmem ⊢
      split at hmem
      · simp only [if_true, List.mem_append]
        exact .inl (.inr hmem)
      · split at hmem
        · simp only [List.mem_append]
          exact .inr hmem
        · cases hmem
    exact guardedObjs_plain key this h
  · by_contra hc
    have hkey : key = 0x10110F ∨ key = 0x34000F := by
      simp only [isCommit, Bool.not_eq_false, Bool.or_eq_true, decide_eq_true_eq] at hc
      exact hc
    rcases hkey with rfl | rfl
    · exact guardedObjs_plain _ (by decide) h
    · exact guardedObjs_plain _ (by decide) h

theorem guarded_index : ∀ x ∈ objRows, x.acc = .grd → ¬(x.idxLo ≤ 0x7040 ∧ 0x7040 ≤ x.idxHi) := by decide +kernel

theorem early_of_guarded (hpath : Admitted path d) (hpresent : absent (key / 256) (key % 256) = none) (hacc : accessOf key = .grd)
    (hlen : bytes.length = objSize key) (hsize : objSize key ≠ 0) : EarlyPassed key bytes d where
  present := hpresent
  parts := shape_of_size hsize hlen
  admitted := by
    refine writeAdmitted_of_admitted hpath fun hi => ?_
    unfold accessOf at hacc
    cases hrow : objRow? key with
    | none => rw [hrow] at hacc; cases hacc
    | some x =>
      rw [hrow] at hacc
      obtain ⟨hmem, hlo, hhi, -, -⟩ := objRow?_bounds hrow
      exact guarded_index x hmem hacc (by omega)
  writable := by rw [hacc]; decide

/-- Step 6 of R402 for one guarded object in a mode other than M2. -/
theorem authorise_guarded (hm2 : d.ctl.mode ≠ .m2) (hacc : accessOf key = .grd) : authorise path key [(key, bytes)] d =
    if pathLocked path d then .error Abort.pathLockedOut
    else if grantFor path 1 (key / 256 + 65536 * (key % 256)) d then .ok (useGrant path d)
    else .error Abort.authorisationRequired := by
  unfold authorise
  rw [if_neg (by simp [hm2, hacc])]

end Sys2Proof.Machine

section
open Sys2Proof Sys2Proof.Machine

/-- Settles O47: a request that R402 turns away is answered before anything else changes; an accepted one of a plain stored object is its record
in the settings copies and its value. -/
theorem writesAreStoredOrAborted : Obligations.WritesAreStoredOrAborted := by
  refine ⟨fun s path key v out hpath h8 hplain hv hrange hroom hactive hother => .of_runDev _ rfl ?_,
    fun s path key v out hpath hplain hv h8 hrange => .of_runDev _ rfl ?_,
    fun s path key v out hpath hplain hv h8 => .of_runDev _ rfl ?_,
    fun s path index sub e value out h1 h5 habsent => .of_runDev _ rfl ?_,
    fun s path key value out h1 h5 hplain hlen hmode => .of_runDev _ rfl ?_,
    fun s path key value out hpath hpresent hacc hlen hsize hstored hkept => .of_runDev _ rfl ?_⟩
  · have hp := validPath_of hpath.1 hpath.2.1
    have hlen := length_leBytes (objSize key) v
    rw [(hplain.single hpath h8 hlen hrange).storedRequest hplain.stored hp hroom hactive hother, ofLe_leBytes hv,
      settingEffect_plain hplain]
    have hcopies := recordStored_copies [(key, some (writtenBits key v))] s.dev
    have hrecord := recordStored_stored [(key, some (writtenBits key v))] s.dev
    generalize recordStored [(key, some (writtenBits key v))] s.dev = b at hcopies hrecord ⊢
    have hne : ∀ k, storedObject k = false → key ≠ k := fun k hk => ne_of_stored hplain.stored hk
    have hrequests := hne Obj.dictionaryRequests (effectObjs_unstored _ (by decide))
    obtain ⟨ha, hb⟩ := copies_answerPath path none [] (setObj key (writtenBits key v) b)
    refine ⟨?_, hrecord.congr ha hb, ⟨?_, ?_⟩, ?_⟩
    · rw [getObj_answerPath hrequests, getObj_setObj_self]
    · rw [pathState_answerPath]
    · rw [answerPath_requests, getObj_setObj_ne hrequests.symm, hcopies.objs _ (by decide)]
    · refine pathOnly_answer (hcopies.settingsOnly.trans (setObj_settingsOnly _ _ b)) (fun k hk => ?_) (fun p _ => ?_) none []
      · simp only [List.mem_cons, List.not_mem_nil, or_false, not_or] at hk
        rw [getObj_setObj_ne hk.1, hcopies.objs k (by simpa using hk.2)]
      · unfold pathState
        rw [show (setObj key (writtenBits key v) b).settings = b.settings from rfl, hcopies.parts]
  · have hlen := length_leBytes (objSize key) v
    rw [writeRequest_of_aborted (validPath_of hpath.1 hpath.2.1)
      ((hplain.early hpath hlen).outOfRange h8 (hplain.unguarded path _ s.dev) hrange)]
    obtain ⟨ha, hb⟩ := copies_answerPath path (some (abortCode Abort.valueOutOfRange (key % 256))) [] s.dev
    exact ⟨(abort_answer path _ s.dev).1, pathOnly_abort path _ [] s.dev, ha, hb⟩
  · have hlen := length_leBytes (objSize key) v
    exact writeRequest_of_held (validPath_of hpath.1 hpath.2.1)
      ((hplain.early hpath hlen).held h8 (hplain.stores path _ s.dev))
  · rw [writeRequest_of_aborted (validPath_of h1 h5) (writeObject_of_absent habsent)]
    obtain ⟨ha, hb⟩ := copies_answerPath path (some (abortCode e sub)) [] s.dev
    exact ⟨(abort_answer path _ s.dev).1, pathOnly_abort path _ [] s.dev, ha, hb, getObj_dictionaryAborts_answerPath path _ [] s.dev⟩
  · obtain ⟨x, -, -, hne⟩ := objSize_of_stored hplain.stored
    rw [writeRequest_of_aborted (validPath_of h1 h5) (writeObject_of_refusedMode hplain.1 (shape_of_size hne hlen)
      (hplain.refusedMode hmode) (by rw [hplain.2.1]; decide))]
    obtain ⟨ha, hb⟩ := copies_answerPath path (some (abortCode Abort.modeNotAdmitted (key % 256))) [] s.dev
    exact ⟨(abort_answer path _ s.dev).1, pathOnly_abort path _ [] s.dev, ha, hb⟩
  · have hp := validPath_of hpath.1 hpath.2.1
    have hm2 : s.dev.ctl.mode ≠ .m2 := by
      obtain ⟨-, -, hmode⟩ := hpath
      intro hm
      rw [hm] at hmode
      revert hmode
      decide
    obtain ⟨hmember, hcommit⟩ := single_of_guarded hacc
    have hearly := early_of_guarded hpath hpresent hacc hlen hsize
    have hauth := authorise_guarded (path := path) (bytes := value) hm2 hacc
    have hstore : (s.dev.ctl.mode = .m8 && wouldStore path key [(key, value)] s.dev) = false := by
      unfold wouldStore
      rcases hstored with hs | hm8
      · simp [hcommit, hkept, hs]
      · simp [hm8]
    refine ⟨fun hlocked => ?_, fun hlocked hgrant => ?_, fun hlocked hgrant => ?_⟩
    · rw [hlocked, if_pos rfl] at hauth
      rw [writeRequest_of_aborted hp (hearly.unauthorised hstore hauth)]
      exact ⟨(abort_answer path _ s.dev).1, pathOnly_abort path _ [] s.dev, (abort_answer path _ s.dev).2⟩
    · rw [hlocked, if_neg (by decide), hgrant, if_neg (by decide)] at hauth
      rw [writeRequest_of_aborted hp (hearly.unauthorised hstore hauth)]
      exact ⟨(abort_answer path _ s.dev).1, pathOnly_abort path _ [] s.dev, (abort_answer path _ s.dev).2⟩
    · rw [hlocked, if_neg (by decide), hgrant, if_pos rfl] at hauth
      exact hearly.grantUsed hacc hsize hstore hkept hmember hcommit hauth hp

end
end

section
/-! PROOFS. Objects of the dictionary (spec/13, spec/19): O49. -/
-- The proofs are elaborated one after another: see the first file of these proofs.
set_option Elab.async false

namespace Sys2Proof.Machine

/-- M5 with a carrier in bank 0, the superblock of a side that no anchor group has, and the grant of path 1 for a clear of the logbook. -/
def sideBeyond : Device :=
  setObj (Obj.carrierState 0) 0x04 { State.reset.dev with
    ctl := { State.reset.dev.ctl with mode := .m5 }
    log := { State.reset.dev.log with runStarted := true, indexComplete := true }
    settings := { State.reset.dev.settings with paths := [(1, { grant := some { op := 1, arg := Obj.logbookClear / 256 + 65536 * (Obj.logbookClear % 256) } })] }
    media := { State.reset.dev.media with
      sb := { State.reset.dev.media.sb with side := 40 }
      stripes := [(0, { exists_ := true, isOpen := true, kind := 3, members := [(0, 0), (0, 9)] })]
      groups := [(19, { used := true, kind := 3, blocks := [9 * 16384 + 8] })] } }

end Sys2Proof.Machine

section
open Sys2Proof Sys2Proof.Machine

/-- Refutes O49: a clear of the logbook writes the superblock, whose generation goes to the object of the anchor group's carrier; for a side
beyond 1 that is a carrier beyond the sixteen listed. -/
theorem not_dictionaryObjectsAct : ¬ Obligations.DictionaryObjectsAct := by
  intro ⟨_, _, _, _, hclear, _⟩
  obtain ⟨_, _, _, _, hobjs, _⟩ := (hclear { State.reset with dev := sideBeyond } 1 (by unfold Granted Admitted; decide +kernel)
    (by decide +kernel) (by decide +kernel) (by unfold WriterOpen; decide +kernel) (by decide +kernel) (by decide +kernel)).of_exec rfl
  exact absurd (hobjs (Obj.carrierLastGeneration 20) (by decide +kernel)) (by decide +kernel)

end
end

section
/-! PROOFS. The flush of the logbook, its ceiling and the operating hours (spec/19 R557, R564 to R568, spec/20 R580): O51. -/
-- The proofs are elaborated one after another: see the first file of these proofs.
set_option Elab.async false

namespace Sys2Proof.Machine

variable {d e : Device}

/-! ### The chain of frames -/

/-- Frames that hold no more records than the chain may, and are no more than it may have, keep their records (R567). -/
theorem trimFrames_records (fuel : Nat) (fs : List LogFrame) (hrecords : (fs.map fun f => f.records.length).sum ≤ 1048576)
    (hlen : fs.length ≤ 32768) : ((trimFrames fuel fs).map (·.records)).flatten = (fs.map (·.records)).flatten ∧
      ∃ k, trimFrames fuel fs = fs.drop k := by
  induction fuel generalizing fs with
  | zero => exact ⟨rfl, 0, rfl⟩
  | succ fuel ih =>
    unfold trimFrames
    cases fs with
    | nil => exact ⟨rfl, 0, rfl⟩
    | cons f rest =>
      simp only [List.map_cons, List.sum_cons, List.length_cons] at hrecords hlen
      dsimp only
      split
      · next hcut =>
        have hempty : f.records = [] := by
          simp only [List.length_cons, Bool.or_eq_true, decide_eq_true_eq] at hcut
          exact List.length_eq_zero_iff.mp (by omega)
        obtain ⟨hsame, k, hk⟩ := ih rest (by omega) (by omega)
        refine ⟨?_, k + 1, by rw [hk]; rfl⟩
        rw [hsame, List.map_cons, List.flatten_cons, hempty]
        rfl
      · exact ⟨rfl, 0, rfl⟩

/-- The unpersisted records of the ring, oldest first. -/
def unpersisted (d : Device) : List LogRecord := (d.log.ring.filter fun e => !e.persisted).map (·.entry)

theorem length_unpersisted (d : Device) : (unpersisted d).length ≤ d.log.ring.length := by
  unfold unpersisted
  rw [List.length_map]
  exact List.length_filter_le _ _

/-- The ring with every record persisted, its frames trimmed to what the chain may hold (R567). -/
def ringPersisted (e : Device) : Device :=
  { e with log := { e.log with ring := e.log.ring.map fun x => { x with persisted := true }
                               frames := trimFrames e.log.frames.length e.log.frames, flushDue := false } }

theorem persistRing_eq (d : Device) : persistRing d = ringPersisted (writeLogFrames (unpersisted d) d) := rfl

theorem sum_lengths (fs : List LogFrame) : (fs.map fun f => f.records.length).sum = ((fs.map (·.records)).flatten).length := by
  rw [List.length_flatten, List.map_map]
  rfl

/-- What the flush leaves of the chain: its records and the ring's that were not persisted, in frames of at most 63. -/
theorem persistRing_frames (hring : d.log.ring.length ≤ 4096) (hframes : d.log.frames.length ≤ 32000)
    (hrecords : (flashRecords d).length + 4096 ≤ 1048576) :
    flashRecords (persistRing d) = flashRecords d ++ unpersisted d ∧
    ∀ f ∈ (persistRing d).log.frames.drop d.log.frames.length, f.records.length ≤ 63 := by
  obtain ⟨-, fs, hfs, hflat, h63, hcount⟩ := writeLogFrames_written (unpersisted d) d
  have hun := length_unpersisted d
  have hsum : ((d.log.frames ++ fs).map fun f => f.records.length).sum ≤ 1048576 := by
    rw [sum_lengths, List.map_append, List.flatten_append, hflat, List.length_append]
    change (flashRecords d).length + _ ≤ _
    omega
  have hlen : (d.log.frames ++ fs).length ≤ 32768 := by
    rw [List.length_append]
    omega
  obtain ⟨hsame, k, hk⟩ := trimFrames_records (d.log.frames ++ fs).length (d.log.frames ++ fs) hsum hlen
  have hall : (persistRing d).log.frames = trimFrames (d.log.frames ++ fs).length (d.log.frames ++ fs) := by
    rw [persistRing_eq]
    change trimFrames (writeLogFrames (unpersisted d) d).log.frames.length (writeLogFrames (unpersisted d) d).log.frames = _
    rw [hfs]
  refine ⟨?_, fun f hf => ?_⟩
  · unfold flashRecords
    rw [hall, hsame, List.map_append, List.flatten_append, hflat]
  · rw [hall, hk, List.drop_drop] at hf
    refine h63 f ?_
    have hsub : f ∈ (d.log.frames ++ fs).drop d.log.frames.length := by
      rw [Nat.add_comm, ← List.drop_drop] at hf
      exact List.mem_of_mem_drop hf
    rwa [List.drop_left] at hsub

/-- The flush changes what its frames change, and the logbook's own account of them. -/
theorem persistRing_parts (d : Device) : OnlyObjs frameObjs d (persistRing d) ∧ OnlyLedgers [5] d (persistRing d) ∧
    FramesOnly d (persistRing d) ∧ (persistRing d).log.ring = d.log.ring.map (fun x => { x with persisted := true }) ∧
    persistRing d = { d with objs := (persistRing d).objs, media := (persistRing d).media, free := (persistRing d).free
                             ledgers := (persistRing d).ledgers, res := (persistRing d).res
                             log := { d.log with ring := (persistRing d).log.ring, frames := (persistRing d).log.frames
                                                 newest := (persistRing d).log.newest, flushDue := false } } := by
  obtain ⟨hwritten, -⟩ := writeLogFrames_written (unpersisted d) d
  have honly := hwritten.only
  rw [persistRing_eq]
  generalize writeLogFrames (unpersisted d) d = w at hwritten honly ⊢
  obtain ⟨hparts, hobjs, hledgers⟩ := hwritten
  refine ⟨fun k hk => hobjs k hk, fun l hl => hledgers l hl, honly, ?_, ?_⟩
  · unfold ringPersisted
    rw [hparts]
  · unfold ringPersisted
    rw [hparts]

/-! ### The ceiling -/

theorem acceptWaiting_one {code : Nat} {snaps : List Nat} (hwaiting : d.log.waiting = [(code, snaps)]) (hnext : d.log.nextSeq ≠ d.log.ceiling) :
    acceptWaiting 1 d = acceptRecord code snaps { d with log := { d.log with waiting := [] } } := by
  unfold acceptWaiting
  rw [hwaiting]
  dsimp only
  rw [if_neg hnext]
  rfl

theorem ceilingVerified_of_raising {c : Nat} (h : d.log.raising = some c) :
    ceilingVerified d = acceptWaiting d.log.waiting.length { d with log := { d.log with ceiling := c, raising := none } } := by
  unfold ceilingVerified
  rw [h]

theorem waiting_ringAppend (r : LogRecord) (d : Device) : (ringAppend r d).log.waiting = d.log.waiting := by
  unfold ringAppend
  dsimp only
  split
  · rfl
  · split <;> rfl

theorem waiting_raiseCeiling (d : Device) : (raiseCeiling d).log.waiting = d.log.waiting := by
  unfold raiseCeiling
  split <;> rfl

/-- An accepted record leaves those that wait. -/
theorem waiting_acceptRecord (code : Nat) (snaps : List Nat) (d : Device) : (acceptRecord code snaps d).log.waiting = d.log.waiting := by
  unfold acceptRecord
  dsimp only
  simp only [sendNotice_frame, sendEmergency_frame]
  split <;> split <;> simp [waiting_raiseCeiling, waiting_ringAppend]

/-! ### Operating hours -/

theorem appendCounterEntry_wear (x : CounterEntry) (d : Device) : WearOnly { d.cs with counters := x } (appendCounterEntry x d).cs :=
  WearOnly.trans (logAppend_counts 4 _) (logAppend_counts 6 _)

/-! ### A flush that is due -/

/-- A flush that finds its buffers, with no lost records to report (R564). -/
theorem runLogFlush_of_ready (hdue : d.log.flushDue = true) (hpossible : logFlushPossible d = true)
    (hpools : poolsActive d = true → poolWaits 0x09 3 d = false ∧ grantOk 3 0x09 (flushBuffers d) d = true) (hlost : d.log.lostCount = 0) :
    runLogFlush d = incObj Obj.logbookFlushes (persistRing d) := by
  have hcount : (incObj Obj.logbookFlushes (persistRing d)).log.lostCount = 0 := by
    obtain ⟨-, -, -, -, hparts⟩ := persistRing_parts d
    change (persistRing d).log.lostCount = 0
    rw [hparts]
    exact hlost
  unfold runLogFlush
  rw [if_neg (by
    cases hactive : poolsActive d with
    | false => simp [hdue, hpossible]
    | true => simp [hdue, hpossible, (hpools hactive).1]), if_neg (by
    cases hactive : poolsActive d with
    | false => simp
    | true => simp [(hpools hactive).2])]
  unfold reportOverwritten
  rw [if_pos hcount]

/-- A flush that is not due, not possible, or waits for its buffers changes nothing. -/
theorem runLogFlush_of_none (h : d.log.flushDue = false ∨ logFlushPossible d = false ∨ poolsActive d = true ∧ poolWaits 0x09 3 d = true) :
    runLogFlush d = d := by
  unfold runLogFlush
  rw [if_pos]
  rcases h with h | h | ⟨h1, h2⟩
  · simp [h]
  · simp [h]
  · simp [h1, h2]

/-- A flush whose buffers are not to be had meets pool empty (R493). -/
theorem runLogFlush_of_empty (hdue : d.log.flushDue = true) (hpossible : logFlushPossible d = true) (hactive : poolsActive d = true)
    (hwaits : poolWaits 0x09 3 d = false) (hgrant : grantOk 3 0x09 (flushBuffers d) d = false) :
    runLogFlush d = poolEmptyResult 0x09 3 4096 true d := by
  unfold runLogFlush
  rw [if_neg (by simp [hdue, hpossible, hwaits]), if_pos (by simp [hactive, hgrant])]

/-- An owner that does not wait for a pool waits for it from the answer pool empty on (R493). -/
theorem poolWaits_poolEmptyResult {owner pool : Nat} (h : poolWaits owner pool d = false) (size : Nat) (own : Bool) :
    poolWaits owner pool (poolEmptyResult owner pool size own d) = true := by
  have hwait : (smGet {} d.res.waits (owner * 8 + pool)).waitUs = 0 := by simpa [poolWaits] using h
  have hres : (poolEmptyResult owner pool size own d).res.waits =
      smSet {} (owner * 8 + pool) { size := size, waitUs := 8 + owner % 16, own := own } d.res.waits := by
    unfold poolEmptyResult
    dsimp only
    rw [hwait, if_pos rfl]
    unfold countMapLoad
    split <;> rfl
  unfold poolWaits
  rw [hres, smGet_smSet_self]
  simp

theorem poolEmptyResult_flush (d : Device) : poolEmptyResult 0x09 3 4096 true d =
    { d with ledgers := (poolEmptyResult 0x09 3 4096 true d).ledgers
             res := { d.res with poolEmpty := (poolEmptyResult 0x09 3 4096 true d).res.poolEmpty
                                 waits := (poolEmptyResult 0x09 3 4096 true d).res.waits } } := rfl

theorem ledger_poolEmptyResult (l : Nat) (d : Device) : ledger l (poolEmptyResult 0x09 3 4096 true d) =
    if l = 3 then { ledger 3 d with refused := ((ledger 3 d).refused + 1) % 2 ^ 64 } else ledger l d :=
  ledger_updLedger l 3 _ _

theorem idle_of_runDev {i : Instr} {s : State} {f : Device → Device} (hrun : exec i s = runDev f s) (h : f s.dev = s.dev) : Idle i s := by
  unfold Idle
  rw [hrun]
  unfold runDev
  rw [h]

end Sys2Proof.Machine

section
open Sys2Proof Sys2Proof.Machine

/-- Settles O51: a flush is its frames, in order; a ceiling in force lets in what waits below it; an hour step is one counter entry. -/
theorem logbookFlushesAndCounts : Obligations.LogbookFlushesAndCounts := by
  refine ⟨fun s hdue hpossible hpools hlost hring hframes hrecords => .of_runDev _ rfl ?_, fun s h => idle_of_runDev rfl ?_,
    fun s hdue hpossible hactive hwaits hgrant => .of_runDev _ rfl ?_, fun s c hraising hwaiting => .of_runDev _ rfl ?_,
    fun s c code snaps hraising hwaiting hnext => .of_runDev _ rfl ?_, fun s hmode hpor hrun => .of_runDev _ rfl ?_⟩
  · rw [runLogFlush_of_ready hdue hpossible hpools hlost]
    obtain ⟨hflash, h63⟩ := persistRing_frames hring hframes hrecords
    obtain ⟨hobjs, hledgers, honly, hkept, hparts⟩ := persistRing_parts s.dev
    have hcount : getObj Obj.logbookFlushes (persistRing s.dev) = getObj Obj.logbookFlushes s.dev := hobjs _ (by decide)
    have hflushed : (persistRing s.dev).log.flushDue = false := by rw [hparts]
    generalize persistRing s.dev = p at *
    refine ⟨fun e he => ?_, ?_, hflash, h63, hflushed, ?_, fun k hk => ?_, hledgers, honly, ?_⟩
    · change e ∈ p.log.ring at he
      rw [hkept] at he
      obtain ⟨x, -, rfl⟩ := List.mem_map.mp he
      rfl
    · change p.log.ring.map (·.entry) = s.dev.log.ring.map (·.entry)
      rw [hkept, List.map_map]
      rfl
    · rw [getObj_incObj_self, hcount]
    · simp only [List.mem_cons, not_or] at hk
      rw [getObj_incObj_ne hk.1, hobjs k hk.2]
    · change incObj Obj.logbookFlushes p = { s.dev with
        objs := (incObj Obj.logbookFlushes p).objs, media := p.media, free := p.free, ledgers := p.ledgers, res := p.res
        log := { s.dev.log with ring := p.log.ring, frames := p.log.frames, newest := p.log.newest, flushDue := false } }
      generalize hq : incObj Obj.logbookFlushes p = q
      have hobj : q = { p with objs := q.objs } := hq ▸ rfl
      rw [hparts] at hobj
      exact hobj
  · exact runLogFlush_of_none h
  · rw [runLogFlush_of_empty hdue hpossible hactive hwaits hgrant]
    have h3 := ledger_poolEmptyResult 3 s.dev
    rw [if_pos rfl] at h3
    refine ⟨poolWaits_poolEmptyResult hwaits 4096 true, by rw [h3], fun l hl => ?_, by rw [h3], poolEmptyResult_flush s.dev⟩
    exact (ledger_poolEmptyResult l s.dev).trans (if_neg (by simpa using hl))
  · rw [ceilingVerified_of_raising hraising, hwaiting]
    rfl
  · rw [ceilingVerified_of_raising hraising, hwaiting]
    have hone := acceptWaiting_one (d := { s.dev with log := { s.dev.log with ceiling := c, raising := none } }) hwaiting hnext
    have haside := acceptRecord_aside code snaps { s.dev with log := { s.dev.log with ceiling := c, raising := none, waiting := [] } }
    obtain ⟨r, hr, hcode, hseq, -, hsnaps⟩ := acceptRecord_newest code snaps
      { s.dev with log := { s.dev.log with ceiling := c, raising := none, waiting := [] } }
    have hwait := waiting_acceptRecord code snaps { s.dev with log := { s.dev.log with ceiling := c, raising := none, waiting := [] } }
    rw [show [(code, snaps)].length = 1 from rfl, hone]
    refine ⟨?_, hwait, ⟨r, hr, hcode, hseq, hsnaps⟩, haside⟩
    rw [haside.log]
  · have hgo : hourTick s.dev = appendCounterEntry { hours := hours (incObj Obj.operatingHours s.dev)
                                                     cycles := getObj Obj.powerCycleCount (incObj Obj.operatingHours s.dev)
                                                     ceiling := s.dev.cs.counters.ceiling } (incObj Obj.operatingHours s.dev) := by
      unfold hourTick
      rw [if_neg (by simp [hmode, hpor, hrun])]
      rfl
    have hcycles : getObj Obj.powerCycleCount (incObj Obj.operatingHours s.dev) = getObj Obj.powerCycleCount s.dev :=
      getObj_incObj_ne (by decide) _
    have hmod : objModulus Obj.operatingHours = 2 ^ 32 := by decide +kernel
    have hwear := appendCounterEntry_wear { hours := hours (incObj Obj.operatingHours s.dev)
                                            cycles := getObj Obj.powerCycleCount s.dev
                                            ceiling := s.dev.cs.counters.ceiling } (incObj Obj.operatingHours s.dev)
    rw [hgo, hcycles]
    unfold WearOnly at hwear
    refine ⟨?_, ?_, fun k hk => getObj_incObj_ne (by simpa using hk) _, ?_⟩
    · change getObj Obj.operatingHours (incObj Obj.operatingHours s.dev) = _
      rw [getObj_incObj_self, hmod]
      rfl
    · rw [hwear]
      rfl
    · change ({ incObj Obj.operatingHours s.dev with cs := (appendCounterEntry _ (incObj Obj.operatingHours s.dev)).cs } : Device) = _
      rw [hwear]
      rfl

end
end

section
/-! PROOFS. CarrierCommand (spec/10 Table 10.9): what the steps of a carrier's life leave unchanged, and O27. -/
-- The proofs are elaborated one after another: see the first file of these proofs.
set_option Elab.async false

namespace Sys2Proof.Machine

variable {path key v bank : Nat} {bytes : List Byte} {d e : Device}

/-! ### Changes of the medium -/

/-- What `MediumOnly` admits of `c`, put into `d`. -/
def mediumOf (c d : Device) : Device :=
  { d with objs := c.objs, ledgers := c.ledgers, res := c.res, media := c.media, domains := { d.domains with entering := c.domains.entering } }

/-- What `Aside` admits does not look at what `MediumOnly` admits beside it. -/
theorem Aside.with_medium {a b : Device} (h : Aside a b) (c : Device) : Aside (mediumOf c a) (mediumOf c b) where
  ctl := h.ctl
  therm := h.therm
  holdup := h.holdup
  domains := congrArg (fun x : Domains => { x with entering := c.domains.entering }) h.domains
  cpx := h.cpx
  res := rfl
  settings := h.settings
  sec := h.sec
  media := rfl
  held := h.held
  delayed := h.delayed
  damaged := h.damaged
  objs _ _ := rfl
  ledgers _ _ := rfl
  log := h.log
  can := h.can
  cs := h.cs
  sub := h.sub
  port := h.port

theorem MediumOnly.refl (d : Device) : MediumOnly d d := Aside.refl d

theorem MediumOnly.trans {a b c : Device} (h : MediumOnly a b) (g : MediumOnly b c) : MediumOnly a c := (h.with_medium c).trans g

theorem MediumOnly.of_eq (h : e = mediumOf e d) : MediumOnly d e := by
  unfold MediumOnly
  change Aside (mediumOf e d) e
  rw [← h]
  exact Aside.refl e

theorem Aside.medium (h : Aside d e) : MediumOnly d e where
  ctl := h.ctl
  therm := h.therm
  holdup := h.holdup
  domains := by rw [h.domains]
  cpx := h.cpx
  res := rfl
  settings := h.settings
  sec := h.sec
  media := rfl
  held := h.held
  delayed := h.delayed
  damaged := h.damaged
  objs _ _ := rfl
  ledgers _ _ := rfl
  log := h.log
  can := h.can
  cs := h.cs
  sub := h.sub
  port := h.port

/-! ### The steps of one carrier -/

/-- From `d` to `e` the carrier of one bank alone has been acted on: its state, its tokens, the medium, and what `Aside` admits. -/
structure CarrierActs (bank : Nat) (d e : Device) : Prop where
  medium : MediumOnly d e
  domains : e.domains = d.domains
  others : ∀ k, k ≠ bank → carrier k e = carrier k d
  objs : OnlyObjs (Obj.carrierState bank :: asideObjs) d e
  ledgers : OnlyLedgers [1, 7] d e

theorem CarrierActs.refl (bank : Nat) (d : Device) : CarrierActs bank d d :=
  ⟨.refl d, rfl, fun _ _ => rfl, fun _ _ => rfl, fun _ _ => rfl⟩

theorem CarrierActs.trans {a b c : Device} (h : CarrierActs bank a b) (g : CarrierActs bank b c) : CarrierActs bank a c :=
  ⟨h.medium.trans g.medium, g.domains.trans h.domains, fun k hk => (g.others k hk).trans (h.others k hk),
    fun k hk => (g.objs k hk).trans (h.objs k hk), fun l hl => (g.ledgers l hl).trans (h.ledgers l hl)⟩

theorem CarrierActs.ite {a b : Device} {p : Prop} [Decidable p] (ha : CarrierActs bank d a) (hb : CarrierActs bank d b) :
    CarrierActs bank d (if p then a else b) := by
  split
  · exact ha
  · exact hb

theorem Aside.carrier (h : Aside d e) (k : Nat) : Machine.carrier k e = Machine.carrier k d := by
  unfold Machine.carrier
  rw [h.media]

theorem Aside.acts (h : Aside d e) (bank : Nat) : CarrierActs bank d e :=
  ⟨h.medium, h.domains, fun k _ => h.carrier k, fun k hk => h.objs k fun hm => hk (List.mem_cons_of_mem _ hm),
    fun l hl => h.ledgers l fun h7 => hl (by simp [h7])⟩

theorem carrier_updCarrier (bank k : Nat) (f : Carrier → Carrier) (d : Device) :
    carrier k (updCarrier bank f d) = if k = bank then f (carrier bank d) else carrier k d := by
  simp [carrier, updCarrier, smGet_smUpd]

theorem updCarrier_acts (bank : Nat) (f : Carrier → Carrier) (d : Device) : CarrierActs bank d (updCarrier bank f d) :=
  ⟨.of_eq rfl, rfl, fun k hk => (carrier_updCarrier bank k f d).trans (if_neg hk), fun _ _ => rfl, fun _ _ => rfl⟩

theorem setObj_carrierState_acts (bank st : Nat) (d : Device) : CarrierActs bank d (setObj (Obj.carrierState bank) st d) :=
  ⟨.of_eq rfl, rfl, fun _ _ => rfl, fun _ hk => getObj_setObj_ne (fun h => hk (by simp [h])) st d, fun _ _ => rfl⟩

/-- A change of the medium that leaves the carriers. -/
theorem media_acts (bank : Nat) (m : Media) (h : m.carriers = d.media.carriers) : CarrierActs bank d { d with media := m } :=
  ⟨.of_eq rfl, rfl, fun k _ => by unfold carrier; rw [h], fun _ _ => rfl, fun _ _ => rfl⟩

/-- The device with a loss of the banks' minimum recorded, or forgotten (R292). -/
def belowNoted (b : Bool) (d : Device) : Device := { d with media := { d.media with rc := { d.media.rc with belowRecorded := b } } }

theorem belowNoted_acts (bank : Nat) (b : Bool) (d : Device) : CarrierActs bank d (belowNoted b d) := media_acts bank _ rfl

theorem noteBanks_cases (d : Device) : noteBanks d = d ∨ noteBanks d = belowNoted false d ∨
    noteBanks d = logRec Code.banksBelowMinimum [banksMask d] (belowNoted true d) := by
  unfold noteBanks
  dsimp only
  split
  · exact .inr (.inl rfl)
  · split
    · exact .inr (.inr rfl)
    · exact .inl rfl

theorem noteBanks_acts (bank : Nat) (d : Device) : CarrierActs bank d (noteBanks d) := by
  rcases noteBanks_cases d with h | h | h <;> rw [h]
  · exact .refl bank d
  · exact belowNoted_acts bank false d
  · exact (belowNoted_acts bank true d).trans ((logRec_aside _ _ _).acts bank)

theorem setCarrierState_acts (bank st : Nat) (d : Device) : CarrierActs bank d (setCarrierState bank st d) :=
  .ite (.refl bank d) (((setObj_carrierState_acts bank st d).trans ((raiseOnAll_aside _ _).acts bank)).trans (noteBanks_acts bank _))

/-- Every number of a bank's object lies beyond those that `Aside` lists. -/
theorem bankObj_notAside {i : Nat} (hi : 0x8000 ≤ i) (n : Nat) : objKey i n ∉ asideObjs := by
  have hlist : ∀ k ∈ asideObjs, k < 0x800000 := by decide
  intro h
  have := hlist _ h
  unfold objKey at this
  omega

theorem noteBanks_obj {k : Nat} (hk : k ∉ asideObjs) (d : Device) : getObj k (noteBanks d) = getObj k d := by
  rcases noteBanks_cases d with h | h | h <;> rw [h]
  · rfl
  · exact (logRec_aside _ _ _).objs k hk

theorem carrierState_setCarrierState (bank st : Nat) (d : Device) : carrierState bank (setCarrierState bank st d) = st := by
  have hk : Obj.carrierState bank ∉ asideObjs := bankObj_notAside (by decide) bank
  unfold setCarrierState
  split
  · assumption
  · unfold carrierState
    rw [noteBanks_obj hk, (raiseOnAll_aside _ _).objs _ hk, getObj_setObj_self]

theorem Aside.carrierState (h : Aside d e) (bank : Nat) : Machine.carrierState bank e = Machine.carrierState bank d :=
  h.objs _ (bankObj_notAside (by decide) bank)

/-! ### Requests for a bank's tokens -/

theorem requestTokens_acts (bank amount : Nat) (flush : Bool) (d : Device) : CarrierActs bank d (requestTokens bank amount flush d) := by
  have hledger : ∀ (f : Ledger → Ledger) (r : Resources), CarrierActs bank d (updLedger 1 f { d with res := r }) := fun f r =>
    ⟨.of_eq rfl, rfl, fun _ _ => rfl, fun _ _ => rfl, fun l hl => (ledger_updLedger l 1 f _).trans (if_neg fun h => hl (by simp [h]))⟩
  exact .ite (hledger _ _) (hledger _ _)

theorem objs_requestTokens (bank amount : Nat) (flush : Bool) (d : Device) : (requestTokens bank amount flush d).objs = d.objs := by
  unfold requestTokens
  dsimp only
  split <;> rfl

/-! ### The commands of Table 10.9 -/

/-- A command has taken the carrier of a bank to a state. -/
structure CarrierTaken (bank b : Nat) (d e : Device) : Prop extends CarrierActs bank d e where
  state : carrierState bank e = b

theorem CarrierTaken.after {x : Device} (h : CarrierTaken bank v d e) (g : CarrierActs bank x d) : CarrierTaken bank v x e :=
  ⟨g.trans h.toCarrierActs, h.state⟩

theorem CarrierTaken.aside {x : Device} (h : CarrierTaken bank v d e) (g : Aside e x) : CarrierTaken bank v d x :=
  ⟨h.toCarrierActs.trans (g.acts bank), (g.carrierState bank).trans h.state⟩

theorem setCarrierState_taken (bank st : Nat) (d : Device) : CarrierTaken bank st d (setCarrierState bank st d) :=
  ⟨setCarrierState_acts bank st d, carrierState_setCarrierState bank st d⟩

theorem openWindow_taken (bank : Nat) (d : Device) : CarrierTaken bank 0x05 d (openWindow bank d) :=
  (setCarrierState_taken bank 0x05 _).after (updCarrier_acts bank _ d)

theorem startBringUp_taken (bank : Nat) (d : Device) : CarrierTaken bank 0x02 d (startBringUp bank d) := by
  unfold startBringUp
  dsimp only
  refine ⟨((updCarrier_acts bank _ d).trans (setCarrierState_acts bank 0x02 _)).trans (requestTokens_acts bank _ false _), ?_⟩
  unfold carrierState getObj
  rw [objs_requestTokens]
  exact carrierState_setCarrierState bank 0x02 _

/-- The cancellation of a removal is recorded (R318). -/
def cancelNoted (bank : Nat) (d : Device) : Device :=
  logRec Code.evacuationCancelled [bank, restripeProgress d] (updCarrier bank (fun c => { c with waiting := false }) d)

/-- The bank of a removal that ran is back in service, and what was in the restripe set for it alone has left it (R319). -/
def removalEnded (bank : Nat) (d : Device) : Device :=
  setCarrierState bank 0x04 { d with media := { d.media with evac := none, restripe := d.media.restripe.filter (·.lost) } }

theorem cancelRemoval_eq (bank : Nat) (d : Device) : cancelRemoval bank d =
    if carrierState bank (cancelNoted bank d) = 0x06 then
      if (!(cancelNoted bank d).media.restripe.isEmpty) && (removalEnded bank (cancelNoted bank d)).media.restripe.isEmpty then
        logRec Code.restripeComplete [getObj Obj.stripesRestriped (removalEnded bank (cancelNoted bank d)),
          getObj Obj.stripesLost (removalEnded bank (cancelNoted bank d))] (removalEnded bank (cancelNoted bank d))
      else removalEnded bank (cancelNoted bank d)
    else setCarrierState bank 0x04 (cancelNoted bank d) := rfl

theorem cancelNoted_acts (bank : Nat) (d : Device) : CarrierActs bank d (cancelNoted bank d) :=
  (updCarrier_acts bank _ d).trans ((logRec_aside _ _ _).acts bank)

theorem removalEnded_taken (bank : Nat) (d : Device) : CarrierTaken bank 0x04 d (removalEnded bank d) :=
  (setCarrierState_taken bank 0x04 _).after (media_acts bank _ rfl)

theorem cancelRemoval_taken (bank : Nat) (d : Device) : CarrierTaken bank 0x04 d (cancelRemoval bank d) := by
  rw [cancelRemoval_eq]
  have hnoted := cancelNoted_acts bank d
  generalize cancelNoted bank d = x at hnoted
  split
  · have hback := (removalEnded_taken bank x).after hnoted
    split
    · exact hback.aside (logRec_aside _ _ _)
    · exact hback
  · exact (setCarrierState_taken bank 0x04 x).after hnoted

theorem evac_setCarrierState (bank st : Nat) (d : Device) : (setCarrierState bank st d).media.evac = d.media.evac := by
  have hnote : ∀ x : Device, (noteBanks x).media.evac = x.media.evac := by
    intro x
    rcases noteBanks_cases x with h | h | h <;> rw [h]
    · rfl
    · rw [(logRec_aside _ _ _).media]; rfl
  unfold setCarrierState
  split
  · rfl
  · rw [hnote, (raiseOnAll_aside _ _).media]
    rfl

/-- A removal that runs ends with its cancellation (R319). -/
theorem evac_cancelRemoval (h : carrierState bank d = 0x06) : (cancelRemoval bank d).media.evac = none := by
  have hstate : carrierState bank (cancelNoted bank d) = 0x06 := ((logRec_aside _ _ _).carrierState bank).trans h
  have hended : ∀ x : Device, (removalEnded bank x).media.evac = none := fun x => evac_setCarrierState bank 0x04 _
  rw [cancelRemoval_eq, if_pos hstate]
  split
  · rw [(logRec_aside _ _ _).media, hended]
  · exact hended _

/-- What a granted command of Table 10.9 comes to. -/
structure CommandTaken (bank a b : Nat) (d e : Device) : Prop extends CarrierTaken bank b d e where
  ended : a = 0x06 → e.media.evac = none

/-- The commands of Table 10.9, the state in which each is valid and the one that it leads to. -/
def commandRows : List (Nat × Nat × Nat) := [(1, 0x04, 0x05), (2, 0x05, 0x04), (2, 0x06, 0x04), (3, 0x01, 0x02), (4, 0x0A, 0x03), (5, 0x08, 0x02)]

theorem carrierCommand_taken {a b : Nat} (hrow : (v, a, b) ∈ commandRows) (hstate : carrierState bank d = a)
    (hmode : v = 3 ∨ v = 5 → carrierMode d = true) (hdeferred : v = 3 → (carrier bank d).deferred = false) :
    ∃ e, carrierCommand bank v d = some e ∧ CommandTaken bank a b d e := by
  simp only [commandRows, List.mem_cons, Prod.mk.injEq, List.not_mem_nil, or_false] at hrow
  unfold carrierCommand
  dsimp only
  rcases hrow with ⟨rfl, rfl, rfl⟩ | ⟨rfl, rfl, rfl⟩ | ⟨rfl, rfl, rfl⟩ | ⟨rfl, rfl, rfl⟩ | ⟨rfl, rfl, rfl⟩ | ⟨rfl, rfl, rfl⟩
  · exact ⟨_, if_pos hstate, openWindow_taken bank d, fun h => absurd h (by decide)⟩
  · exact ⟨_, if_pos (by simp [hstate]), cancelRemoval_taken bank d, fun h => absurd h (by decide)⟩
  · exact ⟨_, if_pos (by simp [hstate]), cancelRemoval_taken bank d, fun _ => evac_cancelRemoval hstate⟩
  · exact ⟨_, if_pos (by simp [hstate, hmode (.inl rfl), hdeferred rfl]), startBringUp_taken bank d, fun h => absurd h (by decide)⟩
  · exact ⟨_, if_pos hstate, setCarrierState_taken bank 0x03 d, fun h => absurd h (by decide)⟩
  · exact ⟨_, if_pos (by simp [hstate, hmode (.inr rfl)]), startBringUp_taken bank d, fun h => absurd h (by decide)⟩

/-! ### The request -/

/-- What Table 13.7 says of CarrierCommand. -/
theorem carrierCommand_facts : ∀ b < 16, objRow? (Obj.carrierCommand b) = some ⟨0x8202, 0x8202, 0, 0x0F, .u8, .grd, false, 0, .reads, 1, 5, false, true⟩ ∧
    absent 0x8202 b = none ∧ isCommit (Obj.carrierCommand b) = false ∧ isMember (Obj.carrierCommand b) = false := by decide +kernel

theorem carrierCommand_div_mod (hb : bank < 16) : Obj.carrierCommand bank / 256 = 0x8202 ∧ Obj.carrierCommand bank % 256 = bank := by
  unfold Obj.carrierCommand objKey
  omega

theorem carrierCommand_guarded (hb : bank < 16) : PlainGuarded (Obj.carrierCommand bank) := by
  obtain ⟨hrow, habs, hcommit, hmember⟩ := carrierCommand_facts bank hb
  obtain ⟨hdiv, hmod⟩ := carrierCommand_div_mod hb
  have hne : ∀ k, k / 256 ≠ 0x8202 → Obj.carrierCommand bank ≠ k := fun k hk h => hk (h ▸ hdiv)
  refine ⟨by rw [hdiv, hmod]; exact habs, ?_, ?_, hcommit, hne _ (by decide), hmember, by rw [hdiv]; decide⟩
  · unfold accessOf
    rw [hrow]
  · unfold storedObject
    rw [hrow]

theorem useGrant_grant (path : Nat) (d : Device) : (pathState path (useGrant path d)).grant = none :=
  congrArg PathState.grant (pathState_updPath_self _ _ _)

/-- A granted CarrierCommand that is valid acts, and its request is answered. -/
theorem carrierCommand_request {i : Instr} {a b : Nat} (hb : bank < 16) (hgranted : Granted path (Obj.carrierCommand bank) d)
    (hrow : (v, a, b) ∈ commandRows) (hstate : carrierState bank d = a)
    (hmode : v = 3 ∨ v = 5 → carrierMode d = true) (hdeferred : v = 3 → (carrier bank d).deferred = false) :
    ∃ e, writeValue i path (Obj.carrierCommand bank) v {} d = answerPath path none [] e ∧ CommandTaken bank a b (useGrant path d) e := by
  obtain ⟨e, he, htaken⟩ := carrierCommand_taken (d := useGrant path d) hrow hstate hmode hdeferred
  obtain ⟨hobj, -, -, -⟩ := carrierCommand_facts bank hb
  obtain ⟨hdiv, hmod⟩ := carrierCommand_div_mod hb
  have hsize : objSize (Obj.carrierCommand bank) = 1 := by
    unfold objSize
    rw [hobj]
    rfl
  have hv : 1 ≤ v ∧ v ≤ 5 := by
    have hall : ∀ x ∈ commandRows, 1 ≤ x.1 ∧ x.1 ≤ 5 := by decide
    exact hall _ hrow
  have hne : ∀ k, k / 256 ≠ 0x8202 → Obj.carrierCommand bank ≠ k := fun k hk h => hk (h ▸ hdiv)
  have hbits : writtenBits (Obj.carrierCommand bank) (ofLe (leBytes 1 v)) = v := by
    rw [ofLe_leBytes (by omega)]
    unfold writtenBits
    rw [hdiv, if_neg (by decide), if_neg (hne _ (by decide))]
  have hplain := carrierCommand_guarded hb
  have hranged : Obj.carrierCommand bank ∉ rangedObjs := by
    have hall : ∀ k ∈ rangedObjs, k / 256 ≠ 0x8202 := by decide
    exact fun h => hall _ h hdiv
  have hwrite := hplain.write (bytes := leBytes 1 v) hgranted (shape_of_length hobj (length_leBytes 1 v))
    (inRange_of_row hobj (by rw [hdiv]; decide) hranged (by rw [hbits]; exact hv.1) (by rw [hbits]; exact hv.2))
  unfold writeValue
  rw [hsize]
  refine ⟨e, writeRequest_of_done hgranted.valid (hwrite.done hplain.unstored ?_), htaken⟩
  rw [writeEffect_carrier hdiv, hmod, hbits]
  exact he

/-- The answer to a request after it has acted on a carrier. -/
theorem CarrierActs.answered (h : CarrierActs bank (useGrant path d) e) :
    Aside { d with objs := (answerPath path none [] e).objs, ledgers := (answerPath path none [] e).ledgers
                   res := (answerPath path none [] e).res, media := (answerPath path none [] e).media
                   settings := (answerPath path none [] e).settings } (answerPath path none [] e) where
  ctl := h.medium.ctl
  therm := h.medium.therm
  holdup := h.medium.holdup
  domains := h.domains
  cpx := h.medium.cpx
  res := rfl
  settings := rfl
  sec := h.medium.sec
  media := rfl
  held := h.medium.held
  delayed := h.medium.delayed
  damaged := h.medium.damaged
  objs _ _ := rfl
  ledgers _ _ := rfl
  log := h.medium.log
  can := h.medium.can
  cs := h.medium.cs
  sub := h.medium.sub
  port := h.medium.port

/-- A CarrierCommand that has acted and been answered has done what O27 says. -/
theorem CommandTaken.answered {a b : Nat} (h : CommandTaken bank a b (useGrant path d) e) {f : Device} (hf : f = answerPath path none [] e) :
    carrierState bank f = b ∧ Answered path d f ∧ (pathState path f).grant = none ∧ (a = 0x06 → f.media.evac = none) ∧
      (∀ k, k ≠ bank → carrier k f = carrier k d) ∧
      OnlyObjs ([Obj.dictionaryRequests, Obj.carrierState bank] ++ asideObjs) d f ∧ OnlyLedgers [1, 7] d f ∧
      Aside { d with objs := f.objs, ledgers := f.ledgers, res := f.res, media := f.media, settings := f.settings } f := by
  have hkey : Obj.carrierState bank ≠ Obj.dictionaryRequests := by
    unfold Obj.carrierState objKey
    have : Obj.dictionaryRequests < 0x820000 := by decide
    omega
  have hcount : getObj Obj.dictionaryRequests e = getObj Obj.dictionaryRequests d :=
    h.objs _ fun hm => (List.mem_cons.mp hm).elim (fun heq => hkey heq.symm) fun ha => absurd ha (by decide)
  have hpath : pathState path e = pathState path (useGrant path d) := pathState_congr h.medium.settings
  subst hf
  refine ⟨(getObj_answerPath hkey path [] e).trans h.state, ⟨?_, ?_⟩, ?_, h.ended, h.others, fun k hk => ?_, h.ledgers,
    h.toCarrierTaken.toCarrierActs.answered⟩
  · rw [pathState_answerPath]
  · rw [answerPath_requests, hcount]
  · rw [pathState_answerPath, hpath]
    exact useGrant_grant path d
  · simp only [List.cons_append, List.nil_append, List.mem_cons, not_or] at hk
    obtain ⟨hreq, hstate, haside⟩ := hk
    exact (getObj_answerPath hreq path [] e).trans (h.objs k fun hm => (List.mem_cons.mp hm).elim hstate haside)

end Sys2Proof.Machine

section
open Sys2Proof Sys2Proof.Machine

/-- Settles O27: each of the five commands is a guarded write of one value, and the value's action on the carrier is one of its row. -/
theorem carrierCommandsAct : Obligations.CarrierCommandsAct := by
  intro s path bank c a b hgranted hstate hc
  rcases hc with ⟨rfl, hrow⟩ | ⟨rfl, hrow⟩ | ⟨rfl, hrow, hmode, hdef⟩ | ⟨rfl, hrow⟩ | ⟨rfl, hrow, hmode⟩
  · obtain ⟨rfl, rfl⟩ := Prod.mk.inj hrow
    obtain ⟨e, he, htaken⟩ := carrierCommand_request (i := .carrierRequestRemoval path bank) (v := 1) bank.isLt hgranted
      (show (1, 0x04, 0x05) ∈ commandRows by decide) hstate (by omega) (by omega)
    exact .of_runDev _ rfl (htaken.answered he)
  · have hmem : (2, a, b) ∈ commandRows := by
      simp only [List.mem_cons, Prod.mk.injEq, List.not_mem_nil, or_false] at hrow
      rcases hrow with ⟨rfl, rfl⟩ | ⟨rfl, rfl⟩ <;> decide
    obtain ⟨e, he, htaken⟩ := carrierCommand_request (i := .carrierCancelRemoval path bank) (v := 2) bank.isLt hgranted hmem hstate
      (by omega) (by omega)
    exact .of_runDev _ rfl (htaken.answered he)
  · obtain ⟨rfl, rfl⟩ := Prod.mk.inj hrow
    obtain ⟨e, he, htaken⟩ := carrierCommand_request (i := .carrierPowerOn path bank) (v := 3) bank.isLt hgranted
      (show (3, 0x01, 0x02) ∈ commandRows by decide) hstate (fun _ => hmode) (fun _ => hdef)
    exact .of_runDev _ rfl (htaken.answered he)
  · obtain ⟨rfl, rfl⟩ := Prod.mk.inj hrow
    obtain ⟨e, he, htaken⟩ := carrierCommand_request (i := .carrierAdopt path bank) (v := 4) bank.isLt hgranted
      (show (4, 0x0A, 0x03) ∈ commandRows by decide) hstate (by omega) (by omega)
    exact .of_runDev _ rfl (htaken.answered he)
  · obtain ⟨rfl, rfl⟩ := Prod.mk.inj hrow
    obtain ⟨e, he, htaken⟩ := carrierCommand_request (i := .carrierRetryPowerFault path bank) (v := 5) bank.isLt hgranted
      (show (5, 0x08, 0x02) ∈ commandRows by decide) hstate (fun _ => hmode) (by omega)
    exact .of_runDev _ rfl (htaken.answered he)

end

end

section
/-! PROOFS. Power faults of a carrier (spec/10 R309, spec/03 R68, R81): what a bank that leaves gives up, and O25. -/
-- The proofs are elaborated one after another: see the first file of these proofs.
set_option Elab.async false

namespace Sys2Proof.Machine

variable {bank : Nat} {d e : Device}

/-! ### A bank that leaves -/

/-- From `d` to `e` a bank goes on leaving: the medium alone has changed, no other carrier, and what was off stays off. -/
structure Leaves (bank : Nat) (d e : Device) : Prop where
  medium : MediumOnly d e
  others : ∀ k, k ≠ bank → carrier k e = carrier k d
  faults : getObj (Obj.carrierFaultCount bank) e = getObj (Obj.carrierFaultCount bank) d
  pen : penHigh bank d = false → penHigh bank e = false
  powerUp : (carrier bank d).powerUpHeld = 0 → (carrier bank e).powerUpHeld = 0
  tokens : heldBy 1 (bank + 1) d = 0 → heldBy 1 (bank + 1) e = 0

theorem Leaves.refl (bank : Nat) (d : Device) : Leaves bank d d := ⟨.refl d, fun _ _ => rfl, rfl, id, id, id⟩

theorem Leaves.trans {a b c : Device} (h : Leaves bank a b) (g : Leaves bank b c) : Leaves bank a c :=
  ⟨h.medium.trans g.medium, fun k hk => (g.others k hk).trans (h.others k hk), g.faults.trans h.faults, fun x => g.pen (h.pen x),
    fun x => g.powerUp (h.powerUp x), fun x => g.tokens (h.tokens x)⟩

theorem Leaves.ite {a b : Device} {p : Prop} [Decidable p] (ha : Leaves bank d a) (hb : Leaves bank d b) :
    Leaves bank d (if p then a else b) := by
  split
  · exact ha
  · exact hb

/-- A step of a fold over a listed range. -/
theorem Leaves.foldl {β : Type} {g : Device → β → Device} (xs : List β) (hg : ∀ d, ∀ b ∈ xs, Leaves bank d (g d b)) (d : Device) :
    Leaves bank d (xs.foldl g d) := by
  induction xs generalizing d with
  | nil => exact .refl bank d
  | cons x xs ih => exact (hg d x List.mem_cons_self).trans (ih (fun d b hb => hg d b (List.mem_cons_of_mem _ hb)) _)

theorem carrier_congr {k : Nat} (h : e.media.carriers = d.media.carriers) : carrier k e = carrier k d := by
  unfold carrier
  rw [h]

theorem penHigh_congr {k : Nat} (h : e.media.pen = d.media.pen) : penHigh k e = penHigh k d := by
  unfold penHigh
  rw [h]

theorem heldBy_of_ledger {l o : Nat} (h : ledger l e = ledger l d) : heldBy l o e = heldBy l o d := by
  unfold heldBy
  rw [h]

/-- A step that changes neither carriers nor PENs nor the fault count, and gives the bank no tokens. -/
theorem Leaves.of_medium (hmedium : MediumOnly d e) (hcarriers : e.media.carriers = d.media.carriers) (hpen : e.media.pen = d.media.pen)
    (hfaults : getObj (Obj.carrierFaultCount bank) e = getObj (Obj.carrierFaultCount bank) d)
    (htokens : heldBy 1 (bank + 1) e = heldBy 1 (bank + 1) d) : Leaves bank d e :=
  ⟨hmedium, fun _ _ => carrier_congr hcarriers, hfaults, fun h => (penHigh_congr hpen).trans h,
    fun h => (congrArg Carrier.powerUpHeld (carrier_congr hcarriers)).trans h, fun h => htokens.trans h⟩

theorem faultCount_notAside (bank : Nat) : Obj.carrierFaultCount bank ∉ asideObjs := bankObj_notAside (by decide) bank

theorem Aside.leaves (h : Aside d e) (bank : Nat) : Leaves bank d e :=
  .of_medium h.medium (by rw [h.media]) (by rw [h.media]) (h.objs _ (faultCount_notAside bank)) (heldBy_of_ledger (h.ledgers 1 (by decide)))

theorem setObj_leaves {k : Nat} (hk : Obj.carrierFaultCount bank ≠ k) (v : Nat) (d : Device) : Leaves bank d (setObj k v d) :=
  .of_medium (.of_eq rfl) rfl rfl (getObj_setObj_ne hk v d) rfl

theorem updCarrier_leaves (bank : Nat) (f : Carrier → Carrier) (hf : ∀ c, c.powerUpHeld = 0 → (f c).powerUpHeld = 0) (d : Device) :
    Leaves bank d (updCarrier bank f d) where
  medium := .of_eq rfl
  others k hk := (carrier_updCarrier bank k f d).trans (if_neg hk)
  faults := rfl
  pen := id
  powerUp h := by
    rw [carrier_updCarrier, if_pos rfl]
    exact hf _ h
  tokens := id

/-! ### The arbiter -/

theorem ledger1_leaves (f : Ledger → Ledger) (r : Resources) (hf : ∀ g, smGet 0 (f g).held (bank + 1) = smGet 0 g.held (bank + 1)) (d : Device) :
    Leaves bank d { updLedger 1 f d with res := r } :=
  .of_medium (.of_eq rfl) rfl rfl rfl ((congrArg (fun g : Ledger => smGet 0 g.held (bank + 1)) (ledger_updLedger_self 1 f d)).trans (hf _))

theorem ledgerMoves_leaves (f : Ledger → Ledger) (hf : ∀ g, smGet 0 (f g).held (bank + 1) = smGet 0 g.held (bank + 1)) (d : Device) :
    Leaves bank d (updLedger 1 f d) := ledger1_leaves f d.res hf d

theorem ledgerGive_leaves {o : Nat} (h : bank + 1 ≠ o) (n : Nat) (d : Device) : Leaves bank d (ledgerGive 1 o n d) :=
  ledgerMoves_leaves _ (fun g => by split <;> simp [smGet_smUpd, h]) d

theorem ledgerTake_leaves {o : Nat} (h : bank + 1 ≠ o) (n : Nat) (d : Device) : Leaves bank d (ledgerTake 1 o n d) :=
  ledgerMoves_leaves _ (fun g => by split <;> simp [smGet_smUpd, h]) d

theorem withholdOne_leaves {o : Nat} (h : bank + 1 ≠ o) (d : Device) : Leaves bank d (withholdOne d o) := by
  unfold withholdOne
  dsimp only
  exact .ite (ledgerGive_leaves h _ d) (.ite (.refl bank d) (ledgerTake_leaves h _ d))

theorem held_setTotal (t : Nat) (g : Ledger) : (setTotal t g).held = g.held := by
  unfold setTotal
  rfl

theorem finishResize_leaves (hbank : bank < 16) (d : Device) : Leaves bank d (finishResize d) := by
  unfold finishResize
  split
  · exact .refl bank d
  · refine .ite (.trans (ledger1_leaves _ _ (fun g => ?_) d) ((logRec_aside _ _ _).leaves bank)) (.refl bank d)
    rw [held_setTotal]
    dsimp only
    rw [smGet_smUpd, if_neg (by omega)]

theorem withhold_leaves (hbank : bank < 16) (d : Device) : Leaves bank d (withhold d) := by
  have howners : ∀ o ∈ withholders, 0x11 ≤ o := by decide
  refine .ite (.refl bank d) ((Leaves.foldl withholders (fun d o ho => withholdOne_leaves ?_ d) d).trans (finishResize_leaves hbank _))
  have := howners o ho
  omega

theorem heldBy_ledgerGive_all (l o : Nat) (d : Device) : heldBy l o (ledgerGive l o (heldBy l o d) d) = 0 := by
  rw [heldBy_ledgerGive_self, if_pos le_rfl, Nat.sub_self]

/-- Every token of the bank's own returns (R81). -/
theorem returnAllTokens_leaves (hbank : bank < 16) (d : Device) :
    Leaves bank d (returnAllTokens bank d) ∧ heldBy 1 (bank + 1) (returnAllTokens bank d) = 0 := by
  have hown : ∀ x : Device, Leaves bank x (ledgerGive 1 (bank + 1) (heldBy 1 (bank + 1) x) x) := fun x =>
    ⟨.of_eq rfl, fun _ _ => rfl, rfl, id, id, fun _ => heldBy_ledgerGive_all 1 (bank + 1) x⟩
  have hwaiting : ∀ r : Resources, Leaves bank d { d with res := r } := fun r => .of_medium (.of_eq rfl) rfl rfl rfl rfl
  have hrest : ∀ x : Device, ∀ n, Leaves bank x (withhold (ledgerGive 1 (bank + 0x11) n x)) := fun x n =>
    (ledgerGive_leaves (by omega) n x).trans (withhold_leaves hbank _)
  exact ⟨((hwaiting _).trans (hown _)).trans (hrest _ _), (hrest _ _).tokens (heldBy_ledgerGive_all 1 (bank + 1) _)⟩

/-! ### PEN falls -/

theorem bankKeys_apart (hbank : bank < 16) : Obj.carrierFaultCount bank ≠ Obj.carrierThermalState bank ∧
    Obj.carrierFaultCount bank ≠ Obj.domainState (0x10 + bank) ∧ Obj.carrierFaultCount bank ≠ Obj.entryAborts (0x10 + bank) ∧
    Obj.carrierFaultCount bank ≠ Obj.carrierState bank ∧ ∀ c < 8, Obj.carrierFaultCount bank ≠ Obj.channelState (bank * 8 + c) := by
  simp only [Obj.carrierFaultCount, Obj.carrierThermalState, Obj.domainState, Obj.entryAborts, Obj.carrierState, Obj.channelState, objKey]
  refine ⟨by omega, by omega, by omega, by omega, fun c hc => by omega⟩

theorem endCarrierThrottle_leaves (hbank : bank < 16) (d : Device) : Leaves bank d (endCarrierThrottle bank d) := by
  obtain ⟨hthermal, -⟩ := bankKeys_apart hbank
  exact .ite (((setObj_leaves hthermal _ d).trans ((logRec_aside _ _ _).leaves bank)).trans (withhold_leaves hbank _)) (.refl bank d)

theorem cutEntry_leaves {dd : Nat} (h : Obj.carrierFaultCount bank ≠ Obj.entryAborts dd) (d : Device) : Leaves bank d (cutEntry dd d) := by
  unfold cutEntry
  split
  · exact .refl bank d
  · exact .trans (b := { d with domains := { d.domains with entering := smErase dd d.domains.entering } })
      (.of_medium (.of_eq rfl) rfl rfl rfl rfl) (setObj_leaves h _ _)

theorem returnCredits_leaves (bank dd : Nat) (d : Device) : Leaves bank d (returnCredits dd d) := by
  obtain ⟨heq, hledgers⟩ := returnCredits_changes dd d
  refine .of_medium (.of_eq ?_) ?_ ?_ ?_ (heldBy_of_ledger (hledgers 1 (by decide)))
  all_goals
    generalize returnCredits dd d = x at heq
    rw [heq] <;> rfl

theorem setDomains_leaves (hbank : bank < 16) (d : Device) : Leaves bank d (setDomains [0x10 + bank] 0x00 d) := by
  obtain ⟨-, hstate, haborts, -⟩ := bankKeys_apart hbank
  exact ((cutEntry_leaves haborts d).trans (returnCredits_leaves bank _ _)).trans (setObj_leaves hstate 0x00 _)

/-- The device with the outputs of a bank, its dies' operations and its PEN off (R68, R619). -/
def outputsOff (bank : Nat) (d : Device) : Device :=
  { d with media := { d.media with
      channels := d.media.channels.filter fun c => c.1 / 8 != bank
      dies := (d.media.dies.map fun x => (x.1, if bankOfDie x.1 = bank then { x.2 with op := {} } else x.2)).filter
        fun x => decide (x.2 ≠ ({} : DieState))
      pen := d.media.pen.filter (· != bank) } }

/-- The carrier of a bank whose PEN is low (R68, R79). -/
def carrierOff (c : Carrier) : Carrier := { c with powerUpHeld := 0, bringUp := 0, awaitTokens := none, pgood := false }

theorem clearPen_eq (bank : Nat) (d : Device) : clearPen bank d =
    (List.range 8).foldl (fun d c => setObj (Obj.channelState (bank * 8 + c)) 0x00 d)
      (setDomains [0x10 + bank] 0x00 (returnAllTokens bank (endCarrierThrottle bank (updCarrier bank carrierOff (outputsOff bank d))))) := rfl

theorem penHigh_outputsOff (bank : Nat) (d : Device) : penHigh bank (outputsOff bank d) = false := by
  simp [penHigh, outputsOff]

theorem outputsOff_leaves (bank : Nat) (d : Device) : Leaves bank d (outputsOff bank d) :=
  ⟨.of_eq rfl, fun _ _ => rfl, rfl, fun _ => penHigh_outputsOff bank d, id, id⟩

/-- A bank whose PEN has been cleared: PEN low, no token of its power-up and none of its operations (R81). -/
def BankOff (bank : Nat) (d : Device) : Prop :=
  penHigh bank d = false ∧ (carrier bank d).powerUpHeld = 0 ∧ heldBy 1 (bank + 1) d = 0

theorem Leaves.off (h : Leaves bank d e) (hd : BankOff bank d) : BankOff bank e := by
  obtain ⟨hpen, hpower, htokens⟩ := hd
  exact ⟨h.pen hpen, h.powerUp hpower, h.tokens htokens⟩

theorem clearPen_leaves (hbank : bank < 16) (d : Device) : Leaves bank d (clearPen bank d) ∧ BankOff bank (clearPen bank d) := by
  rw [clearPen_eq]
  have hout := outputsOff_leaves bank d
  have hcarrier := updCarrier_leaves bank carrierOff (fun _ _ => rfl) (outputsOff bank d)
  have hpen := hcarrier.pen (penHigh_outputsOff bank d)
  have hpower : (carrier bank (updCarrier bank carrierOff (outputsOff bank d))).powerUpHeld = 0 := by
    rw [carrier_updCarrier, if_pos rfl]
    rfl
  have hbefore := hout.trans hcarrier
  generalize updCarrier bank carrierOff (outputsOff bank d) = x at hpen hpower hbefore
  have hthrottle := endCarrierThrottle_leaves hbank x
  obtain ⟨hreturn, htokens⟩ := returnAllTokens_leaves hbank (endCarrierThrottle bank x)
  have htaken := hthrottle.trans hreturn
  have hoff : BankOff bank (returnAllTokens bank (endCarrierThrottle bank x)) := ⟨htaken.pen hpen, htaken.powerUp hpower, htokens⟩
  generalize returnAllTokens bank (endCarrierThrottle bank x) = y at htaken hoff
  obtain ⟨-, -, -, -, hchannels⟩ := bankKeys_apart hbank
  have hrest := (setDomains_leaves hbank y).trans
    (Leaves.foldl (List.range 8) (fun d c hc => setObj_leaves (hchannels c (List.mem_range.mp hc)) 0x00 d) (setDomains [0x10 + bank] 0x00 y))
  exact ⟨(hbefore.trans htaken).trans hrest, hrest.off hoff⟩

/-! ### The bank's members are lost -/

/-- Nothing has changed but the medium, and of it no carrier and no PEN. -/
structure StripesChange (d e : Device) : Prop where
  parts : e = { d with media := e.media }
  carriers : e.media.carriers = d.media.carriers
  pen : e.media.pen = d.media.pen

theorem StripesChange.refl (d : Device) : StripesChange d d := ⟨rfl, rfl, rfl⟩

theorem StripesChange.trans {a b c : Device} (h : StripesChange a b) (g : StripesChange b c) : StripesChange a c :=
  ⟨g.parts.trans (congrArg (fun x : Device => { x with media := c.media }) h.parts), g.carriers.trans h.carriers, g.pen.trans h.pen⟩

theorem StripesChange.ite {a b : Device} {p : Prop} [Decidable p] (ha : StripesChange d a) (hb : StripesChange d b) :
    StripesChange d (if p then a else b) := by
  split
  · exact ha
  · exact hb

theorem StripesChange.foldl {β : Type} {g : Device → β → Device} (hg : ∀ d b, StripesChange d (g d b)) (xs : List β) (d : Device) :
    StripesChange d (xs.foldl g d) := foldl_rel (R := StripesChange) .refl (fun h g => h.trans g) hg xs d

theorem StripesChange.leaves (h : StripesChange d e) (bank : Nat) : Leaves bank d e := by
  obtain ⟨hparts, hcarriers, hpen⟩ := h
  refine .of_medium (.of_eq ?_) hcarriers hpen ?_ ?_ <;> rw [hparts] <;> rfl

theorem updBlock_stripes (b : Nat) (f : Block → Block) (d : Device) : StripesChange d (updBlock b f d) := ⟨rfl, rfl, rfl⟩

theorem updStripe_stripes (n : Nat) (f : Stripe → Stripe) (d : Device) : StripesChange d (updStripe n f d) := ⟨rfl, rfl, rfl⟩

theorem unplaceWhere_stripes (pick : Placement → Bool) (d : Device) : StripesChange d (unplaceWhere pick d) := ⟨rfl, rfl, rfl⟩

theorem stopStripe_stripes (n : Nat) (d : Device) : StripesChange d (stopStripe n d) := by
  have hblock : ∀ (d : Device) (b : Nat), StripesChange d
      (if (block b d).stripe = n then updBlock b (fun e => { e with full := true }) d else d) := fun d b =>
    .ite (updBlock_stripes b _ d) (.refl d)
  exact ((unplaceWhere_stripes _ d).trans (updStripe_stripes n _ _)).trans (.foldl (fun d m => .foldl hblock _ d) _ _)

theorem joinRestripe_stripes (n : Nat) (lost : Bool) (d : Device) : StripesChange d (joinRestripe n lost d) := ⟨rfl, rfl, rfl⟩

/-- A fold that counts beside the device. -/
theorem StripesChange.foldl_snd {β γ : Type} {g : γ × Device → β → γ × Device} (hg : ∀ a b, StripesChange a.2 (g a b).2) (xs : List β)
    (a : γ × Device) : StripesChange a.2 (xs.foldl g a).2 := by
  induction xs generalizing a with
  | nil => exact .refl a.2
  | cons x xs ih => exact (hg a x).trans (ih _)

theorem loseWhere_stripes (pick : Nat → Nat × Nat → Bool) (d : Device) : StripesChange d (loseWhere pick d).2 := by
  refine StripesChange.foldl_snd (fun a e => ?_) d.media.stripes (0, d)
  obtain ⟨count, d⟩ := a
  obtain ⟨n, st⟩ := e
  dsimp only
  split
  · exact .refl d
  · have hends : ∀ (rows : Nat) (xs : List (Nat × Nat)) (d : Device), StripesChange d (xs.foldl (fun d m =>
        let g := group m.2 (groupSlot st.kind) d
        if g.used && g.stripe = n then g.blocks.foldl (fun d b => updBlock b (fun e => { e with lastFine := rows - 1 - g.rowBase }) d) d else d) d) :=
      fun rows xs d => .foldl (fun d m => .ite (.foldl (fun d b => updBlock_stripes b _ d) _ d) (.refl d)) xs d
    split
    · refine .trans (.trans (hends _ _ d) (updStripe_stripes n _ _)) (.ite (stopStripe_stripes n _) (.refl _))
    · exact (updStripe_stripes n _ d).trans (joinRestripe_stripes n true _)

/-- The device with the groups of a bank gone, no evacuation of it, and a superblock due (R91). -/
def bankForgotten (bank : Nat) (d : Device) : Device :=
  { d with media := { d.media with
      sbDue := true
      groups := d.media.groups.filter fun g => bankOfDie (g.1 / 2) != bank
      evac := d.media.evac.filter fun e => e.bank != bank } }

/-- The device with a bank's members lost (R294). -/
def bankLost (bank : Nat) (d : Device) : Device :=
  bankForgotten bank (unplaceOn (fun x => bankOfDie x = bank) (loseMembers (fun m => m.1 == bank) d).2)

theorem loseBank_eq (bank : Nat) (d : Device) : loseBank bank d =
    logRec Code.memberLost [bank, (loseMembers (fun m => m.1 == bank) d).1] (updCarrier bank (fun c => { c with lost := true }) (bankLost bank d)) := rfl

theorem bankLost_stripes (bank : Nat) (d : Device) : StripesChange d (bankLost bank d) :=
  ((loseWhere_stripes (fun _ m => m.1 == bank) d).trans (unplaceWhere_stripes _ _)).trans ⟨rfl, rfl, rfl⟩

theorem loseBank_leaves (bank : Nat) (d : Device) : Leaves bank d (loseBank bank d) := by
  rw [loseBank_eq]
  have hlost := (bankLost_stripes bank d).leaves bank
  have hmarked := updCarrier_leaves bank (fun c => { c with lost := true }) (fun _ h => h) (bankLost bank d)
  exact (hlost.trans hmarked).trans ((logRec_aside _ _ _).leaves bank)

/-! ### The power fault -/

theorem dropCarrier_leaves (hbank : bank < 16) (d : Device) : Leaves bank d (dropCarrier bank d) ∧ BankOff bank (dropCarrier bank d) := by
  obtain ⟨hclear, hoff⟩ := clearPen_leaves hbank d
  unfold dropCarrier
  dsimp only
  split
  · have hlose := loseBank_leaves bank (clearPen bank d)
    exact ⟨hclear.trans hlose, hlose.off hoff⟩
  · exact ⟨hclear, hoff⟩

theorem belowNoted_leaves (bank : Nat) (b : Bool) (d : Device) : Leaves bank d (belowNoted b d) :=
  .of_medium (.of_eq rfl) rfl rfl rfl rfl

theorem noteBanks_leaves (bank : Nat) (d : Device) : Leaves bank d (noteBanks d) := by
  rcases noteBanks_cases d with h | h | h <;> rw [h]
  · exact .refl bank d
  · exact belowNoted_leaves bank false d
  · exact (belowNoted_leaves bank true d).trans ((logRec_aside _ _ _).leaves bank)

theorem setCarrierState_leaves (hbank : bank < 16) (st : Nat) (d : Device) : Leaves bank d (setCarrierState bank st d) := by
  obtain ⟨-, -, -, hstate, -⟩ := bankKeys_apart hbank
  exact .ite (.refl bank d) (((setObj_leaves hstate st d).trans ((raiseOnAll_aside _ _).leaves bank)).trans (noteBanks_leaves bank _))

/-- The hours of the faults of a carrier within the hour, this one first (R309). -/
def faultHoursNow (bank : Nat) (d : Device) : List Nat := hours d :: (carrier bank d).faultHours.filter fun h => decide (hours d < h + 16)

/-- The fault counts once more, up to 255 (R309). -/
def faultsNow (bank : Nat) (d : Device) : Nat := min 255 (getObj (Obj.carrierFaultCount bank) d + 1)

/-- A power fault is counted and recorded (R309). -/
def faultNoted (bank cause : Nat) (d : Device) : Device :=
  logRec Code.carrierPowerFault [bank, cause, faultsNow bank d]
    (updCarrier bank (fun c => { c with faultHours := faultHoursNow bank d }) (setObj (Obj.carrierFaultCount bank) (faultsNow bank d) d))

theorem powerFault_eq (bank cause : Nat) (d : Device) : powerFault bank cause d =
    setCarrierState bank (if 3 ≤ (faultHoursNow bank d).length then 0x09 else 0x08) (dropCarrier bank (faultNoted bank cause d)) := rfl

/-- What a counted fault has changed. -/
theorem faultNoted_counts (bank cause : Nat) (d : Device) : MediumOnly d (faultNoted bank cause d) ∧
    (∀ k, k ≠ bank → carrier k (faultNoted bank cause d) = carrier k d) ∧
    getObj (Obj.carrierFaultCount bank) (faultNoted bank cause d) = faultsNow bank d := by
  have hset : MediumOnly d (setObj (Obj.carrierFaultCount bank) (faultsNow bank d) d) := .of_eq rfl
  have hupd := updCarrier_leaves bank (fun c => { c with faultHours := faultHoursNow bank d }) (fun _ h => h)
    (setObj (Obj.carrierFaultCount bank) (faultsNow bank d) d)
  have hlog := (logRec_aside Code.carrierPowerFault [bank, cause, faultsNow bank d] (updCarrier bank
    (fun c => { c with faultHours := faultHoursNow bank d }) (setObj (Obj.carrierFaultCount bank) (faultsNow bank d) d))).leaves bank
  have hboth := hupd.trans hlog
  exact ⟨hset.trans hboth.medium, hboth.others, hboth.faults.trans (getObj_setObj_self _ _ d)⟩

end Sys2Proof.Machine

section
open Sys2Proof Sys2Proof.Machine

/-- Settles O25: once its fault is counted, each further step of a carrier that loses power leaves what is off, and its PEN's clearing takes
off the PEN, the power-up charge and the tokens of the bank. -/
theorem powerFaultsTakeCarriersDown : Obligations.PowerFaultsTakeCarriersDown := by
  intro s bank c hpen hc
  have hfault : ∀ cause, carrierState bank.val (powerFault bank.val cause s.dev) =
      (if 2 ≤ ((carrier bank.val s.dev).faultHours.filter fun h => hours s.dev < h + 16).length then 0x09 else 0x08) ∧
      getObj (Obj.carrierFaultCount bank.val) (powerFault bank.val cause s.dev) = min 255 (getObj (Obj.carrierFaultCount bank.val) s.dev + 1) ∧
      BankOff bank.val (powerFault bank.val cause s.dev) ∧
      (∀ b, b ≠ bank.val → carrier b (powerFault bank.val cause s.dev) = carrier b s.dev) ∧ MediumOnly s.dev (powerFault bank.val cause s.dev) := by
    intro cause
    obtain ⟨hmedium, hothers, hcount⟩ := faultNoted_counts bank.val cause s.dev
    rw [powerFault_eq]
    generalize faultNoted bank.val cause s.dev = x at hmedium hothers hcount
    obtain ⟨hdrop, hoff⟩ := dropCarrier_leaves bank.isLt x
    have hset := setCarrierState_leaves bank.isLt (if 3 ≤ (faultHoursNow bank.val s.dev).length then 0x09 else 0x08) (dropCarrier bank.val x)
    refine ⟨?_, ((hset.faults.trans hdrop.faults).trans hcount), hset.off hoff, fun b hb => ?_, hmedium.trans (hdrop.trans hset).medium⟩
    · rw [carrierState_setCarrierState]
      simp [faultHoursNow, Nat.succ_le_succ_iff]
    · exact ((hdrop.trans hset).others b hb).trans (hothers b hb)
  rcases hc with ⟨rfl, hgood⟩ | ⟨rfl, hstep, htime⟩
  · refine .of_runDev _ rfl ?_
    obtain ⟨hstate, hcount, ⟨hlow, hpower, htokens⟩, hothers, hmedium⟩ := hfault 1
    rw [onlyIf, if_pos (by simp [hpen, hgood])]
    exact ⟨hstate, hcount, hlow, hpower, htokens, hothers, hmedium⟩
  · refine .of_runDev _ rfl ?_
    obtain ⟨hstate, hcount, ⟨hlow, hpower, htokens⟩, hothers, hmedium⟩ := hfault 2
    rw [onlyIf, if_pos (by simp [hpen, hstep, htime])]
    exact ⟨hstate, hcount, hlow, hpower, htokens, hothers, hmedium⟩

end

end

section
/-! PROOFS. Rows of a stripe that are gathered and closed, and stripes that open (spec/06 R183 to R193): O37. -/
-- The proofs are elaborated one after another: see the first file of these proofs.
set_option Elab.async false

namespace Sys2Proof.Machine

variable {n : Nat} {d e : Device}

/-! ### The stripe whose rows close -/

/-- From `d` to `e` rows of one stripe go on: no other stripe has changed, and each group stays with its stripe. -/
structure RowsGoOn (n : Nat) (d e : Device) : Prop where
  others : ∀ k, k ≠ n → stripe k e = stripe k d
  members : (stripe n e).members = (stripe n d).members
  lost : (stripe n e).lost = (stripe n d).lost
  kind : (stripe n e).kind = (stripe n d).kind
  groups : ∀ x slot, (group x slot e).stripe = (group x slot d).stripe

theorem RowsGoOn.refl (n : Nat) (d : Device) : RowsGoOn n d d := ⟨fun _ _ => rfl, rfl, rfl, rfl, fun _ _ => rfl⟩

theorem RowsGoOn.trans {a b c : Device} (h : RowsGoOn n a b) (g : RowsGoOn n b c) : RowsGoOn n a c :=
  ⟨fun k hk => (g.others k hk).trans (h.others k hk), g.members.trans h.members, g.lost.trans h.lost, g.kind.trans h.kind,
    fun x slot => (g.groups x slot).trans (h.groups x slot)⟩

/-- Further, the stripe has gathered no row. -/
structure Encoded (n : Nat) (d e : Device) : Prop extends RowsGoOn n d e where
  gathered : (stripe n e).gathered = (stripe n d).gathered

theorem Encoded.refl (n : Nat) (d : Device) : Encoded n d d := ⟨.refl n d, rfl⟩

theorem Encoded.trans {a b c : Device} (h : Encoded n a b) (g : Encoded n b c) : Encoded n a c :=
  ⟨h.toRowsGoOn.trans g.toRowsGoOn, g.gathered.trans h.gathered⟩

theorem Encoded.ite {a b : Device} {p : Prop} [Decidable p] (ha : Encoded n d a) (hb : Encoded n d b) : Encoded n d (if p then a else b) := by
  split
  · exact ha
  · exact hb

theorem Encoded.foldl {β : Type} {g : Device → β → Device} (hg : ∀ d b, Encoded n d (g d b)) (xs : List β) (d : Device) :
    Encoded n d (xs.foldl g d) := foldl_rel (R := Encoded n) (.refl n) (fun h g => h.trans g) hg xs d

/-- A step that leaves the stripes, and the stripe of each group. -/
theorem Encoded.of_stripes (hs : e.media.stripes = d.media.stripes) (hg : ∀ x slot, (group x slot e).stripe = (group x slot d).stripe) :
    Encoded n d e := by
  have hstripe : ∀ k, stripe k e = stripe k d := fun k => by unfold stripe; rw [hs]
  exact ⟨⟨fun k _ => hstripe k, by rw [hstripe], by rw [hstripe], by rw [hstripe], hg⟩, by rw [hstripe]⟩

theorem stripe_updStripe (k n : Nat) (f : Stripe → Stripe) (d : Device) :
    stripe k (updStripe n f d) = if k = n then f (stripe n d) else stripe k d := by
  simp [stripe, updStripe, smGet_smUpd]

theorem updGroup_encoded (x slot : Nat) (f : Group → Group) (hf : ∀ g, (f g).stripe = g.stripe) (d : Device) : Encoded n d (updGroup x slot f d) := by
  refine .of_stripes rfl fun y s => ?_
  unfold group updGroup
  rw [smGet_smUpd]
  split
  · next h => rw [hf, h]
  · rfl

theorem updBlock_encoded (b : Nat) (f : Block → Block) (d : Device) : Encoded n d (updBlock b f d) := .of_stripes rfl fun _ _ => rfl

theorem fillRow_encoded (w : Nat) (d : Device) (b : Nat) : Encoded n d (fillRow w d b) :=
  .ite (.refl n d) ((updBlock_encoded b _ d).trans (.of_stripes rfl fun _ _ => rfl))

theorem padWordline_encoded (x slot w : Nat) (d : Device) : Encoded n d (padWordline x slot w d) := by
  refine (Encoded.foldl (fun d b => updBlock_encoded b _ d) _ d).trans (updGroup_encoded _ _ _ ?_ _)
  exact fun _ => rfl

theorem padEnd_encoded (x slot : Nat) (d : Device) : Encoded n d (padEnd x slot d) :=
  .ite (padWordline_encoded _ _ _ d) (.refl n d)

theorem media_takeBuffer (owner pool : Nat) (standing : Bool) (d : Device) : (takeBuffer owner pool standing d).2.media = d.media := by
  unfold takeBuffer poolEmptyResult countMapLoad
  dsimp only
  split
  · rfl
  · split
    · rfl
    · split <;> rfl

theorem takeBuffer_encoded (standing : Bool) (d : Device) : Encoded n d (takeBuffer 0x41 5 standing d).2 := by
  have h := media_takeBuffer 0x41 5 standing d
  exact .of_stripes (by rw [h]) fun x slot => by unfold group; rw [h]

theorem poolEmptyResult_encoded (size : Nat) (own : Bool) (d : Device) : Encoded n d (poolEmptyResult 0x41 5 size own d) :=
  .of_stripes rfl fun _ _ => rfl

/-- A change of the stripe that leaves its members and its rows. -/
theorem updStripe_encoded (f : Stripe → Stripe) (hf : ∀ t, (f t).members = t.members ∧ (f t).lost = t.lost ∧ (f t).kind = t.kind ∧
    (f t).gathered = t.gathered) (d : Device) : Encoded n d (updStripe n f d) := by
  have hself : stripe n (updStripe n f d) = f (stripe n d) := (stripe_updStripe n n f d).trans (if_pos rfl)
  obtain ⟨hm, hl, hk, hg⟩ := hf (stripe n d)
  exact ⟨⟨fun k hk => (stripe_updStripe k n f d).trans (if_neg hk), by rw [hself, hm], by rw [hself, hl], by rw [hself, hk], fun _ _ => rfl⟩,
    by rw [hself, hg]⟩

theorem holdSums_encoded (rows : List Nat) (d : Device) : Encoded n d (holdSums n rows d) := by
  refine .foldl (fun d r => ?_) rows d
  have h := takeBuffer_encoded (n := n) false d
  split
  · next heq =>
    rw [heq] at h
    refine h.trans (updStripe_encoded _ ?_ _)
    exact fun t => ⟨rfl, rfl, rfl, rfl⟩
  · next heq =>
    rw [heq] at h
    exact h

/-- A group that belongs to the stripe is encoded. -/
theorem encodeGroup_encoded {x slot : Nat} (h : (group x slot d).stripe = n) : Encoded n d (encodeGroup x slot d) := by
  have hpad := padEnd_encoded (n := n) x slot d
  have hstripe : (group x slot (padEnd x slot d)).stripe = n := (hpad.groups x slot).trans h
  unfold encodeGroup
  dsimp only
  rw [hstripe]
  generalize padEnd x slot d = f at hpad
  refine .ite (.refl n d) (.ite hpad (.ite (hpad.trans (poolEmptyResult_encoded _ _ f)) ?_))
  refine ((hpad.trans (holdSums_encoded _ f)).trans (Encoded.foldl (fun d w => ?_) _ _)).trans (updGroup_encoded _ _ _ ?_ _)
  · exact .ite (.refl n d) (.foldl (fillRow_encoded w) _ d)
  · exact fun _ => rfl

theorem RowsGoOn.liveDies (h : RowsGoOn n d e) : Machine.liveDies n e = Machine.liveDies n d := by
  unfold Machine.liveDies
  dsimp only
  rw [h.members, h.lost]

/-- Every group of the stripe's members is the stripe's own. -/
def OwnGroups (n : Nat) (d : Device) : Prop := ∀ x ∈ liveDies n d, (group x (groupSlot (stripe n d).kind) d).stripe = n

theorem OwnGroups.of_goOn (h : OwnGroups n d) (g : RowsGoOn n d e) : OwnGroups n e := by
  intro x hx
  rw [g.liveDies] at hx
  rw [g.kind, g.groups]
  exact h x hx

theorem encodeMembers_encoded (h : OwnGroups n d) : Encoded n d (encodeMembers n d) := by
  unfold encodeMembers
  have hall : ∀ (xs : List Nat), (∀ x ∈ xs, ∀ f : Device, Encoded n d f → (group x (groupSlot (stripe n f).kind) f).stripe = n) →
      ∀ f : Device, Encoded n d f → Encoded n d (xs.foldl (fun d x => encodeGroup x (groupSlot (stripe n d).kind) d) f) := by
    intro xs
    induction xs with
    | nil => exact fun _ f hf => hf
    | cons x xs ih =>
      intro hx f hf
      exact ih (fun y hy => hx y (List.mem_cons_of_mem _ hy)) _ (hf.trans (encodeGroup_encoded (hx x List.mem_cons_self f hf)))
  exact hall _ (fun x hx f hf => by rw [hf.kind, hf.groups]; exact h x hx) d (.refl n d)

/-! ### Rows close -/

theorem setGathered_goOn (r : Nat) (d : Device) : RowsGoOn n d (setGathered n r d) ∧ (stripe n (setGathered n r d)).gathered = r := by
  have hself : stripe n (setGathered n r d) = { stripe n d with gathered := r, held := (stripe n d).held.filter fun h => decide (r ≤ h.1) } :=
    (stripe_updStripe n n _ d).trans (if_pos rfl)
  exact ⟨⟨fun k hk => (stripe_updStripe k n _ d).trans (if_neg hk), by rw [hself], by rw [hself], by rw [hself], fun _ _ => rfl⟩, by rw [hself]⟩

theorem closeRow_goOn (r : Nat) (d : Device) : RowsGoOn n d (closeRow n r d) ∧ (stripe n (closeRow n r d)).gathered = r + 1 := by
  have hshort : Encoded n d (if rowFull n r d then d else incObj Obj.shortRows d) := .ite (.refl n d) (.of_stripes rfl fun _ _ => rfl)
  unfold closeRow
  dsimp only
  generalize (if rowFull n r d then d else incObj Obj.shortRows d) = f at hshort
  have hfill : Encoded n f ((dataDies n f).foldl (fun d x =>
      (group x (groupSlot (stripe n d).kind) d).blocks.foldl (fillRow (r - (group x (groupSlot (stripe n d).kind) d).rowBase)) d) f) :=
    .foldl (fun d x => .foldl (fillRow_encoded _) _ d) _ f
  obtain ⟨hset, hrow⟩ := setGathered_goOn (n := n) (r + 1) ((dataDies n f).foldl (fun d x =>
      (group x (groupSlot (stripe n d).kind) d).blocks.foldl (fillRow (r - (group x (groupSlot (stripe n d).kind) d).rowBase)) d) f)
  exact ⟨(hshort.trans hfill).toRowsGoOn.trans hset, hrow⟩

theorem padRow_goOn (r : Nat) (d : Device) : RowsGoOn n d (padRow n r d) ∧ (stripe n (padRow n r d)).gathered = r + 1 := by
  have hpad : Encoded n d ((liveDies n d).foldl (fun f x => padWordline x (groupSlot (stripe n d).kind)
      (r - (group x (groupSlot (stripe n d).kind) f).rowBase) f) d) := .foldl (fun f x => padWordline_encoded _ _ _ f) _ d
  obtain ⟨hset, hrow⟩ := setGathered_goOn (n := n) (r + 1) ((liveDies n d).foldl (fun f x => padWordline x (groupSlot (stripe n d).kind)
      (r - (group x (groupSlot (stripe n d).kind) f).rowBase) f) d)
  have hcount : ∀ f : Device, Encoded n f (incObj Obj.paddingRows f) := fun f => .of_stripes rfl fun _ _ => rfl
  have hdone := hcount (setGathered n (r + 1) ((liveDies n d).foldl (fun f x => padWordline x (groupSlot (stripe n d).kind)
      (r - (group x (groupSlot (stripe n d).kind) f).rowBase) f) d))
  exact ⟨(hpad.toRowsGoOn.trans hset).trans hdone.toRowsGoOn, hdone.gathered.trans hrow⟩

/-- Rows close up to the row asked for, and never open again. -/
theorem closeRows_goOn (fuel r : Nat) (d : Device) : RowsGoOn n d (closeRows fuel n r d) ∧
    (r < 512 → r + 1 ≤ (stripe n d).gathered + fuel → r + 1 ≤ (stripe n (closeRows fuel n r d)).gathered) := by
  induction fuel generalizing d with
  | zero => exact ⟨.refl n d, fun _ h => h⟩
  | succ fuel ih =>
    obtain ⟨hclose, hrow⟩ := closeRow_goOn (n := n) (stripe n d).gathered d
    obtain ⟨hpad, hpadRow⟩ := padRow_goOn (n := n) (stripe n d).gathered d
    obtain ⟨hrest, hreach⟩ := ih (closeRow n (stripe n d).gathered d)
    rw [hrow] at hreach
    unfold closeRows
    dsimp only
    split
    · exact ⟨.refl n d, fun h _ => by omega⟩
    · split
      · exact ⟨hclose.trans hrest, fun h hf => hreach h (by omega)⟩
      · split
        · exact ⟨.refl n d, fun _ _ => by omega⟩
        · split
          · exact ⟨hclose.trans hrest, fun h hf => hreach h (by omega)⟩
          · split
            · exact ⟨.refl n d, fun _ _ => by omega⟩
            · exact ⟨hpad, fun _ _ => by rw [hpadRow]; omega⟩

/-- A forced close closes the row, where it is not closed yet (R192). -/
theorem forceClose_closes {r : Nat} (hopen : (stripe n d).isOpen = true) (hmembers : (stripe n d).members ≠ []) (hr : r < 512)
    (hgroups : OwnGroups n d) : (∀ k, k ≠ n → stripe k (forceClose n r d) = stripe k d) ∧ r < (stripe n (forceClose n r d)).gathered := by
  unfold forceClose
  split
  · obtain ⟨hgo, hreach⟩ := closeRows_goOn (n := n) 513 r d
    have henc := encodeMembers_encoded (hgroups.of_goOn hgo)
    refine ⟨(hgo.trans henc.toRowsGoOn).others, ?_⟩
    rw [henc.gathered]
    exact hreach hr (by omega)
  · next h =>
    refine ⟨fun _ _ => rfl, ?_⟩
    simp [hopen, hmembers] at h
    omega

/-- The last of some rows is no row beyond them, and none of them lies beyond it. -/
theorem foldl_max_lt (r : Nat) (rs : List Nat) (h : ∀ q ∈ r :: rs, q < 512) : rs.foldl max r < 512 ∧ ∀ q ∈ r :: rs, q ≤ rs.foldl max r := by
  induction rs generalizing r with
  | nil => simpa using h
  | cons x xs ih =>
    have hr := h r (by simp)
    have hx := h x (by simp)
    obtain ⟨hlt, hle⟩ := ih (max r x) fun q hq => by
      rcases List.mem_cons.mp hq with rfl | hq
      · omega
      · exact h q (by simp [hq])
    have hfirst := hle (max r x) List.mem_cons_self
    refine ⟨hlt, fun q hq => ?_⟩
    simp only [List.mem_cons] at hq
    rcases hq with rfl | rfl | hq
    · exact (Nat.le_max_left _ _).trans hfirst
    · exact (Nat.le_max_right _ _).trans hfirst
    · exact hle q (List.mem_cons_of_mem _ hq)

/-- A gathered row moves the stripe to the next one (R188). -/
theorem gatherRow_gathers (hopen : (stripe n d).isOpen = true) (hmembers : (stripe n d).members ≠ []) (hrow : (stripe n d).gathered < 512)
    (hfull : rowFull n (stripe n d).gathered d = true) (hgroups : OwnGroups n d) :
    gatherRow n d = encodeMembers n (setGathered n ((stripe n d).gathered + 1) d) ∧ (∀ k, k ≠ n → stripe k (gatherRow n d) = stripe k d) ∧
    (stripe n (gatherRow n d)).gathered = (stripe n d).gathered + 1 := by
  have heq : gatherRow n d = encodeMembers n (setGathered n ((stripe n d).gathered + 1) d) := if_pos (by simp [hopen, hmembers, hrow, hfull])
  obtain ⟨hset, hnext⟩ := setGathered_goOn (n := n) ((stripe n d).gathered + 1) d
  have henc := encodeMembers_encoded (hgroups.of_goOn hset)
  rw [heq]
  exact ⟨rfl, (hset.trans henc.toRowsGoOn).others, henc.gathered.trans hnext⟩

theorem placeWaiting_of_none (h : d.media.flight = []) : placeWaiting d = d := by
  unfold placeWaiting
  rw [h]
  rfl

theorem RowsChange.flight {ks : List Nat} (h : RowsChange ks d e) : e.media.flight = d.media.flight := by
  rw [h.1]

/-! ### The buffers of a new stripe -/

/-- What a buffer that the stripe engine takes for a stripe changes (R186, R495). -/
structure BuffersTaken (n m : Nat) (d e : Device) : Prop where
  parts : e = { d with ledgers := e.ledgers, res := { d.res with buffers := e.res.buffers, waits := e.res.waits }
                       media := { d.media with stripes := e.media.stripes } }
  others : ∀ k, k ≠ n → stripe k e = stripe k d
  own : { stripe n e with standing := [] } = { stripe n d with standing := [] }
  standing : (stripe n e).standing.length = (stripe n d).standing.length + m
  ledgers : OnlyLedgers [5] d e
  held : heldBy 5 0x41 e = heldBy 5 0x41 d + m

theorem BuffersTaken.trans {m k : Nat} {a b c : Device} (h : BuffersTaken n m a b) (g : BuffersTaken n k b c) : BuffersTaken n (m + k) a c where
  parts := g.parts.trans (congrArg (fun x : Device => { x with
    ledgers := c.ledgers, res := { x.res with buffers := c.res.buffers, waits := c.res.waits },
    media := { x.media with stripes := c.media.stripes } }) h.parts)
  others j hj := (g.others j hj).trans (h.others j hj)
  own := g.own.trans h.own
  standing := by rw [g.standing, h.standing]; omega
  ledgers l hl := (g.ledgers l hl).trans (h.ledgers l hl)
  held := by rw [g.held, h.held]; omega

/-- One placement buffer is taken for a stripe. -/
def takeStanding (n : Nat) (d : Device) : Device :=
  updStripe n (fun t => { t with standing := t.standing ++ [nextIndex 5 d] }) (grantBuffer 0x41 5 true d)

theorem grantOk_pool (m : Nat) (d : Device) : grantOk 5 0x41 m d = decide (m + claimedByOthers 5 0x41 d ≤ (ledger 5 d).free) := rfl

theorem takeBuffer_of_canTake {m : Nat} (h : CanTake 0x41 5 (m + 1) d) :
    takeBuffer 0x41 5 true d = (some (nextIndex 5 d), grantBuffer 0x41 5 true d) := by
  obtain ⟨hactive, hwaits, hok⟩ := h
  have hone : grantOk 5 0x41 1 d = true := by
    rw [grantOk_pool, decide_eq_true_eq] at hok ⊢
    omega
  unfold takeBuffer
  rw [hactive, hwaits, hone]
  rfl

theorem takeStanding_taken {m : Nat} (h : CanTake 0x41 5 (m + 1) d) :
    BuffersTaken n 1 d (takeStanding n d) ∧ CanTake 0x41 5 m (takeStanding n d) := by
  obtain ⟨hactive, hwaits, hok⟩ := h
  rw [grantOk_pool, decide_eq_true_eq] at hok
  have hself : stripe n (takeStanding n d) = { stripe n d with standing := (stripe n d).standing ++ [nextIndex 5 d] } :=
    (stripe_updStripe n n _ _).trans (if_pos rfl)
  obtain ⟨hheld, hfree⟩ := heldBy_ledgerTake (l := 5) (o := 0x41) (n := 1) (d := { d with res := { d.res with
    buffers := smSet {} (5 * 65536 + nextIndex 5 d) { owner := 0x41, grantMs := nowMs d, standing := true } d.res.buffers
    waits := smErase (0x41 * 8 + 5) d.res.waits } }) (by change 1 ≤ (ledger 5 d).free; omega)
  refine ⟨⟨rfl, fun k hk => (stripe_updStripe k n _ _).trans (if_neg hk), by rw [hself], by rw [hself]; simp, fun l hl => ?_, hheld⟩, ?_⟩
  · exact (ledger_updLedger l 5 _ _).trans (if_neg (by simpa using hl))
  · refine ⟨hactive, ?_, ?_⟩
    · unfold poolWaits
      change ((smGet {} (smErase (0x41 * 8 + 5) d.res.waits) (0x41 * 8 + 5)).waitUs != 0) = false
      rw [smGet_smErase_self]
      rfl
    · rw [grantOk_pool, decide_eq_true_eq]
      have hclaimed : claimedByOthers 5 0x41 (takeStanding n d) = claimedByOthers 5 0x41 d := by
        unfold claimedByOthers
        refine congrArg List.sum (List.map_congr_left fun p hp => ?_)
        have hne : p ≠ 0x41 := by simpa using (List.mem_filter.mp hp).2
        have hother : heldBy 5 p (takeStanding n d) = heldBy 5 p d := heldBy_ledgerTake_ne hne 5 1 _
        rw [hother]
        rfl
      have hnow : (ledger 5 (takeStanding n d)).free = (ledger 5 d).free - 1 := hfree
      rw [hclaimed, hnow]
      omega

theorem holdStanding_taken (m : Nat) {d : Device} (h : CanTake 0x41 5 m d) : BuffersTaken n m d (holdStanding n m d) := by
  have hall : ∀ (xs : List Nat) (d : Device), CanTake 0x41 5 xs.length d → BuffersTaken n xs.length d
      (xs.foldl (fun d _ => match takeBuffer 0x41 5 true d with
        | (some i, d) => updStripe n (fun t => { t with standing := t.standing ++ [i] }) d
        | (none, d) => d) d) := by
    intro xs
    induction xs with
    | nil => exact fun d _ => ⟨rfl, fun _ _ => rfl, rfl, rfl, fun _ _ => rfl, rfl⟩
    | cons x xs ih =>
      intro d hd
      obtain ⟨hone, hrest⟩ := takeStanding_taken (n := n) hd
      rw [List.foldl_cons, takeBuffer_of_canTake hd, List.length_cons, Nat.add_comm]
      exact hone.trans (ih _ hrest)
  have hrange := hall (List.range m) d (by simpa using h)
  rw [List.length_range] at hrange
  exact hrange

/-! ### The groups of a new stripe -/

/-- The dies of a list take the same new group in one slot. -/
def groupsGiven (slot : Nat) (g : Group) (members : List (Nat × Nat)) (d : Device) : Device :=
  members.foldl (fun d m => updGroup m.2 slot (fun _ => g) d) d

/-- Nothing has changed but the stripes, the groups and the write path. -/
def PlacesChange (d e : Device) : Prop :=
  e = { d with media := { d.media with stripes := e.media.stripes, groups := e.media.groups, wp := e.media.wp } }

theorem PlacesChange.trans {a b c : Device} (h : PlacesChange a b) (g : PlacesChange b c) : PlacesChange a c := by
  unfold PlacesChange at *
  exact g.trans (congrArg (fun x : Device => { x with
    media := { x.media with stripes := c.media.stripes, groups := c.media.groups, wp := c.media.wp } }) h)

theorem groupsGiven_changes (slot : Nat) (g : Group) (members : List (Nat × Nat)) (d : Device) : PlacesChange d (groupsGiven slot g members d) :=
  foldl_rel (R := PlacesChange) (g := fun d (m : Nat × Nat) => updGroup m.2 slot (fun _ => g) d) (fun _ => rfl) (fun h g => h.trans g)
    (fun _ _ => rfl) members d

theorem groupsGiven_stripes (slot : Nat) (g : Group) (members : List (Nat × Nat)) (d : Device) :
    (groupsGiven slot g members d).media.stripes = d.media.stripes ∧ (groupsGiven slot g members d).media.wp = d.media.wp :=
  foldl_rel (R := fun a b : Device => b.media.stripes = a.media.stripes ∧ b.media.wp = a.media.wp)
    (g := fun d (m : Nat × Nat) => updGroup m.2 slot (fun _ => g) d) (fun _ => ⟨rfl, rfl⟩)
    (fun h g => ⟨g.1.trans h.1, g.2.trans h.2⟩) (fun _ _ => ⟨rfl, rfl⟩) members d

theorem group_groupsGiven (slot x : Nat) (g : Group) (members : List (Nat × Nat)) (d : Device) :
    group x slot (groupsGiven slot g members d) = if x ∈ members.map (·.2) then g else group x slot d := by
  induction members generalizing d with
  | nil => rfl
  | cons m ms ih =>
    have hone : group x slot (updGroup m.2 slot (fun _ => g) d) = if x = m.2 then g else group x slot d := by
      unfold group updGroup
      rw [smGet_smUpd]
      have hkey : (x * 2 + slot = m.2 * 2 + slot) ↔ x = m.2 := by omega
      simp only [hkey]
    change group x slot (groupsGiven slot g ms (updGroup m.2 slot (fun _ => g) d)) = _
    rw [ih, hone]
    by_cases hx : x = m.2
    · simp [hx]
    · simp only [List.map_cons, List.mem_cons, hx, false_or, if_false]

/-! ### A stripe opens -/

/-- The banks that take a new stripe's members, each with its die (R184). -/
def newMembers (kind : Nat) (d : Device) : List (Nat × Nat) :=
  ((List.range 16).filter (bankOpen · d)).map fun b => (b, (pickDie kind b d).getD 0)

/-- The device with a new stripe on those dies, its groups not yet its own (R185). -/
def stripeListed (kind par : Nat) (d : Device) : Device :=
  updStripe d.media.wp.nextStripe
    (fun _ => { exists_ := true, isOpen := true, kind := kind, parity := par, members := newMembers kind d }) (updateDivision d)

/-- The device with a new stripe on those dies (R185). -/
def stripeMade (kind par : Nat) (d : Device) : Device :=
  groupsGiven (groupSlot kind) { used := true, stripe := d.media.wp.nextStripe, kind := kind } (newMembers kind d) (stripeListed kind par d)

theorem openStripe_of_found {kind par : Nat} (hpar : [1, 2].find? (fun p => openCount kind p d < openTarget kind p d) = some par)
    (hbanks : 15 ≤ ((List.range 16).filter (bankOpen · d)).length)
    (hpicks : ∀ b, b < 16 → bankOpen b d = true → (pickDie kind b d).isSome = true)
    (hcan : CanTake 0x41 5 (((List.range 16).filter (bankOpen · d)).length - par) d) :
    openStripe kind d = incObj Obj.stripesOpen (updWp (fun w => { w with
      nextStripe := d.media.wp.nextStripe + 1, openDelayed := w.openDelayed.filter (· != kind) })
        (holdStanding d.media.wp.nextStripe (((List.range 16).filter (bankOpen · d)).length - par) (stripeMade kind par d))) := by
  obtain ⟨hactive, hwaits, hok⟩ := hcan
  have hfirst : ([1, 2].filter fun p => openCount kind p d < openTarget kind p d).head? = some par := by
    rw [List.head?_filter]
    exact hpar
  have hall : (((List.range 16).filter (bankOpen · d)).map fun b => (b, pickDie kind b (updateDivision d))).find? (·.2.isNone) = none := by
    rw [List.find?_eq_none]
    intro x hx
    obtain ⟨b, hb, rfl⟩ := List.mem_map.mp hx
    obtain ⟨hb16, hbo⟩ := List.mem_filter.mp hb
    have hsome : (pickDie kind b (updateDivision d)).isSome = true := hpicks b (List.mem_range.mp hb16) hbo
    simp [Option.isNone_iff_eq_none, ← Option.not_isSome_iff_eq_none, hsome]
  unfold openStripe
  rw [hfirst]
  dsimp only
  rw [if_neg (by omega), hall]
  dsimp only
  rw [if_neg ?_, if_neg ?_]
  · simp only [List.length_map, List.map_map]
    rfl
  · simp only [List.length_map]
    change ¬(!grantOk 5 0x41 (((List.range 16).filter (bankOpen · d)).length - par) d) = true
    simp [hok]
  · change ¬(poolWaits 0x41 5 d || !poolsActive d) = true
    simp [hwaits, hactive]

theorem stripeMade_changes (kind par : Nat) (d : Device) : PlacesChange d (stripeMade kind par d) :=
  PlacesChange.trans (b := stripeListed kind par d) rfl (groupsGiven_changes _ _ _ _)

/-- What a new stripe is before it holds its buffers. -/
theorem stripe_stripeMade (kind par k : Nat) (d : Device) : stripe k (stripeMade kind par d) =
    if k = d.media.wp.nextStripe then { exists_ := true, isOpen := true, kind := kind, parity := par, members := newMembers kind d }
    else stripe k d := by
  have hstripes : stripe k (stripeMade kind par d) = stripe k (stripeListed kind par d) := by
    unfold stripe stripeMade
    rw [(groupsGiven_stripes _ _ _ _).1]
  exact hstripes.trans (stripe_updStripe k _ _ _)

/-- The groups of a new stripe's members are its own. -/
theorem group_stripeMade {kind par b : Nat} (hb : b < 16) (hopen : bankOpen b d = true) :
    group ((pickDie kind b d).getD 0) (groupSlot kind) (stripeMade kind par d) =
      { used := true, stripe := d.media.wp.nextStripe, kind := kind } := by
  have hmem : (pickDie kind b d).getD 0 ∈ (newMembers kind d).map (·.2) := by
    unfold newMembers
    rw [List.map_map]
    exact List.mem_map_of_mem (f := fun b => (pickDie kind b d).getD 0) (List.mem_filter.mpr ⟨List.mem_range.mpr hb, hopen⟩)
  exact (group_groupsGiven _ _ _ _ _).trans (if_pos hmem)

theorem PlacesChange.canTake {owner pool m : Nat} (h : PlacesChange d e) (hpool : pool = 5) (hd : CanTake owner pool m d) :
    CanTake owner pool m e := by
  subst hpool
  rw [h]
  exact hd

/-- What a stripe that opens comes to (R184 to R186). -/
theorem openStripe_opens {kind par : Nat} (hpar : [1, 2].find? (fun p => openCount kind p d < openTarget kind p d) = some par)
    (hbanks : 15 ≤ ((List.range 16).filter (bankOpen · d)).length)
    (hpicks : ∀ b, b < 16 → bankOpen b d = true → (pickDie kind b d).isSome = true)
    (hcan : CanTake 0x41 5 (((List.range 16).filter (bankOpen · d)).length - par) d) :
    (stripe d.media.wp.nextStripe (openStripe kind d)).standing.length = ((List.range 16).filter (bankOpen · d)).length - par ∧
    { stripe d.media.wp.nextStripe (openStripe kind d) with standing := [] } =
      ({ exists_ := true, isOpen := true, kind := kind, parity := par, members := newMembers kind d } : Stripe) ∧
    (openStripe kind d).media.wp.nextStripe = d.media.wp.nextStripe + 1 ∧
    getObj Obj.stripesOpen (openStripe kind d) = (getObj Obj.stripesOpen d + 1) % objModulus Obj.stripesOpen ∧
    (∀ b, b < 16 → bankOpen b d = true → group ((pickDie kind b d).getD 0) (groupSlot kind) (openStripe kind d) =
      { used := true, stripe := d.media.wp.nextStripe, kind := kind }) ∧
    (∀ j, j ≠ d.media.wp.nextStripe → stripe j (openStripe kind d) = stripe j d) ∧
    heldBy 5 0x41 (openStripe kind d) = heldBy 5 0x41 d + (((List.range 16).filter (bankOpen · d)).length - par) ∧
    openStripe kind d = { d with objs := (openStripe kind d).objs, ledgers := (openStripe kind d).ledgers
                                 res := { d.res with buffers := (openStripe kind d).res.buffers, waits := (openStripe kind d).res.waits }
                                 media := { d.media with stripes := (openStripe kind d).media.stripes
                                                         groups := (openStripe kind d).media.groups, wp := (openStripe kind d).media.wp } } ∧
    OnlyObjs [Obj.stripesOpen] d (openStripe kind d) ∧ OnlyLedgers [5] d (openStripe kind d) := by
  have heq := openStripe_of_found hpar hbanks hpicks hcan
  have hmade := stripeMade_changes kind par d
  have hown := fun k => stripe_stripeMade kind par k d
  have hgroups := fun b hb hopen => group_stripeMade (kind := kind) (par := par) (b := b) (d := d) hb hopen
  have hstand := holdStanding_taken (n := d.media.wp.nextStripe) _ (hmade.canTake rfl hcan)
  generalize stripeMade kind par d = x at heq hmade hown hgroups hstand
  have hheld : heldBy 5 0x41 x = heldBy 5 0x41 d := heldBy_of_ledgers (by rw [hmade])
  generalize holdStanding d.media.wp.nextStripe (((List.range 16).filter (bankOpen · d)).length - par) x = y at heq hstand
  obtain ⟨hparts, hothers, hself, hlength, hledgers, hcount⟩ := hstand
  have hy : y = { d with ledgers := y.ledgers, res := { d.res with buffers := y.res.buffers, waits := y.res.waits }
                         media := { d.media with stripes := y.media.stripes, groups := y.media.groups, wp := y.media.wp } } := by
    rw [hparts, hmade]
  have hobj : y.objs = d.objs := by rw [hy]
  have hkept : ∀ k, getObj k y = getObj k d := fun k => by unfold getObj; rw [hobj]
  have hmember : ∀ z slot, group z slot y = group z slot x := fun z slot => by unfold group; rw [hparts]
  have hnew := (hown d.media.wp.nextStripe).trans (if_pos rfl)
  rw [hnew] at hself hlength
  rw [heq]
  refine ⟨?_, hself, rfl, ?_, fun b hb hopen => ?_, fun j hj => ?_, hcount.trans (by rw [hheld]), ?_, fun k hk => ?_, fun l hl => ?_⟩
  · exact hlength.trans (Nat.zero_add _)
  · exact (getObj_incObj_self _ _).trans (congrArg (fun v => (v + 1) % objModulus Obj.stripesOpen) (hkept _))
  · exact (hmember _ _).trans (hgroups b hb hopen)
  · exact (hothers j hj).trans ((hown j).trans (if_neg hj))
  · rw [hy]
    rfl
  · exact (getObj_incObj_ne (by simpa using hk) _).trans (hkept k)
  · exact (hledgers l hl).trans (by rw [hmade]; rfl)

end Sys2Proof.Machine

section
open Sys2Proof Sys2Proof.Machine

/-- Settles O37: the encoding of a row leaves the count of the rows, each closed row counts one more, and every placement buffer of a new
stripe leaves enough for the ones to come. -/
theorem rowsAndStripesOpenAndClose : Obligations.RowsAndStripesOpenAndClose := by
  refine ⟨fun s n hopen hmembers hrow hgroups hfull hflight => ?_,
    fun s n hopen hmembers hrows hgroups hlimit hflight => ?_,
    fun s k par hpar hbanks hpicks hcan => ?_⟩
  · refine .of_runDev (fun d => placeWaiting (gatherRow n d)) rfl ?_
    obtain ⟨heq, hothers, hnext⟩ := gatherRow_gathers hopen hmembers hrow hfull hgroups
    have hchange : RowsChange [Obj.fillerFrames] s.dev (gatherRow n s.dev) := by
      rw [heq]
      exact (setGathered_rows _ _ _).trans (encodeMembers_rows (by decide) n _)
    rw [placeWaiting_of_none (hchange.flight.trans hflight)]
    exact ⟨hnext, hothers, hchange.1, hchange.2.1, hchange.2.2⟩
  · refine .of_runDev (fun d => match timedOutRows n d with
      | [] => d
      | r :: rs => placeWaiting (forceClose n (rs.foldl max r) d)) rfl ?_
    cases hlist : timedOutRows n s.dev with
    | nil => exact absurd hlist hrows
    | cons r rs =>
      rw [hlist] at hlimit
      have hlast := foldl_max_lt r rs hlimit
      have hchange : RowsChange frameObjs s.dev (forceClose n (rs.foldl max r) s.dev) := forceClose_rows (List.Subset.refl _) n _ _
      obtain ⟨hothers, hclosed⟩ := forceClose_closes hopen hmembers hlast.1 hgroups
      dsimp only
      rw [placeWaiting_of_none (hchange.flight.trans hflight)]
      exact ⟨fun q hq => lt_of_le_of_lt (hlast.2 q hq) hclosed, hothers, hchange.1, hchange.2.1, hchange.2.2⟩
  · exact .of_runDev _ rfl (openStripe_opens hpar hbanks hpicks hcan)

end

end

section
/-! PROOFS. Updates of the map (spec/05 R146 to R150, R169, R173): O33. -/
-- The proofs are elaborated one after another: see the first file of these proofs.
set_option Elab.async false

namespace Sys2Proof.Machine

variable {slot grain value first count : Nat} {kind : UpdateKind} {d e : Device}

/-! ### The shared steps of an update -/

/-- The counts of the map cache. -/
def lineObjs : List Nat := [Obj.mapCacheHits, Obj.mapCacheMisses, Obj.evictionBufferHits, Obj.prefetchesUsed]

/-- Lines have been touched: of the map, nothing has changed but the cache, its buffer and what it knows of lines (R152, R153). -/
def LinesTouched (d e : Device) : Prop :=
  e = { d with objs := e.objs, media := { d.media with map := { d.media.map with
    cache := e.media.map.cache, evict := e.media.map.evict, badLines := e.media.map.badLines, prefetched := e.media.map.prefetched } } } ∧
  OnlyObjs lineObjs d e

theorem LinesTouched.refl (d : Device) : LinesTouched d d := ⟨rfl, fun _ _ => rfl⟩

theorem LinesTouched.trans {a b c : Device} (h : LinesTouched a b) (g : LinesTouched b c) : LinesTouched a c := by
  obtain ⟨h, ho⟩ := h
  obtain ⟨g, go⟩ := g
  refine ⟨?_, fun k hk => (go k hk).trans (ho k hk)⟩
  exact g.trans (congrArg (fun x : Device => { x with objs := c.objs, media := { x.media with map := { x.media.map with
    cache := c.media.map.cache, evict := c.media.map.evict, badLines := c.media.map.badLines, prefetched := c.media.map.prefetched } } }) h)

theorem countLine_touched {k : Nat} (hk : k ∈ lineObjs) (d : Device) : LinesTouched d (incObj k d) :=
  ⟨rfl, fun _ hj => getObj_setObj_ne (ne_of_mem_of_not_mem hk hj).symm _ d⟩

theorem fillLine_touched (k : Nat) (dirty : Bool) (d : Device) : LinesTouched d (updMap (fillLine k dirty) d) := ⟨rfl, fun _ _ => rfl⟩

theorem touchLine_touched (slot line : Nat) (dirty : Bool) (d : Device) : LinesTouched d (touchLine slot line dirty d) := by
  unfold touchLine
  dsimp only
  split
  · exact .refl d
  · split
    · have hused : LinesTouched d (if d.media.map.prefetched.contains (lineKey slot line) then incObj Obj.prefetchesUsed d else d) := by
        split
        · exact countLine_touched (by decide) d
        · exact .refl d
      refine (hused.trans ?_).trans (countLine_touched (by decide) _)
      exact ⟨rfl, fun _ _ => rfl⟩
    · refine LinesTouched.trans ?_ (fillLine_touched _ _ _)
      split
      · exact countLine_touched (by decide) d
      · exact countLine_touched (by decide) d

/-- Old values have been reported to the reclaim engine (R150). -/
def OldsReported (d e : Device) : Prop :=
  e = { d with media := { d.media with blocks := e.media.blocks, rc := { d.media.rc with released := e.media.rc.released, report := e.media.rc.report } } }

theorem OldsReported.refl (d : Device) : OldsReported d d := rfl

theorem OldsReported.trans {a b c : Device} (h : OldsReported a b) (g : OldsReported b c) : OldsReported a c := by
  unfold OldsReported at *
  exact g.trans (congrArg (fun x : Device => { x with media := { x.media with
    blocks := c.media.blocks, rc := { x.media.rc with released := c.media.rc.released, report := c.media.rc.report } } }) h)

theorem reportOld_olds (kind : UpdateKind) (seq : Nat) (d : Device) (old : Nat) : OldsReported d (reportOld kind seq d old) := by
  unfold reportOld
  dsimp only
  split <;> rfl

theorem reportOld_report (kind : UpdateKind) (seq : Nat) (d : Device) (old : Nat) : (reportOld kind seq d old).media.rc.report = some (kind, old) := by
  unfold reportOld
  dsimp only
  split <;> rfl

/-- What an update changes, whatever it is: the map, and what is reported of old values. -/
def MapUpdated (d e : Device) : Prop :=
  e = { d with objs := e.objs
               media := { d.media with map := e.media.map, blocks := e.media.blocks
                                       rc := { d.media.rc with released := e.media.rc.released, report := e.media.rc.report } } }

theorem MapUpdated.trans {a b c : Device} (h : MapUpdated a b) (g : MapUpdated b c) : MapUpdated a c := by
  unfold MapUpdated at *
  exact g.trans (congrArg (fun x : Device => { x with
    objs := c.objs, media := { x.media with
      map := c.media.map, blocks := c.media.blocks,
      rc := { x.media.rc with released := c.media.rc.released, report := c.media.rc.report } } }) h)

theorem LinesTouched.updated (h : LinesTouched d e) : MapUpdated d e := by
  unfold MapUpdated
  rw [h.1]

theorem OldsReported.updated (h : OldsReported d e) : MapUpdated d e := by
  unfold OldsReported at h
  unfold MapUpdated
  rw [h]

theorem updMap_updated (f : MapState → MapState) (d : Device) : MapUpdated d (updMap f d) := rfl

theorem journalAppend_updated (r : JRecord) (d : Device) : MapUpdated d (journalAppend r d) := rfl

theorem updBlock_updated (b : Nat) (f : Block → Block) (d : Device) : MapUpdated d (updBlock b f d) := rfl

/-! ### One entry -/

/-- The objects that an update counts in. -/
def updateObjs : List Nat := Obj.journalSequence :: lineObjs

/-- An entry has been written, journaled and reported (R146, R150). -/
structure EntrySet (kind : UpdateKind) (slot grain value : Nat) (d e : Device) : Prop where
  parts : MapUpdated d e
  entries : e.media.map.entries = smSet 0 (mapKey slot grain) value d.media.map.entries
  frame : e.media.map.openFrame = d.media.map.openFrame ++ [.entrySet slot grain value]
  report : e.media.rc.report = some (kind, mapEntry slot grain d)
  sequence : getObj Obj.journalSequence e = (getObj Obj.journalSequence d + 1) % 2 ^ 64
  dirty : (mapPage slot (pageOf grain) e).dirty = true
  objs : OnlyObjs updateObjs d e

theorem dirtyPage_dirty (seq : Nat) (p : MapPage) : (dirtyPage seq p).dirty = true := by
  unfold dirtyPage
  split
  · assumption
  · rfl

/-- The page of an entry dirty, and the entry with its new value. -/
def entryWritten (slot grain value seq : Nat) (d : Device) : Device :=
  updMap (fun m => { m with entries := smSet 0 (mapKey slot grain) value m.entries }) (updPage slot (pageOf grain) (dirtyPage seq) d)

theorem setEntry_eq (kind : UpdateKind) (slot grain value : Nat) (d : Device) : setEntry kind slot grain value d =
    journalAppend (.entrySet slot grain value) (reportOld kind (getObj Obj.journalSequence d)
      (entryWritten slot grain value (getObj Obj.journalSequence d) (touchLine slot (lineOf grain) true d)) (mapEntry slot grain d)) := rfl

theorem setEntry_set (kind : UpdateKind) (slot grain value : Nat) (d : Device) : EntrySet kind slot grain value d (setEntry kind slot grain value d) := by
  rw [setEntry_eq]
  have htouch := touchLine_touched slot (lineOf grain) true d
  generalize touchLine slot (lineOf grain) true d = x at htouch
  have hdirty : (mapPage slot (pageOf grain) (entryWritten slot grain value (getObj Obj.journalSequence d) x)).dirty = true := by
    have : mapPage slot (pageOf grain) (entryWritten slot grain value (getObj Obj.journalSequence d) x) =
        dirtyPage (getObj Obj.journalSequence d) (mapPage slot (pageOf grain) x) := smGet_smUpd_self _ _ _ _
    rw [this]
    exact dirtyPage_dirty _ _
  have hwritten : MapUpdated x (entryWritten slot grain value (getObj Obj.journalSequence d) x) := rfl
  have hentries : (entryWritten slot grain value (getObj Obj.journalSequence d) x).media.map.entries =
      smSet 0 (mapKey slot grain) value d.media.map.entries := by
    change smSet 0 (mapKey slot grain) value x.media.map.entries = _
    rw [htouch.1]
  have hframe : (entryWritten slot grain value (getObj Obj.journalSequence d) x).media.map.openFrame = d.media.map.openFrame := by
    change x.media.map.openFrame = _
    rw [htouch.1]
  have hobjs : (entryWritten slot grain value (getObj Obj.journalSequence d) x).objs = x.objs := rfl
  generalize entryWritten slot grain value (getObj Obj.journalSequence d) x = y at hdirty hwritten hentries hframe hobjs
  have holds := reportOld_olds kind (getObj Obj.journalSequence d) y (mapEntry slot grain d)
  have hreport := reportOld_report kind (getObj Obj.journalSequence d) y (mapEntry slot grain d)
  generalize reportOld kind (getObj Obj.journalSequence d) y (mapEntry slot grain d) = z at holds hreport
  have hmap : z.media.map = y.media.map := by rw [holds]
  have hkept : ∀ k ∉ lineObjs, getObj k z = getObj k d := fun k hk => by
    have hz : z.objs = y.objs := by rw [holds]
    exact (show getObj k z = getObj k x by unfold getObj; rw [hz, hobjs]).trans (htouch.2 k hk)
  refine ⟨(htouch.updated.trans hwritten).trans (holds.updated.trans (journalAppend_updated _ z)), ?_, ?_, hreport, ?_, ?_, fun k hk => ?_⟩
  · exact (congrArg MapState.entries hmap).trans hentries
  · change z.media.map.openFrame ++ _ = _
    rw [hmap, hframe]
  · refine (getObj_incObj_self _ _).trans ?_
    have hmod : objModulus Obj.journalSequence = 2 ^ 64 := by decide +kernel
    rw [hmod]
    exact congrArg (fun v => (v + 1) % 2 ^ 64) (hkept _ (by decide))
  · unfold mapPage at *
    change (smGet {} z.media.map.pages _).dirty = true
    rw [hmap]
    exact hdirty
  · simp only [updateObjs, List.mem_cons, not_or] at hk
    obtain ⟨hj, hl⟩ := hk
    exact (getObj_incObj_ne hj _).trans (hkept k hl)

theorem EntrySet.reads (h : EntrySet kind slot grain value d e) : mapEntry slot grain e = value := by
  unfold mapEntry
  rw [h.entries, smGet_smSet_self]

theorem EntrySet.others (h : EntrySet kind slot grain value d e) (k : Nat) (hk : k ≠ mapKey slot grain) :
    smGet 0 e.media.map.entries k = smGet 0 d.media.map.entries k := by
  rw [h.entries, smGet_smSet_ne 0 0 hk]

/-! ### Place and Relocate -/

/-- The device with other grains in flight. -/
def withFlight (fs : List FlightGrain) (d : Device) : Device := { d with media := { d.media with flight := fs } }

/-- A placed grain counts in its block. -/
def grainCounted (p : Placement) (d : Device) : Device := updBlock p.block (fun e => { e with valid := e.valid + p.frames }) d

theorem onMedium {p : Placement} (h : lastRowOf p d < (stripe p.stripe d).done ∨ (stripe p.stripe d).isOpen = false) :
    (lastRowOf p d < (stripe p.stripe d).done || !(stripe p.stripe d).isOpen) = true := by
  rcases h with h | h <;> simp [h]

theorem placeUpdate_sets {id : Nat} {g : FlightGrain} {p : Placement} (hg : flightGrain id d = some g) (hp : g.placed = some p)
    (hzero : g.zero = false) (hseq : g.seq = none) (hwaits : unmapWaits g d = false) (hready : updateReady g.stored.slot g.stored.grain d = true)
    (hrow : lastRowOf p d < (stripe p.stripe d).done ∨ (stripe p.stripe d).isOpen = false) (hcmd : g.cmd ≠ 0) :
    ∃ fs, placeUpdate id d =
      withFlight fs (setEntry .place g.stored.slot g.stored.grain (pointerOf p.block p.frame) (grainCounted p d)) := by
  have happly : applyGrain g d = overtake g.stored.slot g.stored.grain g.id (getObj Obj.journalSequence d)
      (updFlight g.id (fun x => { x with seq := some (getObj Obj.journalSequence d) })
        (setEntry .place g.stored.slot g.stored.grain (pointerOf p.block p.frame) (grainCounted p d))) := by
    unfold applyGrain
    rw [hwaits, hready, hseq, hzero, hp]
    rfl
  have hplace : placeUpdate id d = applyGrain g d := by
    unfold placeUpdate
    rw [hg]
    dsimp only
    rw [if_neg hcmd, hzero, hp]
    dsimp only
    rw [if_neg (by decide), if_pos (onMedium hrow)]
  refine ⟨(placeUpdate id d).media.flight, ?_⟩
  rw [hplace, happly]
  rfl

theorem relocateUpdate_acts {id o : Nat} {g : FlightGrain} {p : Placement} (hg : flightGrain id d = some g) (hp : g.placed = some p)
    (hseq : g.seq = none) (hready : updateReady g.stored.slot g.stored.grain d = true)
    (hrow : lastRowOf p d < (stripe p.stripe d).done ∨ (stripe p.stripe d).isOpen = false) (hcmd : g.cmd = 0) (hold : g.old = some o) :
    ∃ fs, relocateUpdate id d = withFlight fs (if mapEntry g.stored.slot g.stored.grain d = o then
      grainCounted p (setEntry .relocate g.stored.slot g.stored.grain (pointerOf p.block p.frame) d) else incObj Obj.conditionalDiscards d) := by
  have hcond : conditionalSet .relocate g.stored.slot g.stored.grain o (pointerOf p.block p.frame) d =
      if mapEntry g.stored.slot g.stored.grain d = o then setEntry .relocate g.stored.slot g.stored.grain (pointerOf p.block p.frame) d
      else incObj Obj.conditionalDiscards d := by
    unfold conditionalSet
    rw [hready]
    rfl
  refine ⟨(relocateUpdate id d).media.flight, ?_⟩
  unfold relocateUpdate
  rw [hg]
  dsimp only
  rw [hp, hold]
  dsimp only
  rw [if_neg (by simp [hcmd, hseq, onMedium hrow]), if_neg (by simp [hready]), hcond]
  by_cases hmoved : mapEntry g.stored.slot g.stored.grain d = o
  · simp only [if_pos hmoved]
    rfl
  · simp only [if_neg hmoved]
    rfl

/-! ### Ranges and slots -/

theorem smGet_filter {α : Type} (dflt : α) (p : Nat → Bool) (m : SMap α) (k : Nat) :
    smGet dflt (m.filter fun e => p e.1) k = if p k then smGet dflt m k else dflt := by
  induction m with
  | nil => simp
  | cons e m ih =>
    obtain ⟨j, v⟩ := e
    rw [smGet_cons]
    rw [List.filter_cons]
    dsimp only
    by_cases hj : j = k
    · subst hj
      cases hp : p j
      · simp [ih, hp]
      · simp [smGet_cons]
    · cases p j
      · simp [ih, hj]
      · simp [smGet_cons, ih, hj]

/-- A key lies in a range of a slot's grains. -/
def keyInRange (slot first count k : Nat) : Bool := mapKey slot first ≤ k && k < mapKey slot (first + count)

/-- A range of entries unmapped, their pages dirty. -/
def rangeCleared (slot first count seq : Nat) (m : MapState) : MapState :=
  { m with entries := m.entries.filter fun e => !keyInRange slot first count e.1
           pages := m.pages.map fun e => if pageKey slot (pageOf first) ≤ e.1 && e.1 ≤ pageKey slot (pageOf (first + count - 1)) then
             (e.1, dirtyPage seq e.2) else e }

theorem unmapRange_of_ready (hcount : 1 ≤ count) (hready : rangeReady slot first count d = true) : unmapRange slot first count d =
    journalAppend (if count = 1 then .entrySet slot first 0 else .rangeSet slot first count 0)
      (updMap (rangeCleared slot first count (getObj Obj.journalSequence d))
        (((d.media.map.entries.filter fun e => keyInRange slot first count e.1).map (·.2)).foldl (reportOld .unmap (getObj Obj.journalSequence d))
          ((linesOf first count).foldl (fun d l => touchLine slot l true d) d))) := by
  unfold unmapRange
  rw [if_neg (by omega), hready]
  rfl

theorem unmapRange_unmaps (hcount : 1 ≤ count) (hready : rangeReady slot first count d = true) : MapUpdated d (unmapRange slot first count d) ∧
    (unmapRange slot first count d).media.map.openFrame =
      d.media.map.openFrame ++ [if count = 1 then .entrySet slot first 0 else .rangeSet slot first count 0] ∧
    ∀ k, smGet 0 (unmapRange slot first count d).media.map.entries k =
      if keyInRange slot first count k then 0 else smGet 0 d.media.map.entries k := by
  rw [unmapRange_of_ready hcount hready]
  have htouch : LinesTouched d ((linesOf first count).foldl (fun d l => touchLine slot l true d) d) :=
    foldl_rel (R := LinesTouched) .refl (fun h g => h.trans g) (fun d l => touchLine_touched slot l true d) _ d
  generalize (linesOf first count).foldl (fun d l => touchLine slot l true d) d = x at htouch
  have holds : OldsReported x (((d.media.map.entries.filter fun e => keyInRange slot first count e.1).map (·.2)).foldl
      (reportOld .unmap (getObj Obj.journalSequence d)) x) :=
    foldl_rel (R := OldsReported) .refl (fun h g => h.trans g) (fun d o => reportOld_olds .unmap _ d o) _ x
  generalize ((d.media.map.entries.filter fun e => keyInRange slot first count e.1).map (·.2)).foldl
    (reportOld .unmap (getObj Obj.journalSequence d)) x = y at holds
  have hmap : y.media.map = x.media.map := by rw [holds]
  refine ⟨(htouch.updated.trans holds.updated).trans ((updMap_updated _ y).trans (journalAppend_updated _ _)), ?_, fun k => ?_⟩
  · change y.media.map.openFrame ++ _ = _
    rw [hmap, htouch.1]
  · change smGet 0 (y.media.map.entries.filter fun e => !keyInRange slot first count e.1) k = _
    refine (smGet_filter 0 (fun k => !keyInRange slot first count k) _ k).trans ?_
    rw [hmap, htouch.1]
    cases keyInRange slot first count k <;> rfl

/-- What a Region reset leaves of the map (R146). -/
def regionCleared (slot : Nat) (m : MapState) : MapState :=
  { m with entries := m.entries.filter fun e => e.1 / 2 ^ 40 != slot
           pages := m.pages.filter fun e => e.1 / 2 ^ 32 != slot
           asked := m.asked.filter fun e => e.1 / 2 ^ 32 != slot
           cache := (m.cache.map fun e => (e.1, e.2.filter fun w => w.1 / 2 ^ 40 != slot)).filter fun e => !e.2.isEmpty
           evict := m.evict.filter (· / 2 ^ 40 != slot), badLines := m.badLines.filter (· / 2 ^ 40 != slot) }

theorem resetRegion_eq (slot pages : Nat) (d : Device) : resetRegion slot pages d = journalAppend (.regionReset slot pages)
    (updMap (regionCleared slot) (((d.media.map.entries.filter fun e => e.1 / 2 ^ 40 = slot).map (·.2)).foldl
      (reportOld .regionReset (getObj Obj.journalSequence d)) d)) := rfl

theorem resetRegion_resets (slot pages : Nat) (d : Device) : MapUpdated d (resetRegion slot pages d) ∧
    (∀ k, smGet 0 (resetRegion slot pages d).media.map.entries k = if k / 2 ^ 40 = slot then 0 else smGet 0 d.media.map.entries k) ∧
    (∀ k, smGet {} (resetRegion slot pages d).media.map.pages k = if k / 2 ^ 32 = slot then {} else smGet {} d.media.map.pages k) ∧
    (resetRegion slot pages d).media.map.openFrame = d.media.map.openFrame ++ [.regionReset slot pages] := by
  rw [resetRegion_eq]
  have holds : OldsReported d (((d.media.map.entries.filter fun e => e.1 / 2 ^ 40 = slot).map (·.2)).foldl
      (reportOld .regionReset (getObj Obj.journalSequence d)) d) :=
    foldl_rel (R := OldsReported) .refl (fun h g => h.trans g) (fun d o => reportOld_olds .regionReset _ d o) _ d
  generalize ((d.media.map.entries.filter fun e => e.1 / 2 ^ 40 = slot).map (·.2)).foldl
    (reportOld .regionReset (getObj Obj.journalSequence d)) d = y at holds
  have hmap : y.media.map = d.media.map := by rw [holds]
  refine ⟨holds.updated.trans ((updMap_updated _ y).trans (journalAppend_updated _ _)), fun k => ?_, fun k => ?_, ?_⟩
  · change smGet 0 (y.media.map.entries.filter fun e => e.1 / 2 ^ 40 != slot) k = _
    refine (smGet_filter 0 (fun k => k / 2 ^ 40 != slot) _ k).trans ?_
    rw [hmap]
    simp
  · change smGet {} (y.media.map.pages.filter fun e => e.1 / 2 ^ 32 != slot) k = _
    refine (smGet_filter ({} : MapPage) (fun k => k / 2 ^ 32 != slot) _ k).trans ?_
    rw [hmap]
    simp
  · change y.media.map.openFrame ++ _ = _
    rw [hmap]

/-! ### Updates that wait -/

/-- Nothing of the map has changed but the pages asked for and the record of a full journal, and nothing else but what `Aside` admits. -/
def PageAsked (d e : Device) : Prop :=
  Aside { d with media := { d.media with map := { d.media.map with asked := e.media.map.asked, fullRecorded := e.media.map.fullRecorded } } } e

/-- What a change of the pages asked for is. -/
def askedOf (c d : Device) : Device :=
  { d with media := { d.media with map := { d.media.map with asked := c.media.map.asked, fullRecorded := c.media.map.fullRecorded } } }

theorem Aside.with_asked {a b : Device} (h : Aside a b) (c : Device) : Aside (askedOf c a) (askedOf c b) where
  ctl := h.ctl
  therm := h.therm
  holdup := h.holdup
  domains := h.domains
  cpx := h.cpx
  res := h.res
  settings := h.settings
  sec := h.sec
  media := congrArg (fun m : Media => { m with map := { m.map with asked := c.media.map.asked, fullRecorded := c.media.map.fullRecorded } }) h.media
  held := h.held
  delayed := h.delayed
  damaged := h.damaged
  objs := h.objs
  ledgers := h.ledgers
  log := h.log
  can := h.can
  cs := h.cs
  sub := h.sub
  port := h.port

theorem PageAsked.refl (d : Device) : PageAsked d d := Aside.refl d

theorem PageAsked.trans {a b c : Device} (h : PageAsked a b) (g : PageAsked b c) : PageAsked a c := (h.with_asked c).trans g

theorem PageAsked.of_eq (h : e = askedOf e d) : PageAsked d e := by
  unfold PageAsked
  change Aside (askedOf e d) e
  rw [← h]
  exact Aside.refl e

theorem askPage_asked (priority slot page : Nat) (d : Device) : PageAsked d (askPage priority slot page d) := by
  unfold askPage
  dsimp only
  split
  · exact .refl d
  · exact .of_eq rfl

theorem noteJournalFull_asked (d : Device) : PageAsked d (noteJournalFull d) := by
  unfold noteJournalFull
  split
  · exact .refl d
  · have hlog := logRec_aside Code.journalFull [getObj Obj.journalFrames d, getObj Obj.checkpointSequence d]
      (updMap (fun m => { m with fullRecorded := true }) d)
    have hnoted : PageAsked d (updMap (fun m => { m with fullRecorded := true }) d) := .of_eq rfl
    refine hnoted.trans ?_
    generalize updMap (fun m => { m with fullRecorded := true }) d = x at hlog
    unfold PageAsked
    rw [hlog.media]
    exact hlog

/-- An update waits after the others, its pages asked for. -/
theorem PageAsked.waits (h : PageAsked d e) (u : MapUpdate) : UpdateWaits u d (waitUpdate u e) := by
  have hmap : e.media.map = { d.media.map with asked := e.media.map.asked, fullRecorded := e.media.map.fullRecorded } :=
    congrArg Media.map h.media
  refine ⟨?_, h.objs, ?_⟩
  · change e.media.map.waits ++ [u] = _
    rw [hmap]
  · exact {
      ctl := h.ctl
      therm := h.therm
      holdup := h.holdup
      domains := h.domains
      cpx := h.cpx
      res := h.res
      settings := h.settings
      sec := h.sec
      media := congrArg (fun m : Media => { m with map := { m.map with waits := e.media.map.waits ++ [u] } }) h.media
      held := h.held
      delayed := h.delayed
      damaged := h.damaged
      objs := fun _ _ => rfl
      ledgers := h.ledgers
      log := h.log
      can := h.can
      cs := h.cs
      sub := h.sub
      port := h.port }

theorem holdRange_asked (slot first count : Nat) (d : Device) : PageAsked d (holdRange slot first count d) := by
  unfold holdRange
  split
  · exact noteJournalFull_asked d
  · exact foldl_rel (R := PageAsked) .refl (fun h g => h.trans g) (fun d l => askPage_asked 1 slot _ d) _ d

theorem holdUpdate_asked (slot grain : Nat) (d : Device) : PageAsked d (holdUpdate slot grain d) := by
  unfold holdUpdate
  split
  · exact noteJournalFull_asked d
  · exact askPage_asked 1 slot _ d

/-! ### Mark lost -/

/-- The grain is noted for the lost-range log of its stripe. -/
def lossNoted (slot grain pointer : Nat) (d : Device) : Device :=
  { d with media := { d.media with rc := { d.media.rc with
      toAppend := d.media.rc.toAppend ++ [(slot, grain, 0x01, (block (blockOf pointer) d).stripe)] } } }

theorem markLost_of_ready {pointer : Nat} (hready : updateReady slot grain d = true) (hpointer : pointer ≠ 0) : markLost slot grain pointer d =
    if mapEntry slot grain d = pointer then incObj Obj.grainsMarkedLost (setEntry .markLost slot grain lostEntry (lossNoted slot grain pointer d))
    else incObj Obj.conditionalDiscards d := by
  unfold markLost conditionalSet
  rw [hready]
  by_cases h : mapEntry slot grain d = pointer
  · simp [h, hpointer, lossNoted]
  · simp [h]

theorem grainsMarkedLost_apart : Obj.grainsMarkedLost ∉ updateObjs := by decide

theorem mapKey_range {k : Nat} (h : k < mapKey slot first ∨ mapKey slot (first + count) ≤ k) : keyInRange slot first count k = false := by
  unfold keyInRange
  simp
  omega

theorem keyInRange_of_lt {i : Nat} (h : i < count) : keyInRange slot first count (mapKey slot (first + i)) = true := by
  unfold keyInRange mapKey
  simp
  omega

end Sys2Proof.Machine

section
open Sys2Proof Sys2Proof.Machine

/-- Settles O33: Place, Relocate and Mark lost write one entry, an Unmap and a Region reset filter the entries of their range or slot, and what
waits asks for its pages. -/
theorem mapUpdatesTakeEffect : Obligations.MapUpdatesTakeEffect := by
  refine ⟨fun s id g p hg hp hzero hseq hwaits hready hrow hcmd => .of_runDev _ rfl ?_,
    fun s id g p hg hp hseq hready hrow hcmd o hold => .of_runDev _ rfl ?_,
    fun s slot first count hcount hready => .of_runDev _ rfl ?_, fun s slot grain pointer hready hpointer => .of_runDev _ rfl ?_,
    fun s slot hfull => ?_, fun s slot first count hcount hready => .of_runDev _ rfl ?_, fun s slot grain pointer hready => .of_runDev _ rfl ?_,
    fun s slot hfull => ?_⟩
  · obtain ⟨fs, heq⟩ := placeUpdate_sets hg hp hzero hseq hwaits hready hrow hcmd
    have hset := setEntry_set .place g.stored.slot g.stored.grain (pointerOf p.block p.frame) (grainCounted p s.dev)
    have hparts : MapUpdated s.dev (setEntry .place g.stored.slot g.stored.grain (pointerOf p.block p.frame) (grainCounted p s.dev)) :=
      (updBlock_updated p.block _ s.dev).trans hset.parts
    rw [heq]
    generalize setEntry .place g.stored.slot g.stored.grain (pointerOf p.block p.frame) (grainCounted p s.dev) = e at hset hparts
    refine ⟨hset.reads, hset.frame, hset.report, hset.sequence, hset.dirty, hset.others, ?_⟩
    rw [hparts]
    rfl
  · obtain ⟨fs, heq⟩ := relocateUpdate_acts hg hp hseq hready hrow hcmd hold
    rw [heq]
    by_cases hmoved : mapEntry g.stored.slot g.stored.grain s.dev = o
    · have hset := setEntry_set .relocate g.stored.slot g.stored.grain (pointerOf p.block p.frame) s.dev
      rw [if_pos hmoved]
      generalize setEntry .relocate g.stored.slot g.stored.grain (pointerOf p.block p.frame) s.dev = e at hset
      refine ⟨fun _ => ⟨hset.reads, hmoved ▸ hset.report, hset.frame⟩, fun h => absurd hmoved h, hset.others, ?_⟩
      rw [hset.parts]
      rfl
    · rw [if_neg hmoved]
      exact ⟨fun h => absurd h hmoved, fun _ => ⟨rfl, getObj_incObj_self _ _⟩, fun _ _ => rfl, rfl⟩
  · obtain ⟨hparts, hframe, hentries⟩ := unmapRange_unmaps hcount hready
    have heq : mapUpdate (.unmap slot first count) s.dev = unmapRange slot first count s.dev := if_pos (by simp [hready])
    rw [heq]
    refine ⟨fun i hi => (hentries _).trans (if_pos (keyInRange_of_lt hi)), hframe, fun k hk => (hentries k).trans ?_, hparts⟩
    rw [mapKey_range hk]
    rfl
  · have heq : mapUpdate (.markLost slot grain pointer) s.dev = markLost slot grain pointer s.dev := if_pos hready
    rw [heq, markLost_of_ready hready hpointer]
    by_cases hmatch : mapEntry slot grain s.dev = pointer
    · have hset := setEntry_set .markLost slot grain lostEntry (lossNoted slot grain pointer s.dev)
      rw [if_pos hmatch]
      generalize setEntry .markLost slot grain lostEntry (lossNoted slot grain pointer s.dev) = e at hset
      refine ⟨fun _ => ⟨hset.reads, hset.frame, hmatch ▸ hset.report, ?_⟩, fun h => absurd hmatch h, hset.others, ?_⟩
      · exact (getObj_incObj_self _ _).trans (congrArg (fun v => (v + 1) % objModulus Obj.grainsMarkedLost) (hset.objs _ grainsMarkedLost_apart))
      · rw [hset.parts]
        rfl
    · rw [if_neg hmatch]
      exact ⟨fun h => absurd h hmatch, fun _ => ⟨rfl, getObj_incObj_self _ _⟩, fun _ _ => rfl, rfl⟩
  · refine .of_runDev (fun d => regionReset slot (if (namespace_ slot d).active then pagesOf (namespace_ slot d).nsze else 0) d) rfl ?_
    have heq : ∀ pages, regionReset slot pages s.dev = resetRegion slot pages s.dev := fun pages => if_neg (by simp [hfull])
    dsimp only
    rw [heq]
    obtain ⟨hparts, hentries, hpages, hframe⟩ := resetRegion_resets slot
      (if (namespace_ slot s.dev).active then pagesOf (namespace_ slot s.dev).nsze else 0) s.dev
    exact ⟨hentries, hpages, hframe, hparts⟩
  · have heq : mapUpdate (.unmap slot first count) s.dev = waitUpdate (.unmap slot first count) (holdRange slot first count s.dev) :=
      if_neg (by simp [hready]; omega)
    rw [heq]
    exact (holdRange_asked slot first count s.dev).waits _
  · have heq : mapUpdate (.markLost slot grain pointer) s.dev = waitUpdate (.markLost slot grain pointer) (holdUpdate slot grain s.dev) :=
      if_neg (by simp [hready])
    rw [heq]
    exact (holdUpdate_asked slot grain s.dev).waits _
  · refine .of_runDev (fun d => regionReset slot (if (namespace_ slot d).active then pagesOf (namespace_ slot d).nsze else 0) d) rfl ?_
    have heq : ∀ pages, regionReset slot pages s.dev = waitUpdate (.regionReset slot pages) (noteJournalFull s.dev) := fun pages => if_pos hfull
    rw [heq]
    exact (noteJournalFull_asked s.dev).waits _

end

end

section
/-! PROOFS. The block erase of a Sanitize (spec/18 R548): O58. -/
-- The proofs are elaborated one after another: see the first file of these proofs.
set_option Elab.async false

namespace Sys2Proof.Machine

/-- M9 with a block erase at step 4, and a grain stored on die 4096, the first one of a bank 16 that is in service. -/
def erasedBeyond : Device :=
  setObj (Obj.channelTargetsPresent 128) 0xFF (setObj (Obj.carrierState 16) 0x04 { State.reset.dev with
    ctl := { State.reset.dev.ctl with mode := .m9 }
    sec := { State.reset.dev.sec with san := { action := 2, step := 4 } }
    media := { State.reset.dev.media with stored := [(pointerOf (4096 * 16384) 1, {})] } })

/-! ### What a block erase leaves stored -/

theorem logRec_shutdownRunning (code : Nat) (snaps : List Nat) (d : Device) :
    (logRec code snaps d).sub.shutdownRunning = d.sub.shutdownRunning := by
  rw [(logRec_aside code snaps d).sub]

theorem recordStep_keeps_parts (n : Nat) (d : Device) : (recordStep n d).media = d.media ∧
    (recordStep n d).sub.shutdownRunning = d.sub.shutdownRunning := by
  unfold recordStep appendKeyEntry
  dsimp only
  split
  · exact ⟨rfl, rfl⟩
  · unfold compactKeys
    dsimp only [List.foldl]
    simp [updSec, updCs, logRec_shutdownRunning]

theorem foldl_sweeps (ns : List Nat) (x : Device) :
    (ns.foldl (fun d n => updDie n (fun y => { y with sweeps := y.sweeps + 1 }) d) x).media.stored = x.media.stored ∧
    (ns.foldl (fun d n => updDie n (fun y => { y with sweeps := y.sweeps + 1 }) d) x).sub.shutdownRunning = x.sub.shutdownRunning := by
  induction ns generalizing x with
  | nil => exact ⟨rfl, rfl⟩
  | cons n ns ih => exact ih _

/-- Step 5 takes the grains of the 4,096 dies that are in service, and no other (R548). -/
theorem eraseAll_stored (d : Device) : (eraseAll [] d).media.stored =
      (d.media.stored.filter fun g => !((List.range 4096).filter (dieInService · d)).contains (dieOfBlock (blockOf g.1))) ∧
    (eraseAll [] d).sub.shutdownRunning = d.sub.shutdownRunning := by
  unfold eraseAll
  dsimp only [List.filter_nil, List.foldl_nil]
  rw [(foldl_sweeps _ _).1, (foldl_sweeps _ _).2, (recordStep_keeps_parts _ _).1, (recordStep_keeps_parts _ _).2]
  exact ⟨rfl, rfl⟩

theorem media_leaveSanitize {d : Device} (h : d.sub.shutdownRunning = false) : (leaveSanitize d).media = d.media := by
  have hraised : (raiseOnAll { typ := 6, info := 0x01, page := 0x81 } d).sub.shutdownRunning = false := by simp [h]
  unfold leaveSanitize noticeAfterSanitize
  rw [hraised]
  simp only [Bool.not_false, if_true]
  split <;> simp

/-- A Sanitize with block erase ends: what step 5 left is what is stored. -/
theorem stored_sanitizeEnds {d : Device} (hmode : d.ctl.mode = .m9) (haction : d.sec.san.action = 2) (hfailed : d.sec.san.failed = false)
    (hcomplete : d.sec.san.complete = false) (hstep : d.sec.san.step = 4) (hshut : d.sub.shutdownRunning = false) :
    (sanitizeEnds false [] d).media.stored = (eraseAll [] d).media.stored := by
  have hsub : (eraseAll [] d).sub.shutdownRunning = false := by rw [(eraseAll_stored d).2, hshut]
  unfold sanitizeEnds
  dsimp only
  rw [if_neg (by simp [hmode, haction, hfailed, hcomplete]), if_neg (by decide), if_neg (by simp [hstep]), if_pos haction]
  generalize eraseAll [] d = x at hsub
  rw [media_leaveSanitize, (logRec_aside _ _ _).media]
  · rfl
  · rw [logRec_shutdownRunning]
    exact hsub

theorem die_erasedBeyond : dieOfBlock (blockOf (pointerOf (4096 * 16384) 1)) = 4096 := by decide

theorem stored_erasedBeyond : (pointerOf (4096 * 16384) 1, ({} : StoredGrain)) ∈ (sanitizeEnds false [] erasedBeyond).media.stored := by
  rw [stored_sanitizeEnds rfl rfl rfl rfl rfl rfl, (eraseAll_stored _).1]
  refine List.mem_filter.mpr ⟨List.mem_singleton.mpr rfl, ?_⟩
  rw [die_erasedBeyond]
  simp

theorem inService_erasedBeyond : dieInService 4096 erasedBeyond = true := by decide +kernel

end Sys2Proof.Machine

section
open Sys2Proof Sys2Proof.Machine

/-- Refutes O58: step 5 erases the dies in service among the 4,096 of the device; where the carrier objects show a bank beyond the sixteen in
service, a grain stored on a die of it stays. -/
theorem not_sanitizeRunsInM9 : ¬ Obligations.SanitizeRunsInM9 := by
  intro ⟨_, _, _, _, herase, _⟩
  have hends := (herase { State.reset with dev := erasedBeyond } (by decide +kernel) (by decide +kernel)
    (by decide +kernel) (by decide +kernel) (by decide +kernel) (by decide +kernel)).of_exec (d := sanitizeEnds false [] erasedBeyond) rfl
  obtain ⟨_, _, _, hstored, _⟩ := hends
  have hout := hstored (by decide +kernel) _ stored_erasedBeyond
  rw [die_erasedBeyond] at hout
  exact absurd (inService_erasedBeyond.symm.trans hout) (by decide)

end
end

section
/-! PROOFS. Gauge scans and refreshes (spec/09 R273 to R278). -/
-- The proofs are elaborated one after another: see the first file of these proofs.
set_option Elab.async false

namespace Sys2Proof.Machine

variable {n : Nat} {d e : Device} {runs : List (List WordlineReads)}

/-! ### Changes of the medium beside what `Aside` admits -/

/-- The objects and the medium of `c`, put into `d`. -/
def mediaOf (c d : Device) : Device := { d with objs := c.objs, media := c.media }

/-- Nothing has changed but objects, the medium, and what `Aside` admits. -/
def MediaAside (d e : Device) : Prop := Aside (mediaOf e d) e

theorem Aside.with_media {a b : Device} (h : Aside a b) (c : Device) : Aside (mediaOf c a) (mediaOf c b) where
  ctl := h.ctl
  therm := h.therm
  holdup := h.holdup
  domains := h.domains
  cpx := h.cpx
  res := h.res
  settings := h.settings
  sec := h.sec
  media := rfl
  held := h.held
  delayed := h.delayed
  damaged := h.damaged
  objs _ _ := rfl
  ledgers := h.ledgers
  log := h.log
  can := h.can
  cs := h.cs
  sub := h.sub
  port := h.port

theorem MediaAside.refl (d : Device) : MediaAside d d := Aside.refl d

theorem MediaAside.trans {a b c : Device} (h : MediaAside a b) (g : MediaAside b c) : MediaAside a c := (h.with_media c).trans g

theorem MediaAside.of_eq (h : e = { d with objs := e.objs, media := e.media, free := e.free }) : MediaAside d e := by
  rw [h]
  constructor <;> intros <;> rfl

theorem Aside.mediaAside (h : Aside d e) : MediaAside d e where
  ctl := h.ctl
  therm := h.therm
  holdup := h.holdup
  domains := h.domains
  cpx := h.cpx
  res := h.res
  settings := h.settings
  sec := h.sec
  media := rfl
  held := h.held
  delayed := h.delayed
  damaged := h.damaged
  objs _ _ := rfl
  ledgers := h.ledgers
  log := h.log
  can := h.can
  cs := h.cs
  sub := h.sub
  port := h.port

theorem FramesTaken.mediaAside (h : FramesTaken d e) : MediaAside d e := .of_eq (by rw [h])

/-! ### Dies and their gauges -/

theorem die_updDie (k n : Nat) (f : DieState → DieState) (d : Device) : die k (updDie n f d) = if k = n then f (die n d) else die k d := by
  simp [die, updDie, smGet_smUpd]

theorem die_updDie_self (n : Nat) (f : DieState → DieState) (d : Device) : die n (updDie n f d) = f (die n d) := by simp [die_updDie]

theorem die_congr {k : Nat} (h : e.media.dies = d.media.dies) : die k e = die k d := by
  unfold die
  rw [h]

/-- What names a die's gauge blocks, and what says whether its gauge serves. -/
structure GaugeKept (n : Nat) (d e : Device) : Prop where
  gauge : (die n e).gauge = (die n d).gauge
  state : (die n e).gaugeState = (die n d).gaugeState
  blocks : e.media.blocks = d.media.blocks

theorem gaugeBlocks_congr (h : (die n e).gauge = (die n d).gauge) : gaugeBlocks n e = gaugeBlocks n d := by
  unfold gaugeBlocks
  rw [h]

theorem GaugeKept.unavailable (h : GaugeKept n d e) : gaugeUnavailable n e = gaugeUnavailable n d := by
  unfold gaugeUnavailable goodGauge
  rw [gaugeBlocks_congr h.gauge, h.blocks]
  dsimp only
  rw [h.state]

/-- A die as a gauge scan leaves it (R273): `wake` for the first scan of a wake. -/
def scannedDie (n : Nat) (runs : List (List WordlineReads)) (wake : Bool) (d : Device) : DieState :=
  let x := die n d
  let found := gaugeVectors x.refOffsets runs
  let age := gaugeAgeOf x.refOffsets found (profileOf n d).readOffsetStepMv d
  { x with gaugeAge := age, found := meanVector found, scanHours := hours d, scanCycle := getObj Obj.powerCycleCount d
           scanWallMs := if getObj Obj.wallClockSource d = 0 then 0 else getObj Obj.wallClockMs d, scanned := true
           darkAge := if wake then age - x.gaugeAge else x.darkAge }

/-- Outside M4 a scan changes its die alone. -/
theorem scanDie_of_running (hmode : d.ctl.mode ≠ .m4) (havail : gaugeUnavailable n d = false) :
    scanDie n runs d = updDie n (fun _ => scannedDie n runs false d) d := by
  unfold scanDie
  rw [if_neg (by simp [havail])]
  simp only [hmode, decide_false, Bool.false_and, Bool.false_eq_true, if_false]
  rfl

/-! ### The scan at its interval -/

/-- Blocks of aged stripes have been queued (R283). -/
structure AgedQueued (d e : Device) : Prop where
  parts : e = { d with objs := e.objs, media := { d.media with blocks := e.media.blocks, rc := e.media.rc } }
  objs : OnlyObjs [Obj.refreshesQueued] d e
  hours : e.media.rc.scanHours = d.media.rc.scanHours

theorem AgedQueued.refl (d : Device) : AgedQueued d d := ⟨rfl, fun _ _ => rfl, rfl⟩

theorem AgedQueued.trans {a b c : Device} (h : AgedQueued a b) (g : AgedQueued b c) : AgedQueued a c where
  parts := g.parts.trans (congrArg (fun x : Device => { x with
    objs := c.objs, media := { x.media with blocks := c.media.blocks, rc := c.media.rc } }) h.parts)
  objs k hk := (g.objs k hk).trans (h.objs k hk)
  hours := g.hours.trans h.hours

theorem updBlock_queued (b : Nat) (f : Block → Block) (d : Device) : AgedQueued d (updBlock b f d) := ⟨rfl, fun _ _ => rfl, rfl⟩

theorem queueStripe_queued (n : Nat) (d : Device) : AgedQueued d (queueStripe 1 n d) := ⟨rfl, fun _ _ => rfl, rfl⟩

theorem countQueued_queued (d : Device) : AgedQueued d (incObj Obj.refreshesQueued d) :=
  ⟨rfl, fun _ hk => getObj_incObj_ne (by simpa using hk) d, rfl⟩

theorem markBlocks_queued (f : Block → Block) (bs : List Nat) (d : Device) : AgedQueued d (bs.foldl (fun d b => updBlock b f d) d) :=
  foldl_rel (R := AgedQueued) .refl (fun h g => h.trans g) (fun d b => updBlock_queued b f d) bs d

theorem queueAged_queued (d : Device) : AgedQueued d (queueAged d) := by
  unfold queueAged
  split
  · exact .refl d
  · refine foldl_rel (R := AgedQueued) .refl (fun h g => h.trans g) (fun d e => ?_) _ d
    split
    · exact .refl d
    · exact ((markBlocks_queued _ _ d).trans (queueStripe_queued _ _)).trans (countQueued_queued _)

theorem bolterMode_ne (h : bolterMode d = true) : d.ctl.mode ≠ .m4 := by
  intro hm
  rw [bolterMode, hm] at h
  cases h

/-- The scan of one die at its interval (R274). -/
theorem scanRound_scans (hmode : bolterMode d = true) (hdue : d.sub.shutdownRunning = true ∨
      d.media.rc.scanHours + 16 * getObj Obj.gaugeScanIntervalHours d ≤ hours d) (hserves : dieInService n d = true)
    (havail : gaugeUnavailable n d = false) : scanRound [(n, runs)] d =
      queueAged (updRc (fun rc => { rc with scanHours := hours d })
        (moveRoot (fun p r => { r with calendar := p }) (updDie n (fun _ => scannedDie n runs false d) d))) := by
  have hscan := scanDie_of_running (runs := runs) (bolterMode_ne hmode) havail
  unfold scanRound
  rw [if_neg (by rcases hdue with h | h <;> simp [hmode, h])]
  simp only [List.foldl_cons, List.foldl_nil, hserves, if_true, hscan]
  rfl

end Sys2Proof.Machine
end

section
/-! PROOFS. Wake events (spec/11 R349) and the next wake (spec/09 R285). -/
-- The proofs are elaborated one after another: see the first file of these proofs.
set_option Elab.async false

namespace Sys2Proof.Machine

variable {p q : Nat} {d e : Device}

/-! ### The next wake -/

theorem computeWake_sets (d : Device) : getObj Obj.nextWakeDueHours (computeWake d) = nextWakeHours d ∧
    getObj Obj.nextWakeDue (computeWake d) = (if getObj Obj.wallClockSource d = 0 then 0
      else getObj Obj.wallClockMs d + nextWakeHours d * 3600000) ∧
    computeWake d = { d with objs := (computeWake d).objs } ∧ OnlyObjs [Obj.nextWakeDueHours, Obj.nextWakeDue] d (computeWake d) := by
  refine ⟨getObj_setObj_self _ _ _, ?_, rfl, fun k hk => ?_⟩
  · exact (getObj_setObj_ne (by decide) _ _).trans (getObj_setObj_self _ _ _)
  · rw [List.mem_cons, List.mem_singleton, not_or] at hk
    exact (getObj_setObj_ne hk.1 _ _).trans (getObj_setObj_ne hk.2 _ _)

/-! ### Wake events on the ports -/

/-- The objects and the ports of `c`, put into `d`. -/
def portsOf (c d : Device) : Device := { d with objs := c.objs, ports := c.ports }

theorem Aside.with_ports {a b : Device} (h : Aside a b) (c : Device) : Aside (portsOf c a) (portsOf c b) where
  ctl := h.ctl
  therm := h.therm
  holdup := h.holdup
  domains := h.domains
  cpx := h.cpx
  res := h.res
  settings := h.settings
  sec := h.sec
  media := h.media
  held := h.held
  delayed := h.delayed
  damaged := h.damaged
  objs _ _ := rfl
  ledgers := h.ledgers
  log := h.log
  can := h.can
  cs := h.cs
  sub := h.sub
  port _ := rfl

theorem portWakeSignals_inj {a b : Nat} (h : Obj.portWakeSignals a = Obj.portWakeSignals b) : a = b := by
  unfold Obj.portWakeSignals objKey at h
  omega

theorem portWakeSignals_notAside : ∀ p < 4, Obj.portWakeSignals p ∉ asideObjs := by decide

/-- A port that may wake the host and whose link is down has been woken, its signal counted. -/
structure Woken (p : Nat) (d e : Device) : Prop where
  status : (port p e).pmeStatus = true
  wake : (port p e).wakeMs = some (nowMs d)
  count : getObj (Obj.portWakeSignals p) e = (getObj (Obj.portWakeSignals p) d + 1) % objModulus (Obj.portWakeSignals p)

/-- What a wake event reads and writes of a port is as before. -/
structure WakeSame (p : Nat) (d e : Device) : Prop where
  status : (port p e).pmeStatus = (port p d).pmeStatus
  wake : (port p e).wakeMs = (port p d).wakeMs
  pme : (port p e).pmeEn = (port p d).pmeEn
  link : (port p e).linkUp = (port p d).linkUp

theorem WakeSame.trans {a b c : Device} (h : WakeSame p a b) (g : WakeSame p b c) : WakeSame p a c :=
  ⟨g.status.trans h.status, g.wake.trans h.wake, g.pme.trans h.pme, g.link.trans h.link⟩

theorem Aside.wakeSame (h : Aside d e) (p : Nat) : WakeSame p d e := by
  constructor <;> rw [h.port p]

/-- A wake event has been raised on the ports `ps`. -/
structure WakesRaised (ps : List Nat) (d e : Device) : Prop where
  woken : ∀ p ∈ ps, (port p d).pmeEn = true → (port p d).linkUp = false → Woken p d e
  same : ∀ p, p ∉ ps ∨ (port p d).pmeEn = false → WakeSame p d e
  objs : OnlyObjs (ps.map Obj.portWakeSignals ++ asideObjs) d e
  parts : Aside (portsOf e d) e

theorem WakesRaised.refl (d : Device) : WakesRaised [] d d :=
  ⟨fun _ hp => absurd hp (by simp), fun _ _ => ⟨rfl, rfl, rfl, rfl⟩, fun _ _ => rfl, .refl d⟩

theorem WakesRaised.nowMs (h : WakesRaised ps d e) : nowMs e = Machine.nowMs d := by
  have hctl : e.ctl = d.ctl := h.parts.ctl
  unfold Machine.nowMs
  rw [hctl]

/-- The device between a wake event's record and its mark on the port. -/
def wakeRecorded (event p : Nat) (d : Device) : Device :=
  logRec Code.pcieWakeSignalled [p, event] (incObj (Obj.portWakeSignals p) d)

theorem wakeRecorded_parts (event p : Nat) (d : Device) : Aside (portsOf (wakeRecorded event p d) d) (wakeRecorded event p d) :=
  (logRec_aside _ _ (incObj (Obj.portWakeSignals p) d)).with_ports _

theorem wakeRecorded_same (event p q : Nat) (d : Device) : WakeSame q d (wakeRecorded event p d) :=
  WakeSame.trans (b := incObj (Obj.portWakeSignals p) d) ⟨rfl, rfl, rfl, rfl⟩ ((logRec_aside _ _ (incObj (Obj.portWakeSignals p) d)).wakeSame q)

/-- A wake event on one port. -/
theorem signalWake_raised (event : Nat) (hp : p < 4) (hmode : d.ctl.mode ∉ [Mode.m0, .m11]) : WakesRaised [p] d (signalWake event p d) := by
  obtain ⟨hm0, hm11⟩ : d.ctl.mode ≠ .m0 ∧ d.ctl.mode ≠ .m11 := by simpa using hmode
  unfold signalWake
  dsimp only
  by_cases hpme : (port p d).pmeEn = true
  swap
  · rw [if_neg (by simp [hpme])]
    exact ⟨fun q hq h => absurd (List.mem_singleton.mp hq ▸ h) hpme, fun _ _ => ⟨rfl, rfl, rfl, rfl⟩, fun _ _ => rfl, .refl d⟩
  rw [if_pos (by simp [hpme, hm0, hm11])]
  by_cases hasleep : getObj (Obj.portPowerState p) d = 0x03 ∨ (port p d).linkUp = false
  swap
  · rw [if_neg (by simpa using hasleep)]
    rw [not_or] at hasleep
    exact ⟨fun q hq _ h => absurd (List.mem_singleton.mp hq ▸ h) hasleep.2, fun _ _ => ⟨rfl, rfl, rfl, rfl⟩, fun _ _ => rfl, .refl d⟩
  rw [if_pos (by simpa using hasleep)]
  have hnow : nowMs (wakeRecorded event p d) = nowMs d := nowMs_logRec _ _ _
  constructor
  case woken =>
    rintro q hq - hlink
    cases List.mem_singleton.mp hq
    refine ⟨?_, ?_, ?_⟩
    · rw [port_updPort_self]
    · rw [port_updPort_self]
      have hdown : (port p (wakeRecorded event p d)).linkUp = false := (wakeRecorded_same event p p d).link.trans hlink
      exact (if_neg fun hup => Bool.false_ne_true (hdown.symm.trans hup)).trans (congrArg some hnow)
    · exact ((logRec_aside _ _ _).objs _ (portWakeSignals_notAside p hp)).trans (getObj_incObj_self _ _)
  case same =>
    rintro q (hq | hq)
    · have hne : q ≠ p := by simpa using hq
      refine (wakeRecorded_same event p q d).trans ?_
      constructor <;> rw [port_updPort_ne hne] <;> rfl
    · by_cases hqp : q = p
      · exact absurd (hqp ▸ hq) (by simp [hpme])
      · refine (wakeRecorded_same event p q d).trans ?_
        constructor <;> rw [port_updPort_ne hqp] <;> rfl
  case objs =>
    intro k hk
    simp only [List.map_cons, List.map_nil, List.cons_append, List.nil_append, List.mem_cons, not_or] at hk
    exact ((logRec_aside _ _ _).objs k hk.2).trans (getObj_incObj_ne hk.1 d)
  case parts => exact (wakeRecorded_parts event p d).with_ports _

theorem WakesRaised.snoc {ps : List Nat} {f : Device} (h : WakesRaised ps d e) (g : WakesRaised [p] e f) (hp : p ∉ ps) (hlt : p < 4)
    (hps : ∀ q ∈ ps, q < 4) : WakesRaised (ps ++ [p]) d f := by
  have hnow : Machine.nowMs e = Machine.nowMs d := h.nowMs
  have same_of_ne : ∀ q, q ≠ p → WakeSame q e f := fun q hq => g.same q (.inl (by simpa using hq))
  have count_key : ∀ q < 4, q ∉ ps → Obj.portWakeSignals q ∉ ps.map Obj.portWakeSignals ++ asideObjs := by
    intro q hq hqs hmem
    rcases List.mem_append.mp hmem with hmap | hside
    · obtain ⟨r, hr, heq⟩ := List.mem_map.mp hmap
      exact hqs (portWakeSignals_inj heq ▸ hr)
    · exact portWakeSignals_notAside q hq hside
  constructor
  case woken =>
    intro q hq hpme hlink
    rcases List.mem_append.mp hq with hq | hq
    · have hne : q ≠ p := fun heq => hp (heq ▸ hq)
      have hw := h.woken q hq hpme hlink
      have hs := same_of_ne q hne
      refine ⟨hs.status.trans hw.status, hs.wake.trans hw.wake, (g.objs _ ?_).trans hw.count⟩
      intro hmem
      rcases List.mem_append.mp hmem with hmap | hside
      · exact hne (portWakeSignals_inj (by simpa using hmap))
      · exact portWakeSignals_notAside q (hps q hq) hside
    · cases List.mem_singleton.mp hq
      have hs := h.same p (.inl hp)
      have hw := g.woken p (by simp) (hs.pme.trans hpme) (hs.link.trans hlink)
      exact ⟨hw.status, hw.wake.trans (congrArg some hnow), by rw [hw.count, h.objs _ (count_key p hlt hp)]⟩
  case same =>
    rintro q (hq | hq)
    · rw [List.mem_append, not_or] at hq
      exact (h.same q (.inl hq.1)).trans (g.same q (.inl hq.2))
    · have hs := h.same q (.inr hq)
      exact hs.trans (g.same q (.inr (hs.pme.trans hq)))
  case objs =>
    intro k hk
    simp only [List.map_append, List.map_cons, List.map_nil, List.mem_append, List.mem_singleton, not_or] at hk
    exact (g.objs k (by simp [hk.1.2, hk.2])).trans (h.objs k (by simp [hk.1.1, hk.2]))
  case parts => exact (h.parts.with_ports f).trans g.parts

theorem signalWakes_raised (event : Nat) (hmode : d.ctl.mode ∉ [Mode.m0, .m11]) : ∀ k ≤ 4,
    WakesRaised (List.range k) d ((List.range k).foldl (fun d p => signalWake event p d) d)
  | 0, _ => .refl d
  | k + 1, hk => by
    have ih := signalWakes_raised event hmode k (by omega)
    rw [List.range_succ, List.foldl_append]
    have hctl : ((List.range k).foldl (fun d p => signalWake event p d) d).ctl = d.ctl := ih.parts.ctl
    exact ih.snoc (signalWake_raised event (by omega) (by rw [hctl]; exact hmode)) (by simp) (by omega)
      (fun q hq => by have := List.mem_range.mp hq; omega)

theorem signalWakeAll_raised (event : Nat) (hmode : d.ctl.mode ∉ [Mode.m0, .m11]) :
    WakesRaised (List.range 4) d (signalWakeAll event d) :=
  signalWakes_raised event hmode 4 le_rfl

end Sys2Proof.Machine
end

section
/-! PROOFS. Tracking runs (spec/04 R107 to R113) and scrubs (spec/09 R282). -/
-- The proofs are elaborated one after another: see the first file of these proofs.
set_option Elab.async false

namespace Sys2Proof.Machine

variable {b n : Nat} {d e : Device} {first : WordlineReads} {again : List Nat}

/-! ### Offsets of a die -/

/-- A die after its offsets have been loaded or its level classes moved. -/
def OffsetsOnly (x y : DieState) : Prop :=
  y = { x with loaded := y.loaded, classes := y.classes, trackingLimitHours := y.trackingLimitHours }

theorem OffsetsOnly.refl (x : DieState) : OffsetsOnly x x := rfl

theorem OffsetsOnly.trans {x y z : DieState} (h : OffsetsOnly x y) (g : OffsetsOnly y z) : OffsetsOnly x z := by
  unfold OffsetsOnly at *
  rw [h] at g
  exact g

/-- Offsets have been loaded and level classes moved, and a limit that was met recorded. -/
structure OffsetsMoved (d e : Device) : Prop where
  medium : e.media = { d.media with dies := e.media.dies }
  dies : ∀ k, OffsetsOnly (die k d) (die k e)
  objs : OnlyObjs asideObjs d e
  parts : MediaAside d e

theorem OffsetsMoved.refl (d : Device) : OffsetsMoved d d := ⟨rfl, fun _ => rfl, fun _ _ => rfl, .refl d⟩

theorem OffsetsMoved.trans {a b c : Device} (h : OffsetsMoved a b) (g : OffsetsMoved b c) : OffsetsMoved a c where
  medium := g.medium.trans (congrArg (fun m : Media => { m with dies := c.media.dies }) h.medium)
  dies k := (h.dies k).trans (g.dies k)
  objs k hk := (g.objs k hk).trans (h.objs k hk)
  parts := h.parts.trans g.parts

theorem OffsetsMoved.ite {p : Prop} [Decidable p] {x y : Device} (hx : OffsetsMoved d x) (hy : OffsetsMoved d y) :
    OffsetsMoved d (if p then x else y) := by
  split
  · exact hx
  · exact hy

theorem OffsetsMoved.ages (h : OffsetsMoved d e) (k : Nat) : (die k e).ageBase = (die k d).ageBase ∧ (die k e).gaugeAge = (die k d).gaugeAge := by
  rw [h.dies k]
  exact ⟨rfl, rfl⟩

theorem updDie_moved {f : DieState → DieState} (hf : ∀ x, OffsetsOnly x (f x)) (n : Nat) (d : Device) : OffsetsMoved d (updDie n f d) where
  medium := rfl
  dies k := by
    rw [die_updDie]
    split
    · rename_i h
      subst h
      exact hf _
    · rfl
  objs _ _ := rfl
  parts := .of_eq rfl

theorem logRec_moved (code : Nat) (snaps : List Nat) (d : Device) : OffsetsMoved d (logRec code snaps d) where
  medium := by rw [(logRec_aside code snaps d).media]
  dies k := by
    rw [die_congr (by rw [(logRec_aside code snaps d).media])]
    rfl
  objs := (logRec_aside code snaps d).objs
  parts := (logRec_aside code snaps d).mediaAside

theorem loadOffsets_moved (b : Nat) (shift : Int) (d : Device) : OffsetsMoved d (loadOffsets b shift d) :=
  updDie_moved (f := fun x => { x with loaded := (blockVector b d).map (· + shift) }) (fun _ => rfl) _ _

theorem limitOffsets_moved (n : Nat) (raw : List Int) (d : Device) : OffsetsMoved d (limitOffsets n raw d).2 := by
  unfold limitOffsets
  dsimp only
  split
  · exact .refl d
  · rw [apply_ite Prod.snd]
    exact .ite ((updDie_moved (f := fun x => { x with trackingLimitHours := some (hours d) }) (fun _ => rfl) n d).trans (logRec_moved _ _ _))
      (.refl d)

theorem classUpdate_offsets (v : List Int) (x : DieState) : OffsetsOnly x (classUpdate v x).1 := by
  unfold classUpdate
  dsimp only
  split <;> rfl

/-! ### A tracking run -/

/-- A tracking run has been made on block `b` (R113). -/
structure BlockTracked (b : Nat) (d e : Device) : Prop where
  medium : e.media = { d.media with dies := e.media.dies, blocks := e.media.blocks }
  dies : ∀ k, OffsetsOnly (die k d) (die k e)
  block : smGet {} e.media.blocks b = { smGet {} d.media.blocks b with cls := (smGet {} e.media.blocks b).cls }
  objs : OnlyObjs (Obj.trackingRuns :: asideObjs) d e
  count : getObj Obj.trackingRuns e = (getObj Obj.trackingRuns d + 1) % objModulus Obj.trackingRuns
  parts : MediaAside d e

theorem BlockTracked.after {c : Device} (h : BlockTracked b d e) (g : OffsetsMoved c d) : BlockTracked b c e where
  medium := h.medium.trans (congrArg (fun m : Media => { m with dies := e.media.dies, blocks := e.media.blocks }) g.medium)
  dies k := (g.dies k).trans (h.dies k)
  block := h.block.trans (by rw [g.medium])
  objs k hk := (h.objs k hk).trans (g.objs k fun hmem => hk (List.mem_cons_of_mem _ hmem))
  count := h.count.trans (by rw [g.objs _ (by decide)])
  parts := g.parts.trans h.parts

theorem BlockTracked.before {c : Device} (h : BlockTracked b d e) (g : OffsetsMoved e c) : BlockTracked b d c where
  medium := by
    have hblocks : c.media.blocks = e.media.blocks := by rw [g.medium]
    refine g.medium.trans ?_
    rw [hblocks]
    exact congrArg (fun m : Media => { m with dies := c.media.dies }) h.medium
  dies k := (h.dies k).trans (g.dies k)
  block := by
    rw [show c.media.blocks = e.media.blocks by rw [g.medium]]
    exact h.block
  objs k hk := (g.objs k fun hmem => hk (List.mem_cons_of_mem _ hmem)).trans (h.objs k hk)
  count := (g.objs _ (by decide)).trans h.count
  parts := h.parts.trans g.parts

/-- The block takes its class, and the run is counted. -/
theorem classTaken_tracked (b cls : Nat) (d : Device) :
    BlockTracked b d (incObj Obj.trackingRuns (updBlock b (fun e => { e with cls := cls }) d)) where
  medium := rfl
  dies _ := rfl
  block := by
    have h : smGet {} (updBlock b (fun e => { e with cls := cls }) d).media.blocks b = { smGet {} d.media.blocks b with cls := cls } := by
      simp [updBlock]
    exact h.trans (by rw [show (incObj Obj.trackingRuns (updBlock b (fun e => { e with cls := cls }) d)).media.blocks
      = (updBlock b (fun e => { e with cls := cls }) d).media.blocks from rfl, h])
  objs k hk := getObj_incObj_ne (List.ne_of_not_mem_cons hk) _
  count := getObj_incObj_self _ _
  parts := .of_eq rfl

theorem trackingRun_tracked (b : Nat) (r : WordlineReads) (d : Device) : BlockTracked b d (trackingRun b r d) := by
  unfold trackingRun
  dsimp only
  generalize List.zipWith _ _ _ = raw
  refine (classTaken_tracked b _ _).after ?_
  refine ((loadOffsets_moved b 7 d).trans (limitOffsets_moved (dieOfBlock b) raw _)).trans ?_
  generalize limitOffsets (dieOfBlock b) raw (loadOffsets b 7 d) = x
  refine ⟨rfl, fun k => ?_, fun _ _ => rfl, .of_eq rfl⟩
  rw [die_updDie]
  split
  · rename_i h
    subst h
    exact classUpdate_offsets _ _
  · rfl

/-! ### A scrub -/

theorem block_stripe (b : Nat) (d : Device) : (block b d).stripe = (smGet {} d.media.blocks b).stripe := by
  unfold block
  dsimp only
  split
  · rfl
  split
  · rfl
  split <;> rfl

theorem block_step (b : Nat) (d : Device) : (block b d).step = (smGet {} d.media.blocks b).step := by
  unfold block
  dsimp only
  split
  · rfl
  split
  · rfl
  split <;> rfl

theorem block_scrubInterval (b : Nat) (d : Device) : (block b d).scrubInterval = (smGet {} d.media.blocks b).scrubInterval := by
  unfold block
  dsimp only
  split
  · rfl
  split
  · rfl
  split <;> rfl

theorem hardRef_pos (s : Nat) : 0 < hardRef s := by
  unfold hardRef
  by_cases hs : s < 8
  · revert s
    decide
  · rw [List.getElem?_eq_none (by simpa using hs)]
    decide

/-- The device as the scrub of block `b` reads it: its offsets loaded and tracked. -/
def scrubTracked (b : Nat) (first : WordlineReads) (d : Device) : Device := loadOffsets b 0 (trackingRun b first (loadOffsets b 0 d))

theorem scrubTracked_tracked (b : Nat) (first : WordlineReads) (d : Device) : BlockTracked b d (scrubTracked b first d) :=
  ((trackingRun_tracked b first _).after (loadOffsets_moved b 0 d)).before (loadOffsets_moved b 0 _)

/-- The hard decodes of a scrub are counted. -/
def scrubCounted (failures : Nat) (d : Device) : Device := addObj Obj.hardDecodes 10 (addObj Obj.hardFailures failures d)

theorem scrubCounted_obj {k : Nat} (hk : k ∉ [Obj.hardDecodes, Obj.hardFailures]) (f : Nat) (d : Device) :
    getObj k (scrubCounted f d) = getObj k d := by
  rw [List.mem_cons, List.mem_singleton, not_or] at hk
  exact (getObj_setObj_ne hk.1 _ _).trans (getObj_setObj_ne hk.2 _ _)

/-- A block's entry with the result of a scrub. -/
def resultNoted (ratio interval due : Nat) (e : Block) : Block :=
  { e with sample := (e.sample + 1) % 4, lastRatio := ratio, scrubInterval := interval, overdue := false, scrubDue := due }

/-- A scrub has its result (R282, step 5). -/
def scrubNoted (b ratio interval : Nat) (d : Device) : Device :=
  incObj Obj.scrubsRun (resumeOp (dieOfBlock b) (updBlock b (resultNoted ratio interval (thermalAge (dieOfBlock b) d + interval)) d))

/-- A stripe is queued for refresh (R283). -/
def refreshQueued (n : Nat) (d : Device) : Device :=
  incObj Obj.refreshesQueued (queueStripe 1 n
    ((dataBlocks n d).foldl (fun d b => updBlock b (fun e => { e with refreshQ := true, refreshDue := true }) d) d))

/-- What a scrub of `b` with this result leaves: `high` where the block's stripe is queued. -/
def scrubLeft (b : Nat) (first : WordlineReads) (failures ratio interval : Nat) (high : Bool) (d : Device) : Device :=
  let x := scrubTracked b first d
  let y := scrubNoted b ratio interval (scrubCounted failures x)
  if high then refreshQueued (block b x).stripe y else y

/-- How a scrub acts on its result: a block that failed stays at its interval and is queued, one that read clean doubles it. -/
structure ScrubRule (failed : Bool) (worst old max : Nat) (ratio interval : Nat) (high : Bool) : Prop where
  onFailure : failed = true → ratio = 100 ∧ interval = old ∧ high = true
  onClean : failed = false → worst = 0 → ratio = 0 ∧ interval = min (2 * old) max ∧ high = false

theorem scrubBlock_leaves (hmode : bolterMode d = true) (hdue : scrubIsDue b d = true) (hfirst : scrubFirst b d = true)
    (hfree : dieFree (dieOfBlock b) d = true)
    (hfits : chargeFits (bankOfDie (dieOfBlock b)) (opTokens (profileOf (dieOfBlock b) d) 1) d = true) (hratio : 0 < getObj Obj.refreshRatio d) :
    ∃ failures ratio interval high, scrubBlock b first again d = scrubLeft b first failures ratio interval high d ∧
      ScrubRule (scrubResult (block b d).step again).1 (scrubResult (block b d).step again).2 (smGet {} d.media.blocks b).scrubInterval
        (getObj Obj.scrubIntervalMax d) ratio interval high := by
  have htrack := scrubTracked_tracked b first d
  have hstep : (block b (scrubTracked b first d)).step = (block b d).step := by rw [block_step, block_step, htrack.block]
  have hint : (block b (scrubTracked b first d)).scrubInterval = (smGet {} d.media.blocks b).scrubInterval := by
    rw [block_scrubInterval, htrack.block]
  have hlimit : ∀ f, getObj Obj.refreshRatio (scrubCounted f (scrubTracked b first d)) = getObj Obj.refreshRatio d := fun f =>
    (scrubCounted_obj (by decide) f _).trans (htrack.objs _ (by decide))
  have hmax : ∀ f, getObj Obj.scrubIntervalMax (scrubCounted f (scrubTracked b first d)) = getObj Obj.scrubIntervalMax d := fun f =>
    (scrubCounted_obj (by decide) f _).trans (htrack.objs _ (by decide))
  unfold scrubCounted scrubTracked at hlimit hmax
  unfold scrubTracked at hstep hint
  unfold scrubBlock whileCharged
  dsimp only
  rw [if_neg (by simp [hmode, hdue, hfirst, hfree]), if_pos hfits]
  rcases hres : scrubResult (block b d).step again with ⟨failed, worst⟩
  refine ⟨_, _, _, _, rfl, ?_⟩
  simp only [hstep, hint, hres, hlimit, hmax]
  have hpos : 0 < getObj Obj.refreshRatio d * hardRef (block b d).step := Nat.mul_pos hratio (hardRef_pos _)
  constructor
  case onFailure =>
    rintro rfl
    simp
  case onClean =>
    rintro rfl rfl
    have hlow : ¬ getObj Obj.refreshRatio d * hardRef (block b d).step ≤ 0 := by omega
    simp [hlow]

/-! ### What a scrub leaves -/

theorem MediaAside.medium (h : MediaAside d e) : MediumOnly d e where
  ctl := h.ctl
  therm := h.therm
  holdup := h.holdup
  domains := by rw [h.domains]; rfl
  cpx := h.cpx
  res := rfl
  settings := h.settings
  sec := h.sec
  media := rfl
  held := h.held
  delayed := h.delayed
  damaged := h.damaged
  objs _ _ := rfl
  ledgers _ _ := rfl
  log := h.log
  can := h.can
  cs := h.cs
  sub := h.sub
  port := h.port

/-- A block's entry but for its marks of a refresh. -/
def MarksOnly (x y : Block) : Prop := y = { x with refreshQ := y.refreshQ, refreshDue := y.refreshDue }

theorem MarksOnly.trans {x y z : Block} (h : MarksOnly x y) (g : MarksOnly y z) : MarksOnly x z := by
  unfold MarksOnly at *
  rw [h] at g
  exact g

/-- Only blocks have changed, by marks of a refresh. -/
structure BlocksMarked (d e : Device) : Prop where
  parts : e = { d with media := { d.media with blocks := e.media.blocks } }
  block : ∀ k, MarksOnly (smGet {} d.media.blocks k) (smGet {} e.media.blocks k)

theorem BlocksMarked.refl (d : Device) : BlocksMarked d d := ⟨rfl, fun _ => rfl⟩

theorem BlocksMarked.trans {a b c : Device} (h : BlocksMarked a b) (g : BlocksMarked b c) : BlocksMarked a c where
  parts := g.parts.trans (congrArg (fun x : Device => { x with media := { x.media with blocks := c.media.blocks } }) h.parts)
  block k := (h.block k).trans (g.block k)

theorem refreshMark_marked (b : Nat) (d : Device) : BlocksMarked d (updBlock b (fun e => { e with refreshQ := true, refreshDue := true }) d) where
  parts := rfl
  block k := by
    unfold updBlock
    dsimp only
    rw [smGet_smUpd]
    split
    · rename_i h
      subst h
      rfl
    · rfl

theorem refreshMarks_marked (bs : List Nat) (d : Device) :
    BlocksMarked d (bs.foldl (fun d b => updBlock b (fun e => { e with refreshQ := true, refreshDue := true }) d) d) :=
  foldl_rel (R := BlocksMarked) .refl (fun h g => h.trans g) (fun d b => refreshMark_marked b d) bs d

/-- The stripe of a block is queued for refresh once. -/
structure RefreshQueued (n : Nat) (d e : Device) : Prop where
  parts : e = { d with objs := e.objs, media := { d.media with blocks := e.media.blocks, rc := e.media.rc } }
  block : ∀ k, MarksOnly (smGet {} d.media.blocks k) (smGet {} e.media.blocks k)
  queued : n ∈ e.media.rc.q1
  objs : OnlyObjs [Obj.refreshesQueued] d e
  count : getObj Obj.refreshesQueued e = (getObj Obj.refreshesQueued d + 1) % objModulus Obj.refreshesQueued

theorem refreshQueued_queued (n : Nat) (d : Device) : RefreshQueued n d (refreshQueued n d) := by
  have hmarks := refreshMarks_marked (dataBlocks n d) d
  have haged : AgedQueued d (refreshQueued n d) :=
    ((markBlocks_queued _ _ d).trans (queueStripe_queued n _)).trans (countQueued_queued _)
  constructor
  case parts => exact haged.parts
  case block => exact hmarks.block
  case queued =>
    unfold refreshQueued
    generalize List.foldl _ d (dataBlocks n d) = x
    change n ∈ if x.media.rc.q1.contains n then x.media.rc.q1 else x.media.rc.q1 ++ [n]
    split
    · rename_i hmem
      simpa using hmem
    · simp
  case objs => exact haged.objs
  case count =>
    refine (getObj_incObj_self _ _).trans (congrArg (fun v => (v + 1) % objModulus Obj.refreshesQueued) ?_)
    exact getObj_congr (by rw [queueStripe, hmarks.parts])

theorem scrubNoted_block (b ratio interval : Nat) (d : Device) : smGet {} (scrubNoted b ratio interval d).media.blocks b =
    resultNoted ratio interval (thermalAge (dieOfBlock b) d + interval) (smGet {} d.media.blocks b) := by
  have h : (scrubNoted b ratio interval d).media.blocks =
    smUpd {} b (resultNoted ratio interval (thermalAge (dieOfBlock b) d + interval)) d.media.blocks := rfl
  rw [h, smGet_smUpd, if_pos rfl]

theorem scrubNoted_obj {k : Nat} (hk : k ≠ Obj.scrubsRun) (b ratio interval : Nat) (d : Device) :
    getObj k (scrubNoted b ratio interval d) = getObj k d :=
  getObj_incObj_ne hk _

/-- The device after a scrub of block `b` at thermal age `age`. -/
structure Scrubbed (b age ratio interval : Nat) (d e : Device) : Prop where
  noted : (smGet {} e.media.blocks b).lastRatio = ratio
  spaced : (smGet {} e.media.blocks b).scrubInterval = interval
  overdue : (smGet {} e.media.blocks b).overdue = false
  due : (smGet {} e.media.blocks b).scrubDue = age + interval
  runs : getObj Obj.scrubsRun e = (getObj Obj.scrubsRun d + 1) % objModulus Obj.scrubsRun
  tracked : getObj Obj.trackingRuns e = (getObj Obj.trackingRuns d + 1) % objModulus Obj.trackingRuns
  map : e.media.map = d.media.map
  parts : MediaAside d e

theorem Scrubbed.queued {age ratio interval : Nat} {f : Device} (h : Scrubbed b age ratio interval d e) (g : RefreshQueued n e f) :
    Scrubbed b age ratio interval d f where
  noted := (by rw [g.block b] : (smGet {} f.media.blocks b).lastRatio = _).trans h.noted
  spaced := (by rw [g.block b] : (smGet {} f.media.blocks b).scrubInterval = _).trans h.spaced
  overdue := (by rw [g.block b] : (smGet {} f.media.blocks b).overdue = _).trans h.overdue
  due := (by rw [g.block b] : (smGet {} f.media.blocks b).scrubDue = _).trans h.due
  runs := (g.objs _ (by decide)).trans h.runs
  tracked := (g.objs _ (by decide)).trans h.tracked
  map := (by rw [g.parts] : f.media.map = e.media.map).trans h.map
  parts := h.parts.trans (.of_eq (by rw [g.parts]))

theorem scrubNoted_scrubbed (b failures ratio interval : Nat) (h : BlockTracked b d e) :
    Scrubbed b (thermalAge (dieOfBlock b) d) ratio interval d (scrubNoted b ratio interval (scrubCounted failures e)) := by
  have hblock := scrubNoted_block b ratio interval (scrubCounted failures e)
  have hage : thermalAge (dieOfBlock b) (scrubCounted failures e) = thermalAge (dieOfBlock b) d := by
    obtain ⟨hbase, hgauge⟩ : (die (dieOfBlock b) e).ageBase = _ ∧ (die (dieOfBlock b) e).gaugeAge = _ := by
      rw [h.dies (dieOfBlock b)]
      exact ⟨rfl, rfl⟩
    exact congrArg₂ (· + ·) hbase hgauge
  constructor
  case noted => exact congrArg Block.lastRatio hblock
  case spaced => exact congrArg Block.scrubInterval hblock
  case overdue => exact congrArg Block.overdue hblock
  case due => exact (congrArg Block.scrubDue hblock).trans (congrArg (· + interval) hage)
  case runs =>
    refine (getObj_incObj_self _ _).trans ?_
    exact congrArg (fun v => (v + 1) % objModulus Obj.scrubsRun) ((scrubCounted_obj (by decide) failures e).trans (h.objs _ (by decide)))
  case tracked =>
    exact (scrubNoted_obj (by decide) ..).trans ((scrubCounted_obj (by decide) failures e).trans h.count)
  case map => exact (by rw [h.medium] : e.media.map = d.media.map)
  case parts => exact h.parts.trans (.of_eq rfl)

theorem scrubLeft_scrubbed (b : Nat) (first : WordlineReads) (failures ratio interval : Nat) (high : Bool) (d : Device) :
    Scrubbed b (thermalAge (dieOfBlock b) d) ratio interval d (scrubLeft b first failures ratio interval high d) := by
  unfold scrubLeft
  have h := scrubNoted_scrubbed b failures ratio interval (scrubTracked_tracked b first d)
  cases high with
  | false => exact h
  | true => exact h.queued (refreshQueued_queued _ _)

theorem scrubLeft_high (b : Nat) (first : WordlineReads) (failures ratio interval : Nat) (d : Device) :
    (block b d).stripe ∈ (scrubLeft b first failures ratio interval true d).media.rc.q1 ∧
    getObj Obj.refreshesQueued (scrubLeft b first failures ratio interval true d) =
      (getObj Obj.refreshesQueued d + 1) % objModulus Obj.refreshesQueued := by
  have h := scrubTracked_tracked b first d
  have hstripe : (block b (scrubTracked b first d)).stripe = (block b d).stripe := by rw [block_stripe, block_stripe, h.block]
  unfold scrubLeft
  dsimp only
  rw [if_pos rfl, hstripe]
  have hqueue := refreshQueued_queued (block b d).stripe (scrubNoted b ratio interval (scrubCounted failures (scrubTracked b first d)))
  refine ⟨hqueue.queued, hqueue.count.trans ?_⟩
  refine congrArg (fun v => (v + 1) % objModulus Obj.refreshesQueued) ?_
  exact (scrubNoted_obj (by decide) ..).trans ((scrubCounted_obj (by decide) failures _).trans (h.objs _ (by decide)))

theorem scrubLeft_low (b : Nat) (first : WordlineReads) (failures ratio interval : Nat) (d : Device) :
    (scrubLeft b first failures ratio interval false d).media.rc = d.media.rc :=
  (by rw [(scrubTracked_tracked b first d).medium] : (scrubTracked b first d).media.rc = d.media.rc)

end Sys2Proof.Machine
end

section
/-! PROOFS. The refresh of a die's weir marks (spec/09 R277). -/
-- The proofs are elaborated one after another: see the first file of these proofs.
set_option Elab.async false

namespace Sys2Proof.Machine

variable {b n : Nat} {d e : Device} {runs : List (List WordlineReads)} {erase program : List Nat}

/-! ### Steps of a refresh -/

/-- The gauge blocks that fail are retired and given up; nothing else of the medium changes but what a structure written anew changes. -/
structure GaugeTouched (n : Nat) (d e : Device) : Prop where
  medium : e.media = { d.media with
    dies := e.media.dies, blocks := e.media.blocks, stripes := e.media.stripes, sb := e.media.sb, sbDue := e.media.sbDue }
  others : ∀ k, k ≠ n → die k e = die k d
  own : die n e = { die n d with gaugeMoved := (die n e).gaugeMoved, gauge := (die n e).gauge }
  sampled : ∀ b, (smGet {} e.media.blocks b).sampled = (smGet {} d.media.blocks b).sampled
  retired : ∀ b, (smGet {} d.media.blocks b).state = 5 → (smGet {} e.media.blocks b).state = 5
  objs : OnlyObjs ([Obj.blocksRetired, Obj.eraseFailCount, Obj.programFailCount] ++ asideObjs) d e
  parts : MediaAside d e

theorem GaugeTouched.refl (n : Nat) (d : Device) : GaugeTouched n d d :=
  ⟨rfl, fun _ _ => rfl, rfl, fun _ => rfl, fun _ h => h, fun _ _ => rfl, .refl d⟩

theorem GaugeTouched.trans {a b c : Device} (h : GaugeTouched n a b) (g : GaugeTouched n b c) : GaugeTouched n a c where
  medium := g.medium.trans (congrArg (fun m : Media => { m with
    dies := c.media.dies, blocks := c.media.blocks, stripes := c.media.stripes, sb := c.media.sb, sbDue := c.media.sbDue }) h.medium)
  others k hk := (g.others k hk).trans (h.others k hk)
  own := g.own.trans (congrArg (fun x : DieState => { x with gaugeMoved := (die n c).gaugeMoved, gauge := (die n c).gauge }) h.own)
  sampled k := (g.sampled k).trans (h.sampled k)
  retired k hk := g.retired k (h.retired k hk)
  objs k hk := (g.objs k hk).trans (h.objs k hk)
  parts := h.parts.trans g.parts

theorem logRec_touched (n code : Nat) (snaps : List Nat) (d : Device) : GaugeTouched n d (logRec code snaps d) := by
  have h := logRec_aside code snaps d
  refine ⟨by rw [h.media], fun k _ => die_congr (by rw [h.media]), ?_, fun k => by rw [h.media], fun k hk => by rw [h.media]; exact hk,
    fun k hk => h.objs k fun hmem => hk (List.mem_append_right _ hmem), h.mediaAside⟩
  rw [die_congr (d := d) (by rw [h.media])]

/-- A structure written anew moves the next frame of one block. -/
theorem systemRun_blocks (frames : Nat) (apart : Option Nat) (d : Device) (k : Nat) :
    smGet {} (systemRun frames apart d).2.media.blocks k =
      { smGet {} d.media.blocks k with next := (smGet {} (systemRun frames apart d).2.media.blocks k).next } := by
  unfold systemRun
  dsimp only
  split
  · rfl
  · rename_i b _
    have h : smGet {} (smUpd {} b (fun e : Block => { e with next := e.next + frames }) d.media.blocks) k = if k = b then
        { smGet {} d.media.blocks b with next := (smGet {} d.media.blocks b).next + frames } else smGet {} d.media.blocks k := smGet_smUpd ..
    have hrow : ∀ p : Placement, (holdRows p (updBlock b (fun e => { e with next := e.next + frames }) d)).media.blocks =
      smUpd {} b (fun e : Block => { e with next := e.next + frames }) d.media.blocks := fun _ => rfl
    dsimp only
    rw [hrow, h]
    split
    · rename_i hk
      rw [hk]
    · rfl

theorem moveRoot_blocks (f : Nat → Roots → Roots) (d : Device) (k : Nat) : smGet {} (moveRoot f d).media.blocks k =
    { smGet {} d.media.blocks k with next := (smGet {} (moveRoot f d).media.blocks k).next } :=
  systemRun_blocks 1 none d k

theorem moveRoot_state (f : Nat → Roots → Roots) (d : Device) (k : Nat) :
    (smGet {} (moveRoot f d).media.blocks k).state = (smGet {} d.media.blocks k).state := by
  rw [moveRoot_blocks f d k]

theorem moveRoot_touched (n : Nat) (f : Nat → Roots → Roots) (d : Device) : GaugeTouched n d (moveRoot f d) := by
  have h := moveRoot_taken f d
  have hblocks := moveRoot_blocks f d
  have hdies : (moveRoot f d).media.dies = d.media.dies := by rw [h]
  refine ⟨by rw [h], fun k _ => die_congr hdies, ?_, fun k => by rw [hblocks k], fun k hk => by rw [hblocks k]; exact hk,
    fun k _ => getObj_congr (by rw [h]), h.mediaAside⟩
  rw [die_congr (d := d) hdies]

theorem updBlock_touched {f : Block → Block} (hsampled : ∀ x, (f x).sampled = x.sampled) (hretired : ∀ x, x.state = 5 → (f x).state = 5)
    (n b : Nat) (d : Device) : GaugeTouched n d (updBlock b f d) := by
  have h : ∀ k, smGet {} (updBlock b f d).media.blocks k = if k = b then f (smGet {} d.media.blocks b) else smGet {} d.media.blocks k :=
    fun k => smGet_smUpd ..
  refine ⟨rfl, fun _ _ => rfl, rfl, fun k => ?_, fun k hk => ?_, fun _ _ => rfl, .of_eq rfl⟩
  · rw [h]
    split
    · rename_i heq
      rw [hsampled, heq]
    · rfl
  · rw [h]
    split
    · rename_i heq
      exact hretired _ (heq ▸ hk)
    · exact hk

theorem countObj_touched {k : Nat} (hk : k ∈ [Obj.blocksRetired, Obj.eraseFailCount, Obj.programFailCount]) (n : Nat) (d : Device) :
    GaugeTouched n d (incObj k d) :=
  ⟨rfl, fun _ _ => rfl, rfl, fun _ => rfl, fun _ h => h,
    fun _ hj => getObj_incObj_ne (fun heq => hj (List.mem_append_left _ (by rw [heq]; exact hk))) d, .of_eq rfl⟩

/-- A block's entry once it has been retired with a cause. -/
def retiredFor (cause : Nat) (e : Block) : Block := { e with state := 5, retireCause := cause }

/-- A block is retired and counted. -/
def gaugeBlockRetired (cause b : Nat) (d : Device) : Device := incObj Obj.blocksRetired (updBlock b (retiredFor cause) d)

theorem gaugeBlockRetired_touched (n cause b : Nat) (d : Device) : GaugeTouched n d (gaugeBlockRetired cause b d) :=
  (updBlock_touched (f := retiredFor cause) (fun _ => rfl) (fun _ _ => rfl) n b d).trans (countObj_touched (by simp) n _)

theorem gaugeBlockRetired_retires (cause b : Nat) (d : Device) : (smGet {} (gaugeBlockRetired cause b d).media.blocks b).state = 5 := by
  have h : (gaugeBlockRetired cause b d).media.blocks = smUpd {} b (retiredFor cause) d.media.blocks := rfl
  rw [h, smGet_smUpd, if_pos rfl]
  rfl

theorem gaugeBlockFails_erase (b : Nat) (d : Device) : gaugeBlockFails true b d =
    logRec Code.eraseFail [b, 0, 0x03] (incObj Obj.eraseFailCount (gaugeBlockRetired 2 b d)) := by
  unfold gaugeBlockFails gaugeBlockRetired
  dsimp only
  rw [if_pos rfl, if_pos rfl]
  rfl

theorem gaugeBlockFails_program (b : Nat) (d : Device) : gaugeBlockFails false b d =
    logRec Code.programFail [b, 0, 0x01] (incObj Obj.programFailCount (gaugeBlockRetired 1 b d)) := by
  unfold gaugeBlockFails gaugeBlockRetired
  dsimp only
  rw [if_neg Bool.false_ne_true, if_neg Bool.false_ne_true]
  rfl

/-- A gauge block that fails is retired, and what follows leaves it so. -/
theorem gaugeBlockFails_retires (n b : Nat) (erases : Bool) (d : Device) :
    GaugeTouched n d (gaugeBlockFails erases b d) ∧ (smGet {} (gaugeBlockFails erases b d).media.blocks b).state = 5 := by
  cases erases with
  | true =>
    rw [gaugeBlockFails_erase]
    have h : GaugeTouched n (gaugeBlockRetired 2 b d) _ := (countObj_touched (k := Obj.eraseFailCount) (by simp) n _).trans (logRec_touched n Code.eraseFail [b, 0, 0x03] _)
    exact ⟨(gaugeBlockRetired_touched n 2 b d).trans h, h.retired b (gaugeBlockRetired_retires 2 b d)⟩
  | false =>
    rw [gaugeBlockFails_program]
    have h : GaugeTouched n (gaugeBlockRetired 1 b d) _ := (countObj_touched (k := Obj.programFailCount) (by simp) n _).trans (logRec_touched n Code.programFail [b, 0, 0x01] _)
    exact ⟨(gaugeBlockRetired_touched n 1 b d).trans h, h.retired b (gaugeBlockRetired_retires 1 b d)⟩

/-- A gauge block that is named anew. -/
theorem gaugeNamed_touched (n : Nat) (blocks : List Nat) (d : Device) :
    GaugeTouched n d (updDie n (fun x => { x with gaugeMoved := true, gauge := blocks }) d) := by
  refine ⟨rfl, fun k hk => by rw [die_updDie, if_neg hk], ?_, fun _ => rfl, fun _ h => h, fun _ _ => rfl, .of_eq rfl⟩
  rw [die_updDie_self]

theorem nameGauge_touched (n : Nat) (d : Device) : GaugeTouched n d (nameGauge n d) := by
  unfold nameGauge
  refine foldl_rel (R := GaugeTouched n) (.refl n) (fun h g => h.trans g) (fun d b => ?_) _ d
  split
  · exact .refl n d
  split
  · exact ((gaugeNamed_touched n _ d).trans (moveRoot_touched n _ _)).trans (logRec_touched ..)
  · exact .refl n d

theorem nameGauge_of_named (h : GaugeNamed n d) : nameGauge n d = d := by
  have step : ∀ bs : List Nat, (∀ b ∈ bs, (smGet {} d.media.blocks b).state ≠ 5) →
      bs.foldl (fun d b => if (smGet {} d.media.blocks b).state != 5 then d
        else match (List.range 60).find? fun i => (i + 4) % 4 = b % 4 && (block (n * 16384 + i + 4) d).state = 0 with
        | some i => logRec Code.gaugeBlockMoved [n, b % 4, i + 4] (moveRoot (fun p r => { r with gaugeTable := p })
            (updDie n (fun x => { x with gaugeMoved := true, gauge := (gaugeBlocks n d).map fun g => (if g = b then n * 16384 + i + 4 else g) % 16384 }) d))
        | none => d) d = d := by
    intro bs hbs
    induction bs with
    | nil => rfl
    | cons b bs ih =>
      rw [List.foldl_cons, if_pos (by simpa using hbs b (by simp))]
      exact ih fun x hx => hbs x (List.mem_cons_of_mem _ hx)
  exact step _ h

/-! ### The marks are erased -/

/-- A gauge block's entry once its marks have been erased. -/
def marksErased (e : Block) : Block :=
  { e with erases := min 524287 (e.erases + 1), freshLag := min 255 (e.freshLag + 1), halves := 0, sampled := [] }

/-- The marks of the blocks `bs` have been erased. -/
structure MarksErased (bs : List Nat) (d e : Device) : Prop where
  parts : e = { d with media := { d.media with blocks := e.media.blocks } }
  sampled : ∀ b ∈ bs, (smGet {} e.media.blocks b).sampled = []
  kept : ∀ b, (smGet {} d.media.blocks b).sampled = [] → (smGet {} e.media.blocks b).sampled = []
  state : ∀ b, (smGet {} e.media.blocks b).state = (smGet {} d.media.blocks b).state

theorem marksErased_fold (bs : List Nat) (d : Device) : MarksErased bs d (bs.foldl (fun d b => updBlock b marksErased d) d) := by
  induction bs generalizing d with
  | nil => exact ⟨rfl, fun _ h => absurd h (by simp), fun _ h => h, fun _ => rfl⟩
  | cons b bs ih =>
    have h : ∀ k, smGet {} (updBlock b marksErased d).media.blocks k =
      if k = b then marksErased (smGet {} d.media.blocks b) else smGet {} d.media.blocks k := fun k => smGet_smUpd ..
    have g := ih (updBlock b marksErased d)
    rw [List.foldl_cons]
    constructor
    case parts => exact g.parts
    case sampled =>
      intro x hx
      rcases List.mem_cons.mp hx with rfl | hx
      · exact g.kept x (by rw [h, if_pos rfl]; rfl)
      · exact g.sampled x hx
    case kept =>
      intro x hx
      refine g.kept x ?_
      rw [h]
      split
      · rfl
      · exact hx
    case state =>
      intro x
      rw [g.state, h]
      split
      · rename_i heq
        rw [heq]
        rfl
      · rfl

/-- One gauge block of a refresh, with the planes whose blocks fail in it. -/
def markFails (erase program : List Nat) (d : Device) (b : Nat) : Device :=
  if erase.contains (planeOfBlock b) then gaugeBlockFails true b d
  else if program.contains (planeOfBlock b) then gaugeBlockFails false b d else d

theorem markFails_touched (n : Nat) (erase program : List Nat) (d : Device) (b : Nat) : GaugeTouched n d (markFails erase program d b) := by
  unfold markFails
  split
  · exact (gaugeBlockFails_retires n b true d).1
  split
  · exact (gaugeBlockFails_retires n b false d).1
  · exact .refl n d

theorem markFails_retires (d : Device) (h : planeOfBlock b ∈ erase ++ program) :
    (smGet {} (markFails erase program d b).media.blocks b).state = 5 := by
  unfold markFails
  by_cases herase : planeOfBlock b ∈ erase
  · rw [if_pos (by simpa using herase)]
    exact (gaugeBlockFails_retires 0 b true d).2
  · rw [if_neg (by simpa using herase), if_pos (by simpa [herase] using h)]
    exact (gaugeBlockFails_retires 0 b false d).2

theorem markFails_fold (n : Nat) (erase program bs : List Nat) (d : Device) : GaugeTouched n d (bs.foldl (markFails erase program) d) :=
  foldl_rel (R := GaugeTouched n) (.refl n) (fun h g => h.trans g) (markFails_touched n erase program) bs d

theorem markFails_fold_retires {bs : List Nat} (hb : b ∈ bs) (h : planeOfBlock b ∈ erase ++ program) (d : Device) :
    (smGet {} (bs.foldl (markFails erase program) d).media.blocks b).state = 5 := by
  induction bs generalizing d with
  | nil => exact absurd hb (by simp)
  | cons x xs ih =>
    rw [List.foldl_cons]
    rcases List.mem_cons.mp hb with rfl | hb
    · exact (markFails_fold 0 erase program xs _).retired b (markFails_retires d h)
    · exact ih hb _

theorem markFails_none (bs : List Nat) (d : Device) : bs.foldl (markFails [] []) d = d := by
  induction bs generalizing d with
  | nil => rfl
  | cons x xs ih => exact ih _

/-! ### The refresh -/

/-- A die whose gauge age has been taken over into its AgeBase. -/
def ageTaken (age : Nat) (x : DieState) : DieState :=
  { x with ageBase := x.ageBase + age, gaugeAge := 0, gaugeState := 0, gaugeMoved := false, found := [] }

/-- The age that a refresh's scan finds. -/
def refreshAge (n : Nat) (runs : List (List WordlineReads)) (d : Device) : Nat :=
  gaugeAgeOf (die n d).refOffsets (gaugeVectors (die n d).refOffsets runs) (profileOf n d).readOffsetStepMv d

/-- The die scanned and its marks erased, its age taken over. -/
def ageRenewed (n : Nat) (runs : List (List WordlineReads)) (d : Device) : Device :=
  updDie n (ageTaken (refreshAge n runs d))
    ((gaugeBlocks n d).foldl (fun d b => updBlock b marksErased d) (updDie n (fun _ => scannedDie n runs false d) d))

/-- The refresh up to the failures of its blocks. -/
def gaugeRenewed (n : Nat) (runs : List (List WordlineReads)) (d : Device) : Device :=
  moveRoot (fun p r => { r with calendar := p }) (logRec Code.gaugeRefreshed [n, refreshAge n runs d] (ageRenewed n runs d))

theorem goodGauge_of_named (h : GaugeNamed n d) : goodGauge n d = gaugeBlocks n d :=
  List.filter_eq_self.mpr fun b hb => by simpa using h b hb

theorem refreshGauge_eq (hmode : d.ctl.mode ≠ .m4) (hserves : dieInService n d = true) (hgroup : (group n 1 d).used = false)
    (hop : (die n d).op.kind = 0) (hopen : bankInhibited (bankOfDie n) d = false) (hdue : refreshDueOf n d = true)
    (havail : gaugeUnavailable n d = false) (hnamed : GaugeNamed n d) (hfits : chargeFits (bankOfDie n)
      (max (opTokens (profileOf n d) 4) (opTokens (profileOf n d) 3)) d = true) :
    refreshGauge n runs erase program d = nameGauge n ((gaugeBlocks n d).foldl (markFails erase program) (gaugeRenewed n runs d)) := by
  have hscan := scanDie_of_running (runs := runs) hmode havail
  have hage : (die n (updDie n (fun _ => scannedDie n runs false d) d)).gaugeAge = refreshAge n runs d := by
    rw [die_updDie_self]
    rfl
  have hmarks : goodGauge n (updDie n (fun _ => scannedDie n runs false d) d) = gaugeBlocks n d := by
    have hkept : gaugeBlocks n (updDie n (fun _ => scannedDie n runs false d) d) = gaugeBlocks n d :=
      gaugeBlocks_congr (by rw [die_updDie_self]; rfl)
    have hstill : GaugeNamed n (updDie n (fun _ => scannedDie n runs false d) d) := fun g hg => hnamed g (by rwa [hkept] at hg)
    exact (goodGauge_of_named hstill).trans hkept
  unfold refreshGauge whileCharged
  rw [if_neg (by simp [hserves, hgroup, hop, hdue, hopen]), if_pos hfits]
  dsimp only
  rw [hscan, hage, hmarks]
  rfl

theorem ageRenewed_die (n : Nat) (runs : List (List WordlineReads)) (d : Device) :
    die n (ageRenewed n runs d) = ageTaken (refreshAge n runs d) (scannedDie n runs false d) := by
  have hmarks := marksErased_fold (gaugeBlocks n d) (updDie n (fun _ => scannedDie n runs false d) d)
  unfold ageRenewed
  rw [die_updDie_self, die_congr (d := updDie n (fun _ => scannedDie n runs false d) d) (by rw [hmarks.parts]), die_updDie_self]

theorem ageRenewed_others {k : Nat} (hk : k ≠ n) : die k (ageRenewed n runs d) = die k d := by
  have hmarks := marksErased_fold (gaugeBlocks n d) (updDie n (fun _ => scannedDie n runs false d) d)
  unfold ageRenewed
  rw [die_updDie, if_neg hk, die_congr (d := updDie n (fun _ => scannedDie n runs false d) d) (by rw [hmarks.parts]), die_updDie, if_neg hk]

/-- Nothing has changed but dies and blocks. -/
def DiesBlocksOnly (d e : Device) : Prop := e = { d with media := { d.media with dies := e.media.dies, blocks := e.media.blocks } }

theorem DiesBlocksOnly.trans {a b c : Device} (h : DiesBlocksOnly a b) (g : DiesBlocksOnly b c) : DiesBlocksOnly a c := by
  unfold DiesBlocksOnly at *
  rw [h] at g
  exact g

theorem updDie_diesBlocks (n : Nat) (f : DieState → DieState) (d : Device) : DiesBlocksOnly d (updDie n f d) := rfl

theorem MarksErased.diesBlocks {bs : List Nat} (h : MarksErased bs d e) : DiesBlocksOnly d e := by
  rw [h.parts]
  rfl

theorem ageRenewed_parts (n : Nat) (runs : List (List WordlineReads)) (d : Device) : DiesBlocksOnly d (ageRenewed n runs d) :=
  ((updDie_diesBlocks n _ d).trans (marksErased_fold (gaugeBlocks n d) _).diesBlocks).trans (updDie_diesBlocks n _ _)

theorem DiesBlocksOnly.mediaAside (h : DiesBlocksOnly d e) : MediaAside d e := .of_eq (by rw [h])

theorem DiesBlocksOnly.log (h : DiesBlocksOnly d e) : e.log = d.log := by rw [h]

theorem DiesBlocksOnly.objs (h : DiesBlocksOnly d e) : e.objs = d.objs := by rw [h]

theorem FramesTaken.dies (h : FramesTaken d e) : e.media.dies = d.media.dies := by rw [h]

theorem FramesTaken.log (h : FramesTaken d e) : e.log = d.log := by rw [h]

theorem ageRenewed_marks (n : Nat) (runs : List (List WordlineReads)) (d : Device) :
    (∀ b ∈ gaugeBlocks n d, (smGet {} (ageRenewed n runs d).media.blocks b).sampled = []) ∧
    ∀ b, (smGet {} (ageRenewed n runs d).media.blocks b).state = (smGet {} d.media.blocks b).state :=
  have hmarks := marksErased_fold (gaugeBlocks n d) (updDie n (fun _ => scannedDie n runs false d) d)
  ⟨hmarks.sampled, hmarks.state⟩

/-- From the age taken over to the end of the refresh. -/
theorem gaugeRenewed_touched (n : Nat) (runs : List (List WordlineReads)) (d : Device) :
    GaugeTouched n (ageRenewed n runs d) (gaugeRenewed n runs d) :=
  (logRec_touched ..).trans (moveRoot_touched ..)

/-- The record of the refresh (R277) in the device whose age has been taken over. -/
def ageRecorded (n : Nat) (runs : List (List WordlineReads)) (d : Device) : Device :=
  logRec Code.gaugeRefreshed [n, refreshAge n runs d] (ageRenewed n runs d)

theorem gaugeRenewed_dies (n : Nat) (runs : List (List WordlineReads)) (d : Device) :
    (gaugeRenewed n runs d).media.dies = (ageRenewed n runs d).media.dies :=
  (moveRoot_taken _ (ageRecorded n runs d)).dies.trans (congrArg Media.dies (logRec_aside _ _ (ageRenewed n runs d)).media)

theorem gaugeRenewed_state (n : Nat) (runs : List (List WordlineReads)) (d : Device) (b : Nat) :
    (smGet {} (gaugeRenewed n runs d).media.blocks b).state = (smGet {} d.media.blocks b).state := by
  have hmove : (smGet {} (gaugeRenewed n runs d).media.blocks b).state = (smGet {} (ageRecorded n runs d).media.blocks b).state :=
    moveRoot_state _ (ageRecorded n runs d) b
  have hmedia : (ageRecorded n runs d).media = (ageRenewed n runs d).media := (logRec_aside _ _ (ageRenewed n runs d)).media
  rw [hmove, hmedia, (ageRenewed_marks n runs d).2]

/-- Without a failure every gauge block stays named. -/
theorem gaugeRenewed_named (hnamed : GaugeNamed n d) : GaugeNamed n (gaugeRenewed n runs d) := by
  have hgauge : (die n (gaugeRenewed n runs d)).gauge = (die n d).gauge := by
    rw [die_congr (gaugeRenewed_dies n runs d), ageRenewed_die]
    rfl
  intro g hg
  rw [gaugeBlocks_congr hgauge] at hg
  rw [gaugeRenewed_state]
  exact hnamed g hg

theorem gaugeRenewed_log (n : Nat) (runs : List (List WordlineReads)) (d : Device) : (gaugeRenewed n runs d).log = (ageRecorded n runs d).log :=
  (moveRoot_taken _ (ageRecorded n runs d)).log

theorem gaugeRenewed_recorded (hopen : WriterOpen d) :
    Recorded Code.gaugeRefreshed [n, refreshAge n runs d] d (gaugeRenewed n runs d) := by
  have hrec : Recorded Code.gaugeRefreshed [n, refreshAge n runs d] d (ageRecorded n runs d) :=
    logRec_recorded_of_log _ _ (ageRenewed_parts n runs d).log hopen
  refine hrec.congr rfl ?_
  rw [gaugeRenewed_log]

/-- What a refresh leaves. -/
structure GaugeRefreshed (n : Nat) (runs : List (List WordlineReads)) (d e : Device) : Prop where
  age : (die n e).gaugeAge = 0
  found : (die n e).found = []
  base : (die n e).ageBase = (die n d).ageBase + refreshAge n runs d
  state : (die n e).gaugeState = 0
  sampled : ∀ b ∈ gaugeBlocks n d, (smGet {} e.media.blocks b).sampled = []
  others : ∀ k, k ≠ n → die k e = die k d
  objs : OnlyObjs ([Obj.blocksRetired, Obj.eraseFailCount, Obj.programFailCount] ++ asideObjs) d e
  medium : e.media = { d.media with
    dies := e.media.dies, blocks := e.media.blocks, stripes := e.media.stripes, sb := e.media.sb, sbDue := e.media.sbDue }
  parts : MediaAside d e

theorem GaugeTouched.refreshed (h : GaugeTouched n (ageRenewed n runs d) e) : GaugeRefreshed n runs d e := by
  have hdie : die n e = _ := h.own
  rw [ageRenewed_die] at hdie
  have hparts := ageRenewed_parts n runs d
  constructor
  case age => rw [hdie]; rfl
  case found => rw [hdie]; rfl
  case base => rw [hdie]; rfl
  case state => rw [hdie]; rfl
  case sampled => exact fun b hb => (h.sampled b).trans ((ageRenewed_marks n runs d).1 b hb)
  case others => exact fun k hk => (h.others k hk).trans (ageRenewed_others hk)
  case objs => exact fun k hk => (h.objs k hk).trans (getObj_congr hparts.objs)
  case medium =>
    have hmedium : (ageRenewed n runs d).media =
      { d.media with dies := (ageRenewed n runs d).media.dies, blocks := (ageRenewed n runs d).media.blocks } := congrArg Device.media hparts
    exact h.medium.trans (congrArg (fun m : Media => { m with
      dies := e.media.dies, blocks := e.media.blocks, stripes := e.media.stripes, sb := e.media.sb, sbDue := e.media.sbDue }) hmedium)
  case parts => exact hparts.mediaAside.trans h.parts

theorem refreshGauge_refreshed (n : Nat) (runs : List (List WordlineReads)) (erase program : List Nat) (d : Device) :
    GaugeRefreshed n runs d (nameGauge n ((gaugeBlocks n d).foldl (markFails erase program) (gaugeRenewed n runs d))) :=
  (((gaugeRenewed_touched n runs d).trans (markFails_fold n erase program _ _)).trans (nameGauge_touched n _)).refreshed

end Sys2Proof.Machine
end

section
/-! PROOFS. The scans of a wake (spec/09 R274 to R278), and obligation O41. -/
-- The proofs are elaborated one after another: see the first file of these proofs.
set_option Elab.async false

namespace Sys2Proof.Machine

variable {n m : Nat} {d e : Device} {runs : List (List WordlineReads)}

/-! ### What stays of a scan -/

/-- What a scan has found on a die, and the parts of the device beside the medium that a wake's scans leave. -/
structure ScanKept (n : Nat) (d e : Device) : Prop where
  scanned : (die n e).scanned = (die n d).scanned
  found : (die n e).found = (die n d).found
  hours : (die n e).scanHours = (die n d).scanHours
  age : (die n e).gaugeAge = (die n d).gaugeAge
  map : e.media.map = d.media.map
  settings : e.settings = d.settings
  sec : e.sec = d.sec
  ctl : e.ctl = { d.ctl with gaugesScanned := e.ctl.gaugesScanned }

theorem ScanKept.trans {a b c : Device} (h : ScanKept n a b) (g : ScanKept n b c) : ScanKept n a c where
  scanned := g.scanned.trans h.scanned
  found := g.found.trans h.found
  hours := g.hours.trans h.hours
  age := g.age.trans h.age
  map := g.map.trans h.map
  settings := g.settings.trans h.settings
  sec := g.sec.trans h.sec
  ctl := g.ctl.trans (congrArg (fun x : Control => { x with gaugesScanned := c.ctl.gaugesScanned }) h.ctl)

theorem ScanKept.ite {p : Prop} [Decidable p] {a b : Device} (ha : ScanKept n d a) (hb : ScanKept n d b) : ScanKept n d (if p then a else b) := by
  split
  · exact ha
  · exact hb

theorem ScanKept.of_medium (hdies : e.media.dies = d.media.dies) (hmap : e.media.map = d.media.map) (hsettings : e.settings = d.settings)
    (hsec : e.sec = d.sec) (hctl : e.ctl = { d.ctl with gaugesScanned := e.ctl.gaugesScanned }) : ScanKept n d e := by
  have hdie : die n e = die n d := die_congr hdies
  exact ⟨congrArg _ hdie, congrArg _ hdie, congrArg _ hdie, congrArg _ hdie, hmap, hsettings, hsec, hctl⟩

theorem ScanKept.refl (n : Nat) (d : Device) : ScanKept n d d := .of_medium rfl rfl rfl rfl rfl

theorem media_setObj (k v : Nat) (d : Device) : (setObj k v d).media = d.media := rfl

theorem setObj_kept (n k v : Nat) (d : Device) : ScanKept n d (setObj k v d) := .of_medium rfl rfl rfl rfl rfl

theorem updBlock_kept (n b : Nat) (f : Block → Block) (d : Device) : ScanKept n d (updBlock b f d) := .of_medium rfl rfl rfl rfl rfl

theorem Aside.scanKept (h : Aside d e) (n : Nat) : ScanKept n d e :=
  .of_medium (by rw [h.media]) (by rw [h.media]) h.settings h.sec (by rw [h.ctl])

theorem logRec_scanKept (n code : Nat) (snaps : List Nat) (d : Device) : ScanKept n d (logRec code snaps d) := (logRec_aside code snaps d).scanKept n

theorem FramesTaken.scanKept (h : FramesTaken d e) (n : Nat) : ScanKept n d e :=
  .of_medium h.dies (by rw [h]) (by rw [h]) (by rw [h]) (by rw [h])

theorem updDie_kept_ne (hm : n ≠ m) (f : DieState → DieState) (d : Device) : ScanKept n d (updDie m f d) := by
  have hdie : die n (updDie m f d) = die n d := by rw [die_updDie, if_neg hm]
  exact ⟨congrArg _ hdie, congrArg _ hdie, congrArg _ hdie, congrArg _ hdie, rfl, rfl, rfl, rfl⟩

theorem OffsetsMoved.scanKept (h : OffsetsMoved d e) (n : Nat) : ScanKept n d e := by
  have hdie := h.dies n
  refine ⟨?_, ?_, ?_, ?_, by rw [h.medium], h.parts.settings, h.parts.sec, by rw [h.parts.ctl]; rfl⟩ <;> rw [hdie]

theorem observeDark_kept (n : Nat) (d : Device) : ScanKept n d (observeDark d) := by
  have hseen : ∀ b : Bool, ScanKept n d { d with media := { d.media with rc := { d.media.rc with observed := b } } } :=
    fun _ => .of_medium rfl rfl rfl rfl rfl
  unfold observeDark
  dsimp only
  split
  · split
    · exact .refl n d
    split
    · exact hseen true
    · exact (hseen true).trans (setObj_kept ..)
  · exact .refl n d

/-! ### Level classes moved over a dark period -/

theorem classMoved_offsets (k n : Nat) (v : List Int) (d : Device) :
    OffsetsMoved d (updDie n (fun x => { x with classes := smUpd ([], 0) k (fun c => (v, c.2)) x.classes }) d) :=
  updDie_moved (f := fun x => { x with classes := smUpd ([], 0) k (fun c => (v, c.2)) x.classes }) (fun _ => rfl) n d

theorem moveClasses_moved (n : Nat) (before after : DieState) (dark : Nat) (d : Device) : OffsetsMoved d (moveClasses n before after dark d) := by
  unfold moveClasses
  dsimp only
  refine .ite (.refl d) ?_
  refine foldl_rel (R := OffsetsMoved) .refl (fun h g => h.trans g) (fun d k => ?_) _ d
  exact .ite (.refl d) ((limitOffsets_moved n _ d).trans (classMoved_offsets k n _ _))

/-! ### A scan in M4 -/

/-- A scan sets its die, notes the scan before the wake, and moves level classes. -/
theorem scanDie_scans (havail : gaugeUnavailable n d = false) : ∃ rc wake,
    OffsetsMoved (updDie n (fun _ => scannedDie n runs wake d) (updRc (fun _ => rc) d)) (scanDie n runs d) := by
  unfold scanDie
  rw [if_neg (by simp [havail])]
  dsimp only
  by_cases hnote : (decide (d.ctl.mode = .m4) && d.media.rc.loadedWallMs.isNone) = true
  · rw [if_pos hnote]
    exact ⟨_, _, .ite (moveClasses_moved ..) (.refl _)⟩
  · rw [if_neg hnote]
    exact ⟨d.media.rc, _, .ite (moveClasses_moved ..) (.refl _)⟩

/-! ### The end of a wake's scans -/

theorem gaugeUnavailable_congr (h : e.media = d.media) : gaugeUnavailable n e = gaugeUnavailable n d :=
  have hdie : die n e = die n d := die_congr (by rw [h])
  GaugeKept.unavailable ⟨by rw [hdie], by rw [hdie], by rw [h]⟩

/-- A die whose gauge is unavailable takes its dark age from others (R278). -/
def darkTaken (n dark : Nat) (d : Device) : Device :=
  logRec Code.gaugeUnavailable [n, dark]
    (updDie n (fun x => { x with darkAge := dark, gaugeAge := min 0xFFFFFFFF (x.gaugeAge + dark) }) d)

theorem darkTaken_kept (h : n ≠ m) (dark : Nat) (d : Device) : ScanKept n d (darkTaken m dark d) :=
  (updDie_kept_ne h _ d).trans (logRec_scanKept ..)

theorem darkTaken_fold_kept (dark : Nat → Nat) : ∀ {ms : List Nat}, n ∉ ms → ∀ d : Device,
    ScanKept n d (ms.foldl (fun d m => darkTaken m (dark m) d) d)
  | [], _, d => .refl n d
  | m :: ms, h, d => by
    rw [List.mem_cons, not_or] at h
    exact (darkTaken_kept h.1 (dark m) d).trans (darkTaken_fold_kept dark h.2 _)

theorem finishScans_kept (havail : gaugeUnavailable n d = false) : ScanKept n d (finishScans d) := by
  unfold finishScans
  extract_lets dies scanned largest top med first d1 d2 lost d3 d4 late overdue worst d5 d6 d7
  refine .ite (.refl n d) ?_
  have h1 : ScanKept n d d1 := (setObj_kept ..).trans (setObj_kept ..)
  have h2 : ScanKept n d1 d2 ∧ d2.media = d1.media := by
    unfold d2
    split
    · exact ⟨.refl n d1, rfl⟩
    · exact ⟨logRec_scanKept .., (logRec_aside ..).media⟩
  have hlost : n ∉ lost := by
    have hmedium : d1.media = d.media := (media_setObj ..).trans (media_setObj ..)
    have hstill : gaugeUnavailable n d2 = false := (gaugeUnavailable_congr (h2.2.trans hmedium)).trans havail
    simp [lost, hstill]
  have h3 : ScanKept n d2 d3 := setObj_kept ..
  have h4 : ScanKept n d3 d4 := darkTaken_fold_kept (fun m => 5 * largest
    (if (scanned.filter fun k => bankOfDie k = bankOfDie m).isEmpty then scanned else scanned.filter fun k => bankOfDie k = bankOfDie m) / 4) hlost d3
  have h5 : ScanKept n d4 d5 :=
    (foldl_rel (R := ScanKept n) (.refl n) (fun h g => h.trans g) (fun d e => updBlock_kept n _ _ d) _ d4).trans (setObj_kept ..)
  have h6 : ScanKept n d5 d6 := by
    unfold d6
    split
    · exact .refl n d5
    · exact logRec_scanKept ..
  have h7 : ScanKept n d6 d7 := (moveRoot_taken _ d6).scanKept n
  have hall := ((((h1.trans h2.1).trans h3).trans h4).trans h5).trans (h6.trans h7)
  clear_value d7
  have hdone : ScanKept n d7 (updRc (fun rc => { rc with darkRecorded := true, scanHours := hours d7 })
      { d7 with ctl := { d7.ctl with gaugesScanned := true } }) := .of_medium rfl rfl rfl rfl rfl
  exact hall.trans (hdone.trans (observeDark_kept n _))

/-! ### The clauses of O41 -/

/-- A scan in M4 (R273, R276). -/
theorem gaugeScan_leaves (havail : gaugeUnavailable n d = false) {e : Device} (he : e = finishScans (scanDie n runs d)) :
    (die n e).scanned = true ∧ (die n e).found = meanVector (gaugeVectors (die n d).refOffsets runs) ∧ (die n e).scanHours = hours d ∧
    (die n e).gaugeAge = gaugeAgeOf (die n d).refOffsets (gaugeVectors (die n d).refOffsets runs) (profileOf n d).readOffsetStepMv d ∧
    e.media.map = d.media.map ∧ e.settings = d.settings ∧ e.sec = d.sec ∧ e.ctl = { d.ctl with gaugesScanned := e.ctl.gaugesScanned } := by
  obtain ⟨rc, wake, hscan⟩ := scanDie_scans (runs := runs) havail
  have hdie : die n (updDie n (fun _ => scannedDie n runs wake d) (updRc (fun _ => rc) d)) = scannedDie n runs wake d := die_updDie_self ..
  have havail' : gaugeUnavailable n (scanDie n runs d) = false := by
    refine (GaugeKept.unavailable (d := d) ⟨?_, ?_, ?_⟩).trans havail
    · rw [hscan.dies n, hdie]
      rfl
    · rw [hscan.dies n, hdie]
      rfl
    · rw [hscan.medium]
      rfl
  have hkept := (hscan.scanKept n).trans (finishScans_kept havail')
  rw [← he] at hkept
  exact ⟨hkept.scanned.trans (congrArg _ hdie), hkept.found.trans (congrArg _ hdie), hkept.hours.trans (congrArg _ hdie),
    hkept.age.trans (congrArg _ hdie), hkept.map, hkept.settings, hkept.sec, hkept.ctl⟩

/-- A scan at its interval (R274). -/
theorem gaugeScanInterval_leaves (hmode : bolterMode d = true) (hdue : d.sub.shutdownRunning = true ∨
      d.media.rc.scanHours + 16 * getObj Obj.gaugeScanIntervalHours d ≤ hours d) (hserves : dieInService n d = true)
    (havail : gaugeUnavailable n d = false) {e : Device} (he : e = scanRound [(n, runs)] d) :
    e.media.rc.scanHours = hours d ∧ (die n e).found = meanVector (gaugeVectors (die n d).refOffsets runs) ∧
    (die n e).gaugeAge = gaugeAgeOf (die n d).refOffsets (gaugeVectors (die n d).refOffsets runs) (profileOf n d).readOffsetStepMv d ∧
    (∀ k, k ≠ n → die k e = die k d) ∧ OnlyObjs [Obj.refreshesQueued] d e ∧
    e = { d with objs := e.objs, free := e.free, media := { d.media with
      dies := e.media.dies, blocks := e.media.blocks, stripes := e.media.stripes, rc := e.media.rc, sb := e.media.sb, sbDue := true } } := by
  rw [scanRound_scans hmode hdue hserves havail] at he
  have htaken := moveRoot_taken (fun p r => { r with calendar := p }) (updDie n (fun _ => scannedDie n runs false d) d)
  have hdue' : (moveRoot (fun p r => { r with calendar := p }) (updDie n (fun _ => scannedDie n runs false d) d)).media.sbDue = true := rfl
  generalize moveRoot _ _ = x at he htaken hdue'
  have hqueued := queueAged_queued (updRc (fun rc => { rc with scanHours := hours d }) x)
  rw [← he] at hqueued
  have hdies : e.media.dies = (updDie n (fun _ => scannedDie n runs false d) d).media.dies := by
    rw [hqueued.parts]
    exact htaken.dies
  have hdie : die n e = scannedDie n runs false d := (die_congr hdies).trans (die_updDie_self ..)
  refine ⟨hqueued.hours, by rw [hdie]; rfl, by rw [hdie]; rfl, fun k hk => ?_, fun k hk => ?_, ?_⟩
  · rw [die_congr hdies, die_updDie, if_neg hk]
  · refine (hqueued.objs k hk).trans (getObj_congr ?_)
    exact (by rw [htaken]; rfl : x.objs = d.objs)
  · have hparts := hqueued.parts
    rw [htaken] at hparts hdue'
    rw [hparts, ← hdue']
    rfl

end Sys2Proof.Machine

section
open Sys2Proof Sys2Proof.Machine

/-- Settles O41: scans, refreshes, scrubs and wakes, each by the device it leaves. -/
theorem gaugesScrubsAndWakes : Obligations.GaugesScrubsAndWakes := by
  unfold Obligations.GaugesScrubsAndWakes
  refine ⟨?_, ?_, ?_, ?_, ?_, ?_⟩
  case refine_1 =>
    intro s n runs hmode hloaded hpowered havail hfits
    refine Does.of_runDev _ rfl ?_
    rw [onlyIf, if_pos (by simp [hmode, hloaded, hpowered]), whileCharged, if_pos hfits]
    exact gaugeScan_leaves havail rfl
  case refine_2 =>
    intro s n runs hmode hdue hserves havail
    exact Does.of_runDev _ rfl (gaugeScanInterval_leaves hmode hdue hserves havail rfl)
  case refine_3 =>
    intro s n runs erase program hmode hserves hgroup hop hopen hdue havail hnamed hfits
    refine Does.of_runDev _ rfl ?_
    rw [refreshGauge_eq hmode hserves hgroup hop hopen hdue havail hnamed hfits]
    have h := refreshGauge_refreshed n runs erase program s.dev
    refine ⟨h.age, h.found, h.base, h.state, fun b hb => ⟨h.sampled b hb, fun hplane => ?_⟩, ?_, h.others, h.objs, ?_⟩
    · exact (nameGauge_touched n _).retired b (markFails_fold_retires hb hplane _)
    · rintro rfl rfl hwriter
      rw [markFails_none, nameGauge_of_named (gaugeRenewed_named hnamed)]
      exact gaugeRenewed_recorded hwriter
    · rw [← h.medium]
      exact h.parts
  case refine_4 =>
    intro s b first again hmode hdue hfirst hfree hfits hratio
    refine Does.of_runDev _ rfl ?_
    obtain ⟨failures, ratio, interval, high, heq, hrule⟩ := scrubBlock_leaves (first := first) (again := again) hmode hdue hfirst hfree hfits hratio
    rw [heq]
    have h := scrubLeft_scrubbed b first failures ratio interval high s.dev
    refine ⟨h.runs, h.overdue, h.tracked, h.due.trans (congrArg _ h.spaced.symm), fun hfailed => ?_, fun hclean => ?_, h.map, h.parts.medium⟩
    · obtain ⟨rfl, rfl, rfl⟩ := hrule.onFailure hfailed
      exact ⟨h.noted, h.spaced, scrubLeft_high ..⟩
    · rw [hclean] at hrule
      obtain ⟨rfl, rfl, rfl⟩ := hrule.onClean rfl rfl
      exact ⟨h.noted, scrubLeft_low .., h.spaced⟩
  case refine_5 =>
    intro s hmode
    refine Does.of_runDev _ rfl ?_
    rw [onlyIf, if_pos hmode]
    exact computeWake_sets s.dev
  case refine_6 =>
    intro s hset hclock hpast hmode
    refine Does.of_runDev _ rfl ?_
    rw [onlyIf, if_pos (by simp [hset, hclock, hpast])]
    have h := signalWakeAll_raised 4 hmode
    refine ⟨fun p hp hpme hlink => ?_, fun p hpme => ?_, h.objs, h.parts⟩
    · have hw := h.woken p (List.mem_range.mpr hp) hpme hlink
      exact ⟨hw.status, hw.wake, hw.count⟩
    · have hs := h.same p (.inr hpme)
      exact ⟨hs.status, hs.wake⟩

end
end

section
/-! PROOFS. Steps of the medium that count no failure (spec/03 R64 to R81): operations end, groups are formed, dies and banks are lost. -/
-- The proofs are elaborated one after another: see the first file of these proofs.
set_option Elab.async false

namespace Sys2Proof.Machine

variable {ks : List Nat} {bank n u : Nat} {d e : Device}

/-! ### Steps that leave counts alone -/

/-- From `d` to `e` the medium alone has changed, none of the counts `ks`, no grain in flight has come, and die `u` has begun no operation. -/
structure CountsStill (u : Nat) (ks : List Nat) (d e : Device) : Prop where
  medium : MediumOnly d e
  counts : ∀ k ∈ ks, getObj k e = getObj k d
  flight : d.media.flight = [] → e.media.flight = []
  idle : (die u d).op.kind = 0 → (die u e).op.kind = 0

theorem CountsStill.refl (u : Nat) (ks : List Nat) (d : Device) : CountsStill u ks d d := ⟨.refl d, fun _ _ => rfl, id, id⟩

theorem CountsStill.trans {a b c : Device} (h : CountsStill u ks a b) (g : CountsStill u ks b c) : CountsStill u ks a c :=
  ⟨h.medium.trans g.medium, fun k hk => (g.counts k hk).trans (h.counts k hk), fun hf => g.flight (h.flight hf), fun hi => g.idle (h.idle hi)⟩

theorem CountsStill.ite {p : Prop} [Decidable p] {a b : Device} (ha : CountsStill u ks d a) (hb : CountsStill u ks d b) : CountsStill u ks d (if p then a else b) := by
  split
  · exact ha
  · exact hb

theorem CountsStill.foldl {β : Type} {g : Device → β → Device} (hg : ∀ d b, CountsStill u ks d (g d b)) (xs : List β) (d : Device) : CountsStill u ks d (xs.foldl g d) :=
  foldl_rel (R := CountsStill u ks) (.refl u ks) (fun h g => h.trans g) hg xs d

/-- A fold that carries something beside the device. -/
theorem CountsStill.foldl_snd {β γ : Type} {g : γ × Device → β → γ × Device} (hg : ∀ a b, CountsStill u ks a.2 (g a b).2) (xs : List β)
    (a : γ × Device) : CountsStill u ks a.2 (xs.foldl g a).2 := by
  induction xs generalizing a with
  | nil => exact .refl u ks a.2
  | cons x xs ih => exact (hg a x).trans (ih _)

/-- Some counts of those that a step leaves alone. -/
theorem CountsStill.subset {js : List Nat} (h : CountsStill u ks d e) (hjs : js ⊆ ks) : CountsStill u js d e := ⟨h.medium, fun k hk => h.counts k (hjs hk), h.flight, h.idle⟩

/-- A step that changes no object and no grain in flight. -/
theorem CountsStill.of_eq (h : e = mediumOf e d) (hobjs : e.objs = d.objs) (hflight : e.media.flight = d.media.flight)
    (hdies : e.media.dies = d.media.dies) : CountsStill u ks d e :=
  ⟨.of_eq h, fun _ _ => getObj_congr hobjs, fun hf => hflight.trans hf, fun hi => by rw [die_congr hdies]; exact hi⟩

/-- The counts of failed erases and programs, and of the timeouts of a channel (R64). -/
def failCounts (channel : Nat) : List Nat := [Obj.channelOpTimeouts channel, Obj.programFailCount, Obj.eraseFailCount]

theorem failCounts_notAside {c k : Nat} (h : k ∈ failCounts c) : k ∉ asideObjs := by
  simp only [failCounts, List.mem_cons, List.not_mem_nil, or_false] at h
  rcases h with rfl | rfl | rfl
  · exact bankObj_notAside (by decide) c
  · decide
  · decide

theorem Aside.still (h : Aside d e) (hks : ∀ k ∈ ks, k ∉ asideObjs) : CountsStill u ks d e :=
  have hdie : die u e = die u d := die_congr (by rw [h.media])
  ⟨h.medium, fun k hk => h.objs k (hks k hk), fun hf => by rw [h.media]; exact hf, fun hi => by rw [hdie]; exact hi⟩

theorem setObj_still {j : Nat} (hj : j ∉ ks) (v : Nat) (d : Device) : CountsStill u ks d (setObj j v d) :=
  ⟨.of_eq rfl, fun _ hk => getObj_setObj_ne (fun h => hj (by rwa [h] at hk)) v d, id, id⟩

theorem incObj_still {j : Nat} (hj : j ∉ ks) (d : Device) : CountsStill u ks d (incObj j d) := setObj_still hj _ d

theorem FramesTaken.still (h : FramesTaken d e) : CountsStill u ks d e :=
  ⟨h.mediaAside.medium, fun _ _ => getObj_congr (by rw [h]), fun hf => by rw [h]; exact hf,
    fun hi => by rw [die_congr h.dies]; exact hi⟩

theorem updBlock_still (b : Nat) (f : Block → Block) (d : Device) : CountsStill u ks d (updBlock b f d) := .of_eq rfl rfl rfl rfl

theorem updStripe_still (n : Nat) (f : Stripe → Stripe) (d : Device) : CountsStill u ks d (updStripe n f d) := .of_eq rfl rfl rfl rfl

theorem updGroup_still (n slot : Nat) (f : Group → Group) (d : Device) : CountsStill u ks d (updGroup n slot f d) := .of_eq rfl rfl rfl rfl

theorem updDie_still {f : DieState → DieState} (hf : ∀ x, x.op.kind = 0 → (f x).op.kind = 0) (n : Nat) (d : Device) :
    CountsStill u ks d (updDie n f d) where
  medium := .of_eq rfl
  counts _ _ := rfl
  flight := id
  idle hi := by
    rw [die_updDie]
    split
    · rename_i h
      exact hf _ (h ▸ hi)
    · exact hi

theorem updCarrier_still (bank : Nat) (f : Carrier → Carrier) (d : Device) : CountsStill u ks d (updCarrier bank f d) := .of_eq rfl rfl rfl rfl

theorem joinRestripe_still (n : Nat) (lost : Bool) (d : Device) : CountsStill u ks d (joinRestripe n lost d) := .of_eq rfl rfl rfl rfl

theorem unplaceWhere_still (pick : Placement → Bool) (d : Device) : CountsStill u ks d (unplaceWhere pick d) := by
  refine ⟨.of_eq rfl, fun _ _ => rfl, fun hf => ?_, id⟩
  unfold unplaceWhere lookAgain
  simp [hf]

/-! ### The arbiter of the tokens -/

theorem arbiter_still (l : SMap Ledger) (r : Resources) (d : Device) : CountsStill u ks d { d with ledgers := l, res := r } := .of_eq rfl rfl rfl rfl

theorem updLedger_still (l : Nat) (f : Ledger → Ledger) (d : Device) : CountsStill u ks d (updLedger l f d) := .of_eq rfl rfl rfl rfl

theorem withholdOne_still (d : Device) (o : Nat) : CountsStill u ks d (withholdOne d o) := by
  unfold withholdOne
  exact .ite (updLedger_still ..) (.ite (.refl u ks d) (updLedger_still ..))

section
variable (hks : ∀ k ∈ ks, k ∉ asideObjs)
include hks

theorem logRec_still (code : Nat) (snaps : List Nat) (d : Device) : CountsStill u ks d (logRec code snaps d) := (logRec_aside code snaps d).still hks

theorem finishResize_still (d : Device) : CountsStill u ks d (finishResize d) := by
  unfold finishResize
  split
  · exact .refl u ks d
  · exact .ite (.trans (arbiter_still _ _ d) (logRec_still hks ..)) (.refl u ks d)

theorem withhold_still (d : Device) : CountsStill u ks d (withhold d) :=
  .ite (.refl u ks d) ((CountsStill.foldl withholdOne_still withholders d).trans (finishResize_still hks _))

theorem returnTokens_still (bank amount : Nat) (d : Device) : CountsStill u ks d (returnTokens bank amount d) :=
  (updLedger_still ..).trans (withhold_still hks _)

theorem returnAllTokens_still (bank : Nat) (d : Device) : CountsStill u ks d (returnAllTokens bank d) :=
  (((arbiter_still d.ledgers _ d).trans (updLedger_still ..)).trans (updLedger_still ..)).trans (withhold_still hks _)

end

theorem sendOnLink_still (link : Nat) (d : Device) : CountsStill u ks d (sendOnLink link d) :=
  .ite (updLedger_still ..) (arbiter_still d.ledgers _ d)

end Sys2Proof.Machine
end

section
/-! PROOFS. Operations end, dies and banks are lost and groups are formed without a failure being counted (spec/03 R57 to R81). -/
-- The proofs are elaborated one after another: see the first file of these proofs.
set_option Elab.async false

namespace Sys2Proof.Machine

variable {ks : List Nat} {bank n c u : Nat} {d e : Device}

theorem bankKeys_notCounts (hbank : bank < 16) (hc : c < 128) : Obj.carrierThermalState bank ∉ failCounts c ∧
    Obj.domainState (0x10 + bank) ∉ failCounts c ∧ Obj.entryAborts (0x10 + bank) ∉ failCounts c ∧ Obj.carrierState bank ∉ failCounts c ∧
    ∀ k < 8, Obj.channelState (bank * 8 + k) ∉ failCounts c := by
  simp only [failCounts, Obj.carrierThermalState, Obj.domainState, Obj.entryAborts, Obj.carrierState, Obj.channelState, Obj.channelOpTimeouts,
    Obj.programFailCount, Obj.eraseFailCount, objKey, List.mem_cons, List.not_mem_nil, or_false]
  refine ⟨by omega, by omega, by omega, by omega, fun k hk => by omega⟩

theorem retireKeys_notCounts (hc : c < 128) : Obj.blocksRetired ∉ failCounts c ∧ Obj.retiredLowCapacity ∉ failCounts c ∧
    Obj.continuationGroups ∉ failCounts c := by
  simp only [failCounts, Obj.blocksRetired, Obj.retiredLowCapacity, Obj.continuationGroups, Obj.channelOpTimeouts, Obj.programFailCount,
    Obj.eraseFailCount, objKey, List.mem_cons, List.not_mem_nil, or_false]
  refine ⟨by omega, by omega, by omega⟩

/-! ### Members of stripes -/

theorem stopStripe_still (n : Nat) (d : Device) : CountsStill u ks d (stopStripe n d) := by
  have hblock : ∀ (d : Device) (b : Nat), CountsStill u ks d
      (if (block b d).stripe = n then updBlock b (fun e => { e with full := true }) d else d) := fun d b =>
    .ite (updBlock_still b _ d) (.refl u ks d)
  exact ((unplaceWhere_still _ d).trans (updStripe_still n _ _)).trans (.foldl (fun d m => .foldl hblock _ d) _ _)

theorem loseWhere_still (pick : Nat → Nat × Nat → Bool) (d : Device) : CountsStill u ks d (loseWhere pick d).2 := by
  refine CountsStill.foldl_snd (fun a e => ?_) d.media.stripes (0, d)
  obtain ⟨count, d⟩ := a
  obtain ⟨n, st⟩ := e
  dsimp only
  split
  · exact .refl u ks d
  · have hends : ∀ (rows : Nat) (xs : List (Nat × Nat)) (d : Device), CountsStill u ks d (xs.foldl (fun d m =>
        let g := group m.2 (groupSlot st.kind) d
        if g.used && g.stripe = n then g.blocks.foldl (fun d b => updBlock b (fun e => { e with lastFine := rows - 1 - g.rowBase }) d) d else d) d) :=
      fun rows xs d => .foldl (fun d m => .ite (.foldl (fun d b => updBlock_still b _ d) _ d) (.refl u ks d)) xs d
    split
    · refine .trans (.trans (hends _ _ d) (updStripe_still n _ _)) (.ite (stopStripe_still n _) (.refl u ks _))
    · exact (updStripe_still n _ d).trans (joinRestripe_still n true _)

/-- What holds of an unlisted key and of every value that is listed under a key holds of that key's value. -/
theorem smGet_of_entries {α : Type} {p : α → Prop} {x : α} {m : SMap α} {k : Nat} (hx : p x) (hm : ∀ e ∈ m, e.1 = k → p e.2) : p (smGet x m k) := by
  induction m with
  | nil => exact hx
  | cons e m ih =>
    rw [smGet_cons]
    split
    · rename_i h
      exact hm e List.mem_cons_self h
    · exact ih fun e he => hm e (List.mem_cons_of_mem _ he)

theorem outputsOff_still (hu : bankOfDie u = bank) (d : Device) : CountsStill u ks d (outputsOff bank d) where
  medium := .of_eq rfl
  counts _ _ := rfl
  flight := id
  idle _ := by
    refine smGet_of_entries (p := fun x : DieState => x.op.kind = 0) rfl fun e he hk => ?_
    obtain ⟨x, -, rfl⟩ := List.mem_map.mp (List.mem_filter.mp he).1
    dsimp only at hk ⊢
    rw [hk, if_pos hu]

/-- The device with a die's operation over, its tokens not yet returned. -/
def opEnded (n : Nat) (d : Device) : Device := updDie n (fun y => { y with op := { slot := (die n d).op.slot } }) d

theorem endOp_cases (n : Nat) (d : Device) : ((die n d).op.kind = 0 ∧ endOp n d = d) ∨ ((die n d).op.kind ≠ 0 ∧
    (endOp n d = tokensBack (bankOfDie n) (die n d).op.charge (opEnded n d) ∨ ∃ r, endOp n d = { opEnded n d with res := r })) := by
  unfold endOp
  by_cases hkind : (die n d).op.kind = 0
  · exact .inl ⟨hkind, if_pos hkind⟩
  · refine .inr ⟨hkind, ?_⟩
    dsimp only
    rw [if_neg hkind]
    split
    · exact .inl rfl
    · exact .inr ⟨_, rfl⟩

theorem opEnded_still (n : Nat) (d : Device) : CountsStill u ks d (opEnded n d) :=
  updDie_still (f := fun y => { y with op := { slot := (die n d).op.slot } }) (fun _ _ => rfl) n d

section
variable (hc : c < 128) (hks : ks ⊆ failCounts c)
include hks

theorem stillKeys_notAside : ∀ k ∈ ks, k ∉ asideObjs := fun _ hk => failCounts_notAside (hks hk)

theorem setObj_notCount {j : Nat} (hj : j ∉ failCounts c) (v : Nat) (d : Device) : CountsStill u ks d (setObj j v d) :=
  setObj_still (fun h => hj (hks h)) v d

theorem record_still (code : Nat) (snaps : List Nat) (d : Device) : CountsStill u ks d (logRec code snaps d) :=
  logRec_still (stillKeys_notAside hks) code snaps d

/-- The charge of an operation that runs is held, so its return breaks no ledger. -/
theorem tokensBack_still {amount : Nat} (h : amount ≤ heldBy 1 (bank + 1) d) : CountsStill u ks d (tokensBack bank amount d) := by
  unfold tokensBack
  rw [if_pos h]
  exact returnTokens_still (stillKeys_notAside hks) bank amount d

theorem opEnded_tokensBack_still (h : ChargeHeld n d) :
    CountsStill u ks (opEnded n d) (tokensBack (bankOfDie n) (die n d).op.charge (opEnded n d)) :=
  tokensBack_still hks h

theorem endOp_still (h : (die n d).op.kind = 0 ∨ ChargeHeld n d) : CountsStill u ks d (endOp n d) := by
  rcases endOp_cases n d with ⟨_, heq⟩ | ⟨hkind, heq | ⟨r, heq⟩⟩ <;> rw [heq]
  · exact .refl u ks d
  · exact (opEnded_still n d).trans (opEnded_tokensBack_still hks (h.resolve_left hkind))
  · exact (opEnded_still n d).trans (arbiter_still _ _ _)

theorem endOp_idle (h : (die n d).op.kind = 0 ∨ ChargeHeld n d) : (die n (endOp n d)).op.kind = 0 := by
  have hended : (die n (opEnded n d)).op.kind = 0 := by
    rw [opEnded, die_updDie_self]
  rcases endOp_cases n d with ⟨hkind, heq⟩ | ⟨hkind, heq | ⟨r, heq⟩⟩ <;> rw [heq]
  · exact hkind
  · exact (opEnded_tokensBack_still (u := n) hks (h.resolve_left hkind)).idle hended
  · exact hended

include hc

/-! ### A bank loses its power -/

theorem endCarrierThrottle_still (hbank : bank < 16) (d : Device) : CountsStill u ks d (endCarrierThrottle bank d) := by
  obtain ⟨hthermal, -⟩ := bankKeys_notCounts hbank hc
  exact .ite (((setObj_notCount hks hthermal _ d).trans (record_still hks ..)).trans (withhold_still (stillKeys_notAside hks) _)) (.refl u ks d)

theorem cutEntry_still (hbank : bank < 16) (d : Device) : CountsStill u ks d (cutEntry (0x10 + bank) d) := by
  obtain ⟨-, -, haborts, -⟩ := bankKeys_notCounts hbank hc
  unfold cutEntry
  split
  · exact .refl u ks d
  · exact .trans (b := { d with domains := { d.domains with entering := smErase (0x10 + bank) d.domains.entering } })
      (.of_eq rfl rfl rfl rfl) (setObj_notCount hks haborts _ _)

theorem setDomains_still (hbank : bank < 16) (d : Device) : CountsStill u ks d (setDomains [0x10 + bank] 0x00 d) := by
  obtain ⟨-, hstate, -⟩ := bankKeys_notCounts hbank hc
  have hlinks : ∀ x : Device, CountsStill u ks x (returnCredits (0x10 + bank) x) := fun x => by
    obtain ⟨heq, -⟩ := returnCredits_changes (0x10 + bank) x
    generalize returnCredits (0x10 + bank) x = y at heq
    rw [heq]
    exact .of_eq rfl rfl rfl rfl
  exact ((cutEntry_still hc hks hbank d).trans (hlinks _)).trans (setObj_notCount hks hstate 0x00 _)

theorem clearPen_still (hbank : bank < 16) (hu : bankOfDie u = bank) (d : Device) : CountsStill u ks d (clearPen bank d) := by
  obtain ⟨-, -, -, -, hchannels⟩ := bankKeys_notCounts hbank hc
  rw [clearPen_eq]
  have hout := outputsOff_still (ks := ks) hu d
  have hoff := (hout.trans (updCarrier_still bank carrierOff _)).trans (endCarrierThrottle_still hc hks hbank _)
  have hdomains := (hoff.trans (returnAllTokens_still (stillKeys_notAside hks) bank _)).trans (setDomains_still hc hks hbank _)
  have hchannel : ∀ (xs : List Nat), (∀ k ∈ xs, k < 8) → ∀ x : Device,
      CountsStill u ks x (xs.foldl (fun d c => setObj (Obj.channelState (bank * 8 + c)) 0x00 d) x) := by
    intro xs hxs
    induction xs with
    | nil => exact fun x => .refl u ks x
    | cons k xs ih =>
      exact fun x => (setObj_notCount hks (hchannels k (hxs k (by simp))) _ x).trans (ih (fun j hj => hxs j (List.mem_cons_of_mem _ hj)) _)
  exact hdomains.trans (hchannel _ (fun k hk => List.mem_range.mp hk) _)

omit hc in
theorem loseBank_still (bank : Nat) (d : Device) : CountsStill u ks d (loseBank bank d) := by
  rw [loseBank_eq]
  have hforgotten : ∀ x : Device, CountsStill u ks x (bankForgotten bank x) := fun x => .of_eq rfl rfl rfl rfl
  have hlost : CountsStill u ks d (bankLost bank d) :=
    ((loseWhere_still (fun _ m => m.1 == bank) d).trans (unplaceWhere_still _ _)).trans (hforgotten _)
  exact (hlost.trans (updCarrier_still bank _ _)).trans (record_still hks ..)

theorem setCarrierState_still (hbank : bank < 16) (st : Nat) (d : Device) : CountsStill u ks d (setCarrierState bank st d) := by
  obtain ⟨-, -, -, hstate, -⟩ := bankKeys_notCounts hbank hc
  have hnote : ∀ x : Device, CountsStill u ks x (noteBanks x) := fun x => by
    have hmark : ∀ b : Bool, CountsStill u ks x (belowNoted b x) := fun b => .of_eq rfl rfl rfl rfl
    rcases noteBanks_cases x with h | h | h <;> rw [h]
    · exact .refl u ks x
    · exact hmark false
    · exact (hmark true).trans (record_still hks ..)
  exact .ite (.refl u ks d) (((setObj_notCount hks hstate st d).trans ((raiseOnAll_aside _ _).still (stillKeys_notAside hks))).trans (hnote _))

/-! ### A die fails -/

omit hc hks in
theorem chargeHeld_record (h : (die n d).op.kind = 0 ∨ ChargeHeld n d) (code : Nat) (snaps : List Nat) :
    (die n (logRec code snaps d)).op.kind = 0 ∨ ChargeHeld n (logRec code snaps d) := by
  have hrec := logRec_aside code snaps d
  have hdie : die n (logRec code snaps d) = die n d := die_congr (by rw [hrec.media])
  unfold ChargeHeld
  rw [hdie, heldBy_of_ledger (hrec.ledgers 1 (by decide))]
  exact h

/-- The device with the groups of a die gone. -/
def dieForgotten (n : Nat) (d : Device) : Device :=
  { d with media := { d.media with groups := d.media.groups.filter fun g => g.1 / 2 != n } }

/-- The device with a die and its members lost (R288, R294). -/
def dieLost (n : Nat) (d : Device) : Device :=
  dieForgotten n (unplaceOn (· == n) (loseMembers (fun m => m.2 == n) (updDie n (fun x => { x with failed := true }) d)).2)

omit hc hks in
theorem dieLost_still (n : Nat) (d : Device) : CountsStill u ks d (dieLost n d) := by
  have hforgotten : ∀ x : Device, CountsStill u ks x (dieForgotten n x) := fun x => .of_eq rfl rfl rfl rfl
  have hfailed := updDie_still (u := u) (ks := ks) (f := fun x => { x with failed := true }) (fun _ h => h) n d
  exact ((hfailed.trans (loseWhere_still (fun _ m => m.2 == n) _)).trans (unplaceWhere_still _ _)).trans (hforgotten _)

theorem failDie_still (hu : u < 4096) (cause : Nat) (h : (die u d).op.kind = 0 ∨ ChargeHeld u d) : CountsStill u ks d (failDie u cause d) := by
  have hbank : bankOfDie u < 16 := by unfold bankOfDie; omega
  unfold failDie
  refine .ite (.refl u ks d) ?_
  have hended : CountsStill u ks d (endOp u (if cause = 3 then d else logRec Code.dieFailed [u, cause] d)) := by
    split
    · exact endOp_still hks h
    · exact (record_still hks ..).trans (endOp_still hks (chargeHeld_record h ..))
  generalize endOp u (if cause = 3 then d else logRec Code.dieFailed [u, cause] d) = x at hended
  have hlost := (hended.trans (dieLost_still u x)).trans (record_still hks Code.memberLost
    [u, (loseMembers (fun m => m.2 == u) (updDie u (fun x => { x with failed := true }) x)).1] _)
  refine .ite ?_ hlost
  exact hlost.trans ((((clearPen_still hc hks hbank rfl _).trans (record_still hks ..)).trans (loseBank_still hks _ _)).trans
    (setCarrierState_still hc hks hbank _ _))

theorem endExhausted_still (hu : u < 4096) (h : (die u d).op.kind = 0) : CountsStill u ks d (endExhausted u d) :=
  .ite (failDie_still hc hks hu 3 (.inl h)) (.refl u ks d)

/-! ### A group is formed -/

theorem exhaustDie_still (hu : u < 4096) (slot plane : Nat) (h : (die u d).op.kind = 0) : CountsStill u ks d (exhaustDie u slot plane d) := by
  unfold exhaustDie
  have hmarked := (updDie_still (u := u) (ks := ks) (f := fun x => { x with exhausted := true }) (fun _ h => h) u d).trans
    (updGroup_still u slot (fun _ => {}) _)
  have hlost := ((hmarked.trans (record_still hks Code.planeExhausted [u * 16384 + plane, 0, 0x03] _)).trans
    (loseWhere_still (fun s m => s == (group u slot d).stripe && m.2 == u) _)).trans
      (unplaceWhere_still (fun p => p.stripe == (group u slot d).stripe && dieOfBlock p.block = u) _)
  exact hlost.trans (endExhausted_still hc hks hu (hlost.idle h))

theorem takeBlock_still (n plane : Nat) : ∀ (fuel : Nat) (d : Device), CountsStill u ks d (takeBlock n plane fuel d).2
  | 0, d => .refl u ks d
  | fuel + 1, d => by
    obtain ⟨hretired, hlow, -⟩ := retireKeys_notCounts hc
    unfold takeBlock
    split
    · exact .refl u ks d
    · dsimp only
      split
      · exact updBlock_still _ _ d
      · exact ((((updBlock_still _ _ d).trans (setObj_notCount hks hretired _ _)).trans (setObj_notCount hks hlow _ _)).trans
          (record_still hks ..)).trans (takeBlock_still n plane fuel _)

theorem takeBlocks_still (n role : Nat) (d : Device) : CountsStill u ks d (takeBlocks n role d).2 := by
  refine CountsStill.foldl_snd (fun a plane => ?_) (List.range 4) ([], d)
  dsimp only
  split
  · exact takeBlock_still hc hks n plane 4096 a.2
  · exact .refl u ks a.2

omit hc hks in
theorem systemPair_taken (d : Device) : FramesTaken d (systemPair d).2.2 :=
  (systemRun_taken 1 none d).trans (systemRun_taken 1 _ _)

omit hc hks in
theorem logGroup_takes (r : PlaneRecord) (d : Device) :
    ∃ x l, FramesTaken d x ∧ logGroup r d = { x with media := { x.media with groupLog := l } } := by
  have hpair := systemPair_taken
  unfold logGroup
  generalize systemPair = pair at hpair
  dsimp only
  split <;> split
  · exact ⟨_, _, (hpair d).trans (hpair _), rfl⟩
  · exact ⟨_, _, hpair d, rfl⟩
  · exact ⟨_, _, (hpair d).trans (hpair _), rfl⟩
  · exact ⟨_, _, hpair d, rfl⟩

omit hc hks in
theorem logGroup_still (r : PlaneRecord) (d : Device) : CountsStill u ks d (logGroup r d) := by
  have hlog : ∀ (x : Device) (l : List PlaneFrame), CountsStill u ks x { x with media := { x.media with groupLog := l } } :=
    fun _ _ => .of_eq rfl rfl rfl rfl
  obtain ⟨x, l, htaken, heq⟩ := logGroup_takes r d
  rw [heq]
  exact htaken.still.trans (hlog x l)

/-- A group whose four planes gave a block takes them, its erase due (R57). -/
def groupFormed (n slot : Nat) (g : Group) (role : Nat) (blocks : List Nat) (header : BlockHeader) (d : Device) : Device :=
  let d := logGroup (groupRecord n role g blocks d) d
  let d := { d with media := { d.media with wp := { d.media.wp with openSeq := d.media.wp.openSeq + 1 } } }
  let d := blocks.foldl (fun d b => updBlock b (fun e =>
    { e with state := 1, cls := (die n d).freshClass, erases := min 524287 (e.erases + 1), freshLag := min 255 (e.freshLag + 1), stripe := g.stripe % 2 ^ 40,
             role := role, step := if role = 0 then e.step else 0, cap := if role = 0 then e.cap else 0, next := 1, grains := 0, full := false, valid := 0, lastFine := 0, noFooter := false,
             shortRows := 0, padRows := 0, closeHours := 0, halves := 0, sampled := [], cont := g.rowBase != 0, contRow := g.rowBase,
             scrubDue := 0xFFFFFFFF, refreshQ := false, readQ := false, rateQ := false, wearQ := false, header := header }) d) d
  let d := { d with media := { d.media with stored := d.media.stored.filter fun e => !blocks.contains (e.1 / 16384) } }
  updGroup n slot (fun g => { g with blocks := blocks, erasing := true }) d

omit hc hks in
theorem groupFormed_still (n slot : Nat) (g : Group) (role : Nat) (blocks : List Nat) (header : BlockHeader) (d : Device) :
    CountsStill u ks d (groupFormed n slot g role blocks header d) := by
  have hopen : ∀ x : Device, CountsStill u ks x { x with media := { x.media with wp := { x.media.wp with openSeq := x.media.wp.openSeq + 1 } } } :=
    fun _ => .of_eq rfl rfl rfl rfl
  have hstored : ∀ (x : Device) (m : SMap StoredGrain), CountsStill u ks x { x with media := { x.media with stored := m } } :=
    fun _ _ => .of_eq rfl rfl rfl rfl
  exact ((((logGroup_still _ d).trans (hopen _)).trans (.foldl (fun d b => updBlock_still b _ d) blocks _)).trans (hstored _ _)).trans
    (updGroup_still n slot _ _)

theorem formGroup_still (hu : u < 4096) (slot : Nat) (h : (die u d).op.kind = 0) : CountsStill u ks d (formGroup u slot d) := by
  unfold formGroup
  refine .ite (.refl u ks d) ?_
  have htake := takeBlocks_still (u := u) hc hks u (memberRole u (group u slot d).stripe d) d
  dsimp only
  generalize takeBlocks u (memberRole u (group u slot d).stripe d) d = t at htake ⊢
  obtain ⟨bs, x⟩ := t
  have hformed := groupFormed_still (u := u) (ks := ks) u slot (group u slot d) (memberRole u (group u slot d).stripe d) (bs.filterMap id)
    (openHeader u (group u slot d) (bs.filterMap id) x) x
  unfold groupFormed at hformed
  dsimp only at hformed ⊢
  exact .ite (htake.trans hformed) (htake.trans (exhaustDie_still hc hks hu slot _ (htake.idle h)))

end

end Sys2Proof.Machine
end

section
/-! PROOFS. Failed and timed-out operations (spec/03 R63 to R67, R76). -/
-- The proofs are elaborated one after another: see the first file of these proofs.
set_option Elab.async false

namespace Sys2Proof.Machine

variable {ks : List Nat} {n c u slot j : Nat} {d e : Device}

/-! ### Failures that are counted -/

/-- From `d` to `e` failures have been counted in `j` and in none of `ks`. -/
structure Counted (u : Nat) (ks : List Nat) (j m : Nat) (d e : Device) : Prop where
  still : CountsStill u ks d e
  count : getObj j e = (getObj j d + m) % objModulus j

theorem Counted.ite {m : Nat} {p : Prop} [Decidable p] {a b : Device} (ha : Counted u ks j m d a) (hb : Counted u ks j m d b) :
    Counted u ks j m d (if p then a else b) := by
  split
  · exact ha
  · exact hb

theorem Counted.after {m : Nat} {x : Device} (h : Counted u ks j m d e) (g : CountsStill u (j :: ks) x d) : Counted u ks j m x e :=
  ⟨(g.subset (by simp)).trans h.still, by rw [h.count, g.counts j (by simp)]⟩

theorem Counted.before {m : Nat} {x : Device} (h : Counted u ks j m d e) (g : CountsStill u (j :: ks) e x) : Counted u ks j m d x :=
  ⟨h.still.trans (g.subset (by simp)), (g.counts j (by simp)).trans h.count⟩

theorem incObj_counted (hj : j ∉ ks) (d : Device) : Counted u ks j 1 d (incObj j d) := ⟨incObj_still hj d, getObj_incObj_self j d⟩

/-- The failures of an operation's four planes. -/
theorem Counted.four {g : Device → Nat → Device} (hg : ∀ d p, Counted u ks j 1 d (g d p)) (d : Device) :
    Counted u ks j 4 d ([0, 1, 2, 3].foldl g d) where
  still := .foldl (fun d p => (hg d p).still) _ d
  count := by simp only [List.foldl_cons, List.foldl_nil, (hg _ _).count, Nat.mod_add_mod, Nat.add_assoc, Nat.reduceAdd]

theorem failKeys_apart (hc : c < 128) : Obj.eraseFailCount ∉ [Obj.channelOpTimeouts c, Obj.programFailCount] ∧
    Obj.programFailCount ∉ [Obj.channelOpTimeouts c, Obj.eraseFailCount] ∧ Obj.channelOpTimeouts c ∉ [Obj.programFailCount, Obj.eraseFailCount] := by
  simp only [Obj.channelOpTimeouts, Obj.programFailCount, Obj.eraseFailCount, objKey, List.mem_cons, List.not_mem_nil, or_false]
  refine ⟨by omega, by omega, by omega⟩

/-! ### An erase fails on its four planes -/

/-- A plane of an erase fails: its block is retired (R76). -/
def erasePlaneFails (blocks : List Nat) (d : Device) (p : Nat) : Device :=
  logRec Code.eraseFail [(blocks[p]?).getD 0, 0, 0x03] (incObj Obj.eraseFailCount (incObj Obj.blocksRetired
    (updBlock ((blocks[p]?).getD 0) (fun e => { e with state := 5, retireCause := 2 }) d)))

theorem erasePlaneFails_counted (hc : c < 128) (blocks : List Nat) (d : Device) (p : Nat) :
    Counted u [Obj.channelOpTimeouts c, Obj.programFailCount] Obj.eraseFailCount 1 d (erasePlaneFails blocks d p) := by
  have hks : Obj.eraseFailCount :: [Obj.channelOpTimeouts c, Obj.programFailCount] ⊆ failCounts c := by simp [failCounts]
  obtain ⟨hretired, -⟩ := retireKeys_notCounts hc
  exact ((incObj_counted (failKeys_apart hc).1 _).after ((updBlock_still _ _ d).trans (setObj_notCount hks hretired _ _))).before
    (record_still hks ..)

theorem eraseEnds_failed (hruns : eraseRuns n slot d = true) : eraseEnds n slot false [0, 1, 2, 3] d =
    formGroup n slot (updGroup n slot (fun g => { g with blocks := [], erasing := false })
      ([0, 1, 2, 3].foldl (erasePlaneFails (group n slot d).blocks) (endOp n d))) := by
  unfold eraseEnds
  have hkeep : ((List.range 4).filter fun p => !([0, 1, 2, 3] : List Nat).contains p) = [] := by decide
  rw [if_neg (by simp [hruns])]
  dsimp only
  rw [if_neg Bool.false_ne_true, if_neg (by simp), hkeep, List.foldl_nil]
  rfl

theorem eraseEnds_counted (hu : u < 4096) (hc : c < 128) (hruns : eraseRuns u slot d = true) (hheld : ChargeHeld u d) :
    Counted u [Obj.channelOpTimeouts c, Obj.programFailCount] Obj.eraseFailCount 4 d (eraseEnds u slot false [0, 1, 2, 3] d) ∧
    (die u (eraseEnds u slot false [0, 1, 2, 3] d)).op.kind = 0 := by
  have hks : Obj.eraseFailCount :: [Obj.channelOpTimeouts c, Obj.programFailCount] ⊆ failCounts c := by simp [failCounts]
  rw [eraseEnds_failed hruns]
  have hplanes := (Counted.four (u := u) (erasePlaneFails_counted hc (group u slot d).blocks) (endOp u d)).before
    (updGroup_still u slot (fun g => { g with blocks := [], erasing := false }) _)
  have hended : (die u (endOp u d)).op.kind = 0 := endOp_idle hks (.inr hheld)
  have hform := formGroup_still (u := u) hc hks hu slot (hplanes.still.idle hended)
  exact ⟨(hplanes.after (endOp_still hks (.inr hheld))).before hform, hform.idle (hplanes.still.idle hended)⟩

/-! ### A pass fails on its four planes -/

/-- A plane of a pass fails: its block is to be emptied and retired (R76). -/
def passPlaneFails (blocks : List Nat) (fine : Bool) (w : Nat) (d : Device) (p : Nat) : Device :=
  logRec Code.programFail [(blocks[p]?).getD 0, w, if fine then 2 else 1] (incObj Obj.programFailCount
    (updBlock ((blocks[p]?).getD 0) (fun e => { e with state := 4, retireCause := 1, scrubDue := 0xFFFFFFFF }) d))

theorem passPlaneFails_counted (hc : c < 128) (blocks : List Nat) (fine : Bool) (w : Nat) (d : Device) (p : Nat) :
    Counted u [Obj.channelOpTimeouts c, Obj.eraseFailCount] Obj.programFailCount 1 d (passPlaneFails blocks fine w d p) := by
  have hks : Obj.programFailCount :: [Obj.channelOpTimeouts c, Obj.eraseFailCount] ⊆ failCounts c := by simp [failCounts]
  exact ((incObj_counted (failKeys_apart hc).2.1 _).after (updBlock_still _ _ d)).before (record_still hks ..)

theorem closeBlocks_still (n : Nat) (blocks : List Nat) (d : Device) : CountsStill u ks d (closeBlocks n blocks d) :=
  .foldl (fun d b => updBlock_still b _ d) blocks d

theorem passFails_counted (hu : u < 4096) (hc : c < 128) (fine : Bool) (w : Nat) (hidle : (die u d).op.kind = 0) :
    Counted u [Obj.channelOpTimeouts c, Obj.eraseFailCount] Obj.programFailCount 4 d (passFails u slot fine w [0, 1, 2, 3] d) := by
  have hks : Obj.programFailCount :: [Obj.channelOpTimeouts c, Obj.eraseFailCount] ⊆ failCounts c := by simp [failCounts]
  obtain ⟨-, -, hcontinued⟩ := retireKeys_notCounts hc
  unfold passFails
  extract_lets g d1 st pos width role before row d2 d3 d4
  have h1 : Counted u [Obj.channelOpTimeouts c, Obj.eraseFailCount] Obj.programFailCount 4 d d1 :=
    Counted.four (passPlaneFails_counted hc g.blocks fine w) d
  have hidle1 := h1.still.idle hidle
  have h2 : CountsStill u (Obj.programFailCount :: [Obj.channelOpTimeouts c, Obj.eraseFailCount]) d1 d2 :=
    (closeBlocks_still u g.blocks d1).trans (.foldl (fun d b => updBlock_still b _ d) g.blocks _)
  have h3 : CountsStill u (Obj.programFailCount :: [Obj.channelOpTimeouts c, Obj.eraseFailCount]) d2 d3 := unplaceWhere_still _ d2
  have h4 : CountsStill u (Obj.programFailCount :: [Obj.channelOpTimeouts c, Obj.eraseFailCount]) d3 d4 := updGroup_still u slot _ d3
  have hdone := (((h2.trans h3).trans h4).trans (setObj_notCount hks hcontinued ((getObj Obj.continuationGroups d4 + 1) % objModulus Obj.continuationGroups) d4)).trans (record_still hks Code.memberContinued
    [g.stripe, if role = 1 then 0xFF else if role = 2 then 0xFE else before, row]
      (incObj Obj.continuationGroups d4))
  clear_value d4 d1
  exact .ite (h1.before (failDie_still hc hks hu 2 (.inl hidle1)))
    (h1.before (hdone.trans (formGroup_still hc hks hu slot (hdone.idle hidle1))))

/-- The pass that runs fails on its four planes. -/
theorem passEnds_failed {fine : Bool} {w : Nat} (hpass : nextPass (group n slot d) = some (fine, w)) (hruns : passRuns n slot d = true) :
    passEnds n slot false [0, 1, 2, 3] d = passFails n slot fine w [0, 1, 2, 3] (sendOnLink (0x10 + bankOfDie n) (endOp n d)) := by
  unfold passEnds
  dsimp only
  rw [hpass]
  dsimp only
  rw [if_neg (by simp [hruns]), if_neg Bool.false_ne_true, if_pos (by simp)]

theorem passEnds_counted (hu : u < 4096) (hc : c < 128) {fine : Bool} {w : Nat} (hpass : nextPass (group u slot d) = some (fine, w))
    (hruns : passRuns u slot d = true) (hheld : ChargeHeld u d) :
    Counted u [Obj.channelOpTimeouts c, Obj.eraseFailCount] Obj.programFailCount 4 d (passEnds u slot false [0, 1, 2, 3] d) ∧
    (die u (passEnds u slot false [0, 1, 2, 3] d)).op.kind = 0 := by
  have hks : Obj.programFailCount :: [Obj.channelOpTimeouts c, Obj.eraseFailCount] ⊆ failCounts c := by simp [failCounts]
  rw [passEnds_failed hpass hruns]
  have hended := (endOp_still (u := u) hks (.inr hheld)).trans (sendOnLink_still (0x10 + bankOfDie u) _)
  have hidle : (die u (sendOnLink (0x10 + bankOfDie u) (endOp u d))).op.kind = 0 :=
    (sendOnLink_still (ks := Obj.programFailCount :: [Obj.channelOpTimeouts c, Obj.eraseFailCount]) _ _).idle (endOp_idle hks (.inr hheld))
  have hfails := passFails_counted (slot := slot) hu hc fine w hidle
  exact ⟨hfails.after hended, hfails.still.idle hidle⟩

/-! ### The timeout is counted -/

theorem operationTimeout_counted (hu : u < 4096) (hc : channelOfDie u < 128) (func : Nat) (hidle : (die u d).op.kind = 0) :
    Counted u [Obj.programFailCount, Obj.eraseFailCount] (Obj.channelOpTimeouts (channelOfDie u)) 1 d (operationTimeout u func d) := by
  have hks : Obj.channelOpTimeouts (channelOfDie u) :: [Obj.programFailCount, Obj.eraseFailCount] ⊆ failCounts (channelOfDie u) := by
    simp [failCounts]
  have hcount := ((incObj_counted (u := u) (failKeys_apart hc).2.2 d).before (record_still hks Code.operationTimeout [u, func] _)).before
    (updDie_still (f := fun x => { x with timeouts := x.timeouts + 1 }) (fun _ h => h) u _)
  unfold operationTimeout
  exact .ite (hcount.before (failDie_still hc hks hu 1 (.inl (hcount.still.idle hidle)))) hcount

theorem startOp_medium (n : Nat) (d : Device) : MediumOnly d (startOp n d) ∧ (startOp n d).objs = d.objs := by
  unfold startOp
  dsimp only
  split
  · exact ⟨.refl d, rfl⟩
  split
  · exact ⟨.refl d, rfl⟩
  · have hupd : ∀ f : DieState → DieState, MediumOnly d (updDie n f d) := fun f => .of_eq rfl
    exact ⟨(hupd _).trans (requestTokens_acts ..).medium, objs_requestTokens ..⟩

/-! ### A timed-out operation -/

/-- The counts of an operation that has timed out (R64). -/
theorem opFails_counts {op func : Nat} (hu : u < 4096) (hc : channelOfDie u < 128) (hout : opOutstanding u slot op d = true)
    (hgroup : op = 4 ∧ (group u slot d).erasing = true ∨ op ∈ [2, 3] ∧ (nextPass (group u slot d)).isSome = true)
    (hheld : ChargeHeld u d) (hflight : d.media.flight = []) :
    getObj (Obj.channelOpTimeouts (channelOfDie u)) (opFails u slot op func d) =
      (getObj (Obj.channelOpTimeouts (channelOfDie u)) d + 1) % objModulus (Obj.channelOpTimeouts (channelOfDie u)) ∧
    (op ≠ 4 → getObj Obj.programFailCount (opFails u slot op func d) = (getObj Obj.programFailCount d + 4) % objModulus Obj.programFailCount) ∧
    (op = 4 → getObj Obj.eraseFailCount (opFails u slot op func d) = (getObj Obj.eraseFailCount d + 4) % objModulus Obj.eraseFailCount) ∧
    MediumOnly d (opFails u slot op func d) := by
  simp only [opOutstanding, Bool.and_eq_true, decide_eq_true_eq, Bool.not_eq_true'] at hout
  obtain ⟨⟨⟨hruns, hkind⟩, hslot⟩, -⟩ := hout
  unfold opFails
  rcases hgroup with ⟨rfl, herasing⟩ | ⟨hop, hpass⟩
  · rw [if_pos rfl]
    obtain ⟨herase, hidle⟩ := eraseEnds_counted (slot := slot) hu hc (by simp [eraseRuns, herasing, hruns, hkind, hslot]) hheld
    have htime := operationTimeout_counted hu hc func hidle
    refine ⟨?_, fun h => absurd rfl h, fun _ => (htime.still.counts _ (by simp)).trans herase.count, herase.still.medium.trans htime.still.medium⟩
    rw [htime.count, herase.still.counts _ (by simp)]
  · have hne : op ≠ 4 := by
      rintro rfl
      exact absurd hop (by decide)
    obtain ⟨⟨fine, w⟩, hnext⟩ := Option.isSome_iff_exists.mp hpass
    have hkinds : (die u d).op.kind = 2 ∨ (die u d).op.kind = 3 := by simpa [hkind] using hop
    obtain ⟨hprogram, hidle⟩ := passEnds_counted hu hc hnext (by simp [passRuns, hruns, hkinds, hslot]) hheld
    rw [if_neg hne, placeWaiting_of_none (hprogram.still.flight hflight)]
    have htime := operationTimeout_counted hu hc func hidle
    refine ⟨?_, fun _ => (htime.still.counts _ (by simp)).trans hprogram.count, fun h => absurd h hne,
      hprogram.still.medium.trans htime.still.medium⟩
    rw [htime.count, hprogram.still.counts _ (by simp)]

/-- The die asks for its next operation, which counts nothing. -/
theorem opFails_started {op func : Nat} (hu : u < 4096) (hc : channelOfDie u < 128) (hout : opOutstanding u slot op d = true)
    (hgroup : op = 4 ∧ (group u slot d).erasing = true ∨ op ∈ [2, 3] ∧ (nextPass (group u slot d)).isSome = true)
    (hheld : ChargeHeld u d) (hflight : d.media.flight = []) (he : e = startOp u (opFails u slot op func d)) :
    getObj (Obj.channelOpTimeouts (channelOfDie u)) e =
      (getObj (Obj.channelOpTimeouts (channelOfDie u)) d + 1) % objModulus (Obj.channelOpTimeouts (channelOfDie u)) ∧
    (op ≠ 4 → getObj Obj.programFailCount e = (getObj Obj.programFailCount d + 4) % objModulus Obj.programFailCount) ∧
    (op = 4 → getObj Obj.eraseFailCount e = (getObj Obj.eraseFailCount d + 4) % objModulus Obj.eraseFailCount) ∧ MediumOnly d e := by
  obtain ⟨htime, hprogram, herase, hmedium⟩ := opFails_counts (func := func) hu hc hout hgroup hheld hflight
  obtain ⟨hstart, hobjs⟩ := startOp_medium u (opFails u slot op func d)
  rw [← he] at hstart hobjs
  exact ⟨(getObj_congr hobjs).trans htime, fun h => (getObj_congr hobjs).trans (hprogram h),
    fun h => (getObj_congr hobjs).trans (herase h), hmedium.trans hstart⟩

/-! ### A channel's dies found ready -/

/-- The LUN named has not timed out (R63). -/
def channelPolled (channel : Nat) (busy : List Nat) (d : Device) (n : Nat) : Device :=
  if channelOfDie n = channel && opRuns n d && !(die n d).op.suspended && !busy.contains n then foundReady n d else d

/-- A rising ready/busy line finds the die ready. -/
def FoundReady (channel : Nat) (busy : List Nat) (d : Device) (n : Nat) : Prop :=
  channelOfDie n = channel ∧ opRuns n d = true ∧ (die n d).op.suspended = false ∧ n ∉ busy

/-- Of the dies `ns` that are found ready the timeouts alone have changed. -/
structure DiesReady (channel : Nat) (busy ns : List Nat) (d e : Device) : Prop where
  parts : e = { d with media := { d.media with dies := e.media.dies } }
  ready : ∀ n ∈ ns, FoundReady channel busy d n → die n e = { die n d with timeouts := 0 }
  others : ∀ n, n ∉ ns ∨ ¬ FoundReady channel busy d n → die n e = die n d

variable {channel : Nat} {busy ns : List Nat}

theorem DiesReady.op (h : DiesReady channel busy ns d e) (n : Nat) : (die n e).op = (die n d).op := by
  by_cases hready : n ∈ ns ∧ FoundReady channel busy d n
  · rw [h.ready n hready.1 hready.2]
  · rw [h.others n (by rwa [not_and_or] at hready)]

theorem DiesReady.found (h : DiesReady channel busy ns d e) (n : Nat) : FoundReady channel busy e n ↔ FoundReady channel busy d n := by
  have hres : e.res = d.res := by rw [h.parts]
  unfold FoundReady Machine.opRuns
  rw [h.op, hres]

theorem channelPolled_of_found (h : FoundReady channel busy d n) : channelPolled channel busy d n = foundReady n d := by
  obtain ⟨hchannel, hruns, hgoes, hbusy⟩ := h
  exact if_pos (by simp [hchannel, hruns, hgoes, hbusy])

theorem channelPolled_of_not_found (h : ¬ FoundReady channel busy d n) : channelPolled channel busy d n = d :=
  if_neg fun hpolled => h (by simpa [FoundReady, and_assoc] using hpolled)

theorem channelPolled_ready (h : DiesReady channel busy ns d e) (n : Nat) : DiesReady channel busy (ns ++ [n]) d (channelPolled channel busy e n) := by
  by_cases hfound : FoundReady channel busy d n
  · rw [channelPolled_of_found ((h.found n).mpr hfound)]
    have hown : die n (foundReady n e) = { die n d with timeouts := 0 } := by
      refine (die_updDie_self ..).trans ?_
      by_cases hn : n ∈ ns
      · rw [h.ready n hn hfound]
      · rw [h.others n (.inl hn)]
    have hothers : ∀ k, k ≠ n → die k (foundReady n e) = die k e := fun k hk => (die_updDie k n _ e).trans (if_neg hk)
    constructor
    case parts =>
      have hstep : foundReady n e = { e with media := { e.media with dies := (foundReady n e).media.dies } } := rfl
      exact hstep.trans (congrArg (fun x : Device => { x with media := { x.media with dies := (foundReady n e).media.dies } }) h.parts)
    case ready =>
      intro k hk hready
      by_cases hkn : k = n
      · rw [hkn]
        exact hown
      · exact (hothers k hkn).trans (h.ready k (by simpa [hkn] using hk) hready)
    case others =>
      intro k hk
      have hkn : k ≠ n := by
        rintro rfl
        exact hk.elim (fun hmem => hmem (by simp)) (fun hnot => hnot hfound)
      exact (hothers k hkn).trans (h.others k (hk.imp_left fun hmem hin => hmem (List.mem_append_left _ hin)))
  · rw [channelPolled_of_not_found fun hp => hfound ((h.found n).mp hp)]
    refine ⟨h.parts, fun k hk hready => ?_, fun k hk => ?_⟩
    · have hkn : k ≠ n := fun heq => hfound (heq ▸ hready)
      exact h.ready k (by simpa [hkn] using hk) hready
    · exact h.others k (hk.imp_left fun hmem hin => hmem (List.mem_append_left _ hin))

theorem channelPolled_fold (ms : List Nat) : ∀ {ns : List Nat} {e : Device}, DiesReady channel busy ns d e →
    DiesReady channel busy (ns ++ ms) d (ms.foldl (channelPolled channel busy) e) := by
  induction ms with
  | nil => exact fun h => by rwa [List.append_nil]
  | cons n ms ih =>
    intro ns e h
    have hnext := ih (channelPolled_ready h n)
    rwa [List.append_assoc] at hnext

/-- A die that is not listed runs no operation. -/
theorem listed_of_opRuns (h : opRuns n d = true) : n ∈ d.media.dies.map (·.1) := by
  by_contra hnot
  have hdie : die n d = {} := smGet_of_entries (p := fun x => x = ({} : DieState)) rfl fun e he hk =>
    absurd (List.mem_map.mpr ⟨e, he, hk⟩) hnot
  unfold opRuns at h
  rw [hdie] at h
  exact Bool.false_ne_true h

theorem pollChannel_eq (channel : Nat) (busy : List Nat) (d : Device) :
    pollChannel channel busy d = (d.media.dies.map (·.1)).foldl (channelPolled channel busy) d := rfl

theorem pollChannel_ready (channel : Nat) (busy : List Nat) (d : Device) : (∀ n, die n (pollChannel channel busy d) =
      if channelOfDie n = channel ∧ opRuns n d = true ∧ (die n d).op.suspended = false ∧ n ∉ busy then { die n d with timeouts := 0 } else die n d) ∧
    pollChannel channel busy d = { d with media := { d.media with dies := (pollChannel channel busy d).media.dies } } := by
  have hnone : DiesReady channel busy [] d d := ⟨rfl, fun _ hn => absurd hn List.not_mem_nil, fun _ _ => rfl⟩
  have h : DiesReady channel busy (d.media.dies.map (·.1)) d (pollChannel channel busy d) := by
    rw [pollChannel_eq]
    exact channelPolled_fold (d.media.dies.map (·.1)) hnone
  refine ⟨fun n => ?_, h.parts⟩
  split
  · rename_i hready
    exact h.ready n (listed_of_opRuns hready.2.1) hready
  · rename_i hready
    exact h.others n (.inr hready)

end Sys2Proof.Machine

section
open Sys2Proof Sys2Proof.Machine

/-- Settles O29: status polls and suspensions change their die, a calibration its channel, and a timeout counts itself and four failures. -/
theorem dieStatusIsFollowed : Obligations.DieStatusIsFollowed := by
  unfold Obligations.DieStatusIsFollowed
  refine ⟨?_, ?_, ?_, ?_, ?_, ?_, ?_⟩
  case refine_1 =>
    intro s channel busy
    exact Does.of_runDev _ rfl (pollChannel_ready channel.val busy s.dev)
  case refine_2 =>
    intro s n slot op us hchannel hout hgoes
    refine Does.of_runDev _ rfl ?_
    unfold poll
    rw [if_neg (by simp [hchannel, hout, hgoes]), if_pos (by decide : (!false) = true)]
    exact ⟨die_updDie_self .., fun k hk => (die_updDie k n.val _ s.dev).trans (if_neg hk), rfl⟩
  case refine_3 =>
    intro s n slot op us htime
    refine Does.of_runDev _ rfl ?_
    unfold poll
    rw [if_neg (by simp : ¬ (!true) = true), if_neg (by omega : ¬ 11 * opMax n.val op s.dev ≤ 10 * us), ite_self]
  case refine_4 =>
    intro s n slot c op us hc hchannel hout hgroup _ hheld hflight
    have hchannels : channelOfDie n.val < 128 := by
      have := n.isLt
      unfold channelOfDie
      omega
    rcases hc with ⟨rfl, htime, hgoes⟩ | ⟨rfl, hsuspended⟩
    · refine Does.of_runDev _ rfl ?_
      refine opFails_started (func := opFunction op) n.isLt hchannels hout hgroup hheld hflight ?_
      unfold poll
      rw [if_neg (by simp [hchannel, hout, hgoes]), if_neg (by simp), if_pos htime]
    · refine Does.of_runDev _ rfl ?_
      refine opFails_started (func := 0x13) n.isLt hchannels hout hgroup hheld hflight ?_
      unfold suspendFails
      rw [if_pos (by simp [hchannel, hout, hsuspended])]
  case refine_5 =>
    intro s n op hruns hkind hserves hgoes
    refine Does.of_runDev _ rfl ?_
    unfold suspendFor
    dsimp only
    rw [if_neg (by simp [hruns, hkind, hserves, hgoes]), ← apply_ite (bitOf (profileOf n.val s.dev).flags)]
    by_cases hpermits : bitOf (profileOf n.val s.dev).flags (if op = 4 then 1 else 2) = true ∧
      (die n.val s.dev).op.suspends < (profileOf n.val s.dev).suspendLimit
    · rw [if_pos (by simpa using hpermits), if_pos hpermits, die_updDie_self]
      exact ⟨rfl, rfl, fun k hk => (die_updDie k n.val _ s.dev).trans (if_neg hk), rfl⟩
    · rw [if_neg (by simpa using hpermits), if_neg hpermits, die_updDie_self]
      exact ⟨rfl, rfl, fun k hk => (die_updDie k n.val _ s.dev).trans (if_neg hk), rfl⟩
  case refine_6 =>
    intro s channel hchannel htime hfits
    refine Does.of_runDev _ rfl ?_
    unfold zqShort whileCharged
    rw [if_neg (by simp [hchannel, htime]), if_pos hfits]
    refine ⟨by simp [updChannel], fun k hk => ?_, rfl⟩
    simp [updChannel, smGet_smUpd, hk]
  case refine_7 =>
    intro s channel hchannel htime hfits
    refine Does.of_runDev _ rfl ?_
    unfold zqShort whileCharged
    rw [if_neg (by simp [hchannel, htime]), if_neg (by simp [hfits])]
    refine ⟨?_, rfl, fun l hl => ?_⟩
    · exact ledger_updLedger_self 1 _ s.dev
    · exact (ledger_updLedger l 1 _ s.dev).trans (if_neg (by simpa using hl))

end
end
